-- ==== Sys2Proof/Word.lean ====
section
/-! DEFINITION. The word and the byte of the hub's register and memory spaces (R25, R33). -/

namespace Sys2Proof

/-- A register or a memory word: 32 bits (R25). -/
abbrev Word := BitVec 32

/-- A memory byte. -/
abbrev Byte := BitVec 8

end Sys2Proof
end

