-- ==== Sys2Proof/Parts.lean ====
section
/-! DEFINITION. The parts commands are made of: who sends a bus access, what converters, stampers, copies and PLLs bring, how a link
frame arrived, a ring frame's routing, and what a memory training finds. -/

namespace Sys2Proof

/-- A requester of R26: the PCIe host, the serial management port, the management core. -/
inductive Src where
  | pcie
  | smp
  | core
  deriving DecidableEq, Repr

/-- BADACC_INFO.SRC of a requester (R26). -/
def Src.code : Src → Nat
  | .pcie => 1
  | .smp => 2
  | .core => 3

/-- What a conversion is made from (R79, R105): the levels its modulator emitted over the window, oldest first (`Fin 5`: 0 to 4 stand for
−2 to +2); or a steady input, as the voltage between the pins of the selected pair and that across the reference pair. With an internal
node selected (R82) the first voltage is what the analogue path adds to the node. Voltages are in units of 1/16 pV. -/
inductive ConvSrc where
  | samples (levels : List (Fin 5))
  | volts (vin vref : Int)
  deriving DecidableEq, Repr

/-- A steady input of a converter: the voltage between the pins of the selected pair and that across the reference pair, in units of 1/16 pV. -/
structure VoltIn where
  vin : Int
  vref : Int
  deriving DecidableEq, Repr

/-- An edge as a stamper brings it (R178): the 1 GHz sample before it, and the fine count in 2^-7 ns. -/
structure EdgeTs where
  coarse : Nat
  fine : Fin 128
  deriving DecidableEq, Repr

/-- A level change on an axis input: for how many samples the new level has stood (R55), and its stamp. -/
structure HeldEdge where
  held : Nat
  ts : EdgeTs
  deriving DecidableEq, Repr

/-- A Z edge of an axis with its stamp (R61). -/
structure ZEdge where
  axis : Fin 4
  ts : EdgeTs
  deriving DecidableEq, Repr

/-- What each control-core copy holds of one word (R401). -/
structure CopyWords where
  a : Word
  b : Word
  c : Word
  d : Word
  deriving DecidableEq, Repr

/-- A PLL's comparison with the reference (R411): its lock indicator, and its phase in ps on consecutive reference edges, the latest last. -/
structure PllCmp where
  lock : Bool
  edges : List Int
  deriving DecidableEq, Repr

/-- What a PRBS checker has received on a lane, the oldest bit in bit 0 (R348). -/
structure PrbsRx where
  lane : Fin 12
  bits : BitVec 95
  deriving DecidableEq, Repr

/-- How a frame arrived: the SEQ of its SOF; 0 whole, 3 with a data-block count that does not match LEN, 4 truncated (R360); SRC of its header where it
is of link scope (R359); and the CRC its EOF carries (R357). -/
structure UlkRx where
  seq : Nat
  err : Nat
  src : Nat
  crc : Word
  deriving DecidableEq, Repr

/-- A 66-bit block as a ULK lane's pins bring it (R334): the sync header, the 64 bits that follow with the first in bit 0, and the 58
scrambled bits received before them with the latest in the top bit. -/
structure LineBlk where
  hdr : BitVec 2
  bits : BitVec 64
  prev : BitVec 58
  deriving DecidableEq, Repr

/-- The routing of a received ring frame (R359). -/
structure RingHdr where
  dst : Nat
  src : Nat
  ttl : Nat
  wrap : Bool
  eseq : Nat
  deriving DecidableEq, Repr

/-- A window of delay settings: its first and last; empty where the first exceeds the last. -/
abbrev DrWin := Nat × Nat

/-- What a training finds (R304, R305): per rank (0, 1) and lane (0 to 4) the read and the write windows, rank by rank, the pattern
checks, and the VrefDQ value. -/
structure DrFound where
  rd : List DrWin
  wr : List DrWin
  pat0 : Bool
  pat1 : Bool
  vref : Nat
  deriving DecidableEq, Repr

end Sys2Proof
end

