-- ==== Sys2Proof/Syntax.lean ====
section
/-! DEFINITION. The commands of the hub: one constructor for each row of the command table, with what the outside world supplies. -/

namespace Sys2Proof

/-- A command (spec/opcode_table.json). -/
inductive Instr where
  /-- REGISTER_WRITE (R26). -/
  | registerWrite (src : Src) (addr : Word) (be : Fin 16) (val : Word)
  /-- PAGE_RST (R30). -/
  | pageRst (src : Src) (page : Fin 256)
  /-- PAGE_RESET_END (R30). -/
  | pageResetEnd (page : Fin 256)
  /-- PAGE_LOCK_WRITE (R28). -/
  | pageLockWrite (src : Src) (page : Fin 256) (val : Word)
  /-- EVT_STAT_CLEAR (R29). -/
  | evtStatClear (src : Src) (page : Fin 256) (val : Word)
  /-- EVT_FORCE (R29). -/
  | evtForce (src : Src) (page : Fin 256) (val : Word)
  /-- TBL_DATA_ACCESS (R33). -/
  | tblDataAccess (src : Src) (wr : Bool) (val : Word)
  /-- BAR2_WRITE (R32). -/
  | bar2Write (src : Src) (off : Nat) (bytes : List Byte)
  /-- CTX_COMMIT (R35). -/
  | ctxCommit (src : Src) (ctx : Fin 1024)
  /-- CTX_COMMIT_SAFE_POINT (R35). -/
  | ctxCommitSafePoint (ctx : Fin 1024)
  /-- CTX_COMMIT_DONE_POP (R37). -/
  | ctxCommitDonePop (src : Src)
  /-- MSI_EOI (R41). -/
  | msiEoi (src : Src) (vec : Fin 32)
  /-- MSIX_UNMASK (R41). -/
  | msixUnmask (src : Src) (vec : Fin 32)
  /-- ST_SEC_LO_READ (R44). -/
  | stSecLoRead (src : Src)
  /-- PPS_IN_EDGE (R194). -/
  | ppsInEdge (ts : EdgeTs)
  /-- TIME_FRAME_RX (R375). -/
  | timeFrameRx (link : Fin 8) (rx : UlkRx) (body : List Word) (ts : Nat)
  /-- PTP_OFS_AT_NS_WRITE (R399). -/
  | ptpOfsAtNsWrite (src : Src) (val : Word)
  /-- PTP_OFS_HI_WRITE (R400). -/
  | ptpOfsHiWrite (src : Src) (val : Word)
  /-- TB_SOURCE_LOST (R51). -/
  | tbSourceLost
  /-- TB_SRC_RETURN (R46). -/
  | tbSrcReturn
  /-- TB_HOLD_ON (R52). -/
  | tbHoldOn
  /-- TB_CTL_WRITE (R485). -/
  | tbCtlWrite (src : Src) (val : Word)
  /-- STEP_CMD_GO (R49). -/
  | stepCmdGo (src : Src) (absolute : Bool)
  /-- TB_STEP_DONE (R49). -/
  | tbStepDone
  /-- TB_LEAP (R54). -/
  | tbLeap
  /-- AX_CFG_ENABLE (R56). -/
  | axCfgEnable (src : Src) (axis : Fin 4) (val : Word)
  /-- AXIS_COUNT_EDGE (R55). -/
  | axisCountEdge (axis : Fin 4) (a : Bool) (b : Bool) (ts : HeldEdge)
  /-- AX_IDLE (R60). -/
  | axIdle (axis : Fin 4)
  /-- ENC_Z_EDGE (R61). -/
  | encZEdge (edge : ZEdge)
  /-- GRID_CMD_START (R65). -/
  | gridCmdStart (src : Src) (grid : Fin 64) (atSec : Bool)
  /-- GRID_CMD_STOP (R66). -/
  | gridCmdStop (src : Src) (grid : Fin 64)
  /-- GRID_INSTANT (R63). -/
  | gridInstant (grid : Fin 64)
  /-- SCHED_CTL_WRITE (R74). -/
  | schedCtlWrite (src : Src) (val : Word)
  /-- SAFETY (R68). -/
  | safety (entry : Fin 4096)
  /-- EXC_ON (R88). -/
  | excOn (entry : Fin 4096)
  /-- EXC_OFF (R88). -/
  | excOff (entry : Fin 4096)
  /-- EXC_REV (R88). -/
  | excRev (entry : Fin 4096)
  /-- VW_PLUCK (R195). -/
  | vwPluck (entry : Fin 4096)
  /-- MUX_STEP (R83). -/
  | muxStep (entry : Fin 4096)
  /-- CAL_SLOT (R114). -/
  | calSlot (entry : Fin 4096)
  /-- GRID_START (R65). -/
  | gridStart (entry : Fin 4096)
  /-- GRID_STOP (R66). -/
  | gridStop (entry : Fin 4096)
  /-- REC_OPEN (R247). -/
  | recOpen (entry : Fin 4096)
  /-- REC_CLOSE (R246). -/
  | recClose (entry : Fin 4096)
  /-- TIU_GATE (R185). -/
  | tiuGate (entry : Fin 4096)
  /-- PWR_HINT (R76). -/
  | pwrHint (entry : Fin 4096)
  /-- EVENT (R68). -/
  | event (entry : Fin 4096)
  /-- NEXT_EVT_UPDATE (R76). -/
  | nextEvtUpdate
  /-- SL_CMD_APPLY (R85). -/
  | slCmdApply (src : Src) (slice : Fin 64)
  /-- SL_APPLY_TAKE_EFFECT (R85). -/
  | slApplyTakeEffect (slice : Fin 64)
  /-- MT_CMD_APPLY (R85). -/
  | mtCmdApply (src : Src) (mitten : Fin 16)
  /-- MT_CMD_SWAP (R93). -/
  | mtCmdSwap (src : Src) (mitten : Fin 16)
  /-- EXC_CHANGE_APPLY (R88). -/
  | excChangeApply (slice : Fin 64)
  /-- EXC_MIN_PULSE_END (R89). -/
  | excMinPulseEnd (slice : Fin 64)
  /-- EXC_MAXW_EXPIRY (R89). -/
  | excMaxwExpiry (slice : Fin 64)
  /-- EXC_ILIM_TRIP (R90). -/
  | excIlimTrip (slice : Fin 64)
  /-- EXC_CTL_REARM (R90). -/
  | excCtlRearm (src : Src) (slice : Fin 64)
  /-- SLOT_SETTLE_END (R83). -/
  | slotSettleEnd (slice : Fin 64)
  /-- DECIMATOR_OUTPUT (R108). -/
  | decimatorOutput (slice : Fin 64) (index : Nat) (levels : List (Fin 5)) (steady : Option VoltIn)
  /-- SC_CONVERSION_DONE (R147). -/
  | scConversionDone (slice : Fin 64) (levels : List (Fin 5)) (steady : Option VoltIn)
  /-- OVL_COMPARATOR_RISE (R97). -/
  | ovlComparatorRise (slice : Fin 64)
  /-- MT_SRC_COMPLIANCE (R92). -/
  | mtSrcCompliance (mitten : Fin 16) (sourceB : Bool)
  /-- MT_TEMP_UPDATE (R96). -/
  | mtTempUpdate (mitten : Fin 16) (temp : Int)
  /-- OTP_DATA_READ (R111). -/
  | otpDataRead (src : Src)
  /-- CAL_MAX_AGE_EXPIRY (R113). -/
  | calMaxAgeExpiry (slice : Fin 64)
  /-- CAL_FORCE (R113). -/
  | calForce (src : Src) (hi : Bool) (val : Word)
  /-- CAL_RETRY (R114). -/
  | calRetry (slice : Fin 64)
  /-- CAL_DEFER_EXPIRED (R116). -/
  | calDeferExpired (slice : Fin 64)
  /-- CAL_START (R117). -/
  | calStart (slice : Fin 64)
  /-- CAL_END (R118). -/
  | calEnd (slice : Fin 64) (ofsTrials : Int) (gainTrials : Int) (gainMean : Int) (ofsMean : Int)
  /-- CONTEXT_OUTPUT (R164). -/
  | contextOutput (ctx : Fin 1024)
  /-- DETECTOR_OUTPUT (R150). -/
  | detectorOutput (ctx : Fin 1024)
  /-- SKEW_CMD_GO (R170). -/
  | skewCmdGo (src : Src) (found : List (Nat × Option Int))
  /-- SAT_SAMPLE_FRAME_RX (R384). -/
  | satSampleFrameRx (link : Fin 8) (rx : UlkRx) (body : List Word)
  /-- TI_EDGE (R178). -/
  | tiEdge (source : Fin 128) (ts : EdgeTs) (rising : Bool)
  /-- TIU_TIMEOUT (R189). -/
  | tiuTimeout (chan : Fin 16)
  /-- TIU_OVF (R189). -/
  | tiuOvf (chan : Fin 16)
  /-- TIU_WINDOW_CLOSE (R188). -/
  | tiuWindowClose (chan : Fin 16)
  /-- TI_RES_W0_READ (R192). -/
  | tiResW0Read (src : Src) (chan : Fin 16)
  /-- TI_CFG_WRITE (R192). -/
  | tiCfgWrite (src : Src) (chan : Fin 16) (val : Word)
  /-- REF10M_PRESENT (R193). -/
  | ref10mPresent
  /-- REF10M_LOST (R193). -/
  | ref10mLost
  /-- PPS_LOST (R194). -/
  | ppsLost
  /-- VW_DRIVE_START (R195). -/
  | vwDriveStart (chan : Fin 16)
  /-- VW_LEAVE_TIMEOUT (R195). -/
  | vwLeaveTimeout (chan : Fin 16)
  /-- VW_DRIVE_END (R196). -/
  | vwDriveEnd (chan : Fin 16)
  /-- VW_LISTEN_START (R196). -/
  | vwListenStart (chan : Fin 16)
  /-- VW_LISTEN_END (R196). -/
  | vwListenEnd (chan : Fin 16)
  /-- VW_FIT_DONE (R197). -/
  | vwFitDone (chan : Fin 16)
  /-- LOOP_INNER_CYCLE (R205). -/
  | loopInnerCycle (loop : Fin 16)
  /-- LP_CMD_OFF (R210). -/
  | lpCmdOff (src : Src) (loop : Fin 16)
  /-- LP_CMD_OPEN (R210). -/
  | lpCmdOpen (src : Src) (loop : Fin 16)
  /-- LP_CMD_CENTRE (R210). -/
  | lpCmdCentre (src : Src) (loop : Fin 16)
  /-- LP_CMD_FEEDBACK (R210). -/
  | lpCmdFeedback (src : Src) (loop : Fin 16)
  /-- LP_CMD_HOLD (R210). -/
  | lpCmdHold (src : Src) (loop : Fin 16)
  /-- LOOP_TAP_LOST (R221). -/
  | loopTapLost (loop : Fin 16)
  /-- LOOP_FD_FAULT (R209). -/
  | loopFdFault (loop : Fin 16)
  /-- LOOP_LEAVE_EXPIRY (R433). -/
  | loopLeaveExpiry (loop : Fin 16)
  /-- TRIG_CMD_ARM (R237). -/
  | trigCmdArm (src : Src) (unit : Fin 32)
  /-- TRIG_CMD_DISARM (R240). -/
  | trigCmdDisarm (src : Src) (unit : Fin 32)
  /-- TRIG_CMD_FIRE (R247). -/
  | trigCmdFire (src : Src) (unit : Fin 32)
  /-- TRIG_CMD_STOP (R246). -/
  | trigCmdStop (src : Src) (unit : Fin 32)
  /-- TRIG_DECIDE (R236). -/
  | trigDecide (unit : Fin 32)
  /-- TRIG_MERGE_CLOSE (R242). -/
  | trigMergeClose (unit : Fin 32)
  /-- FIRE_FRAME_RX (R242). -/
  | fireFrameRx (link : Fin 8) (rx : UlkRx) (hdr : RingHdr) (body : List Word)
  /-- ARM_FRAME_RX (R379). -/
  | armFrameRx (link : Fin 8) (rx : UlkRx) (hdr : RingHdr) (body : Word)
  /-- REC_MAXDUR_EXPIRY (R245). -/
  | recMaxdurExpiry (unit : Fin 32)
  /-- REC_CMD_FREE (R250). -/
  | recCmdFree (src : Src) (rec_ : Fin 256)
  /-- CMP_CFG_WRITE (R266). -/
  | cmpCfgWrite (src : Src) (val : Word)
  /-- CMP_BLOCK_START (R267). -/
  | cmpBlockStart (stream : Fin 128)
  /-- CMP_BLOCK_COMMIT (R267). -/
  | cmpBlockCommit (stream : Fin 128)
  /-- CMP_CMD_FLUSH (R269). -/
  | cmpCmdFlush (src : Src) (stream : Fin 128)
  /-- CMP_CMD_SAVE (R272). -/
  | cmpCmdSave (src : Src) (stream : Fin 128)
  /-- CMP_CMD_RESTORE (R273). -/
  | cmpCmdRestore (src : Src) (stream : Fin 128)
  /-- CMP_CMD_RESUME (R272). -/
  | cmpCmdResume (src : Src) (stream : Fin 128)
  /-- CMP_FLUSH_AGE (R269). -/
  | cmpFlushAge (stream : Fin 128)
  /-- QUE_CMD_START (R278). -/
  | queCmdStart (src : Src) (stream : Fin 128)
  /-- QUE_CMD_STOP (R279). -/
  | queCmdStop (src : Src) (stream : Fin 128)
  /-- QUE_CMD_DROP (R287). -/
  | queCmdDrop (src : Src) (stream : Fin 128)
  /-- QUE_CMD_REWIND (R288). -/
  | queCmdRewind (src : Src) (stream : Fin 128)
  /-- QUE_CMD_FREE (R279). -/
  | queCmdFree (src : Src) (stream : Fin 128)
  /-- PKT_AGE_EXPIRY (R282). -/
  | pktAgeExpiry (stream : Fin 128)
  /-- QUE_RD_READ (R284). -/
  | queRdRead (src : Src)
  /-- LEDGER_SECOND_WRITE (R295). -/
  | ledgerSecondWrite (stream : Fin 128)
  /-- STORE_PART_CMD_APPLY (R292). -/
  | storePartCmdApply (src : Src)
  /-- STORE_RD_DATA_READ (R293). -/
  | storeRdDataRead (src : Src)
  /-- STORE_XFER (R293). -/
  | storeXfer (src : Src) (link : Fin 8) (rec_ : Fin 256)
  /-- DR_CMD_TRAIN (R306). -/
  | drCmdTrain (src : Src)
  /-- DRAM_TRAIN (R304). -/
  | dramTrain (found : DrFound)
  /-- DRAM_TRAIN_RETRY (R304). -/
  | dramTrainRetry
  /-- DR_CMD_TRACK (R307). -/
  | drCmdTrack (src : Src)
  /-- DRAM_TRACK_ROUND (R307). -/
  | dramTrackRound (centres : List Nat)
  /-- DRAM_ZQCS (R307). -/
  | dramZqcs
  /-- DRAM_REFRESH (R314). -/
  | dramRefresh (rank : Fin 2)
  /-- DRAM_SCRUB (R317). -/
  | dramScrub (errs : List (Nat × Bool))
  /-- DRAM_PORT_REQUEST (R312). -/
  | dramPortRequest (port : Fin 4) (write : Bool) (addr : BitVec 34) (bytes : List Byte) (mask : Word) (errs : List (Nat × Bool))
  /-- DRAM_WRITE_DRAIN (R310). -/
  | dramWriteDrain
  /-- DRAM_SR_ENTER (R318). -/
  | dramSrEnter
  /-- DRAM_SR_EXIT (R318). -/
  | dramSrExit (centres : List Nat)
  /-- DMA_CTL_START (R325). -/
  | dmaCtlStart (src : Src) (chan : Fin 16)
  /-- DMA_CTL_PAUSE (R327). -/
  | dmaCtlPause (src : Src) (chan : Fin 16)
  /-- DMA_CTL_RESUME (R327). -/
  | dmaCtlResume (src : Src) (chan : Fin 16)
  /-- DMA_CTL_ABORT (R328). -/
  | dmaCtlAbort (src : Src) (chan : Fin 16)
  /-- DMA_BURST_READ (R323). -/
  | dmaBurstRead (chan : Fin 16)
  /-- DMA_READ_COMPLETE (R323). -/
  | dmaReadComplete (chan : Fin 16) (data : List Byte) (ok : Bool) (errs : List (Nat × Bool))
  /-- DMA_WRITE_ACK (R324). -/
  | dmaWriteAck (chan : Fin 16)
  /-- DMA_HOST_TIMEOUT (R330). -/
  | dmaHostTimeout (chan : Fin 16) (idle : Nat)
  /-- DMA_PAUSE_SLOW (R331). -/
  | dmaPauseSlow (dom : Fin 33)
  /-- PWR_DENIED_BUSY (R331). -/
  | pwrDeniedBusy (dom : Fin 33)
  /-- LN_CFG_WRITE (R354). -/
  | lnCfgWrite (src : Src) (lane : Fin 12) (val : Word)
  /-- LN_CTL_RETRAIN (R337). -/
  | lnCtlRetrain (src : Src) (lane : Fin 12)
  /-- LN_CTL_TX_SLEEP (R350). -/
  | lnCtlTxSleep (src : Src) (lane : Fin 12) (sleep : Bool)
  /-- LANE_PLL_LOCK (R337). -/
  | lanePllLock (lane : Fin 12)
  /-- LANE_BLOCK_LOCK (R335). -/
  | laneBlockLock (lane : Fin 12)
  /-- TRAIN_BLOCK_RX (R341). -/
  | trainBlockRx (lane : Fin 12) (blk : LineBlk) (ask : Fin 32) (askPreset : Fin 4)
  /-- LN_TRAIN_TIMEOUT (R342). -/
  | lnTrainTimeout (lane : Fin 12)
  /-- LANE_LOCK_LOSS (R343). -/
  | laneLockLoss (lane : Fin 12) (bad : Nat)
  /-- LANE_RELOCK_EXPIRY (R343). -/
  | laneRelockExpiry (lane : Fin 12)
  /-- LANE_LEAVE_RETRY (R338). -/
  | laneLeaveRetry (lane : Fin 12)
  /-- KEEPALIVE_TX (R344). -/
  | keepaliveTx (lane : Fin 12)
  /-- LANE_ADAPT_FREEZE (R344). -/
  | laneAdaptFreeze (lane : Fin 12)
  /-- SLEEP_BLOCK_RX (R350). -/
  | sleepBlockRx (lane : Fin 12)
  /-- LANE_TX_WAKE (R351). -/
  | laneTxWake (lane : Fin 12)
  /-- LN_VISOR_GO (R346). -/
  | lnVisorGo (src : Src) (lane : Fin 12) (val : Word)
  /-- LN_VISOR_DONE (R346). -/
  | lnVisorDone (lane : Fin 12) (errs : Nat)
  /-- LN_PRBS_INJ_ONE (R349). -/
  | lnPrbsInjOne (src : Src) (lane : Fin 12)
  /-- LN_PRBS_INJ_BURST (R349). -/
  | lnPrbsInjBurst (src : Src) (lane : Fin 12)
  /-- ULK_ACK_RX (R361). -/
  | ulkAckRx (link : Fin 8) (seq : Nat) (busy : Bool)
  /-- ULK_RESET_RX (R364). -/
  | ulkResetRx (link : Fin 8)
  /-- KEEPALIVE_RX (R363). -/
  | keepaliveRx (link : Fin 8) (seq : Nat) (busy : Bool) (valid : Bool)
  /-- REPLAY_REQ_RX (R362). -/
  | replayReqRx (link : Fin 8) (rx : UlkRx) (body : Word)
  /-- SAMPLE_FRAME_RX (R372). -/
  | sampleFrameRx (link : Fin 8) (rx : UlkRx) (hdr : RingHdr) (payload : List Byte)
  /-- RECORD_FRAME_RX (R372). -/
  | recordFrameRx (link : Fin 8) (rx : UlkRx) (hdr : RingHdr) (payload : List Byte)
  /-- NOTE_FRAME_RX (R372). -/
  | noteFrameRx (link : Fin 8) (rx : UlkRx) (hdr : RingHdr) (payload : List Byte)
  /-- MGMT_READ_RX (R387). -/
  | mgmtReadRx (link : Fin 8) (rx : UlkRx) (hdr : RingHdr) (tag : BitVec 16) (addr : Word)
  /-- MGMT_WRITE_RX (R387). -/
  | mgmtWriteRx (link : Fin 8) (rx : UlkRx) (hdr : RingHdr) (tag : BitVec 16) (addr : Word) (val : Word)
  /-- MGMT_RESPONSE_RX (R387). -/
  | mgmtResponseRx (link : Fin 8) (rx : UlkRx) (hdr : RingHdr) (body : List Word)
  /-- DESCRIPTION_RX (R382). -/
  | descriptionRx (link : Fin 8) (rx : UlkRx) (body : List Word)
  /-- TAP_REQ_RX (R386). -/
  | tapReqRx (link : Fin 8) (rx : UlkRx) (body : Word)
  /-- ULK_ACK_TIMEOUT (R362). -/
  | ulkAckTimeout (link : Fin 8)
  /-- ULK_REPLAY_BUDGET_EXPIRY (R364). -/
  | ulkReplayBudgetExpiry (link : Fin 8)
  /-- UNWRAP_DWELL_EXPIRY (R378). -/
  | unwrapDwellExpiry (link : Fin 8)
  /-- ULK_UNWRAP (R378). -/
  | ulkUnwrap (link : Fin 8)
  /-- STREAM_DELIVERY_TIMEOUT (R365). -/
  | streamDeliveryTimeout (link : Fin 8)
  /-- SAT_RESPONSE_TIMEOUT (R365). -/
  | satResponseTimeout (link : Fin 8)
  /-- SAMPLE_SILENCE_TIMEOUT (R365). -/
  | sampleSilenceTimeout (link : Fin 8) (chan : Fin 128)
  /-- MAILBOX_TIMEOUT (R365). -/
  | mailboxTimeout
  /-- TIME_FRAME_TX (R374). -/
  | timeFrameTx (link : Fin 8)
  /-- CROWN_ADVERT_EXPIRY (R373). -/
  | crownAdvertExpiry (link : Fin 8)
  /-- ULK_TAP_GO (R386). -/
  | ulkTapGo (src : Src) (link : Fin 8) (val : Word)
  /-- MB_CTL_GO (R387). -/
  | mbCtlGo (src : Src) (val : Word)
  /-- SAT_EN_WRITE (R383). -/
  | satEnWrite (src : Src) (link : Fin 8) (index : Fin 4) (val : Word)
  /-- ULK_RXQ_RD_WRITE (R372). -/
  | ulkRxqRdWrite (src : Src) (link : Fin 8) (val : Word)
  /-- ETH_LINK_CHANGE (R388). -/
  | ethLinkChange (port : Fin 2) (up : Bool) (speed : Fin 4) (anDone : Bool) (anFail : Bool) (sent : Nat)
  /-- ETH_FRAME_RX (R393). -/
  | ethFrameRx (port : Fin 2) (frame : List Byte) (fcs : Word) (ts : Nat)
  /-- ETH_TX_TAIL_WRITE (R392). -/
  | ethTxTailWrite (src : Src) (port : Fin 2) (val : Word)
  /-- ETH_RX_TAIL_WRITE (R392). -/
  | ethRxTailWrite (src : Src) (port : Fin 2) (val : Word)
  /-- ETH_FRAME_TX (R397). -/
  | ethFrameTx (port : Fin 2) (ts : Nat)
  /-- ETH_TXTS_W0_READ (R397). -/
  | ethTxtsW0Read (src : Src) (port : Fin 2)
  /-- TMR_SCRUB (R402). -/
  | tmrScrub (words : CopyWords)
  /-- TMR_OUTVOTE (R405). -/
  | tmrOutvote (output : Nat) (words : CopyWords)
  /-- TMR_ROTATION (R403). -/
  | tmrRotation
  /-- TMR_CMD_ROTATE (R403). -/
  | tmrCmdRotate (src : Src)
  /-- TMR_CMD_RESTORE (R407). -/
  | tmrCmdRestore (src : Src) (copy : Fin 4)
  /-- TMR_SELFTEST_DONE (R406). -/
  | tmrSelftestDone (copy : Fin 4) (pass : Bool)
  /-- PLL_FAIL (R411). -/
  | pllFail (pllB : Bool) (cmp : PllCmp) (phase : Int)
  /-- PLL_RETURN (R412). -/
  | pllReturn (phase : Int)
  /-- SRAM_SCRUB (R413). -/
  | sramScrub (err : Fin 3)
  /-- PWR_CMD_RUN (R420). -/
  | pwrCmdRun (src : Src)
  /-- PWR_CMD_TRIM (R420). -/
  | pwrCmdTrim (src : Src)
  /-- PWR_CMD_VIGIL (R421). -/
  | pwrCmdVigil (src : Src)
  /-- PWR_CMD_DORMANT (R425). -/
  | pwrCmdDormant (src : Src)
  /-- PWR_MOVE_DONE (R420). -/
  | pwrMoveDone
  /-- PWR_AUTO_CHOICE (R417). -/
  | pwrAutoChoice (coreWait : Bool) (hostL0 : Bool)
  /-- PWR_DOM_CTL_WRITE (R418). -/
  | pwrDomCtlWrite (src : Src) (dom : Fin 33) (req : Fin 4)
  /-- PWR_WAIT_TIMEOUT (R418). -/
  | pwrWaitTimeout (dom : Fin 33)
  /-- PWR_DOMAIN_UP (R416). -/
  | pwrDomainUp (dom : Fin 33)
  /-- BGT_REQUEST (R428). -/
  | bgtRequest (kind : Fin 8) (req : Nat) (mw : Nat) (dur : Option Nat) (wait : Option Nat)
  /-- BGT_TICK (R429). -/
  | bgtTick
  /-- BGT_OVERRUN (R433). -/
  | bgtOverrun (kind : Fin 8) (req : Nat)
  /-- BGT_CMD_RESERVE (R433). -/
  | bgtCmdReserve (src : Src)
  /-- BGT_CMD_RELEASE (R433). -/
  | bgtCmdRelease (src : Src)
  /-- POR_N (R435). -/
  | porN
  /-- RST_N (R441). -/
  | rstN
  /-- SYS_RESET (R441). -/
  | sysReset (src : Src)
  /-- SYS_START_GO (R437). -/
  | sysStartGo (src : Src)
  /-- START_LANE_TIMEOUT (R436). -/
  | startLaneTimeout
  /-- START_TIME_TIMEOUT (R436). -/
  | startTimeTimeout
  /-- MGMT_CTL_RESET (R440). -/
  | mgmtCtlReset (src : Src)
  /-- ATT_CMD_EXTEND (R442). -/
  | attCmdExtend (src : Src) (index : Fin 8)
  /-- ATT_CMD_QUOTE (R443). -/
  | attCmdQuote (src : Src)
  /-- ATT_QUOTE_DONE (R445). -/
  | attQuoteDone
  /-- PCIE_HOT_RESET (R449). -/
  | pcieHotReset (kind : Fin 3)
  /-- PCIE_LINK_CHANGE (R449). -/
  | pcieLinkChange (up : Bool) (width : Fin 3)
  /-- PCIE_CONFIG_REQUEST (R446). -/
  | pcieConfigRequest (wr : Bool) (addr : BitVec 12) (be : Fin 16) (val : Word)
  /-- SMP_READ (R450). -/
  | smpRead (op : Fin 256) (addr : BitVec 24) (nm1 : Fin 256) (crc : Fin 65536)
  /-- SMP_WRITE (R450). -/
  | smpWrite (op : Fin 256) (addr : BitVec 24) (data : List Word) (crc : Fin 65536)
  /-- SMP_FIXED_READ (R450). -/
  | smpFixedRead (op : Fin 256) (addr : BitVec 24) (nm1 : Fin 256) (crc : Fin 65536)
  /-- SMP_STREAM_READ (R450). -/
  | smpStreamRead (op : Fin 256) (addr : BitVec 24) (nm1 : Fin 256) (crc : Fin 65536)
  /-- SMP_FRAME_ERR (R451). -/
  | smpFrameErr
  /-- QSPI_CMD_GO (R452). -/
  | qspiCmdGo (src : Src) (val : Word) (back : List Byte)
  /-- MTIME_COMPARE (R453). -/
  | mtimeCompare
  /-- VDD_CORE_LOW (R463). -/
  | vddCoreLow
  /-- AVDD_LOW (R464). -/
  | avddLow
  /-- AVDD_LOW_CLEAR (R464). -/
  | avddLowClear
  /-- PPS_OUT_PULSE (R471). -/
  | ppsOutPulse
  /-- PPS_OUT_PULSE_END (R471). -/
  | ppsOutPulseEnd
  /-- VDD_CORE_IN_RANGE (R463). -/
  | vddCoreInRange
  /-- EXC_LOW (R464). -/
  | excLow (low : Bool)
  /-- MITT_REFERENCE_SETTLED (R113). -/
  | mittReferenceSettled (mitten : Fin 16)
  /-- OVL_COMPARATOR_FALL (R97). -/
  | ovlComparatorFall (slice : Fin 64)
  /-- TRIG_SLOT_SILENCE (R236). -/
  | trigSlotSilence (unit : Fin 32) (slot : Fin 8)
  /-- RX_SIGNAL_DETECT (R351). -/
  | rxSignalDetect (lane : Fin 12)
  /-- RX_CONVERGED (R342). -/
  | rxConverged (lane : Fin 12)
  /-- PRBS_CHECKER_LOCK (R348). -/
  | prbsCheckerLock (rx : PrbsRx)
  /-- PRBS_CHECKER_LOSS (R348). -/
  | prbsCheckerLoss (lane : Fin 12) (errs : Nat)
  deriving DecidableEq, Repr

end Sys2Proof
end

