-- ==== Sys2Proof/Machine/Bits.lean ====
section
/-! DEFINITION. Fields of words, two's complement readings, rounding and saturation as the spec's chapters use them. -/

namespace Sys2Proof.Machine

/-- Bits `hi` down to `lo` of a natural number, as the register tables number them. -/
def nfld (n hi lo : Nat) : Nat := (n >>> lo) % 2 ^ (hi + 1 - lo)

/-- The field `[hi:lo]` of a word. -/
def fld (w : Word) (hi lo : Nat) : Nat := nfld w.toNat hi lo

/-- One bit of a word. -/
def bit (w : Word) (b : Nat) : Bool := w.toNat.testBit b

/-- The word whose field `[hi:lo]` is `v` (cut to the field) and whose other bits are 0. -/
def place (hi lo v : Nat) : Word := BitVec.ofNat 32 ((v % 2 ^ (hi + 1 - lo)) <<< lo)

/-- One bit as a word. -/
def placeBit (b : Nat) (v : Bool) : Word := if v then BitVec.ofNat 32 (2 ^ b) else 0

/-- A word of a natural number, cut to 32 bits. -/
def word (n : Nat) : Word := BitVec.ofNat 32 n

/-- `n` read as a `w`-bit two's complement number. -/
def sgn (w n : Nat) : Int := if n % 2 ^ w < 2 ^ (w - 1) then (n % 2 ^ w : Nat) else ((n % 2 ^ w : Nat) : Int) - 2 ^ w

/-- The `w`-bit two's complement code of an integer. -/
def unsgn (w : Nat) (i : Int) : Nat := (i % (2 ^ w : Int)).toNat

/-- A signed field of a word. -/
def sfld (w : Word) (hi lo : Nat) : Int := sgn (hi + 1 - lo) (fld w hi lo)

/-- An integer as a 32-bit two's complement word. -/
def iword (i : Int) : Word := BitVec.ofInt 32 i

/-- Clamp to `[lo, hi]`. -/
def clampI (lo hi x : Int) : Int := if x < lo then lo else if hi < x then hi else x

/-- Saturate to a signed field of `w` bits. -/
def satS (w : Nat) (x : Int) : Int := clampI (-(2 ^ (w - 1))) (2 ^ (w - 1) - 1) x

/-- Saturate to an unsigned field of `w` bits. -/
def satU (w n : Nat) : Nat := min n (2 ^ w - 1)

/-- Round `x / d` to the nearest integer, halves away from zero (`d > 0`). -/
def rdivAway (x : Int) (d : Nat) : Int :=
  if 0 ≤ x then (2 * x + d) / (2 * d) else -((2 * (-x) + d) / (2 * d))

/-- Round `x / 2^k` to the nearest integer, halves away from zero. -/
def rshAway (x : Int) (k : Nat) : Int := rdivAway x (2 ^ k)

/-- A saturating 16-bit (or `w`-bit) counter's next value. -/
def satInc (w n : Nat) : Nat := if n + 1 < 2 ^ w then n + 1 else 2 ^ w - 1

/-- The least `n` in `[0, b)` that meets `p`. -/
def findBelow (p : Nat → Bool) (b : Nat) : Option Nat := (List.range b).find? p

/-- Division rounding up. -/
def cdiv (a b : Nat) : Nat := if b = 0 then 0 else (a + b - 1) / b

end Sys2Proof.Machine
end

