-- ==== Sys2Proof/Machine/Crc.lean ====
section
/-! DEFINITION. The cyclic redundancy codes the spec names: CRC-32C of RFC 3720 (R265, R280, R294, R248), CRC-32 of IEEE 802.3 (R357) and the
CRC-16 of the serial management port (R450). -/

namespace Sys2Proof.Machine

/-- One bit step of the reflected CRC-32C register. -/
def crcStep (c : Nat) : Nat := if c % 2 = 1 then (c / 2) ^^^ 0x82F63B78 else c / 2

/-- One byte step of CRC-32C. -/
def crcByte (c b : Nat) : Nat :=
  crcStep (crcStep (crcStep (crcStep (crcStep (crcStep (crcStep (crcStep (c ^^^ b))))))))

/-- CRC-32C of a byte string. -/
def crc32c (bs : List Nat) : Word := word ((bs.foldl crcByte 0xFFFFFFFF) ^^^ 0xFFFFFFFF)

/-- The four bytes of a word in little-endian order. -/
def wordBytes (w : Word) : List Nat :=
  [w.toNat % 256, w.toNat / 2 ^ 8 % 256, w.toNat / 2 ^ 16 % 256, w.toNat / 2 ^ 24]

/-- CRC-32C of little-endian words. -/
def crcWords (ws : List Word) : Word := crc32c (ws.flatMap wordBytes)

/-- One bit step of the reflected CRC-32 of IEEE 802.3. -/
def crcEthStep (c : Nat) : Nat := if c % 2 = 1 then (c / 2) ^^^ 0xEDB88320 else c / 2

/-- One byte step of the CRC-32 of IEEE 802.3. -/
def crcEthByte (c b : Nat) : Nat :=
  crcEthStep (crcEthStep (crcEthStep (crcEthStep (crcEthStep (crcEthStep (crcEthStep (crcEthStep (c ^^^ b))))))))

/-- The frame check sequence of IEEE 802.3 of a byte string (R357). -/
def crc32 (bs : List Nat) : Word := word ((bs.foldl crcEthByte 0xFFFFFFFF) ^^^ 0xFFFFFFFF)

/-- One bit step of the CRC-16 with polynomial 0x1021. -/
def crc16Step (c : Nat) : Nat := if 2 ^ 15 ≤ c then (2 * c) % 2 ^ 16 ^^^ 0x1021 else 2 * c

/-- One byte step of the CRC-16. -/
def crc16Byte (c b : Nat) : Nat :=
  crc16Step (crc16Step (crc16Step (crc16Step (crc16Step (crc16Step (crc16Step (crc16Step (c ^^^ (b * 256)))))))))

/-- The CRC-16 of R450. -/
def crc16 (bs : List Nat) : Nat := bs.foldl crc16Byte 0xFFFF


end Sys2Proof.Machine
end

