-- ==== Sys2Proof/Config.lean ====
section
/-! DEFINITION. What an implementation fixes and the spec gives no number for: constants with no body, of which nothing can be
proved but what a statement assumes. -/

namespace Sys2Proof.Config

/-- A number the spec leaves open, one for each place in a run that asks for one (`State.freeCtr` counts the places). -/
opaque freeNat : Nat → Nat

/-- The half-band ROM word of a design and tap (R131, R490: the spec fixes its properties, not its words). -/
opaque hbRom : Nat → Nat → BitVec 24

/-- The mean modulator level that stands for full scale, less 1 and in units of 2^-24 level (R105 and R108 give the levels and the scale of the
result, not the modulator's own gain). -/
opaque modFull : Nat

/-- The resampler kernel ROM word of a phase and tap, read as an integer (R163: the spec fixes its properties, not its words). -/
opaque kernRom : Nat → Nat → BitVec 24

/-- The bytes of K_dev, the chip's 256-bit secret, in the order HMAC takes them (R445: each part's own, and no path reads it). -/
opaque kDev : Nat → BitVec 8

/-- What the external QSPI flash holds when the boot ROM runs for the n-th time (R438: the board's, not the hub's), by byte address. -/
opaque flash : Nat → Nat → BitVec 8

/-- The OTP trim words as fused, by word number (R109: each part's own). -/
opaque otp : Nat → BitVec 32

/-- The ECC verdict of an OTP word as read at loading (R111): 0 sound, 1 corrected, other uncorrectable. -/
opaque otpEcc : Nat → Nat

end Sys2Proof.Config
end

