-- ==== Sys2Proof/Machine/RegMap.lean ====
section
/-! DEFINITION. The register map: for every block page, the registers of the spec's register tables (R24, R27), one row a
register, written from those tables: offset, count and stride of like registers, words of each, the bits of each access
type, and the reset word. Reading and writing a register go through these rows (R26). -/

namespace Sys2Proof.Machine

/-- One register of a page, or `cnt` like registers at a stride, each `words` words long. -/
structure RegDef where
  off : Nat
  cnt : Nat
  stride : Nat
  words : Nat
  /-- bits of type RW -/
  rw : Nat
  /-- bits of type LK -/
  lk : Nat
  /-- bits of type W1C -/
  w1c : Nat
  /-- bits of type WO or W1S -/
  wo : Nat
  rst : Nat
  deriving DecidableEq, Repr

/-- The SYS page's registers from offset 0x100. -/
def regsSYS : List RegDef := [
  ⟨0x100, 1, 0x0, 1, 0x0, 0x0, 0x0, 0xFFFF, 0x0⟩,  -- SYS_RESET
  ⟨0x110, 1, 0x0, 1, 0x0, 0x0, 0x0, 0x0, 0x0⟩,  -- BADACC_ADDR
  ⟨0x114, 1, 0x0, 1, 0x0, 0x0, 0x0, 0x0, 0x0⟩,  -- BADACC_INFO
  ⟨0x120, 1, 0x0, 1, 0x7FFFC, 0x0, 0x0, 0x0, 0x0⟩,  -- TBL_ADDR
  ⟨0x124, 1, 0x0, 1, 0xFFFFFFFF, 0x0, 0x0, 0x0, 0x0⟩,  -- TBL_DATA
  ⟨0x128, 1, 0x0, 1, 0x1, 0x0, 0x0, 0x0, 0x1⟩,  -- BAR2_CFG
  ⟨0x130, 1, 0x0, 1, 0x0, 0x0, 0x0, 0x1, 0x0⟩,  -- SYS_START
  ⟨0x134, 1, 0x0, 1, 0xFFFFFFFF, 0x0, 0x0, 0x0, 0x7D0003C⟩,  -- SYS_START_WAIT
  ⟨0x138, 1, 0x0, 1, 0x0, 0x0, 0x0, 0x0, 0x0⟩,  -- SYS_START_STAT
  ⟨0x13C, 1, 0x0, 1, 0x0, 0x0, 0xF, 0x0, 0x0⟩,  -- SYS_RESET_CAUSE
  ⟨0x140, 1, 0x0, 1, 0xFFFFFFFF, 0x0, 0x0, 0x0, 0x0⟩,  -- SYS_AUTO_GRID_LO
  ⟨0x144, 1, 0x0, 1, 0xFFFFFFFF, 0x0, 0x0, 0x0, 0x0⟩,  -- SYS_AUTO_GRID_HI
  ⟨0x150, 1, 0x0, 1, 0x0, 0x0, 0x0, 0x0, 0x0⟩,  -- SYS_SUPPLY
  ⟨0x154, 1, 0x0, 1, 0xC000FFFF, 0x0, 0x0, 0x0, 0x80000064⟩,  -- SYS_PPS_OUT
  ⟨0x170, 4, 0x4, 1, 0xFFFFFFFF, 0x0, 0x0, 0x0, 0x0⟩  -- SYS_AUTO_STR
]

/-- The EVT page's registers from offset 0x100. -/
def regsEVT : List RegDef := [
  ⟨0x100, 8, 0x4, 1, 0x0, 0x0, 0x0, 0x0, 0x0⟩,  -- EV_GRP_STAT
  ⟨0x140, 1, 0x0, 1, 0xF, 0x0, 0x0, 0x0, 0xF⟩,  -- INT_CFG
  ⟨0x144, 1, 0x0, 1, 0x0, 0x0, 0x0, 0x1F, 0x0⟩,  -- MSI_EOI
  ⟨0x400, 256, 0x4, 1, 0x0, 0x13F07, 0x0, 0x0, 0x10000⟩  -- EV_ROUTE
]

/-- The PWR page's registers from offset 0x100. -/
def regsPWR : List RegDef := [
  ⟨0x100, 1, 0x0, 1, 0x110, 0x0, 0x0, 0x0, 0x100⟩,  -- PWR_CFG
  ⟨0x104, 1, 0x0, 1, 0xFFFFFFFF, 0x0, 0x0, 0x0, 0x640032⟩,  -- PWR_MARGIN
  ⟨0x108, 1, 0x0, 1, 0x0, 0x0, 0x0, 0x7, 0x0⟩,  -- PWR_CMD
  ⟨0x10C, 1, 0x0, 1, 0x0, 0x0, 0x0, 0x0, 0x0⟩,  -- PWR_STAT
  ⟨0x110, 1, 0x0, 1, 0xFFFF, 0x0, 0x0, 0x0, 0x3E8⟩,  -- PWR_WAIT
  ⟨0x140, 8, 0x4, 1, 0xFFFFFFFF, 0x0, 0x0, 0x0, 0x0⟩,  -- PWR_WAKE
  ⟨0x200, 33, 0x4, 1, 0x3, 0x0, 0x0, 0x0, 0x0⟩,  -- PWR_DOM_CTL
  ⟨0x300, 33, 0x4, 1, 0x0, 0x0, 0x0, 0x0, 0x0⟩  -- PWR_DOM_STAT
]

/-- The BGT page's registers from offset 0x100. -/
def regsBGT : List RegDef := [
  ⟨0x100, 1, 0x0, 1, 0x0, 0xFFFF, 0x0, 0x0, 0x258⟩,  -- BGT_BUDGET
  ⟨0x104, 1, 0x0, 1, 0x0, 0xFFFF, 0x0, 0x0, 0xA⟩,  -- BGT_STEP
  ⟨0x108, 1, 0x0, 1, 0x0, 0xFFFF, 0x0, 0x0, 0x2EE0⟩,  -- BGT_SUPPLY
  ⟨0x10C, 1, 0x0, 1, 0xFFFF, 0x0, 0x0, 0x0, 0x3E8⟩,  -- BGT_MAXWAIT
  ⟨0x110, 1, 0x0, 1, 0x0, 0x0, 0x0, 0x0, 0x0⟩,  -- BGT_USED
  ⟨0x114, 1, 0x0, 1, 0x0, 0x0, 0x0, 0x0, 0x0⟩,  -- BGT_QUEUE
  ⟨0x118, 1, 0x0, 1, 0x0, 0x0, 0x0, 0x0, 0x0⟩,  -- BGT_LAST
  ⟨0x11C, 1, 0x0, 1, 0xFFFF, 0x0, 0x0, 0x0, 0x0⟩,  -- BGT_EXC
  ⟨0x120, 1, 0x0, 1, 0x0, 0x0, 0x0, 0x3, 0x0⟩,  -- BGT_CMD
  ⟨0x124, 1, 0x0, 1, 0x0, 0x0, 0x0, 0x0, 0x0⟩  -- BGT_CNT
]

/-- The TMR page's registers from offset 0x100. -/
def regsTMR : List RegDef := [
  ⟨0x100, 1, 0x0, 1, 0x0, 0x0, 0x0, 0x0, 0x0⟩,  -- TMR_STAT
  ⟨0x104, 1, 0x0, 1, 0x0, 0x103FF, 0x0, 0x0, 0xA⟩,  -- TMR_CFG
  ⟨0x108, 1, 0x0, 1, 0x0, 0x0, 0x0, 0x37, 0x0⟩,  -- TMR_CMD
  ⟨0x110, 1, 0x0, 1, 0x0, 0x0, 0x0, 0x0, 0x0⟩,  -- TMR_LEVEL_SEC
  ⟨0x114, 1, 0x0, 1, 0x0, 0x0, 0x0, 0x0, 0x0⟩,  -- TMR_LEVEL_NS
  ⟨0x120, 4, 0x20, 1, 0x0, 0x0, 0x0, 0x0, 0x0⟩,  -- TMR_CNT
  ⟨0x124, 4, 0x20, 1, 0x0, 0x0, 0x0, 0x0, 0x0⟩,  -- TMR_TEST
  ⟨0x128, 4, 0x20, 1, 0x0, 0x0, 0x0, 0x0, 0x0⟩,  -- TMR_FAIL
  ⟨0x12C, 4, 0x20, 1, 0x0, 0x0, 0x0, 0x0, 0x0⟩,  -- TMR_LAST_FAULT_SEC
  ⟨0x130, 4, 0x20, 1, 0x0, 0x0, 0x0, 0x0, 0x0⟩,  -- TMR_LAST_FAULT_NS
  ⟨0x134, 4, 0x20, 1, 0x0, 0x0, 0x0, 0x0, 0x0⟩,  -- TMR_LAST_TEST_SEC
  ⟨0x138, 4, 0x20, 1, 0x0, 0x0, 0x0, 0x0, 0x0⟩,  -- TMR_LAST_TEST_NS
  ⟨0x13C, 4, 0x20, 1, 0x0, 0x0, 0x0, 0x0, 0x0⟩,  -- TMR_SEATED_SEC
  ⟨0x1A0, 1, 0x0, 1, 0x0, 0x0, 0x0, 0x0, 0x0⟩,  -- PLL_STAT
  ⟨0x1A4, 1, 0x0, 1, 0x0, 0x0, 0x0, 0x0, 0x0⟩,  -- PLL_LAST_SEC
  ⟨0x1A8, 1, 0x0, 1, 0x0, 0x0, 0x0, 0x0, 0x0⟩,  -- PLL_LAST_NS
  ⟨0x1AC, 1, 0x0, 1, 0x0, 0x0, 0x0, 0x0, 0x0⟩,  -- PLL_PHASE
  ⟨0x1C0, 1, 0x0, 1, 0x0, 0x0, 0x0, 0x0, 0x0⟩,  -- SRAM_ECC
  ⟨0x1C4, 1, 0x0, 1, 0x0, 0x0, 0x80000000, 0x0, 0x0⟩,  -- SRAM_ECC_ADDR
  ⟨0x1C8, 1, 0x0, 1, 0xFFFF, 0x0, 0x0, 0x0, 0x190⟩,  -- SRAM_SCRUB
  ⟨0x1D0, 1, 0x0, 1, 0x0, 0x0, 0x0, 0x0, 0x0⟩  -- DR_ECC_COPY
]

/-- The ATT page's registers from offset 0x100. -/
def regsATT : List RegDef := [
  ⟨0x100, 1, 0x0, 1, 0x0, 0x0, 0x0, 0x307, 0x0⟩,  -- ATT_CMD
  ⟨0x104, 1, 0x0, 1, 0x0, 0x0, 0x0, 0x0, 0x0⟩,  -- ATT_STAT
  ⟨0x120, 8, 0x4, 1, 0xFFFFFFFF, 0x0, 0x0, 0x0, 0x0⟩,  -- ATT_NONCE
  ⟨0x140, 12, 0x4, 1, 0xFFFFFFFF, 0x0, 0x0, 0x0, 0x0⟩,  -- ATT_EXT
  ⟨0x170, 8, 0x4, 1, 0x0, 0x0, 0x0, 0x0, 0x0⟩,  -- ATT_EXT_CNT
  ⟨0x1A0, 12, 0x4, 1, 0x0, 0x0, 0x0, 0x0, 0x0⟩,  -- ATT_PUB_X
  ⟨0x1D0, 12, 0x4, 1, 0x0, 0x0, 0x0, 0x0, 0x0⟩,  -- ATT_PUB_Y
  ⟨0x200, 8, 0x40, 12, 0x0, 0x0, 0x0, 0x0, 0x0⟩,  -- MEAS
  ⟨0x400, 172, 0x4, 1, 0x0, 0x0, 0x0, 0x0, 0x0⟩  -- ATT_QUOTE
]

/-- The OTP page's registers from offset 0x100. -/
def regsOTP : List RegDef := [
  ⟨0x100, 1, 0x0, 1, 0x0, 0x0, 0x0, 0x0, 0x0⟩,  -- OTP_STAT
  ⟨0x104, 1, 0x0, 1, 0x3FFC, 0x0, 0x0, 0x0, 0x0⟩,  -- OTP_ADDR
  ⟨0x108, 1, 0x0, 1, 0x0, 0x0, 0x0, 0x0, 0x0⟩,  -- OTP_DATA
  ⟨0x110, 1, 0x0, 1, 0x0, 0x0, 0x0, 0x0, 0x0⟩,  -- OTP_BAD_LO
  ⟨0x114, 1, 0x0, 1, 0x0, 0x0, 0x0, 0x0, 0x0⟩,  -- OTP_BAD_HI
  ⟨0x118, 1, 0x0, 1, 0x0, 0xFFFFFFFF, 0x0, 0x0, 0x0⟩,  -- OTP_OVR_LO
  ⟨0x11C, 1, 0x0, 1, 0x0, 0xFFFFFFFF, 0x0, 0x0, 0x0⟩,  -- OTP_OVR_HI
  ⟨0x140, 12, 0x4, 1, 0x0, 0x0, 0x0, 0x0, 0x0⟩  -- OTP_DIGEST
]

/-- The MGMT page's registers from offset 0x100. -/
def regsMGMT : List RegDef := [
  ⟨0x100, 1, 0x0, 1, 0x1, 0x0, 0x0, 0x2, 0x0⟩,  -- MGMT_CTL
  ⟨0x104, 1, 0x0, 1, 0x0, 0x0, 0x0, 0x0, 0x0⟩,  -- MGMT_STAT
  ⟨0x108, 1, 0x0, 1, 0xF, 0x0, 0x0, 0x0, 0x0⟩,  -- MGMT_DR_WIN
  ⟨0x110, 1, 0x0, 1, 0x4F3FF1FF, 0x0, 0x0, 0x80000000, 0x0⟩,  -- QSPI_CMD
  ⟨0x114, 1, 0x0, 1, 0xFFFFFFFF, 0x0, 0x0, 0x0, 0x0⟩,  -- QSPI_ADDR
  ⟨0x118, 1, 0x0, 1, 0xFFFFFFFF, 0x0, 0x0, 0x0, 0x0⟩,  -- QSPI_DATA
  ⟨0x11C, 1, 0x0, 1, 0x0, 0x0, 0x0, 0x0, 0x0⟩  -- QSPI_STAT
]

/-- The TBASE page's registers from offset 0x100. -/
def regsTBASE : List RegDef := [
  ⟨0x100, 1, 0x0, 1, 0xF0F0177, 0x0, 0x0, 0x0, 0xA040100⟩,  -- TB_CTL
  ⟨0x104, 1, 0x0, 1, 0x0, 0x0, 0x0, 0x0, 0x0⟩,  -- TB_STAT
  ⟨0x110, 1, 0x0, 1, 0x0, 0x0, 0x0, 0x0, 0x0⟩,  -- ST_SEC_LO
  ⟨0x114, 1, 0x0, 1, 0x0, 0x0, 0x0, 0x0, 0x0⟩,  -- ST_SEC_HI
  ⟨0x118, 1, 0x0, 1, 0x0, 0x0, 0x0, 0x0, 0x0⟩,  -- ST_NS
  ⟨0x11C, 1, 0x0, 1, 0x0, 0x0, 0x0, 0x0, 0x0⟩,  -- ST_FRAC
  ⟨0x120, 1, 0x0, 1, 0x0, 0x0, 0x0, 0x0, 0x0⟩,  -- FREQ_LO
  ⟨0x124, 1, 0x0, 1, 0x0, 0x0, 0x0, 0x0, 0x0⟩,  -- FREQ_HI
  ⟨0x128, 1, 0x0, 1, 0x0, 0x0, 0x0, 0x0, 0x0⟩,  -- FREQ_AVG_LO
  ⟨0x12C, 1, 0x0, 1, 0x0, 0x0, 0x0, 0x0, 0x0⟩,  -- FREQ_AVG_HI
  ⟨0x130, 1, 0x0, 1, 0x0, 0x0, 0x0, 0x0, 0x0⟩,  -- TB_ERR
  ⟨0x134, 1, 0x0, 1, 0x0, 0x0, 0x0, 0x0, 0x0⟩,  -- HO_EST
  ⟨0x138, 1, 0x0, 1, 0xFFFFFFFF, 0x0, 0x0, 0x0, 0x64⟩,  -- HOLD_LIMIT
  ⟨0x13C, 1, 0x0, 1, 0xFFFFFFFF, 0x0, 0x0, 0x0, 0x3E8⟩,  -- HO_UNC
  ⟨0x140, 1, 0x0, 1, 0xFFFFFFFF, 0x0, 0x0, 0x0, 0x0⟩,  -- HO_AGING
  ⟨0x144, 1, 0x0, 1, 0xFFFFFFFF, 0x0, 0x0, 0x0, 0x3E8⟩,  -- STEP_THRESH
  ⟨0x148, 1, 0x0, 1, 0xFFFF, 0x0, 0x0, 0x0, 0xFA0⟩,  -- PTP_TIMEOUT
  ⟨0x150, 1, 0x0, 1, 0x0, 0x0, 0x0, 0xFFFFFFFF, 0x0⟩,  -- PTP_OFS_LO
  ⟨0x154, 1, 0x0, 1, 0x0, 0x0, 0x0, 0xFFFFFFFF, 0x0⟩,  -- PTP_OFS_HI
  ⟨0x158, 1, 0x0, 1, 0xFFFFFFFF, 0x0, 0x0, 0x0, 0x0⟩,  -- PTP_OFS_AT_SEC
  ⟨0x15C, 1, 0x0, 1, 0xBFFFFFFF, 0x0, 0x0, 0x0, 0x0⟩,  -- PTP_OFS_AT_NS
  ⟨0x160, 1, 0x0, 1, 0xFFFFFFFF, 0x0, 0x0, 0x0, 0x0⟩,  -- STEP_LO
  ⟨0x164, 1, 0x0, 1, 0xFFFFFFFF, 0x0, 0x0, 0x0, 0x0⟩,  -- STEP_HI
  ⟨0x168, 1, 0x0, 1, 0x2, 0x0, 0x0, 0x1, 0x0⟩,  -- STEP_CMD
  ⟨0x170, 1, 0x0, 1, 0xFFFF, 0x0, 0x0, 0x0, 0x0⟩,  -- UTC_OFFSET
  ⟨0x174, 1, 0x0, 1, 0x8000FFFF, 0x0, 0x0, 0x0, 0x0⟩,  -- LEAP_CFG
  ⟨0x178, 1, 0x0, 1, 0xFFFFFFFF, 0x0, 0x0, 0x0, 0x0⟩,  -- LEAP_SEC_LO
  ⟨0x17C, 1, 0x0, 1, 0xFFFFFFFF, 0x0, 0x0, 0x0, 0x0⟩,  -- LEAP_SEC_HI
  ⟨0x180, 1, 0x0, 1, 0x0, 0x0, 0x0, 0x0, 0x0⟩  -- PTP_STAT
]

/-- The SCHED page's registers from offset 0x100. -/
def regsSCHED : List RegDef := [
  ⟨0x100, 1, 0x0, 1, 0x0, 0x1, 0x0, 0x0, 0x1⟩,  -- SCHED_CTL
  ⟨0x104, 1, 0x0, 1, 0x0, 0x0, 0x0, 0x0, 0x0⟩,  -- SCHED_STAT
  ⟨0x200, 33, 0x4, 1, 0x0, 0x0, 0x0, 0x0, 0x0⟩  -- NEXT_EVT
]

/-- The AXIS page's registers from offset 0x100. -/
def regsAXIS : List RegDef := [
  ⟨0x100, 4, 0x40, 1, 0xFFFF000F, 0x0, 0x0, 0x0, 0x80F0000⟩,  -- AX_CFG
  ⟨0x104, 4, 0x40, 1, 0xFFFFFFFF, 0x0, 0x0, 0x0, 0x0⟩,  -- AX_INC_LO
  ⟨0x108, 4, 0x40, 1, 0xFFFF, 0x0, 0x0, 0x0, 0x0⟩,  -- AX_INC_HI
  ⟨0x10C, 4, 0x40, 1, 0xFFFFFFFF, 0x0, 0x0, 0x0, 0x0⟩,  -- AX_Z_ANGLE
  ⟨0x110, 4, 0x40, 1, 0x0, 0x0, 0x0, 0x0, 0x0⟩,  -- AX_POS_LO
  ⟨0x114, 4, 0x40, 1, 0x0, 0x0, 0x0, 0x0, 0x0⟩,  -- AX_POS_HI
  ⟨0x118, 4, 0x40, 1, 0x0, 0x0, 0x0, 0x0, 0x0⟩,  -- AX_MAX_LO
  ⟨0x11C, 4, 0x40, 1, 0x0, 0x0, 0x0, 0x0, 0x0⟩,  -- AX_MAX_HI
  ⟨0x120, 4, 0x40, 1, 0x0, 0x0, 0x0, 0x0, 0x0⟩,  -- AX_SPEED
  ⟨0x124, 4, 0x40, 1, 0xFFFF, 0x0, 0x0, 0x0, 0x32⟩,  -- AX_IDLE_TIME
  ⟨0x128, 4, 0x40, 1, 0xFFFFFFFF, 0x0, 0x0, 0x0, 0x0⟩,  -- AX_MAX_SPEED
  ⟨0x12C, 4, 0x40, 1, 0xFFFFFFFF, 0x0, 0x0, 0x0, 0x0⟩,  -- AX_PRESET_LO
  ⟨0x130, 4, 0x40, 1, 0xFFFFFFFF, 0x0, 0x0, 0x0, 0x0⟩,  -- AX_PRESET_HI
  ⟨0x134, 4, 0x40, 1, 0x0, 0x0, 0x0, 0x0, 0x0⟩,  -- AX_STAT
  ⟨0x138, 4, 0x40, 1, 0x0, 0x0, 0x0, 0x0, 0x0⟩,  -- AX_ZERR
  ⟨0x300, 1, 0x0, 1, 0x0, 0x0, 0x0, 0x3013F, 0x0⟩,  -- GRID_CMD
  ⟨0x304, 1, 0x0, 1, 0x0, 0x0, 0x0, 0x0, 0x0⟩,  -- GRID_RUN_LO
  ⟨0x308, 1, 0x0, 1, 0x0, 0x0, 0x0, 0x0, 0x0⟩,  -- GRID_RUN_HI
  ⟨0x310, 1, 0x0, 1, 0x3F, 0x0, 0x0, 0x0, 0x0⟩,  -- GRID_SEL
  ⟨0x314, 1, 0x0, 1, 0x0, 0x0, 0x0, 0x0, 0x0⟩,  -- GRID_IDX_LO
  ⟨0x318, 1, 0x0, 1, 0x0, 0x0, 0x0, 0x0, 0x0⟩,  -- GRID_IDX_HI
  ⟨0x31C, 1, 0x0, 1, 0x0, 0x0, 0x0, 0x0, 0x0⟩  -- GRID_REJ
]

/-- The TIU page's registers from offset 0x100. -/
def regsTIU : List RegDef := [
  ⟨0x100, 8, 0x4, 1, 0x333FF, 0x0, 0x0, 0x0, 0x28F⟩,  -- TI_IN
  ⟨0x140, 1, 0x0, 1, 0x0, 0x0, 0x0, 0x0, 0x0⟩,  -- TIU_PRES
  ⟨0x144, 1, 0x0, 1, 0x0, 0x0, 0x0, 0x0, 0x0⟩,  -- TIU_STAT
  ⟨0x200, 16, 0x40, 1, 0x1F7F7F1F, 0x0, 0x0, 0x0, 0x1000000⟩,  -- TI_CFG
  ⟨0x204, 16, 0x40, 1, 0xFFFFFF, 0x0, 0x0, 0x0, 0x3E8⟩,  -- TI_TMO
  ⟨0x208, 16, 0x40, 1, 0x0, 0x0, 0x0, 0x0, 0x0⟩,  -- TI_STAT
  ⟨0x20C, 16, 0x40, 1, 0x0, 0x0, 0x0, 0x0, 0x0⟩,  -- TI_CNT
  ⟨0x210, 16, 0x40, 1, 0x0, 0x0, 0x0, 0x0, 0x0⟩,  -- TI_RES_W0
  ⟨0x214, 16, 0x40, 1, 0x0, 0x0, 0x0, 0x0, 0x0⟩,  -- TI_RES_W1
  ⟨0x218, 16, 0x40, 1, 0x0, 0x0, 0x0, 0x0, 0x0⟩,  -- TI_RES_W2
  ⟨0x21C, 16, 0x40, 1, 0x0, 0x0, 0x0, 0x0, 0x0⟩,  -- TI_RES_W3
  ⟨0x220, 16, 0x40, 1, 0x0, 0x0, 0x0, 0x0, 0x0⟩,  -- TI_RES_W4
  ⟨0x224, 16, 0x40, 1, 0x0, 0x0, 0x0, 0x0, 0x0⟩,  -- TI_RES_W5
  ⟨0x228, 16, 0x40, 1, 0xFFFFFFFF, 0x0, 0x0, 0x0, 0x1F41014⟩,  -- VW_CFG
  ⟨0x22C, 16, 0x40, 1, 0xFFFF1FFF, 0x0, 0x0, 0x0, 0xC80040⟩,  -- VW_LIM
  ⟨0x230, 16, 0x40, 1, 0x17F, 0x0, 0x0, 0x0, 0x4⟩,  -- VW_AUX
  ⟨0x234, 16, 0x40, 1, 0xFFFFFFFF, 0x0, 0x0, 0x0, 0x64003C⟩  -- VW_LEAVE
]

/-- The CAL page's registers from offset 0x100. -/
def regsCAL : List RegDef := [
  ⟨0x100, 1, 0x0, 1, 0xFF00F2, 0x1, 0x0, 0x0, 0x1E0043⟩,  -- CAL_CFG
  ⟨0x104, 1, 0x0, 1, 0x3FF, 0x0, 0x0, 0x0, 0x32⟩,  -- CAL_THRESH
  ⟨0x108, 1, 0x0, 1, 0xFFFF, 0x0, 0x0, 0x0, 0x0⟩,  -- CAL_MAX_AGE
  ⟨0x10C, 1, 0x0, 1, 0xFFFF, 0x0, 0x0, 0x0, 0x8⟩,  -- CAL_LEAVE
  ⟨0x110, 1, 0x0, 1, 0x0, 0x0, 0x0, 0xFFFFFFFF, 0x0⟩,  -- CAL_FORCE_LO
  ⟨0x114, 1, 0x0, 1, 0x0, 0x0, 0x0, 0xFFFFFFFF, 0x0⟩,  -- CAL_FORCE_HI
  ⟨0x118, 1, 0x0, 1, 0x0, 0x0, 0x0, 0x0, 0x0⟩,  -- CAL_BUSY_LO
  ⟨0x11C, 1, 0x0, 1, 0x0, 0x0, 0x0, 0x0, 0x0⟩,  -- CAL_BUSY_HI
  ⟨0x120, 1, 0x0, 1, 0x0, 0x0, 0x0, 0x0, 0x0⟩,  -- CAL_LAST
  ⟨0x140, 1, 0x0, 1, 0x3F, 0x0, 0x0, 0x0, 0x0⟩,  -- CAL_SEL
  ⟨0x144, 1, 0x0, 1, 0x0, 0x0, 0x0, 0x0, 0x0⟩,  -- CAL_SL_STAT
  ⟨0x148, 1, 0x0, 1, 0x0, 0x0, 0x0, 0x0, 0x0⟩,  -- CAL_SL_TEMP
  ⟨0x14C, 1, 0x0, 1, 0x0, 0x0, 0x0, 0x0, 0x0⟩,  -- CAL_SL_SEC_LO
  ⟨0x150, 1, 0x0, 1, 0x0, 0x0, 0x0, 0x0, 0x0⟩,  -- CAL_SL_SEC_HI
  ⟨0x154, 1, 0x0, 1, 0x0, 0x0, 0x0, 0x0, 0x0⟩,  -- CAL_SL_TRIM
  ⟨0x158, 1, 0x0, 1, 0x0, 0x0, 0x0, 0x0, 0x0⟩,  -- CAL_SL_RESID
  ⟨0x15C, 1, 0x0, 1, 0x0, 0x0, 0x0, 0x0, 0x0⟩,  -- CAL_SL_DEFER
  ⟨0x160, 1, 0x0, 1, 0x0, 0x0, 0x0, 0x0, 0x0⟩  -- CAL_SL_COUNT
]

/-- The FENG page's registers from offset 0x100. -/
def regsFENG : List RegDef := [
  ⟨0x100, 1, 0x0, 1, 0x0, 0x0, 0x0, 0x3FF, 0x0⟩,  -- CTX_COMMIT
  ⟨0x104, 1, 0x0, 1, 0x0, 0x0, 0x20000000, 0x0, 0x0⟩,  -- CTX_COMMIT_DONE
  ⟨0x108, 2, 0x4, 1, 0x0, 0x0, 0x0, 0x0, 0x0⟩,  -- CTX_COMMIT_IDX
  ⟨0x110, 1, 0x0, 1, 0x3FF, 0x0, 0x0, 0x0, 0x0⟩,  -- CTX_QUERY
  ⟨0x114, 2, 0x4, 1, 0x0, 0x0, 0x0, 0x0, 0x0⟩,  -- CTX_QUERY_IDX
  ⟨0x120, 1, 0x0, 1, 0x0, 0x0, 0x0, 0x0, 0x0⟩,  -- FENG_LOAD
  ⟨0x124, 1, 0x0, 1, 0x0, 0xFFFFFFFF, 0x0, 0x0, 0xD59F80⟩,  -- FENG_LIMIT
  ⟨0x128, 1, 0x0, 1, 0x0, 0x0, 0x0, 0x0, 0x0⟩,  -- FENG_REJ
  ⟨0x130, 1, 0x0, 1, 0x0, 0x0, 0x0, 0x0, 0x0⟩,  -- CTX_SETTLE
  ⟨0x134, 1, 0x0, 1, 0x0, 0x0, 0x0, 0x0, 0x0⟩,  -- CTX_LOAD
  ⟨0x138, 1, 0x0, 1, 0x0, 0x0, 0x0, 0x0, 0x0⟩,  -- FENG_SAT_CNT
  ⟨0x13C, 1, 0x0, 1, 0x0, 0x0, 0x0, 0x0, 0x0⟩,  -- XFADE_STAT
  ⟨0x140, 1, 0x0, 1, 0x0, 0x0, 0x0, 0x0, 0x0⟩,  -- SC_RESTART_CNT
  ⟨0x150, 1, 0x0, 1, 0xFF, 0x0, 0x0, 0x0, 0x0⟩,  -- HB_ROM_ADDR
  ⟨0x154, 1, 0x0, 1, 0x0, 0x0, 0x0, 0x0, 0x0⟩  -- HB_ROM_DATA
]

/-- The GRID page's registers from offset 0x100. -/
def regsGRID : List RegDef := [
  ⟨0x100, 1, 0x0, 1, 0x0, 0x0, 0x0, 0x1, 0x0⟩,  -- SKEW_CMD
  ⟨0x104, 1, 0x0, 1, 0xF00FF, 0x0, 0x0, 0x0, 0x40⟩,  -- SKEW_CFG
  ⟨0x108, 1, 0x0, 1, 0xFFFF, 0x0, 0x0, 0x0, 0xFFFF⟩,  -- SKEW_MASK
  ⟨0x10C, 1, 0x0, 1, 0x0, 0x0, 0x0, 0x0, 0x0⟩,  -- SKEW_STAT
  ⟨0x110, 1, 0x0, 1, 0x3FF, 0x0, 0x0, 0x0, 0x0⟩,  -- ALIGN_SEL
  ⟨0x114, 1, 0x0, 1, 0x0, 0x0, 0x0, 0x0, 0x0⟩,  -- ALIGN_DELAY_LO
  ⟨0x118, 1, 0x0, 1, 0x0, 0x0, 0x0, 0x0, 0x0⟩,  -- ALIGN_DELAY_HI
  ⟨0x11C, 1, 0x0, 1, 0x0, 0x0, 0x0, 0x0, 0x0⟩,  -- ALIGN_LAT
  ⟨0x120, 1, 0x0, 1, 0x0, 0x0, 0x0, 0x0, 0x0⟩,  -- ALIAS_CNT
  ⟨0x124, 1, 0x0, 1, 0x0, 0x0, 0x0, 0x0, 0x0⟩,  -- RATE_FILL_CNT
  ⟨0x128, 1, 0x0, 1, 0x0, 0x0, 0x0, 0x0, 0x0⟩,  -- REMOTE_GAP_CNT
  ⟨0x130, 1, 0x0, 1, 0x1FFF, 0x0, 0x0, 0x0, 0x0⟩,  -- KERN_ADDR
  ⟨0x134, 1, 0x0, 1, 0x0, 0x0, 0x0, 0x0, 0x0⟩,  -- KERN_DATA
  ⟨0x200, 64, 0x4, 1, 0x0, 0xFFFF, 0x0, 0x0, 0x0⟩  -- SKEW
]

/-- The LOOP page's registers from offset 0x100. -/
def regsLOOP : List RegDef := [
  ⟨0x100, 16, 0x40, 1, 0x0, 0x0, 0x0, 0x7, 0x0⟩,  -- LP_CMD
  ⟨0x104, 16, 0x40, 1, 0x0, 0x0, 0x0, 0x0, 0x0⟩,  -- LP_STAT
  ⟨0x108, 16, 0x40, 1, 0x0, 0x0, 0xFFF, 0x0, 0x0⟩,  -- LP_FLAGS
  ⟨0x10C, 16, 0x40, 1, 0x0, 0x0, 0x0, 0x0, 0x0⟩,  -- LP_OUT
  ⟨0x110, 16, 0x40, 1, 0x0, 0x0, 0x0, 0x0, 0x0⟩,  -- LP_INTEG
  ⟨0x114, 16, 0x40, 1, 0x0, 0x0, 0x0, 0x0, 0x0⟩,  -- LP_SP
  ⟨0x118, 16, 0x40, 1, 0x0, 0x0, 0x0, 0x0, 0x0⟩,  -- LP_HO_DIFF
  ⟨0x11C, 16, 0x40, 1, 0x0, 0x0, 0x0, 0x0, 0x0⟩,  -- LP_CYCLES
  ⟨0x120, 16, 0x40, 1, 0x0, 0xFFFFF, 0x0, 0x0, 0x0⟩,  -- FD_SAFE
  ⟨0x124, 16, 0x40, 1, 0x0, 0xFFFFF, 0x0, 0x0, 0x7FFFF⟩,  -- FD_MAX
  ⟨0x128, 16, 0x40, 1, 0x0, 0xFFFFF, 0x0, 0x0, 0x80001⟩,  -- FD_MIN
  ⟨0x12C, 16, 0x40, 1, 0x0, 0x0, 0x0, 0x0, 0x0⟩,  -- LP_REJ
  ⟨0x130, 16, 0x40, 1, 0x0, 0x0, 0x0, 0x0, 0x0⟩  -- LP_OUTER
]

/-- The TRIG page's registers from offset 0x100. -/
def regsTRIG : List RegDef := [
  ⟨0x100, 1, 0x0, 1, 0x0, 0x0, 0x0, 0x7001F, 0x0⟩,  -- TRIG_CMD
  ⟨0x104, 1, 0x0, 1, 0x0, 0x0, 0x0, 0x0, 0x0⟩,  -- TRIG_ARMED
  ⟨0x108, 1, 0x0, 1, 0x0, 0x0, 0x0, 0x0, 0x0⟩,  -- TRIG_OPEN
  ⟨0x10C, 1, 0x0, 1, 0x0, 0x0, 0x0, 0x0, 0x0⟩,  -- TRIG_REJ
  ⟨0x110, 1, 0x0, 1, 0x1F, 0x0, 0x0, 0x0, 0x0⟩,  -- TRIG_SEL
  ⟨0x114, 1, 0x0, 1, 0x0, 0x0, 0x0, 0x0, 0x0⟩,  -- TRIG_NEED
  ⟨0x118, 1, 0x0, 1, 0x0, 0x0, 0x0, 0x0, 0x0⟩,  -- TRIG_UNIT_STAT
  ⟨0x11C, 1, 0x0, 1, 0x0, 0x0, 0x0, 0x0, 0x0⟩,  -- TRIG_LAST_SEC_LO
  ⟨0x120, 1, 0x0, 1, 0x0, 0x0, 0x0, 0x0, 0x0⟩,  -- TRIG_LAST_SEC_HI
  ⟨0x124, 1, 0x0, 1, 0x0, 0x0, 0x0, 0x0, 0x0⟩,  -- TRIG_LAST_NS
  ⟨0x128, 1, 0x0, 1, 0x0, 0x0, 0x0, 0x0, 0x0⟩,  -- TRIG_FIRE_RX
  ⟨0x130, 1, 0x0, 1, 0x0, 0x0, 0x0, 0x0, 0x0⟩,  -- BRIM_LAST
  ⟨0x400, 32, 0x4, 1, 0x0, 0x0, 0xFFFFFFFF, 0x0, 0x0⟩  -- BRIM_PEND
]

/-- The CAPT page's registers from offset 0x100. -/
def regsCAPT : List RegDef := [
  ⟨0x100, 1, 0x0, 1, 0x0, 0x0, 0x0, 0x0, 0x0⟩,  -- CAPT_FREE
  ⟨0x104, 1, 0x0, 1, 0x0, 0x0, 0x0, 0x0, 0x0⟩,  -- CAPT_CNT
  ⟨0x110, 1, 0x0, 1, 0xFF, 0x0, 0x0, 0x0, 0x0⟩,  -- REC_SEL
  ⟨0x114, 1, 0x0, 1, 0x0, 0x0, 0x0, 0x0, 0x0⟩,  -- REC_INFO
  ⟨0x118, 1, 0x0, 1, 0x0, 0x0, 0x0, 0x0, 0x0⟩,  -- REC_ADDR_LO
  ⟨0x11C, 1, 0x0, 1, 0x0, 0x0, 0x0, 0x0, 0x0⟩,  -- REC_ADDR_HI
  ⟨0x120, 1, 0x0, 1, 0x0, 0x0, 0x0, 0x0, 0x0⟩,  -- REC_LEN
  ⟨0x124, 1, 0x0, 1, 0x0, 0x0, 0x0, 0x3FF, 0x0⟩  -- REC_CMD
]

/-- The CMP page's registers from offset 0x100. -/
def regsCMP : List RegDef := [
  ⟨0x100, 1, 0x0, 1, 0x7F, 0x0, 0x0, 0x0, 0x0⟩,  -- CMP_SEL
  ⟨0x104, 1, 0x0, 1, 0x9FFFFFFF, 0x0, 0x0, 0x0, 0x4000000⟩,  -- CMP_CFG
  ⟨0x108, 1, 0x0, 1, 0xFF, 0x0, 0x0, 0x0, 0x10⟩,  -- CMP_ANCHOR
  ⟨0x10C, 1, 0x0, 1, 0x1F1F1F1F, 0x0, 0x0, 0x0, 0x0⟩,  -- CMP_PRED
  ⟨0x110, 1, 0x0, 1, 0x0, 0x0, 0x0, 0x0, 0x0⟩,  -- CMP_STAT
  ⟨0x114, 1, 0x0, 1, 0x0, 0x0, 0x0, 0x0, 0x0⟩,  -- CMP_INQ
  ⟨0x118, 1, 0x0, 1, 0x0, 0x0, 0x0, 0x0, 0x0⟩,  -- CMP_BLOCKS
  ⟨0x11C, 1, 0x0, 1, 0x0, 0x0, 0x0, 0x0, 0x0⟩,  -- CMP_RAW_CNT
  ⟨0x120, 1, 0x0, 1, 0x0, 0x0, 0x0, 0x0, 0x0⟩,  -- CMP_IN_LO
  ⟨0x124, 1, 0x0, 1, 0x0, 0x0, 0x0, 0x0, 0x0⟩,  -- CMP_IN_HI
  ⟨0x128, 1, 0x0, 1, 0x0, 0x0, 0x0, 0x0, 0x0⟩,  -- CMP_OUT_LO
  ⟨0x12C, 1, 0x0, 1, 0x0, 0x0, 0x0, 0x0, 0x0⟩,  -- CMP_OUT_HI
  ⟨0x130, 1, 0x0, 1, 0x0, 0x0, 0x0, 0x7007F, 0x0⟩,  -- CMP_CMD
  ⟨0x134, 1, 0x0, 1, 0x0, 0x0, 0x0, 0x0, 0x0⟩,  -- CMP_REJ
  ⟨0x138, 1, 0x0, 1, 0x0, 0x0, 0x0, 0x0, 0x0⟩,  -- CMP_SKIP
  ⟨0x13C, 1, 0x0, 1, 0x0, 0x0, 0x0, 0x0, 0x0⟩,  -- CMP_STATE_SRC
  ⟨0x140, 16, 0x4, 1, 0xFFFFFFFF, 0x0, 0x0, 0x0, 0x0⟩  -- CMP_STATE
]

/-- The QUE page's registers from offset 0x100. -/
def regsQUE : List RegDef := [
  ⟨0x100, 1, 0x0, 1, 0x7F, 0x0, 0x0, 0x0, 0x0⟩,  -- QUE_SEL
  ⟨0x104, 1, 0x0, 1, 0x0, 0x0, 0x0, 0x0, 0x0⟩,  -- QUE_STAT
  ⟨0x108, 1, 0x0, 1, 0x0, 0x0, 0x0, 0x0, 0x0⟩,  -- QUE_FILL
  ⟨0x10C, 1, 0x0, 1, 0x0, 0x0, 0x0, 0x0, 0x0⟩,  -- QUE_ROOM
  ⟨0x110, 1, 0x0, 1, 0xFFFFFFFF, 0x0, 0x0, 0x0, 0x0⟩,  -- QUE_REWIND_LO
  ⟨0x114, 1, 0x0, 1, 0xFFFFFFFF, 0x0, 0x0, 0x0, 0x0⟩,  -- QUE_REWIND_HI
  ⟨0x118, 1, 0x0, 1, 0x0, 0x0, 0x0, 0x0, 0x0⟩,  -- QUE_RD
  ⟨0x11C, 1, 0x0, 1, 0x0, 0x0, 0x0, 0x0, 0x0⟩,  -- QUE_RD_AVAIL
  ⟨0x120, 1, 0x0, 1, 0x0, 0x0, 0x0, 0x7007F, 0x0⟩,  -- QUE_CMD
  ⟨0x124, 1, 0x0, 1, 0x0, 0x0, 0x0, 0x0, 0x0⟩  -- QUE_REJ
]

/-- The STORE page's registers from offset 0x100. -/
def regsSTORE : List RegDef := [
  ⟨0x100, 1, 0x0, 1, 0xFFFFFF, 0x0, 0x0, 0x0, 0x0⟩,  -- STORE_LIVE_PAGES
  ⟨0x104, 1, 0x0, 1, 0xFFFFFF, 0x0, 0x0, 0x0, 0x0⟩,  -- STORE_REC_PAGES
  ⟨0x108, 1, 0x0, 1, 0xFFFFFF, 0x0, 0x0, 0x0, 0x0⟩,  -- STORE_LDG_PAGES
  ⟨0x10C, 1, 0x0, 1, 0x0, 0x0, 0x0, 0x1, 0x0⟩,  -- STORE_PART_CMD
  ⟨0x110, 1, 0x0, 1, 0x0, 0x0, 0x0, 0x0, 0x0⟩,  -- LG_WR
  ⟨0x114, 1, 0x0, 1, 0xFFFFFFFF, 0x0, 0x0, 0x0, 0x0⟩,  -- LG_RD
  ⟨0x118, 1, 0x0, 1, 0xFFFFFFFF, 0x0, 0x0, 0x0, 0x400⟩,  -- LG_LEVEL
  ⟨0x11C, 1, 0x0, 1, 0x0, 0x0, 0x0, 0x0, 0x0⟩,  -- LG_LOST
  ⟨0x120, 1, 0x0, 1, 0xFFFFFFFC, 0x0, 0x0, 0x0, 0x0⟩,  -- STORE_RD_ADDR_LO
  ⟨0x124, 1, 0x0, 1, 0x3, 0x0, 0x0, 0x0, 0x0⟩,  -- STORE_RD_ADDR_HI
  ⟨0x128, 1, 0x0, 1, 0x0, 0x0, 0x0, 0x0, 0x0⟩,  -- STORE_RD_DATA
  ⟨0x12C, 1, 0x0, 1, 0x0, 0x0, 0x0, 0x700FF, 0x0⟩,  -- STORE_XFER
  ⟨0x130, 1, 0x0, 1, 0x0, 0x0, 0x0, 0x0, 0x0⟩  -- LG_WR_OFS
]

/-- The DRAM page's registers from offset 0x100. -/
def regsDRAM : List RegDef := [
  ⟨0x100, 1, 0x0, 1, 0x0, 0x331, 0x0, 0x0, 0x311⟩,  -- DR_CFG
  ⟨0x104, 1, 0x0, 1, 0x0, 0x0, 0x0, 0x3, 0x0⟩,  -- DR_CMD
  ⟨0x108, 1, 0x0, 1, 0x0, 0x0, 0x0, 0x0, 0x0⟩,  -- DR_STAT
  ⟨0x10C, 1, 0x0, 1, 0x0, 0x0, 0x0, 0x0, 0x0⟩,  -- DR_CAP
  ⟨0x110, 1, 0x0, 1, 0x0, 0x1FFFFFFF, 0x0, 0x0, 0x80⟩,  -- DR_MAP_BG0
  ⟨0x114, 1, 0x0, 1, 0x0, 0x1FFFFFFF, 0x0, 0x0, 0x100⟩,  -- DR_MAP_BG1
  ⟨0x118, 1, 0x0, 1, 0x0, 0x1FFFFFFF, 0x0, 0x0, 0x200⟩,  -- DR_MAP_BA0
  ⟨0x11C, 1, 0x0, 1, 0x0, 0x1FFFFFFF, 0x0, 0x0, 0x400⟩,  -- DR_MAP_BA1
  ⟨0x120, 1, 0x0, 1, 0xFFFFFFFF, 0x0, 0x0, 0x0, 0x2040808⟩,  -- DR_PORT_WT
  ⟨0x124, 1, 0x0, 1, 0xFFFFFFFF, 0x0, 0x0, 0x0, 0x80002000⟩,  -- DR_PANIC
  ⟨0x128, 1, 0x0, 1, 0xFF, 0x0, 0x0, 0x0, 0x8⟩,  -- DR_THROTTLE
  ⟨0x12C, 1, 0x0, 1, 0x0, 0x0, 0x0, 0x0, 0x0⟩,  -- DR_P0_FILL
  ⟨0x130, 1, 0x0, 1, 0x100, 0x0, 0x0, 0x0, 0x0⟩,  -- DR_REF
  ⟨0x134, 1, 0x0, 1, 0x3F3F, 0x0, 0x0, 0x0, 0x1808⟩,  -- DR_WQ
  ⟨0x140, 7, 0x4, 1, 0x3FFFF, 0x0, 0x0, 0x0, 0x0⟩,  -- DR_MODE
  ⟨0x160, 1, 0x0, 1, 0xFFFFFFFF, 0x0, 0x0, 0x0, 0x100C1010⟩,  -- DR_TIM_0
  ⟨0x164, 1, 0x0, 1, 0xFFFFFFFF, 0x0, 0x0, 0x0, 0x27371209⟩,  -- DR_TIM_1
  ⟨0x168, 1, 0x0, 1, 0xFFFFFFFF, 0x0, 0x0, 0x0, 0x4061A06⟩,  -- DR_TIM_2
  ⟨0x16C, 1, 0x0, 1, 0xFFFFFFFF, 0x0, 0x0, 0x0, 0x30901A4⟩,  -- DR_TIM_3
  ⟨0x170, 1, 0x0, 1, 0xFFFFFFFF, 0x0, 0x0, 0x0, 0x249001B0⟩,  -- DR_TIM_4
  ⟨0x174, 1, 0x0, 1, 0xFFFFFFFF, 0x0, 0x0, 0x0, 0x3001808⟩,  -- DR_TIM_5
  ⟨0x180, 1, 0x0, 1, 0xFFFFFFFF, 0x0, 0x0, 0x0, 0x10080100⟩,  -- DR_TRAIN
  ⟨0x190, 5, 0x4, 1, 0x0, 0x0, 0x0, 0x0, 0x0⟩,  -- DR_LANE
  ⟨0x1B0, 1, 0x0, 1, 0x0, 0x0, 0x0, 0x0, 0x0⟩,  -- DR_ECC_STAT
  ⟨0x1B4, 1, 0x0, 1, 0x0, 0x0, 0x0, 0x0, 0x0⟩,  -- DR_ECC_ADDR_LO
  ⟨0x1B8, 1, 0x0, 1, 0x0, 0x0, 0x80000000, 0x0, 0x0⟩,  -- DR_ECC_ADDR_HI
  ⟨0x1BC, 1, 0x0, 1, 0xFFFF, 0x0, 0x0, 0x0, 0x32⟩,  -- DR_SCRUB
  ⟨0x1C0, 1, 0x0, 1, 0xFFFF, 0x0, 0x0, 0x0, 0x12C⟩  -- DR_LEAVE
]

/-- The DMA page's registers from offset 0x100. -/
def regsDMA : List RegDef := [
  ⟨0x100, 16, 0x40, 1, 0xFFFFFFFF, 0x0, 0x0, 0x0, 0x0⟩,  -- SRC_LO
  ⟨0x104, 16, 0x40, 1, 0xFFFFFFFF, 0x0, 0x0, 0x0, 0x0⟩,  -- SRC_HI
  ⟨0x108, 16, 0x40, 1, 0xFFFFFFFF, 0x0, 0x0, 0x0, 0x0⟩,  -- DST_LO
  ⟨0x10C, 16, 0x40, 1, 0xFFFFFFFF, 0x0, 0x0, 0x0, 0x0⟩,  -- DST_HI
  ⟨0x110, 16, 0x40, 1, 0xFFFFFFFF, 0x0, 0x0, 0x0, 0x0⟩,  -- COUNT
  ⟨0x114, 16, 0x40, 1, 0x1F770, 0x0, 0x0, 0xF, 0x10220⟩,  -- CTL
  ⟨0x118, 16, 0x40, 1, 0x0, 0x0, 0x0, 0x0, 0x0⟩,  -- STAT
  ⟨0x11C, 16, 0x40, 1, 0x0, 0x0, 0xFF, 0x0, 0x0⟩,  -- DMA_FLAGS
  ⟨0x500, 1, 0x0, 1, 0xFFFF, 0x0, 0x0, 0x0, 0xC8⟩,  -- DMA_TMO
  ⟨0x504, 1, 0x0, 1, 0x0, 0x0, 0x0, 0x0, 0x0⟩  -- DMA_ACTIVE
]

/-- The SMP page's registers from offset 0x100. -/
def regsSMP : List RegDef := [
  ⟨0x100, 1, 0x0, 1, 0x0, 0x0, 0x0, 0x0, 0x0⟩  -- SMP_STAT
]

/-- The PCIE page's registers from offset 0x100. -/
def regsPCIE : List RegDef := [
  ⟨0x100, 1, 0x0, 1, 0x0, 0x0, 0x0, 0x0, 0x0⟩,  -- PCIE_STAT
  ⟨0x104, 1, 0x0, 1, 0x0, 0xFFFFFFFF, 0x0, 0x0, 0x10241E9B⟩,  -- PCIE_SUBSYS
  ⟨0x800, 32, 0x10, 1, 0xFFFFFFFC, 0, 0, 0, 0⟩,  -- MSI-X table, message address low (R447)
  ⟨0x804, 32, 0x10, 2, 0xFFFFFFFF, 0, 0, 0, 0⟩,  -- MSI-X table, message address high and data
  ⟨0x80C, 32, 0x10, 1, 0x1, 0, 0, 0, 0x1⟩,  -- MSI-X table, vector control: bit 0 masks the vector, and a reset masks every vector (R449)
  ⟨0xC00, 2, 0x4, 1, 0, 0, 0, 0, 0⟩  -- MSI-X pending bits (R447)
]

/-- The ETH page's registers from offset 0x100. -/
def regsETH : List RegDef := [
  ⟨0x100, 1, 0x0, 1, 0x1113301, 0x0, 0x0, 0x0, 0x101100⟩,  -- ETH_CFG
  ⟨0x104, 1, 0x0, 1, 0x0, 0x0, 0x0, 0x0, 0x0⟩,  -- ETH_STAT
  ⟨0x108, 1, 0x0, 1, 0x0, 0xFFFFFFFF, 0x0, 0x0, 0x0⟩,  -- ETH_MAC_LO
  ⟨0x10C, 1, 0x0, 1, 0x0, 0xFFFF, 0x0, 0x0, 0x0⟩,  -- ETH_MAC_HI
  ⟨0x110, 1, 0x0, 1, 0xFFFFF0, 0x0, 0x0, 0x0, 0x0⟩,  -- ETH_TX_BASE
  ⟨0x114, 1, 0x0, 1, 0x1FF, 0x0, 0x0, 0x0, 0x40⟩,  -- ETH_TX_CFG
  ⟨0x118, 1, 0x0, 1, 0xFF, 0x0, 0x0, 0x0, 0x0⟩,  -- ETH_TX_TAIL
  ⟨0x11C, 1, 0x0, 1, 0x0, 0x0, 0x0, 0x0, 0x0⟩,  -- ETH_TX_HEAD
  ⟨0x120, 1, 0x0, 1, 0xFFFFF0, 0x0, 0x0, 0x0, 0x0⟩,  -- ETH_RX_BASE
  ⟨0x124, 1, 0x0, 1, 0x3FFF01FF, 0x0, 0x0, 0x0, 0x8000040⟩,  -- ETH_RX_CFG
  ⟨0x128, 1, 0x0, 1, 0xFF, 0x0, 0x0, 0x0, 0x0⟩,  -- ETH_RX_TAIL
  ⟨0x12C, 1, 0x0, 1, 0x0, 0x0, 0x0, 0x0, 0x0⟩,  -- ETH_RX_HEAD
  ⟨0x130, 1, 0x0, 1, 0xFFFFFFFF, 0x0, 0x0, 0x0, 0x0⟩,  -- ETH_TX_LAT
  ⟨0x134, 1, 0x0, 1, 0xFFFFFFFF, 0x0, 0x0, 0x0, 0x0⟩,  -- ETH_RX_LAT
  ⟨0x140, 1, 0x0, 1, 0x0, 0x0, 0x0, 0x0, 0x0⟩,  -- ETH_TXTS_W0
  ⟨0x144, 1, 0x0, 1, 0x0, 0x0, 0x0, 0x0, 0x0⟩,  -- ETH_TXTS_W1
  ⟨0x148, 1, 0x0, 1, 0x0, 0x0, 0x0, 0x0, 0x0⟩,  -- ETH_TXTS_W2
  ⟨0x14C, 1, 0x0, 1, 0x0, 0x0, 0x0, 0x0, 0x0⟩,  -- ETH_TXTS_W3
  ⟨0x150, 1, 0x0, 1, 0x0, 0x0, 0x0, 0x0, 0x0⟩,  -- ETH_TXTS_STAT
  ⟨0x160, 1, 0x0, 1, 0xFFFFFFFF, 0x0, 0x0, 0x0, 0x0⟩,  -- ETH_STR_DA_LO
  ⟨0x164, 1, 0x0, 1, 0xFFFF, 0x0, 0x0, 0x0, 0x0⟩,  -- ETH_STR_DA_HI
  ⟨0x168, 1, 0x0, 1, 0xFFFF, 0x0, 0x0, 0x0, 0x88B5⟩,  -- ETH_STR_TYPE
  ⟨0x16C, 1, 0x0, 1, 0xFFFF, 0x0, 0x0, 0x0, 0x0⟩,  -- ETH_VLAN
  ⟨0x170, 1, 0x0, 1, 0x0, 0x0, 0x0, 0x0, 0x0⟩,  -- ETH_CNT
  ⟨0x178, 1, 0x0, 1, 0x0, 0x0, 0xF, 0x0, 0x0⟩  -- ETH_ERR_CAUSE
]

/-- The LANE page's registers from offset 0x100. -/
def regsLANE : List RegDef := [
  ⟨0x100, 1, 0x0, 1, 0xF0333B01, 0x0, 0x0, 0x0, 0x80002200⟩,  -- LN_CFG
  ⟨0x104, 1, 0x0, 1, 0x1, 0x0, 0x0, 0x2, 0x0⟩,  -- LN_CTL
  ⟨0x108, 1, 0x0, 1, 0x0, 0x0, 0x0, 0x0, 0x0⟩,  -- LN_STAT
  ⟨0x10C, 1, 0x0, 1, 0x0, 0x0, 0x0, 0x0, 0x0⟩,  -- LN_TAPS
  ⟨0x110, 1, 0x0, 1, 0x1F000F, 0x0, 0x0, 0x0, 0x40000⟩,  -- LN_PRESET_0
  ⟨0x114, 1, 0x0, 1, 0x1F000F, 0x0, 0x0, 0x0, 0x80000⟩,  -- LN_PRESET_1
  ⟨0x118, 1, 0x0, 1, 0x1F000F, 0x0, 0x0, 0x0, 0x60002⟩,  -- LN_PRESET_2
  ⟨0x11C, 1, 0x0, 1, 0x1F000F, 0x0, 0x0, 0x0, 0x0⟩,  -- LN_PRESET_3
  ⟨0x120, 1, 0x0, 1, 0xFFFFFFFF, 0x0, 0x0, 0x0, 0x14000A⟩,  -- LN_TRAIN
  ⟨0x124, 1, 0x0, 1, 0xFFFFFFFF, 0x0, 0x0, 0x0, 0x320078⟩,  -- LN_LEAVE
  ⟨0x128, 1, 0x0, 1, 0x0, 0x0, 0x0, 0x0, 0x0⟩,  -- LN_ERRCNT
  ⟨0x140, 1, 0x0, 1, 0x3FFF007F, 0x0, 0x0, 0x80000000, 0x1E000000⟩,  -- LN_VISOR
  ⟨0x144, 1, 0x0, 1, 0x0, 0x0, 0x0, 0x0, 0x0⟩,  -- LN_VISOR_ERR_LO
  ⟨0x148, 1, 0x0, 1, 0x0, 0x0, 0x0, 0x0, 0x0⟩,  -- LN_VISOR_ERR_HI
  ⟨0x160, 1, 0x0, 1, 0x7F0033, 0x0, 0x0, 0x300, 0x10000⟩,  -- LN_PRBS
  ⟨0x164, 1, 0x0, 1, 0x0, 0x0, 0x0, 0x0, 0x0⟩,  -- LN_PRBS_STAT
  ⟨0x168, 1, 0x0, 1, 0x0, 0x0, 0x0, 0x0, 0x0⟩  -- LN_PRBS_ERR
]

/-- The ULK page's registers from offset 0x100. -/
def regsULK : List RegDef := [
  ⟨0x100, 1, 0x0, 1, 0x1F03, 0x0, 0x0, 0x0, 0x3⟩,  -- ULK_CFG
  ⟨0x104, 1, 0x0, 1, 0x0, 0x0, 0x0, 0x0, 0x0⟩,  -- ULK_STAT
  ⟨0x108, 1, 0x0, 1, 0x0, 0x0, 0x0, 0x0, 0x0⟩,  -- ULK_DELAY
  ⟨0x10C, 1, 0x0, 1, 0x0, 0xFFFFFFFF, 0x0, 0x0, 0x0⟩,  -- ULK_ASYM
  ⟨0x110, 1, 0x0, 1, 0x0, 0x0, 0x0, 0x0, 0x0⟩,  -- ULK_OFS
  ⟨0x114, 1, 0x0, 1, 0xFFFF, 0x0, 0x0, 0x0, 0xC8⟩,  -- ULK_UPPER_TMO
  ⟨0x118, 1, 0x0, 1, 0x0, 0x0, 0x0, 0x0, 0x0⟩,  -- ULK_CNT_0
  ⟨0x11C, 1, 0x0, 1, 0x0, 0x0, 0x0, 0x0, 0x0⟩,  -- ULK_CNT_1
  ⟨0x120, 1, 0x0, 1, 0x3FF000, 0x0, 0x0, 0x0, 0x0⟩,  -- ULK_RXQ_BASE
  ⟨0x124, 1, 0x0, 1, 0x7FF, 0x0, 0x0, 0x0, 0x0⟩,  -- ULK_RXQ_SIZE
  ⟨0x128, 1, 0x0, 1, 0x0, 0x0, 0x0, 0x0, 0x0⟩,  -- ULK_RXQ_WR
  ⟨0x12C, 1, 0x0, 1, 0xFFFFF, 0x0, 0x0, 0x0, 0x0⟩,  -- ULK_RXQ_RD
  ⟨0x130, 1, 0x0, 1, 0xFFFFF, 0x0, 0x0, 0x0, 0x1000⟩,  -- ULK_RXQ_LEVEL
  ⟨0x134, 1, 0x0, 1, 0x3301F0F, 0x0, 0x0, 0x80000000, 0x0⟩,  -- ULK_TAP
  ⟨0x138, 1, 0x0, 1, 0x0, 0x0, 0x0, 0x0, 0x0⟩,  -- ULK_TAP_FAR
  ⟨0x140, 4, 0x4, 1, 0xFFFFFFFF, 0x0, 0x0, 0x0, 0x0⟩,  -- SAT_EN
  ⟨0x150, 1, 0x0, 1, 0x7F, 0x0, 0x0, 0x0, 0x0⟩,  -- SAT_SEL
  ⟨0x154, 1, 0x0, 1, 0x0, 0x0, 0x0, 0x0, 0x0⟩,  -- SAT_RATE
  ⟨0x158, 1, 0x0, 1, 0x0, 0x0, 0x0, 0x0, 0x0⟩,  -- SAT_DSAT
  ⟨0x15C, 1, 0x0, 1, 0x0, 0x0, 0x0, 0x0, 0x0⟩,  -- SAT_LEN
  ⟨0x160, 4, 0x4, 1, 0x0, 0x0, 0x0, 0x0, 0x0⟩,  -- SAT_ID
  ⟨0x170, 1, 0x0, 1, 0x0, 0x0, 0x0, 0x0, 0x0⟩,  -- SAT_OFS
  ⟨0x200, 1, 0x0, 1, 0x0, 0xFF1F0100, 0x0, 0x0, 0x80000000⟩,  -- RING_CFG
  ⟨0x204, 1, 0x0, 1, 0x0, 0x0, 0x0, 0x0, 0x0⟩,  -- RING_STAT
  ⟨0x208, 1, 0x0, 1, 0xFFFFFFFF, 0x0, 0x0, 0x0, 0x6403E8⟩,  -- RING_TIME
  ⟨0x210, 4, 0x4, 1, 0x0, 0x0, 0x0, 0x0, 0x0⟩,  -- CROWN_ID
  ⟨0x220, 1, 0x0, 1, 0x0, 0x0, 0x3F, 0x0, 0x0⟩,  -- RING_EVT
  ⟨0x224, 1, 0x0, 1, 0x3F, 0x0, 0x0, 0x0, 0x0⟩,  -- RING_EVT_EN
  ⟨0x230, 1, 0x0, 1, 0x379F0000, 0x0, 0x0, 0x80000000, 0x0⟩,  -- MB_CTL
  ⟨0x234, 1, 0x0, 1, 0xFFFFFFFF, 0x0, 0x0, 0x0, 0x0⟩,  -- MB_ADDR
  ⟨0x238, 1, 0x0, 1, 0xFFFFFFFF, 0x0, 0x0, 0x0, 0x0⟩,  -- MB_DATA
  ⟨0x23C, 1, 0x0, 1, 0x0, 0x0, 0x0, 0x0, 0x0⟩  -- MB_STAT
]

/-- The MITT page's registers from offset 0x100. -/
def regsMITT : List RegDef := [
  ⟨0x100, 1, 0x0, 1, 0x11FFF, 0x0, 0x0, 0x0, 0x0⟩,  -- MT_SRC_A
  ⟨0x104, 1, 0x0, 1, 0x11FFF, 0x0, 0x0, 0x0, 0x0⟩,  -- MT_SRC_B
  ⟨0x108, 1, 0x0, 1, 0x0, 0x0, 0x0, 0x3, 0x0⟩,  -- MT_CMD
  ⟨0x110, 1, 0x0, 1, 0x11FFFFF, 0x0, 0x0, 0x0, 0x0⟩,  -- MT_TDAC
  ⟨0x120, 1, 0x0, 1, 0x0, 0x0, 0x0, 0x0, 0x0⟩,  -- MT_TEMP
  ⟨0x124, 1, 0x0, 1, 0x0, 0x0, 0x0, 0x0, 0x0⟩  -- MT_STAT
]

/-- The SLICE page's registers from offset 0x100. -/
def regsSLICE : List RegDef := [
  ⟨0x100, 1, 0x0, 1, 0x717777, 0x0, 0x0, 0x0, 0x10700⟩,  -- SL_CFG
  ⟨0x104, 1, 0x0, 1, 0x777777, 0x0, 0x0, 0x0, 0x101010⟩,  -- SL_PAIRS
  ⟨0x108, 1, 0x0, 1, 0x0, 0x0, 0x0, 0x1, 0x0⟩,  -- SL_CMD
  ⟨0x10C, 1, 0x0, 1, 0x0, 0x0, 0x0, 0x0, 0x0⟩,  -- SL_STAT
  ⟨0x120, 8, 0x8, 1, 0xFFFF3F77, 0x0, 0x0, 0x0, 0x0⟩,  -- SL_SLOT_CFG
  ⟨0x124, 8, 0x8, 1, 0x800003FF, 0x0, 0x0, 0x0, 0x0⟩,  -- SL_SLOT_CTX
  ⟨0x180, 1, 0x0, 1, 0x1F7FFFF, 0x0, 0x0, 0x0, 0x900000⟩,  -- EXC_CFG
  ⟨0x184, 1, 0x0, 1, 0x177FFFF, 0x0, 0x0, 0x0, 0x100000⟩,  -- EXC_ALT
  ⟨0x188, 1, 0x0, 1, 0xFFFF, 0x0, 0x0, 0x0, 0x29⟩,  -- EXC_TIME
  ⟨0x18C, 1, 0x0, 1, 0xFFFFF, 0x0, 0x0, 0x0, 0xF4240⟩,  -- EXC_MAXW
  ⟨0x190, 1, 0x0, 1, 0x0, 0x0, 0x0, 0x1, 0x0⟩,  -- EXC_CTL
  ⟨0x194, 1, 0x0, 1, 0x0, 0x0, 0x0, 0x0, 0x0⟩,  -- EXC_STAT
  ⟨0x1A0, 1, 0x0, 1, 0x1FFF1FFF, 0x0, 0x0, 0x0, 0xFA00190⟩,  -- VW_DRV
  ⟨0x1A4, 1, 0x0, 1, 0xFFF01FF, 0x0, 0x0, 0x0, 0x640000⟩,  -- VW_AMP
  ⟨0x1C0, 1, 0x0, 1, 0x0, 0x0, 0x0, 0x0, 0x0⟩,  -- DG_RATIO
  ⟨0x1C4, 1, 0x0, 1, 0x0, 0x0, 0x0, 0x0, 0x0⟩,  -- DG_CLEAN
  ⟨0x1C8, 1, 0x0, 1, 0x0, 0x0, 0x0, 0x0, 0x0⟩  -- OVL_CNT
]

/-- The block whose instance a page is, as the page number of its instance 0 (R24, PAGE_ID.TYPE); none: unused. -/
def blockOf (p : Nat) : Option Nat :=
  if p ≤ 0x19 then some p
  else if p = 0x1A then some 0x19
  else if 0x20 ≤ p ∧ p ≤ 0x2B then some 0x20
  else if 0x30 ≤ p ∧ p ≤ 0x37 then some 0x30
  else if 0x40 ≤ p ∧ p ≤ 0x4F then some 0x40
  else if 0x80 ≤ p ∧ p ≤ 0xBF then some 0x80
  else none

/-- The register rows of a block (by its instance 0 page). -/
def blockRegs : Nat → List RegDef
  | 0x00 => regsSYS
  | 0x01 => regsEVT
  | 0x02 => regsPWR
  | 0x03 => regsBGT
  | 0x04 => regsTMR
  | 0x05 => regsATT
  | 0x06 => regsOTP
  | 0x07 => regsMGMT
  | 0x08 => regsTBASE
  | 0x09 => regsSCHED
  | 0x0A => regsAXIS
  | 0x0B => regsTIU
  | 0x0C => regsCAL
  | 0x0D => regsFENG
  | 0x0E => regsGRID
  | 0x0F => regsLOOP
  | 0x10 => regsTRIG
  | 0x11 => regsCAPT
  | 0x12 => regsCMP
  | 0x13 => regsQUE
  | 0x14 => regsSTORE
  | 0x15 => regsDRAM
  | 0x16 => regsDMA
  | 0x17 => regsSMP
  | 0x18 => regsPCIE
  | 0x19 => regsETH
  | 0x20 => regsLANE
  | 0x30 => regsULK
  | 0x40 => regsMITT
  | 0x80 => regsSLICE
  | _ => []

/-- NEV, the local event bits of a block (R27, PAGE_CAP). -/
def blockNev : Nat → Nat
  | 0x00 => 2
  | 0x01 => 0
  | 0x02 => 6
  | 0x03 => 6
  | 0x04 => 6
  | 0x05 => 2
  | 0x06 => 2
  | 0x07 => 2
  | 0x08 => 10
  | 0x09 => 6
  | 0x0A => 8
  | 0x0B => 8
  | 0x0C => 6
  | 0x0D => 8
  | 0x0E => 6
  | 0x0F => 12
  | 0x10 => 8
  | 0x11 => 8
  | 0x12 => 8
  | 0x13 => 6
  | 0x14 => 7
  | 0x15 => 8
  | 0x16 => 8
  | 0x17 => 2
  | 0x18 => 6
  | 0x19 => 4
  | 0x20 => 8
  | 0x30 => 11
  | 0x40 => 3
  | 0x80 => 7
  | _ => 0

/-- The instance number of a page within its block. -/
def instOf (p : Nat) : Nat := match blockOf p with | some b => p - b | none => 0

/-- Registers that only some instances of a block have: SAT registers on spur links, ring registers on ULK_0 (R385, R387). -/
def regPresent (p off : Nat) : Bool :=
  if 0x30 ≤ p ∧ p ≤ 0x37 then
    if 0x140 ≤ off ∧ off ≤ 0x170 then decide (0x32 ≤ p)
    else if 0x200 ≤ off ∧ off ≤ 0x23C then decide (p = 0x30)
    else true
  else true

/-- Whether a row holds the offset: which of the like registers it is. -/
def RegDef.index (r : RegDef) (off : Nat) : Option Nat :=
  (List.range r.cnt).find? (fun i => decide (r.off + i * r.stride ≤ off) && decide (off < r.off + i * r.stride + 4 * r.words))

/-- The row of the register at a page's offset. -/
def findReg (p off : Nat) : Option RegDef :=
  match blockOf p with
  | some b => if regPresent p off && off % 4 == 0 then (blockRegs b).find? (fun r => (r.index off).isSome) else none
  | none => none

/-- The reset value of the RW and LK bits of the register at a BAR_0 offset. -/
def regReset (a : Nat) : Word :=
  match findReg (a / 0x1000) (a % 0x1000) with
  | some r => word r.rst
  | none => 0

/-- The BAR_0 offset of a page's register. -/
def regAt (p off : Nat) : Nat := p * 0x1000 + off

end Sys2Proof.Machine
end

