-- ==== Sys2Proof/Machine/Tbl.lean ====
section
/-! DEFINITION. Sparse tables: a list of (key, value) pairs in one canonical form, keys strictly rising and no pair equal
to what an unlisted key reads as (the default `d`). Memories, register pages and the arrays of like units are held so. -/

namespace Sys2Proof.Machine

/-- A sparse table; what an unlisted key reads as is given at each use. -/
abbrev Tbl (α : Type) := List (Nat × α)

/-- The value at key `k`: the listed one, else the default. -/
def tget {α : Type} (d : Nat → α) : Tbl α → Nat → α
  | [], k => d k
  | (j, v) :: t, k => if k < j then d k else if k = j then v else tget d t k

/-- The pairs above key `k`. -/
def tabove {α : Type} (k : Nat) : Tbl α → Tbl α
  | [] => []
  | (j, v) :: t => if j ≤ k then tabove k t else (j, v) :: t

/-- Write `v` at key `k`, keeping the canonical form: writing the default removes the pair. -/
def tset {α : Type} [DecidableEq α] (d : Nat → α) : Tbl α → Nat → α → Tbl α
  | [], k, v => if v = d k then [] else [(k, v)]
  | (j, w) :: t, k, v =>
    if k < j then (if v = d k then (j, w) :: t else (k, v) :: (j, w) :: t)
    else if k = j then (if v = d k then tabove k t else (k, v) :: t)
    else (j, w) :: tset d t k v

/-- Every key is above `b`, keys rise strictly and no pair holds its default: the canonical form above `b`. -/
def tcanonFrom {α : Type} [DecidableEq α] (d : Nat → α) : Nat → Tbl α → Bool
  | _, [] => true
  | b, (j, v) :: t => decide (b ≤ j) && decide (v ≠ d j) && tcanonFrom d (j + 1) t

/-- The canonical form. -/
def tcanon {α : Type} [DecidableEq α] (d : Nat → α) (t : Tbl α) : Bool := tcanonFrom d 0 t

end Sys2Proof.Machine
end

