-- ==== Sys2Proof/Machine/State.lean ====
section
/-! DEFINITION. The state of the hub as plain data: the registers software writes, one compartment for each block's own state,
the memories, and the queue of the commands that wait; the reasons a step can stop; and the state after reset. -/

namespace Sys2Proof.Machine

/-- The latched part of one page's common header, PAGE_LOCK apart (R27, R29, R30). -/
structure PageHdr where
  stat : Word := 0
  en : Word := 0
  raw : Word := 0
  pageEn : Bool := true
  blkCtl : Nat := 0
  /-- While a page reset runs: the timebase edge count by which it ends. -/
  rstEnd : Option Nat := none
  /-- While a page reset runs: the contexts whose data paths passed through the page when it began (R30). -/
  rstCtx : List Nat := []
  deriving DecidableEq, Repr

/-- PAGE_LOCK of one page (R28). -/
structure PageLock where
  locked : Bool := false
  sticky : Bool := false
  deriving DecidableEq, Repr

/-- What the access checks of R26 record. -/
structure BadAcc where
  addr : Nat := 0
  write : Bool := false
  src : Nat := 0
  cause : Nat := 0
  deriving DecidableEq, Repr

/-- The MSI-X side of the event fabric (R41): messages posted (newest first) and pending bits. -/
structure MsiSt where
  posted : List Nat := []
  pba : List Nat := []
  deriving DecidableEq, Repr

/-- An accepted step of ST that has not yet taken effect (R49): the change, or the new value, in units of 2^-48 ns. -/
structure StepReq where
  abs : Bool
  amt : Int
  deriving DecidableEq, Repr

/-- The timebase TBASE beside its RW registers (R43 to R54, R399, R400, R485). Frequencies: `freq` in units of 2^-48,
`integ` and `favg` with 24 further fraction bits; errors in units of 2^-48 ps. -/
structure TbSt where
  freq : Int := 0
  integ : Int := 0
  favg : Int := 0
  /-- the correction term c in units of 1 / (16 000 × 2^48) FREQ unit -/
  corr : Int := 0
  /-- what c has been, newest first: from which ST on (2^-48 ns), and c (R399) -/
  corrs : List (Nat × Int) := []
  err : Int := 0
  srcAct : Nat := 0
  holdover : Bool := false
  holdActive : Bool := false
  /-- the intervals of ST in which HOLD_ACTIVE stood, newest first, the last of them with no end while it stands (R52) -/
  holds : List (Nat × Option Nat) := []
  /-- a write of TB_CTL in holdover named SRC_SEL anew, and it has not delivered since (R485) -/
  newSel : Bool := false
  /-- in holdover with a source delivering again (R53) -/
  recovering : Bool := false
  locked : Bool := false
  lockCnt : Nat := 0
  /-- edge count of the last valid measurement of the present acquisition -/
  lastMeas : Option Nat := none
  /-- the one automatic step of this acquisition has been taken -/
  autoDone : Bool := false
  /-- edge counts of the last measurement of sources 1, 2, 3; none: not delivering -/
  seen1 : Option Nat := none
  seen2 : Option Nat := none
  seen3 : Option Nat := none
  /-- since when SRC_SEL has delivered without a break while the alternate is in use -/
  retSince : Option Nat := none
  hoStart : Nat := 0
  hoErr : Nat := 0
  latSec : Nat := 0
  latNs : Nat := 0
  latFrac : Nat := 0
  step : Option StepReq := none
  ptpLo : Word := 0
  ptpAccept : Nat := 0
  ptpDiscard : Nat := 0
  /-- ST of the last step, for R400 -/
  lastStep : Option Nat := none
  deriving DecidableEq, Repr

/-- One counted edge: its timestamp in units of 2^-48 ns of ST and the position after it in units of 2^-16 angle unit. -/
structure AxEdge where
  t : Nat
  pos : Int
  /-- the axis went idle between the edge before and this one -/
  afterIdle : Bool
  deriving DecidableEq, Repr

/-- One angle axis (R55 to R62). Positions in units of 2^-16 angle unit. -/
structure AxSt where
  a : Bool := false
  b : Bool := false
  pos : Int := 0
  max : Int := 0
  idle : Bool := false
  reversed : Bool := false
  overspeed : Bool := false
  zseen : Bool := false
  /-- the last count moved forward -/
  fwd : Bool := true
  zerr : Int := 0
  /-- angle still to be spread and the counts it is spread over (R61) -/
  spread : Int := 0
  spreadN : Nat := 0
  /-- the last counted edges, newest first -/
  edges : List AxEdge := []
  /-- edge count of the timebase at the last counted edge or enable, for AX_IDLE_TIME -/
  lastClk : Nat := 0
  /-- of the reversal in progress or last ended: its instant and the lowest position -/
  revAt : Nat := 0
  lowest : Int := 0
  /-- the interpolated position of the last interpolation step, and AX_MAX as that step left it (R57, R69) -/
  interp : Int := 0
  stepMax : Int := 0
  /-- the intervals of ST in which the axis was idle or paused, newest first (R59, R60) -/
  spans : List (Nat × Option Nat) := []
  latPosHi : Word := 0
  latMaxHi : Word := 0
  deriving DecidableEq, Repr

/-- One index a grid has produced: its instant in units of 2^-48 ns of ST, whether HOLD_ACTIVE stood at the instant, and the
reversal a first index after a pause notes (R52, R59). -/
structure GridInst where
  k : Nat
  t : Nat
  hold : Bool
  /-- the time since the index before it; none where the rate is undefined (R176) -/
  dt : Option Nat
  note : Option (Nat × Int)
  deriving DecidableEq, Repr

/-- One grid generator with the descriptor it was started with (R63 to R66). -/
structure GridSt where
  run : Bool := false
  axis : Nat := 0
  /-- time: units of 2^-32 ns since the epoch; angle: angle units -/
  origin : Int := 0
  period : Nat := 0
  startIdx : Nat := 0
  stopIdx : Nat := 0
  next : Nat := 0
  /-- time grids: the grid ends after the last index before this instant (2^-48 ns), set by an accepted stop -/
  stopAt : Option Nat := none
  /-- the first index still to come after a reversal pause carries NOTE -/
  noteDue : Bool := false
  /-- what the grid has produced, newest first -/
  made : List GridInst := []
  deriving DecidableEq, Repr

/-- The grid generators' shared registers. -/
structure GridCtl where
  rejReason : Nat := 0
  rejGrid : Nat := 0
  deriving DecidableEq, Repr

/-- The content of one schedule entry (R67). -/
structure SchWords where
  w0 : Word
  w1 : Word
  w2 : Word
  w3 : Word
  deriving DecidableEq, Repr

/-- An enabled schedule entry as the engine holds it: the content that governs its next instant, that instant (time: 2^-48 ns
of ST; angle: angle units), and, where the table's newer content takes over after it, the instant from which that content governs (R13, R71). -/
structure SchEnt where
  content : SchWords
  next : Int
  renew : Option Nat
  /-- it has fallen due on an object whose domain was not ON (R418) -/
  late : Bool := false
  /-- on an angle axis: the ST before which it does not execute (R71), and the ST of the interpolation step at which it fell due (R69) -/
  lead : Option Nat := none
  dueAt : Option Nat := none
  /-- an instant of the previous content has executed since the entry was written (R71) -/
  had : Bool := false
  deriving DecidableEq, Repr

/-- The schedule engine (R67 to R76). -/
structure SchedSt where
  ents : Tbl (Option SchEnt) := []
  lateCnt : Nat := 0
  lastEntry : Nat := 0
  /-- ST of the entries that executed in the last microsecond, newest first (R70) -/
  ran : List Nat := []
  /-- NEXT_EVT_d where it is not all ones -/
  nextEvt : Tbl Nat := []
  /-- edge count of the last NEXT_EVT update -/
  nextClk : Nat := 0
  deriving DecidableEq, Repr

/-- A slice's configuration set, pending on its page or applied (R85). -/
structure SliceSet where
  cfg : Word := 0x00010700
  pairs : Word := 0x00101010
  slotCfg : List Word := List.replicate 8 0
  slotCtx : List Word := List.replicate 8 0
  exc : Word := 0x00900000
  alt : Word := 0x00100000
  time : Word := 41
  maxw : Word := 1000000
  drv : Word := 0x0FA00190
  amp : Word := 0x00640000
  deriving DecidableEq, Repr

/-- An excitation change waiting for a conversion boundary (R88, ALIGN 1). -/
inductive ExcChg where
  | on (reversed : Bool)
  | off
  | rev
  deriving DecidableEq, Repr

/-- A slice's pulsed excitation generator (R87 to R91). Instants in units of 2^-48 ns of ST. -/
structure ExcSt where
  on : Bool := false
  reversed : Bool := false
  altOn : Bool := false
  lockout : Bool := false
  ilim : Bool := false
  onAt : Nat := 0
  segAt : Nat := 0
  offAt : Option Nat := some 0
  /-- an EXC_OFF that takes effect 20 µs after the EXC_ON (R89) -/
  offPend : Bool := false
  pend : Option ExcChg := none
  /-- when the pending change was asked for -/
  pendAt : Nat := 0
  /-- on-intervals of the generator, newest first: start, end (R167) -/
  trk : List (Nat × Option Nat) := []
  /-- no EXC_ON has been applied since the lockout ended (R144) -/
  afterLock : Bool := false
  deriving DecidableEq, Repr

/-- What one slot of a slice keeps (R81, R103, R104): its last conversion and tags, its autorange code, the matched ratio in
units of 2^-40 and its update count. -/
structure SlotKeep where
  conv : Int := 0
  /-- the instant that conversion stands for, in units of 2^-32 ns -/
  inst : Int := 0
  tags : Nat := 0
  clamped : Bool := false
  ar : Option Nat := none
  ratio : Nat := 0
  ratioCnt : Nat := 0
  deriving DecidableEq, Repr

/-- The fast tap of a slice (R152). -/
structure TapSt where
  v : Int := 0
  clamped : Bool := false
  ovl : Bool := false
  stale : Bool := false
  seq : Nat := 0
  deriving DecidableEq, Repr

/-- One slice (R77 to R104). -/
structure SliceSt where
  app : SliceSet := {}
  applyAt : Option Nat := none
  applyRej : Bool := false
  slot : Nat := 0
  /-- while a SETTLE wait runs: the ST it ends at -/
  waitEnd : Option Nat := none
  /-- the slot in force differs from the one before it, so the end of its wait is a settling event -/
  slotDiff : Bool := true
  /-- a single-cycle conversion runs: its nominal start edge in units of 2^-32 ns, and the instant of the conversion it replaces -/
  conv : Option (Nat × Option Int) := none
  /-- the instant of a discarded conversion that the next one replaces (R148) -/
  redo : Option Int := none
  /-- the comparator has fired since the running conversion began (R104) -/
  fired : Bool := false
  ovlNow : Bool := false
  /-- the comparator's 40 µs extension ends here -/
  ovlEnd : Nat := 0
  slotOvl : Bool := false
  ovlCnt : Nat := 0
  keep : Tbl SlotKeep := []
  clean : Nat := 0
  lowActive : Bool := false
  exc : ExcSt := {}
  tap : TapSt := {}
  /-- the thermistor slot whose first conversion ends its excitation (R201) -/
  therm : Option Nat := none
  deriving DecidableEq, Repr

/-- A mitten's configuration set (R85). -/
structure MittSet where
  a : Word := 0
  b : Word := 0
  t : Word := 0
  deriving DecidableEq, Repr

/-- One mitten (R92 to R96). -/
structure MittSt where
  app : MittSet := {}
  swapped : Bool := false
  aCompl : Bool := false
  bCompl : Bool := false
  temp : Int := 0
  /-- an apply that waits for a skew measurement to end (R172) -/
  waitApply : Bool := false
  /-- the reference has settled since the domain came up (R113); edge count the domain came up at -/
  upAt : Nat := 0
  /-- its domain has come up since start-up (R435) -/
  isUp : Bool := false
  deriving DecidableEq, Repr

/-- The calibration supervisor's state of one slice (R112 to R121). Instants in units of 2^-48 ns of ST, waits in edge counts. -/
structure CalSl where
  temp : Int := 0
  sec : Nat := 0
  ofs : Nat := 2048
  gain : Nat := 2048
  gainRes : Int := 0
  ofsRes : Int := 0
  count : Nat := 0
  failCnt : Nat := 0
  fault : Bool := false
  /-- edge count at which the slice became due -/
  dueAt : Option Nat := none
  /-- while deferred by an open record: the edge count it was deferred at -/
  deferAt : Option Nat := none
  expired : Bool := false
  deferSec : Nat := 0
  forced : Bool := false
  /-- leave asked for and not yet decided -/
  asking : Bool := false
  /-- leave granted: the gap start t0 -/
  t0 : Option Nat := none
  running : Bool := false
  /-- of a running recalibration: the decimator outputs at D = 256 since t0, the sum of the present trial or residual, and from step 7 on
  the judgement (R117, R118) -/
  outs : Nat := 0
  acc : Int := 0
  verdict : Option Bool := none
  /-- t1 of the last recalibration -/
  t1 : Nat := 0
  /-- after a refusal or a failure: the edge count from which the supervisor acts again -/
  retryAt : Option Nat := none
  /-- the end of the CAL_SLOT gap the request was made in (GAP_MODE 0) -/
  gapEnd : Option Nat := none
  oldOfs : Nat := 2048
  oldGain : Nat := 2048
  calTemp : Int := 0
  target : Int := 0
  /-- after its mitten's domain came up: off until a recalibration succeeds (R113), and the reference has settled -/
  upOff : Bool := true
  settled : Bool := false
  deriving DecidableEq, Repr

/-- The calibration block's shared registers. -/
structure CalCtl where
  last : Nat := 0
  deriving DecidableEq, Repr
/-- The OTP block's registers' state (R111). -/
structure OtpSt where
  loaded : Bool := false
  corr : Nat := 0
  uncorr : Nat := 0
  /-- OTP_BAD, one bit a slice -/
  badMask : Nat := 0
  digest : Nat := 0
  deriving DecidableEq, Repr

/-- A sample between stages (R124, R156): the value in units of 2^-8 code, the global index J of its newest decimator output, the
marks its computation has gathered (bit 1 clamped input, 2 overloaded input, 3 held during a recalibration, 5 saturated, 6 at or
above 15/16 of full scale, 7 missing input), and the fade step and length it was computed with (R138; 0, 0 without a fade). -/
structure Smp where
  v : Int
  j : Nat
  marks : Nat
  fi : Nat
  fx : Nat
  deriving DecidableEq, Repr

/-- The stage histories of one chain, newest first (R130 to R133, R164), the last decimator output and its index. -/
structure Chain where
  hb : List (List Smp) := [[], [], [], []]
  pre : List Smp := []
  fir : List Smp := []
  post : List Smp := []
  out : List Smp := []
  lastJ : Option Nat := none
  /-- the ranges of J in which no input came, newest first: the first missing and the next that came (R78) -/
  gaps : List (Nat × Nat) := []
  held : Int := 0
  deriving DecidableEq, Repr

/-- A settling event (R140 to R143): its instant, the SETTLE outputs it still counts, whether the count runs, whether its outputs
carry STALE instead (R120), and the modulator cycles of excitation settling it adds. -/
structure SettleEv where
  t : Nat
  n : Nat
  begun : Bool
  stale : Bool
  cyc : Nat
  /-- of a dual-gain pair: 0 both paths, 1 the high-gain path, 2 the low-gain path -/
  path : Nat
  /-- the start of the context, whose instant is that of its first output (R140) -/
  first : Bool := false
  deriving DecidableEq, Repr

/-- A running cross-fade (R138). -/
structure Fade where
  i : Nat
  x : Nat
  oldBank : Nat
  deriving DecidableEq, Repr

/-- A single-cycle conversion that waits to be matched with its grid index (R169): its true instant in units of 2^-32 ns, its
value and tags, and whether it was restarted. -/
structure ScConv where
  c : Int
  /-- the instant of the conversion it replaces, by which its index is found (R148) -/
  orig : Int
  v : Int
  tags : Nat
  restarted : Bool
  failed : Bool
  deriving DecidableEq, Repr

/-- One output of a detector's source (R150). -/
structure SrcOut where
  k : Nat
  t : Nat
  w : Word
  deriving DecidableEq, Repr

/-- One context: its committed descriptor, its pending commit, its filter state and what it has delivered. -/
structure CtxSt where
  desc : List Word
  /-- descriptors replaced at safe points whose outputs are still to come: each governs the indices below its bound, oldest first -/
  prev : List (Nat × List Word) := []
  /-- ST at which a pending commit was accepted (R35) -/
  pend : Option Nat := none
  doneAny : Bool := false
  lastRej : Bool := false
  lastIdx : Nat := 2 ^ 64 - 1
  /-- ST from which the context's history counts (R164) -/
  startAt : Nat := 0
  /-- the next grid index to deliver -/
  nextK : Option Nat := none
  c1 : Chain := {}
  c2 : Chain := {}
  fade : Option Fade := none
  /-- the low-gain path's own fade, where a pair feeds the context (R100, R138) -/
  fade2 : Option Fade := none
  settle : List SettleEv := []
  /-- excitation cut-offs still to be noted: instant and cause (R283, NOTE 4) -/
  cuts : List (Nat × Nat) := []
  lastW : Word := 0
  lastG : Option Nat := none
  brim : Nat := 0
  /-- change capture: the last stored word, its index and its second -/
  cc : Option (Word × Nat × Nat) := none
  cc2 : Option (Word × Nat × Nat) := none
  /-- detector: source outputs of the interval so far (newest first), running state and hold count -/
  src : List SrcOut := []
  det : Nat := 0
  detHold : Nat := 0
  aliasRun : Bool := false
  rateRun : Bool := false
  /-- changes of SKEW_ADJ still to be noted (R161): the first index under the new value, the old and the new value -/
  skewNote : List (Nat × Word × Word) := []
  /-- no EXC_ON has been applied since the context started (R144) -/
  firstOn : Bool := true
  sc : List ScConv := []
  /-- dual-gain: the path the last output was taken from (1 low), outputs of a changeover still to note -/
  lowPath : Bool := false
  deriving DecidableEq, Repr

/-- An earlier run of a context whose outputs are still to come when its next run begins (a grid that restarts, or a new descriptor on
a stopped context): the run and its grid as they stood. -/
structure TailSt where
  ctx : Nat
  run : CtxSt
  grid : GridSt
  deriving DecidableEq, Repr

/-- One entry of the commit completion queue (R37). -/
structure CommitDone where
  ctx : Nat
  rej : Bool
  idx : Nat
  deriving DecidableEq, Repr

/-- The filter engine's shared state (R37, R125, R128, R138, R148). -/
structure FengSt where
  done : List CommitDone := []
  ovf : Bool := false
  popIdx : Nat := 0
  rejReason : Nat := 0
  rejCtx : Nat := 0
  satCnt : Nat := 0
  fadeCtx : Nat := 0
  scRestart : Nat := 0
  deriving DecidableEq, Repr

/-- The resampler's and skew command's shared state (R165, R170 to R177). -/
structure AlignSt where
  aliasCnt : Nat := 0
  rateFill : Nat := 0
  gapCnt : Nat := 0
  latDelayHi : Word := 0
  run : Bool := false
  done : Bool := false
  fail : Bool := false
  busy : Nat := 0
  /-- mittens under measurement, the instant s0 they are taken at and the instant it ends at (2^-48 ns of ST) -/
  measuring : Nat := 0
  takeAt : Nat := 0
  endAt : Nat := 0
  /-- what the measurement under way has found: per slice its delay d_m + d_(m,i) in ps, none where a step read off its amplitude -/
  found : List (Nat × Option Int) := []
  deriving DecidableEq, Repr

/-- A vibrating-wire sequence (R195 to R201). Phases: 0 awaiting leave, 1 driving, 2 quiet, 3 listening, 4 fitting. -/
structure VwSt where
  slice : Nat
  phase : Nat
  /-- leave has been granted and the drive is to start -/
  granted : Bool
  /-- the instant the phase began, 2^-48 ns of ST -/
  at_ : Nat
  /-- crossings in units of 2^-7 ns of ST, newest first -/
  xs : List Nat
  deriving DecidableEq, Repr

/-- A count window of frequency mode (R190): where it opened, and its first and last edges and their count. -/
structure FreqWin where
  openT : Nat
  first : Nat
  last : Nat
  n : Nat
  deriving DecidableEq, Repr

/-- One TIU channel (R183 to R201). Timestamps in units of 2^-7 ns of ST. -/
structure TiuCh where
  /-- the pending start of unsigned interval mode -/
  start : Option Nat := none
  /-- a stop held for the comparison of R187 -/
  held : Option Nat := none
  /-- signed mode: starts whose windows are open, and stops not yet taken -/
  starts : List Nat := []
  stops : List Nat := []
  win : Option FreqWin := none
  /-- the last edge taken from each source -/
  lastA : Option Nat := none
  lastB : Option Nat := none
  gateOpen : Bool := false
  /-- the gate's last opening and closing -/
  gateAt : Nat := 0
  gateEnd : Nat := 0
  queue : List (List Word) := []
  seq : Nat := 0
  lost : Bool := false
  lat : List Word := []
  early : Nat := 0
  drop : Nat := 0
  repl : Nat := 0
  close : Nat := 0
  vw : Option VwSt := none
  deriving DecidableEq, Repr

/-- The TIU's presence detectors and shared registers (R193, R194, R199). -/
structure TiuSt where
  chans : Tbl TiuCh := []
  ref10m : Bool := false
  pps : Bool := false
  refChg : Bool := false
  ppsChg : Bool := false
  ppsBad : Nat := 0
  /-- the last PPS_IN edge in 2^-7 ns of ST, and its edge count -/
  ppsLast : Option Nat := none
  ppsClk : Nat := 0
  vwLast : Nat := 0
  vwSlice : Nat := 0
  /-- the last REF10M edge (2^-7 ns of ST) and its edge count, the runs of good and bad periods (R193); the periods since the present millisecond began,
  the edge it began at, and the rate error of the last one in 2^-7 ns (R45) -/
  refEdge : Option Nat := none
  refClk : Nat := 0
  refGood : Nat := 0
  refBad : Nat := 0
  refN : Nat := 0
  refFrom : Nat := 0
  rateErr : Int := 0
  deriving DecidableEq, Repr

/-- One fast-tap value as a loop takes it (R152, R202): its index, value, whether clamped, overloaded and stale, and the instant it was
delivered (2^-48 ns of ST). -/
structure LoopTap where
  j : Nat
  v : Int
  clamped : Bool
  ovl : Bool
  stale : Bool
  at_ : Nat
  deriving DecidableEq, Repr

/-- A group of tap values that makes an inner cycle, newest first, with the snapshot of the loop's table bytes taken at its delivery (R218). -/
structure LoopGroup where
  taps : List LoopTap
  snap : List Host.Cell
  deriving DecidableEq, Repr

/-- A loop word overwritten less than 1 µs ago (R218): its table offset, the word before, the instant of the write. -/
structure LoopOld where
  off : Nat
  old : Word
  at_ : Nat
  deriving DecidableEq, Repr

/-- One loop (R202 to R225). Modes 0 OFF, 1 OPEN, 2 CENTRE, 3 FEEDBACK, 4 HOLD. Accumulators in units of 2^-30, the ramp in 2^-47. -/
structure LoopSt where
  /-- descriptor words 0 and 1 as read when the loop left OFF -/
  w0 : Word := 0x00400100
  w1 : Word := 0
  mode : Nat := 0
  /-- the mode HOLD was entered from -/
  before : Nat := 0
  safe : Bool := false
  req : Option Nat := none
  /-- the instant of acceptance, or of the grant -/
  reqAt : Nat := 0
  leaveWait : Bool := false
  y : Int := 0
  i : Int := 0
  io : Int := 0
  d : Int := 0
  r : Int := 0
  u : Int := 0
  o : Int := 0
  xPrev : Option Int := none
  mSum : Int := 0
  mCnt : Nat := 0
  flags : Nat := 0
  iClamp : Bool := false
  /-- y* of the last cycle was clamped at FD_MAX, at FD_MIN -/
  limHi : Bool := false
  limLo : Bool := false
  spLimit : Bool := false
  slew : Bool := false
  xClamp : Bool := false
  tapHold : Bool := false
  accSat : Bool := false
  diff : Int := 0
  cycles : Nat := 0
  rej : Nat := 0
  /-- tap values since the last complete group, newest first, and the groups whose cycle is still to run, oldest first -/
  taps : List LoopTap := []
  ready : List LoopGroup := []
  /-- the snapshot the running cycle works on -/
  snap : List Host.Cell := []
  /-- edge count at the last tap value -/
  lastTap : Nat := 0
  deriving DecidableEq, Repr
/-- One slot of an armed trigger unit (R231 to R234): the previous evaluated values (newest first), the STA and LTA averages with
16 fraction bits and their update count, whether the condition stood, whether an output has been evaluated since arming, and the last delivered
instant of its context with the instant of that delivery (or of the arming). -/
structure SlotSt where
  prev : List Int := []
  sta : Nat := 0
  lta : Nat := 0
  updates : Nat := 0
  cond : Bool := false
  seen : Bool := false
  lastT : Option Nat := none
  lastAt : Nat := 0
  silent : Bool := false
  deriving DecidableEq, Repr

/-- A meeting of a slot at its instant (R235), in units of 2^-48 ns of ST; `fresh` until its instant is decided. -/
structure Meet where
  t : Nat
  slot : Nat
  fresh : Bool
  deriving DecidableEq, Repr

/-- A candidate trigger point in a merge period (R242). -/
structure Cand where
  t : Nat
  reason : Nat
  bitmap : Nat
  hub : Nat
  remote : Bool
  deriving DecidableEq, Repr

/-- One member of an armed unit as read at arming (R237), and its stored outputs (index, instant, word), newest first. -/
structure RecMem where
  ctx : Nat
  pre : Nat
  post : Nat
  thr : Nat
  m : Nat
  grid : Nat
  /-- outputs before this instant, or this index, are not stored (R240, R244) -/
  fromT : Nat
  fromK : Nat
  buf : List (Nat × Nat × Word)
  /-- once a trigger point stands: its trigger index when known, and whether its last index has been captured -/
  kc : Option Nat
  done : Bool
  /-- of an open record: outputs past the member's last index, newest first (R240) -/
  late : List (Nat × Nat × Word)
  deriving DecidableEq, Repr

/-- An open record (R244 to R247), with its members, its index slot, and REARM and MAXDUR of the descriptor its unit was armed with. -/
structure OpenRec where
  t : Nat
  reason : Nat
  bitmap : Nat
  hub : Nat
  fromFrame : Bool
  merged : Nat
  stopCut : Option Nat
  stopLate : Bool
  shortPre : Bool
  stale : Bool
  retrig : Nat
  mems : List RecMem
  slot : Nat
  rearm : Bool
  maxdur : Nat
  /-- the reservation is used up: instant and context of the first word left out, in grid-instant order (R239) -/
  full : Option (Nat × Nat)
  deriving DecidableEq, Repr

/-- One trigger unit (R230 to R247). -/
structure UnitSt where
  armed : Bool := false
  /-- the descriptor as read at arming -/
  desc : List Word := []
  slots : List SlotSt := []
  meets : List Meet := []
  /-- meetings at or before this instant are discarded (R240) -/
  floor : Nat := 0
  cands : List Cand := []
  mergeEnd : Option Nat := none
  /-- the members of the arming that waits for its trigger point; none once its record is open -/
  members : List RecMem := []
  opened : Option OpenRec := none
  slotNo : Nat := 0
  pages : Nat := 0
  /-- the last instant decided (R236) -/
  after : Nat := 0
  need : Nat := 0
  retrig : Nat := 0
  lastRec : Nat := 0
  bitmap : Nat := 0
  lastT : Nat := 0
  deriving DecidableEq, Repr

/-- The trigger block's shared registers. -/
structure TrigCtl where
  rejReason : Nat := 0
  rejUnit : Nat := 0
  latSecHi : Word := 0
  latNs : Word := 0
  nak : Nat := 0
  ignored : Nat := 0
  accepted : Nat := 0
  brimSide : Nat := 0
  brimCtx : Nat := 0
  brimPend : List Nat := []
  deriving DecidableEq, Repr

/-- One slot of the record index (R250): reserved or holding a record, with the runs of pages it has in the record partition. -/
structure RecSlot where
  openRec : Bool
  closed : Bool
  unit : Nat
  flags : Nat
  runs : List (Nat × Nat)
  len : Nat
  deriving DecidableEq, Repr

/-- Settings of one stream's compression (R266, R270): CMP_CFG, CMP_ANCHOR, CMP_PRED, shown by CMP_SEL. -/
structure CmpCfg where
  en : Bool := false
  blk : Nat := 1024
  flushMs : Nat := 0
  anchor : Nat := 16
  pred : List Nat := [0, 0, 0, 0]
  deriving DecidableEq, Repr

/-- The adaptive state of one member (R258, R261). -/
structure CmpMem where
  x1 : Int := 0
  x2 : Int := 0
  x3 : Int := 0
  adapt : Nat := 128
  deriving DecidableEq, Repr

/-- The block being built (R256, R267): its settings, what it began with, and the words taken so far, one list a member,
oldest first, with the instant and the FILL reason each came with; the instant its first word arrived (edge count). -/
structure CmpBlk where
  n : Nat
  mems : List Nat
  grid : Nat
  sec : Nat
  pred : List Nat
  first : Nat
  reset : Bool
  firstFlag : Bool
  restored : Bool
  words : List (List Word)
  born : Nat
  came : List (List (Nat × Nat))
  deriving DecidableEq, Repr

/-- One waiting word in a stream's input queue (R268); `acc`: it has been accounted, having been taken into a block that was cut before it. -/
structure CmpIn where
  ctx : Nat
  k : Nat
  t : Nat
  w : Word
  fill : Nat
  acc : Bool
  deriving DecidableEq, Repr

/-- One compression context (R255 to R273). -/
structure CmpSt where
  cfg : CmpCfg := {}
  /-- a change of EN to 1 accepted at this instant takes effect 1 µs later (R266) -/
  enAt : Option Nat := none
  mems : List CmpMem := []
  bseq : Nat := 0
  blk : Option CmpBlk := none
  /-- a block ended and coded, waiting to be committed -/
  ready : Bool := false
  flushedEnd : Bool := false
  needFirst : Bool := true
  needReset : Bool := false
  needRestored : Bool := false
  /-- indices lost to a full input queue, at which blocks are cut (R268) -/
  lostK : List Nat := []
  nextIdx : Nat := 0
  waiting : Bool := false
  suspended : Bool := false
  /-- a flush accepted while the stream waits: the first index it does not cover (R269) -/
  flushWait : Option Nat := none
  inq : List CmpIn := []
  ovf : Nat := 0
  ovfRun : Bool := false
  blocks : Nat := 0
  raws : Nat := 0
  inBytes : Nat := 0
  outBytes : Nat := 0
  latInHi : Word := 0
  latOutHi : Word := 0
  ccIgnored : Bool := false
  deriving DecidableEq, Repr

/-- The compressor's shared registers. -/
structure CmpCtl where
  window : List Word := List.replicate 16 0
  srcSaved : Bool := false
  srcStream : Nat := 0
  rejReason : Nat := 0
  rejStream : Nat := 0
  skip : Nat := 0
  deriving DecidableEq, Repr

/-- The descriptor of a stream as read at its start (R277), its bounds applied. -/
structure StrDesc where
  format : Nat := 0
  protect : Bool := false
  consumer : Nat := 0
  dest : Nat := 0
  ageMs : Nat := 100
  pktBytes : Nat := 1024
  pages : Nat := 64
  level : Nat := 65536
  rsvKib : Nat := 0
  deriving DecidableEq, Repr

/-- One index of a plain stream being gathered from its members: the words so far by context (R281). -/
structure RowAcc where
  k : Nat
  /-- its instant (2^-48 ns) -/
  t : Nat
  got : List (Nat × Word)
  /-- the index is lost under this reason (R290, R315) -/
  lost : Option Nat
  deriving DecidableEq, Repr

/-- The packet being formed in the tail liner (R282, R284): its format, the whole indices or entries in it as words, what its
header will say, the notes of its indices, and when it opened (edge count). -/
structure OpenPkt where
  fmt : Nat
  first : Nat
  last : Nat
  count : Nat
  sec : Nat
  mems : List Nat
  grid : Nat
  words : List Word
  notes : List (List Word)
  noteFirst : Nat
  flags : Nat
  opened : Nat
  deriving DecidableEq, Repr

/-- A closed packet: where it lies in the stream's region (byte offset of its header), or its words while it is held in the
reserve (R291); what its header says; and what the consumer has done with it. -/
structure Pkt where
  ofs : Nat
  len : Nat
  pseq : Nat
  fmt : Nat
  first : Nat
  last : Nat
  count : Nat
  nmem : Nat
  grid : Nat
  sec : Nat
  flags : Nat
  rsv : Option (List Word)
  isRead : Bool
  replay : Bool
  gap : Bool
  /-- which of its words held in the reserve are damaged (R413) -/
  rsvBad : List Nat := []
  deriving DecidableEq, Repr

/-- The accounting of one ST second of a stream (R294, R295): `fills` by reason 1 to 14. -/
structure SecAcc where
  sec : Nat
  first : Option Nat := none
  expected : Nat := 0
  delivered : Nat := 0
  fills : List Nat := List.replicate 14 0
  deriving DecidableEq, Repr

/-- One stream and its queue (R277 to R299). -/
structure StrSt where
  run : Bool := false
  region : Option (Nat × Nat) := none
  desc : StrDesc := {}
  pseq : Nat := 0
  /-- indices with instants from here on are queued (R279), and up to here once stopped; 2^-48 ns of ST -/
  startAt : Nat := 0
  stopAt : Option Nat := none
  rows : List RowAcc := []
  /-- the member sets, newest first, each from an instant on (2^-48 ns) -/
  memSets : List (Nat × List Nat) := []
  openPkt : Option OpenPkt := none
  /-- notes of indices still being gathered -/
  notes : List (Nat × List Word) := []
  pkts : List Pkt := []
  wrOfs : Nat := 0
  /-- the PSEQ of the packet the consumer has begun and the words it has taken of it -/
  reading : Option (Nat × Nat) := none
  gapNext : Bool := false
  gapClose : Bool := false
  secs : List SecAcc := []
  nextSec : Option Nat := none
  /-- the second of the last index each member has queued or accounted -/
  memSec : Tbl Nat := []
  /-- the first and last index lost in the run in progress under PROTECT -/
  protRun : Bool := false
  deriving DecidableEq, Repr

/-- The store: the applied partitions, the ledger ring, the reserve's ledger area, a record transfer (R291 to R293, R487). -/
structure StoreSt where
  applied : Bool := false
  live : Nat := 0
  recPages : Nat := 0
  ldg : Nat := 0
  lgWr : Nat := 0
  lgRd : Nat := 0
  lgLost : Nat := 0
  lgOfs : Nat := 0
  /-- entries held in the ring, at most its size -/
  lgHeld : Nat := 0
  rsvLedger : List (List Word) := []
  /-- records closed while external memory was closed, by index slot in the order of closing (R247) -/
  rsvRecs : List (Nat × List Word) := []
  /-- entries that fell due during a page reset of STORE, oldest first (R488) -/
  lgDue : List (List Word) := []
  /-- a STORE_XFER in progress: record slot, link layer, words sent -/
  xfer : Option (Nat × Nat × Nat) := none
  queRejReason : Nat := 0
  queRejStream : Nat := 0
  deriving DecidableEq, Repr

/-- One queued or waiting burst request of the external memory (R310, R312): its port, whether it writes, its burst address, the bytes
and the mask of the bytes it writes. -/
structure DrReq where
  port : Nat
  write : Bool
  addr : Nat
  bytes : List Byte
  mask : Nat
  deriving DecidableEq, Repr

/-- One byte lane's trained delays and eyes (DR_LANE). -/
structure DrLane where
  rdDly : Nat := 0
  rdEye : Nat := 0
  wrDly : Nat := 0
  wrEye : Nat := 0
  deriving DecidableEq, Repr

/-- What a training has read of the configuration (R303): DR_CFG, the mapping masks and tREFI. The reset values are the registers'. -/
structure DrConf where
  rate : Nat := 3
  density : Nat := 1
  ranks : Nat := 2
  bg0 : Nat := 0x80
  bg1 : Nat := 0x100
  ba0 : Nat := 0x200
  ba1 : Nat := 0x400
  refi : Nat := 9360
  deriving DecidableEq, Repr

/-- The external memory controller (R300 to R319). `st` 0 untrained, 1 training, 2 open, 3 failed. Edge counts for its periods. -/
structure DramSt where
  st : Nat := 0
  selfref : Bool := false
  rank1Fail : Bool := false
  rej : Nat := 0
  /-- usable capacity in 4 KiB pages -/
  cap : Nat := 0
  panic : Bool := false
  /-- bytes waiting in port P0's buffer -/
  p0 : Nat := 0
  p0Ovf : Bool := false
  /-- port P1 waits for the memory to leave self-refresh (R319) -/
  p1Wait : Bool := false
  /-- word addresses whose stored beat is uncorrectable, and correctable (R316) -/
  badU : List Nat := []
  badC : List Nat := []
  corr : Nat := 0
  uncorr : Nat := 0
  eccAddr : Nat := 0
  latched : Bool := false
  /-- training: leave asked for, the instant of the grant (2^-48 ns of ST), and when to ask again (edge count) -/
  asking : Bool := false
  trainAt : Nat := 0
  retryAt : Option Nat := none
  /-- the configuration the last accepted training has read (R303) -/
  conf : DrConf := {}
  lanes : List DrLane := List.replicate 5 {}
  trackDue : Bool := false
  lastTrack : Nat := 0
  lastZq : Nat := 0
  lastScrub : Nat := 0
  scrubAddr : Nat := 0
  lastRef0 : Nat := 0
  lastRef1 : Nat := 0
  /-- the arbiter (R313): the port whose turn it is, the bursts it has had of it, and the bursts since the last of P1 to P3 in panic -/
  turn : Nat := 0
  credit : Nat := 0
  since : Nat := 0
  post0 : Nat := 0
  post1 : Nat := 0
  /-- the write queue, oldest first, and requests that wait for it or for the memory to open -/
  wq : List DrReq := []
  wait : List DrReq := []
  deriving DecidableEq, Repr

/-- One issued write of a block mover channel that is not yet acknowledged (R323, R324). -/
structure DmaWr where
  dst : Nat
  bytes : List Byte
  deriving DecidableEq, Repr

/-- An outstanding read burst (R323): its source address, its length, the address its first byte goes to, and the edge count it was issued at. -/
structure DmaRd where
  src : Nat
  len : Nat
  dst : Nat
  at_ : Nat
  deriving DecidableEq, Repr

/-- One channel of the block mover beside its registers (R320 to R332). `st` 0 IDLE, 1 RUNNING, 2 PAUSED, 3 DONE, 4 ABORTED, 5 ERROR. -/
structure DmaCh where
  st : Nat := 0
  err : Nat := 0
  rej : Nat := 0
  late : Bool := false
  desc : Bool := false
  causeP : Bool := false
  causeS : Bool := false
  flags : Nat := 0
  rd : Option DmaRd := none
  /-- issued writes, oldest first -/
  out : List DmaWr := []
  /-- the edge count at which the zero-length read after the last host write was issued -/
  zlr : Option Nat := none
  /-- the transfer ends once its issued writes are acknowledged: 0 ABORTED, else ERROR with this reason -/
  fin : Option Nat := none
  /-- ST at which the transfer reached its commit point -/
  doneAt : Option Nat := none
  deriving DecidableEq, Repr

/-- A request of the power manager that waits for channels to pause (R331): the domain, its edge count, and whether DMA_PAUSE_SLOW was raised. -/
structure DmaPwr where
  dom : Nat
  at_ : Nat
  slow : Bool
  deriving DecidableEq, Repr

/-- The block mover. -/
structure DmaSt where
  chans : Tbl DmaCh := []
  /-- the channel served last, for the round robin -/
  last : Nat := 15
  reqs : List DmaPwr := []
  deriving DecidableEq, Repr
/-- One serial lane beside its registers (R333 to R354). `st` 0 OFF, 1 LEAVE, 2 PLL, 3 LOCKING, 4 TRAINING, 5 UP, 6 TEST; instants are edge counts. -/
structure LaneSt where
  st : Nat := 0
  rej : Nat := 0
  visorAbort : Bool := false
  trainTmo : Bool := false
  farReady : Bool := false
  rxReady : Bool := false
  frozen : Bool := false
  rxSleep : Bool := false
  txSleep : Bool := false
  blk : Bool := false
  cdr : Bool := false
  pll : Bool := false
  pre : Nat := 0
  post : Nat := 4
  /-- what the present bring-up took from LN_CFG -/
  rate : Nat := 2
  swing : Nat := 8
  polTx : Bool := false
  polRx : Bool := false
  /-- the taps last in force while UP -/
  upTaps : Option (Nat × Nat) := none
  asking : Bool := false
  retryAt : Option Nat := none
  /-- since when a lost block lock is sought again (R343), or after a wake (R351) -/
  relock : Option Nat := none
  wakeAt : Option Nat := none
  lockAt : Nat := 0
  cvAt : Nat := 0
  gotReady : Nat := 0
  /-- the far end's requests: SEQ last applied and the statuses reported -/
  ack : Nat := 0
  stsPre : Nat := 0
  stsPost : Nat := 0
  /-- this receiver's request: byte 1 [4:0], preset, SEQ, and when its ACK came -/
  req : Nat := 0
  reqPreset : Nat := 0
  seq : Nat := 0
  ackAt : Option Nat := some 0
  lastTx : Nat := 0
  lastRx : Nat := 0
  /-- the transmitter takes no block before this edge count (R351) -/
  txFrom : Nat := 0
  pmSleep : Bool := false
  lockLoss : Nat := 0
  badHdr : Nat := 0
  /-- a scan that runs: its start and its LOG2N -/
  visor : Option (Nat × Nat) := none
  visorErr : Nat := 0
  visorHi : Nat := 0
  prbsLock : Bool := false
  prbsErr : Nat := 0
  /-- injected bits so far, and when the injection in progress ends -/
  inj : Nat := 0
  /-- the bring-up in progress was asked for by LN_CTL.RETRAIN; the injection in progress is a burst (R5) -/
  retrain : Bool := false
  burst : Bool := false
  injEnd : Nat := 0
  deriving DecidableEq, Repr
/-- A frame of a link layer (R356, R358, R359). `stream`: the packet it carries a fragment of, and whether its last (R381); `rec`: it is a
record's part, and whether the last; `local_`: it originates here. -/
structure UlkFrame where
  ftype : Nat
  dst : Nat
  src : Nat
  ttl : Nat
  wrap : Bool
  eseq : Nat
  payload : List Byte
  local_ : Bool
  stream : Option (Nat × Nat × Bool)
  recPart : Option Bool
  deriving DecidableEq, Repr

/-- What a link layer has put on the wire; a frame with the CRC of its EOF (R357). -/
inductive WireOut where
  | frame (link seq : Nat) (f : UlkFrame) (crc : Word)
  | ack (link seq : Nat) (busy : Bool)
  | reset (link n : Nat)
  | keepAlive (link seq : Nat) (busy valid : Bool) (cnt : Nat)
  | train (lane : Nat) (body : List Nat)
  | sleep (lane : Nat)
  | invert (lane bits : Nat)
  deriving DecidableEq, Repr

/-- A neighbour's advertisement (R373, R374): priority, identity, distance, the crown's address, and the edge count it came at. -/
structure Advert where
  pri : Nat
  id : Nat
  dist : Nat
  addr : Nat
  at_ : Nat
  deriving DecidableEq, Repr

/-- One link layer ULK_n beside its registers (R355 to R387). Edge counts for its timers; timestamps in 2^-16 ns of ST. -/
structure UlkSt where
  /-- the link is UP: RESET sent and received with the lane UP -/
  up : Bool := false
  wrapped : Bool := false
  rstSent : Bool := false
  rstGot : Bool := false
  upSince : Nat := 0
  /-- a give-up since the link was last UP restarts UNWRAP_MS; the 500 µs hold before an unwrap ends here -/
  hold : Option Nat := none
  txSeq : Nat := 0
  unacked : List (Nat × UlkFrame) := []
  queue : List UlkFrame := []
  /-- the last frame of class B or C taken from the queue was forwarded -/
  fwdLast : Bool := false
  rxSeq : Nat := 0
  ackValid : Bool := false
  /-- frames are being discarded until `rxSeq` arrives -/
  rxBad : Bool := false
  busySent : Bool := false
  /-- the frame refused with BUSY (R361), and since when the far end's BUSY is in force -/
  refused : Option UlkFrame := none
  busyAt : Nat := 0
  farBusy : Bool := false
  replay : Nat := 0
  replayAt : Nat := 0
  replayGoal : Nat := 0
  resendEnd : Nat := 0
  lastAdv : Nat := 0
  lastAct : Nat := 0
  kaCnt : Nat := 0
  crcErr : Nat := 0
  replays : Nat := 0
  giveups : Nat := 0
  badCtl : Nat := 0
  ttlDrop : Nat := 0
  dup : Nat := 0
  rxqWr : Nat := 0
  tapFar : Option (Nat × Nat) := none
  /-- time transfer: the next TSEQ, when it was last sent, local transmit stamps and receive stamps by TSEQ (newest first), valid measurements -/
  tseq : Nat := 0
  timeAt : Nat := 0
  txSt : List (Nat × Nat) := []
  rxSt : List (Nat × Nat) := []
  delays : List Nat := []
  nValid : Nat := 0
  theta : Int := 0
  thetas : List Int := []
  adv : Option Advert := none
  /-- satellite: attached, identity, since when a DESCRIPTION is awaited, the instant the last SCHED names (2^-48 ns) -/
  sat : Bool := false
  satId : List Word := []
  descAt : Option Nat := none
  schedT : Nat := 0
  /-- the enabled channels in force until `schedT` -/
  satWas : List Word := []
  deriving DecidableEq, Repr

/-- The ring-wide state of ULK_0 (R366 to R379, R387). -/
structure RingSt where
  evt : Nat := 0
  /-- this hub is the crown -/
  crown : Bool := false
  noCrown : Bool := false
  crownPri : Nat := 0
  crownAddr : Nat := 0
  crownId : Nat := 0
  dist : Nat := 0
  /-- the trunk facing the crown -/
  facing : Option Nat := none
  eseq : Nat := 0
  /-- per source address the ESEQ values accepted, newest first (R371) -/
  seen : Tbl (List Nat) := []
  /-- broadcasts that wait to be put on the trunks: type and payload words -/
  sent : List (Nat × List Word) := []
  wire : List WireOut := []
  /-- mailbox: busy, result, tag, the spur link if any, and since when -/
  mbBusy : Bool := false
  mbResult : Nat := 0
  mbTag : Nat := 0
  mbSpur : Option Nat := none
  mbAt : Nat := 0
  deriving DecidableEq, Repr

/-- A satellite channel as its DESCRIPTION declares it (R382), by the remote channel number its contexts name: rate in Q24.8 S/s, period
and delay in units of 2^-32 ns, impulse length in inputs, longest latency in µs; the newest frame's first sample as a global index and
its instant in units of 2^-32 ns, its sample count, when it came (edge count), and whether the inputs from then on are missing. -/
structure SatChan where
  chan : Nat
  rate : Nat
  per : Nat
  dsat : Nat
  dps : Nat
  len : Nat
  maxlat : Nat
  jRef : Nat
  tRef : Nat
  cnt : Nat
  lastRx : Nat
  lost : Bool
  deriving DecidableEq, Repr
/-- One entry of a transmit timestamp queue (R397): its identifier, OVERFLOW, and the instant in 2^-16 ns of ST. -/
structure EthTs where
  id : Nat
  ovf : Bool
  t : Nat
  deriving DecidableEq, Repr

/-- One Ethernet MAC beside its registers (R388 to R398). -/
structure EthSt where
  link : Bool := false
  anDone : Bool := false
  anFail : Bool := false
  speed : Nat := 0
  txHead : Nat := 0
  rxHead : Nat := 0
  /-- descriptors handed over and not yet written back -/
  txGiven : Nat := 0
  rxGiven : Nat := 0
  tsq : List EthTs := []
  tsDrop : Nat := 0
  tsOvf : Bool := false
  /-- the entry the last pop latched -/
  tsLat : Nat := 0
  rxFcs : Nat := 0
  rxSize : Nat := 0
  rxNobuf : Nat := 0
  cause : Nat := 0
  /-- the stream packet being sent: stream, PSEQ, next fragment -/
  cur : Option (Nat × Nat × Nat) := none
  lastStr : Nat := 127
  /-- the last frame sent was a stream's -/
  strLast : Bool := false
  pauseEnd : Nat := 0
  /-- frames sent, newest first, each with its FCS -/
  sent : List (List Byte) := []
  deriving DecidableEq, Repr
/-- One copy of the control core (R401 to R407). `st` 0 SEATED, 1 SPARE, 2 LOADING, 3 PROBATION, 4 SELFTEST, 5 RETIRED; instants of ST in
2^-48 ns, `since` the edge count at which its present state began. -/
structure CopySt where
  st : Nat := 0
  since : Nat := 0
  fail : Nat := 0
  disagree : Nat := 0
  scrub : Nat := 0
  tests : Nat := 0
  faultAt : Nat := 0
  testAt : Nat := 0
  seatedAt : Nat := 0
  /-- in SELFTEST because it failed -/
  bad : Bool := false
  deriving DecidableEq, Repr

/-- Voting, the PLLs and the on-chip memory's ECC (R401 to R415). -/
structure TmrSt where
  copies : List CopySt := [{}, {}, {}, { st := 1 }]
  level : Nat := 0
  levelAt : Nat := 0
  levelNs : Nat := 0
  /-- the copy being loaded or in probation, and whether for a fault recovery -/
  load : Option (Nat × Bool) := none
  pllA : Bool := true
  pllB : Bool := true
  pllSel : Bool := false
  failovers : Nat := 0
  returns : Nat := 0
  pllAt : Nat := 0
  pllPhase : Nat := 0
  /-- since when (edge count) PLL_A has stayed clean while PLL_B is in use -/
  cleanSince : Option Nat := none
  corr : Nat := 0
  uncorr : Nat := 0
  eccAddr : Nat := 0
  latched : Bool := false
  /-- word index the scrubber reads next, and the edge count of its last read -/
  scrubAt : Nat := 0
  scrubClk : Nat := 0
  /-- byte addresses of uncorrectable words not rewritten since -/
  bad : List Nat := []
  deriving DecidableEq, Repr
/-- One power domain of R21 and R75 (R416 to R418). -/
structure DomSt where
  /-- 0 ON; 1 SLOW; 2 GATED; 3 SR, L1 or SLEEP; 4 OFF -/
  st : Nat := 0
  /-- since when (edge count) a request to take the domain down waits, and the state it asks for -/
  waiting : Option (Nat × Nat) := none
  /-- since when (edge count) no holder remains -/
  unheld : Option Nat := none
  /-- while waking: the edge count at which the domain serves its blocks -/
  waking : Option Nat := none
  /-- DRAM: self-refresh has been asked for (R318) -/
  toSr : Bool := false
  deriving DecidableEq, Repr

/-- A move between hub states in progress (R420): its target, the state before, and the edge count it began at. -/
structure PwrMove where
  target : Nat
  old : Nat
  began : Nat
  deriving DecidableEq, Repr

/-- The power manager (R416 to R427). States 0 RUN, 1 TRIM, 2 VIGIL, 3 DORMANT, 4 SAFE. -/
structure PwrSt where
  state : Nat := 0
  rej : Nat := 0
  move : Option PwrMove := none
  doms : Tbl DomSt := []
  /-- domains a PWR_HINT has told are not needed before the next hint -/
  hintOff : List Nat := []
  /-- as last seen by the power manager: the core waits for an interrupt, the host holds the link in L0 -/
  coreWait : Bool := false
  hostL0 : Bool := true
  deriving DecidableEq, Repr

/-- A request for leave that waits (R428 to R432). `dur` in ms; instants in units of 2^-48 ns of ST; waits in ms. -/
structure BgtReq where
  kind : Nat
  req : Nat
  mw : Nat
  dur : Option Nat
  arr : Nat
  wait : Option Nat
  /-- its first tick has passed -/
  queued : Bool
  deriving DecidableEq, Repr

/-- A grant in force (R433); `overrun`: BGT_OVERRUN has been raised for it. -/
structure BgtGrant where
  kind : Nat
  req : Nat
  mw : Nat
  start : Nat
  dur : Option Nat
  overrun : Bool
  deriving DecidableEq, Repr

/-- The budget governor (R428 to R433, R489). The step account S is `accNum / accDen` mA. -/
structure BgtSt where
  queue : List BgtReq := []
  grants : List BgtGrant := []
  accNum : Nat := 0
  accDen : Nat := 1
  lastTick : Nat := 0
  outcome : Nat := 0
  reason : Nat := 0
  lastKind : Nat := 0
  lastReq : Nat := 0
  granted : Nat := 0
  refused : Nat := 0
  /-- the instant whose EXC_ON currents are being counted, the count in units of 2^-12 nA, and whether BGT_EXC_DENIED was raised at it -/
  excAt : Int := 0
  excUa : Nat := 0
  excDenied : Bool := false
  deriving DecidableEq, Repr

/-- The PCI Express endpoint (R446 to R449) and the writable part of its configuration space. -/
structure PcieSt where
  up : Bool := false
  bme : Bool := false
  mem : Bool := false
  dstate : Nat := 0
  width : Nat := 0
  bar0 : Nat := 0
  bar2 : Nat := 0
  devCtl : Nat := 0
  msixCtl : Nat := 0
  deriving DecidableEq, Repr

/-- Start-up and the resets (R435 to R441). Edge counts for its waits. `step` 0 until the first edge, then 3, 4, 5, 7, 8 (8, 9 and 10 side by side), 11, 12, 13, 14, 15. -/
structure BootSt where
  step : Nat := 0
  since : Nat := 0
  /-- how many times the boot ROM has run since power-up, which numbers what the flash then held -/
  boots : Nat := 0
  /-- SYS_START.GO has been written in this start-up; the edge count at which step 7 ended -/
  go : Bool := false
  goAt : Nat := 0
  done8 : Bool := false
  done9 : Bool := false
  done10 : Bool := false
  refusals : Nat := 0
  dramFail : Bool := false
  laneLate : Bool := false
  timeLate : Bool := false
  calFail : Bool := false
  skewFail : Bool := false
  ready : Bool := false
  /-- the slices whose first recalibration step 12 awaits -/
  slices : List Nat := []
  /-- step 12: the skew measurement runs -/
  skew : Bool := false
  /-- step 14: the instant it awaits where no grid is marked (2^-48 ns of ST) -/
  readyAt : Option Nat := none
  /-- SYS_RESET_CAUSE: CORE 8, SW 4, RST 2, POR 1 -/
  cause : Nat := 1
  deriving DecidableEq, Repr

/-- The management core's surroundings (R438 to R440, R452, R453): `st` 0 ROM, 1 running, 3 NOIMAGE. -/
structure MgmtSt where
  st : Nat := 0
  alt : Bool := false
  /-- while the boot ROM runs: the edge count by which it hands over -/
  bootEnd : Option Nat := none
  mtimecmp : Nat := 0
  ie : List Word := List.replicate 8 0
  /-- the machine timer interrupt: MTIME has reached MTIMECMP (R453) -/
  timer : Bool := true
  qfifo : List Byte := []
  /-- a QSPI transaction ends at this edge count -/
  qEnd : Nat := 0
  /-- transactions driven on the QSPI pins, newest first: opcode, address, bytes sent -/
  qOut : List (Nat × Nat × List Byte) := []
  deriving DecidableEq, Repr

/-- What an accepted QUOTE has snapshot (R443). -/
structure AttSnap where
  meas : List (BitVec 384)
  cnt : List Nat
  nonce : List Word
  st : Nat
  at_ : Nat
  deriving DecidableEq, Repr

/-- Attestation (R442 to R445). -/
structure AttSt where
  meas : List (BitVec 384) := List.replicate 8 0
  cnt : List Nat := List.replicate 8 0
  rej : Nat := 0
  snap : Option AttSnap := none
  /-- a word the configuration digest covers has been written since the QUOTE was accepted (R444) -/
  changed : Bool := false
  quote : List Word := []
  deriving DecidableEq, Repr

/-- The serial management port (R450, R451): counts and the response of the last frame. -/
structure SmpSt where
  frames : Nat := 0
  crcErr : Nat := 0
  aborts : Nat := 0
  out : List Nat := []
  deriving DecidableEq, Repr

/-- Supplies and PPS_OUT (R463, R464, R471). -/
structure SupplySt where
  /-- a reset is held: POR_N low, or VDD_CORE below its range (R463) -/
  held : Bool := false
  avddLow : Bool := false
  dips : Nat := 0
  excLow : Bool := false
  ppsHigh : Bool := false
  /-- the whole second of ST the pulse under way, or the last one, started at -/
  ppsSec : Nat := 0
  deriving DecidableEq, Repr
/-- Who can make a step stop. -/
inductive Fault where
  /-- Raised by no command: nothing in this hub stops a step. Kept so that the type is not empty. Safe. -/
  | none
  deriving DecidableEq, Repr

/-- Why a command has no outcome. -/
inductive Refusal where
  /-- The command has no meaning in this model yet: raised by the dispatch alone. Safe. -/
  | notModelled (mnemonic : String)
  deriving DecidableEq, Repr

/-- The hub. -/
structure State where
  /-- commands that wait, first in, first out -/
  pending : List Instr := []
  /-- structure time ST in units of 2^-48 ns since the epoch (R43) -/
  st : Nat := 0
  /-- timebase clock edges since power-up: the clock of the durations the spec gives in plain time -/
  clk : Nat := 0
  /-- how many open values a run has asked for (`Config.freeNat`) -/
  freeCtr : Nat := 0
  /-- RW and LK bits of every register by BAR_0 offset, where they differ from reset -/
  regs : Tbl Word := []
  hdr : Tbl PageHdr := []
  locks : Tbl PageLock := []
  bad : BadAcc := {}
  /-- what the last read command returned, word by word -/
  lastRead : List Word := []
  msi : MsiSt := {}
  /-- on-chip SRAM bytes by DMA space 0 address (R32, R321) -/
  sram : List Host.Cell := []
  /-- external memory bytes -/
  dramMem : List Host.Cell := []
  tb : TbSt := {}
  ax : Tbl AxSt := []
  grids : Tbl GridSt := []
  gctl : GridCtl := {}
  sched : SchedSt := {}
  pwr : PwrSt := {}
  bgt : BgtSt := {}
  slices : Tbl SliceSt := []
  mitts : Tbl MittSt := []
  ctxs : Tbl CtxSt := []
  /-- earlier runs with outputs still to come, oldest first -/
  tails : List TailSt := []
  feng : FengSt := {}
  align : AlignSt := {}
  units : Tbl UnitSt := []
  trig : TrigCtl := {}
  recs : Tbl (Option RecSlot) := []
  cmps : Tbl CmpSt := []
  cmpc : CmpCtl := {}
  strs : Tbl StrSt := []
  store : StoreSt := {}
  ring : RingSt := {}
  eths : Tbl EthSt := []
  ulks : Tbl UlkSt := []
  dram : DramSt := {}
  dma : DmaSt := {}
  lanes : Tbl LaneSt := []
  tmr : TmrSt := {}
  pcie : PcieSt := {}
  boot : BootSt := {}
  mgmt : MgmtSt := {}
  att : AttSt := {}
  smp : SmpSt := {}
  supply : SupplySt := {}
  otp : OtpSt := {}
  cals : Tbl CalSl := []
  calctl : CalCtl := {}
  loops : Tbl LoopSt := []
  loopOld : List LoopOld := []
  tiu : TiuSt := {}
  sats : List SatChan := []
  deriving DecidableEq, Repr

/-- The hub right after reset (R435): every field at its reset value, memories with nothing listed, no command waiting. -/
def State.reset : State := {}

end Sys2Proof.Machine
end

