-- ==== Sys2Proof/Machine/Ops.lean ====
section
/-! DEFINITION. The named operations every command shares: register storage, the event fabric, the access checks, structure time
and durations, the memories, and open values. -/

namespace Sys2Proof.Machine

/-! ### Registers and units -/

/-- The stored RW and LK bits of the register at a BAR_0 offset. -/
def State.rw (s : State) (a : Nat) : Word := tget regReset s.regs a

/-- Store a register's RW and LK bits. -/
def State.setRw (s : State) (a : Nat) (v : Word) : State := { s with regs := tset regReset s.regs a v }

/-- Replace one field of a stored register. -/
def State.setFld (s : State) (a hi lo v : Nat) : State :=
  s.setRw a (word ((s.rw a).toNat - (fld (s.rw a) hi lo) <<< lo + (v % 2 ^ (hi + 1 - lo)) <<< lo))

/-- A page's header after reset (R27). -/
def hdr0 (_ : Nat) : PageHdr := {}
/-- A page's lock after reset (R28). -/
def lock0 (_ : Nat) : PageLock := {}
/-- A domain after reset: ON (R416). -/
def dom0 (_ : Nat) : DomSt := {}
def ax0 (_ : Nat) : AxSt := {}
def grid0 (_ : Nat) : GridSt := {}
def ent0 (_ : Nat) : Option SchEnt := none
def slice0 (_ : Nat) : SliceSt := {}
def mitt0 (_ : Nat) : MittSt := {}
def keep0 (_ : Nat) : SlotKeep := {}
def unit0 (_ : Nat) : UnitSt := {}
def cal0 (_ : Nat) : CalSl := {}
def loop0 (_ : Nat) : LoopSt := {}
def tiu0 (_ : Nat) : TiuCh := {}
def rec0 (_ : Nat) : Option RecSlot := none
def cmp0 (_ : Nat) : CmpSt := {}
def str0 (_ : Nat) : StrSt := {}
def dma0 (_ : Nat) : DmaCh := {}
def eth0 (_ : Nat) : EthSt := {}
def ulk0 (_ : Nat) : UlkSt := {}
def lane0 (_ : Nat) : LaneSt := {}

/-- The descriptor words a context holds after reset (R126, R160, R226: the tables' reset values). -/
def ctxDesc0 : List Word :=
  [0, 0x00300005, 0x01000000, 128, 0x00080800, 0, 0, 0, 0, 0, 0, 0, 0, 0, 0, 0, 0, 1, 0, 0, 0, 0, 0x00010000, 0,
   0, 0, 0, 0, 0, 0, 0, 0]

def ctx0 (_ : Nat) : CtxSt := { desc := ctxDesc0 }

def State.page (s : State) (p : Nat) : PageHdr := tget hdr0 s.hdr p
def State.lock (s : State) (p : Nat) : PageLock := tget lock0 s.locks p
def State.dom (s : State) (d : Nat) : DomSt := tget dom0 s.pwr.doms d
def State.axis (s : State) (n : Nat) : AxSt := tget ax0 s.ax n
def State.grid (s : State) (n : Nat) : GridSt := tget grid0 s.grids n
def State.slice (s : State) (n : Nat) : SliceSt := tget slice0 s.slices n
def State.mitt (s : State) (n : Nat) : MittSt := tget mitt0 s.mitts n
def State.ctx (s : State) (n : Nat) : CtxSt := tget ctx0 s.ctxs n
def State.trigUnit (s : State) (n : Nat) : UnitSt := tget unit0 s.units n
def State.cmp (s : State) (n : Nat) : CmpSt := tget cmp0 s.cmps n
def State.str (s : State) (n : Nat) : StrSt := tget str0 s.strs n
def State.lane (s : State) (n : Nat) : LaneSt := tget lane0 s.lanes n
def State.setLane (s : State) (n : Nat) (v : LaneSt) : State := { s with lanes := tset lane0 s.lanes n v }
def State.ulk (s : State) (n : Nat) : UlkSt := tget ulk0 s.ulks n
def State.setUlk (s : State) (n : Nat) (v : UlkSt) : State := { s with ulks := tset ulk0 s.ulks n v }
def State.eth (s : State) (n : Nat) : EthSt := tget eth0 s.eths n
def State.setEth (s : State) (n : Nat) (v : EthSt) : State := { s with eths := tset eth0 s.eths n v }
def State.dmaCh (s : State) (n : Nat) : DmaCh := tget dma0 s.dma.chans n
def State.setDma (s : State) (n : Nat) (v : DmaCh) : State := { s with dma := { s.dma with chans := tset dma0 s.dma.chans n v } }
def State.recSlot (s : State) (n : Nat) : Option RecSlot := tget rec0 s.recs n

def State.cal (s : State) (n : Nat) : CalSl := tget cal0 s.cals n
def State.tch (s : State) (n : Nat) : TiuCh := tget tiu0 s.tiu.chans n
def State.setTch (s : State) (n : Nat) (v : TiuCh) : State := { s with tiu := { s.tiu with chans := tset tiu0 s.tiu.chans n v } }
def State.loop (s : State) (n : Nat) : LoopSt := tget loop0 s.loops n

def State.setCal (s : State) (n : Nat) (v : CalSl) : State := { s with cals := tset cal0 s.cals n v }
def State.setLoop (s : State) (n : Nat) (v : LoopSt) : State := { s with loops := tset loop0 s.loops n v }
def State.setPage (s : State) (p : Nat) (h : PageHdr) : State := { s with hdr := tset hdr0 s.hdr p h }
def State.setLock (s : State) (p : Nat) (l : PageLock) : State := { s with locks := tset lock0 s.locks p l }
def State.setDom (s : State) (d : Nat) (v : DomSt) : State := { s with pwr := { s.pwr with doms := tset dom0 s.pwr.doms d v } }
def State.setAxis (s : State) (n : Nat) (v : AxSt) : State := { s with ax := tset ax0 s.ax n v }
def State.setGrid (s : State) (n : Nat) (v : GridSt) : State := { s with grids := tset grid0 s.grids n v }
def State.setSlice (s : State) (n : Nat) (v : SliceSt) : State := { s with slices := tset slice0 s.slices n v }
def State.setMitt (s : State) (n : Nat) (v : MittSt) : State := { s with mitts := tset mitt0 s.mitts n v }
def State.setCtx (s : State) (n : Nat) (v : CtxSt) : State := { s with ctxs := tset ctx0 s.ctxs n v }
def State.setUnit (s : State) (n : Nat) (v : UnitSt) : State := { s with units := tset unit0 s.units n v }
def State.setCmp (s : State) (n : Nat) (v : CmpSt) : State := { s with cmps := tset cmp0 s.cmps n v }
def State.setStr (s : State) (n : Nat) (v : StrSt) : State := { s with strs := tset str0 s.strs n v }
def State.setRec (s : State) (n : Nat) (v : Option RecSlot) : State := { s with recs := tset rec0 s.recs n v }

/-- What a read command returned. -/
def State.answer (s : State) (w : Word) : State := { s with lastRead := [w] }

/-! ### Pages by name (R24) -/

def pSYS : Nat := 0x00
def pEVT : Nat := 0x01
def pPWR : Nat := 0x02
def pBGT : Nat := 0x03
def pTMR : Nat := 0x04
def pATT : Nat := 0x05
def pOTP : Nat := 0x06
def pMGMT : Nat := 0x07
def pTBASE : Nat := 0x08
def pSCHED : Nat := 0x09
def pAXIS : Nat := 0x0A
def pTIU : Nat := 0x0B
def pCAL : Nat := 0x0C
def pFENG : Nat := 0x0D
def pGRID : Nat := 0x0E
def pLOOP : Nat := 0x0F
def pTRIG : Nat := 0x10
def pCAPT : Nat := 0x11
def pCMP : Nat := 0x12
def pQUE : Nat := 0x13
def pSTORE : Nat := 0x14
def pDRAM : Nat := 0x15
def pDMA : Nat := 0x16
def pSMP : Nat := 0x17
def pPCIE : Nat := 0x18
def pETH (n : Nat) : Nat := 0x19 + n
def pLANE (n : Nat) : Nat := 0x20 + n
def pULK (n : Nat) : Nat := 0x30 + n
def pMITT (m : Nat) : Nat := 0x40 + m
def pSLICE (n : Nat) : Nat := 0x80 + n

/-! ### Structure time (R43) and durations -/

/-- One nanosecond of ST in units of 2^-48 ns. -/
def nsU : Nat := 2 ^ 48
def usU : Nat := 1000 * nsU
/-- One timestamp step, 2^-7 ns, in units of 2^-48 ns (R178). -/
def tsU : Nat := 2 ^ 41
def msU : Nat := 1000000 * nsU
def secU : Nat := 1000000000 * nsU

def State.sec (s : State) : Nat := s.st / secU
def State.ns (s : State) : Nat := s.st % secU / nsU

/-- The nanoseconds within its second of an instant. -/
def nsOf (t : Nat) : Nat := t % secU / nsU
/-- The second of an instant. -/
def secOf (t : Nat) : Nat := t / secU

/-- Whether `ns` nanoseconds of plain time have passed since an edge count. -/
def State.passed (s : State) (since ns : Nat) : Bool := decide (since + ns ≤ s.clk)

/-! ### The event fabric (R29, R38 to R42) -/

/-- The fabric event a page's local bit maps to (R38). -/
def evOf (p b : Nat) : Option Nat :=
  match blockOf p with
  | none => none
  | some k =>
    if b < blockNev k then
      match k with
      | 0x00 => some b
      | 0x02 => some (8 + b)
      | 0x03 => some (14 + b)
      | 0x04 => some (20 + b)
      | 0x05 => some (26 + b)
      | 0x06 => some (28 + b)
      | 0x07 => some (30 + b)
      | 0x08 => some (32 + b)
      | 0x09 => some (42 + b)
      | 0x0A => some (48 + b)
      | 0x0B => some (56 + b)
      | 0x0C => some (64 + b)
      | 0x0D => some (70 + b)
      | 0x0E => some (78 + b)
      | 0x0F => some (84 + b)
      | 0x10 => some (96 + b)
      | 0x11 => some (112 + b)
      | 0x12 => some (128 + b)
      | 0x13 => some (136 + b)
      | 0x14 => some (152 + b)
      | 0x15 => some (160 + b)
      | 0x16 => some (168 + b)
      | 0x17 => some (176 + b)
      | 0x18 => some (178 + b)
      | 0x19 => some (184 + 4 * (p - 0x19) + b)
      | 0x20 => some (192 + (p - 0x20))
      | 0x30 => some (204 + (p - 0x30))
      | 0x40 => some (224 + (p - 0x40))
      | 0x80 => some (240 + (p - 0x80) / 4)
      | _ => none
    else none

/-- Whether a page's latched bit is enabled onto the fabric. -/
def State.evBit (s : State) (p b : Nat) : Bool := bit (s.page p).stat b && bit (s.page p).en b

/-- The ring-wide events EV_212 to EV_217 stand while RING_EVT and RING_EVT_EN both hold the bit (R373). -/
def ringEvBit (ringEvt ringEn : Nat) (n : Nat) : Bool := ringEvt.testBit (n - 212) && ringEn.testBit (n - 212)

/-- The level of a page's summary or mapped event (R39). -/
def State.pageAny (s : State) (p : Nat) : Bool := ((s.page p).stat &&& (s.page p).en) != 0

/-- A fabric event's level (R39). -/
def State.evLevel (s : State) (n : Nat) : Bool :=
  if n < 192 then
    let f (p base : Nat) : Bool := s.evBit p (n - base) && decide (n - base < blockNev ((blockOf p).getD 0xFF))
    if n < 8 then f pSYS 0
    else if n < 14 then f pPWR 8
    else if n < 20 then f pBGT 14
    else if n < 26 then f pTMR 20
    else if n < 28 then f pATT 26
    else if n < 30 then f pOTP 28
    else if n < 32 then f pMGMT 30
    else if n < 42 then f pTBASE 32
    else if n < 48 then f pSCHED 42
    else if n < 56 then f pAXIS 48
    else if n < 64 then f pTIU 56
    else if n < 70 then f pCAL 64
    else if n < 78 then f pFENG 70
    else if n < 84 then f pGRID 78
    else if n < 96 then f pLOOP 84
    else if n < 112 then f pTRIG 96
    else if n < 128 then f pCAPT 112
    else if n < 136 then f pCMP 128
    else if n < 152 then f pQUE 136
    else if n < 160 then f pSTORE 152
    else if n < 168 then f pDRAM 160
    else if n < 176 then f pDMA 168
    else if n < 178 then f pSMP 176
    else if n < 184 then f pPCIE 178
    else if n < 188 then f (pETH 0) 184
    else f (pETH 1) 188
  else if n < 204 then s.pageAny (pLANE (n - 192))
  else if n < 212 then s.pageAny (pULK (n - 204))
  else if n < 224 then ringEvBit s.ring.evt (s.rw 0x30224).toNat n
  else if n < 240 then s.pageAny (pMITT (n - 224))
  else (List.range 4).any (fun i => s.pageAny (pSLICE (4 * (n - 240) + i)))

/-- EV_ROUTE_n (R40, R41). -/
def State.route (s : State) (n : Nat) : Word := s.rw (0x1400 + 4 * n)

/-- An MSI-X vector's pending level (R41). -/
def State.vecLevel (s : State) (v : Nat) : Bool :=
  (List.range 256).any (fun n => bit (s.route n) 13 && decide (fld (s.route n) 12 8 = v) && s.evLevel n)

/-- Whether a vector is masked in the MSI-X table. -/
def State.vecMasked (s : State) (v : Nat) : Bool := bit (s.rw (0x1880C + 0x10 * v)) 0

/-- Pin INT_N_j is driven low while a routed event is high (R40). -/
def State.intLow (s : State) (j : Nat) : Bool :=
  (List.range 256).any (fun n => bit (s.route n) 2 && decide (fld (s.route n) 1 0 = j) && s.evLevel n)

/-- Post a vector's message, or set its pending bit while it is masked (R41). -/
def postVec (v : Nat) (s : State) : State :=
  if s.vecMasked v then { s with msi := { s.msi with pba := if v ∈ s.msi.pba then s.msi.pba else v :: s.msi.pba } }
  else { s with msi := { s.msi with posted := v :: s.msi.posted } }

/-- After a change that may have raised fabric event `n`: post its vector's message if the vector's level has risen over what it
was in `s0` (R41). -/
def msiRise (n : Nat) (s0 s : State) : State :=
  if bit (s.route n) 13 && s.evLevel n && !(s0.vecLevel (fld (s.route n) 12 8)) then postVec (fld (s.route n) 12 8) s else s

/-- Post the message of every vector whose level has risen over what it was in `s0`. -/
def msiSync (s0 s : State) : State :=
  (List.range 32).foldl (fun t v => if s.vecLevel v && !(s0.vecLevel v) then postVec v t else t) s

/-- Latch a local event (R29) and deliver it to its vector; the wake of R424 apart. -/
def latch (p b : Nat) (s : State) : State :=
  let h := s.page p
  let s1 := s.setPage p { h with stat := h.stat ||| word (2 ^ b) }
  match evOf p b with
  | some n => msiRise n s s1
  | none => s1

/-- PWR_CFG.WAKE_TO as a hub state (R424). -/
def wakeTarget (s : State) : Nat := if bit (s.rw 0x2100) 4 then 1 else 0

/-- A wake source arises (R424): a VIGIL or DORMANT hub starts its move to the wake state, or a move into VIGIL or DORMANT is
abandoned with reason WAKE. -/
def wakeHub (s : State) : State :=
  match s.pwr.move with
  | some m =>
    if m.target = 2 ∨ m.target = 3 then
      latch pPWR 3 (latch pPWR 4 { s with pwr := { s.pwr with move := none, state := m.old, rej := 8 } })
    else s
  | none =>
    if s.pwr.state = 2 ∨ s.pwr.state = 3 then
      latch pPWR 4 { s with pwr := { s.pwr with move := some ⟨wakeTarget s, s.pwr.state, s.clk⟩ } }
    else s

/-- Raise a local event: latch it, and wake the hub where the rise of its fabric event is a wake source (R29, R424). -/
def raise (p b : Nat) (s : State) : State :=
  let s1 := latch p b s
  match evOf p b with
  | some n =>
    if bit (s.rw (0x2140 + 4 * (n / 32))) (n % 32) && s1.evLevel n && !(s.evLevel n) then wakeHub s1 else s1
  | none => s1

/-- Raise an event when a condition holds. -/
def raiseIf (c : Bool) (p b : Nat) (s : State) : State := if c then raise p b s else s

/-- A condition's present state (EVT_RAW): the event is raised where the condition rises (R29). -/
def setRaw (p b : Nat) (on : Bool) (s : State) : State :=
  let h := s.page p
  let s1 := s.setPage p { h with raw := if on then h.raw ||| word (2 ^ b) else h.raw &&& ~~~(word (2 ^ b)) }
  raiseIf (on && !(bit h.raw b)) p b s1

/-! ### The access checks (R25, R26) -/

/-- The power domain of a page (R21, R75). -/
def pageDomain (p : Nat) : Nat :=
  if p = pMGMT ∨ p = pATT then 32
  else if p = pTIU ∨ p = pCAL ∨ p = pFENG ∨ p = pGRID ∨ p = pLOOP ∨ (pTRIG < p ∧ p ≤ pSTORE) ∨ p = pDMA then 17
  else if p = pDRAM then 18
  else if p = pPCIE then 31
  else if p = 0x19 ∨ p = 0x1A then 19 + 8 + (p - 0x19)
  else if 0x20 ≤ p ∧ p ≤ 0x2B then 19 + (p - 0x20)
  else if 0x30 ≤ p ∧ p ≤ 0x37 then 19 + (p - 0x30)
  else if 0x40 ≤ p ∧ p ≤ 0x4F then 1 + (p - 0x40)
  else if 0x80 ≤ p ∧ p ≤ 0xBF then 1 + (p - 0x80) / 4
  else 0

/-- The page's power domain is off. Only the state of the domain itself counts: R464 lists what AVDD_LOW makes a mitten domain count as off for, and
whether its registers then answer cause 3 is left open (DESIGN CHOICE, log entry 112: they go on answering). -/
def State.domOff (s : State) (p : Nat) : Bool := decide ((s.dom (pageDomain p)).st = 4)

/-- Whether an offset below 0x100 is a header register (R27). -/
def headerOff (off : Nat) : Bool :=
  decide (off ∈ [0x000, 0x004, 0x008, 0x010, 0x014, 0x020, 0x024, 0x028, 0x02C, 0x030])

/-- Why an access to a BAR_0 offset is faulty, if it is (R26): the cause code. Where several hold the spec gives no order: an unused page is named
first, then an unassigned offset, then the domain, then the page reset (DESIGN CHOICE, log entry 112). -/
def State.accessFault (s : State) (a : Nat) : Option Nat :=
  let p := a / 0x1000
  let off := a % 0x1000
  if 0x100 ≤ p ∨ blockOf p = none then some 1
  else if headerOff off then none
  else if off < 0x100 ∨ findReg p (off / 4 * 4) = none then some 2
  else if s.domOff p then some 3
  else if (s.page p).rstEnd.isSome then some 4
  else none

/-- Record a faulty access and raise BAD_ACCESS (R26). -/
def badAccess (src a : Nat) (wr : Bool) (cause : Nat) (s : State) : State :=
  let s1 := if bit (s.page pSYS).stat 0 then s else { s with bad := ⟨a % 2 ^ 20, wr, src, cause⟩ }
  raise pSYS 0 s1

/-- A locked write: LOCK_WRITE, and BAD_ACCESS with cause 5 (R26). -/
def lockedWrite (src a : Nat) (s : State) : State := raise pSYS 1 (badAccess src a true 5 s)

/-- Run a write's effect where the access is sound; otherwise the write is ignored and reported (R26). -/
def onWrite (src a : Nat) (f : State → State) (s : State) : State :=
  match s.accessFault a with
  | some c => badAccess src a true c s
  | none => f s

/-- Run a read where the access is sound; otherwise it reads 0 and is reported (R26). -/
def onRead (src a : Nat) (f : State → State) (s : State) : State :=
  match s.accessFault a with
  | some c => (badAccess src a false c s).answer 0
  | none => f s

/-- The word a write leaves in a register's stored bits: RW bits as written, LK bits as written unless the page is locked. -/
def mergeWord (r : RegDef) (locked : Bool) (old v : Word) : Word :=
  let m := word (if locked then r.rw else r.rw ||| r.lk)
  (old &&& ~~~m) ||| (v &&& m)

/-- Whether a write would change an LK bit (R26). -/
def changesLk (r : RegDef) (old v : Word) : Bool := ((old ^^^ v) &&& word r.lk) != 0

/-- A plain write of a register's RW and LK bits, with the lock check (R26). -/
def storeReg (src a : Nat) (v : Word) (s : State) : State :=
  match findReg (a / 0x1000) (a % 0x1000) with
  | none => s
  | some r =>
    let lk := (s.lock (a / 0x1000)).locked
    let old := s.rw a
    let s1 := s.setRw a (mergeWord r lk old v)
    if lk && changesLk r old v then lockedWrite src a s1 else s1

/-! ### OTP trim (R109) -/

/-- An OTP word by its byte address: the fixed header words and reserved words as the spec gives them, else the part's own. -/
def State.otpWord (_ : State) (a : Nat) : Word :=
  if a = 0 then 1
  else if a = 4 then 0xB0
  else if 0x1C ≤ a ∧ a < 0x40 then 0
  else if 0x40 ≤ a ∧ a < 0x240 ∧ 5 ≤ a % 0x20 / 4 then 0
  else if 0x640 ≤ a ∧ a < 0x2640 ∧ a % 0x10 / 4 = 3 then 0
  else if 0x2640 ≤ a then 0
  else Config.otp (a / 4)

/-! ### Open values -/

/-- The next open value, and the state that has asked for it. -/
def State.free (s : State) : Nat × State := (Config.freeNat s.freeCtr, { s with freeCtr := s.freeCtr + 1 })

/-! ### Memories (R32, R33) -/

/-- The reset word of a descriptor table's word, by table-region offset (the Reset columns of R63, R67, R126, R134, R203, R230,
R231, R277). -/
def tableReset (o : Nat) : Word :=
  if o < 0x20000 then ctxDesc0.getD (o % 0x80 / 4) 0
  else if 0x51000 ≤ o ∧ o < 0x52000 then
    let i := o % 0x80 / 4
    if i = 0 then 0x41000000 else if i = 2 then 10 else if i = 3 then 600
    else if 8 ≤ i ∧ (i - 8) % 3 = 2 then 1 else 0
  else if 0x52000 ≤ o ∧ o < 0x53000 then
    let i := o % 0x100 / 4
    if i = 0 then 0x00400100 else if i = 7 then 0x80017FFF else if i = 12 then 0x80017FFF
    else if i = 17 then 0x00640028 else 0
  else if 0x53000 ≤ o ∧ o < 0x54000 then
    let i := o % 0x20 / 4
    if i = 1 then 0x00640400 else if i = 2 then 64 else if i = 3 then 65536 else 0
  else 0

/-- The bits of a context descriptor's words that a write sets (R126, R160, R226, R252, R275). -/
def ctxMask : List Word :=
  [0xFFFF3FF7, 0x0FF3FF77, 0x1FFF011F, 0x0007FFFF, 0x000F0F07, 0x0000FFFF, 0, 0, 0x807F0000, 0x807F0000, 0x80FFFFFF, 0x00FFFFFF,
   0xC0FFFFFF, 0x00FFFFFF, 0x00FFFFFF, 0xFFFFFFFF, 0x00FFFFFF, 0x00FFFFFF, 0x00FFFFFF, 0, 0xFFFFFFFF, 0xFFFFFFFF, 0xFFFF0000, 0,
   0, 0, 0, 0, 0, 0, 0, 0]

/-- Those of a loop descriptor's words (R225). -/
def loopMask : List Word :=
  [0x17FF1F3F, 0x0000FFFF, 0x000FFFFF, 0x000FFFFF, 0x000FFFFF, 0x0000FFFF, 0x000FFFFF, 0xFFFFFFFF, 0x000FFFFF, 0x0003FFFF, 0x000FFFFF,
   0x000FFFFF, 0xFFFFFFFF, 0x0001FFFF, 0xFFFFFFFF, 0xFFFFFFFF, 0xFFFFFFFF, 0x0FFFFFFF]

/-- The bits of a descriptor table's word that a write sets, by table-region offset; reserved and RO bits read 0 and ignore writes
(R4, R5 and the tables of R63, R67, R126, R134, R207, R225, R230, R231, R277). -/
def tblMask (o : Nat) : Word :=
  if o < 0x20000 then ctxMask.getD (o % 0x80 / 4) 0
  else if o < 0x20400 then [0x000F03FF, 0x00007FFF, 0x00007FFF, 0xFFFFFFFF, 0x00000003].getD (o % 0x20 / 4) 0
  else if o < 0x50000 then 0xFFFFFFFF
  else if o < 0x51000 then [0x00000007, 0xFFFFFFFF, 0xFFFFFFFF, 0x3FFFFFFF, 0xFFFFFFFF, 0xFFFFFFFF, 0xFFFFFFFF, 0xFFFFFFFF, 0xFFFFFFFF,
    0xFFFFFFFF, 0xFFFFFFFF].getD (o % 0x40 / 4) 0
  else if o < 0x52000 then
    let i := o % 0x80 / 4
    if i < 8 then [0xFF0000FF, 0x00FFFFFF, 0x0000FFFF, 0x0000FFFF].getD i 0
    else [0xFF0003FF, 0xFFFFFFFF, 0x001F1FFF].getD ((i - 8) % 3) 0
  else if o < 0x53000 then loopMask.getD (o % 0x100 / 4) 0
  else if o < 0x54000 then [0x0717FF00, 0xFFFF0FFF, 0x00FFFFFF, 0xFFFFFFFF, 0x0000FFFF].getD (o % 0x20 / 4) 0
  else if o < 0x58000 then 0xFFFFFFFF
  else 0

/-- Where the table region begins in DMA space 0. -/
def tblBase : Nat := 0x400000

/-- What an unlisted SRAM byte reads as: the table region's reset words, else 0. -/
def sram0 (a : Nat) : Byte :=
  if tblBase ≤ a ∧ a < tblBase + 0x58000 then
    BitVec.ofNat 8 ((tableReset ((a - tblBase) / 4 * 4)).toNat >>> (8 * (a % 4)))
  else 0

/-- What an unlisted external-memory byte reads as. -/
def dram0 (_ : Nat) : Byte := 0

def State.sramB (s : State) (a : Nat) : Byte := tget sram0 s.sram a
def State.setSramB (s : State) (a : Nat) (b : Byte) : State := { s with sram := tset sram0 s.sram a b }
def State.dramB (s : State) (a : Nat) : Byte := tget dram0 s.dramMem a
def State.setDramB (s : State) (a : Nat) (b : Byte) : State := { s with dramMem := tset dram0 s.dramMem a b }

/-- A little-endian word of four byte values. -/
def leWord (b0 b1 b2 b3 : Byte) : Word :=
  word (b0.toNat + 2 ^ 8 * b1.toNat + 2 ^ 16 * b2.toNat + 2 ^ 24 * b3.toNat)

/-- Byte `i` of a word, little-endian. -/
def byteOf (w : Word) (i : Nat) : Byte := BitVec.ofNat 8 (w.toNat >>> (8 * i))

def State.sramW (s : State) (a : Nat) : Word := leWord (s.sramB a) (s.sramB (a + 1)) (s.sramB (a + 2)) (s.sramB (a + 3))
/-- A whole word is written: an uncorrectable one is so no longer (R413). -/
def State.healSram (s : State) (a : Nat) : State :=
  { s with tmr := { s.tmr with bad := s.tmr.bad.filter (fun x => decide (x ≠ a)) } }
def State.setSramW (s : State) (a : Nat) (w : Word) : State :=
  ((((s.setSramB a (byteOf w 0)).setSramB (a + 1) (byteOf w 1)).setSramB (a + 2) (byteOf w 2)).setSramB (a + 3) (byteOf w 3)).healSram a
def State.dramW (s : State) (a : Nat) : Word := leWord (s.dramB a) (s.dramB (a + 1)) (s.dramB (a + 2)) (s.dramB (a + 3))
/-- A whole beat is written: what was wrong with the stored one is gone (R311, R316). -/
def State.healBeat (s : State) (a : Nat) : State :=
  { s with dram := { s.dram with badU := s.dram.badU.filter (fun x => decide (x ≠ a)), badC := s.dram.badC.filter (fun x => decide (x ≠ a)) } }
def State.setDramW (s : State) (a : Nat) (w : Word) : State :=
  ((((s.setDramB a (byteOf w 0)).setDramB (a + 1) (byteOf w 1)).setDramB (a + 2) (byteOf w 2)).setDramB (a + 3) (byteOf w 3)).healBeat a

/-- Write words to external memory from a byte address on. -/
def State.setDramWs (s : State) (a : Nat) (ws : List Word) : State :=
  ((List.range ws.length).zip ws).foldl (fun t x => t.setDramW (a + 4 * x.1) x.2) s

/-- Read `n` words of external memory from a byte address on. -/
def State.dramWs (s : State) (a : Nat) : Nat → List Word
  | 0 => []
  | n + 1 => s.dramW a :: State.dramWs s (a + 4) n

/-- A table-region word by its offset in the region. -/
def State.tblW (s : State) (o : Nat) : Word := s.sramW (tblBase + o)
/-- A word the configuration digest covers is written or committed: a quote being formed is CHANGED (R444). -/
def State.touch (s : State) : State := if s.att.snap.isSome then { s with att := { s.att with changed := true } } else s
def State.setTblW (s : State) (o : Nat) (w : Word) : State :=
  if 0x20000 ≤ o then (s.setSramW (tblBase + o) w).touch else s.setSramW (tblBase + o) w

/-- What a write of `w` leaves in a table-region word: its writable bits as written, the others as they stand. -/
def State.tblMerge (s : State) (o : Nat) (w : Word) : Word := (s.tblW o &&& ~~~tblMask o) ||| (w &&& tblMask o)

/-- A word of a table range is uncorrectable and not rewritten since: what would take it is refused as a refused encoding (R413). -/
def tblBad (s : State) (o n : Nat) : Bool := s.tmr.bad.any (fun a => decide (tblBase + o ≤ a ∧ a < tblBase + o + n))

/-- `n` table-region words from an offset on. -/
def State.tblWs (s : State) (o : Nat) : Nat → List Word
  | 0 => []
  | n + 1 => s.tblW o :: State.tblWs s (o + 4) n

/-- The memories' canonical form: addresses rising strictly, no byte listed that an unlisted address would read as. -/
abbrev Memory.wf (d : Nat → Byte) (m : List Host.Cell) : Prop := tcanon d m = true

end Sys2Proof.Machine
end

