-- ==== Sys2Proof/Machine/Fields.lean ====
section
/-! DEFINITION. Named readings of the RW and LK fields of the register tables, one a field, named register_FIELD. Each is the
stored word's field; `n` is the instance of the block, `i` the register among like ones. -/

namespace Sys2Proof.Machine

/-- The offset of TBL_ADDR (R31). -/
def tblAddrAt : Nat := 0x120
def tblAddr_ADDR (s : State) : Nat := fld (s.rw tblAddrAt) 18 2
/-- The offset of TBL_DATA (R31). -/
def tblDataAt : Nat := 0x124
def tblData_DATA (s : State) : Nat := (s.rw tblDataAt).toNat
/-- The offset of BAR2_CFG (R31). -/
def bar2CfgAt : Nat := 0x128
def bar2Cfg_TBL_APER (s : State) : Nat := fld (s.rw bar2CfgAt) 0 0
/-- The offset of SYS_START_WAIT (R437). -/
def sysStartWaitAt : Nat := 0x134
def sysStartWait_LANE_MS (s : State) : Nat := fld (s.rw sysStartWaitAt) 31 16
def sysStartWait_TIME_S (s : State) : Nat := fld (s.rw sysStartWaitAt) 15 0
/-- The offset of SYS_AUTO_GRID_LO (R437). -/
def sysAutoGridLoAt : Nat := 0x140
def sysAutoGridLo_GRID (s : State) : Nat := (s.rw sysAutoGridLoAt).toNat
/-- The offset of SYS_AUTO_GRID_HI (R437). -/
def sysAutoGridHiAt : Nat := 0x144
def sysAutoGridHi_GRID (s : State) : Nat := (s.rw sysAutoGridHiAt).toNat
/-- The offset of SYS_PPS_OUT (R471). -/
def sysPpsOutAt : Nat := 0x154
def sysPpsOut_EN (s : State) : Nat := fld (s.rw sysPpsOutAt) 31 31
def sysPpsOut_GATE (s : State) : Nat := fld (s.rw sysPpsOutAt) 30 30
def sysPpsOut_WIDTH_MS (s : State) : Nat := fld (s.rw sysPpsOutAt) 15 0
/-- The offset of SYS_AUTO_STR (R437). -/
def sysAutoStrAt (i : Nat) : Nat := 0x170 + 0x4 * i
def sysAutoStr_STR (s : State) (i : Nat) : Nat := (s.rw (sysAutoStrAt i)).toNat
/-- The offset of INT_CFG (R39). -/
def intCfgAt : Nat := 0x1140
def intCfg_OD (s : State) : Nat := fld (s.rw intCfgAt) 3 0
/-- The offset of EV_ROUTE (R39). -/
def evRouteAt (i : Nat) : Nat := 0x1400 + 0x4 * i
def evRoute_MGMT_EN (s : State) (i : Nat) : Nat := fld (s.rw (evRouteAt i)) 16 16
def evRoute_MSI_EN (s : State) (i : Nat) : Nat := fld (s.rw (evRouteAt i)) 13 13
def evRoute_VEC (s : State) (i : Nat) : Nat := fld (s.rw (evRouteAt i)) 12 8
def evRoute_INT_EN (s : State) (i : Nat) : Nat := fld (s.rw (evRouteAt i)) 2 2
def evRoute_INT_SEL (s : State) (i : Nat) : Nat := fld (s.rw (evRouteAt i)) 1 0
/-- The offset of PWR_CFG (R434). -/
def pwrCfgAt : Nat := 0x2100
def pwrCfg_HINT_WAKE (s : State) : Nat := fld (s.rw pwrCfgAt) 8 8
def pwrCfg_WAKE_TO (s : State) : Nat := fld (s.rw pwrCfgAt) 4 4
/-- The offset of PWR_MARGIN (R434). -/
def pwrMarginAt : Nat := 0x2104
def pwrMargin_DWELL_US (s : State) : Nat := fld (s.rw pwrMarginAt) 31 16
def pwrMargin_MARGIN_US (s : State) : Nat := fld (s.rw pwrMarginAt) 15 0
/-- The offset of PWR_WAIT (R434). -/
def pwrWaitAt : Nat := 0x2110
def pwrWait_MS (s : State) : Nat := fld (s.rw pwrWaitAt) 15 0
/-- The offset of PWR_WAKE (R434). -/
def pwrWakeAt (i : Nat) : Nat := 0x2140 + 0x4 * i
def pwrWake_EN (s : State) (i : Nat) : Nat := (s.rw (pwrWakeAt i)).toNat
/-- The offset of PWR_DOM_CTL (R434). -/
def pwrDomCtlAt (i : Nat) : Nat := 0x2200 + 0x4 * i
def pwrDomCtl_REQ (s : State) (i : Nat) : Nat := fld (s.rw (pwrDomCtlAt i)) 1 0
/-- The offset of BGT_BUDGET (R434). -/
def bgtBudgetAt : Nat := 0x3100
def bgtBudget_MW (s : State) : Nat := fld (s.rw bgtBudgetAt) 15 0
/-- The offset of BGT_STEP (R434). -/
def bgtStepAt : Nat := 0x3104
def bgtStep_STEP (s : State) : Nat := fld (s.rw bgtStepAt) 15 0
/-- The offset of BGT_SUPPLY (R434). -/
def bgtSupplyAt : Nat := 0x3108
def bgtSupply_MV (s : State) : Nat := fld (s.rw bgtSupplyAt) 15 0
/-- The offset of BGT_MAXWAIT (R434). -/
def bgtMaxwaitAt : Nat := 0x310C
def bgtMaxwait_MS (s : State) : Nat := fld (s.rw bgtMaxwaitAt) 15 0
/-- The offset of BGT_EXC (R434). -/
def bgtExcAt : Nat := 0x311C
def bgtExc_MA (s : State) : Nat := fld (s.rw bgtExcAt) 15 0
/-- The offset of TMR_CFG (R415). -/
def tmrCfgAt : Nat := 0x4104
def tmrCfg_RETURN_HOLD (s : State) : Nat := fld (s.rw tmrCfgAt) 16 16
def tmrCfg_ROT_S (s : State) : Nat := fld (s.rw tmrCfgAt) 9 0
/-- The offset of SRAM_SCRUB (R415). -/
def sramScrubAt : Nat := 0x41C8
def sramScrub_SCRUB_MS (s : State) : Nat := fld (s.rw sramScrubAt) 15 0
/-- The offset of ATT_NONCE (R445). -/
def attNonceAt (i : Nat) : Nat := 0x5120 + 0x4 * i
def attNonce_NONCE (s : State) (i : Nat) : Nat := (s.rw (attNonceAt i)).toNat
/-- The offset of ATT_EXT (R445). -/
def attExtAt (i : Nat) : Nat := 0x5140 + 0x4 * i
def attExt_D (s : State) (i : Nat) : Nat := (s.rw (attExtAt i)).toNat
/-- The offset of OTP_ADDR (R111). -/
def otpAddrAt : Nat := 0x6104
def otpAddr_ADDR (s : State) : Nat := fld (s.rw otpAddrAt) 13 2
/-- The offset of OTP_OVR_LO (R111). -/
def otpOvrLoAt : Nat := 0x6118
def otpOvrLo_OVR (s : State) : Nat := (s.rw otpOvrLoAt).toNat
/-- The offset of OTP_OVR_HI (R111). -/
def otpOvrHiAt : Nat := 0x611C
def otpOvrHi_OVR (s : State) : Nat := (s.rw otpOvrHiAt).toNat
/-- The offset of MGMT_CTL (R453). -/
def mgmtCtlAt : Nat := 0x7100
def mgmtCtl_HALT (s : State) : Nat := fld (s.rw mgmtCtlAt) 0 0
/-- The offset of MGMT_DR_WIN (R453). -/
def mgmtDrWinAt : Nat := 0x7108
def mgmtDrWin_BASE (s : State) : Nat := fld (s.rw mgmtDrWinAt) 3 0
/-- The offset of QSPI_CMD (R453). -/
def qspiCmdAt : Nat := 0x7110
def qspiCmd_WRITE (s : State) : Nat := fld (s.rw qspiCmdAt) 30 30
def qspiCmd_DUMMY (s : State) : Nat := fld (s.rw qspiCmdAt) 27 24
def qspiCmd_ABYTES (s : State) : Nat := fld (s.rw qspiCmdAt) 21 20
def qspiCmd_OPCODE (s : State) : Nat := fld (s.rw qspiCmdAt) 19 12
def qspiCmd_LEN (s : State) : Nat := fld (s.rw qspiCmdAt) 8 0
/-- The offset of QSPI_ADDR (R453). -/
def qspiAddrAt : Nat := 0x7114
def qspiAddr_ADDR (s : State) : Nat := (s.rw qspiAddrAt).toNat
/-- The offset of QSPI_DATA (R453). -/
def qspiDataAt : Nat := 0x7118
def qspiData_DATA (s : State) : Nat := (s.rw qspiDataAt).toNat
/-- The offset of TB_CTL (R44). -/
def tbCtlAt : Nat := 0x8100
def tbCtl_AVG_TAU (s : State) : Nat := fld (s.rw tbCtlAt) 27 24
def tbCtl_SERVO_BW (s : State) : Nat := fld (s.rw tbCtlAt) 19 16
def tbCtl_AUTO_STEP (s : State) : Nat := fld (s.rw tbCtlAt) 8 8
def tbCtl_SRC_ALT (s : State) : Nat := fld (s.rw tbCtlAt) 6 4
def tbCtl_SRC_SEL (s : State) : Nat := fld (s.rw tbCtlAt) 2 0
/-- The offset of HOLD_LIMIT (R44). -/
def holdLimitAt : Nat := 0x8138
def holdLimit_LIMIT (s : State) : Nat := (s.rw holdLimitAt).toNat
/-- The offset of HO_UNC (R44). -/
def hoUncAt : Nat := 0x813C
def hoUnc_UNC (s : State) : Nat := (s.rw hoUncAt).toNat
/-- The offset of HO_AGING (R44). -/
def hoAgingAt : Nat := 0x8140
def hoAging_AGING (s : State) : Nat := (s.rw hoAgingAt).toNat
/-- The offset of STEP_THRESH (R44). -/
def stepThreshAt : Nat := 0x8144
def stepThresh_THRESH (s : State) : Nat := (s.rw stepThreshAt).toNat
/-- The offset of PTP_TIMEOUT (R44). -/
def ptpTimeoutAt : Nat := 0x8148
def ptpTimeout_TMO (s : State) : Nat := fld (s.rw ptpTimeoutAt) 15 0
/-- The offset of PTP_OFS_AT_SEC (R400). -/
def ptpOfsAtSecAt : Nat := 0x8158
def ptpOfsAtSec_SEC (s : State) : Nat := (s.rw ptpOfsAtSecAt).toNat
/-- The offset of PTP_OFS_AT_NS (R400). -/
def ptpOfsAtNsAt : Nat := 0x815C
def ptpOfsAtNs_VALID (s : State) : Nat := fld (s.rw ptpOfsAtNsAt) 31 31
def ptpOfsAtNs_NS (s : State) : Nat := fld (s.rw ptpOfsAtNsAt) 29 0
/-- The offset of STEP_LO (R44). -/
def stepLoAt : Nat := 0x8160
def stepLo_STEP (s : State) : Nat := (s.rw stepLoAt).toNat
/-- The offset of STEP_HI (R44). -/
def stepHiAt : Nat := 0x8164
def stepHi_STEP (s : State) : Nat := (s.rw stepHiAt).toNat
/-- The offset of STEP_CMD (R44). -/
def stepCmdAt : Nat := 0x8168
def stepCmd_ABS (s : State) : Nat := fld (s.rw stepCmdAt) 1 1
/-- The offset of UTC_OFFSET (R44). -/
def utcOffsetAt : Nat := 0x8170
def utcOffset_TAI_UTC (s : State) : Nat := fld (s.rw utcOffsetAt) 15 0
/-- The offset of LEAP_CFG (R44). -/
def leapCfgAt : Nat := 0x8174
def leapCfg_ARM (s : State) : Nat := fld (s.rw leapCfgAt) 31 31
def leapCfg_NEW (s : State) : Nat := fld (s.rw leapCfgAt) 15 0
/-- The offset of LEAP_SEC_LO (R44). -/
def leapSecLoAt : Nat := 0x8178
def leapSecLo_SEC (s : State) : Nat := (s.rw leapSecLoAt).toNat
/-- The offset of LEAP_SEC_HI (R44). -/
def leapSecHiAt : Nat := 0x817C
def leapSecHi_SEC (s : State) : Nat := (s.rw leapSecHiAt).toNat
/-- The offset of SCHED_CTL (R74). -/
def schedCtlAt : Nat := 0x9100
def schedCtl_RUN (s : State) : Nat := fld (s.rw schedCtlAt) 0 0
/-- The offset of AX_CFG (R62). -/
def axCfgAt (i : Nat) : Nat := 0xA100 + 0x40 * i
def axCfg_FILT (s : State) (i : Nat) : Nat := fld (s.rw (axCfgAt i)) 31 24
def axCfg_AVG (s : State) (i : Nat) : Nat := fld (s.rw (axCfgAt i)) 23 16
def axCfg_INVERT (s : State) (i : Nat) : Nat := fld (s.rw (axCfgAt i)) 3 3
def axCfg_Z_EN (s : State) (i : Nat) : Nat := fld (s.rw (axCfgAt i)) 2 2
def axCfg_Z_HOME (s : State) (i : Nat) : Nat := fld (s.rw (axCfgAt i)) 1 1
def axCfg_EN (s : State) (i : Nat) : Nat := fld (s.rw (axCfgAt i)) 0 0
/-- The offset of AX_INC_LO (R62). -/
def axIncLoAt (i : Nat) : Nat := 0xA104 + 0x40 * i
def axIncLo_INC (s : State) (i : Nat) : Nat := (s.rw (axIncLoAt i)).toNat
/-- The offset of AX_INC_HI (R62). -/
def axIncHiAt (i : Nat) : Nat := 0xA108 + 0x40 * i
def axIncHi_INC (s : State) (i : Nat) : Nat := fld (s.rw (axIncHiAt i)) 15 0
/-- The offset of AX_Z_ANGLE (R62). -/
def axZAngleAt (i : Nat) : Nat := 0xA10C + 0x40 * i
def axZAngle_ZANG (s : State) (i : Nat) : Nat := (s.rw (axZAngleAt i)).toNat
/-- The offset of AX_IDLE_TIME (R62). -/
def axIdleTimeAt (i : Nat) : Nat := 0xA124 + 0x40 * i
def axIdleTime_IDLE (s : State) (i : Nat) : Nat := fld (s.rw (axIdleTimeAt i)) 15 0
/-- The offset of AX_MAX_SPEED (R62). -/
def axMaxSpeedAt (i : Nat) : Nat := 0xA128 + 0x40 * i
def axMaxSpeed_VMAX (s : State) (i : Nat) : Nat := (s.rw (axMaxSpeedAt i)).toNat
/-- The offset of AX_PRESET_LO (R62). -/
def axPresetLoAt (i : Nat) : Nat := 0xA12C + 0x40 * i
def axPresetLo_PRE (s : State) (i : Nat) : Nat := (s.rw (axPresetLoAt i)).toNat
/-- The offset of AX_PRESET_HI (R62). -/
def axPresetHiAt (i : Nat) : Nat := 0xA130 + 0x40 * i
def axPresetHi_PRE (s : State) (i : Nat) : Nat := (s.rw (axPresetHiAt i)).toNat
/-- The offset of GRID_SEL (R66). -/
def gridSelAt : Nat := 0xA310
def gridSel_GRID (s : State) : Nat := fld (s.rw gridSelAt) 5 0
/-- The offset of TI_IN (R201). -/
def tiInAt (i : Nat) : Nat := 0xB100 + 0x4 * i
def tiIn_HYST (s : State) (i : Nat) : Nat := fld (s.rw (tiInAt i)) 17 16
def tiIn_SLOPE (s : State) (i : Nat) : Nat := fld (s.rw (tiInAt i)) 13 12
def tiIn_THR (s : State) (i : Nat) : Nat := fld (s.rw (tiInAt i)) 9 0
/-- The offset of TI_CFG (R201). -/
def tiCfgAt (i : Nat) : Nat := 0xB200 + 0x40 * i
def tiCfg_RES_LEVEL (s : State) (i : Nat) : Nat := fld (s.rw (tiCfgAt i)) 28 24
def tiCfg_STOP_SRC (s : State) (i : Nat) : Nat := fld (s.rw (tiCfgAt i)) 22 16
def tiCfg_START_SRC (s : State) (i : Nat) : Nat := fld (s.rw (tiCfgAt i)) 14 8
def tiCfg_GATED (s : State) (i : Nat) : Nat := fld (s.rw (tiCfgAt i)) 4 4
def tiCfg_SIGNED (s : State) (i : Nat) : Nat := fld (s.rw (tiCfgAt i)) 3 3
def tiCfg_MODE (s : State) (i : Nat) : Nat := fld (s.rw (tiCfgAt i)) 2 0
/-- The offset of TI_TMO (R201). -/
def tiTmoAt (i : Nat) : Nat := 0xB204 + 0x40 * i
def tiTmo_TMO (s : State) (i : Nat) : Nat := fld (s.rw (tiTmoAt i)) 23 0
/-- The offset of VW_CFG (R201). -/
def vwCfgAt (i : Nat) : Nat := 0xB228 + 0x40 * i
def vwCfg_WIN (s : State) (i : Nat) : Nat := fld (s.rw (vwCfgAt i)) 31 16
def vwCfg_SKIP (s : State) (i : Nat) : Nat := fld (s.rw (vwCfgAt i)) 15 8
def vwCfg_QUIET (s : State) (i : Nat) : Nat := fld (s.rw (vwCfgAt i)) 7 0
/-- The offset of VW_LIM (R201). -/
def vwLimAt (i : Nat) : Nat := 0xB22C + 0x40 * i
def vwLim_MAXRES (s : State) (i : Nat) : Nat := fld (s.rw (vwLimAt i)) 31 16
def vwLim_MINX (s : State) (i : Nat) : Nat := fld (s.rw (vwLimAt i)) 12 0
/-- The offset of VW_AUX (R201). -/
def vwAuxAt (i : Nat) : Nat := 0xB230 + 0x40 * i
def vwAux_THERM_EN (s : State) (i : Nat) : Nat := fld (s.rw (vwAuxAt i)) 8 8
def vwAux_THERM_SLOT (s : State) (i : Nat) : Nat := fld (s.rw (vwAuxAt i)) 6 4
def vwAux_HYST (s : State) (i : Nat) : Nat := fld (s.rw (vwAuxAt i)) 3 0
/-- The offset of VW_LEAVE (R201). -/
def vwLeaveAt (i : Nat) : Nat := 0xB234 + 0x40 * i
def vwLeave_WAIT (s : State) (i : Nat) : Nat := fld (s.rw (vwLeaveAt i)) 31 16
def vwLeave_MW (s : State) (i : Nat) : Nat := fld (s.rw (vwLeaveAt i)) 15 0
/-- The offset of CAL_CFG (R486). -/
def calCfgAt : Nat := 0xC100
def calCfg_RETRY_S (s : State) : Nat := fld (s.rw calCfgAt) 23 16
def calCfg_MAX_PAR (s : State) : Nat := fld (s.rw calCfgAt) 7 4
def calCfg_GAP_MODE (s : State) : Nat := fld (s.rw calCfgAt) 1 1
def calCfg_AUTO_EN (s : State) : Nat := fld (s.rw calCfgAt) 0 0
/-- The offset of CAL_THRESH (R486). -/
def calThreshAt : Nat := 0xC104
def calThresh_THRESH (s : State) : Nat := fld (s.rw calThreshAt) 9 0
/-- The offset of CAL_MAX_AGE (R486). -/
def calMaxAgeAt : Nat := 0xC108
def calMaxAge_AGE (s : State) : Nat := fld (s.rw calMaxAgeAt) 15 0
/-- The offset of CAL_LEAVE (R486). -/
def calLeaveAt : Nat := 0xC10C
def calLeave_MW (s : State) : Nat := fld (s.rw calLeaveAt) 15 0
/-- The offset of CAL_SEL (R486). -/
def calSelAt : Nat := 0xC140
def calSel_SLICE (s : State) : Nat := fld (s.rw calSelAt) 5 0
/-- The offset of CTX_QUERY (R37). -/
def ctxQueryAt : Nat := 0xD110
def ctxQuery_CTX (s : State) : Nat := fld (s.rw ctxQueryAt) 9 0
/-- The offset of FENG_LIMIT (R155). -/
def fengLimitAt : Nat := 0xD124
def fengLimit_LIMIT (s : State) : Nat := (s.rw fengLimitAt).toNat
/-- The offset of HB_ROM_ADDR (R155). -/
def hbRomAddrAt : Nat := 0xD150
def hbRomAddr_DESIGN (s : State) : Nat := fld (s.rw hbRomAddrAt) 7 6
def hbRomAddr_TAP (s : State) : Nat := fld (s.rw hbRomAddrAt) 5 0
/-- The offset of SKEW_CFG (R177). -/
def skewCfgAt : Nat := 0xE104
def skewCfg_REF_MITT (s : State) : Nat := fld (s.rw skewCfgAt) 19 16
def skewCfg_NSTEP (s : State) : Nat := fld (s.rw skewCfgAt) 7 0
/-- The offset of SKEW_MASK (R177). -/
def skewMaskAt : Nat := 0xE108
def skewMask_MASK (s : State) : Nat := fld (s.rw skewMaskAt) 15 0
/-- The offset of ALIGN_SEL (R177). -/
def alignSelAt : Nat := 0xE110
def alignSel_CTX (s : State) : Nat := fld (s.rw alignSelAt) 9 0
/-- The offset of KERN_ADDR (R177). -/
def kernAddrAt : Nat := 0xE130
def kernAddr_PHASE (s : State) : Nat := fld (s.rw kernAddrAt) 12 5
def kernAddr_TAP (s : State) : Nat := fld (s.rw kernAddrAt) 4 0
/-- The offset of SKEW (R177). -/
def skewAt (i : Nat) : Nat := 0xE200 + 0x4 * i
def skew_SKEW (s : State) (i : Nat) : Nat := fld (s.rw (skewAt i)) 15 0
/-- The offset of FD_SAFE (R225). -/
def fdSafeAt (i : Nat) : Nat := 0xF120 + 0x40 * i
def fdSafe_CODE (s : State) (i : Nat) : Nat := fld (s.rw (fdSafeAt i)) 19 0
/-- The offset of FD_MAX (R225). -/
def fdMaxAt (i : Nat) : Nat := 0xF124 + 0x40 * i
def fdMax_CODE (s : State) (i : Nat) : Nat := fld (s.rw (fdMaxAt i)) 19 0
/-- The offset of FD_MIN (R225). -/
def fdMinAt (i : Nat) : Nat := 0xF128 + 0x40 * i
def fdMin_CODE (s : State) (i : Nat) : Nat := fld (s.rw (fdMinAt i)) 19 0
/-- The offset of TRIG_SEL (R254). -/
def trigSelAt : Nat := 0x10110
def trigSel_UNIT (s : State) : Nat := fld (s.rw trigSelAt) 4 0
/-- The offset of REC_SEL (R254). -/
def recSelAt : Nat := 0x11110
def recSel_REC (s : State) : Nat := fld (s.rw recSelAt) 7 0
/-- The offset of CMP_SEL (R274). -/
def cmpSelAt : Nat := 0x12100
def cmpSel_STREAM (s : State) : Nat := fld (s.rw cmpSelAt) 6 0
/-- The offset of CMP_CFG (R274). -/
def cmpCfgAt : Nat := 0x12104
def cmpCfg_EN (s : State) : Nat := fld (s.rw cmpCfgAt) 31 31
def cmpCfg_BLK (s : State) : Nat := fld (s.rw cmpCfgAt) 28 16
def cmpCfg_FLUSH_MS (s : State) : Nat := fld (s.rw cmpCfgAt) 15 0
/-- The offset of CMP_ANCHOR (R274). -/
def cmpAnchorAt : Nat := 0x12108
def cmpAnchor_ANCHOR (s : State) : Nat := fld (s.rw cmpAnchorAt) 7 0
/-- The offset of CMP_PRED (R274). -/
def cmpPredAt : Nat := 0x1210C
def cmpPred_P0 (s : State) : Nat := fld (s.rw cmpPredAt) 4 0
def cmpPred_P1 (s : State) : Nat := fld (s.rw cmpPredAt) 12 8
def cmpPred_P2 (s : State) : Nat := fld (s.rw cmpPredAt) 20 16
def cmpPred_P3 (s : State) : Nat := fld (s.rw cmpPredAt) 28 24
/-- The offset of CMP_STATE (R274). -/
def cmpStateAt (i : Nat) : Nat := 0x12140 + 0x4 * i
def cmpState_STATE (s : State) (i : Nat) : Nat := (s.rw (cmpStateAt i)).toNat
/-- The offset of QUE_SEL (R299). -/
def queSelAt : Nat := 0x13100
def queSel_STREAM (s : State) : Nat := fld (s.rw queSelAt) 6 0
/-- The offset of QUE_REWIND_LO (R299). -/
def queRewindLoAt : Nat := 0x13110
def queRewindLo_IDX (s : State) : Nat := (s.rw queRewindLoAt).toNat
/-- The offset of QUE_REWIND_HI (R299). -/
def queRewindHiAt : Nat := 0x13114
def queRewindHi_IDX (s : State) : Nat := (s.rw queRewindHiAt).toNat
/-- The offset of STORE_LIVE_PAGES (R299). -/
def storeLivePagesAt : Nat := 0x14100
def storeLivePages_PAGES (s : State) : Nat := fld (s.rw storeLivePagesAt) 23 0
/-- The offset of STORE_REC_PAGES (R299). -/
def storeRecPagesAt : Nat := 0x14104
def storeRecPages_PAGES (s : State) : Nat := fld (s.rw storeRecPagesAt) 23 0
/-- The offset of STORE_LDG_PAGES (R299). -/
def storeLdgPagesAt : Nat := 0x14108
def storeLdgPages_PAGES (s : State) : Nat := fld (s.rw storeLdgPagesAt) 23 0
/-- The offset of LG_RD (R299). -/
def lgRdAt : Nat := 0x14114
def lgRd_CNT (s : State) : Nat := (s.rw lgRdAt).toNat
/-- The offset of LG_LEVEL (R299). -/
def lgLevelAt : Nat := 0x14118
def lgLevel_ENTRIES (s : State) : Nat := (s.rw lgLevelAt).toNat
/-- The offset of STORE_RD_ADDR_LO (R299). -/
def storeRdAddrLoAt : Nat := 0x14120
def storeRdAddrLo_ADDR (s : State) : Nat := fld (s.rw storeRdAddrLoAt) 31 2
/-- The offset of STORE_RD_ADDR_HI (R299). -/
def storeRdAddrHiAt : Nat := 0x14124
def storeRdAddrHi_ADDR (s : State) : Nat := fld (s.rw storeRdAddrHiAt) 1 0
/-- The offset of DR_CFG (R319). -/
def drCfgAt : Nat := 0x15100
def drCfg_RATE (s : State) : Nat := fld (s.rw drCfgAt) 9 8
def drCfg_DENSITY (s : State) : Nat := fld (s.rw drCfgAt) 5 4
def drCfg_RANKS (s : State) : Nat := fld (s.rw drCfgAt) 0 0
/-- The offset of DR_MAP_BG0 (R319). -/
def drMapBg0At : Nat := 0x15110
def drMapBg0_MASK (s : State) : Nat := fld (s.rw drMapBg0At) 28 0
/-- The offset of DR_MAP_BG1 (R319). -/
def drMapBg1At : Nat := 0x15114
def drMapBg1_MASK (s : State) : Nat := fld (s.rw drMapBg1At) 28 0
/-- The offset of DR_MAP_BA0 (R319). -/
def drMapBa0At : Nat := 0x15118
def drMapBa0_MASK (s : State) : Nat := fld (s.rw drMapBa0At) 28 0
/-- The offset of DR_MAP_BA1 (R319). -/
def drMapBa1At : Nat := 0x1511C
def drMapBa1_MASK (s : State) : Nat := fld (s.rw drMapBa1At) 28 0
/-- The offset of DR_PORT_WT (R319). -/
def drPortWtAt : Nat := 0x15120
def drPortWt_WT_3 (s : State) : Nat := fld (s.rw drPortWtAt) 31 24
def drPortWt_WT_2 (s : State) : Nat := fld (s.rw drPortWtAt) 23 16
def drPortWt_WT_1 (s : State) : Nat := fld (s.rw drPortWtAt) 15 8
def drPortWt_WT_0 (s : State) : Nat := fld (s.rw drPortWtAt) 7 0
/-- The offset of DR_PANIC (R319). -/
def drPanicAt : Nat := 0x15124
def drPanic_PANIC_LEVEL (s : State) : Nat := fld (s.rw drPanicAt) 31 16
def drPanic_PANIC_CLR (s : State) : Nat := fld (s.rw drPanicAt) 15 0
/-- The offset of DR_THROTTLE (R319). -/
def drThrottleAt : Nat := 0x15128
def drThrottle_THROTTLE (s : State) : Nat := fld (s.rw drThrottleAt) 7 0
/-- The offset of DR_REF (R319). -/
def drRefAt : Nat := 0x15130
def drRef_REF_2X (s : State) : Nat := fld (s.rw drRefAt) 8 8
/-- The offset of DR_WQ (R319). -/
def drWqAt : Nat := 0x15134
def drWq_WQ_HI (s : State) : Nat := fld (s.rw drWqAt) 13 8
def drWq_WQ_LO (s : State) : Nat := fld (s.rw drWqAt) 5 0
/-- The offset of DR_MODE (R319). -/
def drModeAt (i : Nat) : Nat := 0x15140 + 0x4 * i
def drMode_VALUE (s : State) (i : Nat) : Nat := fld (s.rw (drModeAt i)) 17 0
/-- The offset of DR_TIM_0 (R301). -/
def drTim0At : Nat := 0x15160
def drTim0_CL (s : State) : Nat := fld (s.rw drTim0At) 31 24
def drTim0_CWL (s : State) : Nat := fld (s.rw drTim0At) 23 16
def drTim0_tRCD (s : State) : Nat := fld (s.rw drTim0At) 15 8
def drTim0_tRP (s : State) : Nat := fld (s.rw drTim0At) 7 0
/-- The offset of DR_TIM_1 (R301). -/
def drTim1At : Nat := 0x15164
def drTim1_tRAS (s : State) : Nat := fld (s.rw drTim1At) 31 24
def drTim1_tRC (s : State) : Nat := fld (s.rw drTim1At) 23 16
def drTim1_tWR (s : State) : Nat := fld (s.rw drTim1At) 15 8
def drTim1_tRTP (s : State) : Nat := fld (s.rw drTim1At) 7 0
/-- The offset of DR_TIM_2 (R301). -/
def drTim2At : Nat := 0x15168
def drTim2_tRRD_S (s : State) : Nat := fld (s.rw drTim2At) 31 24
def drTim2_tRRD_L (s : State) : Nat := fld (s.rw drTim2At) 23 16
def drTim2_tFAW (s : State) : Nat := fld (s.rw drTim2At) 15 8
def drTim2_tCCD_L (s : State) : Nat := fld (s.rw drTim2At) 7 0
/-- The offset of DR_TIM_3 (R301). -/
def drTim3At : Nat := 0x1516C
def drTim3_tWTR_S (s : State) : Nat := fld (s.rw drTim3At) 31 24
def drTim3_tWTR_L (s : State) : Nat := fld (s.rw drTim3At) 23 16
def drTim3_tRFC (s : State) : Nat := fld (s.rw drTim3At) 15 0
/-- The offset of DR_TIM_4 (R301). -/
def drTim4At : Nat := 0x15170
def drTim4_tREFI (s : State) : Nat := fld (s.rw drTim4At) 31 16
def drTim4_tXS (s : State) : Nat := fld (s.rw drTim4At) 15 0
/-- The offset of DR_TIM_5 (R301). -/
def drTim5At : Nat := 0x15174
def drTim5_tXS_DLL (s : State) : Nat := fld (s.rw drTim5At) 31 16
def drTim5_tMOD (s : State) : Nat := fld (s.rw drTim5At) 15 8
def drTim5_tMRD (s : State) : Nat := fld (s.rw drTim5At) 7 0
/-- The offset of DR_TRAIN (R319). -/
def drTrainAt : Nat := 0x15180
def drTrain_TRAIN_MIN (s : State) : Nat := fld (s.rw drTrainAt) 31 24
def drTrain_ZQ_MS (s : State) : Nat := fld (s.rw drTrainAt) 23 12
def drTrain_TRACK_MS (s : State) : Nat := fld (s.rw drTrainAt) 11 0
/-- The offset of DR_SCRUB (R319). -/
def drScrubAt : Nat := 0x151BC
def drScrub_SCRUB_US (s : State) : Nat := fld (s.rw drScrubAt) 15 0
/-- The offset of DR_LEAVE (R319). -/
def drLeaveAt : Nat := 0x151C0
def drLeave_MW (s : State) : Nat := fld (s.rw drLeaveAt) 15 0
/-- The offset of SRC_LO (R332). -/
def dmaSrcLoAt (i : Nat) : Nat := 0x16100 + 0x40 * i
def dmaSrcLo_SRC (s : State) (i : Nat) : Nat := (s.rw (dmaSrcLoAt i)).toNat
/-- The offset of SRC_HI (R332). -/
def dmaSrcHiAt (i : Nat) : Nat := 0x16104 + 0x40 * i
def dmaSrcHi_SRC (s : State) (i : Nat) : Nat := (s.rw (dmaSrcHiAt i)).toNat
/-- The offset of DST_LO (R332). -/
def dmaDstLoAt (i : Nat) : Nat := 0x16108 + 0x40 * i
def dmaDstLo_DST (s : State) (i : Nat) : Nat := (s.rw (dmaDstLoAt i)).toNat
/-- The offset of DST_HI (R332). -/
def dmaDstHiAt (i : Nat) : Nat := 0x1610C + 0x40 * i
def dmaDstHi_DST (s : State) (i : Nat) : Nat := (s.rw (dmaDstHiAt i)).toNat
/-- The offset of COUNT (R332). -/
def dmaCountAt (i : Nat) : Nat := 0x16110 + 0x40 * i
def dmaCount_COUNT (s : State) (i : Nat) : Nat := (s.rw (dmaCountAt i)).toNat
/-- The offset of CTL (R332). -/
def dmaCtlAt (i : Nat) : Nat := 0x16114 + 0x40 * i
def dmaCtl_AUTO_RESUME (s : State) (i : Nat) : Nat := fld (s.rw (dmaCtlAt i)) 16 16
def dmaCtl_DST_SPACE (s : State) (i : Nat) : Nat := fld (s.rw (dmaCtlAt i)) 15 14
def dmaCtl_SRC_SPACE (s : State) (i : Nat) : Nat := fld (s.rw (dmaCtlAt i)) 13 12
def dmaCtl_DST_W (s : State) (i : Nat) : Nat := fld (s.rw (dmaCtlAt i)) 10 8
def dmaCtl_SRC_W (s : State) (i : Nat) : Nat := fld (s.rw (dmaCtlAt i)) 6 4
/-- The offset of DMA_TMO (R332). -/
def dmaTmoAt : Nat := 0x16500
def dmaTmo_US (s : State) : Nat := fld (s.rw dmaTmoAt) 15 0
/-- The offset of PCIE_SUBSYS (R449). -/
def pcieSubsysAt : Nat := 0x18104
def pcieSubsys_SSID (s : State) : Nat := fld (s.rw pcieSubsysAt) 31 16
def pcieSubsys_SSVID (s : State) : Nat := fld (s.rw pcieSubsysAt) 15 0
/-- The offset of ETH_CFG (R400). -/
def ethCfgAt (n : Nat) : Nat := (0x19 + n) * 0x1000 + 0x100
def ethCfg_PROMISC (s : State) (n : Nat) : Nat := fld (s.rw (ethCfgAt n)) 24 24
def ethCfg_PAUSE_EN (s : State) (n : Nat) : Nat := fld (s.rw (ethCfgAt n)) 20 20
def ethCfg_JUMBO (s : State) (n : Nat) : Nat := fld (s.rw (ethCfgAt n)) 16 16
def ethCfg_RX_TS (s : State) (n : Nat) : Nat := fld (s.rw (ethCfgAt n)) 13 12
def ethCfg_VLAN_EN (s : State) (n : Nat) : Nat := fld (s.rw (ethCfgAt n)) 9 9
def ethCfg_AN_EN (s : State) (n : Nat) : Nat := fld (s.rw (ethCfgAt n)) 8 8
def ethCfg_EN (s : State) (n : Nat) : Nat := fld (s.rw (ethCfgAt n)) 0 0
/-- The offset of ETH_MAC_LO (R400). -/
def ethMacLoAt (n : Nat) : Nat := (0x19 + n) * 0x1000 + 0x108
def ethMacLo_MAC (s : State) (n : Nat) : Nat := (s.rw (ethMacLoAt n)).toNat
/-- The offset of ETH_MAC_HI (R400). -/
def ethMacHiAt (n : Nat) : Nat := (0x19 + n) * 0x1000 + 0x10C
def ethMacHi_MAC (s : State) (n : Nat) : Nat := fld (s.rw (ethMacHiAt n)) 15 0
/-- The offset of ETH_TX_BASE (R400). -/
def ethTxBaseAt (n : Nat) : Nat := (0x19 + n) * 0x1000 + 0x110
def ethTxBase_BASE (s : State) (n : Nat) : Nat := fld (s.rw (ethTxBaseAt n)) 23 4
/-- The offset of ETH_TX_CFG (R400). -/
def ethTxCfgAt (n : Nat) : Nat := (0x19 + n) * 0x1000 + 0x114
def ethTxCfg_SIZE (s : State) (n : Nat) : Nat := fld (s.rw (ethTxCfgAt n)) 8 0
/-- The offset of ETH_TX_TAIL (R400). -/
def ethTxTailAt (n : Nat) : Nat := (0x19 + n) * 0x1000 + 0x118
def ethTxTail_TAIL (s : State) (n : Nat) : Nat := fld (s.rw (ethTxTailAt n)) 7 0
/-- The offset of ETH_RX_BASE (R400). -/
def ethRxBaseAt (n : Nat) : Nat := (0x19 + n) * 0x1000 + 0x120
def ethRxBase_BASE (s : State) (n : Nat) : Nat := fld (s.rw (ethRxBaseAt n)) 23 4
/-- The offset of ETH_RX_CFG (R400). -/
def ethRxCfgAt (n : Nat) : Nat := (0x19 + n) * 0x1000 + 0x124
def ethRxCfg_RX_BUF (s : State) (n : Nat) : Nat := fld (s.rw (ethRxCfgAt n)) 29 16
def ethRxCfg_SIZE (s : State) (n : Nat) : Nat := fld (s.rw (ethRxCfgAt n)) 8 0
/-- The offset of ETH_RX_TAIL (R400). -/
def ethRxTailAt (n : Nat) : Nat := (0x19 + n) * 0x1000 + 0x128
def ethRxTail_TAIL (s : State) (n : Nat) : Nat := fld (s.rw (ethRxTailAt n)) 7 0
/-- The offset of ETH_TX_LAT (R400). -/
def ethTxLatAt (n : Nat) : Nat := (0x19 + n) * 0x1000 + 0x130
def ethTxLat_LAT (s : State) (n : Nat) : Nat := (s.rw (ethTxLatAt n)).toNat
/-- The offset of ETH_RX_LAT (R400). -/
def ethRxLatAt (n : Nat) : Nat := (0x19 + n) * 0x1000 + 0x134
def ethRxLat_LAT (s : State) (n : Nat) : Nat := (s.rw (ethRxLatAt n)).toNat
/-- The offset of ETH_STR_DA_LO (R400). -/
def ethStrDaLoAt (n : Nat) : Nat := (0x19 + n) * 0x1000 + 0x160
def ethStrDaLo_DA (s : State) (n : Nat) : Nat := (s.rw (ethStrDaLoAt n)).toNat
/-- The offset of ETH_STR_DA_HI (R400). -/
def ethStrDaHiAt (n : Nat) : Nat := (0x19 + n) * 0x1000 + 0x164
def ethStrDaHi_DA (s : State) (n : Nat) : Nat := fld (s.rw (ethStrDaHiAt n)) 15 0
/-- The offset of ETH_STR_TYPE (R400). -/
def ethStrTypeAt (n : Nat) : Nat := (0x19 + n) * 0x1000 + 0x168
def ethStrType_TYPE (s : State) (n : Nat) : Nat := fld (s.rw (ethStrTypeAt n)) 15 0
/-- The offset of ETH_VLAN (R400). -/
def ethVlanAt (n : Nat) : Nat := (0x19 + n) * 0x1000 + 0x16C
def ethVlan_TCI (s : State) (n : Nat) : Nat := fld (s.rw (ethVlanAt n)) 15 0
/-- The offset of LN_CFG (R354). -/
def lnCfgAt (n : Nat) : Nat := (0x20 + n) * 0x1000 + 0x100
def lnCfg_SWING (s : State) (n : Nat) : Nat := fld (s.rw (lnCfgAt n)) 31 28
def lnCfg_PRESET (s : State) (n : Nat) : Nat := fld (s.rw (lnCfgAt n)) 21 20
def lnCfg_LOOP (s : State) (n : Nat) : Nat := fld (s.rw (lnCfgAt n)) 17 16
def lnCfg_KEEP_TAPS (s : State) (n : Nat) : Nat := fld (s.rw (lnCfgAt n)) 13 13
def lnCfg_POL_RX (s : State) (n : Nat) : Nat := fld (s.rw (lnCfgAt n)) 12 12
def lnCfg_POL_TX (s : State) (n : Nat) : Nat := fld (s.rw (lnCfgAt n)) 11 11
def lnCfg_RATE (s : State) (n : Nat) : Nat := fld (s.rw (lnCfgAt n)) 9 8
def lnCfg_EN (s : State) (n : Nat) : Nat := fld (s.rw (lnCfgAt n)) 0 0
/-- The offset of LN_CTL (R354). -/
def lnCtlAt (n : Nat) : Nat := (0x20 + n) * 0x1000 + 0x104
def lnCtl_TX_SLEEP (s : State) (n : Nat) : Nat := fld (s.rw (lnCtlAt n)) 0 0
/-- The offset of LN_PRESET_0 (R354). -/
def lnPreset0At (n : Nat) : Nat := (0x20 + n) * 0x1000 + 0x110
def lnPreset0_POST (s : State) (n : Nat) : Nat := fld (s.rw (lnPreset0At n)) 20 16
def lnPreset0_PRE (s : State) (n : Nat) : Nat := fld (s.rw (lnPreset0At n)) 3 0
/-- The offset of LN_PRESET_1 (R354). -/
def lnPreset1At (n : Nat) : Nat := (0x20 + n) * 0x1000 + 0x114
def lnPreset1_POST (s : State) (n : Nat) : Nat := fld (s.rw (lnPreset1At n)) 20 16
def lnPreset1_PRE (s : State) (n : Nat) : Nat := fld (s.rw (lnPreset1At n)) 3 0
/-- The offset of LN_PRESET_2 (R354). -/
def lnPreset2At (n : Nat) : Nat := (0x20 + n) * 0x1000 + 0x118
def lnPreset2_POST (s : State) (n : Nat) : Nat := fld (s.rw (lnPreset2At n)) 20 16
def lnPreset2_PRE (s : State) (n : Nat) : Nat := fld (s.rw (lnPreset2At n)) 3 0
/-- The offset of LN_PRESET_3 (R354). -/
def lnPreset3At (n : Nat) : Nat := (0x20 + n) * 0x1000 + 0x11C
def lnPreset3_POST (s : State) (n : Nat) : Nat := fld (s.rw (lnPreset3At n)) 20 16
def lnPreset3_PRE (s : State) (n : Nat) : Nat := fld (s.rw (lnPreset3At n)) 3 0
/-- The offset of LN_TRAIN (R354). -/
def lnTrainAt (n : Nat) : Nat := (0x20 + n) * 0x1000 + 0x120
def lnTrain_TRAIN_TMO (s : State) (n : Nat) : Nat := fld (s.rw (lnTrainAt n)) 31 16
def lnTrain_RELOCK_MS (s : State) (n : Nat) : Nat := fld (s.rw (lnTrainAt n)) 15 0
/-- The offset of LN_LEAVE (R354). -/
def lnLeaveAt (n : Nat) : Nat := (0x20 + n) * 0x1000 + 0x124
def lnLeave_MS (s : State) (n : Nat) : Nat := fld (s.rw (lnLeaveAt n)) 31 16
def lnLeave_MW (s : State) (n : Nat) : Nat := fld (s.rw (lnLeaveAt n)) 15 0
/-- The offset of LN_VISOR (R354). -/
def lnVisorAt (n : Nat) : Nat := (0x20 + n) * 0x1000 + 0x140
def lnVisor_LOG2N (s : State) (n : Nat) : Nat := fld (s.rw (lnVisorAt n)) 29 24
def lnVisor_V (s : State) (n : Nat) : Nat := fld (s.rw (lnVisorAt n)) 23 16
def lnVisor_H (s : State) (n : Nat) : Nat := fld (s.rw (lnVisorAt n)) 6 0
/-- The offset of LN_PRBS (R354). -/
def lnPrbsAt (n : Nat) : Nat := (0x20 + n) * 0x1000 + 0x160
def lnPrbs_BURST_LEN (s : State) (n : Nat) : Nat := fld (s.rw (lnPrbsAt n)) 22 16
def lnPrbs_PATTERN (s : State) (n : Nat) : Nat := fld (s.rw (lnPrbsAt n)) 5 4
def lnPrbs_CHK_EN (s : State) (n : Nat) : Nat := fld (s.rw (lnPrbsAt n)) 1 1
def lnPrbs_GEN_EN (s : State) (n : Nat) : Nat := fld (s.rw (lnPrbsAt n)) 0 0
/-- The offset of ULK_CFG (R387). -/
def ulkCfgAt (n : Nat) : Nat := (0x30 + n) * 0x1000 + 0x100
def ulkCfg_SINK (s : State) (n : Nat) : Nat := fld (s.rw (ulkCfgAt n)) 12 8
def ulkCfg_REWIND (s : State) (n : Nat) : Nat := fld (s.rw (ulkCfgAt n)) 1 1
def ulkCfg_EN (s : State) (n : Nat) : Nat := fld (s.rw (ulkCfgAt n)) 0 0
/-- The offset of ULK_ASYM (R387). -/
def ulkAsymAt (n : Nat) : Nat := (0x30 + n) * 0x1000 + 0x10C
def ulkAsym_ASYM (s : State) (n : Nat) : Nat := (s.rw (ulkAsymAt n)).toNat
/-- The offset of ULK_UPPER_TMO (R387). -/
def ulkUpperTmoAt (n : Nat) : Nat := (0x30 + n) * 0x1000 + 0x114
def ulkUpperTmo_US (s : State) (n : Nat) : Nat := fld (s.rw (ulkUpperTmoAt n)) 15 0
/-- The offset of ULK_RXQ_BASE (R387). -/
def ulkRxqBaseAt (n : Nat) : Nat := (0x30 + n) * 0x1000 + 0x120
def ulkRxqBase_BASE (s : State) (n : Nat) : Nat := fld (s.rw (ulkRxqBaseAt n)) 21 12
/-- The offset of ULK_RXQ_SIZE (R387). -/
def ulkRxqSizeAt (n : Nat) : Nat := (0x30 + n) * 0x1000 + 0x124
def ulkRxqSize_KIB (s : State) (n : Nat) : Nat := fld (s.rw (ulkRxqSizeAt n)) 10 0
/-- The offset of ULK_RXQ_RD (R387). -/
def ulkRxqRdAt (n : Nat) : Nat := (0x30 + n) * 0x1000 + 0x12C
def ulkRxqRd_OFS (s : State) (n : Nat) : Nat := fld (s.rw (ulkRxqRdAt n)) 19 0
/-- The offset of ULK_RXQ_LEVEL (R387). -/
def ulkRxqLevelAt (n : Nat) : Nat := (0x30 + n) * 0x1000 + 0x130
def ulkRxqLevel_BYTES (s : State) (n : Nat) : Nat := fld (s.rw (ulkRxqLevelAt n)) 19 0
/-- The offset of ULK_TAP (R387). -/
def ulkTapAt (n : Nat) : Nat := (0x30 + n) * 0x1000 + 0x134
def ulkTap_OP (s : State) (n : Nat) : Nat := fld (s.rw (ulkTapAt n)) 25 24
def ulkTap_PRESET (s : State) (n : Nat) : Nat := fld (s.rw (ulkTapAt n)) 21 20
def ulkTap_POST (s : State) (n : Nat) : Nat := fld (s.rw (ulkTapAt n)) 12 8
def ulkTap_PRE (s : State) (n : Nat) : Nat := fld (s.rw (ulkTapAt n)) 3 0
/-- The offset of SAT_EN (R387). -/
def satEnAt (n : Nat) (i : Nat) : Nat := (0x30 + n) * 0x1000 + 0x140 + 0x4 * i
def satEn_EN (s : State) (n : Nat) (i : Nat) : Nat := (s.rw (satEnAt n i)).toNat
/-- The offset of SAT_SEL (R387). -/
def satSelAt (n : Nat) : Nat := (0x30 + n) * 0x1000 + 0x150
def satSel_CH (s : State) (n : Nat) : Nat := fld (s.rw (satSelAt n)) 6 0
/-- The offset of RING_CFG (R387). -/
def ringCfgAt (n : Nat) : Nat := (0x30 + n) * 0x1000 + 0x200
def ringCfg_PRI (s : State) (n : Nat) : Nat := fld (s.rw (ringCfgAt n)) 31 24
def ringCfg_ADDR (s : State) (n : Nat) : Nat := fld (s.rw (ringCfgAt n)) 20 16
def ringCfg_REMOTE_EN (s : State) (n : Nat) : Nat := fld (s.rw (ringCfgAt n)) 8 8
/-- The offset of RING_TIME (R387). -/
def ringTimeAt (n : Nat) : Nat := (0x30 + n) * 0x1000 + 0x208
def ringTime_UNWRAP_MS (s : State) (n : Nat) : Nat := fld (s.rw (ringTimeAt n)) 31 16
def ringTime_TIME_INT (s : State) (n : Nat) : Nat := fld (s.rw (ringTimeAt n)) 15 0
/-- The offset of RING_EVT_EN (R387). -/
def ringEvtEnAt (n : Nat) : Nat := (0x30 + n) * 0x1000 + 0x224
def ringEvtEn_EN (s : State) (n : Nat) : Nat := fld (s.rw (ringEvtEnAt n)) 5 0
/-- The offset of MB_CTL (R387). -/
def mbCtlAt (n : Nat) : Nat := (0x30 + n) * 0x1000 + 0x230
def mbCtl_OP (s : State) (n : Nat) : Nat := fld (s.rw (mbCtlAt n)) 29 28
def mbCtl_LINK (s : State) (n : Nat) : Nat := fld (s.rw (mbCtlAt n)) 26 24
def mbCtl_SPUR (s : State) (n : Nat) : Nat := fld (s.rw (mbCtlAt n)) 23 23
def mbCtl_DST (s : State) (n : Nat) : Nat := fld (s.rw (mbCtlAt n)) 20 16
/-- The offset of MB_ADDR (R387). -/
def mbAddrAt (n : Nat) : Nat := (0x30 + n) * 0x1000 + 0x234
def mbAddr_ADDR (s : State) (n : Nat) : Nat := (s.rw (mbAddrAt n)).toNat
/-- The offset of MB_DATA (R387). -/
def mbDataAt (n : Nat) : Nat := (0x30 + n) * 0x1000 + 0x238
def mbData_DATA (s : State) (n : Nat) : Nat := (s.rw (mbDataAt n)).toNat
/-- The offset of MT_SRC_A (R104). -/
def mtSrcAAt (n : Nat) : Nat := (0x40 + n) * 0x1000 + 0x100
def mtSrcA_EN (s : State) (n : Nat) : Nat := fld (s.rw (mtSrcAAt n)) 16 16
def mtSrcA_PIN (s : State) (n : Nat) : Nat := fld (s.rw (mtSrcAAt n)) 12 8
def mtSrcA_LVL (s : State) (n : Nat) : Nat := fld (s.rw (mtSrcAAt n)) 7 0
/-- The offset of MT_SRC_B (R104). -/
def mtSrcBAt (n : Nat) : Nat := (0x40 + n) * 0x1000 + 0x104
def mtSrcB_EN (s : State) (n : Nat) : Nat := fld (s.rw (mtSrcBAt n)) 16 16
def mtSrcB_PIN (s : State) (n : Nat) : Nat := fld (s.rw (mtSrcBAt n)) 12 8
def mtSrcB_LVL (s : State) (n : Nat) : Nat := fld (s.rw (mtSrcBAt n)) 7 0
/-- The offset of MT_TDAC (R104). -/
def mtTdacAt (n : Nat) : Nat := (0x40 + n) * 0x1000 + 0x110
def mtTdac_EN (s : State) (n : Nat) : Nat := fld (s.rw (mtTdacAt n)) 24 24
def mtTdac_PIN (s : State) (n : Nat) : Nat := fld (s.rw (mtTdacAt n)) 20 16
def mtTdac_CODE (s : State) (n : Nat) : Nat := fld (s.rw (mtTdacAt n)) 15 0
/-- The offset of SL_CFG (R104). -/
def slCfgAt (n : Nat) : Nat := (0x80 + n) * 0x1000 + 0x100
def slCfg_DG_LOW (s : State) (n : Nat) : Nat := fld (s.rw (slCfgAt n)) 22 20
def slCfg_AUTO_ADV (s : State) (n : Nat) : Nat := fld (s.rw (slCfgAt n)) 16 16
def slCfg_NSLOT (s : State) (n : Nat) : Nat := fld (s.rw (slCfgAt n)) 14 12
def slCfg_AR_MAX (s : State) (n : Nat) : Nat := fld (s.rw (slCfgAt n)) 10 8
def slCfg_AR_MIN (s : State) (n : Nat) : Nat := fld (s.rw (slCfgAt n)) 6 4
def slCfg_AR_EN (s : State) (n : Nat) : Nat := fld (s.rw (slCfgAt n)) 2 2
def slCfg_PAIR_EN (s : State) (n : Nat) : Nat := fld (s.rw (slCfgAt n)) 1 1
def slCfg_EN (s : State) (n : Nat) : Nat := fld (s.rw (slCfgAt n)) 0 0
/-- The offset of SL_PAIRS (R104). -/
def slPairsAt (n : Nat) : Nat := (0x80 + n) * 0x1000 + 0x104
def slPairs_C_N (s : State) (n : Nat) : Nat := fld (s.rw (slPairsAt n)) 22 20
def slPairs_C_P (s : State) (n : Nat) : Nat := fld (s.rw (slPairsAt n)) 18 16
def slPairs_B_N (s : State) (n : Nat) : Nat := fld (s.rw (slPairsAt n)) 14 12
def slPairs_B_P (s : State) (n : Nat) : Nat := fld (s.rw (slPairsAt n)) 10 8
def slPairs_A_N (s : State) (n : Nat) : Nat := fld (s.rw (slPairsAt n)) 6 4
def slPairs_A_P (s : State) (n : Nat) : Nat := fld (s.rw (slPairsAt n)) 2 0
/-- The offset of SL_SLOT_CFG (R104). -/
def slSlotCfgAt (n : Nat) (i : Nat) : Nat := (0x80 + n) * 0x1000 + 0x120 + 0x8 * i
def slSlotCfg_SETTLE (s : State) (n : Nat) (i : Nat) : Nat := fld (s.rw (slSlotCfgAt n i)) 31 16
def slSlotCfg_ALT (s : State) (n : Nat) (i : Nat) : Nat := fld (s.rw (slSlotCfgAt n i)) 13 13
def slSlotCfg_SWAP (s : State) (n : Nat) (i : Nat) : Nat := fld (s.rw (slSlotCfgAt n i)) 12 12
def slSlotCfg_COMBINE (s : State) (n : Nat) (i : Nat) : Nat := fld (s.rw (slSlotCfgAt n i)) 11 10
def slSlotCfg_REF (s : State) (n : Nat) (i : Nat) : Nat := fld (s.rw (slSlotCfgAt n i)) 9 8
def slSlotCfg_GAIN (s : State) (n : Nat) (i : Nat) : Nat := fld (s.rw (slSlotCfgAt n i)) 6 4
def slSlotCfg_IN (s : State) (n : Nat) (i : Nat) : Nat := fld (s.rw (slSlotCfgAt n i)) 2 0
/-- The offset of SL_SLOT_CTX (R104). -/
def slSlotCtxAt (n : Nat) (i : Nat) : Nat := (0x80 + n) * 0x1000 + 0x124 + 0x8 * i
def slSlotCtx_CTX_EN (s : State) (n : Nat) (i : Nat) : Nat := fld (s.rw (slSlotCtxAt n i)) 31 31
def slSlotCtx_CTX (s : State) (n : Nat) (i : Nat) : Nat := fld (s.rw (slSlotCtxAt n i)) 9 0
/-- The offset of EXC_CFG (R104). -/
def excCfgAt (n : Nat) : Nat := (0x80 + n) * 0x1000 + 0x180
def excCfg_RET (s : State) (n : Nat) : Nat := fld (s.rw (excCfgAt n)) 24 24
def excCfg_ALIGN (s : State) (n : Nat) : Nat := fld (s.rw (excCfgAt n)) 23 23
def excCfg_EXC_N (s : State) (n : Nat) : Nat := fld (s.rw (excCfgAt n)) 22 20
def excCfg_EXC_P (s : State) (n : Nat) : Nat := fld (s.rw (excCfgAt n)) 18 16
def excCfg_LVL (s : State) (n : Nat) : Nat := fld (s.rw (excCfgAt n)) 15 4
def excCfg_IRANGE (s : State) (n : Nat) : Nat := fld (s.rw (excCfgAt n)) 3 2
def excCfg_MODE (s : State) (n : Nat) : Nat := fld (s.rw (excCfgAt n)) 1 0
/-- The offset of EXC_ALT (R104). -/
def excAltAt (n : Nat) : Nat := (0x80 + n) * 0x1000 + 0x184
def excAlt_RET (s : State) (n : Nat) : Nat := fld (s.rw (excAltAt n)) 24 24
def excAlt_EXC_N (s : State) (n : Nat) : Nat := fld (s.rw (excAltAt n)) 22 20
def excAlt_EXC_P (s : State) (n : Nat) : Nat := fld (s.rw (excAltAt n)) 18 16
def excAlt_LVL (s : State) (n : Nat) : Nat := fld (s.rw (excAltAt n)) 15 4
def excAlt_IRANGE (s : State) (n : Nat) : Nat := fld (s.rw (excAltAt n)) 3 2
def excAlt_MODE (s : State) (n : Nat) : Nat := fld (s.rw (excAltAt n)) 1 0
/-- The offset of EXC_TIME (R104). -/
def excTimeAt (n : Nat) : Nat := (0x80 + n) * 0x1000 + 0x188
def excTime_SETTLE (s : State) (n : Nat) : Nat := fld (s.rw (excTimeAt n)) 15 0
/-- The offset of EXC_MAXW (R104). -/
def excMaxwAt (n : Nat) : Nat := (0x80 + n) * 0x1000 + 0x18C
def excMaxw_MAXW (s : State) (n : Nat) : Nat := fld (s.rw (excMaxwAt n)) 19 0
/-- The offset of VW_DRV (R104). -/
def vwDrvAt (n : Nat) : Nat := (0x80 + n) * 0x1000 + 0x1A0
def vwDrv_F_STOP (s : State) (n : Nat) : Nat := fld (s.rw (vwDrvAt n)) 28 16
def vwDrv_F_START (s : State) (n : Nat) : Nat := fld (s.rw (vwDrvAt n)) 12 0
/-- The offset of VW_AMP (R104). -/
def vwAmpAt (n : Nat) : Nat := (0x80 + n) * 0x1000 + 0x1A4
def vwAmp_DUR (s : State) (n : Nat) : Nat := fld (s.rw (vwAmpAt n)) 27 16
def vwAmp_PLUCK (s : State) (n : Nat) : Nat := fld (s.rw (vwAmpAt n)) 8 8
def vwAmp_AMP (s : State) (n : Nat) : Nat := fld (s.rw (vwAmpAt n)) 7 0

end Sys2Proof.Machine
end

