-- ==== Sys2Proof/Machine/CtxBase.lean ====
section
/-! DEFINITION. The fields of a context's committed descriptor (R126, R160, R226, R251, R275), the grids' rates, and the lengths and
delays of the stages that follow from them (R131 to R146, R153, R156 to R158). -/

namespace Sys2Proof.Machine

/-! ### Descriptor fields -/

def dEN (d : List Word) : Bool := bit (d.getD 0 0) 0
def dMODE (d : List Word) : Bool := bit (d.getD 0 0) 1
def dPHOLD (d : List Word) : Bool := bit (d.getD 0 0) 2
def dKIND (d : List Word) : Nat := fld (d.getD 0 0) 7 4
def dGRID (d : List Word) : Nat := fld (d.getD 0 0) 13 8
def dSOURCE (d : List Word) : Nat := fld (d.getD 0 0) 31 16
def dDEC (d : List Word) : Nat := fld (d.getD 1 0) 2 0
def dNHB (d : List Word) : Nat := min (fld (d.getD 1 0) 6 4) 4
def dHB (d : List Word) (i : Nat) : Nat := fld (d.getD 1 0) (9 + 2 * i) (8 + 2 * i)
def dRANKEN (d : List Word) : Bool := bit (d.getD 1 0) 16
def dRANKPOS (d : List Word) : Bool := bit (d.getD 1 0) 17
def dRANKW (d : List Word) : Nat := fld (d.getD 1 0) 23 20
def dRANKR (d : List Word) : Nat := fld (d.getD 1 0) 27 24
def dPROFILE (d : List Word) : Nat := fld (d.getD 2 0) 4 0
def dBANK (d : List Word) : Bool := bit (d.getD 2 0) 8
/-- XFADE with its bounds (R126). -/
def dXFADE (d : List Word) : Nat := max 16 (min 4096 (fld (d.getD 2 0) 28 16))
def dSCK (d : List Word) : Nat := fld (d.getD 3 0) 18 0
def dDET (d : List Word) : Nat := fld (d.getD 4 0) 2 0
def dTAU (d : List Word) : Nat := fld (d.getD 4 0) 11 8
def dDECAY (d : List Word) : Nat := fld (d.getD 4 0) 19 16
def dENVHOLD (d : List Word) : Nat := fld (d.getD 5 0) 15 0
def dSTREN (d : List Word) : Bool := bit (d.getD 8 0) 31
def dSTREAM (d : List Word) : Nat := fld (d.getD 8 0) 22 16
def dSTR2EN (d : List Word) : Bool := bit (d.getD 9 0) 31
def dSTREAM2 (d : List Word) : Nat := fld (d.getD 9 0) 22 16
def dCCEN (d : List Word) : Bool := bit (d.getD 10 0) 31
def dCCDEAD (d : List Word) : Nat := fld (d.getD 10 0) 23 0
def dCCHB (d : List Word) : Nat := fld (d.getD 11 0) 23 0
def dBRIMEN (d : List Word) : Bool := bit (d.getD 12 0) 31
def dBRIMNS (d : List Word) : Bool := bit (d.getD 12 0) 30
def dBRIMLO (d : List Word) : Int := sfld (d.getD 12 0) 23 0
def dBRIMHI (d : List Word) : Int := sfld (d.getD 13 0) 23 0
def dBRIMHYST (d : List Word) : Nat := fld (d.getD 14 0) 23 0
def dRECMASK (d : List Word) (u : Nat) : Bool := bit (d.getD 15 0) u
def dPRE (d : List Word) : Nat := fld (d.getD 16 0) 23 0
def dPOST (d : List Word) : Nat := max 1 (fld (d.getD 17 0) 23 0)
def dMEASTHR (d : List Word) : Nat := fld (d.getD 18 0) 23 0
def dSKEWADJ (d : List Word) : Int := sfld (d.getD 20 0) 31 0
def dBW (d : List Word) : Nat := (d.getD 21 0).toNat
def dSCTOL (d : List Word) : Nat := fld (d.getD 22 0) 31 16

/-- The contexts that may have committed EN 1. -/
def State.ctxKeys (s : State) : List Nat := s.ctxs.map (·.1)

/-- The contexts with committed EN 1. -/
def State.enabled (s : State) : List Nat := s.ctxKeys.filter (fun c => dEN (s.ctx c).desc)

/-- Whether a descriptor names a stream (R275). -/
def namesStream (d : List Word) (n : Nat) : Bool :=
  (dSTREN d && decide (dSTREAM d = n)) || (dSTR2EN d && decide (dSTREAM2 d = n))

/-- The members of a stream in ascending context number (R276). -/
def State.members (s : State) (n : Nat) : List Nat := s.enabled.filter (fun c => namesStream (s.ctx c).desc n)

/-! ### Grid periods -/

/-- A grid's descriptor words (R63). -/
def State.gridDesc (s : State) (g : Nat) : List Word := s.tblWs (0x50000 + g * 0x40) 16

def w64 (lo hi : Word) : Nat := lo.toNat + 2 ^ 32 * hi.toNat

/-- The axis and period a grid is judged by: as read at its start while it runs, else as its descriptor stands (R129). -/
def State.gridAxis (s : State) (g : Nat) : Nat :=
  if (s.grid g).run then (s.grid g).axis else fld (s.tblW (0x50000 + g * 0x40)) 2 0
def State.gridPeriod (s : State) (g : Nat) : Nat :=
  if (s.grid g).run then (s.grid g).period else w64 (s.tblW (0x50000 + g * 0x40 + 20)) (s.tblW (0x50000 + g * 0x40 + 24))

/-- One nanosecond in units of 2^-32 ns. -/
def n32 : Nat := 2 ^ 32

/-- The grid's period in units of 2^-32 ns; an angle grid's at AX_MAX_SPEED, 0 where that is 0 (R129, R141). -/
def State.periodN (s : State) (g : Nat) : Nat :=
  if s.gridAxis g = 0 then s.gridPeriod g
  else
    let v := axMaxSpeed_VMAX s (s.gridAxis g - 1)
    if v = 0 then 0 else s.gridPeriod g * 1000000000 * n32 / (v * 2 ^ 16)

/-! ### Grid instants -/

/-- The instant of index `k` of a grid, where it is known: computed for a time grid, looked up for an angle grid (2^-48 ns). -/
def idxInst (q : GridSt) (k : Nat) : Option Nat :=
  if q.axis = 0 then some ((q.origin + (k * q.period : Nat)).toNat * 2 ^ 16)
  else (q.made.find? (fun x => decide (x.k = k))).map (·.t)

def gridInst (s : State) (g k : Nat) : Option Nat := idxInst (s.grid g) k

/-- The smallest index whose instant is at or after `t`, where it is known (R244). -/
def gridFirstAt (s : State) (g t : Nat) : Option Nat :=
  let q := s.grid g
  if q.axis = 0 then
    if q.period = 0 then none
    else some (max q.startIdx (cdiv ((t : Int) - q.origin * 2 ^ 16).toNat (q.period * 2 ^ 16)))
  else ((q.made.filter (fun x => decide (t ≤ x.t))).getLast?).map (·.k)

/-! ### What a context still has to deliver -/

/-- Whether a cross-fade runs, on either path of a pair (R138). -/
def CtxSt.fading (cs : CtxSt) : Bool := cs.fade.isSome || cs.fade2.isSome

/-- Whether a context runs: committed EN 1 on a running grid (R126). -/
def State.ctxRuns (s : State) (c : Nat) : Bool := dEN (s.ctx c).desc && (s.grid (dGRID (s.ctx c).desc)).run

/-- A context's descriptor for index `k`: the one in force, or one that a safe point above `k` has replaced (R35). -/
def descFor (cs : CtxSt) (k : Nat) : List Word :=
  match cs.prev.find? (fun p => decide (k < p.1)) with | some p => p.2 | none => cs.desc

/-- Whether a run on grid `q` has an output to come for an index already produced, at an instant that meets `p`. -/
def runOwes (cs : CtxSt) (q : GridSt) (p : Nat → Bool) : Bool :=
  match cs.nextK with
  | none => false
  | some k => q.made.any (fun x => decide (k ≤ x.k) && dEN (descFor cs x.k) && p x.t)

/-- Whether a context's present run has outputs to come for indices its grid has produced. -/
def State.owes (s : State) (c : Nat) : Bool := runOwes (s.ctx c) (s.grid (dGRID (s.ctx c).desc)) (fun _ => true)

/-- Whether a context, in any of its runs, has an output to come for an index produced before the instant `u`. -/
def State.owesBefore (s : State) (c u : Nat) : Bool :=
  runOwes (s.ctx c) (s.grid (dGRID (s.ctx c).desc)) (fun t => decide (t < u)) ||
    s.tails.any (fun (x : TailSt) => decide (x.ctx = c) && runOwes x.run x.grid (fun t => decide (t < u)))

/-- Whether a running context may still produce an index before the instant `u`. -/
def State.comesBefore (s : State) (c u : Nat) : Bool :=
  let q := s.grid (dGRID (s.ctx c).desc)
  s.ctxRuns c && (if q.axis = 0 then (match idxInst q q.next with | some t => decide (t < u) | none => false) else !(q.made.any (fun x => decide (u ≤ x.t))))

/-! ### Stage lengths and delays (units of 2^-32 ns) -/

/-- One modulator cycle, 488.281 25 ns. -/
def modCyc : Nat := 15625 * 2 ^ 27

/-- A slice decimation code's D (R126). -/
def decD (dec : Nat) : Nat := 8 * 2 ^ dec

/-- Taps of a half-band design, and its non-zero taps (R131). -/
def hbH : Nat → Nat
  | 0 => 11
  | 1 => 23
  | _ => 43
def hbZ (h : Nat) : Nat := (hbH h + 1) / 2 + 1

/-- A profile header word (R134). -/
def State.prof (s : State) (p w : Nat) : Word := s.tblW (0x20000 + p * 0x20 + 4 * w)
def State.profM (s : State) (p : Nat) : Nat := fld (s.prof p 0) 19 16 + 1
def State.profTaps (s : State) (p : Nat) : Nat := fld (s.prof p 0) 9 0
def State.profBase (s : State) (p : Nat) (bank : Bool) : Nat := if bank then fld (s.prof p 2) 14 0 else fld (s.prof p 1) 14 0
def State.profGD (s : State) (p : Nat) : Nat := (s.prof p 3).toNat
def State.profValid (s : State) (p : Nat) (bank : Bool) : Bool := bit (s.prof p 4) (if bank then 1 else 0)
/-- A coefficient of the pool (R134), signed. -/
def State.pool (s : State) (i : Nat) : Int := sfld (s.tblW (0x20400 + 4 * i)) 23 0

/-- A satellite channel's declared description, as the context's alignment needs it (R173, R382): input period in units of
2^-32 ns, declared delay in units of 2^-32 ns, impulse length in inputs. -/
structure RemIn where
  per : Nat
  dly : Nat
  len : Nat
  /-- the rate in Q24.8 S/s; the newest frame's first sample: its global index, and its instant in units of 2^-32 ns; whether the inputs
  after the newest frame are missing -/
  rate : Nat
  jRef : Nat
  tRef : Nat
  lost : Bool
  deriving DecidableEq, Repr

/-- The remote input a context names by SOURCE (R126, R382). -/
def State.remote (s : State) (d : List Word) : RemIn :=
  match s.sats.find? (fun x => decide (x.chan = dSOURCE d)) with
  | some x => ⟨x.per, x.dsat, x.len, x.rate, x.jRef, x.tRef, x.lost⟩
  | none => ⟨0, 0, 0, 0, 0, 0, true⟩

/-- The slots of a slice set: its NSLOT + 1. -/
def setSlots (a : SliceSet) : List Nat := List.range (fld a.cfg 14 12 + 1)

/-- The context a slot of a slice set delivers to, where its CTX_EN is 1 (R82). -/
def slotCtxOf (a : SliceSet) (j : Nat) : Option Nat :=
  if bit (a.slotCtx.getD j 0) 31 then some (fld (a.slotCtx.getD j 0) 9 0) else none

/-- Whether a slot of a slice set names a context with CTX_EN (R82). -/
def slotNames (a : SliceSet) (j c : Nat) : Bool := slotCtxOf a j = some c

/-- The contexts a slice set's slots name. -/
def setCtxs (a : SliceSet) : List Nat := (setSlots a).filterMap (slotCtxOf a)

/-- The even slice whose slots govern a slice: its pair's with PAIR_EN applied, else itself (R99). -/
def State.pairEven (s : State) (n : Nat) : Nat :=
  if n % 2 = 1 ∧ bit (s.slice (n - 1)).app.cfg 1 then n - 1 else n

/-- Whether a slice leads a dual-gain pair (R99). -/
def State.leadsPair (s : State) (n : Nat) : Bool := decide (n % 2 = 0) && bit (s.slice n).app.cfg 1

/-- Whether a slice is taken by a skew measurement under way: its mitten is measured and the instant s0 has come (R170, R172). -/
def State.taken (s : State) (n : Nat) : Bool := s.align.run && s.align.measuring.testBit (n / 4) && decide (s.align.takeAt ≤ s.st)

/-- The descriptor a slice takes its mode and decimation from (R107): of the first context its slots name with committed EN 1, else of the
first they name. -/
def State.sliceDesc (s : State) (n : Nat) : Option (List Word) :=
  let cs := setCtxs (s.slice (s.pairEven n)).app
  match cs.find? (fun c => dEN (s.ctx c).desc), cs with
  | some c, _ => some (s.ctx c).desc
  | none, c :: _ => some (s.ctx c).desc
  | none, [] => none

/-- Whether a slice is in single-cycle mode (R107). A slice whose slots name no context is in FIR mode. -/
def State.sliceSc (s : State) (n : Nat) : Bool := match s.sliceDesc n with | some d => dMODE d | none => false

/-- The decimation of a slice (R107); 32 while a skew measurement has taken it (R170). -/
def State.sliceDec (s : State) (n : Nat) : Nat :=
  if s.taken n then 32 else match s.sliceDesc n with | some d => decD (dDEC d) | none => 256

/-- A loop's slice and inner divider as read when it left OFF (R204). -/
def State.loopSlice (s : State) (n : Nat) : Nat := fld (s.loop n).w0 5 0
def State.loopDiv (s : State) (n : Nat) : Nat := max 1 (fld (s.loop n).w0 12 8)

/-- Whether a descriptor's kind runs a chain on a loop's cycles (R224). -/
def dLOOPK (d : List Word) : Bool := decide (dKIND d = 4 ∨ dKIND d = 5)

/-- The period of a chain's inputs: decimator outputs, a satellite's samples, or a loop's inner cycles. -/
def State.tDec (s : State) (d : List Word) : Nat :=
  if dKIND d = 1 then (s.remote d).per
  else if dLOOPK d then s.loopDiv (dSOURCE d) * s.sliceDec (s.loopSlice (dSOURCE d)) * modCyc
  else decD (dDEC d) * modCyc

/-- The FIR output period (R133). -/
def State.tFir (s : State) (d : List Word) : Nat := s.tDec d * 2 ^ dNHB d * s.profM (dPROFILE d)

/-- The half-band stages of a descriptor, by number from 1: (i, H). -/
def dStages (d : List Word) : List (Nat × Nat) := (List.range (dNHB d)).map (fun i => (i + 1, hbH (dHB d i)))

/-- L_total of R141, in decimator periods. -/
def State.lTotal (s : State) (d : List Word) : Nat :=
  let m := s.profM (dPROFILE d)
  let nhb := 2 ^ dNHB d
  (if dKIND d = 1 then (s.remote d).len else if dLOOPK d then 1 else 5)
    + ((dStages d).map (fun x => x.2 * 2 ^ (x.1 - 1))).sum
    + (if dRANKEN d && !(dRANKPOS d) then dRANKW d * nhb else 0)
    + s.profTaps (dPROFILE d) * nhb
    + (if dRANKEN d && dRANKPOS d then dRANKW d * nhb * m else 0)
    + 32 * nhb * m

/-- N of R141. -/
def State.settleN (s : State) (d : List Word) : Nat :=
  if dMODE d then 0
  else if s.periodN (dGRID d) = 0 then 0
  else cdiv (s.lTotal d * s.tDec d) (s.periodN (dGRID d)) + 1

/-- N_e of R143 for an excitation settling of `cyc` modulator cycles. -/
def State.settleNe (s : State) (d : List Word) (cyc : Nat) : Nat :=
  if s.periodN (dGRID d) = 0 then 0 else cdiv (cyc * modCyc) (s.periodN (dGRID d))

/-- Δ_dig of R158 (a remote context has no slice-decimator term, R173). -/
def State.dDig (s : State) (d : List Word) : Nat :=
  let t := s.tDec d
  (if dKIND d = 1 then 0
   else if dLOOPK d then
     let dd := s.sliceDec (s.loopSlice (dSOURCE d))
     5 * (dd - 1) * modCyc / 2 + (s.loopDiv (dSOURCE d) - 1) * dd * modCyc / 2
   else 5 * (decD (dDEC d) - 1) * modCyc / 2)
    + ((dStages d).map (fun x => (x.2 - 1) / 2 * 2 ^ (x.1 - 1) * t)).sum
    + (if dRANKEN d && !(dRANKPOS d) then (dRANKW d - 1) / 2 * 2 ^ dNHB d * t else 0)
    + s.profGD (dPROFILE d) * 2 ^ dNHB d * t / 2 ^ 16
    + (if dRANKEN d && dRANKPOS d then (dRANKW d - 1) / 2 * 2 ^ dNHB d * s.profM (dPROFILE d) * t else 0)

/-- Picoseconds as units of 2^-32 ns, rounded once (R157). -/
def psU (ps : Int) : Int := rdivAway (ps * 2 ^ 32) 1000

/-- The edge residue of modulator edge `n` of a second, in units of 2^-5 ns (R159). -/
def edgeRes (n : Nat) : Nat := (32 * n - 9 * n) % 32

/-- How many of `0..k-1` lie in each class modulo 32. -/
def classCount (k : Nat) : List Nat := (List.range 32).map (fun r => k / 32 + (if r < k % 32 then 1 else 0))

/-- Cyclic convolution of two class counts modulo 32. -/
def classConv (a b : List Nat) : List Nat :=
  (List.range 32).map (fun r => ((List.range 32).map (fun i => a.getD i 0 * b.getD ((32 + r - i) % 32) 0)).sum)

/-- The weights of an `ord`-fold running sum of length `k`, by class modulo 32. -/
def sincClasses (k : Nat) : Nat → List Nat
  | 0 => 1 :: List.replicate 31 0
  | n + 1 => classConv (classCount k) (sincClasses k n)

/-- The weighted mean of the edge residues over a sinc window whose oldest edge is `n0` (R159), in units of 2^-32 ns. -/
def rhoOf (ord k n0 : Nat) : Nat :=
  if k % 32 = 0 then 31 * 2 ^ 26
  else
    let w := sincClasses k ord
    let sum := ((List.range 32).map (fun r => w.getD r 0 * edgeRes ((n0 + r) % 32))).sum
    (rdivAway ((sum * 2 ^ 27 : Nat) : Int) (k ^ ord)).toNat

/-- Whether a slice runs on nominal trim (R111, OTP_OVR). -/
def State.otpOvr (s : State) (sl : Nat) : Bool := (otpOvrLo_OVR s + 2 ^ 32 * otpOvrHi_OVR s).testBit sl

/-- ANA_DELAY of a slice in ps (R109, R111). -/
def State.anaDelay (s : State) (sl : Nat) : Nat := if s.otpOvr sl then 2850 else fld (s.otpWord (0x240 + sl * 0x10)) 15 0

/-- SKEW_s in ps (R157). -/
def State.skewOf (s : State) (sl : Nat) : Int := sgn 16 (skew_SKEW s sl)

/-- The slice whose applied slots name a context (R78, R82). -/
def State.feeder (s : State) (c : Nat) : Option Nat :=
  (s.slices.map (·.1)).find? (fun n => decide (s.pairEven n = n) && decide (c ∈ setCtxs (s.slice n).app))

/-- The slice that gives a context its acquisition instants: its feeder, or its loop's tap slice (R157, R224). -/
def State.srcSlice (s : State) (c : Nat) : Option Nat :=
  let d := (s.ctx c).desc
  if dKIND d = 0 then s.feeder c else if dLOOPK d then some (s.loopSlice (dSOURCE d)) else none

/-- Δ of R165 for a context fed by slice `sl` (`none`: a remote context, whose declared delay D_sat takes the place of the front end's, R173),
in units of 2^-32 ns, with ρ as given. -/
def State.alignDelta (s : State) (d : List Word) (sl : Option Nat) (rho : Nat) : Int :=
  (s.dDig d : Int) + (if dKIND d = 1 then ((s.remote d).dly : Int) else 0)
    + (match sl with | some n => psU (s.anaDelay n) + psU (s.skewOf n) | none => 0) + psU (dSKEWADJ d) - rho

/-- ALIGN_LAT of a context in µs, μ taken as 0 (R165). -/
def State.alignLat (s : State) (c : Nat) : Nat :=
  let d := (s.ctx c).desc
  let dl := s.alignDelta d (s.srcSlice c) (31 * 2 ^ 26) + (16 * s.tFir d : Nat) + (6000 * n32 : Nat)
  cdiv dl.toNat (1000 * n32)

/-- Δ as ALIGN_DELAY shows it, in units of 2^-16 ns (R165); 0, its reset value, while the context's committed EN is 0 (DEDUCED, log entry 103). -/
def State.alignDelay (s : State) (c : Nat) : Nat :=
  if !dEN (s.ctx c).desc then 0 else ((s.alignDelta (s.ctx c).desc (s.srcSlice c) (31 * 2 ^ 26)) / 2 ^ 16).toNat

/-! ### When a slice counts as off -/

/-- Whether a slice counts as off (R78, R111, R113, R172): EN 0, its mitten's domain off, unusable trim without override, no
successful recalibration since the domain came up, its mitten under skew measurement, or AVDD low (R464). Of a pair the even slice's EN
counts for both: the spec does not say whether the odd member needs its own (DESIGN CHOICE, log entry 106). -/
def State.sliceOff (s : State) (n : Nat) : Bool :=
  !(bit (s.slice (s.pairEven n)).app.cfg 0) || decide ((s.dom (1 + n / 4)).st = 4) || (s.otp.badMask.testBit n && !(s.otpOvr n))
    || s.supply.avddLow || (s.cal n).upOff || s.taken n

/-! ### The fit instant of a vibrating wire (R197) -/

/-- The crossings of a sequence that its fit uses, oldest first: all but the first `skip`. -/
def vwUsed (skip : Nat) (v : VwSt) : List Nat := v.xs.reverse.drop skip

/-- The fit instant c, the mean of the crossings used, in 2^-32 ns; the end of listening where none is. -/
def vwInst (skip : Nat) (v : VwSt) : Nat :=
  let ts := vwUsed skip v
  let t0 := ts.headD (v.at_ / tsU)
  t0 * 2 ^ 25 + (if ts = [] then 0 else (ts.map (fun t => t - t0)).sum * 2 ^ 25 / ts.length)

end Sys2Proof.Machine
end

