-- ==== Sys2Proof/Machine/Store.lean ====
section
/-! DEFINITION. Streams, packets, the store and the ledger (spec chapter 12): the operations the commands of the QUE and STORE
pages and every delivered word share. -/

namespace Sys2Proof.Machine

/-! ### The ledger (R294 to R298, R487) -/

/-- The ledger ring's entries. -/
def ledgerCap (s : State) : Nat := s.store.ldg * 64

/-- Entries software has not passed (R298). -/
def ledgerUnread (s : State) : Nat := min s.store.lgHeld ((s.store.lgWr + 2 ^ 32 - s.store.lgRd) % 2 ^ 32)

/-- The byte address of the ledger partition (R292). -/
def ledgerBase (s : State) : Nat := (s.store.live + s.store.recPages) * 4096

/-- Whether the hub holds its streams in the reserve (R291). -/
def inVigil (s : State) : Bool := decide (s.pwr.state = 2)

/-- Write one 16-word entry to the ledger ring (R298, R487). -/
def ledgerRing (e : List Word) (s : State) : State :=
  let st := s.store
  let cap := ledgerCap s
  if cap = 0 then
    raise pSTORE 1 { s with store := { st with lgWr := (st.lgWr + 1) % 2 ^ 32, lgLost := satInc 32 st.lgLost } }
  else
    let full := decide (ledgerUnread s = cap)
    let s1 := s.setDramWs (ledgerBase s + st.lgOfs) e
    let s2 := { s1 with store := { st with
      lgWr := (st.lgWr + 1) % 2 ^ 32
      lgOfs := (st.lgOfs + 64) % (cap * 64)
      lgHeld := min cap (st.lgHeld + 1)
      lgLost := if full then satInc 32 st.lgLost else st.lgLost } }
    let s3 := raiseIf full pSTORE 1 s2
    raiseIf (decide (ledgerUnread s < lgLevel_ENTRIES s) && decide (lgLevel_ENTRIES s ≤ ledgerUnread s2)) pSTORE 0 s3

/-- Write one entry: in VIGIL to the reserve's ledger area, which holds 4 096 and asks for memory at three quarters (R291). -/
def ledgerNow (body : List Word) (s : State) : State :=
  let e := body ++ [crcWords body]
  if inVigil s then
    if s.store.rsvLedger.length < 4096 then
      raiseIf (decide (s.store.rsvLedger.length + 1 = 3072)) pSTORE 5
        { s with store := { s.store with rsvLedger := s.store.rsvLedger ++ [e] } }
    else raise pSTORE 1 { s with store := { s.store with lgLost := satInc 32 s.store.lgLost } }
  else ledgerRing e s

/-- Write an entry and signal a range entry (R297). -/
def ledgerSignal (body : List Word) (s : State) : State :=
  raiseIf (decide (fld (body.headD 0) 31 28 = 7)) pSTORE 2 (ledgerNow body s)

/-- An entry falls due: it is written, but during a page reset of STORE when the reset ends (R488). -/
def ledgerPut (body : List Word) (s : State) : State :=
  if (s.page pSTORE).rstEnd.isSome then { s with store := { s.store with lgDue := s.store.lgDue ++ [body] } } else ledgerSignal body s

/-- The entries that fell due during a page reset of STORE are written (R488). -/
def ledgerDue (s : State) : State :=
  s.store.lgDue.foldl (fun a b => ledgerSignal b a) { s with store := { s.store with lgDue := [] } }

/-- A range entry (R297): the indices `first` to `last` of a stream, `words` words lost for `reason`. -/
def rangeEntry (n reason first last words nmem : Nat) (s : State) : State :=
  ledgerPut
    [word (7 * 2 ^ 28 + 2 ^ 24 + n * 2 ^ 16 + reason * 2 ^ 8 + (nmem - 1)), word first, word (first / 2 ^ 32), word last,
     word (last / 2 ^ 32), word words, word s.sec, word (s.sec / 2 ^ 32), word s.ns, 0, 0, 0, 0, 0, 0] s

/-! ### Second accounting (R294, R295) -/

/-- What became of a due word. -/
inductive Acct where
  | delivered
  | fill (reason : Nat)
  deriving DecidableEq, Repr

def secNew (a : SecAcc) (k : Nat) (x : Acct) : SecAcc :=
  { a with
    first := some (match a.first with | some f => min f k | none => k)
    expected := a.expected + 1
    delivered := match x with | .delivered => a.delivered + 1 | .fill _ => a.delivered
    fills := match x with
      | .delivered => a.fills
      | .fill r => a.fills.set (r - 1) (satInc 16 (a.fills.getD (r - 1) 0)) }

/-- Count one word of index `k`, second `sec`. -/
def secAdd (l : List SecAcc) (sec k : Nat) (x : Acct) : List SecAcc :=
  match l with
  | [] => [secNew { sec := sec } k x]
  | a :: t => if a.sec = sec then secNew a k x :: t else if sec < a.sec then secNew { sec := sec } k x :: a :: t else a :: secAdd t sec k x

/-- A word already counted under `x` counts under reason `r` instead. -/
def secMove (l : List SecAcc) (sec r : Nat) (x : Acct) : List SecAcc :=
  l.map (fun a =>
    if a.sec = sec then
      let f := match x with | .delivered => a.fills | .fill q => a.fills.set (q - 1) (a.fills.getD (q - 1) 0 - 1)
      { a with delivered := match x with | .delivered => a.delivered - 1 | .fill _ => a.delivered, fills := f.set (r - 1) (satInc 16 (f.getD (r - 1) 0)) }
    else a)

def mem0 (_ : Nat) : Nat := 0

/-- Account one word of member `c` of stream `n` (R295). -/
def account (n c k sec : Nat) (x : Acct) (s : State) : State :=
  let st := s.str n
  s.setStr n { st with
    secs := secAdd st.secs sec k x
    nextSec := some (st.nextSec.getD sec)
    memSec := tset mem0 st.memSec c (max sec (tget mem0 st.memSec c)) }

/-! ### Packets (R280 to R283) -/

/-- A packet header's words before its CRC (R280). -/
def pktHead (n fmt nmem pseq flags first count grid len sec : Nat) : List Word :=
  [word (0x5B100000 + fmt * 2 ^ 16 + n * 2 ^ 8 + (nmem - 1)), word (pseq % 2 ^ 16 * 2 ^ 16 + flags), word first, word (first / 2 ^ 32),
   word count, word (grid * 2 ^ 16 + len), word sec]

/-- A whole packet: header, CRC-32C of header and payload, payload. -/
def pktWords (head payload : List Word) : List Word := head ++ [crcWords (head ++ payload)] ++ payload

/-- Pack bytes into little-endian words, padded with zeros. -/
def packBytes : List Nat → List Word
  | a :: b :: c :: d :: t => word (a + 2 ^ 8 * b + 2 ^ 16 * c + 2 ^ 24 * d) :: packBytes t
  | [] => []
  | [a] => [word a]
  | [a, b] => [word (a + 2 ^ 8 * b)]
  | [a, b, c] => [word (a + 2 ^ 8 * b + 2 ^ 16 * c)]

def wTag (w : Word) : Nat := w.toNat % 256
def wVal (w : Word) : Int := sfld w 31 8
/-- The S32T word of a value and tags (R6). -/
def s32t (v : Int) (tags : Nat) : Word := word (unsgn 24 v * 2 ^ 8 + tags % 2 ^ 8)
/-- A placeholder with further tags (R7). -/
def placeholder (tags : Nat) : Word := word (0x80000040 ||| (tags &&& 0xA0))
def isFill (w : Word) : Bool := bit w 6

/-- The payload of S32T words under FORMAT 0, 1 or 2 (R281). -/
def encodePayload (fmt : Nat) (ws : List Word) : List Word :=
  if fmt = 1 then
    packBytes (ws.flatMap (fun w => [w.toNat / 2 ^ 8 % 256, w.toNat / 2 ^ 16 % 256, w.toNat / 2 ^ 24]) ++ ws.map wTag)
  else if fmt = 2 then
    packBytes (ws.flatMap (fun w =>
        let v := if isFill w && decide (wVal w = -(2 ^ 23)) then 0x8000 else unsgn 16 (clampI (-32767) 32767 (rdivAway (wVal w) 256))
        [v % 256, v / 256]) ++ ws.map wTag)
  else ws

/-- Payload bytes of `k` indices of `m` members (R281). -/
def payloadBytes (fmt k m : Nat) : Nat := if fmt = 2 then cdiv (3 * k * m) 4 * 4 else 4 * k * m

/-! ### Regions and room (R285, R289, R290) -/

def regionBytes (s : State) (n : Nat) : Nat :=
  if inVigil s then (s.str n).desc.rsvKib * 1024 else match (s.str n).region with | some (_, p) => p * 4096 | none => 0

/-- The fill of a stream (R285). -/
def strFill (st : StrSt) : Nat := ((st.pkts.filter (fun p => !p.isRead || decide (st.desc.consumer = 0))).map (·.len)).sum

/-- The bytes of the open packet, header included. -/
def openBytes (st : StrSt) : Nat :=
  match st.openPkt with
  | none => 0
  | some o => 32 + (if o.fmt = 3 then 4 * o.words.length else payloadBytes o.fmt o.count o.mems.length)
      + (if o.notes = [] then 0 else 32 + 4 * (o.notes.map List.length).sum)

def readingBytes (st : StrSt) : Nat :=
  match st.reading with
  | some (q, _) => match st.pkts.find? (fun p => decide (p.pseq = q)) with | some p => p.len | none => 0
  | none => 0

/-- The room of a stream (R285). -/
def strRoom (s : State) (n : Nat) : Nat :=
  let st := s.str n
  let unread := if st.desc.protect then strFill st - readingBytes st else 0
  regionBytes s n - readingBytes st - openBytes st - unread

/-- Whether two byte ranges of a ring of `r` bytes overlap. -/
def ringOverlap (r o l w len : Nat) : Bool :=
  decide ((o + r - w % r) % r < len) || decide ((w + r - o % r) % r < l)

/-- Where a packet of `len` bytes goes in a ring of `r` bytes from `w` on: past every packet that must stay. -/
def findPlace (r len : Nat) (stay : List Pkt) : Nat → Nat → Option Nat
  | 0, _ => none
  | f + 1, w =>
    match stay.find? (fun p => ringOverlap r p.ofs p.len w len) with
    | some p => findPlace r len stay f ((p.ofs + p.len) % r)
    | none => some w

/-- Write a ring's words from a byte offset on, wrapping at its end. -/
def putRing (base r ofs : Nat) : List Word → State → State
  | [], s => s
  | w :: ws, s => putRing base r ((ofs + 4) % r) ws (s.setDramW (base + ofs) w)

/-- The packets that a new packet may not overwrite: the one being read and, under PROTECT, every unread one. -/
def staying (st : StrSt) (p : Pkt) : Bool :=
  (match st.reading with | some (q, _) => decide (p.pseq = q) | none => false) || (st.desc.protect && !p.isRead)

/-- Ledger and signal an overwritten unread packet (R289). -/
def overwritten (n : Nat) (p : Pkt) (s : State) : State :=
  if p.isRead then s
  else
    let s1 := raise pQUE 3 (s.setStr n { s.str n with gapNext := true })
    if p.fmt = 5 then s1 else rangeEntry n 0x0E p.first p.last (p.count * p.nmem) p.nmem s1

/-- Drop the oldest packets of a reserve share that may be overwritten until `need` bytes fit in `cap`. -/
def shedOldest (st : StrSt) (cap need : Nat) : List Pkt → List Pkt × List Pkt
  | [] => ([], [])
  | p :: t =>
    if ((p :: t).map (·.len)).sum + need ≤ cap then ([], p :: t)
    else if staying st p then let r := shedOldest st cap need t; (r.1, p :: r.2)
    else let r := shedOldest st cap need t; (p :: r.1, r.2)

/-- Put a closed packet into the stream's region, or into its reserve share in VIGIL (R284, R289, R291). -/
def placePkt (n : Nat) (p : Pkt) (ws : List Word) (s : State) : State :=
  let st := s.str n
  let cap := regionBytes s n
  let before := strFill st
  let s1 :=
    if inVigil s then
      let sh := shedOldest st cap p.len st.pkts
      if (sh.2.map (·.len)).sum + p.len ≤ cap then
        let s' := sh.1.foldl (fun t q => overwritten n q t) s
        s'.setStr n { s'.str n with pkts := sh.2 ++ [{ p with rsv := some ws }], pseq := (p.pseq + 1) % 2 ^ 16 }
      else s.setStr n { st with pseq := (p.pseq + 1) % 2 ^ 16, gapNext := true }
    else
      match st.region with
      | none => s
      | some (pg, _) =>
        match findPlace cap p.len (st.pkts.filter (staying st)) (st.pkts.length + 1) (st.wrOfs % max cap 1) with
        | none => s.setStr n { st with pseq := (p.pseq + 1) % 2 ^ 16, gapNext := true }
        | some w =>
          let gone := st.pkts.filter (fun q => ringOverlap cap q.ofs q.len w p.len)
          let kept := st.pkts.filter (fun q => !(ringOverlap cap q.ofs q.len w p.len))
          let s' := gone.foldl (fun t q => overwritten n q t) s
          let s2 := putRing (pg * 4096) cap w ws s'
          s2.setStr n { s2.str n with pkts := kept ++ [{ p with ofs := w }], pseq := (p.pseq + 1) % 2 ^ 16, wrOfs := (w + p.len) % cap }
  raiseIf (decide (before < st.desc.level) && decide (st.desc.level ≤ strFill (s1.str n))) pQUE 0 s1

/-- Queue notes in a FORMAT 5 packet (R282, R283, R458); nothing where there are none. -/
def notePkt (n first last grid sec nmem : Nat) (notes : List (List Word)) (s : State) : State :=
  if notes = [] then s
  else
    let nw := notes.flatten
    let q := (s.str n).pseq
    let h := pktHead n 5 nmem q 0 first notes.length grid nw.length sec
    placePkt n { ofs := 0, len := 32 + 4 * nw.length, pseq := q, fmt := 5, first := first, last := last, count := notes.length, nmem := nmem, grid := grid, sec := sec, flags := 0, rsv := none, isRead := false, replay := false, gap := false }
      (pktWords h nw) s

/-- Close the open packet, its notes in a FORMAT 5 packet before it (R282, R283). -/
def closePkt (n : Nat) (last : Bool) (s : State) : State :=
  match (s.str n).openPkt with
  | none => s
  | some o =>
    let st := s.str n
    let s0 := s.setStr n { st with openPkt := none }
    let s1 := notePkt n o.noteFirst o.last o.grid o.sec o.mems.length o.notes s0
    let pl := if o.fmt = 3 then o.words else encodePayload o.fmt o.words
    let fl := o.flags ||| (if last then 4 else 0)
    let q := (s1.str n).pseq
    let h := pktHead n o.fmt o.mems.length q fl o.first o.count o.grid pl.length o.sec
    placePkt n { ofs := 0, len := 32 + 4 * pl.length, pseq := q, fmt := o.fmt, first := o.first, last := o.last, count := o.count, nmem := o.mems.length, grid := o.grid, sec := o.sec, flags := fl, rsv := none, isRead := false, replay := false, gap := false }
      (pktWords h pl) s1

/-- The FLAGS a word adds to its packet: FILL, HOLD, NOTE (R280). -/
def wordFlags (w : Word) : Nat := (if bit w 6 then 8 else 0) + (if bit w 5 then 16 else 0) + (if bit w 7 then 32 else 0)

/-- The note entries of an index (R283), with their cuffs. -/
def noteCuff (note ctx k : Nat) (payload : List Word) : List Word :=
  [word (3 * 2 ^ 28 + note * 2 ^ 24 + (4 + payload.length) * 2 ^ 16 + ctx), word k, word (k / 2 ^ 32), 0] ++ payload

/-- The packet being formed takes its space as it fills: under OVERWRITE_OLDEST what lies there is overwritten (R284, R289). -/
def makeRoom (n : Nat) (s : State) : State :=
  let st := s.str n
  let need := openBytes st
  let cap := regionBytes s n
  if st.desc.protect ∨ cap < need then s
  else if inVigil s then
    let sh := shedOldest st cap need st.pkts
    let s1 := sh.1.foldl (fun t q => overwritten n q t) s
    s1.setStr n { s1.str n with pkts := sh.2 }
  else
    match findPlace cap need (st.pkts.filter (staying st)) (st.pkts.length + 1) (st.wrOfs % max cap 1) with
    | none => s
    | some w =>
      let gone := st.pkts.filter (fun q => ringOverlap cap q.ofs q.len w need)
      let s1 := gone.foldl (fun t q => overwritten n q t) s
      s1.setStr n { s1.str n with pkts := st.pkts.filter (fun q => !(ringOverlap cap q.ofs q.len w need)) }

/-- Append words of one index to the open packet, closing it first where R282 says so, and where indices are missing before this one: a packet of plain
words holds consecutive indices, and the first packet after a loss carries GAP (R280, R290). -/
def appendIdx (n fmt grid k sec : Nat) (mems : List Nat) (ws : List Word) (s : State) : State :=
  let st := s.str n
  let fits := match st.openPkt with
    | none => true
    | some o =>
      decide (o.sec = sec) && decide (o.fmt = fmt) && decide (o.mems = mems) && !st.gapClose && decide (fmt = 3 ∨ k = o.last + 1) &&
      decide (32 + (if fmt = 3 then 4 * (o.words.length + ws.length) else payloadBytes fmt (o.count + 1) mems.length) ≤ st.desc.pktBytes)
  let s1 := if fits then s else closePkt n false s
  let st := s1.str n
  let mine := (st.notes.filter (fun x => decide (x.1 = k))).map (·.2)
  let rest := st.notes.filter (fun x => decide (x.1 ≠ k))
  let fl := (ws.map wordFlags).foldl (· ||| ·) 0
  let o : OpenPkt := match st.openPkt with
    | some o => { o with last := k, count := o.count + 1, words := o.words ++ ws, flags := o.flags ||| (if fmt = 3 then wordFlags (ws.getLastD 0) else fl), notes := o.notes ++ mine, noteFirst := if o.notes = [] then k else o.noteFirst }
    | none => { fmt := fmt, first := k, last := k, count := 1, sec := sec, mems := mems, grid := grid, words := ws, notes := mine, noteFirst := k, flags := (if fmt = 3 then wordFlags (ws.getLastD 0) else fl) ||| (if st.gapClose then 1 else 0), opened := s.clk }
  let s2 := makeRoom n (s1.setStr n { st with openPkt := some o, notes := rest, gapClose := false })
  if fmt ≠ 3 ∧ st.desc.pktBytes < 32 + payloadBytes fmt (o.count + 1) mems.length then closePkt n false s2 else s2

/-! ### Queuing a member's word (R279, R290, R295, R315) -/

/-- The member set of a stream at an instant. -/
def membersAt (st : StrSt) (t : Nat) : List Nat :=
  match st.memSets.find? (fun x => decide (x.1 ≤ t)) with | some x => x.2 | none => []

/-- Whether a running stream queues an index at instant `t` (R279). -/
def takes (st : StrSt) (t : Nat) : Bool :=
  st.run && decide (st.startAt ≤ t) && (match st.stopAt with | some u => decide (t < u) | none => true)

/-- Whether the memory's ports are open (R304, R318). -/
def memOpen (s : State) : Bool := decide (s.dram.st = 2) && !s.dram.selfref

/-- Why a new index of `bytes` bytes is lost, if it is: PROTECT without room, or a full P0 buffer (R290, R291, R315). -/
def lossReason (s : State) (n bytes : Nat) : Option Nat :=
  let st := s.str n
  if inVigil s && decide (st.desc.rsvKib = 0) then some (if st.desc.protect then 0x0C else 0x0E)
  else if st.desc.protect && decide (strRoom s n < bytes + (if st.openPkt.isNone then 32 else 0)) then some 0x0C
  else if !(inVigil s) && !(memOpen s) && decide (65536 < s.dram.p0 + bytes) then some 0x0B
  else none

/-- Words waiting in the P0 buffer while memory is not open (R313, R315, R319): panic begins at PANIC_LEVEL; a controller in self-refresh
is asked to leave it. -/
def p0Add (bytes : Nat) (s : State) : State :=
  if inVigil s || memOpen s then { s with dram := { s.dram with p0Ovf := false } }
  else
    let d := s.dram
    let begin_ := !d.panic && decide (drPanic_PANIC_LEVEL s ≤ d.p0 + bytes)
    raiseIf begin_ pDRAM 2 (raiseIf (d.selfref && decide (d.p0 = 0)) pDRAM 6 { s with dram := { d with p0 := d.p0 + bytes, panic := d.panic || begin_ } })

/-- An index is lost to a full P0 buffer: DRAM_P0_OVF once a run (R315). -/
def p0Lost (s : State) : State :=
  if s.dram.p0Ovf then s else raise pDRAM 3 { s with dram := { s.dram with p0Ovf := true } }

/-- The first complete rows leave the row list into the open packet, in index order. -/
def drainRows (n fmt grid : Nat) : Nat → State → State
  | 0, s => s
  | f + 1, s =>
    match (s.str n).rows with
    | [] => s
    | r :: t =>
      let mems := membersAt (s.str n) r.t
      if mems = [] ∨ !(mems.all (fun c => r.got.any (fun y => decide (y.1 = c)))) then s
      else
        let s1 := s.setStr n { s.str n with rows := t }
        if r.lost.isSome then drainRows n fmt grid f s1
        else
          let ws := mems.map (fun c => match r.got.find? (fun y => decide (y.1 = c)) with | some y => y.2 | none => 0)
          drainRows n fmt grid f (appendIdx n fmt grid r.k (secOf r.t) mems ws s1)

/-- Put a member's word into its row. -/
def addRow (l : List RowAcc) (k t c : Nat) (w : Word) (lost : Option Nat) : List RowAcc :=
  match l with
  | [] => [⟨k, t, [(c, w)], lost⟩]
  | r :: l1 =>
    if r.k = k then { r with got := r.got ++ [(c, w)] } :: l1
    else if k < r.k then ⟨k, t, [(c, w)], lost⟩ :: r :: l1
    else r :: addRow l1 k t c w lost

/-- The reason an index was lost under at its first word. -/
def rowLost (l : List RowAcc) (k : Nat) : Option (Option Nat) :=
  match l.find? (fun r => decide (r.k = k)) with | some r => some r.lost | none => none

/-- A plain stream's word (R279, R281, R295): `fill` its FILL reason or 0, `notes` its note entries. -/
def queuePlain (n c grid k t : Nat) (w : Word) (fill : Nat) (notes : List (List Word)) (s : State) : State :=
  let st := s.str n
  let sec := secOf t
  let mems := membersAt st t
  let bytes := payloadBytes st.desc.format 1 mems.length
  let lost := match rowLost st.rows k with | some l => l | none => lossReason s n bytes
  let s1 := match lost with
    | some r =>
      let run := (s.str n).protRun
      let s' := account n c k sec (.fill r) s
      let s'' := s'.setStr n { s'.str n with protRun := true, gapClose := true }
      if r = 0x0C && !run then raise pQUE 4 s'' else if r = 0x0B then p0Lost s'' else s''
    | none =>
      let s' := account n c k sec (if fill = 0 then .delivered else .fill fill) s
      let s'' := s'.setStr n { s'.str n with protRun := false, notes := (s'.str n).notes ++ notes.map (fun x => (k, x)) }
      p0Add 4 s''
  let s2 := s1.setStr n { s1.str n with rows := addRow (s1.str n).rows k t c w lost }
  drainRows n st.desc.format grid ((s2.str n).rows.length) s2

/-- The end of a stopping stream: its open packet closes with LAST and QUE_STOPPED is raised (R279). -/
def finishStream (n : Nat) (s : State) : State :=
  let s1 := closePkt n true s
  raise pQUE 5 (s1.setStr n { s1.str n with run := false, rows := [], notes := [] })

/-- A stopping stream ends once none of its members has an index before the stop still to come and, of a compressed one, every word is coded and
committed (R279). -/
def strSettle (n : Nat) (s : State) : State :=
  let st := s.str n
  match st.stopAt with
  | none => s
  | some u =>
    let ms := s.members n
    let left := (st.memSets.flatMap (·.2)).any (fun c => s.owesBefore c u) || ms.any (fun c => s.comesBefore c u)
    let coding := (s.cmp n).blk.isSome || !((s.cmp n).inq.isEmpty)
    if st.run && !left && !coding && (decide (u ≤ s.st) || ms.all s.ctxRuns) then finishStream n s else s

/-- Stopping streams end. -/
def strSweep (s : State) : State := (s.strs.map (·.1)).foldl (fun a n => strSettle n a) s

/-- A stream's members changed by a commit at the safe point `t`: a new member set from there on (R282). -/
def membersChanged (n t : Nat) (s : State) : State :=
  let st := s.str n
  let ms := s.members n
  if st.run && decide (membersAt st t ≠ ms) then s.setStr n { st with memSets := (t, ms) :: st.memSets } else s

/-! ### The second entry (R294, R295) -/

/-- FILL words L8 to L14 of a second entry. -/
def fillWords (f : List Nat) : List Word :=
  (List.range 7).map (fun i => word (f.getD (2 * i) 0 + 2 ^ 16 * f.getD (2 * i + 1) 0))

/-- Whether every member has passed second `S` (R295). -/
def secondDone (s : State) (n sec : Nat) : Bool :=
  let st := s.str n
  let ms := membersAt st ((sec + 1) * secU)
  !st.run || (ms.all (fun c => decide (sec < tget mem0 st.memSec c)) && !(decide (ms = [])))

/-- Write the second entry of `sec` and go on to the next second. -/
def writeSecond (n sec idle : Nat) (s : State) : State :=
  let st := s.str n
  let a : SecAcc := match st.secs.find? (fun a => decide (a.sec = sec)) with | some a => a | none => { sec := sec }
  let nm := (membersAt st ((sec + 1) * secU - 1)).length
  let f := a.first.getD (2 ^ 64 - 1)
  let s1 := s.setStr n { st with secs := st.secs.filter (fun a => decide (a.sec ≠ sec)), nextSec := some (sec + 1) }
  ledgerPut ([word (6 * 2 ^ 28 + 2 ^ 24 + n * 2 ^ 16 + (nm - 1)), word sec, word (sec / 2 ^ 32), word f, word (f / 2 ^ 32), word a.expected,
    word a.delivered, word idle] ++ fillWords a.fills) s1

/-! ### Reading a stream's head (R284, R287, R288, R293) -/

/-- Whether external memory holds an uncorrectable word at a byte address. -/
def memBad (s : State) (a : Nat) : Bool := decide (a / 4 * 4 ∈ s.dram.badU)

/-- A packet's stored words, and which of them are damaged. -/
def storedPkt (s : State) (n : Nat) (p : Pkt) : List (Word × Bool) :=
  match p.rsv with
  | some ws => ((List.range ws.length).zip ws).map (fun x => (x.2, decide (x.1 ∈ p.rsvBad)))
  | none =>
    match (s.str n).region with
    | some (pg, pages) =>
      (List.range (p.len / 4)).map (fun i =>
        let a := pg * 4096 + (p.ofs + 4 * i) % (pages * 4096)
        (s.dramW a, memBad s a))
    | none => []

/-- The bytes of damaged payload words replaced so that each sample they touch is a placeholder (R293). -/
def healPayload (fmt cnt : Nat) (ws : List (Word × Bool)) : List Word :=
  let bytes := ws.flatMap (fun x => (wordBytes x.1).map (fun b => (b, x.2)))
  if fmt = 0 then ws.map (fun x => if x.2 then 0x80000040 else x.1)
  else if fmt = 1 ∨ fmt = 2 then
    let vb := if fmt = 1 then 3 else 2
    let hit (i : Nat) : Bool := ((List.range vb).any (fun j => (bytes.getD (vb * i + j) (0, false)).2)) || (bytes.getD (vb * cnt + i) (0, false)).2
    let val (i j : Nat) : Nat := if hit i then (if j + 1 = vb then 0x80 else 0) else (bytes.getD (vb * i + j) (0, false)).1
    packBytes ((List.range cnt).flatMap (fun i => (List.range vb).map (fun j => val i j))
      ++ (List.range cnt).map (fun i => if hit i then 0x40 else (bytes.getD (vb * cnt + i) (0, false)).1))
  else ws.map (·.1)

/-- The words of a packet as its consumer reads them: GAP, REPLAY and MEM in P1 and P7 recomputed where they change (R280, R288,
R293); `none` where the header itself is damaged. -/
def deliverPkt (s : State) (n : Nat) (p : Pkt) : Option (List Word) :=
  let ws := storedPkt s n p
  let hd := ws.take 8
  let pl := ws.drop 8
  if hd.any (·.2) then none
  else
    let mem := pl.any (·.2)
    let pay := if mem then healPayload p.fmt (p.count * p.nmem) pl else pl.map (·.1)
    let fl := p.flags ||| (if p.gap then 1 else 0) ||| (if p.replay then 2 else 0) ||| (if mem then 64 else 0)
    let h0 := hd.map (·.1)
    let head := (h0.take 1) ++ [word ((h0.getD 1 0).toNat / 2 ^ 16 * 2 ^ 16 + fl)] ++ (h0.drop 2).take 5
    if fl = p.flags && !mem then some (ws.map (·.1)) else some (pktWords head pay)

/-- Whether a packet holds a damaged word. -/
def pktDamaged (s : State) (n : Nat) (p : Pkt) : Bool := (storedPkt s n p).any (·.2)

/-- Log an ECC error's address unless one is latched (R316). -/
def eccLog (a : Nat) (d : DramSt) : DramSt := if d.latched then d else { d with eccAddr := a, latched := true }

/-- An uncorrectable beat is read: counted, logged, DRAM_ECC_UNCORR (R316). -/
def eccUncorr (a : Nat) (s : State) : State :=
  raise pDRAM 5 { s with dram := { eccLog a s.dram with uncorr := satInc 16 s.dram.uncorr } }

/-- A beat is read corrected: counted, logged, DRAM_ECC_CORR (R316). -/
def eccCorr (a : Nat) (s : State) : State :=
  raise pDRAM 4 { s with dram := { eccLog a s.dram with corr := satInc 16 s.dram.corr } }

/-- What a read of the beat at `a` counts and raises (R316). -/
def eccRead (a : Nat) (s : State) : State := if a ∈ s.dram.badU then eccUncorr a s else if a ∈ s.dram.badC then eccCorr a s else s

/-- The addresses of a packet's words. -/
def pktAddrs (s : State) (n : Nat) (p : Pkt) : List Nat :=
  match p.rsv, (s.str n).region with
  | none, some (pg, pages) => (List.range (p.len / 4)).map (fun i => pg * 4096 + (p.ofs + 4 * i) % (pages * 4096))
  | _, _ => []

/-- Ledger a damaged packet (R293). -/
def memRange (n : Nat) (p : Pkt) (s : State) : State :=
  raise pSTORE 3 (rangeEntry n 0x0D p.first p.last (p.count * p.nmem) p.nmem s)

/-- Change one packet of a stream. -/
def modPkt (n q : Nat) (f : Pkt → Pkt) (s : State) : State :=
  s.setStr n { s.str n with pkts := (s.str n).pkts.map (fun p => if p.pseq = q then f p else p) }

/-- The oldest packet not read. -/
def headPkt (st : StrSt) : Option Pkt := st.pkts.find? (fun p => !p.isRead)

/-- The head can read a packet now (R284): it lies in the reserve, it was the last to close, so that the tail hands it over, or external memory's
ports are open. -/
def headOk (s : State) (n : Nat) (p : Pkt) : Bool :=
  p.rsv.isSome || memOpen s || decide (((s.str n).pkts.getLast?).map (·.pseq) = some p.pseq)

/-- Port P1 waits for a controller in self-refresh, which is asked to leave it (R319). -/
def p1Ask (s : State) : State :=
  if s.dram.selfref && !s.dram.p1Wait then raise pDRAM 6 { s with dram := { s.dram with p1Wait := true } } else s

/-- Begin the head packet: it takes the owed GAP; a packet with a damaged header is passed over (R293). -/
def beginPkt (n : Nat) : Nat → State → State
  | 0, s => s
  | f + 1, s =>
    match headPkt (s.str n) with
    | none => s
    | some p =>
      if !(headOk s n p) then p1Ask s
      else
        let dam := pktDamaged s n p
        let s0 := (pktAddrs s n p).foldl (fun a x => eccRead x a) s
        let s1 := if dam then memRange n p s0 else s0
        let g := (s.str n).gapNext
        let s2 := modPkt n p.pseq (fun p => { p with gap := p.gap || g }) (s1.setStr n { s1.str n with gapNext := false })
        match deliverPkt s2 n { p with gap := p.gap || g } with
        | none => beginPkt n f (modPkt n p.pseq (fun p => { p with isRead := true }) (s2.setStr n { s2.str n with gapNext := true }))
        | some _ => s2.setStr n { s2.str n with reading := some (p.pseq, 0) }

/-- Take the next word of a stream's head: the word, 0 where there is none (R284). -/
def takeWord (n : Nat) (s : State) : Option Word × State :=
  let s1 := if (s.str n).reading.isNone then beginPkt n ((s.str n).pkts.length) s else s
  match (s1.str n).reading with
  | none => (none, s1)
  | some (q, i) =>
    match (s1.str n).pkts.find? (fun p => decide (p.pseq = q)) with
    | none => (none, s1)
    | some p =>
      match deliverPkt s1 n p with
      | none => (none, s1)
      | some ws =>
        let s2 := if i + 1 < ws.length then s1.setStr n { s1.str n with reading := some (q, i + 1) }
          else modPkt n q (fun p => { p with isRead := true }) (s1.setStr n { s1.str n with reading := none })
        (some (ws.getD i 0), s2)

/-- The words of closed packets readable now (QUE_RD_AVAIL). -/
def wordsAvail (st : StrSt) : Nat :=
  ((st.pkts.filter (fun p => !p.isRead)).map (fun p => p.len / 4)).sum - (match st.reading with | some (_, i) => i | none => 0)

end Sys2Proof.Machine
end

