-- ==== Sys2Proof/Machine/CmpCode.lean ====
section
/-! DEFINITION. The block coder of predictive compression (R257 to R265): prediction, Rice codes, adaptation, tags and header. -/

namespace Sys2Proof.Machine

/-- The time prediction p_t (R258). -/
def predT (order : Nat) (m : CmpMem) : Int :=
  match order with
  | 0 => 0
  | 1 => m.x1
  | 2 => 2 * m.x1 - m.x2
  | _ => 3 * m.x1 - 3 * m.x2 + m.x3

/-- The residue's map to an unsigned number (R260). -/
def zOf (r : Int) : Nat := if 0 ≤ r then (2 * r).toNat else (-2 * r - 1).toNat

/-- The Rice parameter of an adaptation sum (R261). -/
def riceK (a : Nat) : Nat := if a / 16 = 0 then 0 else Nat.log2 (a / 16)

/-- The low `n` bits of a number, most significant first. -/
def msb (n v : Nat) : List Bool := ((List.range n).map (fun i => v.testBit (n - 1 - i)))

/-- One value code (R260). -/
def riceCode (k z : Nat) : List Bool :=
  if z / 2 ^ k < 24 then List.replicate (z / 2 ^ k) true ++ false :: msb k z else List.replicate 24 true ++ msb 28 z

/-- The adaptation sum after a coded value (R261). -/
def adaptNext (a z : Nat) : Nat := a + min z (2 ^ 20 - 1) - a / 16

/-- What coding one member's words gives: its codes, the time residues its neighbours use, its state after. -/
structure MemCode where
  bits : List Bool
  es : List Int
  st : CmpMem
  deriving DecidableEq, Repr

/-- Code a member's words in index order (R258 to R261): `nb` the neighbour's time residues. -/
def codeMember (order : Nat) : List Word → List Int → CmpMem → MemCode
  | [], _, m => ⟨[], [], m⟩
  | w :: ws, nb, m =>
    let pt := predT order m
    if isFill w then
      let x := clampI (-(2 ^ 23 - 1)) (2 ^ 23 - 1) pt
      let r := codeMember order ws (nb.drop 1) { m with x1 := x, x2 := m.x1, x3 := m.x2 }
      ⟨r.bits, 0 :: r.es, r.st⟩
    else
      let x := wVal w
      let z := zOf (x - (pt + nb.headD 0))
      let k := riceK m.adapt
      let r := codeMember order ws (nb.drop 1) ⟨x, m.x1, m.x2, adaptNext m.adapt z⟩
      ⟨riceCode k z ++ r.bits, (x - pt) :: r.es, r.st⟩

/-- TAGMODE of a member's words (R262). -/
def tagMode (ws : List Word) : Nat :=
  if ws.all (fun w => wTag w == 0) then 0
  else if ws.all (fun w => wTag w == wTag (ws.headD 0)) then 1 else 2

/-- Pack bits into words from bit 31 downward, padded with zeros (R263). -/
def packBits : Nat → List Bool → List Word
  | 0, _ => []
  | f + 1, bs =>
    if bs = [] then []
    else word (((bs.take 32 ++ List.replicate (32 - (bs.take 32).length) false).foldl (fun n b => 2 * n + (if b then 1 else 0)) 0)) :: packBits f (bs.drop 32)

/-- The codes of every member in order (R263): `preds` the PRED fields, `done` the earlier members' time residues. -/
def codeMembers : List (List Word) → List Nat → List CmpMem → List (List Int) → List (List Bool × CmpMem × Nat)
  | [], _, _, _ => []
  | ws :: rest, ps, ms, done =>
    let p := ps.headD 0
    let nb := if nfld p 2 2 = 1 then done.getD (nfld p 4 3) [] else []
    let r := codeMember (nfld p 1 0) ws nb (ms.headD {})
    let tm := tagMode ws
    let tags := if tm = 2 then ws.flatMap (fun w => msb 8 (wTag w)) else []
    (tags ++ r.bits, r.st, tm) :: codeMembers rest (ps.drop 1) (ms.drop 1) (done ++ [r.es])

/-- What coding a block gives: its words, whether it is raw, and the members' states after it. -/
structure BlkOut where
  words : List Word
  raw : Bool
  mems : List CmpMem
  deriving DecidableEq, Repr

/-- Code one block (R257, R263 to R265). -/
def codeBlock (b : CmpBlk) (bseq : Nat) (flushed : Bool) (ms : List CmpMem) : BlkOut :=
  let nm := b.words.length
  let n := (b.words.headD []).length
  let cs := codeMembers b.words b.pred ms []
  let body := packBits ((cs.map (fun c => c.1.length)).sum / 32 + 1) (cs.flatMap (·.1))
  let raw := decide (n * nm ≤ body.length)
  let orig := b.words.flatten
  let bodyW := if raw then orig else body
  let tms := cs.map (fun c => if raw then 0 else c.2.2)
  let field (l : List Nat) : Nat := ((List.range 4).map (fun m => l.getD m 0 * 2 ^ (8 * m))).sum
  let preds := (List.range nm).map (fun m => b.pred.getD m 0 + 32 * tms.getD m 0)
  let tagb := (List.range nm).map (fun m => if tms.getD m 0 = 1 then wTag ((b.words.getD m []).headD 0) else 0)
  let h0 := 0xC1 * 2 ^ 24 + (if raw then 2 ^ 23 else 0) + (if flushed then 2 ^ 22 else 0) + (if b.restored then 2 ^ 21 else 0)
    + (if b.firstFlag then 2 ^ 20 else 0) + (nm - 1) * 2 ^ 18 + bseq % 2 ^ 16
  let h1 := (if b.reset then (2 ^ nm - 1) * 2 ^ 16 else 0) + n
  ⟨[word h0, word h1, word b.first, word (b.first / 2 ^ 32), word (field preds), word (field tagb), word bodyW.length, crcWords orig] ++ bodyW,
    raw, cs.map (fun c => c.2.1)⟩

/-- The 16 state words of a stream (R271). -/
def stateWords (nm bseq next : Nat) (ms : List CmpMem) : List Word :=
  let mw (m : Nat) : List Word :=
    if m < nm then
      let c := ms.getD m {}
      [word (unsgn 24 c.x1 * 2 ^ 8 + c.adapt / 2 ^ 16), word (unsgn 24 c.x2 * 2 ^ 8 + c.adapt / 2 ^ 8 % 256), word (unsgn 24 c.x3 * 2 ^ 8 + c.adapt % 256)]
    else [0, 0, 0]
  let ws := [word (2 ^ 28 + (nm - 1) * 2 ^ 24 + bseq % 2 ^ 16), word next, word (next / 2 ^ 32)] ++ mw 0 ++ mw 1 ++ mw 2 ++ mw 3
  ws ++ [crcWords ws]

/-- The members' states of 16 state words (R271, R273). -/
def stateMems (nm : Nat) (ws : List Word) : List CmpMem :=
  (List.range nm).map (fun m =>
    let a := ws.getD (3 + 3 * m) 0
    let b := ws.getD (4 + 3 * m) 0
    let c := ws.getD (5 + 3 * m) 0
    ⟨wVal a, wVal b, wVal c, wTag a * 2 ^ 16 + wTag b * 2 ^ 8 + wTag c⟩)

end Sys2Proof.Machine
end

