-- ==== Sys2Proof/Machine/Cmp.lean ====
section
/-! DEFINITION. The compressor's engine (R255, R256, R266 to R273): input queues, blocks, flushes, saving and restoring; and the
queuing of a delivered word on a stream, plain or compressed. -/

namespace Sys2Proof.Machine

/-- Whether the words of an index at instant `t` are compressed on stream `n` (R255, R266). -/
def compressedAt (s : State) (n t : Nat) : Bool :=
  (s.cmp n).cfg.en && (match (s.cmp n).enAt with | some a => decide (a + usU ≤ t) | none => true)

/-- BLK with its bounds (CMP_CFG). -/
def cmpBlkLen (c : CmpCfg) : Nat := max 64 (min 4096 c.blk)

/-- The worst case of the next block, in bytes (R267). -/
def cmpWorst (s : State) (n nm : Nat) : Nat := 32 + 4 * cmpBlkLen (s.cmp n).cfg * nm

/-- A neighbour that is not below its member is not used, and refused with reason NB (R266). -/
def cmpPreds (c : CmpCfg) (nm : Nat) : List Nat × Bool :=
  let bad (m : Nat) : Bool := (c.pred.getD m 0).testBit 2 && decide (m ≤ nfld (c.pred.getD m 0) 4 3)
  ((List.range nm).map (fun m => if bad m then (c.pred.getD m 0) % 4 else (c.pred.getD m 0) % 32), (List.range nm).any bad)

/-- Refuse a CMP command or setting (CMP_REJ). -/
def cmpRej (n reason : Nat) (s : State) : State :=
  raise pCMP 5 { s with cmpc := { s.cmpc with rejReason := reason, rejStream := n } }

/-- How many indices an open block can still hold: BLK, cut before the first lost index and before a change of members
(R256, R268). -/
def cmpLimit (s : State) (n : Nat) (b : CmpBlk) : Nat :=
  let c := s.cmp n
  let cuts := (c.lostK.filter (fun k => decide (b.first ≤ k))) ++
    ((c.inq.filter (fun i => decide (membersAt (s.str n) i.t ≠ b.mems))).map (·.k))
  cuts.foldl (fun a k => min a (k - b.first)) b.n

/-- What a waiting word counts as (R294). -/
def cmpAcct (i : CmpIn) : Acct := if i.fill = 0 then .delivered else .fill i.fill

/-- A waiting word of an index lost to a full input queue is lost with it (R268). -/
def inqLost (n : Nat) (i : CmpIn) (s : State) : State :=
  if i.acc then s.setStr n { s.str n with secs := secMove (s.str n).secs (secOf i.t) 0x0B (cmpAcct i) }
  else account n i.ctx i.k (secOf i.t) (.fill 0x0B) s

/-- Take every waiting word that belongs to the open block (R267, R295): it is accounted as it is taken. -/
def cmpTake (n : Nat) (s : State) : State :=
  match (s.cmp n).blk with
  | none => s
  | some b =>
    let lim := cmpLimit s n b
    let mine (i : CmpIn) : Bool := decide (i.ctx ∈ b.mems) && decide (i.k < b.first + lim) && decide (b.first ≤ i.k)
    let got := (s.cmp n).inq.filter mine
    let s1 := (got.filter (fun i => !i.acc)).foldl (fun t i => account n i.ctx i.k (secOf i.t) (cmpAcct i) t) s
    let words := (b.mems.zip b.words).map (fun x => x.2 ++ (got.filter (fun i => decide (i.ctx = x.1))).map (·.w))
    let came := (b.mems.zip b.came).map (fun x => x.2 ++ (got.filter (fun i => decide (i.ctx = x.1))).map (fun i => (i.t, i.fill)))
    s1.setCmp n { s1.cmp n with inq := (s1.cmp n).inq.filter (fun i => !(mine i)), blk := some { b with words := words, came := came } }

/-- The indices every member of the open block has delivered. -/
def cmpWhole (b : CmpBlk) : Nat := (b.words.map List.length).foldl min b.n

/-- End the open block after `c` whole indices (R256, R269): the rest of its words wait again, but those of an index lost to a full input queue are lost
too (R268); without an index there is no block. -/
def cmpCut (n c : Nat) (reset : Bool) (s : State) : State :=
  match (s.cmp n).blk with
  | none => s
  | some b =>
    let all := (b.mems.zip (b.words.zip b.came)).flatMap (fun x => ((List.range x.2.1.length).zip (x.2.1.zip x.2.2)).filterMap (fun y =>
      if c ≤ y.1 then some (⟨x.1, b.first + y.1, y.2.2.1, y.2.1, y.2.2.2, true⟩ : CmpIn) else none))
    let st := s.cmp n
    let gone (i : CmpIn) : Bool := decide (i.k ∈ st.lostK)
    let back := all.filter (fun i => !(gone i))
    let s := (all.filter gone).foldl (fun t i => inqLost n i t) s
    if c = 0 then s.setCmp n { st with blk := none, inq := back ++ st.inq, needReset := st.needReset || reset || b.reset, needFirst := st.needFirst || b.firstFlag, needRestored := st.needRestored || b.restored }
    else s.setCmp n { st with blk := some { b with words := b.words.map (List.take c), came := b.came.map (List.take c) }, ready := true, flushedEnd := decide (c < b.n), inq := back ++ st.inq,
                              needReset := reset }

/-- A full block is ready to commit; one cut short by a gap or by a change of members ends with FLUSHED (R256, R268). -/
def cmpSettle (n : Nat) (s : State) : State :=
  match (s.cmp n).blk with
  | none => s
  | some b =>
    if (s.cmp n).ready then s
    else
      let lim := cmpLimit s n b
      if cmpWhole b = b.n then s.setCmp n { s.cmp n with ready := true, flushedEnd := false }
      else if lim < b.n && decide (lim ≤ cmpWhole b) then cmpCut n lim true s
      else s

/-- Start a block when words wait and the queue has room for its worst case; without room the stream waits (R267). -/
def cmpStart (n : Nat) (s : State) : State :=
  let c := s.cmp n
  match c.blk, c.inq with
  | none, i :: _ =>
    if c.suspended then s
    else
      let ms := membersAt (s.str n) i.t
      if decide (strRoom s n < cmpWorst s n ms.length) then
        if c.waiting then s else raise pCMP 0 (s.setCmp n { c with waiting := true })
      else
        let pr := cmpPreds c.cfg ms.length
        let anchor := decide (c.cfg.anchor ≠ 0) && decide (c.bseq % max c.cfg.anchor 1 = 0)
        let first := (c.inq.filter (fun x => decide (x.ctx ∈ ms))).foldl (fun a x => min a x.k) i.k
        let rst := c.needFirst || c.needReset || anchor || decide (c.mems.length ≠ ms.length) || (c.needRestored && decide (c.nextIdx < first))
        let b : CmpBlk := { n := cmpBlkLen c.cfg, mems := ms, grid := dGRID (s.ctx i.ctx).desc, sec := secOf i.t, pred := pr.1, first := first, reset := rst,
                            firstFlag := c.needFirst, restored := c.needRestored, words := ms.map (fun _ => []), born := s.clk, came := ms.map (fun _ => []) }
        let s1 := s.setCmp n { c with waiting := false, blk := some b, needFirst := false, needReset := false, needRestored := false,
                                      lostK := c.lostK.filter (fun k => decide (first ≤ k)),
                                      mems := if rst then ms.map (fun _ => {}) else c.mems }
        let s2 := if pr.2 then cmpRej n 2 s1 else s1
        let s3 := cmpSettle n (cmpTake n s2)
        match c.flushWait, (s3.cmp n).blk with
        | some k, some b =>
          let s4 := s3.setCmp n { s3.cmp n with flushWait := none }
          let e := min (cmpWhole b) (k - b.first)
          if (s3.cmp n).ready ∨ e = 0 then s4 else raise pCMP 2 (cmpCut n e false s4)
        | _, _ => s3
  | _, _ => s

/-- Commit the ready block to the stream queue whole (R264, R267). -/
def cmpCommit (n : Nat) (s : State) : State :=
  let c := s.cmp n
  match c.blk with
  | none => s
  | some b =>
    if c.ready then
      let o := codeBlock b c.bseq c.flushedEnd c.mems
      let cnt := (b.words.headD []).length
      let sa := closePkt n false s
      let mine := (sa.str n).notes.filter (fun x => decide (x.1 < b.first + cnt))
      let s0 := notePkt n ((mine.map (·.1)).foldl min b.first) (b.first + cnt - 1) b.grid b.sec b.mems.length (mine.map (·.2))
        (sa.setStr n { sa.str n with notes := (sa.str n).notes.filter (fun x => !(decide (x.1 < b.first + cnt))) })
      let fl := (b.words.flatten.map wordFlags).foldl (· ||| ·) 0
      let q := (s0.str n).pseq
      let g := (s0.str n).gapClose
      let fl := fl ||| (if g then 1 else 0)
      let h := pktHead n 4 b.mems.length q fl b.first cnt b.grid o.words.length b.sec
      let s1 := placePkt n { ofs := 0, len := 32 + 4 * o.words.length, pseq := q, fmt := 4, first := b.first, last := b.first + cnt - 1, count := cnt, nmem := b.mems.length, grid := b.grid, sec := b.sec, flags := fl, rsv := none, isRead := false, replay := false, gap := false }
        (pktWords h o.words) (s0.setStr n { s0.str n with gapClose := false })
      let s2 := s1.setCmp n { c with mems := o.mems, bseq := (c.bseq + 1) % 2 ^ 16, blk := none, ready := false, flushedEnd := false, nextIdx := b.first + cnt, blocks := (c.blocks + 1) % 2 ^ 32, raws := if o.raw then satInc 32 c.raws else c.raws, inBytes := (c.inBytes + 4 * cnt * b.mems.length) % 2 ^ 64, outBytes := (c.outBytes + 4 * o.words.length) % 2 ^ 64 }
      raiseIf o.raw pCMP 7 s2
    else s

/-- The first index of which not every member's word waits, among the words waiting. -/
def inqWhole (s : State) (n : Nat) : Nat :=
  let c := s.cmp n
  match c.inq with
  | [] => 0
  | i :: _ =>
    let ms := membersAt (s.str n) i.t
    let ends := ms.map (fun m => (c.inq.filter (fun x => decide (x.ctx = m))).foldl (fun a x => max a (x.k + 1)) 0)
    match ends with | e :: t => t.foldl min e | [] => 0

/-- A flush of the present block (R269): it ends after the last whole index; CMP_FLUSH_DONE is raised when it ends a block. While the stream waits it is
kept for the block that starts next, with the indices whose words wait now. -/
def cmpFlush (n : Nat) (s : State) : State :=
  let c := s.cmp n
  match c.blk with
  | none => if c.waiting then s.setCmp n { c with flushWait := some (inqWhole s n) } else s
  | some b =>
    if c.ready || decide (cmpWhole b = 0) then s else raise pCMP 2 (cmpCut n (cmpWhole b) false s)

/-- A block still open FLUSH_MS after its first word is flushed (R269). -/
def cmpAge (n : Nat) (s : State) : State :=
  match (s.cmp n).blk with
  | some b => if (s.cmp n).cfg.flushMs ≠ 0 ∧ s.passed b.born ((s.cmp n).cfg.flushMs * 1000000) then cmpFlush n s else s
  | none => s

/-- A member's word for a compressed stream (R267, R268). An index is lost whole: with one word refused, the others of that index are not coded either. -/
def queueCmp (n c k t : Nat) (w : Word) (fill : Nat) (s : State) : State :=
  let st := s.cmp n
  if decide (256 ≤ st.inq.length) || decide (k ∈ st.lostK) then
    let s1 := account n c k (secOf t) (.fill 0x0B) s
    let s1 := (st.inq.filter (fun i => decide (i.k = k))).foldl (fun a i => inqLost n i a) s1
    let s2 := s1.setCmp n { st with ovf := satInc 16 st.ovf, ovfRun := true, lostK := if k ∈ st.lostK then st.lostK else st.lostK ++ [k], inq := st.inq.filter (fun i => decide (i.k ≠ k)) }
    cmpSettle n (raiseIf (!st.ovfRun) pCMP 1 s2)
  else
    let s1 := s.setCmp n { st with inq := st.inq ++ [⟨c, k, t, w, fill, false⟩], ovfRun := false }
    if st.ready || st.suspended then s1
    else cmpSettle n (cmpTake n (if (s1.cmp n).blk.isNone then cmpStart n s1 else s1))

/-- The last word change capture stored on a stream the context names (R252): STREAM and STREAM2 each have their own. -/
def ccLast (x : CtxSt) (n : Nat) : Option (Word × Nat × Nat) := if dSTREN x.desc ∧ dSTREAM x.desc = n then x.cc else x.cc2
def ccSet (x : CtxSt) (n : Nat) (v : Option (Word × Nat × Nat)) : CtxSt := if dSTREN x.desc ∧ dSTREAM x.desc = n then { x with cc := v } else { x with cc2 := v }

/-- Change capture's judgement of an output (R252, R254): the entry to store, if any, and the capture's new last word. -/
def ccEntry (d : List Word) (last : Option (Word × Nat × Nat)) (k t : Nat) (w : Word) : Option (List Word) :=
  let stored : Bool := match last with
    | none => true
    | some (ws, ks, _) =>
      decide (dCCDEAD d < (wVal w - wVal ws).natAbs) || decide (wTag w % 128 ≠ wTag ws % 128) || bit w 7
        || (decide (dCCHB d ≠ 0) && decide (dCCHB d ≤ k - ks))
  if stored then
    match last with
    | some (_, ks, sec) =>
      if sec = secOf t then some [word (2 ^ 28 + (k - ks) % 2 ^ 28), w] else some [word (2 ^ 28), word k, word (k / 2 ^ 32), w]
    | none => some [word (2 ^ 28), word k, word (k / 2 ^ 32), w]
  else none

/-- A change-capture stream's output (R252 to R254): a stored entry enters the packet, a left-out index counts as delivered. -/
def queueCc (n c grid k t : Nat) (w : Word) (fill : Nat) (notes : List (List Word)) (s : State) : State :=
  let cs := s.ctx c
  match ccEntry cs.desc (ccLast cs n) k t w with
  | none => account n c k (secOf t) (if fill = 0 then .delivered else .fill fill) s
  | some e =>
    match lossReason s n (4 * e.length) with
    | some r => account n c k (secOf t) (.fill r) (s.setStr n { s.str n with gapClose := true })
    | none =>
      let s1 := account n c k (secOf t) (if fill = 0 then .delivered else .fill fill) s
      let s2 := s1.setCtx c (ccSet (s1.ctx c) n (some (w, k, secOf t)))
      let s3 := s2.setStr n { s2.str n with notes := (s2.str n).notes ++ notes.map (fun x => (k, x)) }
      p0Add (4 * e.length) (appendIdx n 3 grid k (secOf t) [c] e s3)

/-- Queue a context's output on one stream (R279, R255, R252). -/
def queueOn (n c k t : Nat) (w : Word) (fill : Nat) (notes : List (List Word)) (s : State) : State :=
  let d := (s.ctx c).desc
  if takes (s.str n) t then
    if compressedAt s n t then queueCmp n c k t w fill (s.setStr n { s.str n with notes := (s.str n).notes ++ notes.map (fun x => (k, x)) })
    else if dCCEN d then queueCc n c (dGRID d) k t w fill notes s
    else queuePlain n c (dGRID d) k t w fill notes s
  else s

/-- The words that wait when compression of a stream ends go to the stream uncompressed (R266); those already accounted are not accounted again. -/
def inqPlain (n : Nat) (s : State) : State :=
  let one (s : State) (i : CmpIn) : State :=
    let d := (s.ctx i.ctx).desc
    let q := if dCCEN d then queueCc n i.ctx (dGRID d) i.k i.t i.w i.fill [] s else queuePlain n i.ctx (dGRID d) i.k i.t i.w i.fill [] s
    if i.acc then q.setStr n { q.str n with secs := (s.str n).secs, nextSec := (s.str n).nextSec, memSec := (s.str n).memSec } else q
  (s.cmp n).inq.foldl one (s.setCmp n { s.cmp n with inq := [], waiting := false, flushWait := none, lostK := [], ovfRun := false })

/-- The present block ends and the stream's words go uncompressed from the next index on (R266). -/
def cmpEnd (n : Nat) (s : State) : State :=
  let s1 := cmpCut n 0 false (cmpCommit n (cmpFlush n s))
  inqPlain n (s1.setCmp n { s1.cmp n with cfg := { (s1.cmp n).cfg with en := false }, enAt := none, blk := none, ready := false, ccIgnored := false })

/-- Where the members of an open block give no further index, as after a grid stop or a stop of its members, or its stream stops, the block ends (R256;
of the stream's own stop the spec says nothing: DESIGN CHOICE, log entry 117). -/
def cmpStopped (n : Nat) (s : State) : State :=
  match (s.cmp n).blk with
  | none => s
  | some b =>
    let st := s.str n
    let done (c : Nat) : Bool := !(s.ctxRuns c) && !(s.owes c) && !(s.tails.any (fun (x : TailSt) => decide (x.ctx = c) && runOwes x.run x.grid (fun _ => true)))
    let ended (c : Nat) : Bool := done c || (match st.stopAt with | some u => !(s.owesBefore c u) && decide (u ≤ s.st) | none => false)
    if !(s.cmp n).ready && decide (cmpWhole b ≠ 0) && b.mems.all ended && b.words.all (fun l => decide (l.length = cmpWhole b)) then
      cmpCut n (cmpWhole b) (decide (s.members n ≠ b.mems)) s
    else s

/-- Blocks whose members have stopped end. -/
def cmpSweep (s : State) : State := (s.cmps.map (·.1)).foldl (fun a n => cmpStopped n a) s

/-- Queue a context's output on the streams it names (R275). -/
def queueOut (c k t : Nat) (w : Word) (fill : Nat) (notes : List (List Word)) (s : State) : State :=
  let d := (s.ctx c).desc
  let s1 := if dSTREN d then queueOn (dSTREAM d) c k t w fill notes s else s
  if dSTR2EN d then queueOn (dSTREAM2 d) c k t w fill notes s1 else s1

/-! ### The commands of the CMP page -/

/-- What a commit does to the compression of a stream whose members it changed (R256, R266): more than four members or a second
grid end the present block and clear EN. -/
def cmpMembers (n : Nat) (s : State) : State :=
  let ms := s.members n
  let bad := decide (4 < ms.length) || ms.any (fun c => decide (dGRID (s.ctx c).desc ≠ dGRID (s.ctx (ms.headD 0)).desc))
  if (s.cmp n).cfg.en then
    if bad then
      cmpRej n 1 (cmpEnd n s)
    else
      let cc := ms.any (fun c => dCCEN (s.ctx c).desc)
      raiseIf (cc && !((s.cmp n).ccIgnored)) pCMP 6 (s.setCmp n { s.cmp n with ccIgnored := cc })
  else s

/-- A write of CMP_CFG for the selected stream (R266). -/
def cmpCfgWrite (v : Word) (s : State) : State :=
  let n := cmpSel_STREAM s
  let c := s.cmp n
  let ms := s.members n
  let bad := decide (4 < ms.length) || ms.any (fun x => decide (dGRID (s.ctx x).desc ≠ dGRID (s.ctx (ms.headD 0)).desc))
  let cfg : CmpCfg := { c.cfg with blk := fld v 28 16, flushMs := fld v 15 0 }
  if bit v 31 then
    if c.cfg.en then s.setCmp n { c with cfg := cfg }
    else if bad then cmpRej n 1 (s.setCmp n { c with cfg := cfg })
    else
      let s1 := s.setCmp n { c with cfg := { cfg with en := true }, enAt := some s.st, needFirst := true }
      cmpMembers n s1
  else if c.cfg.en then
    let s1 := cmpEnd n s
    s1.setCmp n { s1.cmp n with cfg := { cfg with en := false } }
  else s.setCmp n { c with cfg := cfg }

/-- OP SAVE (R272). -/
def cmpSave (n : Nat) (s : State) : State :=
  if (s.cmp n).suspended then cmpRej n 4 s
  else
    let s1 := cmpCut n 0 false (cmpCommit n (cmpFlush n s))
    let c := s1.cmp n
    let next := match c.inq with | i :: t => if c.waiting then t.foldl (fun a x => min a x.k) i.k else c.nextIdx | [] => c.nextIdx
    let ws := stateWords (s.members n).length c.bseq next (if c.mems = [] then (s.members n).map (fun _ => {}) else c.mems)
    raise pCMP 3 { s1.setCmp n { c with suspended := true, waiting := false } with cmpc := { s1.cmpc with window := ws, srcSaved := true, srcStream := n } }

/-- OP RESTORE (R273). -/
def cmpRestore (n : Nat) (s : State) : State :=
  let c := s.cmp n
  let ws := s.cmpc.window
  let nm := (s.members n).length
  if !c.suspended then cmpRej n 4 s
  else if ws.getD 15 0 ≠ crcWords (ws.take 15) ∨ fld (ws.getD 0 0) 31 28 ≠ 1 ∨ fld (ws.getD 0 0) 25 24 + 1 ≠ nm then cmpRej n 3 s
  else
    let next := w64 (ws.getD 1 0) (ws.getD 2 0)
    let gone := c.inq.filter (fun i => decide (i.k < next))
    let keep := c.inq.filter (fun i => decide (next ≤ i.k))
    let s1 := s.setCmp n { c with mems := stateMems nm ws, bseq := fld (ws.getD 0 0) 15 0, needRestored := true, needFirst := false, needReset := false, inq := keep, suspended := false, nextIdx := next }
    let s2 := (gone.filter (fun i => !i.acc)).foldl (fun t i => account n i.ctx i.k (secOf i.t) (.fill 0x01) t) s1
    cmpStart n (raise pCMP 4 { s2 with cmpc := { s2.cmpc with skip := min (2 ^ 32 - 1) (s2.cmpc.skip + gone.length) } })

/-- OP RESUME (R272). -/
def cmpResume (n : Nat) (s : State) : State :=
  if (s.cmp n).suspended then cmpStart n (s.setCmp n { s.cmp n with suspended := false }) else cmpRej n 4 s

/-- A page reset of CMP (R273): blocks not committed are discarded and their indices ledgered PAGE_RESET; streams with EN start
again with FIRST. -/
def cmpPageReset (s : State) : State :=
  let lost (n : Nat) (s : State) : State :=
    match (s.cmp n).blk with
    | some b =>
      let most := (b.words.map List.length).foldl max 0
      if most = 0 then s else rangeEntry n 0x01 b.first (b.first + most - 1) (b.words.map List.length).sum b.mems.length s
    | none => s
  let waits (n : Nat) (s : State) : State :=
    (s.cmp n).inq.foldl (fun a i =>
      if i.acc then rangeEntry n 0x01 i.k i.k 1 (max 1 (membersAt (a.str n) i.t).length) a else account n i.ctx i.k (secOf i.t) (.fill 0x01) a) s
  let clear (n : Nat) (s : State) : State := (waits n (lost n s)).setCmp n {}
  { (s.cmps.map (·.1)).foldl (fun t n => clear n t) s with cmpc := {} }

end Sys2Proof.Machine
end

