-- ==== Sys2Proof/Machine/Capt.lean ====
section
/-! DEFINITION. Records (spec chapter 10): grid instants and trigger indices, the record index and the record partition's pages, the
measurements and the layout of a record. -/

namespace Sys2Proof.Machine

/-! ### Pages and the index (R237, R250) -/

/-- The taken slots of the index. -/
def recKeys (s : State) : List Nat := s.recs.map (·.1)

/-- The page runs of the record partition that are used or reserved: (first page, pages). -/
def recRuns (s : State) : List (Nat × Nat) := (recKeys s).flatMap (fun i => match s.recSlot i with | some r => r.runs | none => [])

/-- The pages of a record's runs. -/
def RecSlot.pages (r : RecSlot) : Nat := (r.runs.map (·.2)).sum

/-- CAPT_FREE: record-partition pages neither used nor reserved. -/
def captFree (s : State) : Nat := s.store.recPages - ((recRuns s).map (·.2)).sum

/-- The free pages from `a` on up to the next run or the partition's end; 0 where `a` lies in a run. -/
def recGap (s : State) (a : Nat) : Nat :=
  if (recRuns s).any (fun r => decide (r.1 ≤ a ∧ a < r.1 + r.2)) then 0
  else ((recRuns s).filter (fun r => decide (a ≤ r.1))).foldl (fun m r => min m (r.1 - a)) (s.store.recPages - a)

/-- Where free runs can begin. -/
def recStarts (s : State) : List Nat := 0 :: (recRuns s).map (fun r => r.1 + r.2)

/-- The lowest place for `n` pages in one run. -/
def recPlace (s : State) (n : Nat) : Option Nat :=
  ((recStarts s).filter (fun a => decide (n ≤ recGap s a) && decide (a ≤ s.store.recPages))).min?

/-- Put a run into a list in rising order, once. -/
def insRun (r : Nat × Nat) : List (Nat × Nat) → List (Nat × Nat)
  | [] => [r]
  | x :: t => if r.1 < x.1 then r :: x :: t else if r.1 = x.1 then x :: t else x :: insRun r t

/-- The free runs, in rising order. -/
def recGaps (s : State) : List (Nat × Nat) :=
  (((recStarts s).filter (fun a => decide (0 < recGap s a))).map (fun a => (a, recGap s a))).foldr insRun []

/-- The first `n` pages of a list of runs: all of them where it has fewer. -/
def takeRuns : Nat → List (Nat × Nat) → List (Nat × Nat)
  | _, [] => []
  | n, (a, k) :: t => if n = 0 then [] else if n ≤ k then [(a, n)] else (a, k) :: takeRuns (n - k) t

/-- The pages a reservation of `n` takes: one run where one is free, else the free pages in rising order, all of them where fewer than `n` are free
(R237, R239; where in the partition a record lies, and that its pages may lie apart, is the model's choice: DESIGN CHOICE, log entry 116). -/
def recTake (s : State) (n : Nat) : List (Nat × Nat) :=
  match recPlace s n with
  | some a => [(a, n)]
  | none => takeRuns n (recGaps s)

/-- The lowest free slot of the index. -/
def recSlotFree (s : State) : Option Nat := findBelow (fun i => (s.recSlot i).isNone) 256

/-- Page `i` of a list of runs. -/
def pageAt : List (Nat × Nat) → Nat → Nat
  | [], i => i
  | (a, n) :: t, i => if i < n then a + i else pageAt t (i - n)

/-- The byte address of offset `o` of a record (R292). -/
def recByte (s : State) (r : RecSlot) (o : Nat) : Nat := (s.store.live + pageAt r.runs (o / 4096)) * 4096 + o % 4096

/-- The byte address of a record: its first page's. -/
def recAddr (s : State) (r : RecSlot) : Nat := recByte s r 0

/-- Write a record's words into its runs. -/
def putRuns : List (Nat × Nat) → List Word → State → State
  | [], _, s => s
  | (a, n) :: t, ws, s => putRuns t (ws.drop (1024 * n)) (s.setDramWs ((s.store.live + a) * 4096) (ws.take (1024 * n)))

/-- Store the words of the record that closes in index slot `n`; while external memory is closed they stay in the reserve (R247). -/
def recStore (n : Nat) (runs : List (Nat × Nat)) (ws : List Word) (s : State) : State :=
  if memOpen s then putRuns runs ws s
  else { s with store := { s.store with rsvRecs := s.store.rsvRecs ++ [(n, ws)] } }

/-- External memory is open: the records held in the reserve go to the record partition in order (R247). -/
def recFlush (s : State) : State :=
  if s.store.rsvRecs ≠ [] ∧ memOpen s then
    s.store.rsvRecs.foldl (fun a x => match a.recSlot x.1 with | some r => putRuns r.runs x.2 a | none => a) { s with store := { s.store with rsvRecs := [] } }
  else s

/-! ### Measurements (R249) -/

/-- Integer square root by bits: the largest `r < 2^n` with `r * r ≤ v`. -/
def isqrtGo (v : Nat) : Nat → Nat → Nat
  | 0, r => r
  | n + 1, r => isqrtGo v n (if (r + 2 ^ n) * (r + 2 ^ n) ≤ v then r + 2 ^ n else r)

/-- The nearest integer to the square root of `a / b`. -/
def sqrtNear (a b : Nat) : Nat :=
  if b = 0 then 0
  else
    let r := isqrtGo (a / b) 40 0
    if (2 * r + 1) * (2 * r + 1) * b ≤ 4 * a then r + 1 else r

/-- The upward crossings of the mean `tot / n` by neighbouring measured words, as instants in 2^-48 ns. -/
def crossings (tot : Int) (n : Nat) : List (Nat × Nat × Int) → List Nat
  | (_, g0, x0) :: (k1, g1, x1) :: t =>
    let below := decide (x0 * n < tot)
    let here := if below && decide (tot ≤ x1 * n) then [g0 + (((tot - x0 * n) * ((g1 - g0 : Nat) : Int)) / ((x1 - x0) * n)).toNat] else []
    here ++ crossings tot n ((k1, g1, x1) :: t)
  | _ => []

/-- The time a word at place `i` of a member's stored words stands for: to the next stored instant, the last one's by the grid. -/
def durAt (per : Nat) (ts : List Nat) (i : Nat) : Nat :=
  if i + 1 < ts.length then ts.getD (i + 1) 0 - ts.getD i 0
  else if per ≠ 0 then per
  else if i = 0 then 0 else ts.getD i 0 - ts.getD (i - 1) 0

/-- A member's measurement entry (R249) over its stored words, oldest first; `per` the period of a time grid in 2^-48 ns, else 0. -/
def measEntry (ctx thr per : Nat) (ws : List (Nat × Nat × Word)) : List Word :=
  let good (w : Word) : Bool := !(bit w 6) && !(bit w 3)
  let vals := (ws.filter (fun x => good x.2.2)).map (fun x => (x.1, x.2.1, wVal x.2.2))
  match vals with
  | [] => [word (5 * 2 ^ 28 + 2 ^ 16 + ctx), 0, 0, 0, 0, 0, 0, 0]
  | v0 :: _ =>
    let n := vals.length
    let xs := vals.map (·.2.2)
    let tot := xs.foldl (· + ·) 0
    let pk := vals.foldl (fun b v => if b.2.2.natAbs < v.2.2.natAbs then v else b) v0
    let mx := xs.foldl max v0.2.2
    let mn := xs.foldl min v0.2.2
    let sq := (xs.map (fun x => x.natAbs * x.natAbs)).sum
    let cr := crossings tot n vals
    let period := match cr, cr.getLast? with
      | a :: _ :: _, some b => min (2 ^ 32 - 1) (rdivAway ((b - a : Nat) : Int) ((cr.length - 1) * nsU)).toNat
      | _, _ => 0
    let ts := ws.map (·.2.1)
    let dur := ((List.range ws.length).map (fun i =>
      let w := (ws.getD i (0, 0, 0)).2.2
      if good w && decide (thr ≤ (wVal w).natAbs) then durAt per ts i else 0)).sum
    [word (5 * 2 ^ 28 + (if cr.length < 2 then 2 ^ 17 else 0) + ctx), word (unsgn 24 pk.2.2), word (pk.1 - (ws.headD (0, 0, 0)).1),
     word (unsgn 25 (mx - mn)), iword (rdivAway (tot * 256) n), word (sqrtNear (sq * 65536) n), word period, word (min (2 ^ 32 - 1) (dur / usU))]

/-! ### Layout (R248) -/

/-- A member's stored words, oldest first. -/
def memWords (m : RecMem) : List (Nat × Nat × Word) := m.buf.reverse

/-- The context block of a member (R249). -/
def ctxBlock (m : RecMem) : List Word :=
  let ws := memWords m
  let kc := m.kc.getD 0
  let first := match ws with | x :: _ => x.1 | [] => kc
  let pre := (ws.filter (fun x => decide (x.1 < kc))).length
  [word (4 * 2 ^ 28 + (8 + ws.length)), word (m.grid * 2 ^ 16 + m.ctx), word first, word (first / 2 ^ 32), word kc, word (kc / 2 ^ 32),
   word ws.length, word ((m.pre - pre) % 2 ^ 24)] ++ ws.map (·.2.2)

/-- The words a record of these members takes (R248). -/
def recWordCount (ms : List RecMem) : Nat := 16 + (ms.map (fun m => 16 + m.buf.length)).sum + 1

/-- A whole record. -/
def recWords (s : State) (slot unit flags : Nat) (o : OpenRec) (endT : Nat) (ms : List RecMem) : List Word :=
  let total := recWordCount ms
  let per (m : RecMem) : Nat := if (s.grid m.grid).axis = 0 then (s.grid m.grid).period * 2 ^ 16 else 0
  let cuff := [word (2 * 2 ^ 28 + 2 ^ 24 + total % 2 ^ 24), word (slot * 2 ^ 24 + unit * 2 ^ 16 + o.reason * 2 ^ 8 + ms.length % 2 ^ 8),
    word (flags * 2 ^ 16 + o.bitmap), word (secOf o.t), word (secOf o.t / 2 ^ 32), word (nsOf o.t), word (o.t % secU % nsU / 2 ^ 32),
    word o.hub, word o.retrig, word o.merged, word (secOf endT), word (secOf endT / 2 ^ 32), word (nsOf endT), 0, 0, 0]
  let body := cuff ++ ms.flatMap ctxBlock ++ ms.flatMap (fun m => measEntry m.ctx m.thr (per m) (memWords m))
  body ++ [crcWords body]

/-- The note of a trigger point (R244, R283). -/
def trigNote (c k unit t : Nat) : List Word := noteCuff 6 c k [word unit, word (secOf t), word (secOf t / 2 ^ 32), word (nsOf t)]

/-- The NOTE of index `k` put into the entries of a change-capture packet (R252, R253): on its entry where one is there, else an entry for it, word
`w`, before the first later one; `prev` is the index before the first entry. None where `k` lies past the last entry. -/
def ccMark (k : Nat) (w : Word) : Nat → List Word → Option (List Word)
  | prev, c :: x :: t =>
    let delta := fld c 27 0
    if delta ≠ 0 then
      let ke := prev + delta
      if ke = k then some (c :: (x ||| 0x80) :: t)
      else if k < ke then (if k ≤ prev then none else some (word (2 ^ 28 + (k - prev)) :: (w ||| 0x80) :: word (2 ^ 28 + (ke - k)) :: x :: t))
      else (ccMark k w ke t).map (fun r => c :: x :: r)
    else
      match t with
      | hi :: y :: t1 =>
        let ke := w64 x hi
        if ke = k then some (c :: x :: hi :: (y ||| 0x80) :: t1)
        else if k < ke then some (c :: word k :: word (k / 2 ^ 32) :: (w ||| 0x80) :: word (2 ^ 28 + (ke - k)) :: y :: t1)
        else (ccMark k w ke t1).map (fun r => c :: x :: hi :: y :: r)
      | _ => none
  | _, _ => none

/-- The index before a change-capture packet's first entry, in whose terms a delta there counts. -/
def ccPrev (o : OpenPkt) : Nat := o.first - fld (o.words.headD 0) 27 0

/-- A trigger index reaches a change-capture stream after its output was judged (R244, R252): its entry is marked, put between the entries of the
open packet, or appended as the newest. -/
def ccLate (n c k t : Nat) (w : Word) (e : List Word) (s : State) : State :=
  let st := s.str n
  let cs := s.ctx c
  match st.openPkt.bind (fun o => if o.fmt = 3 then (ccMark k w (ccPrev o) o.words).map (fun ws => (o, ws)) else none) with
  | some (o, ws) =>
    s.setStr n { st with openPkt := some { o with first := min k o.first, words := ws, count := if o.words.length < ws.length then o.count + 1 else o.count,
                                                  flags := o.flags ||| 32, notes := o.notes ++ [e], noteFirst := if o.notes = [] then k else min k o.noteFirst } }
  | none =>
    match ccLast cs n with
    | some (_, ks, _) =>
      if ks < k then
        match ccEntry cs.desc (ccLast cs n) k t (w ||| 0x80) with
        | some en =>
          let s1 := s.setCtx c (ccSet cs n (some (w ||| 0x80, k, secOf t)))
          appendIdx n 3 (dGRID cs.desc) k (secOf t) [c] en (s1.setStr n { st with notes := st.notes ++ [(k, e)] })
        | none => s
      else s
    | none => s

/-- A trigger index reaches a compressed stream after its output was queued (R244): its word in the block being built, or in the input queue. -/
def cmpLate (n c k : Nat) (e : List Word) (s : State) : State :=
  let x := s.cmp n
  let note (w : Word) : Word := w ||| 0x80
  let inBlk := match x.blk with
    | some b => match b.mems.findIdx? (fun y => decide (y = c)) with
      | some i => if b.first ≤ k ∧ k < b.first + (b.words.getD i []).length then some { b with words := b.words.modify i (fun l => l.modify (k - b.first) note) } else none
      | none => none
    | none => none
  let s1 := s.setStr n { s.str n with notes := (s.str n).notes ++ [(k, e)] }
  match inBlk with
  | some b => s1.setCmp n { x with blk := some b }
  | none =>
    if x.inq.any (fun i => decide (i.ctx = c ∧ i.k = k)) then s1.setCmp n { x with inq := x.inq.map (fun i => if i.ctx = c ∧ i.k = k then { i with w := note i.w } else i) }
    else s

/-- A trigger index reaches a plain stream after its output was queued (R244): its word in its row or in the open packet. -/
def plainLate (n c k : Nat) (e : List Word) (s : State) : State :=
  let st := s.str n
  let note (w : Word) : Word := w ||| 0x80
  let rows := st.rows.map (fun r => if r.k = k then { r with got := r.got.map (fun x => if x.1 = c then (x.1, note x.2) else x) } else r)
  let hasRow := st.rows.any (fun r => decide (r.k = k) && r.got.any (fun x => decide (x.1 = c)))
  let o' := match st.openPkt with
    | some o =>
      if o.fmt < 3 ∧ o.first ≤ k ∧ k ≤ o.last then
        match o.mems.findIdx? (fun x => decide (x = c)) with
        | some i =>
          let p := (k - o.first) * o.mems.length + i
          some { o with words := o.words.modify p note, flags := o.flags ||| 32, notes := o.notes ++ [e], noteFirst := if o.notes = [] then k else min k o.noteFirst }
        | none => none
      else none
    | none => none
  match o' with
  | some o => s.setStr n { st with openPkt := some o }
  | none => if hasRow then s.setStr n { st with rows := rows, notes := st.notes ++ [(k, e)] } else s

/-- Give an index already queued on a context's streams, word `w` with instant `t`, the NOTE of a trigger point decided after it (R244), while its
words are still to be packed: a packet already closed stays as it is (DESIGN CHOICE, log entry 48). -/
def lateNote (c k t : Nat) (w : Word) (e : List Word) (s : State) : State :=
  let d := (s.ctx c).desc
  let one (n : Nat) (s : State) : State :=
    if !(takes (s.str n) t) then s
    else if compressedAt s n t then cmpLate n c k e s
    else if dCCEN d then ccLate n c k t w e s
    else plainLate n c k e s
  let s1 := if dSTREN d then one (dSTREAM d) s else s
  if dSTR2EN d then one (dSTREAM2 d) s1 else s1

end Sys2Proof.Machine
end

