-- ==== Sys2Proof/Machine/Trig.lean ====
section
/-! DEFINITION. Brims, trigger units, voting and records (R226 to R250): the operations that arm, evaluate, decide, fire, capture,
stop and close. -/

namespace Sys2Proof.Machine

/-! ### Descriptors (R230, R231, R491) -/

def uRING (d : List Word) : Bool := bit (d.getD 0 0) 31
def uRINGTX (d : List Word) : Bool := bit (d.getD 0 0) 30
def uSPILL (d : List Word) : Bool := bit (d.getD 0 0) 29
def uREARM (d : List Word) : Bool := bit (d.getD 0 0) 28
def uK (d : List Word) : Nat := fld (d.getD 0 0) 27 24
def uRINGID (d : List Word) : Nat := fld (d.getD 0 0) 7 0
/-- VOTE_WIN in units of 2^-48 ns. -/
def uVOTE (d : List Word) : Nat := fld (d.getD 1 0) 23 0 * usU
def uFIRELAT (d : List Word) : Nat := fld (d.getD 2 0) 15 0
def uMAXDUR (d : List Word) : Nat := fld (d.getD 3 0) 15 0
def slA (d : List Word) (i : Nat) : Word := d.getD (8 + 3 * i) 0
def slB (d : List Word) (i : Nat) : Word := d.getD (9 + 3 * i) 0
def slC (d : List Word) (i : Nat) : Word := d.getD (10 + 3 * i) 0
def slEN (d : List Word) (i : Nat) : Bool := bit (slA d i) 31
def slNOSETTLE (d : List Word) (i : Nat) : Bool := bit (slA d i) 30
def slKIND (d : List Word) (i : Nat) : Nat := fld (slA d i) 29 26
def slDIR (d : List Word) (i : Nat) : Nat := fld (slA d i) 25 24
def slSRC (d : List Word) (i : Nat) : Nat := fld (slA d i) 9 0
def slLEVEL (d : List Word) (i : Nat) : Int := sfld (slB d i) 23 0
def slTHR (d : List Word) (i : Nat) : Nat := fld (slB d i) 23 0
def slON (d : List Word) (i : Nat) : Nat := fld (slB d i) 31 16
def slOFF (d : List Word) (i : Nat) : Nat := fld (slB d i) 15 0
def slL (d : List Word) (i : Nat) : Nat := fld (slC d i) 20 16
def slS (d : List Word) (i : Nat) : Nat := fld (slC d i) 12 8
def slLFREEZE (d : List Word) (i : Nat) : Bool := bit (slC d i) 0
def slDIST (d : List Word) (i : Nat) : Nat := fld (slC d i) 7 0

/-- Whether a slot is enabled with a condition on a context (kinds 1 to 5). -/
def slCtx (d : List Word) (i : Nat) : Bool := slEN d i && decide (1 ≤ slKIND d i ∧ slKIND d i ≤ 5)

/-- A unit's descriptor in the table region (R230). -/
def State.unitDesc (s : State) (u : Nat) : List Word := s.tblWs (0x51000 + u * 0x80) 32

/-- The hub's 128-bit device identity (R111: the OTP words from 0x0008). -/
def State.hubId (s : State) : Nat :=
  (s.otpWord 8).toNat + 2 ^ 32 * (s.otpWord 12).toNat + 2 ^ 64 * (s.otpWord 16).toNat + 2 ^ 96 * (s.otpWord 20).toNat

/-! ### Brims (R227 to R229) -/

/-- Whether an output word is evaluated by a brim or slot with this NOSETTLE bit (R229, R234). -/
def evaluated (nosettle : Bool) (w : Word) : Bool := !(bit w 6) && !(bit w 3) && !(nosettle && bit w 0)

/-- The brim's next state for a value (R227). -/
def brimNext (lo hi : Int) (hyst st : Nat) (x : Int) : Nat :=
  if st = 1 then (if x < lo then 2 else if x ≤ hi - hyst then 0 else 1)
  else if st = 2 then (if hi < x then 1 else if lo + hyst ≤ x then 0 else 2)
  else (if hi < x then 1 else if x < lo then 2 else 0)

/-- Evaluate a context's brim on a word: its exit (1 ABOVE, 2 BELOW) if any, the side note's payload, and the state after (R228). -/
def brimEval (c : Nat) (w : Word) (s : State) : Option Nat × Option (List Word) × State :=
  let cs := s.ctx c
  let d := cs.desc
  if dBRIMEN d && evaluated (dBRIMNS d) w then
    let n := brimNext (dBRIMLO d) (dBRIMHI d) (dBRIMHYST d) cs.brim (wVal w)
    if n = cs.brim then (none, none, s)
    else
      let s1 := s.setCtx c { cs with brim := n }
      if n = 0 then (none, some [3, iword (wVal w)], s1)
      else
        let tr := s1.trig
        let pend := if c ∈ tr.brimPend then tr.brimPend else c :: tr.brimPend
        (some n, some [word n, iword (wVal w)], raise pTRIG 4 { s1 with trig := { tr with brimSide := n, brimCtx := c, brimPend := pend } })
  else (none, none, s)

/-! ### Arming (R237, R238) -/

/-- Whether a slot breaks a rule of R232 to R235. -/
def slotBad (s : State) (d : List Word) (i : Nat) : Bool :=
  slEN d i &&
  (decide (9 ≤ slKIND d i) || decide (slDIR d i = 3)
    || (slCtx d i && (!(dEN (s.ctx (slSRC d i)).desc)
        || (decide (slKIND d i = 5) && decide (dKIND (s.ctx (slSRC d i)).desc ≠ 2))
        || (decide (slKIND d i = 2) && !(dBRIMEN (s.ctx (slSRC d i)).desc))
        || (decide (slKIND d i = 3) && !(decide (slS d i < slL d i ∧ slL d i ≤ 20 ∧ slOFF d i < slON d i)))
        || (decide (slKIND d i = 4) && decide (slDIST d i = 0))))
    || (decide (slKIND d i = 6) && (decide (16 ≤ slSRC d i) || decide (tiCfg_MODE s (slSRC d i) ≠ 1)))
    || (decide (slKIND d i = 7) && decide (16 ≤ slSRC d i)))

/-- The enabled slots of a descriptor. -/
def slotsOn (d : List Word) : List Nat := (List.range 8).filter (fun i => slEN d i)

/-- The members a unit would arm with (R237). -/
def unitMembers (s : State) (u : Nat) : List Nat := s.ctxKeys.filter (fun c => dRECMASK (s.ctx c).desc u)

/-- The delay M covers, in µs (R237). -/
def armDelay (s : State) (d : List Word) : Nat :=
  let lat := ((slotsOn d).filter (fun i => slCtx d i)).foldl (fun m i => max m (s.alignLat (slSRC d i))) 0
  lat + fld (d.getD 1 0) 23 0 + (if uRING d then 2 * uFIRELAT d * 1000 else 0)

/-- M of a member (R237). -/
def memM (s : State) (d : List Word) (c : Nat) : Nat :=
  let p := s.periodN (dGRID (s.ctx c).desc)
  (if p = 0 then 0 else cdiv (armDelay s d * 1000 * n32) p) + 1

/-- The members as read at arming. On a rearm a member of the record just closed (`old`) begins with the outputs past its last index (R240). -/
def armMembers (s : State) (u : Nat) (d : List Word) (fromT : Nat) (old : List RecMem) : List RecMem :=
  (unitMembers s u).map (fun c =>
    let x := (s.ctx c).desc
    let o := old.find? (fun m => decide (m.ctx = c))
    let m := memM s d c
    { ctx := c, pre := dPRE x, post := dPOST x, thr := dMEASTHR x, m := m, grid := dGRID x, fromT := fromT,
      fromK := match o with | some q => (match q.buf with | y :: _ => y.1 + 1 | [] => 0) | none => 0,
      buf := match o with | some q => q.late.take (dPRE x + m) | none => [], kc := none, done := false, late := [] })

/-- B in bytes (R237). -/
def armBytes (ms : List RecMem) : Nat := 64 + (ms.map (fun m => 64 + 4 * (m.pre + m.post + m.m))).sum + 4

/-- Why an arming is refused, if it is (R238); `cmd`: it is a TRIG_CMD ARM. -/
def armRej (s : State) (u : Nat) (cmd : Bool) : Option Nat :=
  let d := s.unitDesc u
  let ms := armMembers s u d 0 []
  let pages := cdiv (armBytes ms) 4096
  if uK d = 0 ∨ (slotsOn d).length < uK d ∨ (List.range 8).any (fun i => slotBad s d i) ∨ tblBad s (0x51000 + u * 0x80) 0x80 then some 5
  else if cmd && uRING d && !(s.ring.crown) then some 4
  else if !(ms.any (fun m => dEN (s.ctx m.ctx).desc)) then some 3
  else if uSPILL d && ms.any (fun m => !(dSTREN (s.ctx m.ctx).desc || dSTR2EN (s.ctx m.ctx).desc)) then some 6
  else if recSlotFree s = none then some 2
  else if decide (captFree s < pages) && !(uSPILL d) then some 1
  else none

/-- The slot states an arming at `now` begins with: STA and LTA stay across an automatic rearm (R233). -/
def armSlots (old : List SlotSt) (keep : Bool) (now : Nat) : List SlotSt :=
  (List.range 8).map (fun i =>
    let o := old.getD i {}
    if keep then { sta := o.sta, lta := o.lta, updates := o.updates, cond := o.cond, lastT := o.lastT, lastAt := o.lastAt, silent := o.silent } else { lastAt := now })

/-- Arm a unit at instant `at_` (R237): refuse it, or reserve its pages and an index slot. `rearm`: the end of the record just closed and its
members (R240). A record of the unit that is still open runs on (R238). -/
def armUnit (u : Nat) (cmd : Bool) (rearm : Option (Nat × List RecMem)) (at_ : Nat) (s : State) : State :=
  let x := s.trigUnit u
  let d := s.unitDesc u
  let ms := match rearm with
    | some (_, old) => armMembers s u d 0 old
    | none => armMembers s u d at_ []
  let pages := cdiv (armBytes ms) 4096
  let s0 := s.setUnit u { x with need := pages }
  match armRej s u cmd with
  | some r => raise pTRIG 2 { s0 with trig := { s0.trig with rejReason := r, rejUnit := u } }
  | none =>
    let runs := recTake s pages
    let slot := (recSlotFree s).getD 0
    let x1 : UnitSt := { x with armed := true, desc := d, slots := armSlots x.slots rearm.isSome s.st, meets := [], cands := [], mergeEnd := none,
                                members := ms, slotNo := slot, pages := (runs.map (·.2)).sum, need := pages,
                                after := 0, floor := match rearm with | some (e, _) => e | none => 0 }
    let s1 := (s0.setUnit u x1).setRec slot (some ⟨false, false, u, 0, runs, 4096 * (runs.map (·.2)).sum⟩)
    raise pTRIG 1 s1

/-! ### Opening, capturing and closing records (R239, R244 to R247) -/

/-- The commit point of a record: the latest grid instant among the members' last indices, where it is known (R246). -/
def commitPoint (s : State) (ms : List RecMem) : Option Nat :=
  ms.foldl (fun acc m =>
    match acc, m.kc with
    | some a, some k => (gridInst s m.grid (k + m.post - 1)).map (max a)
    | _, _ => none) (some 0)

/-- FLAGS of a closing record (R248): `why` 0 DONE, 1 STOPPED, 3 CONTINUED, 8 TIMEOUT. -/
def recFlags (o : OpenRec) (why : Nat) (ms : List RecMem) : Nat :=
  let ws := ms.flatMap (fun m => m.buf.map (·.2.2))
  2 ^ why + (if o.stopLate && why = 0 then 4 else 0) + (if o.shortPre then 16 else 0)
    + (if o.stale || ws.any (fun w => bit w 3 && !(bit w 6)) then 32 else 0) + (if o.fromFrame then 64 else 0)
    + (if o.merged ≠ 0 then 128 else 0) + (if ws.any (fun w => bit w 5) then 512 else 0)

/-- The event a close raises (R245). -/
def closeEvent (why : Nat) : Nat := if why = 0 then 1 else if why = 1 then 2 else if why = 3 then 4 else 5

/-- Close a unit's record (R245): write it, raise its event, and rearm the unit where it is still armed and REARM is 1 (R240). -/
def closeRec (u why : Nat) (s : State) : State :=
  let x := s.trigUnit u
  match x.opened with
  | none => s
  | some o =>
    let endT := if why = 1 then o.stopCut.getD s.st else (commitPoint s o.mems).getD o.t
    let fl := recFlags o why o.mems
    let ws := recWords s o.slot u fl o endT o.mems
    let used := cdiv (4 * ws.length) 4096
    let r := (s.recSlot o.slot).getD ⟨true, false, u, 0, [], 0⟩
    let fits := decide (used ≤ r.pages)
    let runs := if fits then takeRuns used r.runs else r.runs
    let s1 := if fits then recStore o.slot runs ws s else s
    let s2 := s1.setRec o.slot (some ⟨false, true, u, fl, runs, if fits then 4 * ws.length else 0⟩)
    let waits := !x.members.isEmpty
    let s3 := s2.setUnit u (if waits then { x with opened := none } else { x with opened := none, armed := false, meets := [] })
    let s4 := raiseIf (o.stopLate && why = 0) pCAPT 3 (raise pCAPT (closeEvent why) s3)
    if x.armed && !waits && o.rearm then armUnit u false (some (endT, o.mems)) endT s4 else s4

/-- Whether a member of an open record needs nothing more: its last index, its last index before the stop, or the first word left out for want of
room has been passed (R239, R245, R246); a context that runs no more gives no further index before a stop. -/
def memDone (s : State) (o : OpenRec) (m : RecMem) : Bool :=
  m.done ||
  (match (s.ctx m.ctx).nextK with
   | none => o.stopCut.isSome || o.full.isSome
   | some nk =>
     (match m.kc with | some k => decide (k + m.post ≤ nk) | none => false)
     || (match gridInst s m.grid (max nk (max m.fromK ((gridFirstAt s m.grid m.fromT).getD 0))) with
         | some t =>
           (match o.stopCut with | some c => decide (c ≤ t) | none => false)
           || (match o.full with | some (f, c) => decide (f < t) || (decide (f = t) && decide (c ≤ m.ctx)) | none => false)
         | none => false))

/-- Close the record once every member is done (R239, R245, R246). -/
def closeIfDone (u : Nat) (s : State) : State :=
  let x := s.trigUnit u
  match x.opened with
  | none => s
  | some o => if o.mems.all (fun m => memDone s o m) then closeRec u (if o.stopCut.isSome then 1 else if o.full.isSome then 3 else 0) s else s

/-- The earlier of two words in grid-instant order, by instant and context. -/
def minCut (a b : Option (Nat × Nat)) : Option (Nat × Nat) :=
  match a, b with
  | some x, some y => if y.1 < x.1 ∨ (y.1 = x.1 ∧ y.2 < x.2) then some y else some x
  | none, y => y
  | x, none => x

/-- Cut an open record's members to the words its reservation holds, taken in grid-instant order (R239): the words left out wait past the members'
last indices, and the first of them is where the record ends. -/
def fitMembers (cap : Nat) (ms : List RecMem) : List RecMem × Option (Nat × Nat) :=
  let room := cap - (17 + 16 * ms.length)
  let rank (t c : Nat) : Nat := (ms.map (fun m => (m.buf.filter (fun y => decide (y.2.1 < t) || (decide (y.2.1 = t) && decide (m.ctx < c)))).length)).sum
  let out (m : RecMem) (y : Nat × Nat × Word) : Bool := decide (room ≤ rank y.2.1 m.ctx)
  (ms.map (fun m => { m with buf := m.buf.filter (fun y => !(out m y)), late := m.late ++ m.buf.filter (out m) }),
   ms.foldl (fun a m => (m.buf.filter (out m)).foldl (fun a y => minCut a (some (y.2.1, m.ctx))) a) none)

/-- The words a record's reservation holds. -/
def recCap (s : State) (slot : Nat) : Nat := (match s.recSlot slot with | some r => r.pages | none => 0) * 1024

/-- An open record whose reservation is used up is cut to it (R239). -/
def fitRec (cap : Nat) (o : OpenRec) : OpenRec :=
  if cap < recWordCount o.mems then
    let f := fitMembers cap o.mems
    { o with mems := f.1, full := minCut o.full f.2 }
  else o

/-- What a member keeps of its pre-trigger buffer at a trigger point: k_c where it is known, indices from k_c − PRE to its last; later ones wait past
it. -/
def openMember (s : State) (t : Nat) (m : RecMem) : RecMem :=
  match gridFirstAt s m.grid t with
  | some k => { m with kc := some k, buf := (m.buf.filter (fun y => decide (k ≤ y.1 + m.pre) && decide (y.1 < k + m.post))).map (fun y => if y.1 = k then (y.1, y.2.1, y.2.2 ||| 0x80) else y),
                       late := m.buf.filter (fun y => decide (k + m.post ≤ y.1)) }
  | none => { m with buf := m.buf.take (m.pre + m.m) }

/-- Whether a member's pre-trigger indices fall short (R244): its oldest index held, or still to come, lies above k_c − PRE. -/
def memShort (s : State) (m : RecMem) : Bool :=
  match m.kc with
  | none => false
  | some k =>
    let oldest := match m.buf.getLast? with
      | some y => y.1
      | none => match (s.ctx m.ctx).nextK with | some nk => max nk (max m.fromK ((gridFirstAt s m.grid m.fromT).getD 0)) | none => k
    decide (k < oldest + m.pre)

/-- Mark index `k` of context `c` with NOTE among a member's words. -/
def noteMem (c k : Nat) (m : RecMem) : RecMem :=
  let f (y : Nat × Nat × Word) : Nat × Nat × Word := if y.1 = k then (y.1, y.2.1, y.2.2 ||| 0x80) else y
  if m.ctx = c then { m with buf := m.buf.map f, late := m.late.map f } else m

/-- The NOTE of a trigger index reaches its word wherever a unit still holds it (R244): one output has one tag byte. -/
def noteHeld (c k : Nat) (s : State) : State :=
  s.units.foldl (fun a x =>
    let q := a.trigUnit x.1
    a.setUnit x.1 { q with members := q.members.map (noteMem c k), opened := q.opened.map (fun o => { o with mems := o.mems.map (noteMem c k) }) }) s

/-- Open the record of an armed unit at a trigger point (R236, R242, R244, R247); `lost` candidates of its merge period count in RETRIG. -/
def openRec (u t reason bitmap hub : Nat) (fromFrame : Bool) (merged lost : Nat) (s : State) : State :=
  let x := s.trigUnit u
  let ms := x.members.map (openMember s t)
  let short := ms.any (memShort s)
  let late := (x.meets.filter (fun m => decide (t < m.t))).length + lost
  let o : OpenRec := { t := t, reason := reason, bitmap := bitmap, hub := hub, fromFrame := fromFrame, merged := merged, stopCut := none, stopLate := false, shortPre := short, stale := false, retrig := late,
                       mems := ms, slot := x.slotNo, rearm := uREARM x.desc, maxdur := uMAXDUR x.desc, full := none }
  let x1 : UnitSt := { x with opened := some (fitRec (recCap s x.slotNo) o), members := [], meets := x.meets.filter (fun m => decide (m.t ≤ t)), cands := [], mergeEnd := none, bitmap := bitmap, lastT := t, lastRec := x.slotNo, retrig := min 65535 (x.retrig + late) }
  let r := (s.recSlot x.slotNo).getD ⟨false, false, u, 0, [], 0⟩
  let s1 := (s.setUnit u x1).setRec x.slotNo (some { r with openRec := true })
  let s2 := raiseIf (decide (0 < late)) pTRIG 5 (raise pCAPT 0 (raise pTRIG 0 s1))
  let s3 := raiseIf short pCAPT 5 s2
  let s4 := ms.foldl (fun acc m => match m.kc with
    | some k => match m.buf.find? (fun y => decide (y.1 = k)) with
      | some y => lateNote m.ctx k y.2.1 y.2.2 (trigNote m.ctx k u t) (noteHeld m.ctx k acc)
      | none => acc
    | none => acc) s3
  closeIfDone u s4

/-- Count a retrigger (R236). -/
def retrig (u : Nat) (s : State) : State :=
  let x := s.trigUnit u
  raise pTRIG 5 (s.setUnit u { x with retrig := satInc 16 x.retrig, opened := x.opened.map (fun o => { o with retrig := satInc 32 o.retrig }) })

/-! ### Firing (R236, R242, R247) -/

/-- Send a FIRE frame for a decided trigger point of a ring unit (R242, R380): it waits for the trunks to take it. -/
def sendFire (d : List Word) (t reason bitmap : Nat) (s : State) : State :=
  let h := s.hubId
  { s with ring := { s.ring with sent := s.ring.sent ++ [(6, [word (bitmap % 2 ^ 8 * 2 ^ 16 + reason % 2 ^ 8 * 2 ^ 8 + uRINGID d), word (secOf t), word (secOf t / 2 ^ 32), word (nsOf t), word (t % secU % nsU / 2 ^ 32), word h, word (h / 2 ^ 32), word (h / 2 ^ 64), word (h / 2 ^ 96)])] } }

/-- A trigger point an armed unit without an open record has decided: a record at once, or for a ring unit a candidate that opens
the merge period (R242). -/
def fireUnit (u t reason bitmap : Nat) (s : State) : State :=
  let x := s.trigUnit u
  if uRING x.desc then
    let s1 := if uRINGTX x.desc then sendFire x.desc t reason bitmap s else s
    s1.setUnit u { s1.trigUnit u with cands := (s1.trigUnit u).cands ++ [⟨t, reason, bitmap, s.hubId, false⟩],
                                      mergeEnd := some ((s1.trigUnit u).mergeEnd.getD (s.st + uFIRELAT x.desc * msU)) }
  else openRec u t reason bitmap s.hubId false 0 0 s

/-- REC_OPEN or TRIG_CMD FIRE at instant `t` (R247): arm a unit that is not armed, then fire it; with a record open it counts in RETRIG. -/
def forceUnit (u t reason : Nat) (s : State) : State :=
  if (s.trigUnit u).opened.isSome then retrig u s
  else
    let s1 := if (s.trigUnit u).armed then s else armUnit u false none t s
    if (s1.trigUnit u).armed then fireUnit u t reason 0 s1 else s1

/-- An open record with the cut of a stop: its members end before it. -/
def cutRec (cut : Nat) (o : OpenRec) : OpenRec :=
  let c := min cut (o.stopCut.getD cut)
  { o with stopCut := some c, full := none,
           mems := o.mems.map (fun m => { m with buf := m.buf.filter (fun y => decide (y.2.1 < c)), late := m.late ++ m.buf.filter (fun y => decide (c ≤ y.2.1)) }) }

/-- A stop with its cut instant (R246). A close at the very instant of an open that executed first leaves a record of no indices, which closes at once
(R247); where the reservation is used up before the cut, the record has ended there. -/
def stopUnit (u cut : Nat) (s : State) : State :=
  let x := s.trigUnit u
  match x.opened with
  | none => s
  | some o =>
    if cut = o.t then
      closeRec u 1 (s.setUnit u { x with opened := some { o with stopCut := some cut, mems := o.mems.map (fun m => { m with buf := [], late := m.buf.filter (fun y => decide (cut ≤ y.2.1)) }) } })
    else if (match commitPoint s o.mems with | some c => decide (c < cut) | none => false) then
      s.setUnit u { x with opened := some { o with stopLate := true } }
    else if (match o.full with | some (f, _) => decide (f < cut) | none => false) then s
    else closeIfDone u (s.setUnit u { x with opened := some (cutRec cut o) })

/-- Disarm a unit: the reservation of one that waits for its trigger point is given back, an open record runs on (R240). -/
def releaseUnit (u : Nat) (s : State) : State :=
  let x := s.trigUnit u
  let s1 := if x.armed && !x.members.isEmpty then s.setRec x.slotNo none else s
  s1.setUnit u { x with armed := false, members := [], meets := [], cands := [], mergeEnd := none }

/-- DISARM (R240): the unit disarms at acceptance, an open record runs on. -/
def disarmUnit (u : Nat) (s : State) : State :=
  if (s.trigUnit u).armed then raise pTRIG 3 (releaseUnit u s) else s

/-! ### Conditions and meetings (R232 to R236) -/

/-- A meeting of slot `i` at `t`: it waits for its decision, also where later instants are decided already; once a record is open it counts in RETRIG,
but at the trigger point itself it is one of the slots that form it (R235, R236, R247). -/
def meet (u i t : Nat) (s : State) : State :=
  let x := s.trigUnit u
  match x.opened with
  | none => if t ≤ x.floor then s else s.setUnit u { x with meets := x.meets ++ [⟨t, i, true⟩] }
  | some o =>
    if o.t ≠ t then retrig u s
    else if o.reason = 0x10 then s.setUnit u { x with meets := x.meets ++ [⟨t, i, true⟩] }
    else if o.reason < 8 ∧ !o.fromFrame then
      s.setUnit u { x with bitmap := x.bitmap ||| 2 ^ i, opened := some { o with bitmap := o.bitmap ||| 2 ^ i, reason := min o.reason i } }
    else s

/-- Whether a LEVEL condition is met (R232). -/
def levelMet (dir : Nat) (lv p x : Int) : Bool :=
  let up := decide (p < lv) && decide (lv ≤ x)
  let dn := decide (lv < p) && decide (x ≤ lv)
  if dir = 0 then up else if dir = 1 then dn else up || dn

/-- One update of a slot's averages and its test (R233): whether it meets, and the slot after. The first output evaluated after an arming never meets
(R232). -/
def staLta (d : List Word) (i : Nat) (x : Int) (q : SlotSt) : Bool × SlotSt :=
  let a : Int := (x.natAbs * 2 ^ 16 : Nat)
  let sta := (q.sta + rshAway (a - q.sta) (slS d i)).toNat
  let lta := if slLFREEZE d i && q.cond then q.lta else (q.lta + rshAway (a - q.lta) (slL d i)).toNat
  let n := q.updates + 1
  let q1 := { q with sta := sta, lta := lta, updates := n }
  let lam := max lta (2 ^ 16)
  if n ≤ 2 ^ slL d i then (false, q1)
  else if q.cond then (false, { q1 with cond := !(decide (sta * 256 < slOFF d i * lam)) })
  else if slON d i * lam ≤ sta * 256 then (q.seen, { q1 with cond := true })
  else (false, q1)

/-- A RATE slot's test (R232): `prev` holds the last DIST + 1 evaluated values, newest first. -/
def rateMet (d : List Word) (i : Nat) (x : Int) (prev : List Int) : Bool :=
  let n := slDIST d i
  match prev[n - 1]?, prev[n]?, prev.head? with
  | some a, some b, some y =>
    let dn := x - a
    let dp := y - b
    decide (dp.natAbs < slTHR d i) && decide (slTHR d i ≤ dn.natAbs)
      && (if slDIR d i = 0 then decide (0 < dn) else if slDIR d i = 1 then decide (dn < 0) else true)
  | _, _, _ => false

/-- A slot's evaluation of an output of its context (R232 to R234): whether it meets, and the slot after. -/
def slotEval (d : List Word) (i : Nat) (w : Word) (exit : Option Nat) (q : SlotSt) : Bool × SlotSt :=
  if bit w 6 || bit w 3 then (false, if slKIND d i = 2 ∨ slKIND d i = 3 then q else { q with prev := [] })
  else if !(evaluated (slNOSETTLE d i) w) then (false, q)
  else
    let x := wVal w
    let r : Bool × SlotSt :=
      match slKIND d i with
      | 2 => ((match exit with | some e => decide (slDIR d i = 2) || decide (slDIR d i + 1 = e) | none => false) && q.seen, q)
      | 3 => staLta d i x q
      | 4 => (rateMet d i x q.prev, { q with prev := (x :: q.prev).take (slDIST d i + 1) })
      | _ => ((match q.prev.head? with | some p => levelMet (slDIR d i) (slLEVEL d i) p x | none => false), { q with prev := [x] })
    (r.1, { r.2 with seen := true })

/-- Feed an output of context `c` to slot `i` of unit `u`. -/
def slotFeed (u i t : Nat) (w : Word) (exit : Option Nat) (s : State) : State :=
  let x := s.trigUnit u
  let r := slotEval x.desc i w exit (x.slots.getD i {})
  let s1 := s.setUnit u { x with slots := x.slots.set i { r.2 with lastT := some t, lastAt := s.st, silent := false } }
  if r.1 then meet u i t s1 else s1

/-- The units a sweep visits. -/
def State.unitKeys (s : State) : List Nat := s.units.map (·.1)

/-- Feed an output to every trigger slot that names its context (R232). -/
def trigFeed (c t : Nat) (w : Word) (exit : Option Nat) (s : State) : State :=
  s.unitKeys.foldl (fun acc u =>
    if (acc.trigUnit u).armed then
      (List.range 8).foldl (fun a i => if slCtx (a.trigUnit u).desc i && decide (slSRC (a.trigUnit u).desc i = c) then slotFeed u i t w exit a else a) acc
    else acc) s

/-- A meeting of every armed unit's slots of a kind with a source: TI results, schedule lines, accepted FIRE frames (R232). -/
def meetKind (kind src t : Nat) (s : State) : State :=
  s.unitKeys.foldl (fun acc u =>
    if (acc.trigUnit u).armed then
      (List.range 8).foldl (fun a i =>
        let d := (a.trigUnit u).desc
        if slEN d i && decide (slKIND d i = kind) && decide (slSRC d i = src) then meet u i t a else a) acc
    else acc) s

/-! ### Decision (R235, R236) -/

/-- The slots counted at instant `t` (R235), as a bitmap. -/
def countedAt (x : UnitSt) (t : Nat) : Nat :=
  (List.range 8).foldl (fun b i =>
    if x.meets.any (fun m => decide (m.slot = i) && decide (m.t ≤ t) && (decide (m.t = t) || decide (t < m.t + uVOTE x.desc))) then b + 2 ^ i else b) 0

def bitCount (n : Nat) : Nat := ((List.range 8).filter (fun i => n.testBit i)).length
def lowBit (n : Nat) : Nat := (findBelow (fun i => n.testBit i) 8).getD 0

/-- Whether every enabled context slot has delivered at or past `t`, or is silent (R236). -/
def decidable (x : UnitSt) (t : Nat) : Bool :=
  (List.range 8).all (fun i =>
    !(slCtx x.desc i) || (x.slots.getD i {}).silent || (match (x.slots.getD i {}).lastT with | some l => decide (t ≤ l) | none => false))

/-- The next meeting instant not yet decided. -/
def nextMeet (x : UnitSt) : Option Nat := ((x.meets.filter (·.fresh)).map (·.t)).min?

/-- The meetings that still count once instant `t` is decided: those of `t` are no longer fresh, and one stays while it is fresh or is counted at an
instant past the last decided one (R235). -/
def meetsAfter (x : UnitSt) (t : Nat) : List Meet :=
  (x.meets.map (fun m => if m.t = t then { m with fresh := false } else m)).filter (fun m => m.fresh || decide (max x.after t < m.t + uVOTE x.desc))

/-- Decide the unit's meetings in order of their instants, up to the first that is not decidable or that fires (R236). A meeting that comes late is
decided at its own instant with those still counted there; no instant decided before is taken back (DESIGN CHOICE, log entry 116). -/
def decideUnit (u : Nat) : Nat → State → State
  | 0, s => s
  | f + 1, s =>
    let x := s.trigUnit u
    match nextMeet x with
    | none => s
    | some t =>
      if x.armed && decidable x t then
        let bm := countedAt x t
        let x1 := { x with after := max x.after t, meets := meetsAfter x t }
        let s1 := s.setUnit u x1
        if bitCount bm < uK x.desc then decideUnit u f s1
        else
          match x.opened with
          | none => fireUnit u t (lowBit bm) bm s1
          | some o =>
            if o.t = t ∧ o.reason = 0x10 then
              decideUnit u f (s1.setUnit u { x1 with bitmap := bm, opened := some { o with reason := lowBit bm, bitmap := bm } })
            else decideUnit u f (retrig u s1)
      else s

/-! ### Capturing outputs (R244 to R246) -/

/-- A member takes an output while its unit is armed without a record: its last PRE + M outputs are held (R237, R240). -/
def memBuffer (m : RecMem) (k t : Nat) (w : Word) : RecMem :=
  if t < m.fromT ∨ k < m.fromK then m else { m with buf := ((k, t, w) :: m.buf).take (m.pre + m.m) }

/-- A member of an open record takes an output (R244, R246); one past its last index waits for the rearm (R240). -/
def memCapture (o : OpenRec) (m : RecMem) (k t : Nat) (w : Word) : RecMem :=
  let kc := match m.kc with | some c => some c | none => if o.t ≤ t then some k else none
  let m1 : RecMem := match m.kc, kc with
    | none, some c => { m with kc := kc, buf := m.buf.filter (fun y => decide (c ≤ y.1 + m.pre)) }
    | _, _ => { m with kc := kc }
  let cut := match o.stopCut with | some c => decide (c ≤ t) | none => false
  let early := decide (t < m.fromT) || decide (k < m.fromK)
  let past := { m1 with late := (k, t, w) :: m1.late }
  match kc with
  | none => if early then m1 else if cut then past else { m1 with buf := ((k, t, w) :: m1.buf).take (m.pre + m.m) }
  | some c =>
    let m2 := if early ∨ k + m.pre < c then m1 else if k < c + m.post ∧ !cut then { m1 with buf := (k, t, w) :: m1.buf } else past
    { m2 with done := m.done || cut || decide (c + m.post ≤ k + 1) }

/-- The open record of a unit takes an output of context `c`: it is cut where its reservation is used up, and closes when every member is done (R239,
R245). -/
def recTakes (u c k t : Nat) (w : Word) (o : OpenRec) (s : State) : State :=
  let ms := o.mems.map (fun m => if m.ctx = c then memCapture o m k t w else m)
  let fresh := (o.mems.zip ms).any (fun y => y.1.kc.isNone && y.2.kc.isSome && memShort s y.2)
  let o1 := fitRec (recCap s o.slot) { o with mems := ms, shortPre := o.shortPre || fresh }
  closeIfDone u (raiseIf (fresh && !o.shortPre) pCAPT 5 (s.setUnit u { s.trigUnit u with opened := some o1 }))

/-- Pass an output of context `c` to the unit: to the pre-trigger buffer of an arming that waits, and to its open record. -/
def captureUnit (u c k t : Nat) (w : Word) (s : State) : State :=
  let x := s.trigUnit u
  let s1 := if x.members.any (fun m => decide (m.ctx = c)) then s.setUnit u { x with members := x.members.map (fun m => if m.ctx = c then memBuffer m k t w else m) } else s
  match x.opened with
  | some o => if o.mems.any (fun m => decide (m.ctx = c)) then recTakes u c k t w o s1 else s1
  | none => s1

/-- Pass an output to every unit that records its context. -/
def capture (c k t : Nat) (w : Word) (s : State) : State :=
  s.unitKeys.foldl (fun acc u => captureUnit u c k t w acc) s

/-- The trigger-point notes index `k` of context `c` carries, when it is the trigger index of an open record (R244). -/
def trigNotes (s : State) (c k t : Nat) : List (List Word) :=
  s.unitKeys.flatMap (fun u =>
    match (s.trigUnit u).opened with
    | none => []
    | some o => (o.mems.filter (fun m => decide (m.ctx = c) && (match m.kc with | some q => decide (q = k) | none => decide (o.t ≤ t)))).map
        (fun _ => trigNote c k u o.t))

/-! ### Ring candidates (R242, R243) -/

/-- The instant before which no output is held: of the members that wait for a trigger point, and of an open record's. -/
def oldestHeld (x : UnitSt) : Option Nat :=
  (((x.members ++ (match x.opened with | some o => o.mems | none => [])).filterMap (fun m => m.buf.getLast?)).map (·.2.1)).min?

/-- Give a unit the candidate of an accepted FIRE frame (R242): whether it is taken. -/
def takeCand (u : Nat) (c : Cand) (s : State) : Bool × State :=
  let x := s.trigUnit u
  let old := match oldestHeld x with | some o => decide (c.t < o) | none => false
  if !x.armed || old then (false, s)
  else if x.opened.isSome then (true, if (match x.opened with | some o => decide (o.t = c.t) | none => false) then s else retrig u s)
  else (true, s.setUnit u { x with cands := if c ∈ x.cands then x.cands else x.cands ++ [c], mergeEnd := some (x.mergeEnd.getD (s.st + uFIRELAT x.desc * msU)) })

/-- The merge period closes (R242): the earliest candidates are the trigger point, the others count in RETRIG. -/
def mergeUnit (u : Nat) (s : State) : State :=
  let x := s.trigUnit u
  if (match x.mergeEnd with | some e => decide (s.st < e) | none => false) then s else
  match x.cands with
  | [] => s.setUnit u { x with mergeEnd := none }
  | c0 :: _ =>
    let t := x.cands.foldl (fun m c => min m c.t) c0.t
    let same := x.cands.filter (fun c => decide (c.t = t))
    let other := x.cands.length - same.length
    let bm := same.foldl (fun b c => b ||| c.bitmap) 0
    let rs := same.foldl (fun b c => min b c.reason) (same.headD c0).reason
    let hb := same.foldl (fun b c => min b c.hub) (same.headD c0).hub
    openRec u t rs bm hb (same.all (·.remote)) (if 1 < same.length then same.length else 0) other s

/-! ### Resets and the records a recalibration affects (R116, R247) -/

/-- Whether a record is open on a context. -/
def recordOpenOn (s : State) (c : Nat) : Bool :=
  s.unitKeys.any (fun u => match (s.trigUnit u).opened with | some o => o.mems.any (fun m => decide (m.ctx = c)) | none => false)

/-- Every open record on one of these contexts carries STALE (R116, R247). -/
def markStale (cs : List Nat) (s : State) : State :=
  s.unitKeys.foldl (fun a u =>
    let x := a.trigUnit u
    a.setUnit u { x with opened := x.opened.map (fun o => if o.mems.any (fun m => m.ctx ∈ cs) then { o with stale := true } else o) }) s

/-- A page reset of CAPT (R245, R247): open records close with STOPPED at the reset, and every unit disarms; the index survives. -/
def captReset (s : State) : State :=
  s.unitKeys.foldl (fun a u =>
    let b := disarmUnit u a
    let x := b.trigUnit u
    match x.opened with
    | some o => closeRec u 1 (b.setUnit u { x with opened := some { o with stopCut := some s.st } })
    | none => b) s

/-- A page reset of TRIG (R247): every unit disarms, open records run on; its registers' state returns to reset. -/
def trigReset (s : State) : State :=
  let s1 := s.unitKeys.foldl (fun a u =>
    let b := releaseUnit u a
    let x := b.trigUnit u
    b.setUnit u { x with need := 0, retrig := 0, lastRec := 0, bitmap := 0, lastT := 0, after := 0, floor := 0, slots := [] }) s
  let s2 := { s1 with trig := {} }
  s2.ctxKeys.foldl (fun a c => a.setCtx c { a.ctx c with brim := 0 }) s2

end Sys2Proof.Machine
end

