-- ==== Sys2Proof/Machine/Feng.lean ====
section
/-! DEFINITION. The filter engine (spec chapter 6): the fixed half-band and kernel coefficients, the arithmetic of a stage, the chain
of a context, its settling events, its load and the detectors' arithmetic. -/

namespace Sys2Proof.Machine

/-! ### The ROMs (R131, R163, R490) -/

/-- A half-band tap by its distance from the centre: the centre 2^21, even distances 0, distance 1 what makes the taps sum to 2^22,
the other odd distances the part's ROM words (R490). -/
def hbSide (dsg dist : Nat) : Int :=
  if dist = 0 then 2 ^ 21
  else if dist % 2 = 0 then 0
  else if dist = 1 then
    2 ^ 20 - ((List.range ((hbH dsg - 1) / 2 / 2 + 1)).map (fun i => if 3 ≤ 2 * i + 1 ∧ 2 * i + 1 ≤ (hbH dsg - 1) / 2 then (Config.hbRom dsg (2 * i + 1)).toInt else 0)).sum
  else (Config.hbRom dsg dist).toInt

/-- Tap `t` of a half-band design; 0 at or above H and for design 3 (HB_ROM_DATA). -/
def hbTap (dsg t : Nat) : Int :=
  if dsg = 3 ∨ hbH dsg ≤ t then 0
  else
    let c := (hbH dsg - 1) / 2
    hbSide dsg (if t ≤ c then c - t else t - c)

def hbTaps (dsg : Nat) : List Int := (List.range (hbH dsg)).map (hbTap dsg)

/-- Coefficient `t` of kernel phase `p`: phase 0 is the unit impulse at tap 15, every phase sums to 2^22 (R163). -/
def kernTap (p t : Nat) : Int :=
  if p = 0 then (if t = 15 then 2 ^ 22 else 0)
  else if t = 15 then
    2 ^ 22 - ((List.range 32).map (fun i => if i = 15 then 0 else (Config.kernRom p i).toInt)).sum
  else (Config.kernRom p t).toInt

/-- h_{p+1}[i], with h_256[i] = h_0[i − 1] (R163). -/
def kernNext (p t : Nat) : Int :=
  if p + 1 < 256 then kernTap (p + 1) t else if t = 0 then 0 else kernTap 0 (t - 1)

/-! ### Arithmetic (R124, R125) -/

/-- The limit of the 56-bit accumulator (R125). -/
def accMax : Int := 2 ^ 55 - 1

/-- Add a product into an accumulator that saturates at ±`lim`; whether it saturated. -/
def accAdd (lim : Int) (a : Int × Bool) (x : Int) : Int × Bool :=
  let y := a.1 + x
  if lim < y then (lim, true) else if y < -lim then (-lim, true) else (y, a.2)

/-- The accumulator of coefficients against samples, newest first; a sample beyond the history reads 0. -/
def macAt (lim : Int) : List Int → List Smp → Int × Bool → Int × Bool
  | c :: cs, x :: xs, a => macAt lim cs xs (accAdd lim a (c * x.v))
  | _, _, a => a

/-- A stage's accumulator. -/
def mac (cs : List Int) (xs : List Smp) (a : Int × Bool) : Int × Bool := macAt accMax cs xs a

/-- The marks of a stage's inputs. -/
def marksOf (xs : List Smp) : Nat := xs.foldl (fun m x => m ||| x.marks) 0

/-- A stage output from its accumulator: shifted by 22, rounded half away from zero, saturated to ±(2^31 − 1) (R124). -/
def stageOut (acc : Int × Bool) (j marks fi fx : Nat) : Smp :=
  let y := rshAway acc.1 22
  let z := clampI (-(2 ^ 31 - 1)) (2 ^ 31 - 1) y
  { v := z, j := j, marks := marks ||| (if acc.2 || decide (y ≠ z) then 32 else 0), fi := fi, fx := fx }

/-- A position of the history that holds no input: its outputs cannot be produced. -/
def missSmp : Smp := { v := 0, j := 0, marks := 128, fi := 0, fx := 0 }

/-! ### The chain (R130 to R133, R138) -/

/-- The half-band stages from number `i` on: their histories, the output if each stage emits (inputs whose J is a multiple of 2^i),
and the accumulators that saturated. -/
def hbRun : List Nat → Nat → List (List Smp) → Smp → List (List Smp) × Option Smp × Nat
  | [], _, hs, x => (hs, some x, 0)
  | _ :: _, _, [], x => ([], some x, 0)
  | dsg :: ds, i, h :: hs, x =>
    let h' := (x :: h).take (hbH dsg)
    if x.j % 2 ^ i = 0 then
      let acc := mac (hbTaps dsg) h' (0, false)
      let y := stageOut acc x.j (marksOf h') 0 0
      let r := hbRun ds (i + 1) hs y
      (h' :: r.1, r.2.1, r.2.2 + (if acc.2 then 1 else 0))
    else (h' :: hs, none, 0)

/-- Insert into a list sorted upwards. -/
def insertInt (x : Int) : List Int → List Int
  | [] => [x]
  | y :: t => if x ≤ y then x :: y :: t else y :: insertInt x t

def sortInt : List Int → List Int
  | [] => []
  | x :: t => insertInt x (sortInt t)

/-- The rank filter (R132): the value of rank `r` among the last `w` inputs, positions before the history reading 0. -/
def rankOut (w r : Nat) (h : List Smp) (x : Smp) : Smp :=
  let vs := h.map (·.v) ++ List.replicate (w - h.length) 0
  { v := (sortInt vs).getD r 0, j := x.j, marks := marksOf h, fi := (h.foldl (fun m y => max m y.fi) 0), fx := (h.foldl (fun m y => max m y.fx) 0) }

/-- One rank filter step: its window and its output. -/
def rankRun (on : Bool) (w r : Nat) (h : List Smp) (x : Smp) : List Smp × Smp :=
  if on then
    let h' := (x :: h).take w
    (h', rankOut w r h' x)
  else (h, x)

/-- The coefficients of a profile's bank, newest input first (R133, R135). -/
def State.firCoefs (s : State) (p : Nat) (bank : Bool) : List Int :=
  (List.range (s.profTaps p)).map (fun i => s.pool (s.profBase p bank + i))

/-- What one input did to a chain: its histories, whether the FIR ran, its output, and the accumulators that saturated. -/
structure ChainRun where
  ch : Chain
  ran : Bool
  sats : Nat

/-- The FIR's accumulator, cross-faded in the accumulator's width while a fade runs (R138). -/
def firAcc (s : State) (d : List Word) (fade : Option Fade) (h : List Smp) : Int × Bool :=
  let new := mac (s.firCoefs (dPROFILE d) (dBANK d)) h (0, false)
  match fade with
  | none => new
  | some f =>
    let old := mac (s.firCoefs (dPROFILE d) (decide (f.oldBank = 1))) h (0, false)
    (rdivAway (((f.x : Int) - f.i) * old.1 + f.i * new.1) f.x, old.2 || new.2)

/-- Stages 3 to 5 of R130 for one input of the rank filter's position. -/
def firRun (s : State) (d : List Word) (fade : Option Fade) (ch : Chain) (y : Smp) : ChainRun :=
  let p := rankRun (dRANKEN d && !(dRANKPOS d)) (dRANKW d) (dRANKR d) ch.pre y
  let h := (p.2 :: ch.fir).take (s.profTaps (dPROFILE d))
  if y.j % (2 ^ dNHB d * s.profM (dPROFILE d)) = 0 then
    let acc := firAcc s d fade h
    let z := stageOut acc y.j (marksOf h) (match fade with | some f => f.i | none => 0) (match fade with | some f => f.x | none => 0)
    let q := rankRun (dRANKEN d && dRANKPOS d) (dRANKW d) (dRANKR d) ch.post z
    ⟨{ ch with pre := p.1, fir := h, post := q.1, out := (q.2 :: ch.out).take 4160 }, true, if acc.2 then 1 else 0⟩
  else ⟨{ ch with pre := p.1, fir := h }, false, 0⟩

/-- The end instant of input `j` of a chain, in units of 2^-32 ns (R156); of a remote input, by the newest frame's lattice (R173). -/
def State.endOf (s : State) (d : List Word) (j : Nat) : Nat :=
  if dKIND d = 1 then
    let r := s.remote d
    if r.rate = 0 then 0 else ((r.tRef : Int) + ((j : Int) - r.jRef) * ((1000000000 * 2 ^ 40 : Nat) : Int) / (r.rate : Int)).toNat
  else j * s.tDec d

/-- A chain whose every history position is missing. -/
def missChain (s : State) (d : List Word) : Chain :=
  { hb := (List.range 4).map (fun i => List.replicate (hbH (dHB d i)) missSmp)
    pre := List.replicate (dRANKW d) missSmp
    fir := List.replicate (s.profTaps (dPROFILE d)) missSmp
    post := List.replicate (dRANKW d) missSmp }

/-- A chain that has missed the inputs from `i` to the one before `j`: every history is missing. -/
def gapChain (s : State) (d : List Word) (ch : Chain) (i j : Nat) : Chain :=
  { missChain s d with out := ch.out, held := ch.held, gaps := (i, j) :: ch.gaps.take 63 }

/-- The chain before an input: one before the context's start is not taken; a gap in the inputs leaves every history missing. -/
def chainBefore (s : State) (d : List Word) (startAt : Nat) (ch : Chain) (j : Nat) : Chain :=
  match ch.lastJ with
  | some l => if l + 1 = j then ch else gapChain s d ch (l + 1) j
  | none => if j = 0 ∨ s.endOf d (j - 1) * 2 ^ 16 < startAt then ch else gapChain s d ch (startAt / 2 ^ 16 / max 1 (s.tDec d) + 1) j

/-- Pass one input through a context's chain (R130). -/
def chainRun (s : State) (d : List Word) (startAt : Nat) (fade : Option Fade) (ch : Chain) (x : Smp) : ChainRun :=
  if s.endOf d x.j * 2 ^ 16 < startAt then ⟨{ ch with held := x.v }, false, 0⟩
  else
    let c0 := chainBefore s d startAt ch x.j
    let c1 := { c0 with lastJ := some x.j, held := if x.marks &&& 8 = 0 then x.v else ch.held }
    let r := hbRun ((List.range (dNHB d)).map (dHB d)) 1 c1.hb x
    match r.2.1 with
    | none => ⟨{ c1 with hb := r.1 }, false, r.2.2⟩
    | some y =>
      let f := firRun s d fade { c1 with hb := r.1 } y
      { f with sats := f.sats + r.2.2 }

/-- Count accumulator saturations (R125). -/
def countSats (n : Nat) (s : State) : State :=
  if n = 0 then s else raise pFENG 5 { s with feng := { s.feng with satCnt := min (2 ^ 32 - 1) (s.feng.satCnt + n) } }

/-- The fade a path's next FIR output is computed with: each path of a pair counts its own outputs (R100, R138). -/
def CtxSt.fadeOf (cs : CtxSt) (low : Bool) : Option Fade := if low then cs.fade2 else cs.fade

/-- A context with its path's fade replaced. -/
def CtxSt.setFade (cs : CtxSt) (low : Bool) (f : Option Fade) : CtxSt := if low then { cs with fade2 := f } else { cs with fade := f }

/-- A fade's next step after a FIR output of a path (R138): it ends after output X, and once no path fades the fade is done. -/
def fadeNext (c : Nat) (low : Bool) (s : State) : State :=
  match (s.ctx c).fadeOf low with
  | none => s
  | some f =>
    if f.i < f.x then s.setCtx c ((s.ctx c).setFade low (some { f with i := f.i + 1 }))
    else
      let s1 := s.setCtx c ((s.ctx c).setFade low none)
      if (s1.ctx c).fading then s1 else raise pFENG 4 { s1 with feng := { s1.feng with fadeCtx := c } }

/-- The descriptor a context's chain runs under: the committed one, or after a commit that cleared EN the one whose last outputs are
still to come (R127). -/
def runDesc (cs : CtxSt) : List Word :=
  if dEN cs.desc then cs.desc
  else match cs.prev.getLast? with
    | some p => if cs.nextK.getD 0 < p.1 then p.2 else cs.desc
    | none => cs.desc

/-- Apply `f`, which acts on context `c`, to each earlier run of `c` whose descriptor meets `p`; only the run changes. -/
def onTails (p : List Word → Bool) (c : Nat) (f : State → State) (s : State) : State :=
  { s with tails := s.tails.map (fun (t : TailSt) => if t.ctx = c && p (runDesc t.run) then { t with run := (f (s.setCtx c t.run)).ctx c } else t) }

/-- Apply `f` to a context's present run and to its earlier runs, where their descriptors meet `p`. -/
def onRuns (p : List Word → Bool) (c : Nat) (f : State → State) (s : State) : State :=
  let s1 := onTails p c f s
  if p (runDesc (s.ctx c)) then f s1 else s1

/-- The contexts that have a run, present or earlier, whose descriptor meets `p` and has EN 1. -/
def State.runCtxs (s : State) (p : List Word → Bool) : List Nat :=
  let q (d : List Word) : Bool := dEN d && p d
  (s.ctxKeys.filter (fun c => q (runDesc (s.ctx c))) ++ (s.tails.filter (fun (t : TailSt) => q (runDesc t.run))).map (fun (t : TailSt) => t.ctx)).eraseDups

/-- Give a context's chain one input; `low`: the low-gain path of a pair. Each path's fade steps with its own FIR outputs. -/
def pushInput (c : Nat) (low : Bool) (x : Smp) (s : State) : State :=
  let cs := s.ctx c
  let d := runDesc cs
  if dEN d && !(dMODE d) then
    let r := chainRun s d cs.startAt (cs.fadeOf low) (if low then cs.c2 else cs.c1) x
    let s1 := s.setCtx c (if low then { cs with c2 := r.ch } else { cs with c1 := r.ch })
    let s2 := countSats r.sats s1
    if r.ran then fadeNext c low s2 else s2
  else s

/-- A held input (R120, and a slot not in force): the last value the chain took, with these marks. -/
def pushHeld (c : Nat) (low : Bool) (j marks : Nat) (s : State) : State :=
  let ch := if low then (s.ctx c).c2 else (s.ctx c).c1
  pushInput c low { v := ch.held, j := j, marks := marks, fi := 0, fx := 0 } s

/-! ### Settling (R140 to R146) -/

/-- Whether a context is fed by a dual-gain pair (R100). -/
def State.pairFed (s : State) (c : Nat) : Bool := match s.feeder c with | some n => s.leadsPair n | none => false

/-- An event of both paths of a pair counts on each path by itself (R146). -/
def settlePaths (pair : Bool) (e : SettleEv) : List SettleEv :=
  if pair ∧ e.path = 0 then [{ e with path := 1 }, { e with path := 2 }] else [e]

/-- A settling event of the present run of a context at `t` (2^-48 ns) with `cyc` modulator cycles of excitation settling. -/
def settleRun (c t cyc : Nat) (stale : Bool) (path : Nat) (s : State) : State :=
  let cs := s.ctx c
  let d := runDesc cs
  if dEN d && !(dMODE d) then
    s.setCtx c { cs with settle := cs.settle ++ settlePaths (s.pairFed c) { t := t, n := s.settleN d + s.settleNe d cyc, begun := false, stale := stale, cyc := cyc, path := path } }
  else s

/-- A settling event of a context, in every run that still has outputs to come. -/
def settleEvent (c t cyc : Nat) (stale : Bool) (path : Nat) (s : State) : State := onRuns (fun _ => true) c (settleRun c t cyc stale path) s

/-- Whether an event covers an output whose history runs from `lo` to `hi` (2^-48 ns): by its count on a time grid, and on an angle
grid while the history holds input from before the event (R140, R141). -/
def settleCovers (angle : Bool) (lo hi : Nat) (e : SettleEv) : Bool :=
  (e.begun || decide (e.t < hi)) &&
  (if angle then decide (lo < e.t + e.cyc * modCyc * 2 ^ 16) else decide (0 < e.n))

/-- An event after one output. -/
def settleStep (hi : Nat) (e : SettleEv) : SettleEv :=
  if e.begun || decide (e.t < hi) then { e with begun := true, n := e.n - 1 } else e

/-- Whether an event has nothing more to cover. -/
def settleOver (angle : Bool) (lo : Nat) (e : SettleEv) : Bool :=
  e.begun && (if angle then decide (e.t + e.cyc * modCyc * 2 ^ 16 ≤ lo) else decide (e.n = 0))

/-! ### Loads (R153 to R155): units of 2^-20 / 720 720 MAC/s, so that every decimation divides exactly -/

def loadU : Nat := 720720 * 2 ^ 20

/-- The rate of a period given in units of 2^-32 ns. -/
def rateU (per : Nat) : Nat := if per = 0 then 0 else 1000000000 * n32 * loadU / per

/-- The load of a descriptor's final FIR. -/
def State.firLoad (s : State) (d : List Word) : Nat :=
  s.profTaps (dPROFILE d) * (rateU (s.tDec d) / (2 ^ dNHB d * s.profM (dPROFILE d)))

/-- What a fade adds to the load: the chain's FIR once more, on each path of a pair (R100, R139). -/
def State.fadeLoad (s : State) (pair : Bool) (d : List Word) : Nat := s.firLoad d * (if dKIND d = 0 ∧ pair then 2 else 1)

/-- The load of a descriptor (R153); `pair`: it is fed by a dual-gain pair. -/
def State.loadWith (s : State) (pair : Bool) (d : List Word) : Nat :=
  if dKIND d = 2 then
    let k := if dDET d ≤ 3 then 1 else 2
    k * rateU (s.periodN (dGRID (s.ctx (dSOURCE d)).desc)) + 8 * rateU (s.periodN (dGRID d))
  else if dKIND d = 3 then 0
  else if dMODE d then 2 * rateU (s.periodN (dGRID d))
  else
    let f := rateU (s.tDec d)
    let hb := ((dStages d).map (fun x => hbZ (dHB d (x.1 - 1)) * (f / 2 ^ x.1))).sum
    let rk := if dRANKEN d then dRANKW d * (f / (2 ^ dNHB d * (if dRANKPOS d then s.profM (dPROFILE d) else 1))) else 0
    (hb + rk + s.firLoad d) * (if dKIND d = 0 ∧ pair then 2 else 1)

/-- The load of context `c` with descriptor `d` (R153). -/
def State.loadOf (s : State) (c : Nat) (d : List Word) : Nat := s.loadWith (s.pairFed c) d

/-- The load of a committed context with its running fade (R154). -/
def State.ctxLoad (s : State) (c : Nat) : Nat :=
  let d := (s.ctx c).desc
  if dEN d then s.loadOf c d + (if (s.ctx c).fading then s.fadeLoad (s.pairFed c) d else 0) else 0

/-- FENG_LOAD in load units (R154). -/
def State.fengLoad (s : State) : Nat := (s.enabled.map s.ctxLoad).sum

/-- FENG_LIMIT in load units (R155). -/
def State.fengLimitU (s : State) : Nat := min 14000000 (fengLimit_LIMIT s) * 1000 * loadU

/-! ### Detectors (R150, R151) -/

/-- The state of a running form: the mean square, or the envelope, with 16 fraction bits, and the outputs since its last rise. -/
def detStep (d : List Word) (x : Int) (st : Nat × Nat) : Nat × Nat :=
  if dDET d = 5 then ((st.1 + rshAway ((x.natAbs * x.natAbs * 2 ^ 16 : Nat) - (st.1 : Int)) (max 1 (dTAU d))).toNat, 0)
  else
    let a := x.natAbs * 2 ^ 16
    if st.1 ≤ a then (a, 0)
    else if st.2 < dENVHOLD d then (st.1, st.2 + 1)
    else ((st.1 - (rshAway (st.1 : Int) (max 1 (dDECAY d))).toNat), st.2 + 1)

/-- A detector's value over the usable outputs of its interval, oldest first, and its running state after them (R150). -/
def detValue (d : List Word) (xs : List Int) (st : Nat × Nat) : Option Int × (Nat × Nat) :=
  let st' := xs.foldl (fun a x => detStep d x a) st
  match dDET d, xs with
  | 5, _ => (some (sqrtNear st'.1 (2 ^ 16)), st')
  | 6, _ => (some (rshAway st'.1 16), st')
  | _, [] => (none, st)
  | 1, x :: t => (some (t.foldl max x), st)
  | 2, x :: t => (some (t.foldl min x), st)
  | 3, x :: t => (some (t.foldl (fun b y => if b.natAbs < y.natAbs then y else b) x), st)
  | _, x :: t => (some (sqrtNear (((x :: t).map (fun y => y.natAbs * y.natAbs)).sum) (t.length + 1)), st)

end Sys2Proof.Machine
end

