-- ==== Sys2Proof/Machine/Align.lean ====
section
/-! DEFINITION. Alignment and resampling (spec chapter 7), single-cycle assignment, detectors' outputs, and the delivery of a
context's output to brims, triggers, records, detectors and streams. -/

namespace Sys2Proof.Machine

/-! ### The resampler (R156 to R164) -/

/-- ρ of a chain's inputs for input `j` (R159): 0 for a remote chain, whose instants the satellite declares (R173). -/
def State.rhoAt (s : State) (d : List Word) (j : Nat) : Nat :=
  if dKIND d = 1 then 0
  else
    let dd := if dLOOPK d then s.sliceDec (s.loopSlice (dSOURCE d)) else decD (dDEC d)
    let e := if dLOOPK d then j * s.loopDiv (dSOURCE d) * dd else j * dd
    rhoOf 5 dd ((e + 32 * (5 * dd) - 5 * (dd - 1)) % 32)

/-- τ of FIR output `j` of a path through slice `sl` (R157), in units of 2^-32 ns. -/
def State.tauOf (s : State) (d : List Word) (sl : Option Nat) (j : Nat) : Int :=
  (s.endOf d j : Int) - s.alignDelta d sl (s.rhoAt d j)

/-- The J step of FIR outputs (R156). -/
def State.firStep (s : State) (d : List Word) : Nat := 2 ^ dNHB d * s.profM (dPROFILE d)

/-- The input a of a grid instant `g` (2^-32 ns): the J of the last FIR output with τ ≤ g (R162). -/
def State.inputA (s : State) (d : List Word) (sl : Option Nat) (g : Int) : Option Nat :=
  let t := s.tFir d
  if t = 0 then none
  else
    let q := if dKIND d = 1 then
        let r := s.remote d
        ((r.jRef : Int) + (g + s.alignDelta d sl 0 - r.tRef) * (r.rate : Int) / ((1000000000 * 2 ^ 40 : Nat) : Int)) / (s.firStep d : Int)
      else (g + s.alignDelta d sl 0) / (t : Int)
    let cand := [q + 1, q, q - 1]
    (cand.find? (fun a => decide (0 ≤ a) && decide (s.tauOf d sl (a.toNat * s.firStep d) ≤ g))).map (fun a => a.toNat * s.firStep d)

/-- The marks of the resampler's 32 inputs; bit 4 where one of them carries RECOVER: its history holds overloaded input but no clamped
output (R98, R164). -/
def inputMarks (ys : List Smp) : Nat := marksOf ys ||| (if ys.any (fun y => y.marks &&& 4 != 0 && y.marks &&& 2 == 0) then 16 else 0)

/-- What the resampler has for a grid instant. -/
inductive Resamp where
  /-- FIR output a + 16 is not complete -/
  | wait
  /-- the accumulator in units of 2^-46 code (the 2^-30 of R124 with the sixteen fraction bits of w) and whether it saturated, the marks of the 32 inputs, the newest faded input's step and
  length, and the end instant of the newest input (2^-48 ns) -/
  | got (acc : Int × Bool) (marks fi fx hi : Nat)

/-- The interpolated coefficients for μ (R163), exact: in units of 2^-38, sixteen fraction bits below the ROM's. -/
def kernCoefs (p w : Nat) : List Int :=
  (List.range 32).map (fun i => kernTap p i * 2 ^ 16 + (w : Int) * (kernNext p i - kernTap p i))

/-- An input of the resampler: 0 before the context's start, missing where the chain has passed it without one, `none` while it is
still to come. -/
def inputAt (s : State) (d : List Word) (startAt : Nat) (ch : Chain) (j : Int) : Option Smp :=
  if j < 0 ∨ (s.endOf d j.toNat * 2 ^ 16 < startAt) then some { v := 0, j := 0, marks := 0, fi := 0, fx := 0 }
  else
    match ch.out.find? (fun x => decide (x.j = j.toNat)) with
    | some x => some x
    | none => match ch.out.head? with
      | some x => if j.toNat < x.j ∨ (dKIND d = 1 ∧ (s.remote d).lost) then some missSmp else none
      | none => if dKIND d = 1 ∧ (s.remote d).lost then some missSmp else none

/-- Evaluate a path at grid instant `g` (2^-32 ns) (R162 to R164). -/
def resample (s : State) (d : List Word) (startAt : Nat) (sl : Option Nat) (ch : Chain) (g : Int) : Resamp :=
  match s.inputA d sl g with
  | none => if dKIND d = 1 ∧ (s.remote d).rate = 0 then .got (0, false) 128 0 0 (g.toNat * 2 ^ 16) else .wait
  | some a =>
    let st := s.firStep d
    let xs := (List.range 32).map (fun i => inputAt s d startAt ch ((a : Int) + (Int.ofNat i - 15) * (st : Int)))
    if xs.any (·.isNone) then .wait
    else
      let ys := xs.map (fun x => x.getD missSmp)
      let mu := ((g - s.tauOf d sl a) * 2 ^ 48 / (s.tFir d : Int)).toNat % 2 ^ 48
      let acc := macAt (accMax * 2 ^ 16) (kernCoefs (nfld mu 47 40) (nfld mu 39 24)) ys (0, false)
      let f := ys.foldl (fun b y => if y.fx ≠ 0 ∧ b.1 ≤ y.fi then (y.fi, y.fx) else b) (0, 0)
      .got acc (inputMarks ys) f.1 f.2 (s.endOf d (a + 16 * st) * 2 ^ 16)

/-- The 24-bit code of an accumulator (R124), divided first by a ratio in units of 2^-40 (R102); whether it clamped. -/
def codeOf (acc : Int) (ratio : Nat) : Int × Bool :=
  let y := rdivAway (acc * 2 ^ 40) (max 1 ratio * 2 ^ 46)
  let z := clampI (-(2 ^ 23 - 1)) (2 ^ 23 - 1) y
  (z, decide (y ≠ z))

/-! ### An output before it is delivered -/

/-- What a context delivers for an index: value and tags, or a fill reason; its notes (number, payload). -/
structure OutVal where
  v : Int
  tags : Nat
  fill : Nat
  /-- the held value is to be delivered (R120) -/
  stale : Bool
  notes : List (Nat × List Word)
  deriving DecidableEq, Repr

def fillOut (r : Nat) : OutVal := { v := 0, tags := 0, fill := r, stale := false, notes := [] }

/-- The tags of a resampler output's marks: OVR for a clamped input or a saturation, RECOVER where an input carries it (R98, R125,
R164). -/
def markTags (m : Nat) : Nat := (if m &&& 34 ≠ 0 then 2 else 0) + (if m &&& 16 ≠ 0 then 4 else 0)

/-- An instant as a shifted-instant note's payload (R283): seconds low, ns, fraction in 2^-16 ns. `t` in units of 2^-32 ns. -/
def instNote (t : Int) : List Word :=
  let n := t.toNat
  [word (n / n32 / 1000000000), word (n / n32 % 1000000000), word (n % n32 / 2 ^ 16)]

/-- The page of a slice and of its mitten. -/
def slicePages (n : Nat) : List Nat := [pSLICE n, pMITT (n / 4)]

/-- The pages a context's data passes through (R30). A remote channel 128 (n − 2) + ch comes over spur n, by link layer and lane n. -/
def pathPages (s : State) (c : Nat) (d : List Word) : List Nat :=
  [pFENG, pGRID] ++
  (match dKIND d with
   | 0 => (match s.feeder c with
      | some n => if s.leadsPair n then pSLICE (n + 1) :: slicePages n else slicePages n
      | none => [])
   | 1 => [pULK (dSOURCE d / 128 + 2), pLANE (dSOURCE d / 128 + 2)]
   | 3 =>
     let x := tiCfg_STOP_SRC s (dSOURCE d % 16)
     pTIU :: (if 0x40 ≤ x ∧ x < 0x80 then slicePages (x - 0x40) else [])
   | 4 => pLOOP :: slicePages (s.loopSlice (dSOURCE d))
   | 5 => pLOOP :: slicePages (s.loopSlice (dSOURCE d))
   | _ => [])

/-- Whether a page of a context's data path is under reset (R30): one that its path passed through when the reset began, or passes through now. -/
def pathReset (s : State) (c : Nat) (d : List Word) : Bool :=
  s.hdr.any (fun x => x.2.rstEnd.isSome && decide (c ∈ x.2.rstCtx)) || (pathPages s c d).any (fun p => (s.page p).rstEnd.isSome)

/-! ### FIR mode -/

/-- The path an output of a pair is taken from (R101): `clean` the high path's history is clean, `cnt` the clean outputs before it. -/
def pairLow (wasLow clean : Bool) (cnt : Nat) : Bool := if wasLow then !(clean && decide (512 ≤ cnt)) else !clean

/-- The marks that make a history unclean (R101): at or above 15/16 of full scale, or overloaded input. -/
def uncleanMarks : Nat := 70

/-- An accumulator's saturation as a count (R125). -/
def satOf (a : Int × Bool) : Nat := if a.2 then 1 else 0

/-- One path's output: its value, tags and notes. -/
def pathOut (ratio : Nat) (acc : Int × Bool) (marks fi fx : Nat) : OutVal :=
  let y := codeOf acc.1 ratio
  { v := y.1, tags := markTags (marks ||| (if acc.2 || y.2 then 32 else 0)), fill := 0, stale := decide (marks &&& 8 ≠ 0),
    notes := if fx = 0 then [] else [(1, [word fi, word fx])] }

/-- An output whose history reaches over positions its source produced no sample for (R30, R78): the spec gives it its tags and no
value, so its value is the open value `v`. -/
def openOut (miss : Bool) (v : Nat) (o : OutVal) : OutVal :=
  if miss then { o with v := clampI (-(2 ^ 23 - 1)) (2 ^ 23 - 1) (sgn 24 v) } else o

/-- The slot of a slice that delivers to a context: the one in force where it names it, else the first that does (R82, R103). -/
def slotOf (x : SliceSt) (c : Nat) : Nat :=
  if slotNames x.app x.slot c then x.slot else ((setSlots x.app).find? (fun j => slotNames x.app j c)).getD x.slot

/-- The matched ratio of a pair's slot for a context's outputs (R103). -/
def pairRatio (s : State) (n c : Nat) : Nat := (tget keep0 (s.slice n).keep (slotOf (s.slice n) c)).ratio

/-- The ratio estimator (R103): one update of the slot in force from an output of its context that is clean on both paths. -/
def ratioUpdate (n c : Nat) (hiAcc loAcc : Int) (marks : Nat) (s : State) : State :=
  let y := (codeOf hiAcc (2 ^ 40)).1
  let sl := s.slice n
  if slotNames sl.app sl.slot c ∧ marks &&& uncleanMarks = 0 ∧ 32768 ≤ y.natAbs ∧ y.natAbs ≤ 7864320 ∧ loAcc ≠ 0 then
    let k := tget keep0 sl.keep sl.slot
    let meas := (hiAcc * 2 ^ 40) / loAcc
    let r := (k.ratio : Int) + rdivAway (meas - k.ratio) 65536
    s.setSlice n { sl with keep := tset keep0 sl.keep sl.slot { k with ratio := r.toNat, ratioCnt := min 4096 (k.ratioCnt + 1) } }
  else s

/-- The tags of a pair's low-gain output: SPLICE; and OVR where both paths' histories hold overloaded input (R101, R103). -/
def lowTags (tags mHi mLo : Nat) : Nat := if mHi &&& 4 ≠ 0 ∧ mLo &&& 4 ≠ 0 then (tags &&& 0xFB) ||| 18 else tags ||| 16

/-- What a FIR-mode context has for an instant `t` (2^-48 ns): `none` while inputs are to come, else the output, the ends of its
histories on the high and the low path, the path taken (0 the only one, 1 high, 2 low), and the state after (the pair's counters and
events). -/
def firOut (c : Nat) (d : List Word) (t : Nat) (s : State) : Option (OutVal × (Nat × Nat) × Nat × State) :=
  let cs := s.ctx c
  let g : Int := (t / 2 ^ 16 : Nat)
  let sl := s.srcSlice c
  match sl with
  | some n =>
    if dKIND d = 0 ∧ s.leadsPair n then
      match resample s d cs.startAt (some n) cs.c1 g, resample s d cs.startAt (some (n + 1)) cs.c2 g with
      | .got a m fi fx hi, .got a2 m2 fi2 fx2 hi2 =>
        let clean := decide (m &&& uncleanMarks = 0)
        let low := pairLow cs.lowPath clean (s.slice n).clean
        let s1 := s.setSlice n { s.slice n with clean := if clean then min 65535 ((s.slice n).clean + 1) else 0, lowActive := low }
        let s2 := s1.setCtx c { s1.ctx c with lowPath := low }
        let s3 := raiseIf (low != cs.lowPath) (pSLICE n) 4 s2
        let s4 := ratioUpdate n c a.1 a2.1 (m ||| m2) (countSats (satOf a + satOf a2) s3)
        let o := if low then pathOut (2 ^ 40) a2 m2 fi2 fx2 else pathOut (pairRatio s n c) a m fi fx
        let miss := decide ((if low then m2 else m) &&& 128 ≠ 0)
        let note : List (Nat × List Word) := if low != cs.lowPath then [(7, [if low then 1 else 0, word (pairRatio s n c / 2 ^ 16)])] else []
        some (openOut miss s.free.1 { o with tags := if low then lowTags o.tags m m2 else o.tags, notes := o.notes ++ note }, (hi, hi2), if low then 2 else 1, if miss then s4.free.2 else s4)
      | _, _ => none
    else
      match resample s d cs.startAt sl cs.c1 g with
      | .got a m fi fx hi => 
        let miss := decide (m &&& 128 ≠ 0)
        some (openOut miss s.free.1 (pathOut (2 ^ 40) a m fi fx), (hi, hi), 0, if miss then s.free.2 else countSats (satOf a) s)
      | .wait => none
  | none =>
    match resample s d cs.startAt none cs.c1 g with
    | .got a m fi fx hi => some (if m &&& 128 ≠ 0 then fillOut 6 else pathOut (2 ^ 40) a m fi fx, (hi, hi), 0, countSats (satOf a) s)
    | .wait => none

/-- SETTLE and STALE of the settling events for the output at instant `t`, the notes of excitation cut-offs, and the context after (R140,
R142, R120, R283). `his`: where the histories of the high and the low path end; each path's events count by its own history (R146). The
start of the context is an event at its first output's instant. -/
def settleOut (c : Nat) (d : List Word) (t : Nat) (his : Nat × Nat) (path : Nat) (o : OutVal) (s : State) : OutVal × State :=
  let cs := s.ctx c
  let angle := decide (s.gridAxis (dGRID d) ≠ 0)
  let hi (e : SettleEv) : Nat := if e.path = 2 then his.2 else his.1
  let lo (e : SettleEv) : Nat := hi e - s.lTotal d * s.tDec d * 2 ^ 16
  let all := cs.settle.map (fun e => if e.first then { e with t := t, first := false } else e)
  let mine (e : SettleEv) : Bool := decide (e.path = 0 ∨ path = 0 ∨ e.path = path)
  let st := all.any (fun e => !e.stale && mine e && settleCovers angle (lo e) (hi e) e)
  let sl := all.any (fun e => e.stale && mine e && settleCovers angle (lo e) (hi e) e)
  let newest := if path = 2 then his.2 else his.1
  let cut := cs.cuts.filter (fun x => decide (x.1 < newest))
  let ns := cut.map (fun x => (4, [word (secOf x.1), word (nsOf x.1), word x.2]))
  let evs := ((all.map (fun e => settleStep (hi e) e)).filter (fun e => !(settleOver angle (lo e) e)))
  ({ o with tags := o.tags ||| (if st then 1 else 0), stale := o.stale || sl, notes := o.notes ++ ns },
   s.setCtx c { cs with settle := evs, cuts := cs.cuts.filter (fun x => !(decide (x.1 < newest))) })

/-- The side notes of SKEW_ADJ changes that the output of index `k` is the first to show (R161), and the context without them. -/
def skewOut (c k : Nat) (s : State) : List (Nat × List Word) × State :=
  let cs := s.ctx c
  ((cs.skewNote.filter (fun x => decide (x.1 ≤ k))).map (fun x => (5, [x.2.1, x.2.2])),
   s.setCtx c { cs with skewNote := cs.skewNote.filter (fun x => decide (k < x.1)) })

/-- The start of the hold a PHOLD context's instant falls in (R144, R167): `none` while the input tracks. Track intervals run from
the end of EXC_SETTLE after an applied EXC_ON to the next applied EXC_OFF. -/
def holdStart (s : State) (n t : Nat) : Option Nat :=
  let sl := s.slice n
  let lag := fld sl.app.time 15 0 * modCyc * 2 ^ 16
  if sl.exc.trk.any (fun x => decide (x.1 + lag ≤ t) && (match x.2 with | some e => decide (t < e) | none => true)) then none
  else some ((sl.exc.trk.filterMap (fun x => match x.2 with | some e => if e ≤ t then some e else none | none => none)).foldl max 0)

/-- Whether a local or loop context's source was off at an instant (R78, R224): no decimator output, or no loop cycle, came of those whose
windows lie about it. -/
def offAt (s : State) (c : Nat) (d : List Word) (t : Nat) : Bool :=
  let sl := s.srcSlice c
  let front : Int := match sl with | some n => psU (s.anaDelay n) + psU (s.skewOf n) | none => 0
  let dd := if dLOOPK d then s.sliceDec (s.loopSlice (dSOURCE d)) else decD (dDEC d)
  let j := (((t / 2 ^ 16 : Nat) : Int) + front + psU (dSKEWADJ d) + (5 * (dd - 1) * modCyc / 2 : Nat)) / (max 1 (s.tDec d) : Nat)
  decide (dKIND d ≠ 1) && (s.ctx c).c1.gaps.any (fun g => decide ((g.1 : Int) ≤ j ∧ j < g.2))

/-- The output of a chain context for an instant, or `none` while it is to come. An index of the time its source was off is FILL, also
where it falls due after the source is on again. -/
def chainOut (c : Nat) (d : List Word) (k t : Nat) (s : State) : Option (OutVal × State) :=
  match firOut c d t s with
  | none => none
  | some (o, his, path, s1) =>
    let o := if o.fill = 0 ∧ offAt s c d t then fillOut (if dLOOPK d then 8 else 2) else o
    let r := settleOut c d t his path o s1
    let ph : List (Nat × List Word) := if dPHOLD d then
        match s.feeder c with
        | some n => (match holdStart s n t with | some h => [(5, instNote ((h / 2 ^ 16 : Nat) : Int))] | none => [])
        | none => []
      else []
    if r.1.fill ≠ 0 then some r
    else
      let sk := skewOut c k r.2
      some ({ r.1 with notes := r.1.notes ++ ph ++ sk.1 }, sk.2)

/-! ### Single-cycle mode and vibrating-wire results (R168, R169, R200) -/

/-- The interval of index `k` whose instant is `t`: the midpoints to its neighbours, in units of 2^-33 ns; `none` while the next
instant is unknown. -/
def interval (s : State) (g k t : Nat) : Option (Nat × Nat) :=
  let q := s.grid g
  let tt := t / 2 ^ 16
  if q.axis = 0 then some (2 * tt - min (2 * tt) q.period, 2 * tt + q.period)
  else
    let lo := match gridInst s g (k - 1) with | some x => if k = 0 then 0 else x / 2 ^ 16 + tt | none => 0
    match gridInst s g (k + 1) with
    | some x => some (lo, tt + x / 2 ^ 16)
    | none => if q.run then none else some (lo, 2 * (s.st / 2 ^ 16))

/-- Choose the conversion of an interval nearest `t`, the earlier on a tie (R169). -/
def nearest (t : Int) (cs : List ScConv) : Option ScConv :=
  cs.foldl (fun b x => match b with
    | none => some x
    | some y => if (x.orig - t).natAbs < (y.orig - t).natAbs then some x else some y) none

/-- The instant a running conversion will stand for (R168): its window begins at nominal edge `e` (2^-32 ns). -/
def State.scInst (s : State) (d : List Word) (sl : Nat) (e : Nat) : Int :=
  (e : Int) + (2 * (dSCK d - 1) * modCyc : Nat) + rhoOf 4 (dSCK d) (e / modCyc % 32) - psU (s.anaDelay sl) - psU (s.skewOf sl) - psU (dSKEWADJ d)

/-- The first modulator edge at or after an instant, in units of 2^-32 ns. -/
def edgeAt (t : Nat) : Nat := cdiv (t / 2 ^ 16 + (if t % 2 ^ 16 = 0 then 0 else 1)) modCyc * modCyc

/-- Whether a conversion under way, or one that waits to begin, belongs to an interval that ends at `hi2` (R148, R169): by its own instant,
or by that of the conversion it replaces. -/
def scPending (s : State) (c : Nat) (d : List Word) (hi2 : Nat) : Bool :=
  match s.feeder c with
  | none => false
  | some n =>
    let x := s.slice n
    let due (e : Nat) (o : Option Int) : Bool := decide (2 * o.getD (s.scInst d n e) < hi2)
    slotNames x.app x.slot c && (match x.conv, x.waitEnd with
      | some (e, o), _ => due e o
      | none, some w => due (edgeAt w) x.redo
      | none, none => false)

/-- A fit of a channel may still fall before `hi2` (half units of 2^-32 ns): the sequence listens since before it, or has listened and its fit instant lies
before it (R197, R200). -/
def vwPending (s : State) (d : List Word) (hi2 : Nat) : Bool :=
  let c := dSOURCE d % 16
  match (s.tch c).vw with
  | some v => (decide (v.phase = 3) && decide (2 * (v.at_ / 2 ^ 16) < hi2)) || (decide (v.phase = 4) && decide (2 * vwInst (vwCfg_SKIP s c) v < hi2))
  | none => false

/-- Whether the interval of index `k` at instant `t` has ended and no conversion that belongs to it is still to come (R169, R200). -/
def scReady (s : State) (c : Nat) (d : List Word) (k t : Nat) : Bool :=
  match interval s (dGRID d) k t with
  | none => false
  | some (_, hi) => decide (hi ≤ s.st / 2 ^ 15) && !(if dKIND d = 0 then scPending s c d hi else vwPending s d hi)

/-- The output of a single-cycle context or a vibrating-wire result context, or `none` before its interval has ended. -/
def scOut (c : Nat) (d : List Word) (k t : Nat) (s : State) : Option (OutVal × State) :=
  match interval s (dGRID d) k t with
  | none => none
  | some (lo, hi) =>
    if !(scReady s c d k t) then none
    else
      let cs := s.ctx c
      let mine (x : ScConv) : Bool := decide (lo ≤ 2 * x.orig) && decide (2 * x.orig < hi)
      let s1 := s.setCtx c { cs with sc := cs.sc.filter (fun x => decide ((hi : Int) ≤ 2 * x.orig)) }
      let g : Int := (t / 2 ^ 16 : Nat)
      match nearest g (cs.sc.filter mine) with
      | none => some (fillOut 4, s1)
      | some x =>
        if x.failed then some (fillOut 7, s1)
        else
          let tol : Int := (dSCTOL d * (if dKIND d = 3 then 1000000 else 1000) * n32 : Nat)
          let late := decide (tol < (x.c - g).natAbs)
          let sk := skewOut c k s1
          some ({ v := x.v, tags := x.tags % 256, fill := 0, stale := decide (x.tags &&& 8 ≠ 0), notes := (if late || x.restarted then [(5, instNote x.c)] else []) ++ sk.1 }, sk.2)

/-! ### Detectors -/

/-- The run of a context that delivers next, and its grid: its oldest earlier run, else the present one. -/
def firstRun (s : State) (c : Nat) : CtxSt × GridSt :=
  match s.tails.find? (fun (t : TailSt) => decide (t.ctx = c)) with
  | some t => (t.run, t.grid)
  | none => (s.ctx c, s.grid (dGRID (s.ctx c).desc))

/-- Whether a detector's source has delivered every output up to `t` (R150). -/
def detReady (s : State) (d : List Word) (t : Nat) : Bool :=
  let run := firstRun s (dSOURCE d)
  match run.1.nextK with
  | none => true
  | some nk => match idxInst run.2 nk with
    | some x => decide (t < x)
    | none => true

/-- The output of a detector for its instant `t`, or `none` while its source's outputs up to `t` are to come (R150, R151). -/
def detOut (c : Nat) (d : List Word) (t : Nat) (s : State) : Option (OutVal × State) :=
  let cs := s.ctx c
  if !(detReady s d t) then none
  else
    let mine := (cs.src.filter (fun x => decide (x.t ≤ t))).reverse
    let use := mine.filter (fun x => !(isFill x.w) && !(bit x.w 3))
    let r := detValue d (use.map (fun x => wVal x.w)) (cs.det, cs.detHold)
    let tags := use.foldl (fun a x => a ||| (wTag x.w &&& 0xB7)) 0
    let s1 := s.setCtx c { cs with src := cs.src.filter (fun x => decide (t < x.t)), det := r.2.1, detHold := r.2.2 }
    match r.1 with
    | some v => some ({ v := v, tags := tags, fill := 0, stale := false, notes := [] }, s1)
    | none =>
      if mine ≠ [] ∧ mine.all (fun x => bit x.w 3 && !(isFill x.w)) then some ({ v := 0, tags := 0, fill := 0, stale := true, notes := [] }, s1)
      else some (fillOut 9, s1)

/-! ### Delivery (R164, R176, R177, R228, R244) -/

/-- The alias and rate checks of an index (R176, R177): the output after them. -/
def rateChecks (c : Nat) (d : List Word) (gi : GridInst) (o : OutVal) (s : State) : OutVal × State :=
  let cs := s.ctx c
  match gi.dt with
  | none => (o, s)
  | some dt =>
    let chain := decide (dKIND d ≠ 2) && decide (dKIND d ≠ 3) && !(dMODE d)
    if chain && decide (s.gridAxis (dGRID d) ≠ 0) && decide (4 * dt < s.tFir d * 2 ^ 16) then
      let s1 := s.setCtx c { cs with rateRun := true }
      (fillOut 5, raiseIf (!cs.rateRun) pGRID 1 { s1 with align := { s1.align with rateFill := satInc 32 s1.align.rateFill } })
    else
      let s0 := s.setCtx c { cs with rateRun := false }
      if dBW d = 0 ∨ o.fill ≠ 0 ∨ (o.stale ∧ cs.lastG = none) then (o, s0)
      else if secU * 256 < 2 * dBW d * dt then
        let s1 := s0.setCtx c { s0.ctx c with aliasRun := true }
        ({ o with notes := o.notes ++ [(3, [word (secU * 65536 / max 1 dt), word (dBW d)])] },
         raiseIf (!cs.aliasRun) pGRID 0 { s1 with align := { s1.align with aliasCnt := satInc 32 s1.align.aliasCnt } })
      else (o, s0.setCtx c { s0.ctx c with aliasRun := false })

/-- The word of an output (R7, R120, R455): `last` the context's last delivered value. -/
def outWord (o : OutVal) (hold : Bool) (last : Option Word) : Word × Nat :=
  let hn := (if hold then 32 else 0) + (if o.notes = [] then 0 else 128)
  if o.fill ≠ 0 then (placeholder hn, o.fill)
  else if o.stale then
    match last with
    | some w => (s32t (wVal w) (8 + (wTag w &&& 16) + hn), 0)
    | none => (placeholder hn, 3)
  else (s32t o.v (o.tags ||| hn), 0)

/-- Give a delivered word to the detectors that read its context (R150). -/
def feedDetectors (c k t : Nat) (w : Word) (s : State) : State :=
  s.ctxKeys.foldl (fun a x =>
    onRuns (fun d => decide (dKIND d = 2 ∧ dSOURCE d = c)) x (fun b =>
      let q := b.ctx x
      if dEN (runDesc q) && decide (q.startAt ≤ t) then b.setCtx x { q with src := ⟨k, t, w⟩ :: q.src } else b) a) s

/-- Deliver an output of context `c` for index `k`: notes, brim, triggers, records, detectors, streams. -/
def deliver (c : Nat) (gi : GridInst) (o0 : OutVal) (s : State) : State :=
  let cs := s.ctx c
  let rev : List (Nat × List Word) := match gi.note with
    | some (at_, low) => [(2, [word (secOf at_), word (secOf at_ / 2 ^ 32), word (nsOf at_), word (unsgn 64 low), word (unsgn 64 low / 2 ^ 32)])]
    | none => []
  let tn := trigNotes s c gi.k gi.t
  let o := { o0 with notes := o0.notes ++ rev }
  let last := cs.lastG.map (fun _ => cs.lastW)
  let w0 := outWord o gi.hold last
  let b := brimEval c w0.1 s
  let bn : List (Nat × List Word) := match b.2.1 with | some p => [(8, p)] | none => []
  let w1 := if bn ≠ [] ∨ tn ≠ [] then w0.1 ||| 0x80 else w0.1
  let entries := (o.notes ++ bn).map (fun x => noteCuff x.1 c gi.k x.2) ++ tn
  let s1 := trigFeed c gi.t w1 b.1 b.2.2
  let s2 := s1.setCtx c { s1.ctx c with nextK := some (gi.k + 1), lastW := if w0.2 = 0 then w1 else (s1.ctx c).lastW, lastG := if w0.2 = 0 then some gi.t else (s1.ctx c).lastG }
  let s3 := capture c gi.k gi.t w1 s2
  let s4 := feedDetectors c gi.k gi.t w1 s3
  queueOut c gi.k gi.t w1 w0.2 entries s4

/-- The end of the newest input a chain's output at instant `t` needs (R165): on both paths of a pair. -/
def chainEnd (s : State) (c : Nat) (d : List Word) (t : Nat) : Nat :=
  let g : Int := (t / 2 ^ 16 : Nat)
  let at_ (sl : Option Nat) : Nat := match s.inputA d sl g with | some a => s.endOf d (a + 16 * s.firStep d) * 2 ^ 16 | none => 0
  match s.srcSlice c with
  | some n => if dKIND d = 0 ∧ s.leadsPair n then max (at_ (some n)) (at_ (some (n + 1))) else at_ (some n)
  | none => at_ none

/-- Whether the output of context `c` for the index `gi` has fallen due: what it is computed from has come or can come no more. -/
def outDue (s : State) (c : Nat) (d : List Word) (gi : GridInst) : Bool :=
  if dKIND d = 2 then detReady s d gi.t
  else if dKIND d = 3 ∨ (dKIND d = 0 ∧ dMODE d) then (match interval s (dGRID d) gi.k gi.t with | some x => decide (x.2 ≤ s.st / 2 ^ 15) | none => false)
  else decide (chainEnd s c d gi.t ≤ s.st)

/-- What context `c` has for the index `gi` under descriptor `d`: `none` while it is to come. During a page reset on its path the outputs
that fall due are FILL (R30). -/
def ctxValue (c : Nat) (d : List Word) (gi : GridInst) (s : State) : Option (OutVal × State) :=
  if s.pwr.state = 4 then some (fillOut 10, s)
  else if pathReset s c d then (if outDue s c d gi then some (fillOut 1, s) else none)
  else
    match dKIND d with
    | 2 => detOut c d gi.t s
    | 3 => scOut c d gi.k gi.t s
    | 0 =>
      match s.feeder c with
      | none => some (fillOut 2, s)
      | some n =>
        if s.sliceOff n then some (fillOut 2, s)
        else if dMODE d then scOut c d gi.k gi.t s
        else chainOut c d gi.k gi.t s
    | 4 => if (s.loop (dSOURCE d)).mode = 0 then some (fillOut 8, s) else chainOut c d gi.k gi.t s
    | 5 => if (s.loop (dSOURCE d)).mode = 0 then some (fillOut 8, s) else chainOut c d gi.k gi.t s
    | _ => chainOut c d gi.k gi.t s

/-- An output over a missing remote sample is counted (R174). -/
def remoteGap (o : OutVal) (s : State) : State :=
  if o.fill = 6 then { s with align := { s.align with gapCnt := satInc 32 s.align.gapCnt } } else s

/-- Index `k` is the first under a descriptor that a commit put into force: a change of the brim's bounds sets it INSIDE (R229), and change
capture begins anew where CC_EN rises (R252). -/
def descTurn (c k : Nat) (new : List Word) (s : State) : State :=
  let cs := s.ctx c
  match cs.prev.find? (fun p => decide (p.1 = k)) with
  | none => s
  | some p =>
    let old := p.2
    let b := (dBRIMEN new && !(dBRIMEN old)) || decide (dBRIMLO old ≠ dBRIMLO new ∨ dBRIMHI old ≠ dBRIMHI new ∨ dBRIMHYST old ≠ dBRIMHYST new)
    s.setCtx c { cs with brim := if b then 0 else cs.brim, cc := if dCCEN new && !(dCCEN old) then none else cs.cc, cc2 := if dCCEN new && !(dCCEN old) then none else cs.cc2 }

/-- The record of the index a context delivers next, once its grid has produced it. -/
def nextInst (s : State) (c : Nat) : Option GridInst :=
  match (s.ctx c).nextK with
  | none => none
  | some k => (s.grid (dGRID (descFor (s.ctx c) k))).made.find? (fun x => decide (x.k = k))

/-- The output of a run for its next index, when it is complete (R164, R165): delivered under the descriptor of that index. -/
def runOutput (c : Nat) (s : State) : State :=
  match nextInst s c with
  | none => s
  | some gi =>
    let now := (s.ctx c).desc
    let d := descFor (s.ctx c) gi.k
    if dEN d then
      let sd := descTurn c gi.k d (s.setCtx c { s.ctx c with desc := d })
      match ctxValue c d gi sd with
      | none => s
      | some (o, s1) =>
        let r := rateChecks c d gi o s1
        let hold := gi.hold || decide (s.pwr.state = 4)
        let s2 := deliver c { gi with hold := hold } r.1 (remoteGap r.1 r.2)
        s2.setCtx c { s2.ctx c with desc := now, prev := (s2.ctx c).prev.filter (fun p => decide (gi.k < p.1)) }
    else s

/-- The output of a context for its next index: an earlier run first delivers all that it owes. -/
def ctxOutput (c : Nat) (s : State) : State :=
  match s.tails.find? (fun (t : TailSt) => decide (t.ctx = c)) with
  | none => strSweep (runOutput c s)
  | some t =>
    let g := dGRID t.run.desc
    let s1 := runOutput c ((s.setGrid g t.grid).setCtx c t.run)
    let rest := s1.tails.erase t
    let s2 := (s1.setGrid g (s.grid g)).setCtx c (s.ctx c)
    strSweep { s2 with tails := if s1.owes c then { t with run := s1.ctx c } :: rest else rest }

/-- How many indices the grids of a context's runs hold, a bound on the outputs it can have to deliver. -/
def State.madeCount (s : State) (c : Nat) : Nat :=
  (s.grid (dGRID (s.ctx c).desc)).made.length + ((s.tails.filter (fun (t : TailSt) => decide (t.ctx = c))).map (fun (t : TailSt) => t.grid.made.length)).sum

/-- Deliver every output of these contexts that is complete, detectors after the contexts they read. -/
def flushOutputs (cs : List Nat) (s : State) : State :=
  let one (a : State) (c : Nat) : State := (List.range (a.madeCount c)).foldl (fun b _ => ctxOutput c b) a
  let det (c : Nat) : Bool := decide (dKIND (runDesc (s.ctx c)) = 2)
  (cs.filter det).foldl one ((cs.filter (fun c => !(det c))).foldl one s)

end Sys2Proof.Machine
end

