-- ==== Sys2Proof/Machine/Gov.lean ====
section
/-! DEFINITION. The budget governor (R428 to R433): asking for leave, withdrawing, releasing, the decision of a tick, the standing
excitation grant and the count of EXC_ON currents. -/

namespace Sys2Proof.Machine

/-- BGT_STEP.STEP: the fall of the step account at each tick in mA; 0 acts as 1 (R431). -/
def bgtFall (s : State) : Nat := max 1 (bgtStep_STEP s)

/-- BGT_SUPPLY.MV; 0 acts as 1. -/
def bgtMv (s : State) : Nat := max 1 (bgtSupply_MV s)

/-- BGT_USED: the sum of P over the grants in force (R430). -/
def bgtUsed (s : State) : Nat := (s.bgt.grants.map (·.mw)).sum

/-- BGT_QUEUE.LEVEL: the requests queued (R432). -/
def bgtLevel (s : State) : Nat := (s.bgt.queue.filter (·.queued)).length

/-- Whether a requester holds a grant, and whether it is asking. -/
def bgtHas (kind req : Nat) (s : State) : Bool := s.bgt.grants.any (fun g => decide (g.kind = kind ∧ g.req = req))
def bgtAsking (kind req : Nat) (s : State) : Bool := s.bgt.queue.any (fun g => decide (g.kind = kind ∧ g.req = req))

/-- A requester asks for leave (R428): P in mW, its declared duration in ms, its own wait in ms where it declares one. -/
def bgtAsk (kind req mw : Nat) (dur wait : Option Nat) (s : State) : State :=
  { s with bgt := { s.bgt with queue := s.bgt.queue ++ [⟨kind, req, mw, dur, s.st, wait, false⟩] } }

/-- A requester withdraws a request not yet granted (R432): no event, BGT_LAST unchanged. -/
def bgtWithdraw (kind req : Nat) (s : State) : State :=
  { s with bgt := { s.bgt with queue := s.bgt.queue.filter (fun g => !(decide (g.kind = kind ∧ g.req = req))) } }

/-- A requester releases its grant (R433). -/
def bgtRelease (kind req : Nat) (s : State) : State :=
  { s with bgt := { s.bgt with grants := s.bgt.grants.filter (fun g => !(decide (g.kind = kind ∧ g.req = req))) } }

/-- A requester gives up: a request is withdrawn, a grant released. -/
def bgtDrop (kind req : Nat) (s : State) : State := bgtRelease kind req (bgtWithdraw kind req s)

/-- BGT_LAST (R432): the outcome 1 grant, 2 queue, 3 refuse, 4 overrun. -/
def bgtLast (outcome reason : Nat) (r : BgtReq) (s : State) : State :=
  { s with bgt := { s.bgt with outcome := outcome, reason := reason, lastKind := r.kind, lastReq := r.req } }

/-- One nanosecond-multiple tick of the governor in ST units: 10 µs (R429). -/
def bgtTickU : Nat := 10 * usU

/-- The order in which a tick takes the queue: kind, then arrival, then requester number (R429). -/
def bgtBefore (a b : BgtReq) : Bool :=
  decide (a.kind < b.kind) || (decide (a.kind = b.kind) && (decide (a.arr < b.arr) || (decide (a.arr = b.arr) && decide (a.req ≤ b.req))))

/-- Put a request into a list kept in that order. -/
def bgtInsert (r : BgtReq) : List BgtReq → List BgtReq
  | [] => [r]
  | x :: t => if bgtBefore r x then r :: x :: t else x :: bgtInsert r t

def bgtSort : List BgtReq → List BgtReq
  | [] => []
  | x :: t => bgtInsert x (bgtSort t)

/-- The wait after which a queued request times out, in ST units (R432). -/
def bgtWait (s : State) (r : BgtReq) : Nat :=
  (match r.wait with | some w => min w (bgtMaxwait_MS s) | none => bgtMaxwait_MS s) * msU

/-- Why a request is refused at a tick whatever the account says: STATE, TIMEOUT, TOOBIG (R430 to R432). -/
def bgtBar (s : State) (r : BgtReq) : Option Nat :=
  if s.pwr.state = 3 ∨ s.pwr.state = 4 ∨ (s.pwr.state = 2 ∧ (r.kind = 5 ∨ r.kind = 6)) then some 4
  else if r.queued && decide (r.arr + bgtWait s r ≤ s.st) then some 3
  else if bgtBudget_MW s < r.mw then some 1
  else none

/-- Whether the budget and the step account admit a request now (R430, R431). -/
def bgtFits (s : State) (r : BgtReq) : Bool :=
  decide (bgtUsed s + r.mw ≤ bgtBudget_MW s) &&
  (decide (s.bgt.accNum = 0) ||
   decide (s.bgt.accNum * bgtMv s + r.mw * 1000 * s.bgt.accDen ≤ bgtFall s * s.bgt.accDen * bgtMv s))

/-- The step account after a grant of `mw` (R431): S + P / BGT_SUPPLY, exact. -/
def bgtCharge (mw : Nat) (s : State) : State :=
  let b := s.bgt
  let mv := bgtMv s
  let nd : Nat × Nat :=
    if b.accNum = 0 then (mw * 1000, mv)
    else if b.accDen = mv then (b.accNum + mw * 1000, mv)
    else (b.accNum * mv + mw * 1000 * b.accDen, b.accDen * mv)
  { s with bgt := { b with accNum := nd.1, accDen := nd.2 } }

/-- Take one request out of the queue. -/
def bgtTake (r : BgtReq) (s : State) : State := { s with bgt := { s.bgt with queue := s.bgt.queue.erase r } }

/-- Grant a request (R430 to R433). -/
def bgtGrant (r : BgtReq) (s : State) : State :=
  let s1 := bgtCharge r.mw (bgtTake r s)
  let s2 := { s1 with bgt := { s1.bgt with grants := s1.bgt.grants ++ [⟨r.kind, r.req, r.mw, s.st, r.dur, false⟩], granted := satInc 16 s1.bgt.granted } }
  let s3 := raise pBGT 0 (bgtLast 1 0 r s2)
  raiseIf (decide (r.kind = 2)) pBGT 5 s3

/-- Refuse a request (R432). -/
def bgtRefuse (reason : Nat) (r : BgtReq) (s : State) : State :=
  let s1 := bgtTake r s
  raise pBGT 2 (bgtLast 3 reason r { s1 with bgt := { s1.bgt with refused := satInc 16 s1.bgt.refused } })

/-- Queue a request at its first tick, or refuse it when 32 are queued (R432). -/
def bgtEnqueue (r : BgtReq) (s : State) : State :=
  let s1 := bgtTake r s
  raise pBGT 1 (bgtLast 2 0 r { s1 with bgt := { s1.bgt with queue := s1.bgt.queue ++ [{ r with queued := true }] } })

/-- An outcome a tick gives a requester. -/
structure BgtOut where
  kind : Nat
  req : Nat
  granted : Bool
  deriving DecidableEq, Repr

/-- Decide the due requests in order; once one cannot be granted, it holds back every request after it (R429 to R432). -/
def bgtDecide : List BgtReq → Bool → List BgtOut → State → List BgtOut × State
  | [], _, outs, s => (outs, s)
  | r :: t, held, outs, s =>
    match bgtBar s r with
    | some c => bgtDecide t held (outs ++ [⟨r.kind, r.req, false⟩]) (bgtRefuse c r s)
    | none =>
      if !held && bgtFits s r then bgtDecide t false (outs ++ [⟨r.kind, r.req, true⟩]) (bgtGrant r s)
      else if r.queued then bgtDecide t true outs s
      else if 32 ≤ bgtLevel s then bgtDecide t true (outs ++ [⟨r.kind, r.req, false⟩]) (bgtRefuse 2 r s)
      else bgtDecide t true outs (bgtEnqueue r s)

/-- The step account falls for every tick passed since it was last brought up to date, at a tick or before BGT_STEP changes (R431). -/
def bgtDecay (s : State) : State :=
  let b := s.bgt
  let n := s.st / bgtTickU - b.lastTick
  let num := b.accNum - n * bgtFall s * b.accDen
  { s with bgt := { b with accNum := num, accDen := if num = 0 then 1 else b.accDen, lastTick := s.st / bgtTickU } }

/-- The requests a tick decides: those that arrived at least 30 µs before it (R429). -/
def bgtDue (s : State) : List BgtReq := bgtSort (s.bgt.queue.filter (fun r => decide (r.arr + 30 * usU ≤ s.st)))

/-- One tick of the governor (R429): what it decided, and the state after. -/
def bgtRun (s : State) : List BgtOut × State :=
  let s1 := bgtDecay s
  bgtDecide (bgtDue s1) false [] s1

/-- The standing excitation grant in force, in mA (R433). -/
def bgtStanding (s : State) : Nat :=
  match s.bgt.grants.find? (fun g => decide (g.kind = 2)) with | some g => g.mw / 5 | none => 0

/-- OP RESERVE (R433): asks for BGT_EXC.MA × 5 V; ignored while the standing grant is held or asked for. -/
def bgtReserve (s : State) : State :=
  if bgtHas 2 0 s || bgtAsking 2 0 s then s else bgtAsk 2 0 (bgtExc_MA s * 5) none none s

/-- OP RELEASE (R433): ends the standing grant; BGT_EXC_HELD is raised at the change of HELD. A request not yet granted is withdrawn. -/
def bgtReleaseExc (s : State) : State :=
  raiseIf (bgtHas 2 0 s) pBGT 5 (bgtDrop 2 0 s)

/-- Count an EXC_ON of `na` units of 2^-12 nA at a schedule instant `t` (R433): whether it may execute. -/
def excAllow (t : Int) (na : Nat) (s : State) : Bool × State :=
  let b := if s.bgt.excAt = t then s.bgt else { s.bgt with excAt := t, excUa := 0, excDenied := false }
  if max 100 (bgtStanding s) * 4096000000 < b.excUa + na then
    if b.excDenied then (false, { s with bgt := b })
    else (false, raise pBGT 4 { s with bgt := { b with excDenied := true } })
  else (true, { s with bgt := { b with excUa := b.excUa + na } })

end Sys2Proof.Machine
end

