-- ==== Sys2Proof/Machine/Slice.lean ====
section
/-! DEFINITION. Sensor slices and mittens (spec chapters 4 and 5): slice sets and their checks, pulsed excitation, slots and
settling, decimator outputs, single-cycle conversions, pairs, autorange and overload. -/

namespace Sys2Proof.Machine

/-! ### Slice sets (R85, R86, R94) -/

/-- A slice's pending set as its registers hold it (R85). -/
def State.pendSet (s : State) (n : Nat) : SliceSet :=
  { cfg := s.rw (slCfgAt n), pairs := s.rw (slPairsAt n), slotCfg := (List.range 8).map (fun j => s.rw (slSlotCfgAt n j)),
    slotCtx := (List.range 8).map (fun j => s.rw (slSlotCtxAt n j)), exc := s.rw (excCfgAt n), alt := s.rw (excAltAt n),
    time := s.rw (excTimeAt n), maxw := s.rw (excMaxwAt n), drv := s.rw (vwDrvAt n), amp := s.rw (vwAmpAt n) }

/-- SL_STAT.PENDING. -/
def State.slicePending (s : State) (n : Nat) : Bool := decide (s.pendSet n ≠ (s.slice n).app)

def aEN (a : SliceSet) : Bool := bit a.cfg 0
def aPAIR (a : SliceSet) : Bool := bit a.cfg 1
def aAREN (a : SliceSet) : Bool := bit a.cfg 2
def aARMIN (a : SliceSet) : Nat := fld a.cfg 6 4
def aARMAX (a : SliceSet) : Nat := fld a.cfg 10 8
def aNSLOT (a : SliceSet) : Nat := fld a.cfg 14 12
def aAUTO (a : SliceSet) : Bool := bit a.cfg 16
def aDGLOW (a : SliceSet) : Nat := fld a.cfg 22 20
def scf (a : SliceSet) (j : Nat) : Word := a.slotCfg.getD j 0
def scIN (a : SliceSet) (j : Nat) : Nat := fld (scf a j) 2 0
def scGAIN (a : SliceSet) (j : Nat) : Nat := fld (scf a j) 6 4
def scREF (a : SliceSet) (j : Nat) : Nat := fld (scf a j) 9 8
def scCOMB (a : SliceSet) (j : Nat) : Nat := fld (scf a j) 11 10
def scSWAP (a : SliceSet) (j : Nat) : Bool := bit (scf a j) 12
def scALT (a : SliceSet) (j : Nat) : Bool := bit (scf a j) 13
def scSETTLE (a : SliceSet) (j : Nat) : Nat := fld (scf a j) 31 16
def eMODE (w : Word) : Nat := fld w 1 0
def eRANGE (w : Word) : Nat := fld w 3 2
def eLVL (w : Word) : Nat := fld w 15 4
def eP (w : Word) : Nat := fld w 18 16
def eN (w : Word) : Nat := fld w 22 20
def eALIGN (w : Word) : Bool := bit w 23
def eRET (w : Word) : Bool := bit w 24

/-- The excitation sets of a slice set that may claim pins: the main set, and the alternate set where a slot selects it (R94). -/
def excSets (a : SliceSet) : List Word := a.exc :: (if (setSlots a).any (fun j => scALT a j) then [a.alt] else [])

/-- The pins an excitation set claims (R94). -/
def excClaims (w : Word) : List Nat := if eMODE w ≠ 0 then [eP w, eN w] else if eRET w then [eN w] else []

/-- The pins of its own that a slice set claims, each once. -/
def setClaims (a : SliceSet) : List Nat := (((excSets a).flatMap excClaims).filter (fun p => decide (p < 6))).eraseDups

/-- The mitten pin each legacy source of a mitten set is steered to, `sw` telling whether they are swapped (R92, R93). -/
def srcPin (x : MittSet) (sw b : Bool) : Nat := fld (if b != sw then x.b else x.a) 12 8

/-- The mitten pins the legacy sources and the test converter of a mitten set claim (R94). -/
def mittClaims (x : MittSet) (sw : Bool) : List Nat :=
  (if bit x.a 16 then [srcPin x sw false] else []) ++ (if bit x.b 16 then [srcPin x sw true] else []) ++ (if bit x.t 24 then [fld x.t 20 16] else [])

/-- The set of slice `n` with `repl` in place of one slice's applied set. -/
def setWith (s : State) (repl : Option (Nat × SliceSet)) (n : Nat) : SliceSet :=
  match repl with | some (q, b) => if q = n then b else (s.slice n).app | none => (s.slice n).app

/-- Every claim in a mitten, by mitten pin index (R77), with one slice's set replaced where given. The odd member of a pair claims nothing: its
excitation is ignored (R99). -/
def allClaims (s : State) (m : Nat) (x : MittSet) (repl : Option (Nat × SliceSet)) : List Nat :=
  mittClaims x (s.mitt m).swapped ++ (List.range 4).flatMap (fun i =>
    let n := 4 * m + i
    if n % 2 = 1 ∧ bit (setWith s repl (n - 1)).cfg 1 then [] else (setClaims (setWith s repl n)).map (fun p => 6 * i + p))

/-- Whether a list holds a pin twice. -/
def hasDup : List Nat → Bool
  | [] => false
  | x :: t => decide (x ∈ t) || hasDup t

/-- A pin claimed twice once slice `n`'s set is applied (R86, R94). -/
def setConflict (s : State) (n : Nat) (a : SliceSet) : Bool := hasDup (allClaims s (n / 4) (s.mitt (n / 4)).app (some (n, a)))

/-- Whether a pair field names one pin twice or a pin that does not exist. -/
def pairBad (p n : Nat) : Bool := decide (p = n) || decide (6 ≤ p) || decide (6 ≤ n)

/-- A cause of R86 or R456 other than a double claim. Only slots 0 to NSLOT are looked at: the spec does not say whether a slot above NSLOT can
refuse an apply (DESIGN CHOICE, log entry 107). -/
def setBad (s : State) (n : Nat) (a : SliceSet) : Bool :=
  let slots := setSlots a
  pairBad (fld a.pairs 2 0) (fld a.pairs 6 4) || pairBad (fld a.pairs 10 8) (fld a.pairs 14 12) || pairBad (fld a.pairs 18 16) (fld a.pairs 22 20)
    || slots.any (fun j => decide (scIN a j = 3) || decide (scREF a j = 3) || decide (scCOMB a j = 3)
        || (decide (scCOMB a j ≠ 0) && (decide (j = 0) || decide (slotCtxOf a (j - 1) ≠ slotCtxOf a j)))
        || (aPAIR a && decide (n % 2 = 0) && decide (scGAIN a j ≤ aDGLOW a))
        || (aAREN a && (match slotCtxOf a j with | some c => !(dMODE (s.ctx c).desc) | none => false)))
    || hasDup ((slots.filter (fun j => decide (scCOMB a j = 0))).filterMap (slotCtxOf a))
    || (excSets a).any (fun w => (decide (eMODE w ≠ 0) && decide (eP w = eN w)) || (excClaims w).any (fun p => decide (6 ≤ p)))
    || (aAREN a && aPAIR a && decide (n % 2 = 0))

/-! ### Pulsed excitation (R87 to R91) -/

/-- The parameter set the slot in force selects. -/
def excSel (x : SliceSt) : Word := if scALT x.app x.slot then x.app.alt else x.app.exc

/-- The parameter set the generator drives while it is on (R88). -/
def excDrv (x : SliceSt) : Word := if x.exc.altOn then x.app.alt else x.app.exc

/-- The context of the slot in force. -/
def slotCtx (x : SliceSt) : Option Nat := slotCtxOf x.app x.slot

/-- EXC_SETTLE of a slice in modulator cycles. -/
def excSettle (x : SliceSt) : Nat := fld x.app.time 15 0



/-- Discard a running single-cycle conversion, to be restarted after `cyc` cycles from `t` for the same index (R148). -/
def scRestart (n t cyc : Nat) (s : State) : State :=
  let x := s.slice n
  match x.conv with
  | none => s
  | some (e, orig) =>
    let o := match orig, slotCtx x with
      | some q, _ => some q
      | none, some c => some (s.scInst (s.ctx c).desc n e)
      | none, none => none
    let s1 := s.setSlice n { x with conv := none, redo := o, waitEnd := some (t + cyc * modCyc * 2 ^ 16) }
    raise pFENG 7 { s1 with feng := { s1.feng with scRestart := satInc 32 s1.feng.scRestart } }

/-- Whether an applied EXC_ON is one of the exceptions of R144 for a PHOLD context. -/
def pholdException (s : State) (c : Nat) (x : SliceSt) (t : Nat) : Bool :=
  (s.ctx c).firstOn || x.exc.afterLock ||
    (match x.exc.offAt with | some o => decide (o + 4 * s.periodN (dGRID (s.ctx c).desc) * 2 ^ 16 < t) | none => false)

/-- What an applied excitation change does to the context of the slot in force (R88, R143, R144, R148). -/
def excSettles (n t : Nat) (isOn : Bool) (s : State) : State :=
  let x := s.slice n
  match slotCtx x with
  | none => s
  | some c =>
    let d := (s.ctx c).desc
    if dMODE d then (if x.conv.isSome && !(eALIGN x.app.exc) then scRestart n t (excSettle x) s else s)
    else if dPHOLD d then
      let s1 := if isOn && pholdException s c x t then settleEvent c t (excSettle x) false 0 s else s
      if isOn then s1.setCtx c { s1.ctx c with firstOn := false } else s1
    else settleEvent c t (excSettle x) false 0 s

/-- The generator's on-intervals with the last one closed at `t`. -/
def trkClose (t : Nat) : List (Nat × Option Nat) → List (Nat × Option Nat)
  | (a, none) :: r => (a, some t) :: r
  | l => l

/-- Switch the generator off at `t`. -/
def excOffAt (n t : Nat) (s : State) : State :=
  let x := s.slice n
  if x.exc.on then
    let e := { x.exc with on := false, offPend := false, pend := none, offAt := some t, trk := trkClose t x.exc.trk }
    excSettles n t false (s.setSlice n { x with exc := e })
  else s

/-- Switch the generator off and owe the cut-off's note to the context of the slot in force (R283, NOTE 4). -/
def excCut (n t cause : Nat) (s : State) : State :=
  let x := s.slice n
  if x.exc.on then
    let s1 := excOffAt n t s
    match slotCtx x with
    | some c => onRuns (fun _ => true) c (fun a => a.setCtx c { a.ctx c with cuts := (a.ctx c).cuts ++ [(t, cause)] }) s1
    | none => s1
  else s

/-- Apply an excitation change at `t` (R88, R89). -/
def excApply (n t : Nat) (chg : ExcChg) (s : State) : State :=
  let x := s.slice n
  match chg with
  | .on rev =>
    if x.exc.on then s
    else if eMODE (excSel x) = 0 then s.setSlice n { x with exc := { x.exc with pend := none } }
    else
      let e := { x.exc with on := true, reversed := rev, altOn := scALT x.app x.slot, onAt := t, segAt := t, offPend := false, pend := none, trk := (t, none) :: x.exc.trk.take 65535 }
      let s1 := excSettles n t true (s.setSlice n { x with exc := e })
      s1.setSlice n { s1.slice n with exc := { (s1.slice n).exc with afterLock := false, offAt := none } }
  | .off =>
    if !x.exc.on then s
    else if t < x.exc.onAt + 20 * usU then s.setSlice n { x with exc := { x.exc with offPend := true, pend := none } }
    else excOffAt n t s
  | .rev =>
    if !x.exc.on then s
    else excSettles n t false (s.setSlice n { x with exc := { x.exc with reversed := !x.exc.reversed, segAt := t, pend := none } })

/-- An excitation change asked for at `t`: at once with ALIGN 0, else at the next conversion boundary (R88). -/
def excAsk (n t : Nat) (chg : ExcChg) (s : State) : State :=
  let x := s.slice n
  if eALIGN x.app.exc then s.setSlice n { x with exc := { x.exc with pend := some chg, pendAt := t } } else excApply n t chg s

/-- The current a set counts for R433, in units of 2^-12 nA: 25 mA in voltage mode, its programmed current in current mode (R87). -/
def excCurrent (w : Word) : Nat :=
  if eMODE w = 1 then 25000000 * 4096
  else if eMODE w = 2 then ((if eRANGE w = 0 then max 1638 (eLVL w) else eLVL w) + 1) * (2500 * 10 ^ eRANGE w)
  else 0

/-- Raise SL_EXC_BLOCKED (R90, R433). -/
def excBlocked (n : Nat) (s : State) : State := raise (pSLICE n) 2 s

/-- Whether a slice has no excitation of its own to switch: it is off, or the odd member of a pair (R78, R99). -/
def State.noExc (s : State) (n : Nat) : Bool := s.sliceOff n || decide (s.pairEven n ≠ n)

/-- An EXC_ON at instant `t` (R88, R90, R433). -/
def excOn (n t : Nat) (rev : Bool) (s : State) : State :=
  let x := s.slice n
  if s.noExc n ∨ eMODE (excSel x) = 0 then s
  else if x.exc.lockout then excBlocked n s
  else if x.exc.on then s
  else
    let r := excAllow (t : Int) (excCurrent (excSel x)) s
    if r.1 then excAsk n t (.on rev) r.2 else excBlocked n r.2

/-- An EXC_OFF at instant `t` (R88, R91). -/
def excOffEntry (n t : Nat) (s : State) : State :=
  if s.noExc n then s else if (s.slice n).exc.on then excAsk n t .off s else s

/-- An EXC_REV at instant `t` (R88, R90). -/
def excRev (n t : Nat) (s : State) : State :=
  if s.noExc n then s
  else if (s.slice n).exc.lockout then excBlocked n s
  else if (s.slice n).exc.on then excAsk n t .rev s
  else s

/-- Switch a slice's excitation off and lock it out (R90, R409). -/
def excSafety (n t : Nat) (s : State) : State :=
  let s1 := excCut n t 3 s
  s1.setSlice n { s1.slice n with exc := { (s1.slice n).exc with lockout := true, pend := none, offPend := false } }

/-! ### What a slice's pins carry (R78, R87, R92, R95, R99) -/

/-- One volt, in units of 1/16 pV. -/
def voltU : Nat := 16 * 10 ^ 12

/-- What drives a pin: nothing, a voltage (1/16 pV), a current out of the pin (2^-12 nA), the 1.0 V hold of a return, the vibrating-wire driver at
an amplitude of k / 255 of its supply, or the test converter through 10 kΩ (1/16 pV). -/
inductive PinDrive where
  | hiZ
  | volts (v : Int)
  | amps (i : Nat)
  | ret
  | wire (k : Nat)
  | sweep (k mhz : Nat)
  | tdac (v : Int)
  deriving DecidableEq, Repr

/-- The voltage of a set in voltage mode, in units of 1/16 pV (R87): (LVL + 1) × 5 V / 4 096, LVL below 204 acting as 204. -/
def excVolts (w : Word) : Nat := (max 204 (eLVL w) + 1) * (5 * voltU / 4096)

/-- What the generator drives onto a pin of its slice, with set `w` on (R87, R88): a reversal swaps the driven levels. -/
def excDrive (x : SliceSt) (w : Word) (p : Nat) : PinDrive :=
  let up := if x.exc.reversed then eN w else eP w
  let dn := if x.exc.reversed then eP w else eN w
  if p ≠ up ∧ p ≠ dn then .hiZ
  else if eMODE w = 1 then .volts ((5 * voltU / 2 : Nat) + (if p = up then (excVolts w : Int) / 2 else -((excVolts w : Int) / 2)))
  else if eMODE w = 2 then (if p = up then .amps (excCurrent w) else .ret)
  else .wire (fld x.app.amp 7 0)

/-- The current of a legacy source, in units of 2^-12 nA (R92): LVL × 10 µA, LVL above 150 acting as 150; 0 is off. -/
def srcCurrent (w : Word) : Nat := if bit w 16 then min 150 (fld w 7 0) * 10000 * 4096 else 0

/-- The code of a mitten's test converter (R95): the applied CODE; while a skew measurement has taken the mitten, 0 and then its steps between
+16 384 and −16 384, in each of the two phases (R170). -/
def tdacCode (s : State) (m : Nat) : Int :=
  if s.taken (4 * m) then
    let ns := ((s.align.endAt - s.align.takeAt) / msU - 2) / 2
    let i := (s.st - s.align.takeAt + msU / 2) / msU - 1
    let j := if i ≤ ns then i else if i = ns + 1 then ns else i - (ns + 1)
    if s.st < s.align.takeAt + msU + msU / 2 then 0 else if j % 2 = 1 then 16384 else -16384
  else sfld (s.mitt m).app.t 15 0

/-- The voltage of a test converter, in units of 1/16 pV (R95): CODE × 2.5 V / 32 768. -/
def tdacVolts (s : State) (m : Nat) : Int := tdacCode s m * ((5 * voltU / 2 / 32768 : Nat) : Int)

/-- A vibrating-wire sequence drives the pins of slice `n`: the instant its drive began (R196). -/
def State.vwDrive (s : State) (n : Nat) : Option Nat :=
  (List.range 16).findSome? (fun c => match (s.tch c).vw with | some v => if v.slice = n ∧ v.phase = 1 then some v.at_ else none | none => none)

/-- The drive of a sequence that began at `t` (R196): its amplitude in 1/255 of VDD_EXC and its frequency in mHz, which runs from F_START to F_STOP over
DUR ms; a single pulse has F_START's half period. -/
def vwSweep (s : State) (x : SliceSt) (t : Nat) : PinDrive :=
  let f : Int := fld x.app.drv 12 0
  let g : Int := fld x.app.drv 28 16
  let len := fld x.app.amp 27 16 * msU
  .sweep (fld x.app.amp 7 0) (f * 1000 + (if bit x.app.amp 8 then 0 else (g - f) * 1000 * (min len (s.st - t) : Nat) / (max 1 len : Nat))).toNat

/-- What drives pin `p` of slice `n`: a legacy source or the test converter steered to it, else the slice's generator or its return hold while the
slice is on; the pins of a pair's odd member are high impedance but for the mitten's claims (R78, R87, R92, R95, R99). -/
def State.slicePin (s : State) (n p : Nat) : PinDrive :=
  let m := n / 4
  let y := s.mitt m
  let q := 6 * (n % 4) + p
  let x := s.slice n
  let on (w : Word) (b : Bool) : Bool := decide (srcCurrent w ≠ 0) && decide (srcPin y.app y.swapped b = q)
  if (s.dom (1 + m)).st = 4 then .hiZ
  else if on y.app.a false then .amps (srcCurrent y.app.a)
  else if on y.app.b true then .amps (srcCurrent y.app.b)
  else if bit y.app.t 24 && decide (fld y.app.t 20 16 = q) then .tdac (tdacVolts s m)
  else if s.noExc n then .hiZ
  else if (s.vwDrive n).isSome ∧ (p = eP x.app.exc ∨ p = eN x.app.exc) then vwSweep s x ((s.vwDrive n).getD 0)
  else if x.exc.on then excDrive x (excDrv x) p
  else if eMODE (excSel x) = 0 ∧ eRET (excSel x) ∧ p = eN (excSel x) ∧ (srcCurrent y.app.a ≠ 0 ∨ srcCurrent y.app.b ≠ 0) then .ret
  else .hiZ

/-! ### Slots (R82 to R84, R93) -/

/-- The gain code a slot converts at: its GAIN, its autorange code, or the low gain of a pair's odd member (R99, R104); gain 1 while a skew
measurement has taken the slice (R170). -/
def gainOf (s : State) (n : Nat) : Nat :=
  let e := s.pairEven n
  let x := s.slice e
  if s.taken n then 0
  else if e ≠ n then aDGLOW x.app
  else if aAREN x.app then max (aARMIN x.app) (min (aARMAX x.app) ((tget keep0 x.keep x.slot).ar.getD (aARMAX x.app)))
  else scGAIN x.app x.slot

/-- Whether two slots differ in input, gain, reference or excitation set (R84). -/
def slotsDiffer (a : SliceSet) (i j : Nat) : Bool :=
  decide (scIN a i ≠ scIN a j) || decide (scGAIN a i ≠ scGAIN a j) || decide (scREF a i ≠ scREF a j) || (scALT a i != scALT a j)

/-- Exchange the pins of a mitten's legacy sources (R93). -/
def mittSwap (m : Nat) (s : State) : State := s.setMitt m { s.mitt m with swapped := !(s.mitt m).swapped }

/-- The change of excitation set at a slot start while the generator is on (R88, R91). -/
def slotExc (n j t : Nat) (s : State) : State :=
  let x := s.slice n
  if x.exc.on ∧ (scALT x.app j) ≠ x.exc.altOn then
    if eMODE (if scALT x.app j then x.app.alt else x.app.exc) = 0 then excOffAt n t s
    else excSettles n t false (s.setSlice n { x with exc := { x.exc with altOn := scALT x.app j, segAt := t } })
  else s

/-- The least wait of a slot start: 33 cycles with autorange, whose codes apply at slot starts (R104). Every start of such a slice's slots waits
so, whether or not the code has changed (DESIGN CHOICE, log entry 108). -/
def arLeast (a : SliceSet) : Nat := if aAREN a then 33 else 0

/-- Count a discarded single-cycle conversion (R148). -/
def scDiscard (s : State) : State := raise pFENG 7 { s with feng := { s.feng with scRestart := satInc 32 s.feng.scRestart } }

/-- The end of the SETTLE wait of slot `j` started at `t`, an overload's lengthening apart (R83, R104). -/
def slotWait (a : SliceSet) (j t : Nat) : Nat := t + max (arLeast a) (scSETTLE a j) * modCyc * 2 ^ 16

/-- The recalibration of a slice has its input switches open: from t0 to step 7 (R117, R119). -/
def State.calibrating (s : State) (n : Nat) : Bool := (s.cal n).running && (s.cal n).verdict.isNone

/-- Start slot `j` at `t` (R83, R84, R104). In single-cycle mode a wait that an overload lengthens discards the conversion that would have begun
after the plain wait: the later one keeps its index (R84, R148). -/
def startSlot (n j t : Nat) (diff : Bool) (s : State) : State :=
  let x := s.slice n
  let ovl := x.slotOvl
  let same := decide (slotCtxOf x.app x.slot = slotCtxOf x.app j)
  let s1 := if x.conv.isSome then scRestart n t 0 s else s
  let x1 := s1.slice n
  let plain := slotWait x.app j t
  let redo := if same then x1.redo else none
  let shifted : Option Int := match slotCtxOf x.app j with
    | some c => if ovl && dMODE (s.ctx c).desc then some (redo.getD (s.scInst (s.ctx c).desc n (edgeAt plain))) else none
    | none => none
  let s2 := s1.setSlice n { x1 with slot := j, redo := shifted.orElse (fun _ => redo), slotDiff := diff, slotOvl := x1.ovlNow || decide (t < x1.ovlEnd), waitEnd := some (plain + (if ovl then 132 else 0) * modCyc * 2 ^ 16) }
  let s3 := if shifted.isSome then scDiscard s2 else s2
  let s4 := slotExc n j t s3
  if scSWAP x.app j then mittSwap (n / 4) s4 else s4

/-- A MUX_STEP to slot `j` at `t` (R83): a start of the slot in force changes nothing, and a pair's odd member has no slots of its own (R99). A
recalibrating slice only records the slot (R119), also while it is off until that recalibration has succeeded (R113). -/
def muxStep (n j t : Nat) (s : State) : State :=
  let x := s.slice n
  if s.pairEven n ≠ n ∨ j = x.slot then s
  else if s.calibrating n then s.setSlice n { x with slot := j, slotDiff := true }
  else if s.sliceOff n && !(s.cal n).running then s
  else startSlot n j t (slotsDiffer x.app x.slot j) s

/-- The slot after `j`, wrapping at NSLOT. -/
def nextSlot (a : SliceSet) (j : Nat) : Nat := if aNSLOT a ≤ j then 0 else j + 1

/-! ### Applying a slice set (R85, R88, R103, R140) -/

/-- The nominal ratio of a pair's slot in units of 2^-40 (R103). -/
def nominalRatio (a : SliceSet) (j : Nat) : Nat := 2 ^ (40 + scGAIN a j - aDGLOW a)

/-- The slots' keeps after an apply: ratios loaded where the pair is formed or a gain changes, autorange codes where AR_EN rises. -/
def applyKeeps (old new : SliceSet) (k : Tbl SlotKeep) : Tbl SlotKeep :=
  (List.range 8).foldl (fun t j =>
    let q := tget keep0 t j
    let load := aPAIR new && (!(aPAIR old) || decide (scGAIN old j ≠ scGAIN new j) || decide (aDGLOW old ≠ aDGLOW new))
    let q1 := if load then { q with ratio := nominalRatio new j, ratioCnt := 0 } else q
    let q2 := if aAREN new && !(aAREN old) then { q1 with ar := none } else q1
    tset keep0 t j q2) k

/-- Whether an apply changes the input, gain, reference or excitation set of the slot in force (R140). -/
def slotChanged (old new : SliceSet) (j : Nat) : Bool :=
  decide (scf old j % 2 ^ 14 ≠ scf new j % 2 ^ 14) || decide (old.pairs ≠ new.pairs)

/-- Whether an apply changes the set the generator drives (R88). -/
def excChanged (old new : Word) : Bool := decide (old % 2 ^ 23 ≠ new % 2 ^ 23) || (eRET old != eRET new)

/-- Make set `a` the applied set of slice `n` at `t`. -/
def applySet (n t : Nat) (a : SliceSet) (s : State) : State :=
  let x := s.slice n
  let old := x.app
  let rise := aEN a && !(aEN old)
  let fall := aEN old && !(aEN a)
  let s0 := if fall then excOffAt n t s else s
  let x0 := s0.slice n
  let changed := slotChanged old a x.slot && aEN old && aEN a
  let single := match slotCtxOf a x.slot with | some c => dMODE (s.ctx c).desc | none => false
  let s1 := if changed && x0.conv.isSome then scRestart n t (scSETTLE a x.slot) s0 else s0
  let x1 := s1.slice n
  let e1 := if fall then { x1.exc with pend := none, offPend := false } else x1.exc
  let s2 := s1.setSlice n { x1 with app := a, exc := e1, applyAt := none, applyRej := false, keep := applyKeeps old a x1.keep, conv := if fall then none else x1.conv, waitEnd := if fall then none else if rise then some (t + scSETTLE a x1.slot * modCyc * 2 ^ 16) else x1.waitEnd, slotDiff := x1.slotDiff || rise, redo := if fall then none else x1.redo }
  let drvOld := if x.exc.altOn then old.alt else old.exc
  let drvNew := if x.exc.altOn then a.alt else a.exc
  let s3 := if (s2.slice n).exc.on && excChanged drvOld drvNew then
      if eMODE drvNew = 0 then excOffAt n t s2
      else excSettles n t false (s2.setSlice n { s2.slice n with exc := { (s2.slice n).exc with segAt := t } })
    else s2
  match slotCtxOf a x.slot with
  | some c => if changed && !single then settleEvent c t 0 false 0 s3 else s3
  | none => s3

/-- Apply a slice's pending set at `t`, or refuse it with its events (R86). -/
def applySlice (n t : Nat) (s : State) : State :=
  let a := s.pendSet n
  let conf := setConflict s n a
  let bad := setBad s n a
  if conf || bad then
    let s1 := s.setSlice n { s.slice n with applyRej := true, applyAt := none }
    raiseIf bad (pSLICE n) 6 (raiseIf conf (pMITT (n / 4)) 0 s1)
  else applySet n t a s

/-- The slices a commit of context `c` applies: those whose pending or applied slots name it (R85). -/
def State.slicesNaming (s : State) (c : Nat) : List Nat :=
  (List.range 64).filter (fun n => decide (c ∈ setCtxs (s.pendSet n)) || decide (c ∈ setCtxs (s.slice n).app))

/-- Apply the pending sets that a commit's safe point applies; a recalibrating slice's waits for step 7 (R85, R121). -/
def applyFor (c t : Nat) (s : State) : State :=
  (s.slicesNaming c).foldl (fun a n =>
    if a.slicePending n then
      if a.calibrating n then a.setSlice n { a.slice n with applyAt := some ((a.slice n).applyAt.getD t) } else applySlice n t a
    else a) s

/-! ### Mittens (R85, R86, R93, R94) -/

/-- A mitten's pending set as its registers hold it. -/
def State.mittPend (s : State) (m : Nat) : MittSet := { a := s.rw (mtSrcAAt m), b := s.rw (mtSrcBAt m), t := s.rw (mtTdacAt m) }

/-- Apply a mitten's pending set, or refuse it (R85, R86). -/
def applyMitt (m : Nat) (s : State) : State :=
  let p := s.mittPend m
  let badPin := decide (24 ≤ fld p.a 12 8) || decide (24 ≤ fld p.b 12 8) || decide (24 ≤ fld p.t 20 16)
  if badPin || hasDup (allClaims s m p none) then raise (pMITT m) 0 (s.setMitt m { s.mitt m with waitApply := false })
  else raise (pMITT m) 2 (s.setMitt m { s.mitt m with app := p, waitApply := false, aCompl := false, bCompl := false })

/-! ### Trim (R109, R110) -/

/-- The OTP conversion record of a slice at a gain code: OFS, GDEV, LIN2, LIN3; nominal under OTP_OVR (R111). -/
def State.trimOf (s : State) (n g : Nat) : Int × Int × Int × Int :=
  if s.otpOvr n then (0, 0, 0, 0)
  else
    let b := 0x640 + 0x10 * (8 * n + g)
    let w2 := s.otpWord (b + 8)
    (sfld (s.otpWord b) 23 0, sfld (s.otpWord (b + 4)) 23 0, sfld w2 31 16, sfld w2 15 0)

/-- The correction of R110, rounded half away from zero and clamped to ±(2^23 − 1). -/
def trimCode (r : Int × Int × Int × Int) (x : Int) : Int :=
  let u := (x - r.1) * (2 ^ 30 + r.2.1)
  clampI (-(2 ^ 23 - 1)) (2 ^ 23 - 1) (rdivAway (u * 2 ^ 130 + r.2.2.1 * u ^ 2 * 2 ^ 53 + r.2.2.2 * u ^ 3) (2 ^ 160))

/-- A raw conversion result of slice `n` at gain code `g` corrected; a clamped one stays clamped (R97, R110). -/
def correctAt (s : State) (n g : Nat) (x : Int) (clamped : Bool) : Int :=
  if clamped then (if x < 0 then -(2 ^ 23 - 1) else 2 ^ 23 - 1) else trimCode (s.trimOf n g) x

/-- A raw conversion result corrected at the gain in force. -/
def correct (s : State) (n : Nat) (x : Int) (clamped : Bool) : Int := correctAt s n (gainOf s n) x clamped

/-! ### The conversion (R79, R82, R105, R108, R147) -/

/-- The voltage at the amplifier's input (R82): the selected pair's, or an internal node's with what the path adds to it. A slice that a skew
measurement has taken converts the test converter (R170). -/
def inputVolts (s : State) (n : Nat) (vin : Int) : Int :=
  let x := s.slice (s.pairEven n)
  let i := if s.taken n then 6 else scIN x.app x.slot
  if i = 5 then (5 * voltU / 4 : Nat) + vin
  else if i = 6 then tdacVolts s (n / 4) + vin
  else vin

/-- The result of R79 for a gain `g`, an input and a reference voltage: unclamped, but a reference of 0 V gives the clamp with the input's sign. -/
def convFormula (g : Nat) (vin : Int) (vref : Option Int) : Int :=
  match vref with
  | none => rdivAway ((g : Int) * vin * 2 ^ 24) (5 * voltU)
  | some r =>
    if r = 0 then (if vin = 0 then 0 else if vin < 0 then -(2 ^ 23) else 2 ^ 23)
    else if r < 0 then rdivAway (-((g : Int) * vin * 2 ^ 24)) r.natAbs
    else rdivAway ((g : Int) * vin * 2 ^ 24) r.natAbs

/-- The sums of `k` consecutive values of a list. -/
def runSums (k : Nat) (xs : List Int) : List Int := (List.range (xs.length + 1 - k)).map (fun i => ((xs.drop i).take k).sum)

/-- `ord` running sums of length `k` in turn: the sinc decimator's window of ord × (k − 1) + 1 samples leaves one value (R108, R147). -/
def sincSum (k : Nat) : Nat → List Int → List Int
  | 0, xs => xs
  | o + 1, xs => sincSum k o (runSums k xs)

/-- What a conversion is made from: the levels, or where one is given a steady input. -/
def convSrc (levels : List (Fin 5)) : Option VoltIn → ConvSrc
  | some v => .volts v.vin v.vref
  | none => .samples levels

/-- A sinc result scaled so that full scale gives 2^23, rounded half away from zero. The mean level of a full-scale input is open (DESIGN
CHOICE, log entry 6). -/
def sincCode (ord k : Nat) (levels : List (Fin 5)) : Int :=
  let w := ((levels.map (fun (l : Fin 5) => (l.val : Int) - 2)) ++ List.replicate (ord * (k - 1) + 1) 0).take (ord * (k - 1) + 1)
  rdivAway ((sincSum k ord w).headD 0 * 2 ^ 47) (k ^ ord * (Config.modFull + 1))

/-- A conversion of slice `n` by a sinc of order `ord` and sub-decimation `k`: its code clamped to ±(2^23 − 1), and whether it clamped (R79, R97). -/
def convCode (s : State) (n ord k : Nat) (src : ConvSrc) : Int × Bool :=
  let x := s.slice (s.pairEven n)
  let r := if s.taken n then 0 else scREF x.app x.slot
  let y := match src with
    | .samples ls => sincCode ord k ls
    | .volts vin vref => convFormula (2 ^ gainOf s n) (inputVolts s n vin) (if r = 0 then none else some vref)
  let z := clampI (-(2 ^ 23 - 1)) (2 ^ 23 - 1) y
  (z, decide (y ≠ z))

/-! ### Decimator outputs (R98, R99, R108, R120, R152) -/

/-- Whether a window that began at `w` (2^-48 ns) overlaps the comparator's time, extended by 40 µs (R98). -/
def overlapsOvl (x : SliceSt) (w : Nat) : Bool := x.ovlNow || decide (w < x.ovlEnd)

/-- The fast tap's next value (R152): repeated with stale set during a recalibration. -/
def tapNext (x : TapSt) (y : Int) (clamped ovl stale : Bool) : TapSt :=
  if stale then { x with stale := true, seq := x.seq + 1 } else { v := y, clamped := clamped, ovl := ovl, stale := false, seq := x.seq + 1 }

/-- Whether a slot's conversions only feed the combining slot after it (R81). -/
def feedsNext (a : SliceSet) (j : Nat) : Bool := decide (j + 1 ≤ aNSLOT a) && decide (scCOMB a (j + 1) ≠ 0)

/-- Pass a decimator output to the contexts a slice's slots name: the slot in force's context takes it, or its held value during a
recalibration; the others hold theirs, as does the context of a slot whose conversions are not delivered on their own (R81). -/
def feedContexts (n j : Nat) (y : Int) (marks : Nat) (held : Bool) (s : State) : State :=
  let e := s.pairEven n
  let x := s.slice e
  let low := decide (e ≠ n)
  let own := if feedsNext x.app x.slot then none else slotCtxOf x.app x.slot
  (setCtxs x.app).eraseDups.foldl (fun a c =>
    onRuns (fun d => decide (dKIND d = 0)) c (fun b =>
      if some c = own then
        if held then pushHeld c low j 8 b else pushInput c low { v := y * 256, j := j, marks := marks, fi := 0, fx := 0 } b
      else pushHeld c low j 0 b) a) s

/-- The slot's conversion record for COMBINE, and combining in FIR mode (R81): every decimator output is a conversion of its slot. -/
def combine (comb : Nat) (prev this : Int) : Int :=
  if comb = 1 then rdivAway (prev + this) 2 else clampI (-(2 ^ 23 - 1)) (2 ^ 23 - 1) (prev - this)

/-- Decimator output `j` of slice `n` with its code (R108 to R110): trimmed, marked and passed on. The fast tap takes the slice's own output (R152). -/
def decOutput (n j : Nat) (raw : Int) (clamped : Bool) (s : State) : State :=
  let x := s.slice n
  let e := s.pairEven n
  let dd := s.sliceDec n
  let endT := j * dd * modCyc * 2 ^ 16
  let begin_ := endT - 5 * (dd - 1) * modCyc * 2 ^ 16
  let run := (s.cal n).running
  let staleW := run || decide (begin_ < (s.cal n).t1)
  let ovl := overlapsOvl x begin_
  let y0 := correct s n raw clamped
  let sl := (s.slice e).slot
  let comb := scCOMB (s.slice e).app sl
  let prev := tget keep0 x.keep (sl - 1)
  let y := if comb = 0 then y0 else combine comb prev.conv y0
  let m0 := (if clamped then 2 else 0) + (if ovl then 4 else 0) + (if 7864320 ≤ y.natAbs then 64 else 0) + (if staleW then 8 else 0)
  let marks := if comb = 0 then m0 else m0 ||| prev.tags
  let k := tget keep0 x.keep sl
  let x1 := { x with tap := tapNext x.tap y0 clamped ovl run, keep := tset keep0 x.keep sl { k with conv := if run then k.conv else y0, tags := m0, clamped := clamped }, slotOvl := x.slotOvl || ovl }
  feedContexts n j y marks run (s.setSlice n x1)

/-! ### Single-cycle conversions (R81, R104, R147, R168) -/

/-- The autorange code after a conversion (R104). -/
def arNext (a : SliceSet) (code : Nat) (y : Int) (fired : Bool) : Nat :=
  if (7864320 ≤ y.natAbs ∨ fired) ∧ aARMIN a < code then code - 1
  else if y.natAbs < 3670016 ∧ !fired ∧ code < aARMAX a then code + 1
  else code

/-- Deliver a value of a slot to its context's waiting conversions (R169). -/
def scDeliver (c : Nat) (x : ScConv) (s : State) : State :=
  onRuns (fun _ => true) c (fun a => a.setCtx c { a.ctx c with sc := (a.ctx c).sc ++ [x] }) s

/-- The next conversion after one that ended (R83): the next slot with AUTO_ADV, else back to back. A changed autorange code starts the slot
again (R104). -/
def scNext (n e kc : Nat) (arDiff : Bool) (s : State) : State :=
  let x := s.slice n
  let endE := e + (4 * (kc - 1) + 1) * modCyc
  if aAUTO x.app ∧ 0 < aNSLOT x.app then startSlot n (nextSlot x.app x.slot) s.st true s
  else if arDiff then s.setSlice n { x with waitEnd := some (s.st + max (arLeast x.app) (scSETTLE x.app x.slot) * modCyc * 2 ^ 16) }
  else s.setSlice n { x with conv := some (endE, none), fired := x.ovlNow }

/-- The single-cycle conversion of slice `n` ends (R147). -/
def scDone (n : Nat) (src : ConvSrc) (s : State) : State :=
  let x := s.slice n
  match x.conv, slotCtx x with
  | some (e, orig), some c =>
    let d := (s.ctx c).desc
    let kc := max 2 (dSCK d)
    let last := (e + 4 * (kc - 1) * modCyc) * 2 ^ 16
    if s.st < last ∨ s.sliceOff n then s
    else
      let run := (s.cal n).running
      let stale := run || decide (e * 2 ^ 16 < (s.cal n).t1)
      let ovl := overlapsOvl x (e * 2 ^ 16)
      let code := gainOf s n
      let raw := convCode s n 4 kc src
      let clamped := raw.2
      let y0 := correct s n raw.1 clamped
      let k := tget keep0 x.keep x.slot
      let nc := arNext x.app code y0 x.fired
      let y1 := if aAREN x.app then rshAway y0 (code - aARMIN x.app) else y0
      let inst := s.scInst d n e
      let tags := (if clamped then 2 else 0) + (if ovl ∧ !clamped then 4 else 0) + (if stale then 8 else 0)
      let comb := scCOMB x.app x.slot
      let prev := tget keep0 x.keep (x.slot - 1)
      let yv := if comb = 0 then y1 else combine comb prev.conv y1
      let iv : Int := if comb = 0 then inst else (prev.inst + inst) / 2
      let tg := if comb = 0 then tags else tags ||| prev.tags
      let k1 := { k with conv := y1, inst := inst, tags := tags, clamped := clamped, ar := if aAREN x.app then some nc else k.ar }
      let s1 := s.setSlice n { x with keep := tset keep0 x.keep x.slot k1, conv := none, slotOvl := x.slotOvl || ovl, redo := none }
      let s2 := raiseIf (aAREN x.app && decide (nc ≠ code)) (pSLICE n) 5 s1
      let s3 := if feedsNext x.app x.slot then s2 else scDeliver c { c := iv, orig := orig.getD iv, v := yv, tags := tg, restarted := orig.isSome, failed := false } s2
      scNext n e kc (aAREN x.app && decide (nc ≠ code)) s3
  | _, _ => s

/-- The SETTLE wait of the slot in force ends (R83, R84, R140): a conversion begins, or the settling event falls. -/
def settleEnd (n : Nat) (s : State) : State :=
  let x := s.slice n
  match x.waitEnd with
  | none => s
  | some w =>
    if s.st < w then s
    else
      let s1 := s.setSlice n { x with waitEnd := none }
      match slotCtx x with
      | none => s1
      | some c =>
        if dMODE (s.ctx c).desc then s1.setSlice n { s1.slice n with conv := some (edgeAt w, x.redo), fired := x.ovlNow }
        else if x.slotDiff then settleEvent c w 0 false 0 s1
        else s1

/-! ### Overload (R97, R98) -/

/-- The overload comparator fires. -/
def ovlRise (n : Nat) (s : State) : State :=
  let x := s.slice n
  if s.sliceOff n ∨ x.ovlNow then s
  else raise (pSLICE n) 0 (s.setSlice n { x with ovlNow := true, fired := true, slotOvl := true, ovlCnt := satInc 32 x.ovlCnt })

/-- The overload comparator stops firing: its 40 µs extension begins. -/
def ovlFall (n : Nat) (s : State) : State :=
  let x := s.slice n
  if x.ovlNow then s.setSlice n { x with ovlNow := false, ovlEnd := s.st + 40 * usU } else s

/-- What a page reset of a slice leaves: its state and its applied set at reset values, the generator off (R30). -/
def sliceReset (n : Nat) (s : State) : State :=
  let s1 := excOffAt n s.st s
  s1.setSlice n {}

end Sys2Proof.Machine
end

