-- ==== Sys2Proof/Machine/Commit.lean ====
section
/-! DEFINITION. Context commits (R34 to R37, R126 to R129, R137 to R139, R154 to R161): judging, taking effect whole, the completion
queue; and the start of contexts with their grid. -/

namespace Sys2Proof.Machine

/-- A context's shadow descriptor in the table region (R32). -/
def State.shadow (s : State) (c : Nat) : List Word := s.tblWs (c * 0x80) 32

/-- The bits of a descriptor word that hold structural fields (R126, R275). -/
def structMask (i : Nat) : Word :=
  if i = 0 then 0xFFFF3FF6 else if i = 1 then 0x00F3FF77 else if i = 2 then 0x0000001F else if i = 3 then 0x0007FFFF
  else if i = 4 then 0x00000007 else if i = 8 then 0x007F0000 else if i = 9 then 0x007F0000 else 0

/-- Whether two descriptors differ in a structural field. -/
def structDiff (a b : List Word) : Bool :=
  (List.range 10).any (fun i => decide ((a.getD i 0) &&& structMask i ≠ (b.getD i 0) &&& structMask i))

/-- Whether a descriptor has a stage chain. -/
def hasChain (d : List Word) : Bool := !(dMODE d) && decide (dKIND d ≠ 2) && decide (dKIND d ≠ 3)

/-- A refused encoding, or another cause of reason FIELD that the descriptor of context `c` itself shows (R128, R226, R275). -/
def fieldBad (s : State) (c : Nat) (d : List Word) : Bool :=
  let nhb := fld (d.getD 1 0) 6 4
  decide (6 ≤ dKIND d) || decide (6 ≤ dDEC d) || decide (5 ≤ nhb) || (List.range nhb).any (fun i => decide (dHB d i = 3))
    || decide (dRANKW d ≤ dRANKR d) || (dRANKEN d && (decide (dRANKW d < 3) || decide (dRANKW d % 2 = 0)))
    || (dPHOLD d && dMODE d) || decide (dDET d = 7) || (decide (dKIND d = 2) && (decide (dDET d = 0) || decide (dSOURCE d % 1024 = c) || decide (dKIND (s.ctx (dSOURCE d % 1024)).desc = 2)))
    || (dBRIMEN d && decide (dBRIMHI d < dBRIMLO d)) || (dSTREN d && dSTR2EN d && decide (dSTREAM d = dSTREAM2 d))

/-- Whether a commit of context `c` to descriptor `d` would exceed the shares of R16: 192 local inputs, remote channels 0 to 767, 64 derived
channels, counted over committed EN 1. The spec gives such a commit no refusal reason; it is rejected with FIELD (DESIGN CHOICE, log
entry 104). -/
def shareBad (s : State) (c : Nat) (d : List Word) : Bool :=
  let others (p : Nat → Bool) : Nat := (s.enabled.filter (fun x => decide (x ≠ c) && p (dKIND (s.ctx x).desc))).length
  if dKIND d = 0 then decide (192 ≤ others (fun k => decide (k = 0)))
  else if dKIND d = 1 then decide (768 ≤ dSOURCE d)
  else decide (64 ≤ others (fun k => decide (2 ≤ k)))

/-- Whether the members of a stream would break R276 with context `c` under descriptor `d`. -/
def streamBad (s : State) (c : Nat) (d : List Word) (n : Nat) : Bool :=
  let others := (s.members n).filter (fun x => decide (x ≠ c))
  others.any (fun x => decide (dGRID (s.ctx x).desc ≠ dGRID d) || dCCEN (s.ctx x).desc)
    || (dCCEN d && decide (others ≠ [])) || (decide (64 ≤ others.length) && !((s.cmp n).cfg.en))

/-- Reason FIELD by the streams a descriptor names (R276). -/
def streamsBad (s : State) (c : Nat) (d : List Word) : Bool :=
  (dSTREN d && streamBad s c d (dSTREAM d)) || (dSTR2EN d && streamBad s c d (dSTREAM2 d))

/-- The slice set a commit of context `c` will leave applied (R85): the pending set where it is applied, else the applied set. -/
def setAfter (s : State) (n : Nat) : SliceSet :=
  let p := s.pendSet n
  if s.slicePending n && !(setConflict s n p) && !(setBad s n p) then p else (s.slice n).app

/-- Whether a slice's own slots count once the commit has taken effect: not those of a pair's odd member, which with its even slice counts
as one slice (R99, R107). -/
def ownSlots (s : State) (n : Nat) : Bool := !(decide (n % 2 = 1) && aPAIR (setAfter s (n - 1)))

/-- Whether the contexts with EN 1 that a slice set names would differ in mode, or in FIR mode in D, with context `c` under `d` (R107). -/
def setMixed (s : State) (c : Nat) (d : List Word) (a : SliceSet) : Bool :=
  let ds := (setCtxs a).eraseDups.filterMap (fun x => if x = c then some d else if dEN (s.ctx x).desc then some (s.ctx x).desc else none)
  ds.any (fun x => ds.any (fun y => (dMODE x != dMODE y) || (!(dMODE x) && decide (dDEC x ≠ dDEC y))))

/-- Reason SLICE (R107, R456): judged over every slice set the commit leaves applied. -/
def sliceBad (s : State) (c : Nat) (d : List Word) : Bool :=
  decide (dKIND d = 0) && (!(dMODE d) && decide (dDEC d = 0) && decide (dNHB d = 0) || (s.slicesNaming c).any (fun n =>
    ownSlots s n && (setMixed s c d (setAfter s n)
      || (decide (c ∈ setCtxs (setAfter s n)) && !(dMODE d) && (aAREN (s.slice n).app || aAREN (s.pendSet n))))))

/-- Whether context `c` is fed by a pair once its commit has taken effect. -/
def pairAfter (s : State) (c : Nat) : Bool :=
  (s.slicesNaming c).any (fun n => decide (n % 2 = 0) && decide (c ∈ setCtxs (setAfter s n)) && aPAIR (setAfter s n))

/-- Whether a grid's period meets R129 for a descriptor; `per` in units of 2^-32 ns, 0 where it cannot be judged. -/
def rateBad (s : State) (d : List Word) (per : Nat) : Bool :=
  if dMODE d then decide (per < 250000 * n32 ∨ 1000000000 * n32 < per)
  else decide (per < 15625 * n32 ∨ 4 * per < s.tFir d ∨ 4096 * s.tFir d < per)

/-- Whether R129 can be judged at a commit: the grid runs, or its descriptor holds a period that R64 would take. -/
def rateKnown (s : State) (g : Nat) : Bool :=
  (s.grid g).run ||
    (let p := s.gridPeriod g
     if s.gridAxis g = 0 then decide (15625 * n32 ≤ p ∧ p ≤ 4000000000 * n32)
     else decide (2 ^ 16 ≤ p ∧ p ≤ 2 ^ 40))

/-- Reason RATE (R129, R457). -/
def rateReason (s : State) (d : List Word) : Bool :=
  let g := dGRID d
  if dKIND d = 2 ∨ dKIND d = 3 then false
  else if s.gridAxis g ≠ 0 ∧ s.periodN g = 0 ∧ axMaxSpeed_VMAX s (s.gridAxis g - 1) = 0 then dMODE d
  else rateKnown s g && rateBad s d (s.periodN g)

/-- Reason PROFILE (R137). -/
def profileBad (s : State) (d : List Word) : Bool :=
  let p := dPROFILE d
  hasChain d && (decide (s.profTaps p = 0 ∨ 512 < s.profTaps p) || !(s.profValid p (dBANK d)) || decide (32511 < s.profBase p (dBANK d) + s.profTaps p - 1))

/-- Whether a commit changes BANK on a running FIR context (R138). -/
def bankChange (old new : List Word) : Bool := hasChain new && (dBANK old != dBANK new)

/-- A grid's rate is at most 200 S/s; an angle grid's is judged at AX_MAX_SPEED (R421, R457). -/
def vigilRate (s : State) (g : Nat) : Bool := decide (5000000 * n32 ≤ s.periodN g)

/-- A context that may run in VIGIL (R421). -/
def vigilCtx (s : State) (d : List Word) : Bool :=
  let loc (x : List Word) : Bool := decide (dKIND x = 0) && dMODE x && vigilRate s (dGRID x)
  loc d || (decide (dKIND d = 2) && loc (s.ctx (dSOURCE d % 1024)).desc) || decide (dKIND d = 3)

/-- The slices a context uses under a descriptor: those whose slots name it, or the slice of its vibrating-wire channel. -/
def ctxSlices (s : State) (c : Nat) (d : List Word) : List Nat :=
  if dKIND d = 0 then (s.slices.map (·.1)).filter (fun n => decide (s.pairEven n = n) && decide (c ∈ setCtxs (s.slice n).app))
  else if dKIND d = 3 then (if 0x40 ≤ tiCfg_STOP_SRC s (dSOURCE d % 16) ∧ tiCfg_STOP_SRC s (dSOURCE d % 16) < 0x80 then [tiCfg_STOP_SRC s (dSOURCE d % 16) - 0x40] else [])
  else []

/-- The slices, and the mittens, that the running contexts use, context `c` counted under descriptor `d` where given. -/
def vigilSlices (s : State) (repl : Option (Nat × List Word)) : List Nat :=
  let cs := s.enabled.filter (fun x => s.ctxRuns x && (match repl with | some r => decide (x ≠ r.1) | none => true))
  let l := cs.flatMap (fun x => ctxSlices s x (s.ctx x).desc)
  (match repl with | some r => l ++ ctxSlices s r.1 r.2 | none => l).eraseDups

def slicesFit (l : List Nat) : Bool := decide (l.length ≤ 16) && decide ((l.map (· / 4)).eraseDups.length ≤ 4)

/-- In VIGIL, a commit that would break its conditions (R421). -/
def vigilBad (s : State) (c : Nat) (d : List Word) : Bool :=
  decide (s.pwr.state = 2) && (s.grid (dGRID d)).run && (!(vigilCtx s d) || !(slicesFit (vigilSlices s (some (c, d)))))

/-- Why a commit of context `c` to descriptor `d` is rejected, if it is (R36, R128). -/
def commitRej (s : State) (c : Nat) (d : List Word) : Option Nat :=
  let old := (s.ctx c).desc
  let run := s.ctxRuns c
  let gridRuns := (s.grid (dGRID d)).run
  if structDiff old d && (run || (dEN d && !(dEN old) && gridRuns)) then some 7
  else if fieldBad s c d || tblBad s (c * 0x80) 0x80 then some 10
  else if !(dEN d) then none
  else if shareBad s c d || vigilBad s c d then some 10
  else if streamsBad s c d then some 10
  else if sliceBad s c d then some 8
  else if pairAfter s c && dMODE d then some 9
  else if profileBad s d then some 4
  else if rateReason s d then some 5
  else if dKIND d = 2 ∧ s.gridAxis (dGRID d) ≠ 0 ∧ axMaxSpeed_VMAX s (s.gridAxis (dGRID d) - 1) = 0 then some 6
  else if run && bankChange old d && (s.ctx c).fading then some 3
  else
    let rest := s.fengLoad - (if dEN old then s.loadOf c old else 0)
    let load := rest + s.loadWith (pairAfter s c) d
    if s.fengLimitU < load then some 1
    else if run && bankChange old d && decide (s.fengLimitU < load + s.fadeLoad (pairAfter s c) d) then some 2
    else none

/-! ### Completion (R37) -/

/-- Place a completion entry (R37). The last commit index is that of the last accepted commit. -/
def commitEntry (c : Nat) (rej : Bool) (idx : Nat) (s : State) : State :=
  let f := s.feng
  let f1 := if f.done.length < 32 then { f with done := f.done ++ [⟨c, rej, idx⟩] } else { f with ovf := true }
  let s1 := { s with feng := f1 }
  raise pFENG 0 (s1.setCtx c { s1.ctx c with pend := none, doneAny := true, lastRej := rej, lastIdx := if rej then (s1.ctx c).lastIdx else idx })

/-- A rejected commit completes without effect (R36, R128). `idx` is the index its completion entry carries: R37 defines the index only for
a commit that took effect, and the model gives the index of the safe point at which it was judged (DESIGN CHOICE, log entry 105). -/
def commitReject (c reason idx : Nat) (s : State) : State :=
  let s1 := { s with feng := { s.feng with rejReason := reason, rejCtx := c } }
  raiseIf (decide (reason = 1 ∨ reason = 2)) pFENG 3 (commitEntry c true idx (raise pFENG 1 s1))

/-! ### Starting (R140, R164, R229) -/

/-- A context's run ends where the next begins: what it still owes is delivered from the run as it stands (R66, R127). -/
def shedTail (c : Nat) (s : State) : State :=
  let cs := s.ctx c
  let s1 := s.setCtx c { cs with nextK := none, prev := [] }
  if s.owes c then { s1 with tails := s.tails ++ [⟨c, cs, s.grid (dGRID cs.desc)⟩] } else s1

/-- A context starts at `t` with its next index `k`: histories empty, brim INSIDE, a settling event at its first output's instant. -/
def startCtx (c t k : Nat) (s : State) : State :=
  let cs := s.ctx c
  let s1 := s.setCtx c { cs with startAt := t, nextK := some k, prev := [], c1 := {}, c2 := {}, fade := none, fade2 := none, settle := [], cuts := [], brim := 0, cc := none, cc2 := none, src := [], det := 0, detHold := 0, aliasRun := false, rateRun := false, skewNote := [], firstOn := true, sc := [], lowPath := false, lastG := none, lastW := 0 }
  let d := cs.desc
  if hasChain d then
    s1.setCtx c { s1.ctx c with settle := settlePaths (s.pairFed c) { t := t, n := s.settleN d, begun := false, stale := false, cyc := 0, path := 0, first := true } }
  else s1

/-- Start every context with committed EN 1 on a grid whose first index is `k` (R140, R164). -/
def startGridCtxs (g t k : Nat) (s : State) : State :=
  (s.enabled.filter (fun c => decide (dGRID (s.ctx c).desc = g))).foldl (fun a c => startCtx c t k a) s

/-! ### Taking effect (R35, R127, R138, R140, R161, R229) -/

/-- The streams a descriptor names. -/
def streamsOf (d : List Word) : List Nat := (if dSTREN d then [dSTREAM d] else []) ++ (if dSTR2EN d then [dSTREAM2 d] else [])

/-- What the change of descriptor does to a running context at its safe point of index `k` and instant `t`. -/
def runningChange (c k t : Nat) (old new : List Word) (s : State) : State :=
  let cs := s.ctx c
  let f : Fade := ⟨1, dXFADE new, if dBANK old then 1 else 0⟩
  let cs1 := if bankChange old new then { cs with fade := some f, fade2 := if s.pairFed c then some f else none } else cs
  let cs2 := if dSKEWADJ old ≠ dSKEWADJ new then { cs1 with skewNote := cs1.skewNote ++ [(k, old.getD 20 0, new.getD 20 0)] } else cs1
  let s1 := s.setCtx c cs2
  if dRANKR old ≠ dRANKR new then settleRun c t 0 false 0 s1 else s1

/-- A context that stops ends its fade (R139). -/
def endFade (c : Nat) (s : State) : State := s.setCtx c { s.ctx c with fade := none, fade2 := none }



/-- Take the descriptor `new` of context `c` into force (R35); `k` the safe point's index and `t` its instant, or none for a stopped
context. -/
def commitEffect (c : Nat) (new : List Word) (sp : Option (Nat × Nat)) (s0 : State) : State :=
  let s := if sp.isNone then shedTail c s0 else s0
  let cs := s.ctx c
  let old := cs.desc
  let t := match sp with | some (_, t) => t | none => s.st
  let prev := match sp with | some (k, _) => cs.prev ++ [(k, old)] | none => cs.prev
  let s1 := (s.setCtx c { cs with desc := new, prev := prev }).touch
  let s3 := match sp with
    | some (k, _) => if dEN new then runningChange c k t old new s1 else endFade c s1
    | none =>
      let g := s1.grid (dGRID new)
      if dEN new && g.run then startCtx c s.st g.next s1 else s1
  let moved := (dEN old != dEN new) || decide (streamsOf old ≠ streamsOf new) || (dCCEN old != dCCEN new)
  let s4 := if moved then (streamsOf old ++ streamsOf new).eraseDups.foldl (fun a n => cmpMembers n (membersChanged n t a)) s3 else s3
  applyFor c t s4

/-- The safe point of a pending commit: `none` while it is to come; then its index and instant, or none for a stopped context
(R35). -/
def safePoint (s : State) (c : Nat) : Option (Option (Nat × Nat)) :=
  match (s.ctx c).pend with
  | none => none
  | some a =>
    if s.ctxRuns c then
      let g := dGRID (s.ctx c).desc
      match gridFirstAt s g (a + usU) with
      | none => none
      | some k => match gridInst s g k with
        | none => none
        | some t => if t ≤ s.st then some (some (k, t)) else none
    else some none

/-- Complete a pending commit at its safe point (R35 to R37, R128). -/
def commitComplete (c : Nat) (s : State) : State :=
  match safePoint s c with
  | none => s
  | some sp =>
    let new := s.shadow c
    let idx := match sp with | some (k, _) => k | none => 2 ^ 64 - 1
    match commitRej s c new with
    | some r => commitReject c r idx s
    | none => commitEntry c false idx (commitEffect c new sp s)

/-- The instant of a safe point; none for a stopped context's. -/
def spInst (sp : Option (Nat × Nat)) : Option Nat := sp.map (·.2)

/-- The contexts below `c` whose pending commits have reached the same safe point instant as `c`'s: they are admitted before it (R155). -/
def commitsBefore (s : State) (c : Nat) : List Nat :=
  match safePoint s c with
  | some (some (_, t)) => s.ctxKeys.filter (fun x => decide (x < c) && decide ((safePoint s x).bind spInst = some t))
  | _ => []

/-- CTX_COMMIT_SAFE_POINT: commits that reach their safe points at once are admitted in order of context number (R155). -/
def commitAtPoint (c : Nat) (s : State) : State := commitComplete c ((commitsBefore s c).foldl (fun a x => commitComplete x a) s)

/-- Clear every filter history, accumulator and running fade (R484). -/
def fengClear (s : State) : State :=
  s.ctxKeys.foldl (fun a c =>
    onRuns (fun _ => true) c (fun e => e.setCtx c { e.ctx c with c1 := {}, c2 := {}, fade := none, fade2 := none, startAt := s.st, sc := [], src := [], det := 0, detHold := 0 }) a) s

/-- A page reset of FENG (R484): histories are cleared; descriptors, pending commits and the completion queue stay. -/
def fengReset (s : State) : State :=
  let s1 := fengClear s
  { s1 with feng := { s1.feng with rejReason := 0, rejCtx := 0, satCnt := 0, fadeCtx := 0, scRestart := 0, popIdx := 0 } }

/-- The end of a page reset of FENG: each context resumes from an empty history, with a settling event (R30, R484). -/
def fengResume (s : State) : State := s.ctxKeys.foldl (fun a c => settleEvent c s.st 0 false 0 a) (fengClear s)

end Sys2Proof.Machine
end

