-- ==== Sys2Proof/Machine/Dram.lean ====
section
/-! DEFINITION. The external memory controller (spec chapter 13): address mapping, training and its refusals, tracking, refresh,
scrubbing, the queues with forwarding, ECC, and self-refresh. -/

namespace Sys2Proof.Machine

/-! ### Configuration (R301, R303, R308, R309) -/

/-- What a training reads (R303): later writes take effect at the next training. -/
def readConf (s : State) : DrConf :=
  { rate := drCfg_RATE s, density := drCfg_DENSITY s, ranks := drCfg_RANKS s + 1, bg0 := drMapBg0_MASK s, bg1 := drMapBg1_MASK s,
    ba0 := drMapBa0_MASK s, ba1 := drMapBa1_MASK s, refi := drTim4_tREFI s }

/-- Capacity of one rank in 4 KiB pages (R301), of the configuration in force. -/
def rankPages (s : State) : Nat := 2 ^ (19 + s.dram.conf.density)
def drRanks (s : State) : Nat := s.dram.conf.ranks
def drRows (s : State) : Nat := 15 + s.dram.conf.density

/-- A decoded byte address (R308). -/
structure DrAddr where
  byte : Nat
  col : Nat
  row : Nat
  rank : Nat
  bg : Nat
  bank : Nat
  deriving DecidableEq, Repr

/-- The exclusive-or of the address bits a mask selects: mask bit `i` is address bit `i + 5`. -/
def xorBits (mask a : Nat) : Nat := ((List.range 29).filter (fun i => mask.testBit i && a.testBit (i + 5))).length % 2

/-- Decode a byte address (R308). -/
def drDecode (s : State) (a : Nat) : DrAddr :=
  { byte := a % 32, col := a / 32 % 128 * 8, row := a / 2 ^ 16 % 2 ^ drRows s, rank := if drRanks s = 2 then a / 2 ^ (16 + drRows s) % 2 else 0,
    bg := xorBits s.dram.conf.bg0 a + 2 * xorBits s.dram.conf.bg1 a, bank := xorBits s.dram.conf.ba0 a + 2 * xorBits s.dram.conf.ba1 a }

/-- Address bits of the capacity DR_CFG sets. -/
def capBits (s : State) : Nat := 31 + drCfg_DENSITY s + drCfg_RANKS s

/-- Whether the four masks meet R309. -/
def mapGood (s : State) : Bool :=
  let ms := [drMapBg0_MASK s, drMapBg1_MASK s, drMapBa0_MASK s, drMapBa1_MASK s]
  (List.range 4).all (fun i =>
    let m := ms.getD i 0
    (List.range 4).all (fun j => m.testBit (7 + j) == decide (i = j)) && decide (m % 2 ^ 7 = 0) && decide (m < 2 ^ (capBits s - 5)))

/-- CAS latency by its MODE_0 code, bits 12, 6, 5, 4 and 2 (JESD79-4, named by R300). -/
def clOf (m : Nat) : Nat :=
  let c := nfld m 2 2 + 2 * nfld m 4 4 + 4 * nfld m 5 5 + 8 * nfld m 6 6 + 16 * nfld m 12 12
  [9, 10, 11, 12, 13, 14, 15, 16, 18, 20, 22, 24, 23, 17, 19, 21, 25].getD c 0
/-- CAS write latency by its MODE_2 code, bits 5 to 3 (JESD79-4). -/
def cwlOf (m : Nat) : Nat := [9, 10, 11, 12, 14, 16, 18, 20].getD (nfld m 5 3) 0
/-- Write recovery by its MODE_0 code, bits 13 and 11 to 9 (JESD79-4). -/
def wrOf (m : Nat) : Nat := [10, 12, 14, 16, 18, 20, 24, 22, 26].getD (nfld m 11 9 + 8 * nfld m 13 13) 0
/-- The CAS latencies of a data rate's speed bins (JESD79-4). -/
def rateCls (r : Nat) : List Nat := [[10, 11, 12], [12, 13, 14], [14, 15, 16], [15, 16, 17, 18]].getD r []

/-- Whether the mode registers match the timing registers (R303). -/
def modeGood (s : State) : Bool :=
  decide (clOf (drMode_VALUE s 0) = drTim0_CL s) && decide (cwlOf (drMode_VALUE s 2) = drTim0_CWL s)
    && decide (drTim1_tWR s ≤ wrOf (drMode_VALUE s 0)) && decide (drTim0_CL s ∈ rateCls (drCfg_RATE s))

/-- Whether a stream, a record or a DMA channel holds the memory (R306); `dma` tells of a started channel that addresses it. -/
def drBusy (s : State) (dma : Bool) : Bool :=
  s.strs.any (fun x => x.2.run || x.2.region.isSome) || s.recs.any (fun x => x.2.isSome) || dma

/-- Refuse a DR_CMD (DR_STAT.REJ). -/
def drRej (r : Nat) (s : State) : State := raise pDRAM 7 { s with dram := { s.dram with rej := r } }

/-- Ask for the leave of a training (R304). -/
def drAsk (s : State) : State :=
  bgtAsk 6 0 (drLeave_MW s) (some 40) none { s with dram := { s.dram with asking := true, retryAt := none } }

/-- OP TRAIN (R303, R304, R306, R309, R319): the configuration is read, and refused or kept for the training. DESIGN CHOICE (log entry 118):
the order in which the reasons are tried, and that a request while a training is asked for or runs changes nothing. -/
def drTrainCmd (dma : Bool) (s : State) : State :=
  if s.dram.selfref then drRej 5 s
  else if drBusy s dma then drRej 1 s
  else if drCfg_DENSITY s = 3 then drRej 4 s
  else if !(modeGood s) then drRej 2 s
  else if !(mapGood s) then drRej 3 s
  else if s.dram.asking ∨ s.dram.st = 1 then s
  else drAsk { s with dram := { s.dram with conf := readConf s } }

/-- The governor's answers to a training (R304). -/
def drGranted (s : State) : State := { s with dram := { s.dram with asking := false, st := 1, trainAt := s.st } }
def drRefused (s : State) : State := drRej 6 { s with dram := { s.dram with asking := false, retryAt := some (s.clk + 1000000000) } }

/-- 1 s after a refused leave (R304). -/
def drRetry (s : State) : State :=
  match s.dram.retryAt with | some t => if t ≤ s.clk then drAsk s else s | none => s


/-- The width of a window; an empty one has `hi` below `lo`. -/
def winLen (w : DrWin) : Nat := w.2 + 1 - w.1
def winMeet (a b : DrWin) : DrWin := (max a.1 b.1, min a.2 b.2)

/-- Whether a rank passes (R305). -/
def rankPass (s : State) (f : DrFound) (r : Nat) : Bool :=
  (List.range 5).all (fun l => decide (drTrain_TRAIN_MIN s ≤ winLen (f.rd.getD (5 * r + l) (1, 0))) && decide (drTrain_TRAIN_MIN s ≤ winLen (f.wr.getD (5 * r + l) (1, 0))))
    && (if r = 0 then f.pat0 else f.pat1)

/-- A lane's trained delay: the centre of the windows' intersection (R304). -/
def laneOf (f : DrFound) (both : Bool) (l : Nat) : DrLane :=
  let rd := if both then winMeet (f.rd.getD l (1, 0)) (f.rd.getD (5 + l) (1, 0)) else f.rd.getD l (1, 0)
  let wr := if both then winMeet (f.wr.getD l (1, 0)) (f.wr.getD (5 + l) (1, 0)) else f.wr.getD l (1, 0)
  { rdDly := (rd.1 + rd.2) / 2, rdEye := winLen rd, wrDly := (wr.1 + wr.2) / 2, wrEye := winLen wr }

/-- Step 8 of a training, 40 ms after its grant (R304, R305): the leave is released, and the ports open or memory has failed. -/
def drTrained (f : DrFound) (s : State) : State :=
  let two := decide (drRanks s = 2)
  let p0 := rankPass s f 0
  let p1 := !two || rankPass s f 1
  let both := two && p1
  let pages := if p0 then (if both then 2 * rankPages s else rankPages s) else 0
  let s1 := bgtRelease 6 0 s
  let d := { s1.dram with st := (if p0 then 2 else 3), cap := pages, rank1Fail := p0 && !p1, lanes := (List.range 5).map (laneOf f both), selfref := false, lastTrack := s.clk, lastZq := s.clk, lastScrub := s.clk, scrubAddr := 0, lastRef0 := s.clk, lastRef1 := s.clk, post0 := 0, post1 := 0 }
  raise pDRAM (if p0 && p1 then 0 else 1) { s1 with dram := d }

/-- What a training has found so far (R304): the read delays and eyes after step 4, the write delays and eyes after step 5, the VrefDQ
value in MODE_6, with its training bits clear (R302), after step 6, and the outcome at step 8. -/
def drTrain (f : DrFound) (s : State) : State :=
  if s.dram.st = 1 then
    let past (ms : Nat) : Bool := decide (s.dram.trainAt + ms * msU ≤ s.st)
    let new (l : Nat) : DrLane := laneOf f (decide (drRanks s = 2)) l
    let now (l : Nat) : DrLane :=
      let o := s.dram.lanes.getD l {}
      let r := if past 13 then { o with rdDly := (new l).rdDly, rdEye := (new l).rdEye } else o
      if past 29 then { r with wrDly := (new l).wrDly, wrEye := (new l).wrEye } else r
    let s1 := { s with dram := { s.dram with lanes := (List.range 5).map now } }
    let s2 := if past 39 then s1.setFld (drModeAt 6) 17 0 (drMode_VALUE s 6 / 2 ^ 8 * 2 ^ 8 + f.vref % 2 ^ 6) else s1
    if past 40 then drTrained f s2 else s2
  else s

/-! ### Tracking, ZQ, refresh, scrubbing (R307, R314, R317) -/

/-- One step of a delay towards a centre. -/
def stepTo (d c : Nat) : Nat := if d < c then d + 1 else if c < d then d - 1 else d

/-- One tracking round towards the re-measured centres (R307). -/
def trackLanes (cs : List Nat) (ls : List DrLane) : List DrLane :=
  ((List.range ls.length).zip ls).map (fun p => { p.2 with rdDly := stepTo p.2.rdDly (cs.getD p.1 p.2.rdDly) })

/-- OP TRACK (R307). -/
def drTrackCmd (s : State) : State := if memOpen s then { s with dram := { s.dram with trackDue := true } } else s

/-- A tracking round, every TRACK_MS or on TRACK, deferred during panic (R307). -/
def drTrack (cs : List Nat) (s : State) : State :=
  let d := s.dram
  let due := d.trackDue || (decide (drTrain_TRACK_MS s ≠ 0) && s.passed d.lastTrack (drTrain_TRACK_MS s * 1000000))
  if memOpen s && due && !d.panic then { s with dram := { d with lanes := trackLanes cs d.lanes, trackDue := false, lastTrack := s.clk } } else s

/-- ZQCS to each rank every ZQ_MS (R307). -/
def drZqcs (s : State) : State :=
  if memOpen s && s.passed s.dram.lastZq (drTrain_ZQ_MS s * 1000000) then { s with dram := { s.dram with lastZq := s.clk } } else s

/-- The time between two REFs of a rank in ns (R314): tREFI memory clocks of 15/12 to 15/18 ns, half of it with REF_2X. -/
def refiNs (s : State) : Nat := s.dram.conf.refi * 15 / (12 + 2 * s.dram.conf.rate) / (1 + drRef_REF_2X s)

/-- A refresh falls due on a rank, tREFI after its last (R314): issued, or postponed during panic up to 8; with the 9th the postponed ones go. -/
def drRefresh (rank : Nat) (s : State) : State :=
  let d := s.dram
  if memOpen s && decide (rank < drRanks s) && s.passed (if rank = 0 then d.lastRef0 else d.lastRef1) (refiNs s) then
    let nxt (n : Nat) : Nat := if d.panic && decide (n < 8) then n + 1 else 0
    { s with dram := if rank = 0 then { d with post0 := nxt d.post0, lastRef0 := s.clk } else { d with post1 := nxt d.post1, lastRef1 := s.clk } }
  else s

/-- Beats of the burst at `a` in which the devices now hold errors: beat, and whether the error is beyond correction. -/
def noteErrs (a : Nat) (errs : List (Nat × Bool)) (s : State) : State :=
  errs.foldl (fun t e =>
    let x := a + 4 * (e.1 % 8)
    let d := t.dram
    { t with dram := if e.2 then { d with badU := if x ∈ d.badU then d.badU else x :: d.badU } else { d with badC := if x ∈ d.badC then d.badC else x :: d.badC } }) s

/-- The eight beat addresses of a burst. -/
def beats (a : Nat) : List Nat := (List.range 8).map (fun i => a + 4 * i)

/-- One scrub burst, every SCRUB_US, yielding to panic and to waiting requests (R317): corrected beats are written back. -/
def drScrub (errs : List (Nat × Bool)) (s : State) : State :=
  let d := s.dram
  if memOpen s && decide (drScrub_SCRUB_US s ≠ 0) && s.passed d.lastScrub (drScrub_SCRUB_US s * 1000) && !d.panic && decide (d.wait = []) then
    let a := d.scrubAddr
    let s1 := noteErrs a errs s
    let s2 := (beats a).foldl (fun t x =>
      let t1 := eccRead x t
      if x ∈ t1.dram.badU then t1 else { t1 with dram := { t1.dram with badC := t1.dram.badC.filter (fun y => decide (y ≠ x)) } }) s1
    { s2 with dram := { s2.dram with lastScrub := s.clk, scrubAddr := if a + 32 < d.cap * 4096 then a + 32 else 0 } }
  else s

/-! ### Requests (R310 to R313, R315, R316, R319) -/

/-- The marks DR_WQ sets, at their reset values where WQ_LO is not below WQ_HI. -/
def wqMarks (s : State) : Nat × Nat := if drWq_WQ_LO s < drWq_WQ_HI s then (drWq_WQ_HI s, drWq_WQ_LO s) else (24, 8)

/-- The mask of a beat within a burst's byte mask. -/
def beatMask (m i : Nat) : Nat := m / 2 ^ (4 * i) % 16

/-- Carry a write entry out on the devices (R311, R316): whole beats are written; a partly written beat by read-modify-write, which keeps
an uncorrectable beat uncorrectable and writes back what the read has corrected. -/
def doWrite (r : DrReq) (s : State) : State :=
  let partly := (List.range 8).any (fun i => decide (beatMask r.mask i ≠ 0 ∧ beatMask r.mask i ≠ 15))
  let s1 := (beats r.addr).foldl (fun t x => eccRead x t) s
  let s0 := if partly then { s1 with dram := { s1.dram with badC := s1.dram.badC.filter (fun x => decide (x ∉ beats r.addr)) } } else s
  (List.range 8).foldl (fun t i =>
    let m := beatMask r.mask i
    let a := r.addr + 4 * i
    let b (j : Nat) : Byte := r.bytes.getD (4 * i + j) 0
    if m = 0 then t
    else if m = 15 then t.setDramW a (leWord (b 0) (b 1) (b 2) (b 3))
    else (List.range 4).foldl (fun u j => if m.testBit j then u.setDramB (a + j) (b j) else u) t) s0

/-- The byte a burst read returns at `i`: from the newest queued write of it, else from the devices (R312). -/
def readByte (s : State) (a i : Nat) : Byte :=
  match (s.dram.wq.reverse).find? (fun r => decide (r.addr = a) && r.mask.testBit i) with
  | some r => r.bytes.getD i 0
  | none => s.dramB (a + i)

/-- Whether queued writes cover a whole burst, so that no device read takes place (R312). -/
def wqCovers (s : State) (a : Nat) : Bool := (List.range 32).all (fun i => s.dram.wq.any (fun r => decide (r.addr = a) && r.mask.testBit i))

/-- A read served (R312, R316): its words, and after them 1 where a beat was uncorrectable. -/
def doRead (a : Nat) (s : State) : State :=
  let ws := (List.range 8).map (fun i => leWord (readByte s a (4 * i)) (readByte s a (4 * i + 1)) (readByte s a (4 * i + 2)) (readByte s a (4 * i + 3)))
  if wqCovers s a then { s with lastRead := ws ++ [0] }
  else
    let bad := (beats a).any (fun x => decide (x ∈ s.dram.badU))
    let s1 := (beats a).foldl (fun t x => eccRead x t) s
    { s1 with lastRead := ws ++ [if bad then 1 else 0] }

/-- Serve one accepted request of an open memory: a read at once, a write into the write queue. -/
def serve (r : DrReq) (s : State) : State :=
  if r.write then { s with dram := { s.dram with wq := s.dram.wq ++ [r] } } else doRead r.addr s

/-- DR_PORT_WT as it acts: 0 acts as 1 (R313). -/
def portWt (s : State) (p : Nat) : Nat :=
  max 1 (if p = 0 then drPortWt_WT_0 s else if p = 1 then drPortWt_WT_1 s else if p = 2 then drPortWt_WT_2 s else drPortWt_WT_3 s)

/-- The oldest waiting request of a port, and whether it finds its queue with room (R310). -/
def portHead (s : State) (p : Nat) : Option DrReq := s.dram.wait.find? (fun r => decide (r.port = p))
def portReady (s : State) (p : Nat) : Bool := match portHead s p with | some r => !r.write || decide (s.dram.wq.length < 32) | none => false

/-- The port whose burst the arbiter takes next (R313): weighted round robin; in panic P0 first, and P1 to P3 together at most one burst
in every THROTTLE. -/
def portPick (s : State) : Option Nat :=
  let d := s.dram
  if d.panic && portReady s 0 then some 0
  else if d.panic && decide (d.since + 1 < max 2 (drThrottle_THROTTLE s)) then none
  else if portReady s d.turn && decide (d.credit < portWt s d.turn) then some d.turn
  else ([1, 2, 3, 4].map (fun i => (d.turn + i) % 4)).find? (portReady s)

/-- The arbiter's account of a burst taken from port `p` (R313). -/
def portTaken (p : Nat) (d : DramSt) (wt : Nat) : DramSt :=
  let e := if p = d.turn ∧ d.credit < wt then { d with credit := d.credit + 1 } else { d with turn := p, credit := 1 }
  { e with since := if p = 0 then min 255 (d.since + 1) else 0 }

/-- Take waiting requests as the arbiter picks them, until none may go (R310, R313). -/
def arbitrate : Nat → State → State
  | 0, s => s
  | n + 1, s =>
    match portPick s with
    | none => s
    | some p =>
      match portHead s p with
      | none => s
      | some r =>
        let d := portTaken p s.dram (portWt s p)
        arbitrate n (serve r { s with dram := { d with wait := d.wait.erase r, p0 := if r.port = 0 ∧ r.write then d.p0 - 32 else d.p0 } })

/-- A request waits; one of port P0 in its buffer, where panic may begin (R313, R315). -/
def drWait (r : DrReq) (s : State) : State :=
  if r.port = 0 ∧ r.write then
    if 65536 < s.dram.p0 + 32 then p0Lost s
    else
      let d := s.dram
      let begin_ := !d.panic && decide (drPanic_PANIC_LEVEL s ≤ d.p0 + 32)
      raiseIf begin_ pDRAM 2 { s with dram := { d with p0 := d.p0 + 32, panic := d.panic || begin_, wait := d.wait ++ [r] } }
  else { s with dram := { s.dram with wait := s.dram.wait ++ [r] } }

/-- Panic ends when the P0 buffer has fallen to PANIC_CLR; what refreshes were postponed are then issued (R313, R314). -/
def panicEnd (s : State) : State :=
  if s.dram.panic && decide (s.dram.p0 ≤ drPanic_PANIC_CLR s) then { s with dram := { s.dram with panic := false, since := 0, post0 := 0, post1 := 0 } } else s

/-- A port's request reaches the controller (R312, R319); `errs` are errors its burst shows in the devices. -/
def drRequest (r : DrReq) (errs : List (Nat × Bool)) (s : State) : State :=
  let d := s.dram
  if d.st = 3 ∧ !(r.port = 0 ∧ r.write) then { eccUncorr r.addr s with lastRead := List.replicate 8 0 ++ [1] }
  else if memOpen s then
    let s1 := drWait r (noteErrs r.addr errs s)
    panicEnd (arbitrate s1.dram.wait.length s1)
  else drWait r (raiseIf (d.selfref && decide (d.wait = []) && decide (d.p0 = 0)) pDRAM 6 s)

/-- Write out queued entries, oldest first. -/
def drainWq : Nat → State → State
  | 0, s => s
  | n + 1, s =>
    match s.dram.wq with
    | [] => s
    | r :: t => drainWq n (doWrite r { s with dram := { s.dram with wq := t } })

/-- The write queue drains (R310): from WQ_HI down to WQ_LO, or wholly where no read waits; the P0 buffer empties into it, and the arbiter
takes what waits. -/
def drDrain (s : State) : State :=
  if memOpen s then
    let m := wqMarks s
    let n := s.dram.wq.length
    let reads := s.dram.wait.any (fun r => !r.write)
    let s1 := if reads then (if m.1 ≤ n then drainWq (n - m.2) s else s) else drainWq n s
    let s2 := arbitrate s1.dram.wait.length s1
    let s3 := panicEnd { s2 with dram := { s2.dram with p0 := 32 * (s2.dram.wait.filter (fun r => decide (r.port = 0) && r.write)).length } }
    arbitrate s3.dram.wait.length s3
  else s

/-! ### Self-refresh (R318) and page reset -/

/-- Enter self-refresh on the power manager's request: the queued writes finish first; in panic it waits until the buffer is empty. -/
def drSrEnter (s : State) : State :=
  if memOpen s && !(s.dram.panic && decide (s.dram.p0 ≠ 0)) then
    let s1 := drainWq s.dram.wq.length s
    raise pDRAM 6 { s1 with dram := { s1.dram with selfref := true } }
  else s

/-- Leave self-refresh: ZQCS, one tracking round, and the ports open (R318). -/
def drSrExit (cs : List Nat) (s : State) : State :=
  if s.dram.selfref then
    let d := s.dram
    raise pDRAM 6 { s with dram := { d with selfref := false, lanes := trackLanes cs d.lanes, lastTrack := s.clk, lastZq := s.clk, trackDue := false } }
  else s

/-- A page reset of DRAM (R30): the queued writes go out as the devices enter self-refresh (R318), the ports close until the next training,
and the registers read their reset values. DESIGN CHOICE (log entry 118): port P0's buffer, in on-chip SRAM, keeps its bytes. -/
def dramReset (s : State) : State :=
  let s0 := if memOpen s then drainWq s.dram.wq.length s else s
  let s1 := bgtDrop 6 0 s0
  { s1 with dram := { badU := s1.dram.badU, badC := s1.dram.badC, p0 := s1.dram.p0, wait := s1.dram.wait.filter (fun r => decide (r.port = 0) && r.write) } }

end Sys2Proof.Machine
end

