-- ==== Sys2Proof/Machine/Time.lean ====
section
/-! DEFINITION. Structure time (R43, R44), the servo and its sources (R45 to R53, R399, R400, R485), steps (R49), leap seconds (R54) and
the angle axes (R55 to R62). -/

namespace Sys2Proof.Machine

/-! ### The servo -/

/-- 200 ppm and 1 ppm in FREQ units (R43, R48). -/
def freqMax : Int := 56294995342
def ppm1 : Int := 281474977

/-- One picosecond in the unit of errors, 2^-48 ps. -/
def psE : Nat := 2 ^ 48

/-- The unit of the correction term below a FREQ unit. -/
def corrDen : Nat := 16000 * 2 ^ 48

/-- The correction term for an error (R48). -/
def corrOf (e : Int) : Int :=
  if 16000 * psE < e.natAbs then (if 0 < e then -(ppm1 * corrDen) else ppm1 * corrDen) else -(ppm1 * e)

/-- SRC_SEL and SRC_ALT; codes 4 to 7 act as 0. -/
def srcCode (c : Nat) : Nat := if c ≤ 3 then c else 0
def tbSel (s : State) : Nat := srcCode (tbCtl_SRC_SEL s)
def tbAlt (s : State) : Nat := srcCode (tbCtl_SRC_ALT s)

/-- When a source last delivered (edge count). -/
def tbSeen (s : State) (x : Nat) : Option Nat := if x = 1 then s.tb.seen1 else if x = 2 then s.tb.seen2 else if x = 3 then s.tb.seen3 else none

def tbSetSeen (x : Nat) (v : Option Nat) (s : State) : State :=
  if x = 1 then { s with tb := { s.tb with seen1 := v } }
  else if x = 2 then { s with tb := { s.tb with seen2 := v } }
  else if x = 3 then { s with tb := { s.tb with seen3 := v } }
  else s

/-- The time without a measurement after which a source is lost, in ns (R45). -/
def tbLossNs (s : State) (x : Nat) : Nat :=
  if x = 1 then 10000000 else if x = 2 then ptpTimeout_TMO s * 1000000 else 1200000000

/-- Whether a source is delivering measurements; on the crown source 1 yields none (R45). -/
def tbDelivers (s : State) (x : Nat) : Bool :=
  !(decide (x = 1) && s.ring.crown) &&
  match tbSeen s x with | some t => decide (s.clk < t + tbLossNs s x) | none => false

/-- FREQ from the integral and correction terms, clamped, with TB_FREQ_LIMIT while it is clamped (R43, R47). -/
def tbSetFreq (f : Int) (s : State) : State :=
  setRaw pTBASE 7 (decide (freqMax < f.natAbs)) { s with tb := { s.tb with freq := clampI (-freqMax) freqMax f } }

/-- Put the correction term in force from now (R48), keeping what R399 looks back on. -/
def tbSetCorr (c : Int) (s : State) : State :=
  { s with tb := { s.tb with corr := c, corrs := (s.st, c) :: s.tb.corrs.filter (fun x => decide (s.st < x.1 + 2 * secU)) ++ (s.tb.corrs.find? (fun x => decide (x.1 + 2 * secU ≤ s.st))).toList } }

/-- A new acquisition (R46, R48, R49). -/
def tbAcquire (x : Nat) (s : State) : State :=
  { s with tb := { s.tb with srcAct := x, lastMeas := none, autoDone := false, lockCnt := 0, newSel := false } }

/-- LOCKED clears (R50). -/
def tbUnlock (s : State) : State :=
  if s.tb.locked then raise pTBASE 9 { s with tb := { s.tb with locked := false } } else s

/-- The intervals of HOLD_ACTIVE that an instant of the last 2^41 ns can still fall in. -/
def holdsKept (s : State) : List (Nat × Option Nat) :=
  s.tb.holds.filter (fun h => match h.2 with | some e => decide (s.st < e + 2 ^ 41 * nsU) | none => true)

/-- HOLD_ACTIVE rises and clears (R52, R53). -/
def tbHoldOn (s : State) : State :=
  if s.tb.holdActive then s else raise pTBASE 2 { s with tb := { s.tb with holdActive := true, holds := (s.st, none) :: holdsKept s } }
def tbHoldOff (s : State) : State :=
  if s.tb.holdActive then { s with tb := { s.tb with holdActive := false, holds := s.tb.holds.map (fun h => (h.1, some (h.2.getD s.st))) } } else s

/-- Whether HOLD_ACTIVE stood at an instant; the instant at which it cleared counts (R52, R53). -/
def holdAt (s : State) (t : Nat) : Bool :=
  s.tb.holds.any (fun h => decide (h.1 ≤ t) && (match h.2 with | some e => decide (t ≤ e) | none => true))

/-- Whether any grid runs. -/
def anyGridRuns (s : State) : Bool := s.grids.any (fun g => g.2.run)

/-- 2π × 10^30. -/
def twoPi30 : Int := 6283185307179586476925286766559

/-- One measurement `e` (2^-48 ps) of the source in use (R47 to R50, R53). -/
def servo (e : Int) (s : State) : State :=
  let b := s.tb
  let mag := e.natAbs
  let tk := match b.lastMeas with | some t => min 1000000000 (s.clk - t) | none => 0
  let c := corrOf e
  let bw := min 12 (tbCtl_SERVO_BW s)
  let lim := freqMax * 2 ^ 24
  let i := clampI (-lim) lim (b.integ + rdivAway (c * twoPi30 * tk) (10 ^ 39 * 2 ^ bw * 16000 * 2 ^ 24))
  let tau : Nat := 2 ^ tbCtl_AVG_TAU s * 1000000000
  let avg := b.favg + (if tau ≤ tk then i - b.favg else rdivAway ((i - b.favg) * tk) tau)
  let s1 := { s with tb := { b with err := e, integ := i, favg := avg, lastMeas := some s.clk, recovering := b.holdover } }
  let s2 :=
    if b.holdover then
      if mag ≤ holdLimit_LIMIT s * 1000 * psE then
        raise pTBASE 3 (tbHoldOff { s1 with tb := { s1.tb with holdover := false, recovering := false } })
      else tbHoldOn s1
    else s1
  let s3 :=
    if tbCtl_AUTO_STEP s = 1 ∧ !b.autoDone ∧ b.step.isNone ∧ stepThresh_THRESH s * 1000 * psE < mag ∧ !anyGridRuns s then
      { s2 with tb := { s2.tb with autoDone := true, step := some ⟨false, -(rdivAway e 1000)⟩ } }
    else s2
  let s4 :=
    if mag < 2000 * psE then
      let n := b.lockCnt + 1
      let t := { s3 with tb := { s3.tb with lockCnt := min 16 n } }
      if 16 ≤ n ∧ !b.locked then raise pTBASE 0 { t with tb := { t.tb with locked := true } } else t
    else
      let t := { s3 with tb := { s3.tb with lockCnt := 0 } }
      if 4000 * psE < mag then tbUnlock t else t
  tbSetFreq (rdivAway (i * corrDen + c * 2 ^ 24) (corrDen * 2 ^ 24)) (tbSetCorr c s4)

/-- A valid measurement of source `x` (R45, R46, R53, R485): it counts as delivered, and goes to the servo where the source is in use or
takes the timebase over. In VIGIL and DORMANT sources 1 and 2 deliver nothing, and source 3 needs FENG's domain (R421, R425). -/
def tbMeasure (x : Nat) (e : Int) (s : State) : State :=
  if ((x = 1 ∨ x = 2) ∧ (s.pwr.state = 2 ∨ s.pwr.state = 3)) ∨ (x = 3 ∧ (s.dom 17).st = 4) then s else
  let sel := tbSel s
  let alt := tbAlt s
  let had := tbDelivers s x
  let s1 := tbSetSeen x (some s.clk) s
  if x = 1 ∧ s.ring.crown then s
  else if s.tb.srcAct = x ∧ (x = sel ∨ x = alt) then
    if s.tb.holdover ∧ !s.tb.recovering then servo e (tbAcquire x s1) else servo e s1
  else if s.tb.holdover ∧ (!(tbDelivers s s.tb.srcAct && s.tb.recovering) ∨ (s.tb.newSel ∧ x = sel)) ∧ (x = sel ∨ x = alt) then
    servo e (raiseIf (decide (x = alt ∧ x ≠ sel)) pTBASE 4 (tbAcquire x s1))
  else if x = sel ∧ s.tb.srcAct ≠ sel ∧ s.tb.srcAct ≠ 0 then
    { s1 with tb := { s1.tb with retSince := if had then some (s.tb.retSince.getD s.clk) else some s.clk } }
  else if s.tb.srcAct = 0 ∧ (x = sel ∨ (x = alt ∧ !(tbDelivers s sel))) then servo e (tbAcquire x s1)
  else s1

/-- FREQ freezes at FREQ_AVG (R51, R485). -/
def tbFreeze (s : State) : State :=
  let b := s.tb
  let s1 := { s with tb := { b with recovering := false, holdover := true, hoStart := s.clk, hoErr := b.err.natAbs, retSince := none, lastMeas := none, autoDone := false, lockCnt := 0 } }
  let s2 := tbSetFreq (rdivAway b.favg (2 ^ 24)) (tbSetCorr 0 s1)
  tbUnlock (raiseIf (!b.holdover) pTBASE 1 s2)

/-- Holdover ends with no source: the timebase free-runs and FREQ keeps its value (R45, R485). -/
def tbFree (s : State) : State :=
  raise pTBASE 3 (tbHoldOff (tbAcquire 0 { s with tb := { s.tb with holdover := false, recovering := false, retSince := none } }))

/-- A crown whose SRC_SEL is the ring and whose SRC_ALT is 0 free-runs and is never in holdover (R45): one that is in holdover as it becomes
the crown leaves it, as the write of R485 does (DEDUCED, log entry 12). -/
def tbCrown (s : State) : State := if s.ring.crown ∧ s.tb.holdover ∧ tbSel s = 1 ∧ tbAlt s = 0 then tbFree s else s

/-- The loss of the source in use (R46, R51, R485); a free-running crown is never in holdover (R45). -/
def tbLost (s : State) : State :=
  let x := s.tb.srcAct
  if x = 0 ∨ tbDelivers s x ∨ (s.tb.holdover ∧ !s.tb.recovering) then s
  else if x = tbSel s ∧ tbAlt s ≠ x ∧ tbDelivers s (tbAlt s) then raise pTBASE 4 (tbAcquire (tbAlt s) { s with tb := { s.tb with retSince := none } })
  else if x = 1 ∧ s.ring.crown ∧ tbAlt s = 0 ∧ !s.tb.holdover then tbAcquire 0 s
  else tbFreeze s

/-- SRC_SEL has delivered without a break for 10 s (R46). -/
def tbReturn (s : State) : State :=
  match s.tb.retSince with
  | some t =>
    if s.tb.srcAct ≠ tbSel s ∧ tbDelivers s (tbSel s) ∧ s.passed t 10000000000 then
      raise pTBASE 4 (tbAcquire (tbSel s) { s with tb := { s.tb with retSince := none } })
    else s
  | none => s

/-- HO_EST in units of 2 × 10^-27 × 2^-48 ns, exact, in holdover without a source (R51); `t` in ns. -/
def hoEstNum (s : State) (t : Nat) : Nat :=
  s.tb.hoErr * (2 * 10 ^ 24) + (2 * 10 ^ 15 * hoUnc_UNC s * t + hoAging_AGING s * t * t * 10 ^ 3) * 2 ^ 48

/-- HO_EST as its register shows it: ns, rounded, saturating (R51, R53). -/
def hoEst (s : State) : Nat :=
  if s.tb.holdover && !s.tb.recovering then
    satU 32 (rdivAway ((hoEstNum s (s.clk - s.tb.hoStart) : Nat) : Int) (2 * 10 ^ 27 * 2 ^ 48)).toNat
  else satU 32 (rdivAway ((s.tb.err.natAbs : Nat) : Int) (1000 * psE)).toNat

/-- HO_EST exceeds HOLD_LIMIT (R52). -/
def tbHoldCheck (s : State) : State :=
  if s.tb.holdover ∧ !s.tb.recovering ∧ holdLimit_LIMIT s * (2 * 10 ^ 27 * 2 ^ 48) < hoEstNum s (s.clk - s.tb.hoStart) then tbHoldOn s else s

/-- What a change of TB_CTL does to the source in use (R46, R485). In holdover a source newly named as SRC_SEL is a recovering source from its
first measurement on; one that was recovering and is named no more is a source in use lost again (DEDUCED, log entry 12). -/
def tbReselect (s0 s : State) : State :=
  let sel := tbSel s
  let alt := tbAlt s
  if s.tb.holdover then
    if sel = 0 ∧ alt = 0 then tbFree s
    else
      let s1 := if tbSel s0 = sel then s else { s with tb := { s.tb with newSel := decide (sel ≠ s.tb.srcAct), retSince := none } }
      tbCrown (if s1.tb.recovering ∧ s1.tb.srcAct ≠ sel ∧ s1.tb.srcAct ≠ alt then tbFreeze s1 else s1)
  else if tbSel s0 = sel ∧ tbAlt s0 = alt then s
  else if s.tb.srcAct ≠ 0 ∧ s.tb.srcAct = sel then s
  else if sel ≠ 0 ∧ !(decide (sel = 1) && s.ring.crown) then
    if s.tb.srcAct = alt ∧ alt ≠ 0 ∧ !(tbDelivers s sel) then s
    else tbAcquire sel (if (tbDelivers s sel) then { s with tb := { s.tb with retSince := none } } else tbSetSeen sel (some s.clk) { s with tb := { s.tb with retSince := none } })
  else if s.tb.srcAct = alt then s
  else if alt ≠ 0 then tbAcquire alt (if tbDelivers s alt then s else tbSetSeen alt (some s.clk) s)
  else tbAcquire 0 s

/-- A write of TB_CTL (R485). -/
def tbCtlWrite (src : Nat) (v : Word) (s : State) : State := tbReselect s (storeReg src tbCtlAt v s)

/-! ### PTP offsets (R399, R400) -/

/-- The ST the correction term has added since an instant, in 2^-48 ps (R399). -/
def corrSince (s : State) (t : Nat) : Int :=
  let go : List (Nat × Int) → Nat → Int := fun l e0 => (l.foldl (fun (a : Int × Nat) x =>
    if a.2 ≤ t then a else (a.1 + ((a.2 - max t x.1 : Nat) : Int) * x.2, x.1)) (0, e0)).1
  rdivAway (go s.tb.corrs s.st) (16 * 2 ^ 96)

/-- The instant PTP_OFS_AT_SEC and PTP_OFS_AT_NS name: the second nearest the present ST with these low bits (R399); signed, so that
no second before the epoch is mistaken. -/
def ptpInstant (s : State) : Int :=
  let cur := s.sec
  let d := sgn 32 ((ptpOfsAtSec_SEC s + 2 ^ 32 - cur % 2 ^ 32) % 2 ^ 32)
  ((cur : Int) + d) * secU + (ptpOfsAtNs_NS s * nsU : Nat)

/-- The write of PTP_OFS_HI (R399, R400). -/
def ptpOfsHi (hi : Word) (s : State) : State :=
  let ofs := sgn 64 (s.tb.ptpLo.toNat + 2 ^ 32 * hi.toNat)
  let valid := ptpOfsAtNs_VALID s = 1
  let at_ : Int := if valid then ptpInstant s else s.st
  let s1 := if valid then s.setFld ptpOfsAtNsAt 31 31 0 else s
  let present := decide (at_ ≤ s.st) && decide ((s.st : Int) ≤ at_ + secU) && (match s.tb.lastStep with | some l => decide ((l : Int) ≤ at_) | none => true)
  let e := ofs * psE + (if valid then corrSince s at_.toNat else 0)
  let drop (t : State) : State := { t with tb := { t.tb with ptpDiscard := satInc 16 t.tb.ptpDiscard } }
  if !present then drop s1
  else
    let s2 := tbMeasure 2 e s1
    if s2.tb.srcAct = 2 then { s2 with tb := { s2.tb with ptpAccept := satInc 16 s2.tb.ptpAccept } } else drop s2

/-! ### Steps and leap seconds (R49, R54) -/

/-- STEP_CMD.GO (R49). -/
def stepGo (abs_ : Bool) (s : State) : State :=
  let s1 := s.setFld stepCmdAt 1 1 (if abs_ then 1 else 0)
  if s.tb.step.isSome || anyGridRuns s then raise pTBASE 6 s1
  else
    let v := stepLo_STEP s + 2 ^ 32 * stepHi_STEP s
    { s1 with tb := { s1.tb with step := some ⟨abs_, if abs_ then ((v * nsU : Nat) : Int) else sgn 64 v * nsU⟩ } }

/-- The step takes effect: ST, and what is kept as durations of ST, move (R49); so do the stamps of the axes' edges, whose differences are times
(DEDUCED, log entry 13). -/
def stepApply (r : StepReq) (s : State) : State :=
  let new : Nat := (if r.abs then r.amt else (s.st : Int) + r.amt).toNat
  let mv (t : Nat) : Nat := ((t : Int) + (new : Int) - s.st).toNat
  let b := s.tb
  let tb := { b with step := none, lastStep := some new, corrs := b.corrs.map (fun x => (mv x.1, x.2)), holds := b.holds.map (fun h => (mv h.1, h.2.map mv)) }
  let g := s.bgt
  let bg := { g with queue := g.queue.map (fun q => { q with arr := mv q.arr }), grants := g.grants.map (fun q => { q with start := mv q.start }), lastTick := new / (10 * usU) }
  let mg := { s.mgmt with timer := decide (s.mgmt.mtimecmp ≤ new / nsU % 2 ^ 64) }
  let ax (x : AxSt) : AxSt := { x with edges := x.edges.map (fun e => { e with t := mv e.t }), revAt := mv x.revAt, spans := x.spans.map (fun p => (mv p.1, p.2.map mv)) }
  raise pTBASE 5 { s with st := new, tb := tb, bgt := bg, mgmt := mg, ax := s.ax.map (fun a => (a.1, ax a.2)) }

/-- The start of LEAP_SEC with ARM set (R54). -/
def tbLeap (s : State) : State :=
  if leapCfg_ARM s = 1 ∧ leapSecLo_SEC s + 2 ^ 32 * leapSecHi_SEC s ≤ s.sec then
    raise pTBASE 8 ((s.setFld utcOffsetAt 15 0 (leapCfg_NEW s)).setFld leapCfgAt 31 31 0)
  else s

/-- A read of ST_SEC_LO (R44). -/
def stRead (s : State) : State :=
  ({ s with tb := { s.tb with latSec := s.sec, latNs := s.ns, latFrac := s.st % nsU / 2 ^ 32 } }).answer (word s.sec)

/-! ### Angle axes (R55 to R62) -/

/-- AX_INC: angle per count in 2^-16 angle unit. -/
def axInc (s : State) (n : Nat) : Int := ((axIncLo_INC s n + 2 ^ 32 * axIncHi_INC s n : Nat) : Int)

/-- A write of AX_CFG (R56): where EN rises the position and AX_MAX load AX_PRESET. -/
def axCfgWrite (src n : Nat) (v : Word) (s : State) : State :=
  let s1 := storeReg src (axCfgAt n) v s
  if axCfg_EN s n = 0 ∧ axCfg_EN s1 n = 1 then
    let p := sgn 64 (axPresetLo_PRE s n + 2 ^ 32 * axPresetHi_PRE s n) * 2 ^ 16
    let x := s1.axis n
    s1.setAxis n { x with pos := p, max := p, idle := false, reversed := false, overspeed := false, zseen := false, spread := 0, spreadN := 0, edges := [], lastClk := s.clk, spans := [], interp := p, stepMax := p }
  else s1

/-- Open and close the intervals in which an axis yields no instants (R59, R60). -/
def spanOpen (t : Nat) : List (Nat × Option Nat) → List (Nat × Option Nat)
  | (a, none) :: r => (a, none) :: r
  | l => (t, none) :: l.take 63
def spanClose (t : Nat) : List (Nat × Option Nat) → List (Nat × Option Nat)
  | (a, none) :: r => (a, some t) :: r
  | l => l

/-- Signed 80-bit wrap of a position in 2^-16 angle units (R56). -/
def wrapPos (p : Int) : Int := sgn 80 (unsgn 80 p)

/-- Move an axis to a position at `t`: the high-water mark, a reversal and its end (R59). -/
def axMove (n t : Nat) (p : Int) (s : State) : State :=
  let x := s.axis n
  if x.max < p then
    let s1 := s.setAxis n { x with pos := p, max := p, reversed := false, spans := if x.idle then x.spans else spanClose t x.spans }
    if x.reversed then
      { s1 with grids := s1.grids.map (fun g => if g.2.run && decide (g.2.axis = n + 1) then (g.1, { g.2 with noteDue := true }) else g) }
    else s1
  else if p < x.max then
    if x.reversed then s.setAxis n { x with pos := p, lowest := min x.lowest p }
    else raise pAXIS 1 (s.setAxis n { x with pos := p, reversed := true, revAt := t, lowest := p, spans := spanOpen t x.spans })
  else s.setAxis n { x with pos := p }

/-- The next forward state of a quadrature pair, A leading B. -/
def quadNext (a b : Bool) : Bool × Bool :=
  match a, b with | false, false => (true, false) | true, false => (true, true) | true, true => (false, true) | false, true => (false, false)

/-- The spread correction taken by one count (R61). -/
def spreadStep (x : AxSt) : Int := if x.spreadN = 0 then 0 else Int.tdiv x.spread x.spreadN

/-- The timestamp, in 2^-7 ns of ST, of an edge that the 40-bit coarse count `coarse` of timebase edges and the fine part `fine` name: converted at the
rate of R43 (R178). -/
def stamp (s : State) (coarse fine : Nat) : Nat :=
  let ago : Nat := (s.clk + 2 ^ 40 - coarse % 2 ^ 40) % 2 ^ 40
  (((s.st : Int) + ((fine : Int) - 128 * ago) * (2 ^ 48 + s.tb.freq) / 128) / (tsU : Int)).toNat

/-- Whether the levels of an axis's inputs, held for `held` ns, are a counted change: one of them has changed and has held for AX_CFG.FILT ns (R55, R62). -/
def axCounts (s : State) (n : Nat) (a b : Bool) (held : Nat) : Bool :=
  let x := s.axis n
  decide (axCfg_FILT s n ≤ held) && decide (axCfg_EN s n = 1) && ((a != x.a) != (b != x.b))

/-- The levels `a` and `b` of an axis's inputs have held for `held` ns since the change at `t`, the count edge's timestamp (R55, R59, R62): under
AX_CFG.FILT ns that is no change. -/
def axEdge (n : Nat) (a b : Bool) (held t : Nat) (s : State) : State :=
  let x := s.axis n
  let s0 := s.setAxis n { x with a := a, b := b }
  if held < axCfg_FILT s n then s
  else if axCfg_EN s n = 0 ∨ (a = x.a ∧ b = x.b) then s0
  else if a ≠ x.a ∧ b ≠ x.b then raise pAXIS 4 s0
  else
    let fwd := decide (quadNext x.a x.b = (a, b)) != decide (axCfg_INVERT s n = 1)
    let d := spreadStep x
    let p := wrapPos (x.pos + (if fwd then axInc s n else -(axInc s n)) + d)
    let es := ⟨t, p, x.idle⟩ :: x.edges.take 256
    let fast := match es.drop 16 with | e :: _ => decide (t < e.t + 640 * nsU) | [] => false
    let s1 := s.setAxis n { x with a := a, b := b, edges := es, idle := false, fwd := fwd, lastClk := s.clk, overspeed := fast, spread := x.spread - d, spreadN := x.spreadN - 1, spans := if x.idle && !x.reversed then spanClose t x.spans else x.spans }
    raiseIf (fast && !x.overspeed) pAXIS 3 (axMove n t p s1)

/-- No counted edge for AX_IDLE_TIME (R60). -/
def axIdle (n : Nat) (s : State) : State :=
  let x := s.axis n
  if axCfg_EN s n = 1 ∧ !x.idle ∧ s.passed x.lastClk (max 1 (axIdleTime_IDLE s n) * 1000000) then
    raise pAXIS 0 (s.setAxis n { x with idle := true, spans := spanOpen s.st x.spans })
  else s

/-- A rising edge of ENC_n_Z (R61). -/
def axZ (n : Nat) (s : State) : State :=
  let x := s.axis n
  if axCfg_EN s n = 0 ∨ axCfg_Z_EN s n = 0 ∨ x.reversed ∨ !x.fwd then s
  else
    let diff := sgn 48 (unsgn 48 (x.pos - ((axZAngle_ZANG s n * 2 ^ 16 : Nat) : Int)))
    let inc := axInc s n
    let cnt := if inc = 0 then 0 else satS 16 (rdivAway diff inc.toNat)
    let s1 := s.setAxis n { x with zseen := true, zerr := cnt }
    if axCfg_Z_HOME s n = 1 ∧ !x.zseen ∧ !(s.grids.any (fun g => g.2.run && decide (g.2.axis = n + 1))) then axMove n s.st (x.pos - diff) s1
    else if diff.natAbs ≤ 2 * inc.natAbs then s1.setAxis n { s1.axis n with spread := -diff, spreadN := 64 }
    else raise pAXIS 2 s1

/-- The mean speed of the last AVG + 1 edge intervals: position change and time (R57). With fewer intervals held since the axis was enabled the
mean is taken over those at hand, and with none there is no speed (DESIGN CHOICE, log entry 109). -/
def axSpan (s : State) (n : Nat) : Option (Int × Nat) :=
  let x := s.axis n
  match x.edges, (x.edges.take (axCfg_AVG s n + 2)).getLast? with
  | e :: _, some l => if l.t < e.t then some (e.pos - l.pos, e.t - l.t) else none
  | _, _ => none

/-- The position extrapolated to the present instant (R57), in 2^-16 angle units: never more than one count less one angle unit beyond the last
counted edge. -/
def axInterp (s : State) (n : Nat) : Int :=
  let x := s.axis n
  match axSpan s n, x.edges with
  | some (dp, dt), e :: _ =>
    let ex := dp * ((s.st - e.t : Nat) : Int) / dt
    let lim := max 0 (axInc s n - 2 ^ 16)
    x.pos + clampI (-lim) lim ex
  | _, _ => x.pos

/-- An interpolation step falls at every 16th timebase edge, counted from the start of the edge count (R57; the phase is a DESIGN CHOICE, log entry 109). -/
def axStepNow (s : State) : Bool := decide (s.clk % 16 = 0)

/-- The interpolation step of every enabled axis (R57): its interpolated position is taken anew. -/
def axStep (s : State) : State :=
  (List.range 4).foldl (fun a n => if axCfg_EN a n = 1 then a.setAxis n { a.axis n with interp := axInterp a n } else a) s

/-- After an interpolation step: AX_MAX as it stands is the mark the next step looks at (R69). -/
def axStepDone (s : State) : State :=
  (List.range 4).foldl (fun a n => if axCfg_EN a n = 1 then a.setAxis n { a.axis n with stepMax := (a.axis n).max } else a) s

/-- AX_SPEED (Q16.16 revolutions per second); 0 while idle. -/
def axSpeed (s : State) (n : Nat) : Int :=
  if (s.axis n).idle then 0
  else match axSpan s n with | some (dp, dt) => satS 32 (Int.tdiv (dp * secU) (2 ^ 32 * dt)) | none => 0

/-- The intervals' overlap with a second, in ns. -/
def spanIn (lo hi now : Nat) (l : List (Nat × Option Nat)) : Nat :=
  (l.map (fun x => min hi (x.2.getD now) - max lo x.1)).sum / nsU

/-- IDLE_US of a second on a grid's axis (R295); 0 on a time grid. -/
def idleUs (s : State) (g sec : Nat) : Nat :=
  let q := s.grid g
  if q.axis = 0 then 0 else spanIn (sec * secU) ((sec + 1) * secU) s.st (s.axis (q.axis - 1)).spans / 1000

end Sys2Proof.Machine
end

