-- ==== Sys2Proof/Machine/Que.lean ====
section
/-! DEFINITION. The commands of the QUE and STORE pages (R277 to R279, R282, R284, R287, R288, R292 to R295, R487, R488). -/

namespace Sys2Proof.Machine

/-! ### Starting and stopping a stream (R277 to R279) -/

/-- A stream descriptor's words in the table region, and what they mean with their bounds applied (R277). -/
def strRead (s : State) (n : Nat) : StrDesc :=
  let w (i : Nat) : Word := s.tblW (0x53000 + n * 0x20 + 4 * i)
  { format := fld (w 0) 26 24, protect := bit (w 0) 20, consumer := fld (w 0) 18 16, dest := fld (w 0) 15 8, ageMs := fld (w 1) 31 16,
    pktBytes := max 64 (min 2048 (fld (w 1) 11 0)), pages := fld (w 2) 23 0, level := (w 3).toNat, rsvKib := fld (w 4) 15 0 }

/-- The page runs of the live ring that other streams hold. -/
def strRuns (s : State) (n : Nat) : List (Nat × Nat) := (s.strs.filter (fun x => decide (x.1 ≠ n))).filterMap (fun x => x.2.region)

/-- The first free run of `k` pages of the live ring (R278). -/
def strPlace (s : State) (n k : Nat) : Option Nat :=
  let runs := strRuns s n
  let starts := 0 :: runs.map (fun r => r.1 + r.2)
  (starts.filter (fun a => decide (a + k ≤ s.store.live) && runs.all (fun r => decide (a + k ≤ r.1 ∨ r.1 + r.2 ≤ a)))).min?

/-- The fewest pages a region may have: twice the largest packet, or 33 for a compressed stream (R278). -/
def strLeast (s : State) (n : Nat) (d : StrDesc) : Nat :=
  if (s.cmp n).cfg.en then 33
  else
    let m := max 1 (s.members n).length
    cdiv (2 * max d.pktBytes (32 + payloadBytes d.format 1 m)) 4096

/-- Why a start is refused, if it is (R278). -/
def strRej (s : State) (n : Nat) : Option Nat :=
  let d := strRead s n
  if (s.str n).run then some 6
  else if !s.store.applied then some 5
  else if 3 ≤ d.format ∨ 4 ≤ d.consumer ∨ (d.consumer = 1 ∧ 8 ≤ d.dest) ∨ (d.consumer = 2 ∧ 2 ≤ d.dest) ∨ tblBad s (0x53000 + n * 0x20) 20 then some 4
  else if 3840 < d.rsvKib + ((s.strs.filter (fun x => decide (x.1 ≠ n) && x.2.run)).map (fun x => x.2.desc.rsvKib)).sum then some 2
  else if d.pages < strLeast s n d then some 3
  else if (strPlace s n d.pages).isNone then some 1
  else none

/-- QUE_REJ and QUE_START_REJ (R278). -/
def queRej (n r : Nat) (s : State) : State := raise pQUE 1 { s with store := { s.store with queRejReason := r, queRejStream := n } }

/-- QUE_CMD START (R278, R279). -/
def queStart (n : Nat) (s : State) : State :=
  match strRej s n with
  | some r => queRej n r s
  | none =>
    let d := strRead s n
    s.setStr n { run := true, region := (strPlace s n d.pages).map (fun a => (a, d.pages)), desc := d, startAt := s.st + usU, memSets := [(0, s.members n)] }

/-- QUE_CMD STOP (R279). -/
def queStop (n : Nat) (s : State) : State :=
  let st := s.str n
  if st.run ∧ st.stopAt.isNone then strSettle n (s.setStr n { st with stopAt := some (s.st + usU) }) else s

/-- QUE_CMD FREE: the region and its packets are given back; refused while the stream runs (R279). -/
def queFree (n : Nat) (s : State) : State :=
  let st := s.str n
  if st.run then queRej n 6 s
  else s.setStr n { st with region := none, pkts := [], reading := none, wrOfs := 0, gapNext := false }

/-! ### The head (R284, R287, R288) -/

/-- QUE_CMD DROP (R287). -/
def queDrop (n : Nat) (s : State) : State :=
  match (s.str n).reading with
  | none => s
  | some (q, _) =>
    let s1 := modPkt n q (fun p => { p with isRead := true }) (s.setStr n { s.str n with reading := none, gapNext := true })
    let s2 := match (s.str n).pkts.find? (fun p => decide (p.pseq = q)) with
      | some p => rangeEntry n 0x0F p.first p.last (if p.fmt = 5 then 0 else p.count * p.nmem) p.nmem s1
      | none => s1
    raise pQUE 2 s2

/-- The packets from the first that meets `p` on are to be read again, with REPLAY where they had been (R288). -/
def replayFrom (p : Pkt → Bool) (reading : Option (Nat × Nat)) : List Pkt → List Pkt
  | [] => []
  | x :: t =>
    if p x then (x :: t).map (fun y => if y.isRead || (match reading with | some (q, _) => decide (y.pseq = q) | none => false) then { y with isRead := false, replay := true } else y)
    else x :: replayFrom p reading t

/-- Mark the oldest packet GAP. -/
def gapOldest : List Pkt → List Pkt
  | [] => []
  | x :: t => { x with gap := true } :: t

/-- QUE_CMD REWIND (R288); packets to be read again count in the fill (R285, R286). -/
def queRewind (n : Nat) (s : State) : State :=
  let st := s.str n
  let idx := queRewindLo_IDX s + 2 ^ 32 * queRewindHi_IDX s
  if st.pkts.any (fun p => decide (idx ≤ p.last)) then
    let ps := replayFrom (fun p => decide (idx ≤ p.last)) st.reading st.pkts
    let older := match st.pkts with | p :: _ => decide (idx < p.first) | [] => false
    let s1 := s.setStr n { st with pkts := if older then gapOldest ps else ps, reading := none }
    raiseIf (decide (strFill st < st.desc.level) && decide (st.desc.level ≤ strFill (s1.str n))) pQUE 0 s1
  else s

/-- A read of QUE_RD (R284): the next word of the selected stream's head, 0 when none. -/
def queRead (s : State) : State :=
  let n := queSel_STREAM s
  if (s.str n).desc.consumer = 3 then
    let r := takeWord n s
    r.2.answer (r.1.getD 0)
  else s.answer 0

/-- PKT_AGE_MS has passed since the open packet opened (R282). -/
def pktAge (n : Nat) (s : State) : State :=
  let st := s.str n
  match st.openPkt with
  | some o => if st.desc.ageMs ≠ 0 ∧ o.fmt ≤ 3 ∧ o.opened + st.desc.ageMs * 1000000 ≤ s.clk then closePkt n false s else s
  | none => s

/-- Every open packet closes, as the hub enters or leaves VIGIL (R282). -/
def closeAll (s : State) : State := (s.strs.map (·.1)).foldl (fun a n => closePkt n false a) s

/-! ### The second entry (R295) -/

/-- The delivery bound W of a stream, in 2^-48 ns (R295). -/
def strBound (s : State) (n : Nat) : Nat :=
  let ms := s.members n
  let one (c : Nat) : Nat :=
    let d := (s.ctx c).desc
    if dMODE d ∨ dKIND d = 3 then s.periodN (dGRID d) * 2 ^ 15 else s.alignLat c * usU
  let q := if (s.cmp n).cfg.en then 256 * s.periodN (dGRID (s.ctx (ms.headD 0)).desc) * 2 ^ 16 / max 1 ms.length else 0
  (ms.map one).foldl max 0 + 4 * usU + q

/-- Whether second `sec` of a stream is complete: by its members, or on an angle grid by time (R295). -/
def secondDue (s : State) (n sec : Nat) : Bool :=
  let g := s.grid (dGRID (s.ctx ((s.members n).headD 0)).desc)
  secondDone s n sec ||
    (decide (g.axis ≠ 0) && decide ((sec + 1) * secU + axIdleTime_IDLE s (g.axis - 1) * msU + strBound s n ≤ s.st))

/-- On an angle grid a second's time has run out: its words still waiting in the input queue are lost and accounted (R268, R295). -/
def inqDrop (n sec : Nat) (s : State) : State :=
  let late (i : CmpIn) : Bool := decide (secOf i.t = sec)
  let c := s.cmp n
  let s1 := (c.inq.filter late).foldl (fun a i => inqLost n i a) s
  s1.setCmp n { c with inq := c.inq.filter (fun i => !(late i)), lostK := c.lostK ++ ((c.inq.filter late).map (·.k)).eraseDups, ovf := min 65535 (c.ovf + (c.inq.filter late).length) }

/-- The oldest complete second's entry is written once (R295). -/
def ledgerSecond (n : Nat) (s : State) : State :=
  let st := s.str n
  match st.nextSec with
  | none => s
  | some sec =>
    let ended := !st.run && decide (st.secs.all (fun a => decide (a.sec < sec))) && (match st.stopAt with | some u => decide (secOf u < sec) | none => true)
    if ended then s.setStr n { st with nextSec := none }
    else if secondDue s n sec then
      let s := if secondDone s n sec then s else inqDrop n sec s
      writeSecond n sec (idleUs s (dGRID (s.ctx ((membersAt st ((sec + 1) * secU - 1)).headD 0)).desc) sec) s
    else s

/-! ### Partitions and reading the store (R292, R293, R487, R488) -/

/-- STORE_PART_CMD APPLY (R292, R487). -/
def partApply (s : State) : State :=
  let l := storeLivePages_PAGES s
  let r := storeRecPages_PAGES s
  let g := storeLdgPages_PAGES s
  if s.strs.any (fun x => x.2.run || x.2.region.isSome) ∨ recKeys s ≠ [] ∨ s.dram.cap < l + r + g then raise pSTORE 4 s
  else
    let lost := min (2 ^ 32 - 1) (s.store.lgLost + ledgerUnread s)
    { s with store := { s.store with applied := true, live := l, recPages := r, ldg := g, lgLost := lost, lgRd := s.store.lgWr, lgOfs := 0, lgHeld := 0 } }

/-- STORE_RD_ADDR moves on by 4. -/
def rdAdvance (a : Nat) (s : State) : State :=
  (s.setRw storeRdAddrLoAt (word ((a + 4) % 2 ^ 32))).setRw storeRdAddrHiAt (word ((a + 4) / 2 ^ 32 % 4))

/-- A read of STORE_RD_DATA (R293). While the memory's ports are closed it waits: nothing is answered and the address stays. -/
def rdData (src : Nat) (s : State) : State :=
  let a := storeRdAddrLo_ADDR s * 4 + storeRdAddrHi_ADDR s * 2 ^ 32
  if s.dram.cap * 4096 ≤ a then (badAccess src 0x14128 false 6 (rdAdvance a s)).answer 0
  else if memOpen s then
    if memBad s a then (raise pSTORE 3 (eccUncorr a (rdAdvance a s))).answer 0
    else (eccRead a (rdAdvance a s)).answer (s.dramW a)
  else { s with lastRead := [] }

/-- A page reset of STORE (R488). -/
def storeReset (s : State) : State :=
  let s1 := ((s.setRw storeLivePagesAt (word s.store.live)).setRw storeRecPagesAt (word s.store.recPages)).setRw storeLdgPagesAt (word s.store.ldg)
  { s1 with store := { s1.store with xfer := none } }

/-- A page reset of QUE: every stream stops and its region and packets are given back. -/
def queReset (s : State) : State := { s with strs := [], store := { s.store with queRejReason := 0, queRejStream := 0 } }

end Sys2Proof.Machine
end

