-- ==== Sys2Proof/Machine/Grid.lean ====
section
/-! DEFINITION. Grid generators (R58, R63 to R66): starting, refusing, producing indices on time and angle grids, stopping. -/

namespace Sys2Proof.Machine

/-- A grid's descriptor fields as read at its start (R63). -/
structure GridDesc where
  axis : Nat
  origin : Int
  ns : Nat
  period : Nat
  start : Nat
  stop : Nat
  deriving DecidableEq, Repr

/-- Read grid `g`'s descriptor; the origin of a time grid in 2^-32 ns, of an angle grid in angle units. -/
def gridRead (s : State) (g : Nat) : GridDesc :=
  let d := s.gridDesc g
  let w (i : Nat) : Word := d.getD i 0
  let a := fld (w 0) 2 0
  let ns := fld (w 3) 29 0
  let o : Int := if a = 0 then (((w64 (w 1) (w 2) * 1000000000 + ns) * n32 + (w 4).toNat : Nat) : Int) else sgn 64 (w64 (w 1) (w 2))
  ⟨a, o, ns, w64 (w 5) (w 6), w64 (w 7) (w 8), w64 (w 9) (w 10)⟩

/-- The first index at or after START_IDX whose instant is at least `t` (2^-48 ns), or whose angle lies above AX_MAX (R65). -/
def gridFirst (s : State) (d : GridDesc) (t : Nat) : Nat :=
  if d.axis = 0 then
    let gap := (t : Int) - d.origin * 2 ^ 16
    if gap ≤ 0 then d.start else max d.start (cdiv gap.toNat (d.period * 2 ^ 16))
  else
    let gap := (s.axis (d.axis - 1)).max - d.origin * 2 ^ 16
    if gap < 0 then d.start else max d.start (gap.toNat / (d.period * 2 ^ 16) + 1)

/-- Why a start is refused, if it is (R64). -/
def gridRej (s : State) (g t : Nat) : Option Nat :=
  let d := gridRead s g
  if 5 ≤ d.axis ∨ tblBad s (0x50000 + g * 0x40) 0x40 then some 6
  else if (d.axis = 0 ∧ (d.period < 15625 * n32 ∨ 4000000000 * n32 < d.period)) ∨ (d.axis ≠ 0 ∧ (d.period < 2 ^ 16 ∨ 2 ^ 40 < d.period)) then some 1
  else if d.axis ≠ 0 ∧ axCfg_EN s (d.axis - 1) = 0 then some 2
  else if s.tb.step.isSome then some 3
  else if d.stop < d.start then some 4
  else if 1000000000 ≤ d.ns then some 5
  else if d.stop < gridFirst s d t then some 7
  else if (s.enabled.filter (fun c => decide (dGRID (s.ctx c).desc = g))).any (fun c => rateReason s (s.ctx c).desc) then some 8
  else none

/-- An angle grid whose accepted stop has come by the instant `t`: it has ended but for indices an edge yet to come would place before the stop,
and a start at that instant goes on with the index that follows (R66). -/
def gridStopped (q : GridSt) (t : Nat) : Bool := decide (q.axis ≠ 0) && (match q.stopAt with | some e => decide (e ≤ t) | none => false)

/-- The contexts on a grid that has ended end their fades (R139). -/
def endFades (g : Nat) (s : State) : State :=
  (s.enabled.filter (fun c => decide (dGRID (s.ctx c).desc = g) && (s.ctx c).fading)).foldl (fun a c => endFade c a) s

/-- The end of a grid (R66). -/
def gridEnd (g : Nat) (s : State) : State := endFades g (raise pAXIS 6 (s.setGrid g { s.grid g with run := false, stopAt := none }))

/-- Start grid `g` so that its first index lies at or after `t` (R64, R65); a running grid ignores it. `start` is the start of the grid for its
contexts: the acceptance of GRID_CMD, or the schedule entry's instant (R164). -/
def gridStart (g t start : Nat) (s1 : State) : State :=
  let s := if (s1.grid g).run && gridStopped (s1.grid g) start then gridEnd g s1 else s1
  if (s.grid g).run then s
  else
    match gridRej s g t with
    | some r => raise pAXIS 7 { s with gctl := ⟨r, g⟩ }
    | none =>
      let d := gridRead s g
      let k := gridFirst s d t
      let q := s.grid g
      let s0 := (s.ctxKeys.filter (fun c => decide (dGRID (s.ctx c).desc = g))).foldl (fun a c => shedTail c a) s
      let s1 := s0.setGrid g { q with run := true, axis := d.axis, origin := d.origin, period := d.period, startIdx := k, stopIdx := d.stop, next := k, stopAt := none, noteDue := false, made := [] }
      raise pAXIS 5 (startGridCtxs g start k s1)

/-- Whether the next index lies at or past an accepted stop: on a time grid by its instant; on an angle grid once no bracketing edge
before the stop can come any more. -/
def gridPast (s : State) (q : GridSt) : Bool :=
  match q.stopAt with
  | none => false
  | some e =>
    if q.axis = 0 then decide ((e : Int) ≤ (q.origin + (q.next * q.period : Nat)) * 2 ^ 16)
    else
      let x := s.axis (q.axis - 1)
      let target := (q.origin + (q.next * q.period : Nat)) * 2 ^ 16
      decide (x.max < target) && ((match x.edges with | d :: _ => decide (e ≤ d.t) | [] => true) || (x.idle && decide (e ≤ s.st)))

/-- A stop whose last index lies before `t` (R66). -/
def gridStop (g t : Nat) (s : State) : State :=
  let q := s.grid g
  if !q.run then s
  else
    let q1 := { q with stopAt := some (min t (q.stopAt.getD t)) }
    let s1 := s.setGrid g q1
    if gridPast s1 q1 then gridEnd g s1 else s1

/-- The two counted edges that bracket a position, the oldest such pair: older and later edge. -/
def bracket (p : Int) : List AxEdge → Option (AxEdge × AxEdge)
  | b :: a :: r =>
    match bracket p (a :: r) with
    | some q => some q
    | none => if a.pos < p ∧ p ≤ b.pos then some (a, b) else none
  | _ => none

/-- The instant of an angle by linear interpolation between its bracketing edges (R58), and whether the axis went idle between them. The instant is
held in 2^-48 ns and what lies below is dropped (DESIGN CHOICE, log entry 111). -/
def angleInst (x : AxSt) (p : Int) : Option (Nat × Bool) :=
  match bracket p x.edges with
  | some (a, b) => if b.afterIdle then some (b.t, true) else some (a.t + ((p - a.pos) * ((b.t - a.t : Nat) : Int) / (b.pos - a.pos)).toNat, false)
  | none => (x.edges.getLast?).map (fun e => (e.t, true))

/-- The instant of a grid's next index where it has been reached, and whether its rate is undefined (R58, R59, R63). -/
def gridDue (s : State) (q : GridSt) : Option (Nat × Bool) :=
  if q.axis = 0 then
    let t := (q.origin + (q.next * q.period : Nat)).toNat * 2 ^ 16
    if t ≤ s.st then some (t, false) else none
  else
    let x := s.axis (q.axis - 1)
    let p := (q.origin + (q.next * q.period : Nat)) * 2 ^ 16
    if x.reversed ∨ x.idle ∨ x.max < p then none else angleInst x p

/-- Record the index just reached. The time since the index before it is undefined where the axis was idle or paused between the two (R176). -/
def gridMake (s : State) (q : GridSt) (t : Nat) (undef : Bool) : GridInst :=
  let x := s.axis (q.axis - 1)
  let prev := (q.made.head?).filter (fun g => decide (g.k + 1 = q.next) && decide (q.next ≠ q.startIdx)
    && !(x.spans.any (fun p => decide (p.1 ≤ t) && (match p.2 with | some e => decide (g.t < e) | none => true))))
  { k := q.next, t := t, hold := holdAt s t,
    dt := if q.axis = 0 then some (q.period * 2 ^ 16) else if undef || q.noteDue then none else prev.map (fun g => t - g.t),
    note := if q.noteDue then some (x.revAt, x.lowest / 2 ^ 16) else none }

/-- A running grid reaches its next index and produces it (R63, R66); an accepted stop already past ends it. -/
def gridTick (g : Nat) (s : State) : State :=
  let q := s.grid g
  if !q.run then s
  else if gridPast s q then gridEnd g s
  else
    match gridDue s q with
    | none => s
    | some (t, undef) =>
      if (match q.stopAt with | some e => decide (e ≤ t) | none => false) then gridEnd g s
      else
        let q1 := { q with made := gridMake s q t undef :: q.made.take 4095, next := q.next + 1, noteDue := false }
        let s1 := s.setGrid g q1
        if q.next = q.stopIdx ∨ gridPast s1 q1 then gridEnd g s1 else s1

/-- A write of GRID_CMD with OP start at the present instant (R65). On an angle grid AT_SEC has no effect: there "instant at least" means an angle
above AX_MAX, and R65 gives the whole second no angle (DESIGN CHOICE, log entry 111). -/
def gridCmdStart (g : Nat) (atSec : Bool) (s : State) : State :=
  let a := s.st + usU
  gridStart g (if atSec then max a ((s.sec + 1) * secU) else a) s.st s

/-- A write of GRID_CMD with OP stop (R66). -/
def gridCmdStop (g : Nat) (s : State) : State := gridStop g (s.st + usU) s

end Sys2Proof.Machine
end

