-- ==== Sys2Proof/Machine/Sha.lean ====
section
/-! DEFINITION. SHA-384 (FIPS 180-4), which R111, R439, R442, R444 and R445 name, and HMAC-SHA-384 (R445). Bytes and 64-bit words are
numbers. The constants are the standard's, which the spec names and does not print (PRESUMED, log entry 121). -/

namespace Sys2Proof.Machine

/-! ### The round constants: the fractional parts of the cube roots of the first 80 primes -/

def shaK0 : List Nat :=
  [0x428a2f98d728ae22, 0x7137449123ef65cd, 0xb5c0fbcfec4d3b2f, 0xe9b5dba58189dbbc,
   0x3956c25bf348b538, 0x59f111f1b605d019, 0x923f82a4af194f9b, 0xab1c5ed5da6d8118,
   0xd807aa98a3030242, 0x12835b0145706fbe, 0x243185be4ee4b28c, 0x550c7dc3d5ffb4e2,
   0x72be5d74f27b896f, 0x80deb1fe3b1696b1, 0x9bdc06a725c71235, 0xc19bf174cf692694]
def shaK1 : List Nat :=
  [0xe49b69c19ef14ad2, 0xefbe4786384f25e3, 0x0fc19dc68b8cd5b5, 0x240ca1cc77ac9c65,
   0x2de92c6f592b0275, 0x4a7484aa6ea6e483, 0x5cb0a9dcbd41fbd4, 0x76f988da831153b5,
   0x983e5152ee66dfab, 0xa831c66d2db43210, 0xb00327c898fb213f, 0xbf597fc7beef0ee4,
   0xc6e00bf33da88fc2, 0xd5a79147930aa725, 0x06ca6351e003826f, 0x142929670a0e6e70]
def shaK2 : List Nat :=
  [0x27b70a8546d22ffc, 0x2e1b21385c26c926, 0x4d2c6dfc5ac42aed, 0x53380d139d95b3df,
   0x650a73548baf63de, 0x766a0abb3c77b2a8, 0x81c2c92e47edaee6, 0x92722c851482353b,
   0xa2bfe8a14cf10364, 0xa81a664bbc423001, 0xc24b8b70d0f89791, 0xc76c51a30654be30,
   0xd192e819d6ef5218, 0xd69906245565a910, 0xf40e35855771202a, 0x106aa07032bbd1b8]
def shaK3 : List Nat :=
  [0x19a4c116b8d2d0c8, 0x1e376c085141ab53, 0x2748774cdf8eeb99, 0x34b0bcb5e19b48a8,
   0x391c0cb3c5c95a63, 0x4ed8aa4ae3418acb, 0x5b9cca4f7763e373, 0x682e6ff3d6b2b8a3,
   0x748f82ee5defb2fc, 0x78a5636f43172f60, 0x84c87814a1f0ab72, 0x8cc702081a6439ec,
   0x90befffa23631e28, 0xa4506cebde82bde9, 0xbef9a3f7b2c67915, 0xc67178f2e372532b]
def shaK4 : List Nat :=
  [0xca273eceea26619c, 0xd186b8c721c0c207, 0xeada7dd6cde0eb1e, 0xf57d4f7fee6ed178,
   0x06f067aa72176fba, 0x0a637dc5a2c898a6, 0x113f9804bef90dae, 0x1b710b35131c471b,
   0x28db77f523047d84, 0x32caab7b40c72493, 0x3c9ebe0a15c9bebc, 0x431d67c49c100d4c,
   0x4cc5d4becb3e42b6, 0x597f299cfc657e2a, 0x5fcb6fab3ad6faec, 0x6c44198c4a475817]
def shaK : List Nat := shaK0 ++ shaK1 ++ shaK2 ++ shaK3 ++ shaK4

/-- Eight working words. -/
structure ShaWords where
  a : Nat
  b : Nat
  c : Nat
  d : Nat
  e : Nat
  f : Nat
  g : Nat
  h : Nat
  deriving DecidableEq, Repr

/-- The starting value of SHA-384: the fractional parts of the square roots of the 9th to 16th primes. -/
def shaInit : ShaWords :=
  ⟨0xcbbb9d5dc1059ed8, 0x629a292a367cd507, 0x9159015a3070dd17, 0x152fecd8f70e5939, 0x67332667ffc00b31, 0x8eb44a8768581511, 0xdb0c2e0d64f98fa7, 0x47b5481dbefa4fa4⟩

/-- Addition of 64-bit words, and rotation right. -/
def add64 (x y : Nat) : Nat := (x + y) % 2 ^ 64
def rotr64 (n x : Nat) : Nat := x / 2 ^ n + x % 2 ^ n * 2 ^ (64 - n)

/-- The standard's functions on 64-bit words. -/
def shaSum0 (x : Nat) : Nat := rotr64 28 x ^^^ rotr64 34 x ^^^ rotr64 39 x
def shaSum1 (x : Nat) : Nat := rotr64 14 x ^^^ rotr64 18 x ^^^ rotr64 41 x
def shaSig0 (x : Nat) : Nat := rotr64 1 x ^^^ rotr64 8 x ^^^ x / 2 ^ 7
def shaSig1 (x : Nat) : Nat := rotr64 19 x ^^^ rotr64 61 x ^^^ x / 2 ^ 6
def shaCh (x y z : Nat) : Nat := (x &&& y) ^^^ ((2 ^ 64 - 1 - x) &&& z)
def shaMaj (x y z : Nat) : Nat := (x &&& y) ^^^ (x &&& z) ^^^ (y &&& z)

/-- One round, with its constant and its schedule word. -/
def shaRound (v : ShaWords) (k w : Nat) : ShaWords :=
  let t := v.h + shaSum1 v.e + shaCh v.e v.f v.g + k + w
  ⟨add64 t (shaSum0 v.a + shaMaj v.a v.b v.c), v.a, v.b, v.c, add64 v.d t, v.e, v.f, v.g⟩

/-- The schedule word 16 rounds on, from the 16 words at hand. -/
def shaNext (ws : List Nat) : Nat := add64 (shaSig1 (ws.getD 14 0) + ws.getD 9 0) (shaSig0 (ws.getD 1 0) + ws.getD 0 0)

/-- The rounds, over the constants left and the next 16 schedule words. -/
def shaRounds : List Nat → List Nat → ShaWords → ShaWords
  | [], _, v => v
  | k :: ks, ws, v => shaRounds ks (ws.drop 1 ++ [shaNext ws]) (shaRound v k (ws.getD 0 0))

/-- One block of 16 words. -/
def shaBlock (h : ShaWords) (ws : List Nat) : ShaWords :=
  let v := shaRounds shaK ws h
  ⟨add64 h.a v.a, add64 h.b v.b, add64 h.c v.c, add64 h.d v.d, add64 h.e v.e, add64 h.f v.f, add64 h.g v.g, add64 h.h v.h⟩

/-- A byte string as a number, its first byte the most significant; and a number as bytes in that order. -/
def bigNat (bs : List Nat) : Nat := bs.foldl (fun a b => 256 * a + b) 0
def bigBytes (n x : Nat) : List Nat := (List.range n).map (fun i => x / 2 ^ (8 * (n - 1 - i)) % 256)

/-- The 16 words of a block of 128 bytes. -/
def shaBlockWords (bs : List Nat) : List Nat := (List.range 16).map (fun i => bigNat ((bs.drop (8 * i)).take 8))

/-- The message with its padding: a 1 bit, zeros, and the length in bits as 16 bytes. -/
def shaPad (bs : List Nat) : List Nat :=
  bs ++ 0x80 :: List.replicate ((239 - bs.length % 128) % 128) 0 ++ bigBytes 16 (8 * bs.length)

/-- The blocks in turn. -/
def shaBlocks : Nat → List Nat → ShaWords → ShaWords
  | 0, _, h => h
  | k + 1, bs, h => shaBlocks k (bs.drop 128) (shaBlock h (shaBlockWords (bs.take 128)))

/-- SHA-384 of a byte string: the first six words. -/
def sha384 (bs : List Nat) : BitVec 384 :=
  let p := shaPad bs
  let h := shaBlocks (p.length / 128) p shaInit
  BitVec.ofNat 384 (((((h.a * 2 ^ 64 + h.b) * 2 ^ 64 + h.c) * 2 ^ 64 + h.d) * 2 ^ 64 + h.e) * 2 ^ 64 + h.f)

/-- The 48 bytes of a digest, the most significant first. -/
def digBytes (d : BitVec 384) : List Nat := bigBytes 48 d.toNat

/-- HMAC-SHA-384 of a message under a key of at most 128 bytes, as bytes. -/
def hmac384 (key msg : List Nat) : List Nat :=
  let k := key ++ List.replicate (128 - key.length) 0
  digBytes (sha384 (k.map (· ^^^ 0x5C) ++ digBytes (sha384 (k.map (· ^^^ 0x36) ++ msg))))

end Sys2Proof.Machine
end

