-- ==== Sys2Proof/Machine/Cal.lean ====
section
/-! DEFINITION. OTP trim loading (R111), the calibration supervisor (R112 to R121, R486), the mitten temperature (R96) and the skew
measurement (R170 to R172). -/

namespace Sys2Proof.Machine

/-! ### OTP (R109, R111) -/

/-- The byte addresses of the trim region's words. -/
def otpAddrs : List Nat := (List.range 2560).map (4 * ·)

/-- The slices a word's record belongs to (R109, R111). -/
def otpSlices (a : Nat) : List Nat :=
  if 0x40 ≤ a ∧ a < 0x240 then (List.range 4).map (fun i => 4 * ((a - 0x40) / 0x20) + i)
  else if 0x240 ≤ a ∧ a < 0x640 then [(a - 0x240) / 0x10]
  else if 0x640 ≤ a ∧ a < 0x2640 then [(a - 0x640) / 0x80]
  else []

/-- Load one OTP word: count its ECC verdict and mark the slices of an uncorrectable one (R111). -/
def otpWordLoad (a : Nat) (s : State) : State :=
  match Config.otpEcc (a / 4) with
  | 0 => s
  | 1 => raise pOTP 1 { s with otp := { s.otp with corr := satInc 8 s.otp.corr } }
  | _ =>
    let m := (otpSlices a).foldl (fun m n => m ||| 2 ^ n) s.otp.badMask
    raise pOTP 1 { s with otp := { s.otp with uncorr := satInc 8 s.otp.uncorr, badMask := m } }

/-- Load the trim (R111): every word's verdict, the digest of the region, OTP_LOADED. -/
def otpLoad (s : State) : State :=
  let s1 := otpAddrs.foldl (fun t a => otpWordLoad a t) { s with otp := {} }
  let bytes := otpAddrs.flatMap (fun a => (List.range 4).map (fun i => (byteOf (s.otpWord a) i).toNat))
  raise pOTP 0 { s1 with otp := { s1.otp with loaded := true, digest := (sha384 bytes).toNat } }

/-- A read of OTP_DATA (R111): the word at OTP_ADDR (0, its reset value, before the load: DEDUCED, log entry 103), which then advances, or returns to 0 from 0x27FC on. -/
def otpDataRead (s : State) : State :=
  let a := 4 * otpAddr_ADDR s
  let w := if !s.otp.loaded || decide (0x27FC < a) then 0 else s.otpWord a
  ((s.setFld otpAddrAt 13 2 (if 0x27FC ≤ a then 0 else a / 4 + 1))).answer w

/-! ### The trim codes of a slice (R112) -/

/-- The codes a slice loads when its mitten's domain comes up: OFS, GAIN (R111, R112). -/
def State.trimCodes (s : State) (n : Nat) : Nat × Nat :=
  if s.otpOvr n then (2048, 2048)
  else (fld (s.otpWord (0x240 + 0x10 * n + 4)) 11 0, fld (s.otpWord (0x240 + 0x10 * n + 4)) 27 16)

/-- The gain target of R117 at a temperature in 0.01 °C. -/
def State.calTarget (s : State) (n : Nat) (temp : Int) : Int :=
  if s.otpOvr n then 4194304
  else
    let m := 0x40 + 0x20 * (n / 4)
    let r := s.otpWord (m + 4)
    let dt := temp - sfld (s.otpWord m) 15 0
    let c : Int := fld (s.otpWord (0x240 + 0x10 * n + 8)) 23 0
    rdivAway (c * (10 ^ 14 + sfld r 31 16 * 1000 * dt + sfld r 15 0 * dt * dt)) (10 ^ 14)

/-! ### The supervisor (R113 to R116) -/

/-- CAL_CFG.RETRY_S in nanoseconds; 0 acts as 1. -/
def calRetryNs (s : State) : Nat := max 1 (calCfg_RETRY_S s) * 1000000000
/-- CAL_CFG.MAX_PAR with its bounds. -/
def calMaxPar (s : State) : Nat := max 1 (calCfg_MAX_PAR s)
/-- CAL_THRESH with its bounds. -/
def calThresh (s : State) : Nat := max 5 (min 800 (calThresh_THRESH s))

/-- abs(MT_TEMP − CAL_SL_TEMP). -/
def calDiff (s : State) (n : Nat) : Nat := ((s.mitt (n / 4)).temp - (s.cal n).temp).natAbs

/-- A CAL event of a slice (CAL_LAST). -/
def calRaise (n b : Nat) (s : State) : State := raise pCAL b { s with calctl := { s.calctl with last := n } }

/-- The slices the supervisor has something to do for. -/
def State.calKeys (s : State) : List Nat := s.cals.map (·.1)

/-- A slice recalibrates, or holds or asks for its leave. -/
def calTaken (c : CalSl) : Bool := c.running || c.asking || c.t0.isSome

/-- The contexts whose open records affect a slice (R116). -/
def calAffects (s : State) (n : Nat) : List Nat :=
  let own := setCtxs (s.slice (s.pairEven n)).app ++ setCtxs (s.slice n).app
  own ++ s.ctxKeys.filter (fun c => decide (dKIND (s.ctx c).desc = 2) && decide (dSOURCE (s.ctx c).desc ∈ own))

/-- Whether a record affecting the slice is open (R116). -/
def calAffected (s : State) (n : Nat) : Bool := (calAffects s n).any (fun c => recordOpenOn s c)

/-- A slice becomes due (R113) unless it is due already, runs, or waits after a failure. -/
def calDue (n : Nat) (s : State) : State :=
  let c := s.cal n
  if c.dueAt.isSome || (c.running && c.verdict != some true) || c.retryAt.isSome || c.fault then s
  else s.setCal n { c with dueAt := some s.clk, expired := false }

/-- Whether a due slice may be served now, its records apart: its reference settled after a power-up, its mitten's domain up and not
under skew measurement, and no slice of its mitten taken (R113, R115, R172). -/
def calReady (s : State) (n : Nat) : Bool :=
  let c := s.cal n
  c.dueAt.isSome && !(calTaken c) && c.retryAt.isNone && (!c.upOff || c.settled) && decide ((s.dom (1 + n / 4)).st ≠ 4)
    && !(s.align.run && s.align.measuring.testBit (n / 4)) && (s.page pCAL).rstEnd.isNone && (s.page (pSLICE n)).rstEnd.isNone
    && (List.range 4).all (fun i => !(calTaken (s.cal (n / 4 * 4 + i))))

/-- A slice's deferral ends: CAL_SL_DEFER keeps the whole seconds it lasted. -/
def undefer (s : State) (c : CalSl) : CalSl :=
  match c.deferAt with
  | some a => { c with deferAt := none, deferSec := (s.clk - a) / 1000000000 }
  | none => c

/-- 600 s have passed since a slice became due that an open record still holds back (R116): it proceeds, and the records that affect it note STALE. -/
def calExpire (n : Nat) (s : State) : State :=
  let c := s.cal n
  match c.dueAt with
  | some d =>
    if s.passed d 600000000000 && !c.expired && !(calTaken c) && !c.forced && calAffected s n then
      calRaise n 4 (markStale (calAffects s n) (s.setCal n { undefer s c with expired := true }))
    else s
  | none => s

/-- Apply the deferral of R116 to one due slice. -/
def calDefer (n : Nat) (s : State) : State :=
  let c := s.cal n
  if c.dueAt.isSome && !(calTaken c) && !c.forced && !c.expired then
    if calAffected s n then
      if s.passed (c.dueAt.getD 0) 600000000000 then calExpire n s
      else if c.deferAt.isSome then s
      else calRaise n 3 (s.setCal n { c with deferAt := some s.clk, deferSec := 0 })
    else s.setCal n (undefer s c)
  else s

/-- Ask for leave for a slice (R114). -/
def calAsk (n : Nat) (gapEnd : Option Nat) (s : State) : State :=
  bgtAsk 4 n (calLeave_MW s) (some 24) none (s.setCal n { s.cal n with asking := true, gapEnd := gapEnd })

/-- The due slice served next: the largest temperature difference, then the lower number (R115). -/
def calBest (s : State) : List Nat → Option Nat
  | [] => none
  | n :: t =>
    match calBest s t with
    | none => some n
    | some m => if calDiff s n < calDiff s m then some m else some n

/-- Serve due slices of `ns` until MAX_PAR are taken (R114, R115). -/
def calServeGo (ns : List Nat) (gapEnd : Option Nat) : Nat → State → State
  | 0, s => s
  | fuel + 1, s =>
    if calMaxPar s ≤ (s.calKeys.filter (fun n => calTaken (s.cal n))).length then s
    else match calBest s (ns.filter (fun n => calReady s n && (s.cal n).deferAt.isNone)) with
      | none => s
      | some n => calServeGo ns gapEnd fuel (calAsk n gapEnd s)

/-- A slice is served only within CAL_SLOT gaps: with GAP_MODE 0, and not after a power-up of its mitten (R114). -/
def needsGap (s : State) (n : Nat) : Bool := decide (calCfg_GAP_MODE s = 0) && !(s.cal n).upOff

/-- The supervisor acts on the due slices that need no CAL_SLOT gap: all with GAP_MODE 1, those after a power-up with GAP_MODE 0. -/
def calServe (s : State) : State :=
  let s1 := s.calKeys.foldl (fun a n => calDefer n a) s
  calServeGo (s1.calKeys.filter (fun n => !(needsGap s1 n))) none 64 s1

/-- At the end of an instant the supervisor serves the slices that are due (R115): what fell due at one instant is ordered together. -/
def calSweep (s : State) : State := if s.calKeys.any (fun n => (s.cal n).dueAt.isSome) then calServe s else s

/-- A CAL_SLOT gap ending at `gapEnd` for the slices that meet `p` (R114). A slice that waits RETRY_S after a refusal asks in the newest gap (DESIGN
CHOICE, log entry 114). -/
def calGap (p : Nat → Bool) (gapEnd : Nat) (s : State) : State :=
  let s1 := s.calKeys.foldl (fun a n => calDefer n a) s
  let ns := s1.calKeys.filter (fun n => p n && needsGap s1 n)
  let s2 := ns.foldl (fun a n => if (a.cal n).retryAt.isSome && (a.cal n).gapEnd.isSome then a.setCal n { a.cal n with gapEnd := some gapEnd } else a) s1
  calServeGo ns (some gapEnd) 64 s2

/-- The first whole millisecond of ST at least 1 µs after now. -/
def State.nextMs (s : State) : Nat := cdiv (s.st + usU) msU * msU

/-- The governor granted leave to slice `n` (R114). -/
def calGranted (n : Nat) (s : State) : State :=
  let c := s.cal n
  let t0 := s.nextMs
  match c.gapEnd with
  | some e =>
    if t0 + 24 * msU ≤ e then s.setCal n { c with asking := false, t0 := some t0, gapEnd := none }
    else bgtRelease 4 n (s.setCal n { c with asking := false, gapEnd := none })
  | none => s.setCal n { c with asking := false, t0 := some t0 }

/-- The governor refused leave to slice `n` (R114). -/
def calRefused (n : Nat) (s : State) : State :=
  calRaise n 5 (s.setCal n { s.cal n with asking := false, retryAt := some (s.clk + calRetryNs s) })

/-- RETRY_S seconds after a refusal or a failure (R114, R118): the supervisor asks again, within the CAL_SLOT gap it asked in before. -/
def calRetry (n : Nat) (s : State) : State :=
  let c := s.cal n
  match c.retryAt with
  | some t =>
    if t ≤ s.clk then
      let s1 := s.setCal n { c with retryAt := none, gapEnd := none, dueAt := some (c.dueAt.getD s.clk) }
      calServe (if c.gapEnd.isSome && needsGap s n then calServeGo [n] c.gapEnd 1 (calDefer n s1) else s1)
    else s
  | none => s

/-- CAL_MAX_AGE hours since the last success (R113). -/
def calAge (n : Nat) (s : State) : State :=
  if calCfg_AUTO_EN s = 1 ∧ calMaxAge_AGE s ≠ 0 ∧ (s.cal n).sec + 3600 * calMaxAge_AGE s ≤ s.sec ∧ (s.dom (1 + n / 4)).st ≠ 4
  then calServe (calDue n s) else s

/-- A write of CAL_FORCE for one slice (R113, R118, R121). -/
def calForceOne (n : Nat) (s : State) : State :=
  let c := s.cal n
  let c1 := { undefer s c with forced := true, retryAt := none }
  s.setCal n (if c.running || c.dueAt.isSome then c1 else { c1 with dueAt := some s.clk, expired := false })

/-- A write of CAL_FORCE_LO or CAL_FORCE_HI (R113). -/
def calForce (hi : Bool) (v : Word) (s : State) : State :=
  calServe (((List.range 32).filter (fun i => bit v i)).foldl (fun a i => calForceOne (i + if hi then 32 else 0) a) s)

/-! ### A recalibration (R117 to R121) -/

/-- Gap start t0 (R117, step 1). -/
def calStart (n : Nat) (s : State) : State :=
  let c := s.cal n
  match c.t0 with
  | some t =>
    if t ≤ s.st ∧ !c.running then
      calRaise n 0 (s.setCal n { undefer s c with running := true, outs := 0, acc := 0, verdict := none, oldOfs := c.ofs, oldGain := c.gain, calTemp := (s.mitt (n / 4)).temp, forced := false })
    else s
  | none => s

/-- The contexts of a slice are owed STALE outputs for a settling event at `t` (R120). -/
def calStaleEvents (n t : Nat) (s : State) : State :=
  let e := s.pairEven n
  let path := if e ≠ n then 2 else if s.leadsPair e then 1 else 0
  (setCtxs (s.slice e).app).eraseDups.foldl (fun a c => settleEvent c t 0 true path a) s

/-- Step 7 at `t`: a pending set waiting to apply applies and the slot in force restarts (R85, R117). A pair's odd slice comes back to the slot that the
even one is in (R99). -/
def calStep7 (n t : Nat) (s : State) : State :=
  let s1 := if (s.slice n).applyAt.isSome && s.slicePending n then applySlice n t s else s
  if s1.pairEven n = n ∧ aEN (s1.slice n).app then startSlot n (s1.slice n).slot t (s1.slice n).slotDiff s1 else s1

/-- The end of the SETTLE wait of the slot that a slice came back to at step 7, at `t` (R117). -/
def calWait (s : State) (n t : Nat) : Nat :=
  let x := s.slice (s.pairEven n)
  if !(aEN x.app) then 0 else if s.pairEven n = n then x.waitEnd.getD 0 else slotWait x.app x.slot t

/-- A page reset of CAL or of the slice ends a running recalibration (R121): the codes return, the slice stays due, and t1 is
the end of the reset. -/
def calCancel (n : Nat) (s : State) : State :=
  let c := s.cal n
  let due := if c.running then some (c.dueAt.getD s.clk) else c.dueAt
  let t1 := s.st + 2 * usU
  let s1 := bgtDrop 4 n (s.setCal n { c with running := false, verdict := none, asking := false, t0 := none, gapEnd := none, dueAt := due, ofs := (if c.running then c.oldOfs else c.ofs), gain := (if c.running then c.oldGain else c.gain), t1 := (if c.running then t1 else c.t1) })
  if c.running then calStaleEvents n t1 (if c.verdict.isNone then calStep7 n t1 s1 else s1) else s1

/-- GAIN_RES from the sum of eight gain readings (R117 step 5): what their mean is off the target, in units of 0.1 ppm. The spec states
none for a target of 0: the open value `v`. -/
def gainResid (sum target : Int) (v : Nat) : Int :=
  clampI (-32768) 32767 (if target = 0 then sgn 16 v else rdivAway ((sum - 8 * target) * 10000000 * (if target < 0 then -1 else 1)) (8 * target.natAbs))

/-- OFS_RES from the sum of eight offset readings (R117 step 6): their mean in nV at gain 128 by R79. -/
def ofsResid (sum : Int) : Int := clampI (-32768) 32767 (rdivAway (sum * 2500000000) (8 * 128 * 2 ^ 23))

/-- R118's judgement: whether the recalibration succeeded. -/
def calGood (ofs gain : Nat) (ofsRes gainRes : Int) : Bool :=
  decide (ofs ≠ 0) && decide (ofs ≠ 4095) && decide (gain ≠ 0) && decide (gain ≠ 4095) && decide (ofsRes.natAbs ≤ 600) && decide (gainRes.natAbs ≤ 100)

/-- The judgement of step 7 (R117, R118): what a successful recalibration, which ends at `t1`, leaves of a slice. -/
def calKept (c : CalSl) (t1 : Nat) : CalSl :=
  { c with verdict := some true, temp := c.calTemp, sec := secOf t1, failCnt := 0, fault := false, count := c.count + 1, dueAt := none, expired := false, t1 := t1 }

/-- What a failed one leaves (R118). -/
def calFailed (c : CalSl) (t1 : Nat) : CalSl :=
  { c with verdict := some false, ofs := c.oldOfs, gain := c.oldGain, failCnt := min 15 (c.failCnt + 1), fault := decide (3 ≤ c.failCnt + 1), dueAt := none, expired := false, t1 := t1 }

/-- Step 7 at t0 + 23 ms: the slot restarts, the result is judged, and the slice is judged against the temperature it has just stored (R117, R118,
R121). -/
def calJudge (n t0 : Nat) (s : State) : State :=
  let t := t0 + 23 * msU
  let s1 := calStep7 n t s
  let c := s1.cal n
  let t1 := max (t0 + 24 * msU) (calWait s1 n t)
  let good := calGood c.ofs c.gain c.ofsRes c.gainRes
  let s2 := s1.setCal n (if good then calKept c t1 else calFailed c t1)
  if good && decide (calCfg_AUTO_EN s2 = 1) && decide (calThresh s2 < calDiff s2 n) then s2.setCal n { s2.cal n with dueAt := some s2.clk } else s2

/-- A trial of a search (R117): the bits below `b` of `code` are still to be tried, and bit `b` is on trial. It is kept or cleared, and the next set. -/
def calTrial (keep : Bool) (code b : Nat) : Nat :=
  let c1 := if keep then code else code - 2 ^ b
  if b = 0 then c1 else c1 + 2 ^ (b - 1)

/-- The sum of the present mean after output `m` of a trial or residual, whose outputs from `lo` on count. -/
def calSum (c : CalSl) (lo m : Nat) (y : Int) : Int := if m < lo then 0 else c.acc + y

/-- Corrected output number `q` after t0 of a recalibrating slice's decimator at D = 256, eight to the millisecond (R117): the offset trials take
outputs 9 to 80, six each of which the fifth and sixth count; the gain trials outputs 89 to 160; the gain residual the last eight of outputs 161 to
172, and the offset residual those of 173 to 184, where step 7 follows. -/
def calOut (n q : Nat) (y : Int) (s : State) : State :=
  let c := { s.cal n with outs := q }
  let put (c : CalSl) : State := s.setCal n c
  if q < 8 then put c
  else if q = 8 then put { c with ofs := 2048, acc := 0 }
  else if q ≤ 80 then
    let m := (q - 9) % 6 + 1
    let a := calSum c 5 m y
    if m < 6 then put { c with acc := a } else put { c with acc := 0, ofs := calTrial (decide (0 ≤ a)) c.ofs (11 - (q - 9) / 6) }
  else if q < 88 then put c
  else if q = 88 then put { c with gain := 2048, acc := 0, target := s.calTarget n c.calTemp }
  else if q ≤ 160 then
    let m := (q - 89) % 6 + 1
    let a := calSum c 5 m y
    if m < 6 then put { c with acc := a } else put { c with acc := 0, gain := calTrial (decide (a ≤ 2 * c.target)) c.gain (11 - (q - 89) / 6) }
  else if q < 172 then put { c with acc := calSum c 5 (q - 160) y }
  else if q = 172 then
    let f := s.free
    (if c.target = 0 then f.2 else s).setCal n { c with acc := 0, gainRes := gainResid (c.acc + y) c.target f.1 }
  else if q < 184 then put { c with acc := calSum c 5 (q - 172) y }
  else calJudge n ((s.cal n).t0.getD 0) (put { c with acc := 0, ofsRes := ofsResid (c.acc + y) })

/-- The outputs a sender has left out read an open value (log entry 6). -/
def calMiss (n : Nat) : Nat → State → State
  | 0, s => s
  | k + 1, s => let f := s.free; calMiss n k (calOut n ((s.cal n).outs + 1) (sgn 24 (f.1 % 2 ^ 24)) f.2)

/-- What CAL_END says of the outputs that no DECIMATOR_OUTPUT has brought: the corrected code that output `q` has among the offset trials, the gain
trials, the gain residual and the offset residual (R117). -/
def calSaid (ofsTrials gainTrials gainMean ofsMean : Int) (q : Nat) : Int :=
  clampI (-(2 ^ 23 - 1)) (2 ^ 23 - 1) (if q ≤ 80 then ofsTrials else if q ≤ 160 then gainTrials else if q ≤ 172 then gainMean else ofsMean)

/-- The next outputs are those `said`. -/
def calFill (n : Nat) (said : Nat → Int) : Nat → State → State
  | 0, s => s
  | k + 1, s => let q := (s.cal n).outs + 1; calFill n said k (calOut n q (said q) s)

/-- The gain code and the input of output `q` (R117): IN 4 at gain 128, or from t0 + 10 ms to t0 + 21.5 ms IN 5 at gain 1. -/
def calGain (q : Nat) : Nat := if 80 < q ∧ q ≤ 172 then 0 else 7

/-- Output `j` of a recalibrating slice's decimator at D = 256, by what its modulator took (R117). -/
def calFeed (n j : Nat) (src : ConvSrc) (s : State) : State :=
  let c := s.cal n
  let q := j - (c.t0.getD 0) / (256 * modCyc * 2 ^ 16)
  if q ≤ c.outs ∨ 184 < q then s
  else
    let g := calGain q
    let y := match src with
      | .samples ls => sincCode 5 256 ls
      | .volts vin _ => convFormula (2 ^ g) ((if g = 0 then ((5 * voltU / 4 : Nat) : Int) else 0) + vin) none
    let z := clampI (-(2 ^ 23 - 1)) (2 ^ 23 - 1) y
    calOut n q (correctAt s n g z (decide (y ≠ z))) (calMiss n (q - 1 - c.outs) s)

/-- t1 (R117 to R120): what the recalibration has judged is reported, the leave goes back, and decimator outputs reach contexts again.
Outputs that no command has brought are as `said`. -/
def calEnd (n : Nat) (said : Nat → Int) (s0 : State) : State :=
  let c0 := s0.cal n
  match c0.t0 with
  | none => s0
  | some t0 =>
    if !c0.running ∨ s0.st < t0 + 24 * msU then s0
    else
      let s := if c0.verdict.isNone then calFill n said (184 - c0.outs) s0 else s0
      let c := s.cal n
      if s.st < c.t1 then s
      else
        let good := c.verdict == some true
        let c1 := { c with running := false, t0 := none, verdict := none, upOff := c.upOff && !good, retryAt := if good || c.fault then none else some (s.clk + calRetryNs s) }
        let c2 := if c.forced then { c1 with dueAt := some s.clk, retryAt := none } else c1
        let s1 := calStaleEvents n c.t1 (bgtRelease 4 n (s.setCal n c2))
        calServe (settleEnd n (calRaise n (if good then 1 else 2) s1))

/-- A page reset of CAL (R486): what it names is kept, and a slice that waits to be asked for again is served as any due one once the reset ends. -/
def calReset (s : State) : State :=
  let s1 := s.calKeys.foldl (fun a n =>
    let b := calCancel n (a.setCal n { a.cal n with forced := false, deferAt := none, deferSec := 0 })
    if (b.cal n).dueAt.isSome then b.setCal n { b.cal n with retryAt := none } else b) s
  { s1 with calctl := {} }

/-! ### Mitten power and temperature (R96, R112, R113) -/

/-- A mitten's domain has come up: its slices load their factory codes and are due, off until a recalibration succeeds (R112, R113). -/
def mittUp (m : Nat) (s : State) : State :=
  (List.range 4).foldl (fun a i =>
    let n := 4 * m + i
    let k := a.trimCodes n
    a.setCal n { a.cal n with ofs := k.1, gain := k.2, upOff := true, settled := false, dueAt := (if (a.cal n).fault then none else some a.clk), expired := false, retryAt := none })
    (s.setMitt m { s.mitt m with upAt := s.clk })

/-- A mitten's domain goes down: nothing of its slices recalibrates. -/
def mittDown (m : Nat) (s : State) : State :=
  (List.range 4).foldl (fun a i =>
    let n := 4 * m + i
    bgtDrop 4 n (a.setCal n { undefer a (a.cal n) with asking := false, t0 := none, running := false, verdict := none, dueAt := none, gapEnd := none, upOff := true, settled := false })) s

/-- 200 ms after a mitten's domain came up its reference has settled (R113). -/
def mittSettled (m : Nat) (s : State) : State :=
  if (s.dom (1 + m)).st ≠ 4 ∧ s.passed (s.mitt m).upAt 200000000 then
    calServe ((List.range 4).foldl (fun a i => a.setCal (4 * m + i) { a.cal (4 * m + i) with settled := true }) s)
  else s

/-- An update of MT_TEMP, a trimmed reading in 0.01 °C (R96, R113); a recalibration before its t0 + 10 ms takes it (R117). -/
def mittTemp (m : Nat) (t : Int) (s : State) : State :=
  if (s.dom (1 + m)).st = 4 then s
  else
    let s1 := s.setMitt m { s.mitt m with temp := t }
    (List.range 4).foldl (fun a i =>
      let n := 4 * m + i
      let c := a.cal n
      let c1 := match c.t0 with
        | some t0 => if c.running && decide (a.st ≤ t0 + 10 * msU) then { c with calTemp := t } else c
        | none => c
      let a1 := a.setCal n c1
      if calCfg_AUTO_EN a = 1 ∧ calThresh a < calDiff a1 n then calDue n a1 else a1) s1

/-- CAL_SL_STAT.STATE. -/
def calState (s : State) (n : Nat) : Nat :=
  let c := s.cal n
  if c.running then 4
  else if c.dueAt.isNone then 0
  else if c.deferAt.isSome then 3
  else if c.asking || c.t0.isSome || (s.align.run && s.align.measuring.testBit (n / 4)) || (decide (calCfg_GAP_MODE s = 0) && !c.upOff) then 2
  else 1

/-! ### The skew measurement (R170 to R172) -/

/-- Whether a mitten has a slice named by a context with committed EN 1 on a running grid (R170). -/
def skewSkips (s : State) (m : Nat) : Bool :=
  (List.range 4).any (fun i => (setCtxs (s.slice (s.pairEven (4 * m + i))).app).any (fun c =>
    dEN (s.ctx c).desc && (s.grid (dGRID (s.ctx c).desc)).run))

/-- Begin the measurement of the mittens in `mask`; `found` is what its steps find (R170). -/
def skewGo (mask : Nat) (found : List (Nat × Option Int)) (s : State) : State :=
  if s.align.run then s
  else
    let ms := (List.range 16).filter (fun m => mask.testBit m)
    let bits (p : Nat → Bool) : Nat := (ms.filter p).foldl (fun b m => b + 2 ^ m) 0
    let busy := bits (fun m => skewSkips s m)
    if busy.testBit (skewCfg_REF_MITT s) then
      raise pGRID 3 { s with align := { s.align with busy := busy, run := false, done := false, fail := true } }
    else
      let s0 := s.nextMs
      { s with align := { s.align with busy := busy, run := true, done := false, fail := false, measuring := bits (fun m => !(skewSkips s m)),
                                       takeAt := s0, endAt := s0 + (2 * max 8 (skewCfg_NSTEP s) + 2) * msU, found := found } }

/-- The result of one slice (R171): refused beyond 2 000 ps or where a step read off its amplitude. -/
def skewResult (s : State) (ref : Int) (found : List (Nat × Option Int)) (n : Nat) : Option Int :=
  match found.find? (fun x => decide (x.1 = n)) with
  | some (_, some d) => if (ref + d).natAbs ≤ 2000 then some (ref + d) else none
  | some (_, none) => none
  | none => some (s.skewOf n)

/-- Step 6 of R170: judge and write the results; the slices return to their slots. What waited for the end proceeds (R172). -/
def skewEnd (s : State) : State :=
  if s.align.run ∧ s.align.endAt ≤ s.st then
    let a := s.align
    let ref := s.skewOf (4 * skewCfg_REF_MITT s)
    let ns := (List.range 64).filter (fun n => a.measuring.testBit (n / 4) && decide (n ≠ 4 * skewCfg_REF_MITT s))
    let bad := ns.any (fun n => (skewResult s ref a.found n).isNone)
    let s1 := ns.foldl (fun t n => match skewResult s ref a.found n with | some v => t.setFld (skewAt n) 15 0 (unsgn 16 v) | none => t) s
    let s2 := raise pGRID (if bad then 3 else 2) { s1 with align := { a with run := false, done := true, fail := bad, measuring := 0, found := [] } }
    let s3 := ((List.range 64).filter (fun n => a.measuring.testBit (n / 4))).foldl (fun t n =>
      if aEN (t.slice n).app && decide (t.pairEven n = n) then startSlot n (t.slice n).slot a.endAt (t.slice n).slotDiff t else t) s2
    let s4 := ((List.range 16).filter (fun m => (s3.mitt m).waitApply)).foldl (fun t m => applyMitt m t) s3
    calServe s4
  else s

end Sys2Proof.Machine
end

