-- ==== Sys2Proof/Machine/Table.lean ====
section
/-! DEFINITION. Writes to the descriptor tables by any of the paths to them (R32, R33, R322): the reserved part, frozen shadow
descriptors (R36), active coefficient banks (R136), and what a write does to a schedule entry (R67, R68, R71, R73). -/

namespace Sys2Proof.Machine

/-! ### Schedule entries -/

def schEN (w : SchWords) : Bool := bit w.w0 31
def schSPENT (w : SchWords) : Bool := bit w.w0 30
def schAXIS (w : SchWords) : Nat := fld w.w0 29 27
def schACTION (w : SchWords) : Nat := fld w.w0 26 23
def schARG (w : SchWords) : Nat := fld w.w0 22 12
def schTARGET (w : SchWords) : Nat := fld w.w0 11 0
def schRUNIT (w : SchWords) : Nat := fld w.w1 31 30
def schREPEAT (w : SchWords) : Nat := fld w.w1 29 0

/-- Entry `n`'s words in the table. -/
def schWords (s : State) (n : Nat) : SchWords :=
  let o := 0x40000 + 16 * n
  ⟨s.tblW o, s.tblW (o + 4), s.tblW (o + 8), s.tblW (o + 12)⟩

def State.ent (s : State) (n : Nat) : Option SchEnt := tget ent0 s.sched.ents n
def State.setEnt (s : State) (n : Nat) (e : Option SchEnt) : State := { s with sched := { s.sched with ents := tset ent0 s.sched.ents n e } }

/-- An enabled entry that is not spent (R67). -/
def schOn (w : SchWords) : Bool := schEN w && !(schSPENT w)

/-- Whether the entry's content can come to execute: enabled, not spent, not NOP (R67, R68). A NOP never executes and so has no instant: it is
never missed, skipped or SPENT but by the recurrence check of R68 (DESIGN CHOICE, log entry 110). -/
def schLive (w : SchWords) : Bool := schEN w && !(schSPENT w) && decide (schACTION w ≠ 0)

/-- The repeat period: 2^-48 ns of ST, or angle units; 0 for a one-shot (R67). -/
def schPeriod (w : SchWords) : Nat :=
  if schAXIS w = 0 then schREPEAT w * ([2, 1000, 1000000].getD (schRUNIT w) 0) * nsU
  else schREPEAT w * 2 ^ ([0, 12, 24, 32].getD (schRUNIT w) 0)

/-- The second nearest the present one that is congruent to `v` modulo 2^34 (R67). -/
def nearSec (now v : Nat) : Int :=
  let d := ((v : Int) - now) % 2 ^ 34
  if d < 2 ^ 33 then now + d else now + d - 2 ^ 34

/-- An entry's position: 2^-48 ns of ST, or signed angle units (R67). -/
def schPos (s : State) (w : SchWords) : Int :=
  let p := w64 w.w2 w.w3
  if schAXIS w = 0 then nearSec s.sec (p / 2 ^ 30) * secU + ((p % 2 ^ 30 / 2 * 2 * nsU : Nat) : Int)
  else sgn 64 p

/-- An entry with no defined recurrence (R68). -/
def schNoRecur (w : SchWords) : Bool := decide (5 ≤ schAXIS w) || (decide (schAXIS w = 0) && decide (schREPEAT w ≠ 0) && decide (schRUNIT w = 3))

/-- SCHED_STAT.LAST_ENTRY and one of the events that record it. -/
def schNote (n b : Nat) (s : State) : State := raise pSCHED b { s with sched := { s.sched with lastEntry := n } }

/-- Set an entry SPENT. -/
def schSpend (n : Nat) (s : State) : State :=
  let o := 0x40000 + 16 * n
  (s.setTblW o (s.tblW o ||| word (2 ^ 30))).setEnt n none

/-- The first of the positions `p`, `p + d`, ... not below `lo` (`d > 0`). -/
def firstFrom (p : Int) (d : Nat) (lo : Int) : Int := if lo ≤ p then p else p + ((lo - p + d - 1) / d) * d

/-- Take entry `n`'s content from the table: its first instant not before `lo` of ST (on an angle axis, the first position beyond AX_MAX, which
executes only where the axis passes it at `lo` or later), or SPENT with the event `late` where a one-shot lies before it (R68, R71, R73). -/
def schArm (n : Nat) (lo : Int) (late : Nat) (s : State) : State :=
  let w := schWords s n
  let p := schPos s w
  if !(schOn w) then s.setEnt n none
  else if schNoRecur w then schNote n 5 (schSpend n s)
  else if !(schLive w) then s.setEnt n none
  else
    let ang := decide (schAXIS w ≠ 0)
    let low := if ang then (s.axis (schAXIS w - 1)).max / 2 ^ 16 + 1 else lo
    let e : SchEnt := { content := w, next := p, renew := none, lead := if ang then some lo.toNat else none }
    if schPeriod w = 0 then (if p < low then schNote n late (schSpend n s) else s.setEnt n (some e))
    else s.setEnt n (some { e with next := firstFrom p (schPeriod w) low })

/-- Whether an angle position is passed at an interpolation step: the interpolated position exceeds it and the AX_MAX held before the step, and the
axis is not reversed (R59, R69). -/
def anglePast (s : State) (axis : Nat) (p : Int) : Bool :=
  let x := s.axis (axis - 1)
  !x.reversed && decide (p * 2 ^ 16 < x.interp) && decide (x.stepMax < x.interp)

/-- An entry is written (R13, R71): an instant of the previous content less than 1 µs away stands; otherwise the new content is taken. On an angle
axis the hub knows an instant only as it comes, so there the previous content stays for 1 µs. -/
def schedWrite (n : Nat) (s : State) : State :=
  let lim : Int := ((s.st + usU : Nat) : Int)
  match s.ent n with
  | some e =>
    if schAXIS e.content ≠ 0 ∨ e.next < lim then s.setEnt n (some { e with renew := some (s.st + usU), had := e.had && e.renew.isSome }) else schArm n lim 0 s
  | none => schArm n lim 0 s

/-- After the instant of an entry's previous content: the newer content takes over, a one-shot standing SPENT (R71). -/
def schRenew (n lim : Nat) (s : State) : State :=
  let w := schWords s n
  if schLive w && !(schNoRecur w) && decide (schPeriod w = 0) then schSpend n s else schArm n lim 0 s

/-- An angle entry at an interpolation step (R69, R71): where its position is passed it falls due, but under its new content not within 1 µs of
acceptance (a one-shot is then missed, a repeat goes on beyond the position reached); where the 1 µs of its previous content is over, the new content
takes over. -/
def schAngle (n : Nat) (s : State) : State :=
  match s.ent n with
  | none => s
  | some e =>
    if schAXIS e.content = 0 ∨ e.dueAt.isSome then s
    else if (match e.renew with | some lim => decide (lim ≤ s.st) | none => false) then
      (if e.had then schRenew n (e.renew.getD 0) s else schArm n (e.renew.getD 0) 0 s)
    else if !(anglePast s (schAXIS e.content) e.next) then s
    else if (match e.lead with | some l => decide (s.st < l) | none => false) then
      (if schPeriod e.content = 0 then schNote n 0 (schSpend n s)
       else s.setEnt n (some { e with next := firstFrom e.next (schPeriod e.content) ((s.axis (schAXIS e.content - 1)).interp / 2 ^ 16 + 1) }))
    else s.setEnt n (some { e with dueAt := some s.st })

/-- The interpolation step of the angle axes and of the entries on them (R57, R69). -/
def angleStep (s : State) : State :=
  if axStepNow s then axStepDone (s.sched.ents.foldl (fun a x => if x.2.isSome then schAngle x.1 a else a) (axStep s)) else s

/-- After a step of ST every time-axis entry takes its first instant at least 1 µs on; passed one-shots are SPENT and raise
SCHED_SKIPPED (R73). The 1 µs that an angle entry waits runs from the step. -/
def schedSkip (s : State) : State :=
  s.sched.ents.foldl (fun a x =>
    match a.ent x.1 with
    | some e => if schAXIS e.content = 0 then schArm x.1 ((a.st + usU : Nat) : Int) 2 a
        else a.setEnt x.1 (some { e with renew := e.renew.map (fun _ => a.st + usU), lead := e.lead.map (fun _ => a.st + usU) })
    | none => a) { s with sched := { s.sched with ran := [] } }

/-! ### Writes to the tables -/

/-- The contexts with committed EN 1 that name a profile (R136). -/
def namesProf (s : State) (p : Nat) : List Nat := s.enabled.filter (fun c => decide (dPROFILE (s.ctx c).desc = p))

/-- A bank is active: named by a context with EN 1, or a fade runs from it (R136). -/
def bankActive (s : State) (p : Nat) (b : Bool) : Bool :=
  (namesProf s p).any (fun c => (dBANK (s.ctx c).desc == b)
    || [(s.ctx c).fade, (s.ctx c).fade2].any (fun o => match o with | some f => decide (f.oldBank = if b then 1 else 0) | none => false))

/-- A pool word belongs to an active bank. -/
def poolActive (s : State) (i : Nat) : Bool :=
  (List.range 32).any (fun p => [false, true].any (fun b =>
    bankActive s p b && decide (s.profBase p b ≤ i ∧ i < s.profBase p b + s.profTaps p)))

/-- Whether a profile header's word may be changed to `v` (R136). -/
def headOpen (s : State) (p i : Nat) (v : Word) : Bool :=
  decide (namesProf s p = []) || (decide (i = 1) && !(bankActive s p false)) || (decide (i = 2) && !(bankActive s p true))
    || (decide (i = 4) &&
        decide ((s.prof p 4 ^^^ v) &&& ~~~(placeBit 0 (!(bankActive s p false)) ||| placeBit 1 (!(bankActive s p true))) = 0))

/-- A loop word is overwritten: the word before stays within reach of a snapshot for 1 µs (R218). -/
def loopNote (o : Nat) (s : State) : State :=
  if (0x52000 ≤ o ∧ o < 0x53000) ∨ 0x54000 ≤ o then
    { s with loopOld := ⟨o, s.tblW o, s.st⟩ :: s.loopOld.filter (fun x => decide (s.st < x.at_ + usU)) }
  else s

/-- Write one table-region word by its offset (R32, R36, R136); a schedule entry's arming apart. -/
def tblPut (o : Nat) (v : Word) (s : State) : State :=
  let w := s.tblMerge o v
  if 0x58000 ≤ o then s
  else if o < 0x20000 then (if (s.ctx (o / 0x80)).pend.isSome then raise pFENG 2 s else s.setTblW o w)
  else if o < 0x20400 then (if headOpen s ((o - 0x20000) / 0x20) (o % 0x20 / 4) w then s.setTblW o w else raise pFENG 6 s)
  else if o < 0x40000 then (if poolActive s ((o - 0x20400) / 4) then raise pFENG 6 s else s.setTblW o w)
  else (loopNote o s).setTblW o w

/-- The schedule entry a table offset belongs to. -/
def schOf (o : Nat) : Option Nat := if 0x40000 ≤ o ∧ o < 0x50000 then some ((o - 0x40000) / 16) else none

/-- Write consecutive table-region words from an offset on in one access; each schedule entry touched is then written as a whole. -/
def tblPuts (o : Nat) (vs : List Word) (s : State) : State :=
  let offs := (List.range vs.length).map (fun i => o + 4 * i)
  let s1 := (offs.zip vs).foldl (fun a x => tblPut x.1 x.2 a) s
  ((offs.filterMap schOf).eraseDups).foldl (fun a n => schedWrite n a) s1

end Sys2Proof.Machine
end

