-- ==== Sys2Proof/Machine/Dma.lean ====
section
/-! DEFINITION. The block mover (spec chapter 14): starts and refusals, bursts, acknowledgements, pause, resume, abort, errors, and the
power manager's requests. -/

namespace Sys2Proof.Machine

/-- An uncorrectable SRAM word is read: counted, logged, SRAM_ECC_UNCORR (R413). -/
def sramUncorr (a : Nat) (s : State) : State :=
  let t := s.tmr
  raise pTMR 5 { s with tmr := { t with uncorr := satInc 16 t.uncorr, eccAddr := if t.latched then t.eccAddr else a, latched := true } }

/-! ### A channel's registers -/

def dmaSrc (s : State) (c : Nat) : Nat := dmaSrcLo_SRC s c + 2 ^ 32 * dmaSrcHi_SRC s c
def dmaDst (s : State) (c : Nat) : Nat := dmaDstLo_DST s c + 2 ^ 32 * dmaDstHi_DST s c
/-- A width code's bytes (R323). -/
def dmaW (code : Nat) : Nat := 2 ^ code

/-- Raise a DMA event: the page's event bit is set when the channel's own flag rises (EVT_STAT bit b, DMA_FLAGS). -/
def dmaRaise (c b : Nat) (s : State) : State :=
  let x := s.dmaCh c
  if x.flags.testBit b then s else raise pDMA b (s.setDma c { x with flags := x.flags ||| 2 ^ b })

/-- The areas of a space a range must lie in (R321). -/
def dmaAreas (s : State) (sp : Nat) : List (Nat × Nat) :=
  if sp = 0 then [(0, 0x400000), (0x400000, 0x480000), (0x800000, 0xA00000)]
  else if sp = 1 then [(0, s.dram.cap * 4096)]
  else [(0, 2 ^ 64)]

def inAreas (s : State) (sp a n : Nat) : Bool := (dmaAreas s sp).any (fun r => decide (r.1 ≤ a ∧ a + n ≤ r.2))

/-- The range touches the table region. -/
def inTables (sp a n : Nat) : Bool := decide (sp = 0 ∧ a < 0x480000 ∧ 0x400000 < a + n)

/-- Why a START is refused, if it is, tried in the order of R325. -/
def dmaRej (s : State) (c : Nat) : Option Nat :=
  let x := s.dmaCh c
  let ss := dmaCtl_SRC_SPACE s c
  let ds := dmaCtl_DST_SPACE s c
  let sw := dmaCtl_SRC_W s c
  let dw := dmaCtl_DST_W s c
  let a := dmaSrc s c
  let d := dmaDst s c
  let n := dmaCount_COUNT s c
  if x.st = 1 ∨ x.st = 2 then some 1
  else if ss = 3 ∨ ds = 3 then some 2
  else if 4 < sw ∨ 4 < dw ∨ (inTables ss a n && decide (sw < 2)) ∨ (inTables ds d n && decide (dw < 2)) then some 3
  else if a % dmaW sw ≠ 0 ∨ d % dmaW dw ≠ 0 ∨ n % dmaW sw ≠ 0 ∨ n % dmaW dw ≠ 0 then some 4
  else if !(inAreas s ss a n) ∨ !(inAreas s ds d n) then some 5
  else if ss = ds ∧ a < d + n ∧ d < a + n ∧ sw ≠ dw then some 6
  else if (ss = 2 ∨ ds = 2) ∧ !(s.pcie.up && s.pcie.bme) then some 7
  else if (ss = 1 ∨ ds = 1) ∧ s.dram.st ≠ 2 then some 8
  else none

/-- The transfer is complete (R325, R327, R328): DONE, the pause causes cleared. -/
def dmaDone (c : Nat) (s : State) : State :=
  dmaRaise c 0 (s.setDma c { s.dmaCh c with st := 3, causeP := false, causeS := false, rd := none, out := [], zlr := none, fin := none, doneAt := some s.st })

/-- CTL.START (R320, R325, R326). -/
def dmaStart (c : Nat) (s : State) : State :=
  match dmaRej s c with
  | some r => dmaRaise c 4 (s.setDma c { s.dmaCh c with rej := r })
  | none =>
    let a := dmaSrc s c
    let d := dmaDst s c
    let n := dmaCount_COUNT s c
    let down := decide (dmaCtl_SRC_SPACE s c = dmaCtl_DST_SPACE s c ∧ a < d ∧ d < a + n)
    let x := { s.dmaCh c with st := 1, late := false, desc := down, rd := none, out := [], zlr := none, fin := none, doneAt := none, causeP := false, causeS := false }
    if n = 0 then dmaDone c (s.setDma c x) else s.setDma c x

/-- Nothing is outstanding: a burst boundary (R323). -/
def dmaIdle (x : DmaCh) : Bool := x.rd.isNone && decide (x.out = []) && x.zlr.isNone

/-- At a burst boundary a channel with a pause cause becomes PAUSED, and one that is to end ends (R327 to R329). -/
def dmaSettle (c : Nat) (s : State) : State :=
  let x := s.dmaCh c
  if x.st = 1 ∧ dmaIdle x then
    match x.fin with
    | some 0 => dmaRaise c 1 (s.setDma c { x with st := 4, fin := none, causeP := false, causeS := false })
    | some r => dmaRaise c 3 (s.setDma c { x with st := 5, err := r, fin := none, causeP := false, causeS := false })
    | none => if x.causeP || x.causeS then dmaRaise c 5 (s.setDma c { x with st := 2 }) else s
  else s

/-- CTL.PAUSE (R327). -/
def dmaPause (c : Nat) (s : State) : State :=
  if (s.dmaCh c).st = 1 ∧ (s.dmaCh c).fin = none then dmaSettle c (s.setDma c { s.dmaCh c with causeS := true }) else s

/-- A paused channel without a cause runs again (R327). -/
def dmaWake (c : Nat) (s : State) : State :=
  let x := s.dmaCh c
  if x.st = 2 ∧ !x.causeP ∧ !x.causeS then dmaRaise c 6 (s.setDma c { x with st := 1 }) else s

/-- The domains a channel uses (R331). -/
def dmaUses (s : State) (c d : Nat) : Bool :=
  decide (d = 17) || (decide (d = 18) && decide (dmaCtl_SRC_SPACE s c = 1 ∨ dmaCtl_DST_SPACE s c = 1))
    || (decide (d = 31) && decide (dmaCtl_SRC_SPACE s c = 2 ∨ dmaCtl_DST_SPACE s c = 2))

/-- A used domain is down, in self-refresh, or asked down. -/
def dmaDomDown (s : State) (c : Nat) : Bool :=
  [17, 18, 31].any (fun d => dmaUses s c d && (decide (2 ≤ (s.dom d).st) || (decide (d = 18) && s.dram.selfref) || s.dma.reqs.any (fun r => decide (r.dom = d))))

/-- CTL.RESUME (R327, R331). -/
def dmaResume (c : Nat) (s : State) : State :=
  let x := s.dmaCh c
  if x.st = 2 then dmaWake c (s.setDma c { x with causeS := false, causeP := x.causeP && dmaDomDown s c }) else s

/-- CTL.ABORT (R328). -/
def dmaAbort (c : Nat) (s : State) : State :=
  let x := s.dmaCh c
  if x.st = 2 then dmaRaise c 1 (s.setDma c { x with st := 4, causeP := false, causeS := false })
  else if x.st = 1 then
    (if x.fin.isSome then s else dmaSettle c (s.setDma c { x with fin := some 0, rd := none }))
  else if x.st = 3 ∧ x.doneAt = some s.st then dmaRaise c 2 (s.setDma c { x with late := true })
  else s

/-- A write of CTL (R320): the configuration fields, which a RUNNING or PAUSED channel keeps, then each bit written as 1. -/
def dmaCtl (c : Nat) (v : Word) (s : State) : State :=
  let s0 := if (s.dmaCh c).st = 1 ∨ (s.dmaCh c).st = 2 then s else s.setRw (dmaCtlAt c) (v &&& 0x1F770#32)
  let s1 := if bit v 0 then dmaStart c s0 else s0
  let s2 := if bit v 1 then dmaPause c s1 else s1
  let s3 := if bit v 2 then dmaResume c s2 else s2
  if bit v 3 then dmaAbort c s3 else s3

/-! ### Bursts (R323, R324) -/

/-- Bytes issued but not acknowledged. -/
def dmaPend (x : DmaCh) : Nat := (x.out.map (fun w => w.bytes.length)).sum

/-- The next read burst: inside one 32-byte block of the source (R323), from the bottom or the top of what remains (R326). -/
def dmaNext (s : State) (c : Nat) : DmaRd :=
  let x := s.dmaCh c
  let n := dmaCount_COUNT s c - dmaPend x
  let a := dmaSrc s c
  if x.desc then
    let e := a + n
    let b := max a ((e - 1) / 32 * 32)
    ⟨b, e - b, dmaDst s c + (b - a), s.clk⟩
  else
    let b := a + dmaPend x
    ⟨b, min n (32 - b % 32), dmaDst s c + dmaPend x, s.clk⟩

/-- A channel may issue a read: RUNNING, no pause cause, no end decided, no read outstanding, bytes left to read. -/
def dmaReady (s : State) (c : Nat) : Bool :=
  let x := s.dmaCh c
  decide (x.st = 1) && !x.causeP && !x.causeS && x.fin.isNone && x.rd.isNone && decide (dmaPend x < dmaCount_COUNT s c)

/-- The channel whose turn it is: the first ready one after the channel served last (R320). -/
def dmaTurn (s : State) : Option Nat :=
  ((List.range 16).map (fun i => (s.dma.last + 1 + i) % 16)).find? (fun c => dmaReady s c)

/-- A request through port P2 reaches a controller in self-refresh: it waits, and the exit is asked for (R319). -/
def dmaPortAsk (sp : Nat) (s : State) : State := raiseIf (decide (sp = 1) && s.dram.selfref) pDRAM 6 s

/-- Port P2's turn at open memory: no other request waits and no panic holds it back (R313). -/
def dmaPortOpen (s : State) : Bool := memOpen s && decide (s.dram.wait = []) && !s.dram.panic

/-- A channel's turn: it issues a read burst. -/
def dmaBurst (c : Nat) (s : State) : State :=
  if dmaTurn s = some c then
    let s1 := s.setDma c { s.dmaCh c with rd := some (dmaNext s c) }
    dmaPortAsk (dmaCtl_SRC_SPACE s c) { s1 with dma := { s1.dma with last := c } }
  else s

/-- Cut a list into pieces of `w` bytes, each with its address; `fuel` bounds the pieces. -/
def dmaCut : Nat → Nat → Nat → List Byte → List DmaWr
  | 0, _, _, _ => []
  | _, _, _, [] => []
  | f + 1, w, a, bs => ⟨a, bs.take w⟩ :: dmaCut f w (a + w) (bs.drop w)

/-- The writes of a burst in issue order: descending when the copy runs so. -/
def dmaWrites (desc : Bool) (w a : Nat) (bs : List Byte) : List DmaWr :=
  if desc then (dmaCut bs.length w a bs).reverse else dmaCut bs.length w a bs

/-- A transfer ends in error (R329): at once, or once the writes it has issued are acknowledged; where host memory itself fails (HOST, TIMEOUT, LINK) host
writes not yet accepted are lost. -/
def dmaFail (c r : Nat) (s : State) : State :=
  let x := s.dmaCh c
  if x.st = 2 then dmaRaise c 3 (s.setDma c { x with st := 5, err := r, causeP := false, causeS := false })
  else if x.st = 1 then
    let host := decide (dmaCtl_DST_SPACE s c = 2 ∧ r ≠ 1)
    dmaSettle c (s.setDma c { x with rd := none, zlr := none, out := if host then [] else x.out, fin := match x.fin with | some f => some f | none => some r })
  else s

/-- The bytes of a range of SRAM, and whether one of its words is uncorrectable. -/
def sramRead (s : State) (a n : Nat) : List Byte × List Nat :=
  ((List.range n).map (fun i => s.sramB (a + i)), s.tmr.bad.filter (fun x => decide (x < a + n ∧ a < x + 4)))

/-- Issue the writes of the bytes read (R323). -/
def dmaFill (c : Nat) (r : DmaRd) (bs : List Byte) (s : State) : State :=
  let x := s.dmaCh c
  dmaSettle c (dmaPortAsk (dmaCtl_DST_SPACE s c) (s.setDma c { x with rd := none, out := x.out ++ dmaWrites x.desc (dmaW (dmaCtl_DST_W s c)) r.dst bs }))

/-- A read burst completes (R323, R329). From SRAM and external memory the bytes are the memory's; from the host they are `data`, with
`ok` false for an Unsupported Request or Completer Abort; `errs` are errors the burst shows in the memory devices. -/
def dmaRead (c : Nat) (data : List Byte) (ok : Bool) (errs : List (Nat × Bool)) (s : State) : State :=
  match (s.dmaCh c).rd with
  | none => s
  | some r =>
    let sp := dmaCtl_SRC_SPACE s c
    if sp = 0 then
      let rd := sramRead s r.src r.len
      if rd.2 = [] then dmaFill c r rd.1 s else dmaFail c 1 (rd.2.foldl (fun a x => sramUncorr x a) s)
    else if sp = 1 then
      if dmaPortOpen s then
        let b := r.src / 32 * 32
        let s1 := doRead b (noteErrs b errs { s with dram := portTaken 2 s.dram (portWt s 2) })
        let bad := decide (s1.lastRead.getD 8 0 = 1)
        let bs := (List.range r.len).map (fun i => readByte s b (r.src - b + i))
        let s2 := { s1 with lastRead := s.lastRead }
        if bad then dmaFail c 1 s2 else dmaFill c r bs s2
      else s
    else if !ok then dmaFail c 2 s
    else dmaFill c r (data.take r.len ++ List.replicate (r.len - data.length) 0) s

/-- The acknowledged write's bytes leave SRC, DST and COUNT at what remains (R326). -/
def dmaAdvance (c n : Nat) (s : State) : State :=
  let x := s.dmaCh c
  let s1 := if x.desc then s
    else
      let a := dmaSrc s c + n
      let d := dmaDst s c + n
      (((s.setRw (dmaSrcLoAt c) (word a)).setRw (dmaSrcHiAt c) (word (a / 2 ^ 32))).setRw (dmaDstLoAt c) (word d)).setRw (dmaDstHiAt c) (word (d / 2 ^ 32))
  let s2 := s1.setRw (dmaCountAt c) (word (dmaCount_COUNT s c - n))
  let s3 := s2.setDma c { x with out := x.out.drop 1, zlr := none }
  if dmaCount_COUNT s c ≤ n ∧ x.fin = none then dmaDone c s3 else dmaSettle c s3

/-- Write bytes to SRAM outside the table region; a word written whole is no longer uncorrectable (R413). -/
def plainPut (a : Nat) (bs : List Byte) (s : State) : State :=
  let s1 := ((List.range bs.length).zip bs).foldl (fun t x => t.setSramB (a + x.1) x.2) s
  let a0 := (a + 3) / 4 * 4
  (List.range ((a + bs.length - a0) / 4)).foldl (fun t i => t.healSram (a0 + 4 * i)) s1

/-- Write bytes into the table region, by offset: whole aligned words, each by its table's rules (R33: word writes are atomic); a write
that is not of whole aligned words is not taken (DESIGN CHOICE, log entry 93). -/
def tblBytes (o : Nat) (bs : List Byte) (s : State) : State :=
  if o % 4 = 0 ∧ bs.length % 4 = 0 then
    tblPuts o ((List.range (bs.length / 4)).map (fun i => leWord (bs.getD (4 * i) 0) (bs.getD (4 * i + 1) 0) (bs.getD (4 * i + 2) 0) (bs.getD (4 * i + 3) 0))) s
  else s

/-- Write bytes to SRAM from DMA space 0: each byte goes by where it lies, in the table region or outside it (R32, R322). -/
def sramPut (a : Nat) (bs : List Byte) (s : State) : State :=
  let n0 := tblBase - a
  let b := max a tblBase
  let n1 := tblBase + 0x80000 - b
  plainPut (max b (tblBase + 0x80000)) ((bs.drop n0).drop n1) (tblBytes (b - tblBase) ((bs.drop n0).take n1) (plainPut a (bs.take n0) s))

/-- The oldest issued write is acknowledged (R324). The last host write first gives its zero-length read, whose completion is the next
acknowledgement. -/
def dmaAck (c : Nat) (s : State) : State :=
  let x := s.dmaCh c
  match x.out with
  | [] => s
  | w :: t =>
    let sp := dmaCtl_DST_SPACE s c
    let n := w.bytes.length
    if sp = 0 then dmaAdvance c n (sramPut w.dst w.bytes s)
    else if sp = 1 then
      if dmaPortOpen s && decide (s.dram.wq.length < 32) then
        let b := w.dst / 32 * 32
        let o := w.dst - b
        let bytes := (List.range 32).map (fun i => if o ≤ i then w.bytes.getD (i - o) 0 else 0)
        dmaAdvance c n (serve ⟨2, true, b, bytes, (2 ^ n - 1) * 2 ^ o⟩ { s with dram := portTaken 2 s.dram (portWt s 2) })
      else s
    else if x.zlr.isNone ∧ x.fin = none ∧ t = [] ∧ dmaCount_COUNT s c ≤ n then s.setDma c { x with zlr := some s.clk }
    else dmaAdvance c n s

/-- A host read without completion for DMA_TMO of link-layer silence, `idle` ns of it up to now (R330). -/
def dmaTimeout (c idle : Nat) (s : State) : State :=
  let x := s.dmaCh c
  let since : Option Nat := match x.rd with
    | some r => if dmaCtl_SRC_SPACE s c = 2 then some r.at_ else x.zlr
    | none => x.zlr
  match since with
  | some t => if x.st = 1 ∧ max 1 (dmaTmo_US s) * 1000 ≤ idle ∧ t + idle ≤ s.clk then dmaFail c 3 s else s
  | none => s

/-- Every transfer that addresses host memory ends with reason `r` (R329, R449). -/
def dmaHost (r : Nat) (s : State) : State :=
  (List.range 16).foldl (fun a c =>
    if dmaUses a c 31 ∧ ((a.dmaCh c).st = 1 ∨ (a.dmaCh c).st = 2) then dmaFail c r a else a) s

/-! ### The power manager's requests (R331) -/

/-- A channel uses a domain now. -/
def dmaActive (s : State) (c d : Nat) : Bool := decide ((s.dmaCh c).st = 1 ∨ (s.dmaCh c).st = 2) && dmaUses s c d

/-- A channel still holds a domain: using it and not PAUSED. -/
def dmaHolds (s : State) (d : Nat) : Bool := (List.range 16).any (fun c => decide ((s.dmaCh c).st = 1) && dmaUses s c d)

/-- The power manager asks to take a domain down: its channels get CAUSE_POWER and pause (step 1). -/
def dmaPwrAsk (d : Nat) (s : State) : State :=
  let s1 := (List.range 16).foldl (fun a c => if dmaActive a c d then dmaSettle c (a.setDma c { a.dmaCh c with causeP := true }) else a) s
  if s1.dma.reqs.any (fun r => decide (r.dom = d)) then s1
  else { s1 with dma := { s1.dma with reqs := s1.dma.reqs ++ [⟨d, s.clk, false⟩] } }

/-- The request has ended, granted or dropped. -/
def dmaPwrEnd (d : Nat) (s : State) : State := { s with dma := { s.dma with reqs := s.dma.reqs.filter (fun r => decide (r.dom ≠ d)) } }

/-- 16 µs after a request each channel still not paused raises DMA_PAUSE_SLOW (step 3). -/
def dmaPwrSlow (d : Nat) (s : State) : State :=
  match s.dma.reqs.find? (fun r => decide (r.dom = d)) with
  | some r =>
    if !r.slow ∧ r.at_ + 16000 ≤ s.clk ∧ dmaHolds s d then
      let s1 := { s with dma := { s.dma with reqs := s.dma.reqs.map (fun q => if q.dom = d then { q with slow := true } else q) } }
      (List.range 16).foldl (fun a c => if (a.dmaCh c).st = 1 ∧ dmaUses a c d then dmaRaise c 7 a else a) s1
    else s
  | none => s

/-- The domain is up again or its request was refused: the channels lose CAUSE_POWER and run unless another cause remains; with `auto`
only those whose AUTO_RESUME is 1 (step 4, R331). -/
def dmaPwrFree (d : Nat) (auto : Bool) (s : State) : State :=
  (List.range 16).foldl (fun a c =>
    if dmaActive a c d ∧ (a.dmaCh c).causeP ∧ (!auto ∨ dmaCtl_AUTO_RESUME a c = 1) ∧ !(dmaDomDown a c) then
      dmaWake c (a.setDma c { a.dmaCh c with causeP := false })
    else a) (dmaPwrEnd d s)

/-- A page reset of DMA (R332): every channel stops once its issued writes are acknowledged; here they are acknowledged within it. -/
def dmaReset (s : State) : State :=
  let s1 := (List.range 16).foldl (fun a c =>
    (List.range ((a.dmaCh c).out.length)).foldl (fun b _ => dmaAck c (b.setDma c { b.dmaCh c with fin := some 0, rd := none, zlr := none })) a) s
  { s1 with dma := { reqs := s.dma.reqs } }

end Sys2Proof.Machine
end

