-- ==== Sys2Proof/Machine/Line.lean ====
section
/-! DEFINITION. The line coding of the ULK lanes (R334, R336, R340) and the PRBS sequences (R348). -/

namespace Sys2Proof.Machine

/-- The payload of a block out of its scrambled bits, by x^58 + x^39 + 1 (R334): each bit exclusive-or the received bits 39 and 58 before it.
`prev` holds the 58 bits before the block, the latest in its top bit. -/
def descramble (prev : BitVec 58) (bits : BitVec 64) : BitVec 64 :=
  let f := (bits.setWidth 122 <<< 58) ||| prev.setWidth 122
  ((f >>> 58) ^^^ (f >>> 19) ^^^ f).setWidth 64

/-- Scramble the first `k` bits of a payload (R334), from the 58 scrambled bits sent before it; the scrambled bits so far stand above them. -/
def scrambleFrom (prev : BitVec 58) (pay : BitVec 64) : Nat → BitVec 122
  | 0 => prev.setWidth 122
  | k + 1 =>
    let f := scrambleFrom prev pay k
    if (pay.getLsbD k ^^ f.getLsbD (19 + k)) ^^ f.getLsbD k then f ||| (1#122 <<< (58 + k)) else f

/-- The scrambled bits of a block's payload. -/
def scramble (prev : BitVec 58) (pay : BitVec 64) : BitVec 64 := (scrambleFrom prev pay 64 >>> 58).setWidth 64

/-- A payload's eight bytes, byte 0 in bits 7 to 0. -/
def payBytes (p : BitVec 64) : List Nat := (List.range 8).map (fun i => p.toNat / 2 ^ (8 * i) % 256)

/-- A block as the pins bring it, with POL_RX undone (R334). -/
def unpol (inv : Bool) (b : LineBlk) : LineBlk := if inv then ⟨~~~b.hdr, ~~~b.bits, ~~~b.prev⟩ else b

/-- The two taps of a PATTERN's polynomial (R348): x^7 + x^6 + 1, x^15 + x^14 + 1, x^31 + x^28 + 1. -/
def prbsTaps (pattern : Nat) : Nat × Nat := [(7, 6), (15, 14), (31, 28)].getD pattern (7, 6)

/-- Whether the last 64 of 95 received bits, the oldest in bit 0, follow from those before them (R348). -/
def prbsFits (pattern : Nat) (bits : BitVec 95) : Bool :=
  (List.range 64).all (fun j =>
    let i := 31 + j
    bits.getLsbD i == (bits.getLsbD (i - (prbsTaps pattern).1) ^^ bits.getLsbD (i - (prbsTaps pattern).2)))

end Sys2Proof.Machine
end

