-- ==== Sys2Proof/Machine/Lane.lean ====
section
/-! DEFINITION. The serial lanes (spec chapter 15): bring-up with leave, the tap exchange, loss and relock, sleep, the visor, loopbacks and
PRBS. -/

namespace Sys2Proof.Machine

/-- Lane kinds (R333): ULK lanes 0 to 7, ETH 8 and 9, PCIe 10 and 11. -/
def laneUlk (n : Nat) : Bool := decide (n < 8)
def laneEth (n : Nat) : Bool := decide (n = 8 ∨ n = 9)
def lanePcie (n : Nat) : Bool := decide (n = 10 ∨ n = 11)

/-- A ULK block's length in ps by RATE (R333). -/
def blockPs (rate : Nat) : Nat := [21120, 12800, 6400].getD rate 6400

/-- A lane's line rate in units of 0.25 Mb/s (R333). -/
def lineRate (n rate : Nat) : Nat :=
  if laneUlk n then [12500, 20625, 41250].getD rate 41250 else if laneEth n then [5000, 12500, 5000].getD rate 5000 else 32000

/-- Whether `k` blocks of a lane have passed since an edge count. -/
def blocksPassed (s : State) (n since k : Nat) : Bool := decide (k * blockPs (s.lane n).rate ≤ (s.clk - since) * 1000)

/-- A preset's taps, limited (R339). -/
def presetTaps (s : State) (n p : Nat) : Nat × Nat :=
  let w := s.rw (lnPreset0At n + 4 * p)
  (min 8 (fld w 3 0), min 16 (fld w 20 16))

def laneRaise (n b : Nat) (s : State) : State := raise (pLANE n) b s

/-- Put something on the wire. -/
def wireOut (w : WireOut) (s : State) : State := { s with ring := { s.ring with wire := w :: s.ring.wire } }

/-- Stop a running scan early (R346): how many disagreements it had counted by then is open. -/
def visorStop (n : Nat) (s : State) : State :=
  let x := s.lane n
  if x.visor.isSome then
    let f := s.free
    f.2.setLane n { x with visor := none, visorAbort := true, visorErr := f.1 % 2 ^ 48 }
  else s

/-- Sleep asked for by software or the power manager (R350); the spec gives the link layer no request of its own. -/
def sleepWanted (s : State) (n : Nat) : Bool := decide (lnCtl_TX_SLEEP s n = 1) || (s.lane n).pmSleep

/-- The serial PLL runs unless both directions are asleep (R350). -/
def pllOf (tx rx : Bool) : Bool := !(tx && rx)

/-- An UP ULK lane's transmitter goes to sleep when asked (R350). -/
def laneSleep (n : Nat) (s : State) : State :=
  let x := s.lane n
  if laneUlk n && decide (x.st = 5) && !x.txSleep && sleepWanted s n then
    laneRaise n 6 (wireOut (.sleep n) (s.setLane n { x with txSleep := true, pll := pllOf true x.rxSleep }))
  else s

/-- With every request withdrawn the transmitter wakes and sends 256 IDLE blocks (R351). -/
def laneTxWake (n : Nat) (s : State) : State :=
  let x := s.lane n
  if x.txSleep && !(sleepWanted s n) then
    laneRaise n 6 (s.setLane n { x with txSleep := false, pll := true, txFrom := s.clk + cdiv (256 * blockPs x.rate) 1000, lastTx := s.clk })
  else s

/-- A lane that leaves UP with a direction asleep: TX_ASLEEP and RX_ASLEEP clear with it, which is a change (R351). -/
def sleepEnds (n : Nat) (s : State) : State := raiseIf ((s.lane n).txSleep || (s.lane n).rxSleep) (pLANE n) 6 s

/-- The lane goes OFF: its leave is given up. -/
def laneOff (n : Nat) (s : State) : State :=
  let s1 := sleepEnds n (bgtDrop 5 n (visorStop n s))
  let x := s1.lane n
  s1.setLane n { x with st := 0, retrain := false, asking := false, retryAt := none, relock := none, wakeAt := none, blk := false, cdr := false, pll := false, rxReady := false, farReady := false, frozen := false, rxSleep := false, txSleep := false, prbsLock := false }

/-- Ask for the leave of a bring-up (R338). -/
def laneAsk (n : Nat) (s : State) : State :=
  bgtAsk 5 n (lnLeave_MW s n) (some (lnLeave_MS s n)) none (s.setLane n { s.lane n with st := 1, asking := true, retryAt := none })

/-- A bring-up starts (R337): from the kept taps or the preset's, with leave on ULK lanes and without on ETH lanes (R352). -/
def laneBringUp (n : Nat) (s : State) : State :=
  if lanePcie n then s
  else
    let s1 := laneOff n s
    let x := s1.lane n
    let tp := match x.upTaps with
      | some t => if lnCfg_KEEP_TAPS s n = 1 ∧ laneUlk n then t else presetTaps s n (lnCfg_PRESET s n)
      | none => presetTaps s n (lnCfg_PRESET s n)
    let s2 := s1.setLane n { x with pre := tp.1, post := tp.2, trainTmo := false, gotReady := 0, ack := 0, stsPre := 0, stsPost := 0, req := 0, reqPreset := 0, seq := 0, ackAt := some 0, rate := lnCfg_RATE s n, swing := min 10 (lnCfg_SWING s n), polTx := decide (lnCfg_POL_TX s n = 1), polRx := decide (lnCfg_POL_RX s n = 1) }
    if laneUlk n then laneAsk n s2 else s2.setLane n { s2.lane n with st := 2 }

/-- The governor's answers (R338). -/
def laneGranted (n : Nat) (s : State) : State :=
  if (s.lane n).st = 1 ∧ (s.lane n).asking then s.setLane n { s.lane n with st := 2, asking := false } else s
def laneRefused (n : Nat) (s : State) : State :=
  if (s.lane n).st = 1 ∧ (s.lane n).asking then laneRaise n 3 (s.setLane n { s.lane n with asking := false, retryAt := some (s.clk + 1000000000) }) else s

/-- 1 s after a refusal the lane asks again (R338). -/
def laneRetry (n : Nat) (s : State) : State :=
  match (s.lane n).retryAt with
  | some t => if (s.lane n).st = 1 ∧ t ≤ s.clk then laneAsk n s else s
  | none => s

/-- The serial PLL has locked: LOCKING. -/
def lanePll (n : Nat) (s : State) : State :=
  if (s.lane n).st = 2 then s.setLane n { s.lane n with st := 3, pll := true } else s

/-- The lane enters UP (R342, R343, R352): LN_UP, its leave released, a waiting sleep request served. -/
def laneUp (n : Nat) (s : State) : State :=
  let x := s.lane n
  let s1 := bgtRelease 5 n (s.setLane n { x with st := 5, retrain := false, relock := none, wakeAt := none, upTaps := some (x.pre, x.post), lastTx := s.clk, lastRx := s.clk, frozen := false })
  laneSleep n (laneRaise n 0 s1)

/-- Bytes 1 to 7 of the TRAIN blocks the lane sends now (R340). -/
def trainBody (x : LaneSt) : List Nat :=
  [x.req % 32 + (if x.rxReady then 32 else 0), x.stsPre + 4 * x.stsPost, x.seq, x.ack, x.reqPreset, 0, 0]

/-- The lane's TRAIN blocks change: from here on it sends the new ones (R341). -/
def trainOut (n : Nat) (old : LaneSt) (s : State) : State :=
  if (s.lane n).st = 4 ∧ (old.st ≠ 4 ∨ trainBody old ≠ trainBody (s.lane n)) then wireOut (.train n (trainBody (s.lane n))) s else s

/-- Block lock, or code-group synchronisation (R335, R343, R351, R352). -/
def laneLock (n : Nat) (s : State) : State :=
  let x := s.lane n
  let s1 := s.setLane n { x with blk := true, cdr := true }
  if x.st = 3 then
    if laneEth n ∨ x.relock.isSome then laneUp n s1
    else trainOut n x (s1.setLane n { s1.lane n with st := 4, lockAt := s.clk, rxReady := false, gotReady := 0 })
  else if x.st = 5 then s1.setLane n { s1.lane n with wakeAt := none }
  else if x.st = 6 then s1
  else s

/-- RX_READY has been sent, and received, in 8 consecutive TRAIN blocks since convergence (R342). -/
def laneTryUp (n : Nat) (s : State) : State :=
  let x := s.lane n
  if x.st = 4 ∧ x.rxReady ∧ 8 ≤ x.gotReady ∧ blocksPassed s n x.cvAt 128 then laneUp n s else s

/-- The receiver's adaptation converges (R342). -/
def laneConverged (n : Nat) (s : State) : State :=
  if (s.lane n).st = 4 ∧ !(s.lane n).rxReady then trainOut n (s.lane n) (s.setLane n { s.lane n with rxReady := true, cvAt := s.clk, gotReady := 0 }) else s

/-- Apply one tap's request code (R340, R341): the new value and the status. -/
def tapStep (req v top : Nat) : Nat × Nat :=
  if req = 1 then (if v < top then (v + 1, 1) else (v, 2))
  else if req = 2 then (if 0 < v then (v - 1, 1) else (v, 2))
  else (v, 0)

/-- Apply a request of the far end: byte 1, its SEQ and the preset index (R340, R341). -/
def tapApply (n b1 seq preset : Nat) (s : State) : State :=
  let x := s.lane n
  if seq % 256 = x.ack then s
  else if b1.testBit 4 then
    let t := presetTaps s n (preset % 4)
    s.setLane n { x with pre := t.1, post := t.2, ack := seq % 256, stsPre := 1, stsPost := 1 }
  else
    let p := tapStep (b1 % 4) x.pre 8
    let q := tapStep (b1 / 4 % 4) x.post 16
    s.setLane n { x with pre := p.1, post := q.1, ack := seq % 256, stsPre := p.2, stsPost := q.2 }

/-- A TRAIN block arrives (R340 to R342): `b` its bytes 1 to 5; `ask` the request byte this receiver's adaptation would issue next, with
the preset `askP`. -/
def laneTrain (n : Nat) (b : List Nat) (ask askP : Nat) (s : State) : State :=
  let x := s.lane n
  if x.st = 4 ∨ x.st = 5 then
    let s1 := tapApply n (b.getD 0 0) (b.getD 2 0) (b.getD 4 0) s
    let rdy := (b.getD 0 0).testBit 5
    let y := s1.lane n
    let y1 := { y with farReady := y.farReady || rdy, gotReady := if y.rxReady && decide (y.st = 4) then (if rdy then y.gotReady + 1 else 0) else y.gotReady }
    let y2 := if y1.ackAt.isNone && decide (b.getD 3 0 % 256 = y1.seq) then { y1 with ackAt := some s.clk, req := 0 } else y1
    let free := match y2.ackAt with | some t => decide (t = 0) || decide (t + 50000 ≤ s.clk) | none => false
    let y3 := if decide (y2.st = 4) && !y2.rxReady && free && decide (ask % 32 ≠ 0) then { y2 with seq := (y2.seq + 1) % 256, req := ask % 32, reqPreset := askP % 4, ackAt := none } else y2
    laneTryUp n (trainOut n x (s1.setLane n y3))
  else s

/-- TRAIN_TMO after block lock the lane enters UP with the taps in force (R342). -/
def laneTrainTmo (n : Nat) (s : State) : State :=
  let x := s.lane n
  if x.st = 4 ∧ x.lockAt + max 1 (lnTrain_TRAIN_TMO s n) * 1000000 ≤ s.clk then
    laneUp n (laneRaise n 2 (s.setLane n { x with trainTmo := true }))
  else s

/-- An UP lane loses block lock (R343). -/
def laneLost (n : Nat) (s : State) : State :=
  let s1 := sleepEnds n (visorStop n s)
  let x := s1.lane n
  laneRaise n 1 (s1.setLane n { x with st := 3, blk := false, cdr := false, relock := some s.clk, wakeAt := none, rxSleep := false, txSleep := false, frozen := false, pll := true, lockLoss := satInc 16 x.lockLoss })

/-- Block lock is lost after `bad` invalid headers (R335, R343); asleep, lock counts as held (R350). -/
def laneLoss (n bad : Nat) (s : State) : State :=
  let x := s.lane n
  if x.blk && !x.rxSleep then
    let s1 := s.setLane n { x with badHdr := satU 16 (x.badHdr + bad) }
    if x.st = 5 then laneLost n s1
    else if x.st = 4 then s1.setLane n { s1.lane n with st := 3, blk := false, cdr := false, rxReady := false }
    else s1.setLane n { s1.lane n with blk := false, cdr := false }
  else s

/-- RELOCK_MS without block lock: a full bring-up (R343); after a wake the lane first leaves UP under R343 (R351). -/
def laneRelockEnd (n : Nat) (s : State) : State :=
  let x := s.lane n
  let ms := max 1 (lnTrain_RELOCK_MS s n) * 1000000
  match x.relock, x.wakeAt with
  | some t, _ => if x.st = 3 ∧ t + ms ≤ s.clk then laneBringUp n s else s
  | none, some t => if x.st = 5 ∧ t + ms ≤ s.clk then laneLost n s else s
  | none, none => s

/-- 1 024 blocks without a data block freeze the adaptation (R344). -/
def laneFreeze (n : Nat) (s : State) : State :=
  let x := s.lane n
  if laneUlk n && decide (x.st = 5) && !x.frozen && blocksPassed s n x.lastRx 1024 then s.setLane n { x with frozen := true } else s

/-- A data block arrives: adaptation resumes (R344). -/
def laneRxData (n : Nat) (s : State) : State := s.setLane n { s.lane n with lastRx := s.clk, frozen := (s.lane n).rxSleep }
/-- A data block is sent. -/
def laneTxData (n : Nat) (s : State) : State := s.setLane n { s.lane n with lastTx := s.clk }

/-- The lane serves its link layer's transmit side now. -/
def laneTxOk (s : State) (n : Nat) : Bool := decide ((s.lane n).st = 5) && !(s.lane n).txSleep && decide ((s.lane n).txFrom ≤ s.clk)
/-- The lane serves its link layer's receive side now. -/
def laneRxOk (s : State) (n : Nat) : Bool := decide ((s.lane n).st = 5) && !(s.lane n).rxSleep && (s.lane n).blk

/-- A SLEEP block arrives (R350). -/
def laneRxSleep (n : Nat) (s : State) : State :=
  let x := s.lane n
  if laneUlk n ∧ x.st = 5 ∧ !x.rxSleep then
    let s1 := visorStop n s
    laneRaise n 6 (s1.setLane n { s1.lane n with rxSleep := true, frozen := true, pll := pllOf x.txSleep true })
  else s

/-- A block with an invalid header, or of a lane type not listed, counts (R335, R336). -/
def badHdrRx (n : Nat) (s : State) : State := s.setLane n { s.lane n with badHdr := satInc 16 (s.lane n).badHdr }

/-- A sleeping receiver finds signal (R351). -/
def laneSignal (n : Nat) (s : State) : State :=
  let x := s.lane n
  if x.rxSleep then laneRaise n 6 (s.setLane n { x with rxSleep := false, frozen := false, blk := false, cdr := false, pll := true, wakeAt := some s.clk, lastRx := s.clk }) else s

/-! ### Configuration, test modes, visor, PRBS (R346 to R349, R354) -/

/-- A lane that LOOP or the PRBS facilities hold in TEST (R347). -/
def testWanted (s : State) (n : Nat) : Bool :=
  decide (lnCfg_LOOP s n ≠ 0) || (decide (n < 2) && decide (lnPrbs_GEN_EN s n = 1 ∨ lnPrbs_CHK_EN s n = 1))

/-- Enter or leave TEST (R347). -/
def laneTest (n : Nat) (s : State) : State :=
  let x := s.lane n
  if x.st = 0 ∨ lanePcie n then s
  else if testWanted s n then
    if x.st = 6 then s else
      let s1 := sleepEnds n (bgtDrop 5 n s)
      s1.setLane n { s1.lane n with st := 6, asking := false, retryAt := none, relock := none, wakeAt := none, rxSleep := false, txSleep := false, frozen := false }
  else if x.st = 6 then
    let s1 := visorStop n s
    s1.setLane n { s1.lane n with st := 3, blk := false, cdr := false, pll := true, relock := some s.clk, prbsLock := false }
  else s

/-- Refuse with a reason (R354). -/
def laneRej (n r : Nat) (s : State) : State := laneRaise n 7 (s.setLane n { s.lane n with rej := r })

/-- A write of LN_CFG (R337, R347, R353, R354). -/
def lnCfgWrite (n : Nat) (v : Word) (s : State) : State :=
  if fld v 9 8 = 3 then laneRej n 1 s
  else if lanePcie n && decide (fld v 17 16 ≠ 0) then laneRej n 2 s
  else
    let was := lnCfg_EN s n
    let s1 := s.setRw (lnCfgAt n) (v &&& 0xF0333B01#32)
    if lnCfg_EN s1 n = 0 then laneOff n s1
    else if was = 0 ∧ (s1.dom (19 + n)).st ≠ 4 then laneTest n (laneBringUp n s1)
    else laneTest n s1

/-- A write of LN_CTL (R337, R350): TX_SLEEP, and RETRAIN. -/
def lnCtlWrite (n : Nat) (v : Word) (s : State) : State :=
  let s1 := laneSleep n (s.setRw (lnCtlAt n) (v &&& 1#32))
  let x := s1.lane n
  if bit v 1 && decide (lnCfg_EN s1 n = 1) && decide (x.st ≠ 0 ∧ x.st ≠ 6) then
    let s2 := laneBringUp n s1
    s2.setLane n { s2.lane n with retrain := true }
  else s1

/-- A lane's state as LN_STAT shows it: on PCIe lanes 5 in L0 and 3 otherwise (R353). -/
def laneState (s : State) (n : Nat) : Nat :=
  if lanePcie n then (if s.pcie.up && decide ((s.dom 31).st = 0) then 5 else 3) else (s.lane n).st

/-- A write of LN_VISOR (R346). -/
def lnVisorWrite (n : Nat) (v : Word) (s : State) : State :=
  let s1 := s.setRw (lnVisorAt n) (v &&& 0x3FFF007F#32)
  let x := s1.lane n
  if bit v 31 && x.visor.isNone then
    if (laneState s1 n = 5 ∨ laneState s1 n = 6) ∧ !x.rxSleep then
      s1.setLane n { x with visor := some (s.clk, max 16 (min 44 (fld v 29 24))), visorAbort := false, visorErr := 0 }
    else laneRej n 5 s1
  else s1

/-- The scan has compared its bits (R346); `errs` disagreements. -/
def lnVisorDone (n errs : Nat) (s : State) : State :=
  let x := s.lane n
  match x.visor with
  | some (t, l) => if 2 ^ l * 4000 ≤ (s.clk - t) * lineRate n x.rate then laneRaise n 4 (s.setLane n { x with visor := none, visorErr := min errs (2 ^ l) }) else s
  | none => s

/-- Invert `k` transmitted bits (R349), unless an injection is in progress; `burst` for INJ_BURST. -/
def laneInject (n k : Nat) (burst : Bool) (s : State) : State :=
  let x := s.lane n
  if (x.st = 5 ∨ x.st = 6) ∧ x.injEnd ≤ s.clk then
    wireOut (.invert n k) (s.setLane n { x with inj := x.inj + k, injEnd := s.clk + cdiv (2 * blockPs x.rate) 1000, burst := burst })
  else s

/-- A write of LN_PRBS (R348, R349, R354). -/
def lnPrbsWrite (n : Nat) (v : Word) (s : State) : State :=
  if 2 ≤ n then s
  else if fld v 5 4 = 3 then laneRej n 4 s
  else
    let was := lnPrbs_CHK_EN s n
    let s1 := s.setRw (lnPrbsAt n) (v &&& 0x7F0033#32)
    let s2 := if was = 0 ∧ lnPrbs_CHK_EN s1 n = 1 then s1.setLane n { s1.lane n with prbsErr := 0, prbsLock := false }
      else if lnPrbs_CHK_EN s1 n = 0 then s1.setLane n { s1.lane n with prbsLock := false } else s1
    let s3 := laneTest n s2
    let s4 := if bit v 8 then laneInject n 1 false s3 else s3
    if bit v 9 then laneInject n (max 1 (min 64 (lnPrbs_BURST_LEN s4 n))) true s4 else s4

/-- The checker finds, and loses, its lock (R348): `bits` are the last 95 received, the oldest in bit 0. -/
def prbsLock (n : Nat) (bits : BitVec 95) (s : State) : State :=
  if n < 2 ∧ lnPrbs_CHK_EN s n = 1 ∧ (s.lane n).st = 6 ∧ prbsFits (lnPrbs_PATTERN s n) (if (s.lane n).polRx then ~~~bits else bits) = true then
    s.setLane n { s.lane n with prbsLock := true }
  else s
def prbsLoss (n errs : Nat) (s : State) : State :=
  let x := s.lane n
  if x.prbsLock then laneRaise n 5 (s.setLane n { x with prbsLock := false, prbsErr := satU 32 (x.prbsErr + errs) }) else s

/-- A page reset of a lane: OFF; a bring-up follows when the reset ends, if EN is 1 then. -/
def laneReset (n : Nat) (s : State) : State :=
  (laneOff n (s.setLane n { s.lane n with txSleep := false, rxSleep := false })).setLane n { injEnd := (s.lane n).injEnd, burst := (s.lane n).burst }

end Sys2Proof.Machine
end

