-- ==== Sys2Proof/Machine/Eth.lean ====
section
/-! DEFINITION. The two Ethernet MACs (spec chapter 17): link, frames received and sent, descriptor rings, streams, PTP timestamps and
one-step Syncs. -/

namespace Sys2Proof.Machine

def ethRaise (n b : Nat) (s : State) : State := raise (pETH n) b s

/-- A cause of ETH_ERR: its bit is set and ETH_ERR raised. -/
def ethErr (n c : Nat) (s : State) : State := ethRaise n 3 (s.setEth n { s.eth n with cause := (s.eth n).cause ||| 2 ^ c })

/-- A ring size within its range (R392). -/
def ringSz (v : Nat) : Nat := max 2 (min 256 v)
def txSize (s : State) (n : Nat) : Nat := ringSz (ethTxCfg_SIZE s n)
def rxSize (s : State) (n : Nat) : Nat := ringSz (ethRxCfg_SIZE s n)

/-- The address of the descriptor at a ring's HEAD. -/
def txDesc (s : State) (n : Nat) : Nat := ethTxBase_BASE s n * 16 + 16 * ((s.eth n).txHead % txSize s n)
def rxDesc (s : State) (n : Nat) : Nat := ethRxBase_BASE s n * 16 + 32 * ((s.eth n).rxHead % rxSize s n)

/-- Write one word of a descriptor. -/
def putDesc (a : Nat) (w : Word) (s : State) : State := sramPut a ((List.range 4).map (byteOf w)) s

/-- Read bytes of SRAM space 0. -/
def sramBytes (s : State) (a n : Nat) : List Byte := (List.range n).map (fun i => s.sramB (a + i))

/-- Descriptors between HEAD and a TAIL; all of them where the two meet on a descriptor with OWN 1 (R392). -/
def handed (s : State) (desc head tail size : Nat) : Nat :=
  let k := (tail % size + size - head % size) % size
  if k = 0 then (if bit (s.sramW (desc + 4)) 31 then size else 0) else k

/-- A write of ETH_TX_TAIL (R392). -/
def txTail (n : Nat) (v : Word) (s : State) : State :=
  let s1 := s.setRw (ethTxTailAt n) (v &&& 0xFF#32)
  s1.setEth n { s1.eth n with txGiven := handed s1 (txDesc s1 n) (s1.eth n).txHead (ethTxTail_TAIL s1 n) (txSize s1 n) }

/-- A write of ETH_RX_TAIL (R392). -/
def rxTail (n : Nat) (v : Word) (s : State) : State :=
  let s1 := s.setRw (ethRxTailAt n) (v &&& 0xFF#32)
  s1.setEth n { s1.eth n with rxGiven := handed s1 (rxDesc s1 n) (s1.eth n).rxHead (ethRxTail_TAIL s1 n) (rxSize s1 n) }

/-! ### Frames -/

def fb (f : List Byte) (i : Nat) : Nat := (f.getD i 0).toNat
/-- A big-endian 16-bit field. -/
def fb16 (f : List Byte) (i : Nat) : Nat := fb f i * 2 ^ 8 + fb f (i + 1)

/-- A frame carries one VLAN tag. -/
def tagged (f : List Byte) : Bool := decide (fb16 f 12 = 0x8100)
def etOfs (f : List Byte) : Nat := if tagged f then 16 else 12

/-- Where a frame's PTP message begins, and how it is carried: 0 Ethertype, 4 UDP over IPv4, 6 UDP over IPv6 (R395). -/
def ptpAt (f : List Byte) : Option (Nat × Nat) :=
  let o := etOfs f
  let et := fb16 f o
  let p := o + 2
  if et = 0x88F7 then some (p, 0)
  else if et = 0x0800 ∧ fb f (p + 9) = 17 ∧ fb16 f (p + fb f p % 16 * 4 + 2) = 319 then some (p + fb f p % 16 * 4 + 8, 4)
  else if et = 0x86DD ∧ fb f (p + 6) = 17 ∧ fb16 f (p + 42) = 319 then some (p + 48, 6)
  else none

/-- The PTP event message of a frame: where it begins, how it is carried, its messageType (R395). -/
def ptpEvent (f : List Byte) : Option (Nat × Nat × Nat) :=
  match ptpAt f with
  | some (p, k) => if fb f (p + 1) % 16 = 2 ∧ fb f p % 16 ≤ 3 ∧ p + 34 ≤ f.length then some (p, k, fb f p % 16) else none
  | none => none

/-- The identifier of a frame: 0 where it is no PTP event message (R395, R397). -/
def ptpId (f : List Byte) : Nat :=
  match ptpEvent f with
  | some (p, _, t) => t * 2 ^ 12 + fb f (p + 4) % 16 * 2 ^ 8 + fb f (p + 31)
  | none => 0

/-- The length limit of a frame, FCS included (R389). -/
def ethLimit (s : State) (n : Nat) (f : List Byte) : Nat := if ethCfg_JUMBO s n = 1 then 9022 else if tagged f then 1522 else 1518

def macOf (lo hi : Nat) : List Nat := (List.range 6).map (fun i => if i < 4 then lo / 2 ^ (8 * i) % 256 else hi / 2 ^ (8 * (i - 4)) % 256)

/-- The addresses taken without PROMISC (R389). -/
def ethMine (s : State) (n : Nat) (f : List Byte) : Bool :=
  decide ((List.range 6).map (fb f) ∈ [macOf (ethMacLo_MAC s n) (ethMacHi_MAC s n), [255, 255, 255, 255, 255, 255], [0x01, 0x1B, 0x19, 0, 0, 0],
    [0x01, 0x80, 0xC2, 0, 0, 0x0E], [0x01, 0x00, 0x5E, 0x00, 0x01, 0x81], [0x01, 0x00, 0x5E, 0x00, 0x00, 0x6B], [0x33, 0x33, 0, 0, 0x01, 0x81], [0x33, 0x33, 0, 0, 0, 0x6B]])

/-- A PAUSE frame (IEEE 802.3 Annex 31B, named by R389). -/
def isPause (f : List Byte) : Bool := decide ((List.range 6).map (fb f) = [0x01, 0x80, 0xC2, 0, 0, 1] ∧ fb16 f 12 = 0x8808 ∧ fb16 f 14 = 1)

/-- A link speed in Mb/s. -/
def ethMbps (c : Nat) : Nat := [10, 100, 1000, 2500].getD c 1000

/-- SGMII mode: RATE 2 of the lane (R333). -/
def sgmii (s : State) (n : Nat) : Bool := decide ((s.lane (8 + n)).rate = 2)

/-- A timestamp at its resolution of 2^-7 ns, in 2^-16 ns (R394). -/
def tsRes (t : Nat) : Nat := t / 512 * 512
def rxStamp (s : State) (n t : Nat) : Nat := tsRes (if sgmii s n then t - ethRxLat_LAT s n * 65536 / 1000 else t)
def txStamp (s : State) (n t : Nat) : Nat := tsRes (if sgmii s n then t + ethTxLat_LAT s n * 65536 / 1000 else t)

def tsSec (t : Nat) : Nat := t / 65536000000000
def tsNs (t : Nat) : Nat := t % 65536000000000 / 65536

/-! ### Receiving (R389, R393, R395) -/

/-- Store a frame in the receive ring. -/
def rxStore (n : Nat) (f : List Byte) (ts : Nat) (s : State) : State :=
  let x := s.eth n
  let a := rxDesc s n
  let d1 := s.sramW (a + 4)
  if x.rxGiven = 0 ∨ !(bit d1 31) ∨ ethRxCfg_RX_BUF s n < f.length then ethErr n 1 (s.setEth n { x with rxNobuf := satInc 16 x.rxNobuf })
  else
    let ptp := (ptpEvent f).isSome
    let m := ethCfg_RX_TS s n
    let tsv := decide (2 ≤ m) || (decide (m = 1) && ptp)
    let t := rxStamp s n ts
    let w1 := word ((if tsv then 2 ^ 30 else 0) + (if ptp then 2 ^ 29 else 0) + f.length % 2 ^ 14)
    let s1 := sramPut (fld (s.sramW a) 23 0) f s
    let s2 := if tsv then putDesc (a + 20) (word (t % 65536)) (putDesc (a + 16) (word (tsNs t)) (putDesc (a + 12) (word (tsSec t / 2 ^ 32 % 2 ^ 16)) (putDesc (a + 8) (word (tsSec t)) s1))) else s1
    let s3 := putDesc (a + 4) w1 (if ptp then putDesc (a + 24) (word (ptpId f)) s2 else s2)
    ethRaise n 1 (s3.setEth n { s3.eth n with rxHead := (x.rxHead + 1) % rxSize s n, rxGiven := x.rxGiven - 1 })

/-- The frame check sequence of a frame (IEEE 802.3, named by R389). -/
def ethFcs (f : List Byte) : Word := crc32 (f.map (·.toNat))

/-- A frame arrives: its bytes without FCS, its FCS, and the ST instant (2^-16 ns) at the ball. A PAUSE frame that is honoured is filtered as any other
frame is. -/
def ethRx (n : Nat) (f : List Byte) (fcs : Word) (ts : Nat) (s0 : State) : State :=
  let pause := isPause f && decide (ethCfg_PAUSE_EN s0 n = 1) && decide (fcs = ethFcs f) && decide (60 ≤ f.length)
  let s := if pause && decide (ethCfg_EN s0 n = 1) && (s0.eth n).link then s0.setEth n { s0.eth n with pauseEnd := s0.clk + fb16 f 16 * 512 * 1000 / ethMbps (s0.eth n).speed } else s0
  let x := s.eth n
  if ethCfg_EN s n = 1 ∧ x.link then
    if fcs ≠ ethFcs f then ethErr n 3 (s.setEth n { x with rxFcs := satInc 8 x.rxFcs })
    else if f.length + 4 < 64 ∨ ethLimit s n f < f.length + 4 then ethErr n 3 (s.setEth n { x with rxSize := satInc 8 x.rxSize })

    else if ethCfg_PROMISC s n = 1 ∨ ethMine s n f then rxStore n f ts s
    else s
  else s

/-! ### Sending (R390 to R392, R396 to R398) -/

/-- Replace bytes of a frame from an offset on. -/
def patch (f : List Byte) (o : Nat) (b : List Byte) : List Byte := f.take o ++ b ++ f.drop (o + b.length)

/-- A number as `k` big-endian bytes. -/
def beBytes (k v : Nat) : List Byte := (List.range k).map (fun i => BitVec.ofNat 8 (v / 2 ^ (8 * (k - 1 - i))))

/-- The one's complement sum of 16-bit big-endian words. -/
def ocSum (b : List Byte) : Nat :=
  let t := ((List.range (cdiv b.length 2)).map (fun i => fb16 b (2 * i))).sum
  let u := t % 2 ^ 16 + t / 2 ^ 16
  let v := u % 2 ^ 16 + u / 2 ^ 16
  v % 2 ^ 16 + v / 2 ^ 16

/-- The UDP checksum over IPv6 with its field taken as 0 (R396). -/
def udp6 (f : List Byte) (ip : Nat) : Nat :=
  let len := fb16 f (ip + 44)
  let c := 2 ^ 16 - 1 - ocSum ((f.drop (ip + 8)).take 32 ++ beBytes 4 len ++ beBytes 4 17 ++ ((patch f (ip + 46) [0, 0]).drop (ip + 40)).take len)
  if c = 0 then 2 ^ 16 - 1 else c

/-- A one-step Sync as it leaves with transmit timestamp `t` (2^-16 ns) (R396). -/
def oneStep (f : List Byte) (t : Nat) : List Byte :=
  match ptpEvent f with
  | some (p, k, 0) =>
    let corr := (List.range 8).foldl (fun a i => a * 256 + fb f (p + 8 + i)) 0
    let f1 := patch (patch f (p + 34) (beBytes 6 (tsSec t) ++ beBytes 4 (tsNs t))) (p + 8) (beBytes 8 (corr + t % 65536))
    if k = 4 then patch f1 (p - 2) [0, 0] else if k = 6 then patch f1 (p - 2) (beBytes 2 (udp6 f1 (p - 48))) else f1
  | _ => f

/-- A stream with a packet for this MAC: the one after the last served, in number order. -/
def strReady (s : State) (n : Nat) : Option Nat :=
  let ok (k : Nat) : Bool := let x := s.str k
    x.run && decide (x.desc.consumer = 2 ∧ x.desc.dest = n) && (x.reading.isSome || (match headPkt x with | some p => headOk s k p || s.dram.selfref | none => false))
  match (s.eth n).cur with
  | some (k, _, _) => some k
  | none => ((List.range 128).map (fun i => ((s.eth n).lastStr + 1 + i) % 128)).find? ok

/-- A ring frame waits: handed over and owned by the hub. -/
def ringReady (s : State) (n : Nat) : Bool := decide ((s.eth n).txGiven ≠ 0) && bit (s.sramW (txDesc s n + 4)) 31

/-- Write a transmit descriptor back and advance HEAD (R392). -/
def txBack (n id : Nat) (dropped err : Bool) (s : State) : State :=
  let a := txDesc s n
  let x := s.eth n
  let d2 := word (id * 2 ^ 16 + (if dropped then 4 else 0) + (if err then 2 else 0) + 1)
  let s1 := putDesc (a + 4) (s.sramW (a + 4) &&& 0x7FFFFFFF#32) (putDesc (a + 8) d2 s)
  s1.setEth n { s1.eth n with txHead := (x.txHead + 1) % txSize s n, txGiven := x.txGiven - 1 }

/-- Queue a transmit timestamp; whether it was discarded (R397, R398). -/
def tsQueue (n id t : Nat) (s : State) : Bool × State :=
  let x := s.eth n
  if 16 ≤ x.tsq.length then (true, ethErr n 0 (s.setEth n { x with tsDrop := satInc 16 x.tsDrop, tsOvf := true }))
  else (false, ethRaise n 2 (s.setEth n { x with tsq := x.tsq ++ [⟨id, x.tsOvf, t⟩], tsOvf := false }))

/-- Put a frame on the ball, its FCS after it (R389). -/
def ethOut (n : Nat) (f : List Byte) (str : Bool) (s : State) : State :=
  s.setEth n { s.eth n with sent := (f ++ (List.range 4).map (byteOf (ethFcs f))) :: (s.eth n).sent, strLast := str }

/-- Send the ring frame at HEAD, its first bit at `ts` (R392, R396, R397); a length out of range is written back with ERR. -/
def txRing (n ts : Nat) (s : State) : State :=
  let a := txDesc s n
  let d1 := s.sramW (a + 4)
  let len := fld d1 13 0
  let f := sramBytes s (fld (s.sramW a) 23 0) len
  if len < 60 ∨ ethLimit s n f < len + 4 then ethErr n 2 (txBack n 0 false true s)
  else
    let t := txStamp s n ts
    let g := if bit d1 17 then oneStep f t else f
    let s1 := ethOut n g false s
    if bit d1 16 then
      let q := tsQueue n (ptpId f) t s1
      txBack n (ptpId f) q.1 false q.2
    else txBack n 0 false false s1

/-- Send the next fragment of a stream's packet (R390, R391). -/
def txStream (n k : Nat) (s : State) : State :=
  let s1 := if (s.str k).reading.isNone then beginPkt k ((s.str k).pkts.length) s else s
  match (s1.str k).reading with
  | none => s1
  | some (q, _) =>
    match (s1.str k).pkts.find? (fun p => decide (p.pseq = q)) with
    | none => s1
    | some p =>
      match deliverPkt s1 k p with
      | none => s1
      | some ws =>
        let i := match (s1.eth n).cur with | some (_, _, i) => i | none => 0
        let cap := if ethCfg_JUMBO s n = 1 then 8996 else 1496
        let bs := ws.flatMap (fun w => (List.range 4).map (byteOf w))
        let last := decide (bs.length ≤ (i + 1) * cap)
        let fw := word (q % 2 ^ 16 + i * 2 ^ 16 + k * 2 ^ 24 + (if last then 2 ^ 31 else 0))
        let nat (l : List Nat) : List Byte := l.map (BitVec.ofNat 8)
        let f0 := nat (macOf (ethStrDaLo_DA s n) (ethStrDaHi_DA s n)) ++ nat (macOf (ethMacLo_MAC s n) (ethMacHi_MAC s n))
          ++ (if ethCfg_VLAN_EN s n = 1 then beBytes 2 0x8100 ++ beBytes 2 (ethVlan_TCI s n) else []) ++ beBytes 2 (ethStrType_TYPE s n)
          ++ (List.range 4).map (byteOf fw) ++ (bs.drop (i * cap)).take cap
        let f := f0 ++ List.replicate (60 - f0.length) 0
        let s2 := ethOut n f true s1
        if last then
          let s3 := modPkt k q (fun p => { p with isRead := true }) (s2.setStr k { s2.str k with reading := none })
          s3.setEth n { s3.eth n with cur := none, lastStr := k }
        else s2.setEth n { s2.eth n with cur := some (k, q, i + 1) }

/-- A frame leaves the ball at `ts` (R391): a ring frame with TS_REQ before a stream's, otherwise the two alternate. -/
def ethTx (n ts : Nat) (s : State) : State :=
  let x := s.eth n
  if ethCfg_EN s n = 1 ∧ x.link ∧ x.pauseEnd ≤ s.clk then
    match ringReady s n, strReady s n with
    | true, none => txRing n ts s
    | false, some k => txStream n k s
    | true, some k => if bit (s.sramW (txDesc s n + 4)) 16 ∨ x.strLast then txRing n ts s else txStream n k s
    | false, none => s
  else s

/-- Whether the mode auto-negotiates: 1000BASE-X with AN_EN 1 (R388). -/
def ethNegotiates (s : State) (n : Nat) : Bool := decide ((s.lane (8 + n)).rate = 0) && decide (ethCfg_AN_EN s n = 1)

/-- The link state changes (R388, R391): what auto-negotiation, or in SGMII the PHY's in-band status, brings, by the lane's mode. A partner of
half duplex only (`anFail`) leaves the link down; `mid`: a frame of the ring (1) or of a stream (2) was being sent and is cut short. -/
def ethLink (n : Nat) (up : Bool) (speed : Nat) (anDone anFail : Bool) (mid : Nat) (s : State) : State :=
  let x := s.eth n
  let an := ethNegotiates s n
  let bad := anFail && (an || sgmii s n)
  let l := up && decide ((s.lane (8 + n)).st = 5) && decide (ethCfg_EN s n = 1) && !bad && (!an || anDone)
  let sp := if sgmii s n then min 2 speed else if (s.lane (8 + n)).rate = 1 then 3 else 2
  let s1 := s.setEth n { x with link := l, speed := sp, anDone := an && anDone, anFail := bad }
  let s2 := raiseIf (x.link != l) (pETH n) 0 s1
  if x.link && !l then
    let s3 := if mid = 1 && ringReady s2 n then ethErr n 2 (txBack n 0 false true s2) else s2
    s3.setEth n { s3.eth n with cur := (s3.eth n).cur.map (fun c => (c.1, c.2.1, 0)) }
  else s2

/-- A read of ETH_TXTS_W0 (R397). -/
def txtsRead (n : Nat) (s : State) : State :=
  let x := s.eth n
  match x.tsq with
  | [] => s.answer 0
  | e :: t => (s.setEth n { x with tsq := t, tsLat := e.t }).answer (word (2 ^ 31 + (if e.ovf then 2 ^ 30 else 0) + e.id))

/-- A page reset of ETH_n: the queue empties, both rings stop at their HEAD. -/
def ethReset (n : Nat) (s : State) : State :=
  let x := s.eth n
  s.setEth n { link := x.link, speed := x.speed, anDone := x.anDone, anFail := x.anFail, sent := x.sent }

end Sys2Proof.Machine
end

