-- ==== Sys2Proof/Machine/Loop.lean ====
section
/-! DEFINITION. Force-feedback loops (spec chapter 9): the tap values they gather, the inner and outer laws, the ramp, mode requests and
hand-over, loss of the tap, the safe code, and the contexts they publish. -/

namespace Sys2Proof.Machine

/-! ### Descriptor (R225) -/

/-- Word `i` of a loop's descriptor in the table region. -/
def lw (s : State) (n i : Nat) : Word := s.tblW (0x52000 + n * 0x100 + 4 * i)

/-- Word 0 in use: as read when the loop left OFF; in OFF as the table holds it (R204). -/
def lw0 (s : State) (n : Nat) : Word := if (s.loop n).mode = 0 then lw s n 0 else (s.loop n).w0
def lpSLICE (w : Word) : Nat := fld w 5 0
def lpIDIV (w : Word) : Nat := max 1 (fld w 12 8)
def lpODIV (w : Word) : Nat := if fld w 26 16 < 2 ∨ 1024 < fld w 26 16 then 2 else fld w 26 16
def lpINV (w : Word) : Bool := bit w 28

/-- A gain word: mantissa and shift. -/
def gK (w : Word) : Int := sfld w 15 0
def gSH (w : Word) : Nat := fld w 19 16

/-- A table word in the snapshot the loop's cycle works on (R218). -/
def State.snapW (s : State) (n o : Nat) : Word :=
  let b (k : Nat) : Byte := tget sram0 (s.loop n).snap (tblBase + o + k)
  leWord (b 0) (b 1) (b 2) (b 3)

/-- Word `i` of a loop's descriptor in that snapshot. -/
def lv (s : State) (n i : Nat) : Word := s.snapW n (0x52000 + n * 0x100 + 4 * i)

/-- Whether a table offset belongs to loop `n`: its descriptor or its tables (R207, R225). -/
def loopOff (n o : Nat) : Bool := decide (0x52000 + n * 0x100 ≤ o ∧ o < 0x52100 + n * 0x100) || decide (0x54000 + n * 0x400 ≤ o ∧ o < 0x54400 + n * 0x400)

/-- The snapshot of loop `n`'s words at the delivery of a tap value (R218): a word written less than 1 µs ago is the new one or the one before it,
which of the two the spec leaves open (a free value for each). -/
def loopSnap (n : Nat) (s : State) : List Host.Cell × State :=
  (s.loopOld.filter (fun x => loopOff n x.off && decide (s.st < x.at_ + usU))).foldl (fun p x =>
    let f := p.2.free
    (if f.1 % 2 = 0 then p.1 else (List.range 4).foldl (fun m k => tset sram0 m (tblBase + x.off + k) (byteOf x.old k)) p.1, f.2)) (s.sram.filter (fun c => loopOff n (c.1 - tblBase) && decide (tblBase ≤ c.1)), s)

/-- A 20-bit driver code, clamped to ±(2^19 − 1) (R209). -/
def fdCode (n : Nat) : Int := clampI (-(2 ^ 19 - 1)) (2 ^ 19 - 1) (sgn 20 n)
def fdSafe (s : State) (n : Nat) : Int := fdCode (fdSafe_CODE s n)
def fdMax (s : State) (n : Nat) : Int := fdCode (fdMax_CODE s n)
def fdMin (s : State) (n : Nat) : Int := fdCode (fdMin_CODE s n)

/-- A table value at position `x` (R207): `base` 0x000 the force factor, 0x200 the stiction. -/
def loopTable (s : State) (n base : Nat) (x : Int) : Int :=
  let j := (x + 32768).toNat
  let i := min 255 (j / 256)
  let ent (k : Nat) : Int :=
    let w := s.snapW n (0x54000 + n * 0x400 + base + k / 2 * 4)
    if k % 2 = 0 then sfld w 15 0 else sfld w 31 16
  ent i + rdivAway ((j % 256 : Nat) * (ent (min 255 (i + 1)) - ent i)) 256

/-- The code FD_n delivers: FD_SAFE in OFF, in HOLD with SAFE and in the hub's SAFE state, else y (R210, R222). -/
def fdNow (s : State) (n : Nat) : Int :=
  let x := s.loop n
  if s.pwr.state = 4 ∨ x.mode = 0 ∨ (x.mode = 4 ∧ x.safe) then fdSafe s n else x.y

/-! ### Events and rejections -/

/-- Raise a loop event (LP_FLAGS): the page's bit is set when the loop's flag rises. -/
def lraise (n b : Nat) (s : State) : State :=
  let x := s.loop n
  if x.flags.testBit b then s else raise pLOOP b (s.setLoop n { x with flags := x.flags ||| 2 ^ b })

def lraiseIf (c : Bool) (n b : Nat) (s : State) : State := if c then lraise n b s else s

/-- Reject the pending request (R212). -/
def loopRej (n reason : Nat) (s : State) : State :=
  lraise n 1 (bgtDrop 1 n (s.setLoop n { s.loop n with req := none, leaveWait := false, rej := reason }))

/-- The output's slew to a new law ends: LOOP_HO_SLEW_DONE when HO_SLEW falls. -/
def slewEnd (n : Nat) (s : State) : State :=
  if (s.loop n).slew then lraise n 10 (s.setLoop n { s.loop n with slew := false }) else s

/-- Why a request for mode `m` is rejected, if it is (R203, R212). POWER is for every request, whatever its mode. In the hub's SAFE state, which
only a reset leaves, every loop stays as SAFE put it; the spec names no reason there, the model rejects with SAFE (DESIGN CHOICE, log entry 115). -/
def loopBar (s : State) (n m : Nat) : Option Nat :=
  let w := lw0 s n
  let sl := lpSLICE w
  let a := (s.slice (s.pairEven sl)).app
  if 5 ≤ m then some 5
  else if s.pwr.state = 4 then some 4
  else if s.pwr.state = 2 ∨ s.pwr.state = 3 then some 6
  else if m = 0 ∨ m = 4 then none
  else if (s.loop n).mode = 0 ∧ tblBad s (0x52000 + n * 0x100) 0x100 then some 5
  else if s.sliceDec sl * lpIDIV w < 64 then some 1
  else if s.sliceOff sl ∨ (setCtxs a).any (fun c => dMODE (s.ctx c).desc) then some 2
  else none

/-! ### Arithmetic (R205) -/

/-- An accumulator value saturated at ±(2^39 − 1), with the flag gathered. -/
def satAcc (x : Int) (f : Bool) : Int × Bool :=
  if 2 ^ 39 - 1 < x then (2 ^ 39 - 1, true) else if x < -(2 ^ 39 - 1) then (-(2 ^ 39 - 1), true) else (x, f)

/-- A product with a gain word, at its shift, saturated. -/
def gainMul (w : Word) (x : Int) (f : Bool) : Int × Bool := satAcc (gK w * x * 2 ^ gSH w) f

/-- One step of the ramp (R216): r and u. -/
def rampStep (tg v a : Int) (r u : Int) : Int × Int :=
  let d := tg - r
  let u1 :=
    if a = 0 then (if v = 0 then d else clampI (-v) v d)
    else if u ≠ 0 ∧ (u.sign ≠ d.sign ∨ (d.natAbs : Int) * (2 * a) ≤ u * u) then u - u.sign * min a (u.natAbs : Int)
    else if v = 0 then u + d.sign * a
    else clampI (-v) v (u + d.sign * a)
  let r1 := r + u1
  if a ≠ 0 ∧ ((tg - r1).natAbs : Int) ≤ a ∧ (u1.natAbs : Int) ≤ a then (tg, 0) else (r1, u1)

/-- The ramp's target, in 2^-47 of full scale. -/
def rampTarget (s : State) (n : Nat) : Int := sgn 32 (lv s n 14).toNat * 2 ^ 16

/-- Run the ramp one cycle: SP_LIMIT, and LOOP_SP_REACHED when it falls. -/
def rampRun (n : Nat) (s : State) : State :=
  let x := s.loop n
  let tg := rampTarget s n
  let p := rampStep tg ((lv s n 15).toNat * 2 ^ 16 : Nat) ((lv s n 16).toNat : Nat) x.r x.u
  let lim := decide (p.1 ≠ tg)
  lraiseIf (x.spLimit && !lim) n 8 (s.setLoop n { x with r := p.1, u := p.2, spLimit := lim })

/-- A saturated Q1.15 value. -/
def q15 (x : Int) : Int := satS 16 x

/-- The position of a cycle (R205, step 1). -/
def loopPos (s : State) (n : Nat) (mean : Int) : Int :=
  let x := rshAway mean 8
  let off := decide ((s.loop n).mode = 0)
  let w0 := if off then lv s n 0 else (s.loop n).w0
  let w1 := if off then lv s n 1 else (s.loop n).w1
  clampI (-32767) 32767 ((if lpINV w0 then -x else x) - sfld w1 15 0)

/-- The inner set-point of a mode (R205, R210). -/
def loopSet (s : State) (n : Nat) : Int :=
  let x := s.loop n
  if x.mode = 2 then x.o
  else q15 (q15 (rshAway x.r 32) + (if bit (lv s n 13) 16 then x.o else 0))

/-- What the laws of a cycle leave before the output limit of step 12. -/
structure LawOut where
  d : Int
  i : Int
  ystar : Int
  iClamp : Bool
  hi : Bool
  lo : Bool
  sat : Bool
  deriving DecidableEq, Repr

/-- Clamp a target code (R205, step 11): the code, and whether it was clamped at FD_MAX, at FD_MIN. -/
def clampFd (s : State) (n : Nat) (y : Int) : Int × Bool × Bool :=
  if fdMax s n < y then (fdMax s n, true, false) else if y < fdMin s n then (fdMin s n, false, true) else (y, false, false)

/-- Steps 3 to 11 for position `x` (R205, R206); with `preload`, I is set under R214 in place of step 6. -/
def innerLaw (s : State) (n : Nat) (x : Int) (preload : Bool) : LawOut :=
  let st := s.loop n
  let sp := loopSet s n
  let e := q15 (sp - x)
  let p := gainMul (lv s n 2) e false
  let dl := q15 (st.xPrev.getD x - x)
  let df := if sfld (lv s n 5) 15 0 = 0 then 32768 else sfld (lv s n 5) 15 0
  let dg := gainMul (lv s n 4) dl p.2
  let dt := satAcc (dg.1 - st.d) dg.2
  let d := satAcc (st.d + rdivAway (df * dt.1) 32768) dt.2
  let f := gainMul (lv s n 6) sp d.2
  let imin := sfld (lv s n 7) 31 16 * 2 ^ 15
  let imax := sfld (lv s n 7) 15 0 * 2 ^ 15
  let tab := fld (lv s n 9) 17 16
  let c := if tab.testBit 0 then loopTable s n 0 x else 0
  let sg := if st.mode = 3 ∧ st.u ≠ 0 then st.u.sign else if (fld (lv s n 9) 15 0 : Int) < (e.natAbs : Int) then e.sign else 0
  let stic := if tab.testBit 1 then loopTable s n 0x200 x * sg * 2 ^ 15 else 0
  let inc := gK (lv s n 3) * e * 2 ^ gSH (lv s n 3)
  let drop := (decide (imax ≤ st.i) && decide (0 < inc)) || (decide (st.i ≤ imin) && decide (inc < 0)) || (st.limHi && decide (0 < inc)) || (st.limLo && decide (inc < 0))
  let iv : (Int × Bool) × Bool :=
    if preload then
      let v3 := st.y * 2 ^ 11 - stic
      let v2 := if 32768 + c ≤ 0 then 0 else rdivAway (v3 * 32768) (32768 + c).toNat
      ((clampI imin imax (v2 - p.1 - d.1 - f.1), f.2), false)
    else if drop then ((clampI imin imax st.i, f.2), true)
    else
      let a := satAcc (st.i + inc) f.2
      ((clampI imin imax a.1, a.2), false)
  let v0 := satAcc (p.1 + iv.1.1) iv.1.2
  let v1 := satAcc (v0.1 + d.1) v0.2
  let v2 := satAcc (v1.1 + f.1) v1.2
  let v3 := satAcc (v2.1 + rdivAway (v2.1 * c) 32768) v2.2
  let v4 := satAcc (v3.1 + stic) v3.2
  let y := clampFd s n (rshAway v4.1 11)
  ⟨d.1, iv.1.1, y.1, iv.2, y.2.1, y.2.2, v4.2⟩

/-- The outer law on one more position (R208): it runs once per ODIV cycles on their mean; a saturation counts as one of the inner law's (R205). -/
def outerLaw (n : Nat) (x : Int) (s : State) : State :=
  let st := s.loop n
  let k := lpODIV st.w0
  if st.mCnt + 1 < k then s.setLoop n { st with mSum := st.mSum + x, mCnt := st.mCnt + 1 }
  else
    let m := rdivAway (st.mSum + x) k
    let e := q15 (sfld (lv s n 13) 15 0 - m)
    let lo := sfld (lv s n 12) 31 16 * 2 ^ 15
    let hi := sfld (lv s n 12) 15 0 * 2 ^ 15
    let inc := gK (lv s n 11) * e * 2 ^ gSH (lv s n 11)
    let drop := (decide (hi ≤ st.io) && decide (0 < inc)) || (decide (st.io ≤ lo) && decide (inc < 0))
    let io := if drop then (st.io, false) else satAcc (st.io + inc) false
    let io1 := clampI lo hi io.1
    let p := gainMul (lv s n 10) e io.2
    let o := satAcc (p.1 + io1) p.2
    lraiseIf o.2 n 9 (s.setLoop n { st with mSum := 0, mCnt := 0, io := io1, o := q15 (rshAway o.1 15), accSat := st.accSat || o.2 })

/-- Step 12: the output code under OUT_RATE (R205). -/
def outRate (s : State) (n : Nat) (yPrev ystar : Int) : Int :=
  let r : Int := fld (lv s n 8) 19 0
  if r = 0 then ystar else yPrev + clampI (-r) r (ystar - yPrev)

/-! ### The contexts a loop publishes (R224) -/

/-- Whether a descriptor reads loop `n`'s drive (KIND 4) or integrator (KIND 5). -/
def loopReads (n : Nat) (d : List Word) : Bool := dLOOPK d && decide (dSOURCE d = n)

/-- The contexts with EN 1 that read a loop. -/
def loopCtxs (s : State) (n : Nat) : List Nat := s.runCtxs (loopReads n)

/-- The integrator as KIND 5 and LP_INTEG show it. -/
def loopInteg (x : LoopSt) : Int := satS 24 (rshAway x.i 7)

/-- Pass a cycle's sample to the loop's contexts: index `j`, marks for the drive and for the integrator; held values in tap hold. -/
def loopPublish (n j mD mI : Nat) (held : Bool) (s : State) : State :=
  let x := s.loop n
  (loopCtxs s n).foldl (fun a c =>
    onRuns (loopReads n) c (fun b =>
      if held then pushHeld c false j 8 b
      else if dKIND (runDesc (b.ctx c)) = 4 then pushInput c false { v := x.y * 16 * 256, j := j, marks := mD, fi := 0, fx := 0 } b
      else pushInput c false { v := loopInteg x * 256, j := j, marks := mI, fi := 0, fx := 0 } b) a) s

/-- A hand-over is a settling event of the loop's contexts (R215). -/
def loopSettles (n : Nat) (s : State) : State := (loopCtxs s n).foldl (fun a c => settleEvent c s.st 0 false 0 a) s

/-! ### Hand-over (R213, R214) -/

/-- Enter OFF (R213). -/
def enterOff (n : Nat) (s : State) : State :=
  let x := s.loop n
  let f := fdSafe s n
  lraise n 0 (loopSettles n (slewEnd n (lraiseIf x.spLimit n 8 (s.setLoop n { x with mode := 0, before := 0, safe := false, i := 0, io := 0, d := 0, r := 0, u := 0, o := 0, xPrev := none, mSum := 0, mCnt := 0, y := f, diff := f - x.y, tapHold := false, iClamp := false, limHi := false, limLo := false, spLimit := false, accSat := false, taps := [], ready := [] }))))

/-- Enter HOLD, at the safe code with `safe` (R213, R222). -/
def enterHold (n : Nat) (safe : Bool) (s : State) : State :=
  let x := s.loop n
  let y := if safe then fdSafe s n else x.y
  let b := if x.mode = 4 then x.before else x.mode
  let x1 := if x.mode = 0 then { x with w0 := lv s n 0, w1 := lv s n 1, cycles := 0 } else x
  lraise n 0 (loopSettles n (slewEnd n (s.setLoop n { x1 with mode := 4, before := b, safe := safe, y := y, diff := y - x.y, tapHold := false })))

/-- Load a loop's state on entering a running mode `m` at position `x` (the table of R213); leaving HOLD resumes or follows the mode
before it, and a loop in that mode already only keeps its state (tap hold's end). -/
def loopLoad (s : State) (n m : Nat) (x : Int) : LoopSt :=
  let st := s.loop n
  let from_ := if st.mode = 4 then st.before else st.mode
  let b := { st with mode := m, before := 0, safe := false, tapHold := false, xPrev := some (st.xPrev.getD x) }
  if from_ = m then b
  else if m = 1 then { b with r := st.y * 2 ^ 28, u := 0, i := 0, io := 0, o := 0 }
  else if m = 2 then
    let o := if from_ = 3 then q15 (q15 (rshAway st.r 32) + (if bit (lv s n 13) 16 then st.o else 0)) else x
    let e := q15 (sfld (lv s n 13) 15 0 - x)
    let io := clampI (sfld (lv s n 12) 31 16 * 2 ^ 15) (sfld (lv s n 12) 15 0 * 2 ^ 15) (o * 2 ^ 15 - gK (lv s n 10) * e * 2 ^ gSH (lv s n 10))
    { b with o := o, io := io, mSum := 0, mCnt := 0 }
  else if from_ = 2 then { b with r := st.o * 2 ^ 32, u := 0, mSum := 0, mCnt := 0 }
  else { b with r := x * 2 ^ 32, u := 0, io := 0, o := 0, mSum := 0, mCnt := 0 }

/-- Run the ramp where the mode runs it (R210). -/
def modeRamp (n : Nat) (s : State) : State := if (s.loop n).mode = 2 then s else rampRun n s

/-- The target code of a cycle in OPEN (R210). -/
def openLaw (s : State) (n : Nat) : LawOut :=
  let x := s.loop n
  let y := clampFd s n (rshAway x.r 28)
  ⟨x.d, x.i, y.1, false, y.2.1, y.2.2, false⟩

/-- One cycle of the law in force on position `x`; a hand-over cycle preloads I, records its difference and may start a slew. -/
def lawCycle (n : Nat) (x : Int) (handover : Bool) (s : State) : State :=
  let s1 := modeRamp n s
  let st := s1.loop n
  let l := if st.mode = 1 then openLaw s1 n else innerLaw s1 n x handover
  let y := outRate s1 n st.y l.ystar
  let st1 := { st with d := l.d, i := l.i, y := y, xPrev := some x, iClamp := l.iClamp, limHi := l.hi, limLo := l.lo, accSat := l.sat, diff := if handover then l.ystar - st.y else st.diff }
  let s2 := lraiseIf (l.iClamp && !st.iClamp) n 6 (s1.setLoop n st1)
  let s3 := lraiseIf ((l.hi || l.lo) && !(st.limHi || st.limLo)) n 7 s2
  let s4 := lraiseIf l.sat n 9 s3
  let s5 := if handover then lraise n 0 (loopSettles n s4) else s4
  let s6 := if y = l.ystar then slewEnd n s5 else if handover then s5.setLoop n { s5.loop n with slew := true } else s5
  if st.mode = 2 ∨ (st.mode = 3 ∧ bit (lv s n 13) 16) then outerLaw n x s6 else s6

/-- A running mode is entered, or resumed, at position `x` (R213, R214). -/
def enterRun (n m : Nat) (x : Int) (s : State) : State :=
  let off := decide ((s.loop n).mode = 0)
  let st := loopLoad s n m x
  let st1 := if off then { st with w0 := lv s n 0, w1 := lv s n 1, cycles := 0 } else st
  lawCycle n x true (slewEnd n (s.setLoop n st1))

/-! ### The inner cycle (R202, R205, R210, R220) -/

/-- A tap value of a slice reaches the loops that read it; a group of IDIV values, ending on an index that is a multiple of IDIV, makes
a cycle (R202), with the loop's words as they stand at the delivery of its newest value (R218). -/
def loopTap (sl j : Nat) (s : State) : State :=
  (List.range 16).foldl (fun a n =>
    let x := a.loop n
    let w := lw0 a n
    if lpSLICE w = sl ∧ (x.mode ≠ 0 ∨ x.req.isSome) then
      let tp := (a.slice sl).tap
      let ts := ⟨j, tp.v, tp.clamped, tp.ovl, tp.stale, a.st⟩ :: x.taps
      let x1 := { x with lastTap := a.clk }
      if j % lpIDIV w ≠ 0 then a.setLoop n { x1 with taps := ts }
      else if lpIDIV w ≤ ts.length then
        let q := loopSnap n a
        q.2.setLoop n { x1 with taps := [], ready := x.ready ++ [⟨ts.take (lpIDIV w), q.1⟩] }
      else a.setLoop n { x1 with taps := [] }
    else a) s

/-- Take a pending request into effect (R210 to R214) at a fresh cycle of position `x`; whether the cycle's law has run. -/
def loopTake (n m : Nat) (x : Int) (s : State) : State × Bool :=
  match loopBar s n m with
  | some r => (loopRej n r s, false)
  | none =>
    let s1 := s.setLoop n { s.loop n with req := none }
    if m = 0 then (if (s.loop n).mode = 0 then s1 else enterOff n s1, true)
    else if m = 4 then (if (s.loop n).mode = 4 then s1.setLoop n { s1.loop n with safe := false } else enterHold n false s1, true)
    else if (s.loop n).mode = m then (s1, false)
    else (enterRun n m x s1, true)

/-- Whether a pending request takes effect at a cycle whose newest tap value was delivered at `t` and is stale or not: a running mode
waits for a fresh value. -/
def loopDue (st : LoopSt) (t : Nat) (stale : Bool) : Bool :=
  match st.req with
  | some m => !st.leaveWait && decide (st.reqAt + usU ≤ t) && (!stale || decide (m = 0 ∨ m = 4))
  | none => false

/-- One inner cycle of loop `n` on the oldest complete group of tap values (R205). -/
def loopCycle (n : Nat) (s : State) : State :=
  let st := s.loop n
  match st.ready with
  | [] => s
  | g :: rest =>
    let newest := g.taps.headD ⟨0, 0, false, false, false, 0⟩
    let mean := satS 24 (rdivAway ((g.taps.map (·.v)).sum) (max 1 g.taps.length))
    let clamped := g.taps.any (·.clamped)
    let ovl := g.taps.any (·.ovl)
    let stale := g.taps.any (·.stale)
    let s1 := s.setLoop n { st with y := fdNow s n, ready := rest, snap := g.snap, xClamp := clamped || ovl, cycles := if st.mode = 0 then st.cycles else st.cycles + 1 }
    let x := loopPos s1 n mean
    let t := if loopDue st newest.at_ stale then loopTake n (st.req.getD 0) x s1 else (s1, false)
    let m := (t.1.loop n).mode
    let j := newest.j / lpIDIV (lw0 t.1 n)
    let inMk := (if clamped then 2 else 0) + (if ovl then 4 else 0)
    if m = 0 then t.1
    else if m = 4 then loopPublish n j 0 0 false t.1
    else if stale ∧ !t.2 then
      loopPublish n j 8 8 true (slewEnd n (lraiseIf (!(t.1.loop n).tapHold) n 3 (t.1.setLoop n { t.1.loop n with tapHold := true })))
    else
      let s2 := if t.2 then t.1 else if (t.1.loop n).tapHold then enterRun n m x t.1 else lawCycle n x false t.1
      let q := s2.loop n
      loopPublish n j (inMk ||| (if q.limHi || q.limLo || q.accSat then 2 else 0)) (inMk ||| (if q.accSat then 2 else 0)) false s2

/-! ### Requests, loss and safety (R210 to R212, R221, R222) -/

/-- A write of LP_CMD (R210): it replaces a pending request; a start out of OFF asks for leave (R211). Where the slice gives no tap
value, OFF takes effect at once. -/
def lpCmd (n m : Nat) (s : State) : State :=
  match loopBar s n m with
  | some r => loopRej n r s
  | none =>
    let s0 := bgtDrop 1 n s
    let st := s0.loop n
    let s1 := s0.setLoop n { st with req := some m, reqAt := s.st, leaveWait := false, ready := if st.mode = 0 then [] else st.ready, taps := if st.mode = 0 then [] else st.taps, lastTap := if st.mode = 0 then s.clk else st.lastTap }
    if st.mode = 0 ∧ m ≠ 0 ∧ m ≠ 4 then
      bgtAsk 1 n (fld (lw s n 17) 15 0) (some (fld (lw s n 17) 27 16)) none (s1.setLoop n { s1.loop n with leaveWait := true })
    else if m = 0 ∧ (loopBar s n 3).isSome then (loopTake n 0 0 s1).1
    else s1

/-- The governor's answers to a loop start (R211). -/
def loopGranted (n : Nat) (s : State) : State := s.setLoop n { s.loop n with leaveWait := false, reqAt := s.st }
def loopRefused (n : Nat) (s : State) : State := lraise n 2 (loopRej n 3 s)

/-- A loop start's grant is released when its declared duration ends (R433). -/
def loopLeaveExpiry (n : Nat) (s : State) : State :=
  if s.bgt.grants.any (fun g => decide (g.kind = 1 ∧ g.req = n) && (match g.dur with | some d => decide (g.start + d * msU ≤ s.st) | none => false))
  then bgtRelease 1 n s else s

/-- Four tap periods without a tap value (R221). -/
def loopTapLost (n : Nat) (s : State) : State :=
  let st := s.loop n
  let per := 4 * s.sliceDec (lpSLICE (lw0 s n)) * 15625 / 32
  if st.mode ≠ 0 ∧ !(decide (st.mode = 4) && st.safe) ∧ st.lastTap + per ≤ s.clk then
    lraise n 4 (enterHold n true (s.setLoop n { st with taps := [], ready := [] }))
  else s

/-- A SAFETY action for a loop (R222): HOLD at FD_SAFE; a pending request is rejected with reason SAFE. -/
def loopSafety (n : Nat) (s : State) : State :=
  let s1 := if (s.loop n).req.isSome then loopRej n 4 s else s
  lraise n 5 (if (s1.loop n).mode = 0 then s1 else enterHold n true s1)

/-- A page reset of LOOP (R223): every loop in OFF, its driver at code 0. -/
def loopReset (s : State) : State :=
  { (List.range 16).foldl (fun a n => bgtDrop 1 n a) s with loops := [] }

/-- FENG's domain going off (R223): every loop in OFF. -/
def loopsOff (s : State) : State :=
  (List.range 16).foldl (fun a n => if (a.loop n).mode = 0 ∧ (a.loop n).req.isNone then a else enterOff n (bgtDrop 1 n (a.setLoop n { a.loop n with req := none, leaveWait := false }))) s

end Sys2Proof.Machine
end

