-- ==== Sys2Proof/Machine/Rom.lean ====
section
/-! DEFINITION. The boot ROM and the measurement of the image (R438 to R440), and the PCI Express endpoint (R446 to R449). -/

namespace Sys2Proof.Machine

/-! ### The boot ROM -/

/-- A byte, and a little-endian word, of the external flash as the boot ROM finds it this time (R438). -/
def flashB (s : State) (a : Nat) : Byte := Config.flash s.boot.boots a
def flashW (s : State) (a : Nat) : Word := leWord (flashB s a) (flashB s (a + 1)) (flashB s (a + 2)) (flashB s (a + 3))
def flashBytes (s : State) (a n : Nat) : List Nat := (List.range n).map (fun i => (flashB s (a + i)).toNat)

/-- LENGTH of the header at `b`. -/
def imgLen (s : State) (b : Nat) : Nat := (flashW s (b + 8)).toNat

/-- MAGIC, HDR_CRC and LENGTH of the header at `b` check. -/
def headGood (s : State) (b : Nat) : Bool :=
  decide (flashW s b = 0x5A48424F) && decide (flashW s (b + 60) = crc32c (flashBytes s b 60))
    && decide (imgLen s b % 4 = 0 ∧ 4 ≤ imgLen s b ∧ imgLen s b ≤ 1835008)

/-- The image at `b` is valid (R438). -/
def imgGood (s : State) (b : Nat) : Bool := headGood s b && decide (flashW s (b + 16) = crc32c (flashBytes s (b + 64) (imgLen s b)))

/-- The image the boot ROM takes: at offset 0, else the alternate one (R438). -/
def imgPick (s : State) : Option Nat := if imgGood s 0 then some 0 else if imgGood s 0x200000 then some 0x200000 else none

/-- Bytes read while an image is tried: its header, and the image where the header checks. -/
def imgRead (s : State) (b : Nat) : Nat := 64 + (if headGood s b then imgLen s b else 0)

/-- The nanoseconds the boot ROM reads for, at 25 MB/s (R438). -/
def bootNs (s : State) : Nat := 40 * (imgRead s 0 + (if imgGood s 0 then 0 else imgRead s 0x200000))

/-- EN on lanes 10 and 11, which the boot ROM sets for an image marked PCIE_EARLY and where no image is valid (R438). -/
def pcieLanes (s : State) : State := (s.setFld (lnCfgAt 10) 0 0 1).setFld (lnCfgAt 11) 0 0 1

/-- The core starts in the boot ROM (R435 step 5, R440, R426). -/
def bootStart (s : State) : State :=
  let s1 := { s with boot := { s.boot with boots := s.boot.boots + 1 } }
  let s2 := { s1 with mgmt := { s1.mgmt with st := 0, alt := false, bootEnd := some (s.clk + bootNs s1), mtimecmp := 0, ie := List.replicate 8 0, timer := true } }
  match imgPick s2 with
  | some b => if bit (flashW s2 (b + 4)) 16 then pcieLanes s2 else s2
  | none => s2

/-- A measurement extended by a digest of 48 bytes (R439, R442). -/
def measExtend (m : BitVec 384) (d : List Nat) : BitVec 384 := sha384 (digBytes m ++ d)

/-- Copy an image to the core's SRAM, which lies at 0x0080_0000 of DMA space 0 (R438, R452). -/
def imgCopy (b : Nat) (s : State) : State :=
  (List.range (imgLen s b)).foldl (fun t i => t.setSramB (0x800000 + i) (flashB s (b + 64 + i))) s

/-- The boot ROM ends: the image it loads, or the 64 bytes at offset 0, is measured into MEAS_0, and the core jumps to the image or waits
(R435 step 6, R438, R439). -/
def bootFinish (s : State) : State :=
  match s.mgmt.bootEnd with
  | none => s
  | some t =>
    if s.clk < t then s
    else
      let pick := imgPick s
      let dg := sha384 (match pick with | some b => flashBytes s b (64 + imgLen s b) | none => flashBytes s 0 64)
      let s1 := { s with att := { s.att with meas := s.att.meas.set 0 (measExtend 0 (digBytes dg)) } }
      let s2 := match pick with | some b => imgCopy b s1 | none => pcieLanes s1
      raise pMGMT 0 { s2 with mgmt := { s2.mgmt with bootEnd := none, st := if pick.isSome then 1 else 3, alt := decide (pick = some 0x200000) } }

/-- MGMT_CTL.RESET, or a page reset of MGMT (R440). -/
def coreReset (s : State) : State :=
  bootStart { s with
    att := { s.att with meas := s.att.meas.take 1 ++ List.replicate 7 0, cnt := s.att.cnt.take 1 ++ List.replicate 7 0 }
    boot := { s.boot with cause := s.boot.cause ||| 8 } }

/-! ### The PCI Express endpoint -/

/-- Configuration requests are answered: steps 5 and 6 of the start-up have ended, with an image or with none (R435, R446). A later restart of
the core alone does not take the answers back. -/
def cfgReady (s : State) : Bool := decide (7 ≤ s.boot.step)

/-- The link goes down: DMA channels addressing host memory end with LINK (R329, R330, R449). -/
def pcieDown (s : State) : State :=
  if s.pcie.up then raise pPCIE 1 (dmaHost 4 { visorStop 11 (visorStop 10 s) with pcie := { s.pcie with up := false, width := 0 } }) else s

/-- The link has changed (R449, R353): up at a width of 1 or 2 lanes, while lane 10 has EN 1 and the domain is up; or down. -/
def pcieLink (up : Bool) (width : Nat) (s : State) : State :=
  if up then
    if lnCfg_EN s 10 = 1 ∧ (s.dom 31).st ≠ 4 ∧ s.pwr.state ≠ 3 then
      let w := if 2 ≤ width ∧ lnCfg_EN s 11 = 1 then 2 else 1
      raiseIf (!s.pcie.up) pPCIE 0 { s with pcie := { s.pcie with up := true, width := w } }
    else s
  else pcieDown s

/-- The registers and latches of a page at their reset values. -/
def clearRegs (p : Nat) (s : State) : State :=
  { s with regs := s.regs.filter (fun x => decide (x.1 / 0x1000 ≠ p)) }

/-- A hot reset (0), an FLR (1) or a link disable (2) resets the configuration space and the PCIE page; nothing else is touched (R449). -/
def pcieReset (kind : Nat) (s : State) : State :=
  let s1 := if kind = 2 then pcieDown s else dmaHost 2 s
  let s2 := clearRegs pPCIE { s1 with pcie := { up := s1.pcie.up, width := s1.pcie.width }, msi := { s1.msi with pba := [] } }
  raise pPCIE 2 (s2.setPage pPCIE { rstEnd := (s2.page pPCIE).rstEnd })

/-- Where the Power Management, PCI Express and MSI-X capabilities and AER lie in configuration space. -/
def capPM : Nat := 0x40
def capEXP : Nat := 0x50
def capMSIX : Nat := 0xB0

/-- A double word of configuration space (R446). -/
def cfgWord (s : State) (a : Nat) : Word :=
  if a = 0x00 then 0x10241E9B
  else if a = 0x04 then word ((if s.pcie.mem then 2 else 0) + (if s.pcie.bme then 4 else 0) + 0x100000)
  else if a = 0x08 then 0x118000B0
  else if a = 0x10 then word (s.pcie.bar0 % 2 ^ 32 / 2 ^ 20 * 2 ^ 20 + 4)
  else if a = 0x14 then word (s.pcie.bar0 / 2 ^ 32)
  else if a = 0x18 then word (s.pcie.bar2 % 2 ^ 32 / 2 ^ 22 * 2 ^ 22 + 0xC)
  else if a = 0x1C then word (s.pcie.bar2 / 2 ^ 32)
  else if a = 0x2C then s.rw 0x18104
  else if a = 0x34 then word capPM
  else if a = capPM then word (0x00030001 + capEXP * 256)
  else if a = capPM + 4 then word s.pcie.dstate
  else if a = capEXP then word (0x00020010 + capMSIX * 256)
  else if a = capEXP + 4 then 0x10008001
  else if a = capEXP + 8 then word (s.pcie.devCtl % 2 ^ 15)
  else if a = capEXP + 0xC then 0x00000823
  else if a = capEXP + 0x10 then word (if s.pcie.up then s.pcie.width * 2 ^ 20 + 3 * 2 ^ 16 else 0)
  else if a = capMSIX then word (0x0011 + 31 * 2 ^ 16 + s.pcie.msixCtl * 2 ^ 30)
  else if a = capMSIX + 4 then 0x00018800
  else if a = capMSIX + 8 then 0x00018C00
  else if a = 0x100 then 0x00010001
  else 0

/-- The word a configuration write leaves, by its byte enables. -/
def beMerge (old v : Word) (be : Nat) : Word :=
  let m := word ((List.range 4).foldl (fun a i => if be.testBit i then a + 255 * 2 ^ (8 * i) else a) 0)
  (old &&& ~~~m) ||| (v &&& m)

/-- A write of configuration space (R446): the command register's memory and master enables, the base addresses, the power state, the
device control with its FLR bit, and the MSI-X control. -/
def cfgWrite (a be : Nat) (v0 : Word) (s : State) : State :=
  let v := beMerge (cfgWord s a) v0 be
  if a = 0x04 then
    let b := bit v 2
    let s1 := { s with pcie := { s.pcie with mem := bit v 1, bme := b } }
    let s2 := if s.pcie.bme && !b then dmaHost 2 s1 else s1
    raiseIf (s.pcie.bme != b) pPCIE 3 s2
  else if a = 0x10 then { s with pcie := { s.pcie with bar0 := s.pcie.bar0 / 2 ^ 32 * 2 ^ 32 + v.toNat / 2 ^ 20 * 2 ^ 20 } }
  else if a = 0x14 then { s with pcie := { s.pcie with bar0 := v.toNat * 2 ^ 32 + s.pcie.bar0 % 2 ^ 32 } }
  else if a = 0x18 then { s with pcie := { s.pcie with bar2 := s.pcie.bar2 / 2 ^ 32 * 2 ^ 32 + v.toNat / 2 ^ 22 * 2 ^ 22 } }
  else if a = 0x1C then { s with pcie := { s.pcie with bar2 := v.toNat * 2 ^ 32 + s.pcie.bar2 % 2 ^ 32 } }
  else if a = capPM + 4 then
    let d := if fld v 1 0 = 0 then 0 else if fld v 1 0 = 3 then 3 else s.pcie.dstate
    raiseIf (decide (d ≠ s.pcie.dstate)) pPCIE 4 { s with pcie := { s.pcie with dstate := d } }
  else if a = capEXP + 8 then
    let s1 := { s with pcie := { s.pcie with devCtl := v.toNat % 2 ^ 15 } }
    if bit v 15 then pcieReset 1 s1 else s1
  else if a = capMSIX then { s with pcie := { s.pcie with msixCtl := fld v 31 30 } }
  else s

/-- A configuration request (R446): answered with retry status (0, with `false`) until requests are answered. -/
def cfgRequest (wr : Bool) (a be : Nat) (v : Word) (s : State) : State :=
  if !(cfgReady s) then { s with lastRead := [] }
  else if wr then cfgWrite (a / 4 * 4) be v s
  else s.answer (cfgWord s (a / 4 * 4))

end Sys2Proof.Machine
end

