-- ==== Sys2Proof/Machine/Tiu.lean ====
section
/-! DEFINITION. The time interval unit (spec chapter 8): edges and the channels that take them, results and their queue, gates, reference
presence, and the vibrating-wire sequence. -/

namespace Sys2Proof.Machine



/-- MODE with its reserved codes (R184). -/
def tiMode (s : State) (c : Nat) : Nat := if 5 ≤ tiCfg_MODE s c then 0 else tiCfg_MODE s c
def tiGated (s : State) (c : Nat) : Bool := decide (tiCfg_GATED s c = 1)
def tiSigned (s : State) (c : Nat) : Bool := decide (tiCfg_SIGNED s c = 1)

/-- TMO in timestamp steps; in signed mode 0 acts as 1 (R189). -/
def tiTmo (s : State) (c : Nat) : Nat :=
  (if tiSigned s c then max 1 (tiTmo_TMO s c) else tiTmo_TMO s c) * 128000

/-- A reserved source code yields no edge (R182). -/
def srcYields (x : Nat) : Bool :=
  decide (x ≤ 0x11) || decide (0x14 ≤ x ∧ x ≤ 0x1F) || decide (0x20 ≤ x ∧ x ≤ 0x2F) || decide (0x40 ≤ x ∧ x ≤ 0x7F)

/-! ### Results (R192) -/

/-- Queue a result: W0's flags OVF 30, COINC 29, NEG 28, TMO 27; its KIND; the value's two words; AUX; the reference instant. -/
def tiResult (c flags kind : Nat) (v1 v2 aux : Nat) (ref : Nat) (s : State) : State :=
  let x := s.tch c
  let hold := holdAt s (ref * tsU)
  let w0 := 2 ^ 31 + flags + (if x.lost then 2 ^ 26 else 0) + (if hold then 2 ^ 25 else 0) + kind * 2 ^ 20 + x.seq % 2 ^ 16
  if 32 ≤ x.queue.length then raise pTIU 3 (s.setTch c { x with seq := x.seq + 1, lost := true, drop := satInc 16 x.drop })
  else
    let e := [word w0, word v1, word v2, word aux, word (ref * tsU / secU), word (nsOf (ref * tsU))]
    let s1 := s.setTch c { x with queue := x.queue ++ [e], seq := x.seq + 1, lost := false }
    raiseIf (decide (x.queue.length + 1 = max 1 (tiCfg_RES_LEVEL s c))) pTIU 0 s1

/-- An interval or span of `v` steps: as its value, or OVF from 2^40 ns on (R189). -/
def tiSpan (c flags kind v aux ref : Nat) (s : State) : State :=
  if 2 ^ 47 ≤ v then raise pTIU 2 (tiResult c (flags + 2 ^ 30) kind (2 ^ 32 - 1) (2 ^ 15 - 1) aux ref s)
  else tiResult c flags kind v (v / 2 ^ 32) aux ref s

/-- A read of TI_RES_W0 (R192): the oldest entry, or 0 from an empty queue. -/
def tiRead (c : Nat) (s : State) : State :=
  let x := s.tch c
  match x.queue with
  | e :: t => (s.setTch c { x with queue := t, lat := e.drop 1 }).answer (e.getD 0 0)
  | [] => s.answer 0

/-! ### Edges (R183 to R190) -/

/-- Count a discarded stop (R186, R188). -/
def stopEarly (c : Nat) (s : State) : State := s.setTch c { s.tch c with early := satInc 16 (s.tch c).early }

/-- The distance of two timestamps. -/
def tsDist (a b : Nat) : Nat := (a - b) + (b - a)

/-- Whether the gate lets an edge at `t` in (R185): at or after an opening and before the next close. -/
def gateLets (s : State) (c t : Nat) : Bool :=
  let x := s.tch c
  !(tiGated s c) || (decide (x.gateAt ≤ t * tsU) && (x.gateOpen || decide (t * tsU < x.gateEnd)))

/-- A stop held for R187 that no start has met counts (R186). -/
def flushHeld (c : Nat) (s : State) : State :=
  match (s.tch c).held with
  | some _ => stopEarly c (s.setTch c { s.tch c with held := none })
  | none => s

/-- A start edge of unsigned interval mode (R186, R187). -/
def startEdge (c t : Nat) (s : State) : State :=
  let x := s.tch c
  match x.held with
  | some h =>
    if tsDist t h ≤ 2 then tiResult c (2 ^ 29) 1 0 0 0 t (s.setTch c { x with held := none, start := none })
    else
      let s1 := flushHeld c s
      s1.setTch c { s1.tch c with start := some t }
  | none => s.setTch c { x with start := some t, repl := if x.start.isSome then satInc 8 x.repl else x.repl }

/-- A stop edge of unsigned interval mode (R186, R187). -/
def stopEdge (c t : Nat) (s : State) : State :=
  let x := s.tch c
  match x.start with
  | some a =>
    if tsDist t a ≤ 2 then tiResult c (2 ^ 29) 1 0 0 0 a (s.setTch c { x with start := none })
    else if a < t then tiSpan c 0 1 (t - a) 0 a (s.setTch c { x with start := none })
    else stopEarly c s
  | none =>
    let s1 := flushHeld c s
    s1.setTch c { s1.tch c with held := some t }

/-- Stops no window can take any more count (R188). -/
def pruneStops (c now : Nat) (s : State) : State :=
  let x := s.tch c
  let w := tiTmo s c
  let live (t : Nat) : Bool := decide (now ≤ t + w) || x.starts.any (fun a => decide (tsDist a t ≤ w))
  let dead := (x.stops.filter (fun t => !(live t))).length
  s.setTch c { x with stops := x.stops.filter live, early := satU 16 (x.early + dead) }

/-- An edge of frequency mode inside a window (R190). -/
def freqEdge (c t : Nat) (s : State) : State :=
  let x := s.tch c
  match x.win with
  | some w => if w.openT ≤ t then s.setTch c { x with win := some { w with first := if w.n = 0 then t else w.first, last := t, n := w.n + 1 } } else s
  | none => s

/-- A count window closes at `t` (R190). -/
def freqClose (c : Nat) (s : State) : State :=
  let x := s.tch c
  match x.win with
  | some w =>
    let s1 := s.setTch c { x with win := none }
    if w.n < 2 then tiResult c (2 ^ 27) 2 0 0 0 (if w.n = 0 then w.openT else w.first) s1
    else tiSpan c 0 2 (w.last - w.first) (w.n - 1) w.first s1
  | none => s

/-- A count window opens at `t`. -/
def freqOpen (c t : Nat) (s : State) : State := s.setTch c { s.tch c with win := some ⟨t, 0, 0, 0⟩ }

/-- A crossing of the listen comparator during a listening sequence (R196). -/
def vwCross (c t : Nat) (s : State) : State :=
  let x := s.tch c
  match x.vw with
  | some v => if v.phase = 3 ∧ v.xs.length < 4096 then s.setTch c { x with vw := some { v with xs := t :: v.xs } } else s
  | none => s

/-- Whether a channel has taken an edge of the same source less than 2.5 ns before (R183). -/
def tooClose (last : Option Nat) (t : Nat) : Bool := match last with | some l => decide (t < l + 320) | none => false

/-- One channel takes an edge of source `x` at `t`, where its mode and sources use it (R183 to R190). -/
def chanEdge (x t c : Nat) (s : State) : State :=
  let h := s.tch c
  let m := tiMode s c
  let isA := decide (tiCfg_START_SRC s c = x)
  let isB := decide (tiCfg_STOP_SRC s c = x)
  let useA := isA && (decide (m = 1) || decide (m = 2) || (decide (m = 3) && !(tiGated s c)))
  let useB := isB && (decide (m = 2) || decide (m = 3) || (decide (m = 4) && (match h.vw with | some v => decide (v.phase = 3) | none => false)))
  if !useA && !useB then s
  else if (useA && tooClose h.lastA t) || (useB && tooClose h.lastB t) then s.setTch c { h with close := satInc 8 h.close }
  else if m = 1 then
    if gateLets s c t then tiResult c 0 0 (t % 128) 0 0 t (s.setTch c { h with lastA := some t }) else s
  else if m = 2 then
    let ga := useA && gateLets s c t
    if !ga && !useB then s
    else
      let s1 := s.setTch c { h with lastA := if useA then some t else h.lastA, lastB := if useB then some t else h.lastB }
      if tiSigned s c then
        let y := s1.tch c
        pruneStops c t (s1.setTch c { y with starts := if ga then y.starts ++ [t] else y.starts, stops := if useB then y.stops ++ [t] else y.stops })
      else if useA && useB then
        let s2 := if h.start.isSome then stopEdge c t s1 else s1
        if ga then s2.setTch c { s2.tch c with start := some t, held := none } else s2
      else if ga then startEdge c t s1
      else stopEdge c t s1
  else if m = 3 then
    if useB && !useA && !(gateLets s c t) then s
    else
      let s1 := s.setTch c { h with lastA := if useA then some t else h.lastA, lastB := if useB then some t else h.lastB }
      let s2 := if useA then freqOpen c t (freqClose c s1) else s1
      if useB then freqEdge c t s2 else s2
  else vwCross c t (s.setTch c { h with lastB := some t })

/-- An edge of TIU source `x` at timestamp `t` (R178): every channel that uses it takes it. -/
def tiuEdge (x t : Nat) (s : State) : State :=
  if srcYields x && (s.page pTIU).rstEnd.isNone then (List.range 16).foldl (fun a c => chanEdge x t c a) s else s

/-- Whether an edge of a source is one it yields, by its direction (R181, R182): an input TI_n at its SLOPE, an axis's counts, block boundaries and event
lines whatever it is, every other source rising. -/
def takesEdge (s : State) (x : Nat) (rising : Bool) : Bool :=
  if x < 8 then
    let sl := tiIn_SLOPE s x
    if sl = 2 then true else if sl = 1 then !rising else rising
  else if x < 12 ∨ (0x14 ≤ x ∧ x < 0x30) then true
  else rising

/-- A TIU_GATE entry at instant `t` (R185, R190). -/
def tiGate (c t : Nat) (op : Bool) (s : State) : State :=
  let x := s.tch c
  if op then
    let s1 := s.setTch c { x with gateOpen := true, gateAt := if x.gateOpen then x.gateAt else t }
    if tiMode s c = 3 ∧ tiGated s c ∧ !x.gateOpen then freqOpen c (cdiv t tsU) s1 else s1
  else
    let s1 := s.setTch c { x with gateOpen := false, gateEnd := if x.gateOpen then t else x.gateEnd }
    if tiMode s c = 3 ∧ tiGated s c then freqClose c s1 else s1

/-- A write of TI_CFG (R192): a pending start or window is dropped without a result, and stops that waited for one count as taken by none (R186, R188);
the queue is kept. -/
def tiCfgWrite (src c : Nat) (v : Word) (s : State) : State :=
  let s1 := storeReg src (tiCfgAt c) v s
  let x := s1.tch c
  let lone := x.stops.length + (if x.held.isSome then 1 else 0)
  s1.setTch c { x with start := none, held := none, starts := [], stops := [], win := none, lastA := none, lastB := none, early := satU 16 (x.early + lone) }

/-- At each timebase edge: a stop that no start can meet any more counts (R186, R188). -/
def loneStops (s : State) : State :=
  (List.range 16).foldl (fun a c =>
    let x := a.tch c
    match x.held with
    | some h => if (h + 2) * tsU < a.st then flushHeld c a else a
    | none => if x.stops = [] then a else pruneStops c (a.st / tsU) a) s

/-- TMO after a start with no stop (R189). -/
def tiTimeout (c : Nat) (s : State) : State :=
  let x := s.tch c
  match x.start with
  | some a =>
    if tiMode s c = 2 ∧ !(tiSigned s c) ∧ tiTmo_TMO s c ≠ 0 ∧ (a + tiTmo s c) * tsU ≤ s.st then
      raise pTIU 1 (tiResult c (2 ^ 27) 1 0 0 0 a (s.setTch c { x with start := none }))
    else s
  | none => s

/-- 2^40 ns after a start with no stop, TMO being 0 (R189). -/
def tiOvf (c : Nat) (s : State) : State :=
  let x := s.tch c
  match x.start with
  | some a =>
    if tiMode s c = 2 ∧ !(tiSigned s c) ∧ tiTmo_TMO s c = 0 ∧ (a + 2 ^ 47) * tsU ≤ s.st then
      raise pTIU 2 (tiResult c (2 ^ 30) 1 (2 ^ 32 - 1) (2 ^ 15 - 1) 0 a (s.setTch c { x with start := none }))
    else s
  | none => s

/-- The nearest stop to a start among those in its window; the earlier on a tie (R188). -/
def nearStop (a w : Nat) : List Nat → Option Nat
  | [] => none
  | t :: r =>
    let best := nearStop a w r
    if tsDist a t ≤ w then
      match best with
      | some b => if tsDist a t < tsDist a b ∨ (tsDist a t = tsDist a b ∧ t < b) then some t else some b
      | none => some t
    else best

/-- The window of the oldest start closes in signed mode (R187, R188). -/
def tiWindow (c : Nat) (s : State) : State :=
  let x := s.tch c
  match x.starts with
  | a :: r =>
    let w := tiTmo s c
    if tiMode s c = 2 ∧ tiSigned s c ∧ (a + w) * tsU < s.st then
      match nearStop a w x.stops with
      | some b =>
        let s1 := s.setTch c { x with starts := r, stops := x.stops.erase b }
        let s2 := if tsDist a b ≤ 2 then tiResult c (2 ^ 29) 1 0 0 0 a s1 else tiSpan c (if b < a then 2 ^ 28 else 0) 1 (tsDist a b) 0 a s1
        pruneStops c (s.st / tsU) s2
      | none => pruneStops c (s.st / tsU) (tiResult c (2 ^ 27) 1 0 0 0 a (s.setTch c { x with starts := r }))
    else s
  | [] => s

/-! ### Reference presence (R193, R194) -/

def refBack (s : State) : State :=
  if s.tiu.ref10m then s else raise pTIU 5 { s with tiu := { s.tiu with ref10m := true, refChg := true, ppsChg := false } }
def refLost (s : State) : State :=
  if s.tiu.ref10m then raise pTIU 4 { s with tiu := { s.tiu with ref10m := false, refChg := true, ppsChg := false } } else s

/-- A period of REF10M in 2^-7 ns that lies within 95 ns to 105 ns. -/
def refGoodPeriod (p : Nat) : Bool := decide (95 * 128 ≤ p ∧ p ≤ 105 * 128)

/-- A rising edge of REF10M at timestamp `t` (R193): its period is judged, 1 024 good ones in a row make it present and 16 bad ones lost. While it is
present the rate error is measured over every 10 000 periods, 1 ms of REF10M (R45). -/
def refEdgeAt (t : Nat) (s : State) : State :=
  let x := s.tiu
  match x.refEdge with
  | none => { s with tiu := { x with refEdge := some t, refClk := s.clk, refGood := 0, refBad := 0, refN := 0, refFrom := t } }
  | some l =>
    let ok := refGoodPeriod (t - l)
    let g := if ok then min 1024 (x.refGood + 1) else 0
    let b := if ok then 0 else min 16 (x.refBad + 1)
    let n := if x.ref10m then x.refN + 1 else 0
    let y := { x with refEdge := some t, refClk := s.clk, refGood := g, refBad := b, refN := if n = 10000 then 0 else n, refFrom := if n = 0 ∨ n = 10000 then t else x.refFrom,
                      rateErr := if n = 10000 then (t : Int) - x.refFrom - 128000000 else x.rateErr }
    let s1 := { s with tiu := y }
    if g = 1024 then refBack s1 else if b = 16 then refLost s1 else s1

/-- No rising edge of REF10M for 1 µs after one that was stamped (R193). -/
def refSilence (s : State) : State :=
  if s.tiu.refEdge.isSome ∧ s.tiu.refClk + 1000 ≤ s.clk then refLost { s with tiu := { s.tiu with refEdge := none, refGood := 0, refBad := 0 } } else s

/-- A PPS_IN edge at timestamp `t` (R194): its period judged, presence, and the servo's measurement against the whole ST second. -/
def ppsEdge (t : Nat) (s : State) : State :=
  let x := s.tiu
  let sec := 1000000000 * 128
  let good := match x.ppsLast with | some l => decide (tsDist (t - l) sec ≤ 1280000) && decide (l < t) | none => false
  let bad := x.ppsLast.isSome && !good
  let s1 := { s with tiu := { x with ppsLast := some t, ppsClk := s.clk, ppsBad := if bad then satInc 16 x.ppsBad else x.ppsBad } }
  let s2 := if good && !x.pps then raise pTIU 5 { s1 with tiu := { s1.tiu with pps := true, refChg := false, ppsChg := true } } else s1
  let s3 := if s2.tb.srcAct = 3 ∧ s2.tiu.pps then tbSetSeen 3 (some s.clk) s2 else s2
  let r := t % sec
  let e : Int := if 2 * r < sec then (r : Int) else (r : Int) - sec
  tiuEdge 0x10 t (if good then tbMeasure 3 (e * tsU * 1000) s3 else s3)

/-- An edge of TIU source `x`, stamped at `t` (R178, R182): PPS_IN and REF10M are judged as well. -/
def tiEdge (x t : Nat) (rising : Bool) (s : State) : State :=
  if !(takesEdge s x rising) then s
  else if x = 0x10 then ppsEdge t s
  else if x = 0x11 then tiuEdge x t (refEdgeAt t s)
  else tiuEdge x t s

/-- The levels of an axis's inputs after a change that has held (R55): a counted edge is stamped for the axis and taken by the channels that use it
(R178, R182). -/
def axisEdge (n : Nat) (a b : Bool) (held coarse fine : Nat) (s : State) : State :=
  let t := stamp s coarse fine
  let s1 := axEdge n a b held (t * tsU) s
  if axCounts s n a b held then tiuEdge (0x08 + n) t s1 else s1

/-- A rising edge of ENC_n_Z (R61, R182). -/
def axisZ (n coarse fine : Nat) (s : State) : State := tiuEdge (0x0C + n) (stamp s coarse fine) (axZ n s)

/-- 1.2 s without a pulse (R194). -/
def ppsLost (s : State) : State :=
  if s.tiu.pps ∧ s.passed s.tiu.ppsClk 1200000000 then
    raise pTIU 4 { s with tiu := { s.tiu with pps := false, refChg := false, ppsChg := true } }
  else s

/-! ### Vibrating wire (R195 to R201) -/

def dFSTART (x : SliceSt) : Nat := fld x.app.drv 12 0
def dDUR (x : SliceSt) : Nat := fld x.app.amp 27 16
def dPLUCK (x : SliceSt) : Bool := bit x.app.amp 8

/-- The channel engaged for a slice (R195). -/
def vwChan (s : State) (n : Nat) : Option Nat :=
  findBelow (fun c => decide (tiCfg_MODE s c = 4) && decide (tiCfg_STOP_SRC s c = 0x40 + n)) 16

/-- The channel that runs a sequence on a slice. -/
def vwOf (s : State) (n : Nat) : Option Nat :=
  findBelow (fun c => match (s.tch c).vw with | some v => decide (v.slice = n) | none => false) 16

/-- Whether steps 1 to 4 of a sequence run on a slice (R196). -/
def vwHolds (s : State) (n : Nat) : Bool :=
  match vwOf s n with
  | some c => (match (s.tch c).vw with | some v => decide (1 ≤ v.phase ∧ v.phase ≤ 3) | none => false)
  | none => false

/-- Record a vibrating-wire outcome (TIU_STAT). -/
def vwOutcome (n reason : Nat) (s : State) : State :=
  raise pTIU (if reason = 0 then 6 else 7) { s with tiu := { s.tiu with vwLast := reason, vwSlice := n } }

/-- A sequence ends, or is refused, without a fit (R195, R199): a KIND 3 result with its reason. -/
def vwFailed (c n reason : Nat) (s : State) : State :=
  let s1 := bgtDrop 3 n (s.setTch c { s.tch c with vw := none })
  vwOutcome n reason (tiResult c 0 3 0 0 (reason * 2 ^ 24) (s.st / tsU) s1)

/-- A VW_PLUCK entry for slice `n` (R195). -/
def vwPluck (n : Nat) (s : State) : State :=
  match vwChan s n with
  | none => vwOutcome n 1 s
  | some c =>
    let x := s.slice n
    let busy := x.exc.on || (vwOf s n).isSome || (s.tch c).vw.isSome
    let refuse (r : Nat) : State := vwOutcome n r (tiResult c 0 3 0 0 (r * 2 ^ 24) (s.st / tsU) s)
    if eMODE x.app.exc ≠ 3 then refuse 2
    else if busy then refuse 3
    else if x.exc.lockout then refuse 5
    else if s.sliceOff n then refuse 6
    else
      let s1 := s.setTch c { s.tch c with vw := some ⟨n, 0, false, s.st, []⟩ }
      bgtAsk 3 n (vwLeave_MW s c) (some (if dPLUCK x then 1 else dDUR x)) (some (vwLeave_WAIT s c)) s1

/-- The governor's answer to a pluck (R195). -/
def vwGranted (n : Nat) (s : State) : State :=
  match vwOf s n with
  | some c => s.setTch c { s.tch c with vw := (s.tch c).vw.map (fun v => { v with granted := true }) }
  | none => s
def vwRefused (n : Nat) (s : State) : State :=
  match vwOf s n with | some c => vwFailed c n 4 s | none => s

/-- The drive starts on the grant (R195, R196). -/
def vwDriveStart (c : Nat) (s : State) : State :=
  match (s.tch c).vw with
  | some v =>
    if v.phase = 0 ∧ v.granted then
      if (s.slice v.slice).exc.lockout then vwFailed c v.slice 5 s
      else if s.sliceOff v.slice then vwFailed c v.slice 6 s
      else s.setTch c { s.tch c with vw := some { v with phase := 1, at_ := s.st } }
    else s
  | none => s

/-- No grant within VW_LEAVE.WAIT (R195). -/
def vwLeaveTimeout (c : Nat) (s : State) : State :=
  match (s.tch c).vw with
  | some v => if v.phase = 0 ∧ !v.granted ∧ v.at_ + vwLeave_WAIT s c * msU ≤ s.st then vwFailed c v.slice 4 s else s
  | none => s

/-- The length of a drive in units of 2^-48 ns: DUR ms, or half a period of F_START with PLUCK (R196). -/
def vwDriveLen (x : SliceSt) : Nat := if dPLUCK x then secU / (2 * max 1 (dFSTART x)) else dDUR x * msU

/-- The drive ends and the driver goes to high impedance (R196); the leave is released (R433). -/
def vwDriveEnd (c : Nat) (s : State) : State :=
  match (s.tch c).vw with
  | some v =>
    let e := v.at_ + vwDriveLen (s.slice v.slice)
    if v.phase = 1 ∧ e ≤ s.st then
      if s.sliceOff v.slice then vwFailed c v.slice 6 s
      else bgtRelease 3 v.slice (s.setTch c { s.tch c with vw := some { v with phase := 2, at_ := e } })
    else s
  | none => s

/-- The quiet time has passed: listening begins (R196). -/
def vwListenStart (c : Nat) (s : State) : State :=
  match (s.tch c).vw with
  | some v =>
    let e := v.at_ + vwCfg_QUIET s c * 100 * usU
    if v.phase = 2 ∧ e ≤ s.st then
      if s.sliceOff v.slice then vwFailed c v.slice 6 s
      else s.setTch c { s.tch c with vw := some { v with phase := 3, at_ := e, xs := [] } }
    else s
  | none => s

/-- The thermistor slot starts with its excitation (R201). -/
def thermStart (c n : Nat) (s : State) : State :=
  if vwAux_THERM_EN s c = 1 then
    let j := vwAux_THERM_SLOT s c
    let s1 := if aNSLOT (s.slice n).app < j then s else muxStep n j s.st s
    let s2 := excOn n s.st false s1
    s2.setSlice n { s2.slice n with therm := some j }
  else s

/-- The thermistor slot's first conversion has completed: its excitation ends (R201). -/
def thermEnd (n : Nat) (s : State) : State :=
  let x := s.slice n
  match x.therm with
  | some j => if x.slot = j ∧ x.waitEnd.isNone then excOffEntry n s.st (s.setSlice n { x with therm := none }) else s
  | none => s

/-- Listening ends after WIN ms or at the 4 096th crossing (R196, R201). -/
def vwListenEnd (c : Nat) (s : State) : State :=
  match (s.tch c).vw with
  | some v =>
    if v.phase = 3 ∧ (v.at_ + max 1 (min 1000 (vwCfg_WIN s c)) * msU ≤ s.st ∨ 4096 ≤ v.xs.length) then
      if s.sliceOff v.slice then vwFailed c v.slice 6 s
      else thermStart c v.slice (s.setTch c { s.tch c with vw := some { v with phase := 4, at_ := s.st } })
    else s
  | none => s

/-- A least-squares fit of `n` crossings, oldest first, offset by the first (R197): n, Σ t, Σ (2i − n + 1) t and n² times the variance. -/
structure VwFit where
  n : Nat
  sum : Nat
  slope : Int
  var : Int
  deriving DecidableEq, Repr

def vwFit (ts : List Nat) : VwFit :=
  let n := ts.length
  let t0 := ts.headD 0
  let ds := ts.map (fun t => t - t0)
  let sum := ds.sum
  let sq := (ds.map (fun d => d * d)).sum
  let slope := ((List.range n).zip ds).foldl (fun (a : Int) p => a + (2 * Int.ofNat p.1 - n + 1) * p.2) 0
  ⟨n, sum, slope, (n * sq : Nat) - ((sum * sum : Nat) : Int)⟩

/-- f × `k` in Hz, rounded: f = n (n² − 1) × 128 × 10^9 / (6 × slope). -/
def vwFreq (f : VwFit) (k : Nat) : Nat :=
  if f.slope ≤ 0 then 0 else (rdivAway ((f.n * (f.n * f.n - 1) * 128000000000 * k : Nat) : Int) (6 * f.slope.toNat)).toNat

/-- The squared residual in ps² as a fraction: numerator and denominator. -/
def vwRes2 (f : VwFit) : Nat × Nat :=
  let q := f.n * f.n - 1
  (((f.var * q - 3 * f.slope * f.slope).toNat) * 15625, f.n * f.n * q * 256)

/-- The reason of a fit's failure, 0 where it succeeds (R198). -/
def vwReason (s : State) (c : Nat) (f : VwFit) : Nat :=
  let num := f.n * (f.n * f.n - 1) * 128000000000
  let r := vwRes2 f
  if f.n < max 2 (vwLim_MINX s c) then 7
  else if f.slope ≤ 0 ∨ num < 150 * (6 * f.slope.toNat) ∨ 7500 * (6 * f.slope.toNat) < num then 8
  else if (vwLim_MAXRES s c * 10) ^ 2 * r.2 < r.1 then 9
  else 0

/-- The fit completes: its result, its event, and the value the contexts of KIND 3 on the channel take (R197 to R200). -/
def vwFitDone (c : Nat) (s : State) : State :=
  match (s.tch c).vw with
  | some v =>
    if v.phase ≠ 4 then s
    else
      let f := vwFit (vwUsed (vwCfg_SKIP s c) v)
      let r := vwReason s c f
      let q := vwRes2 f
      let inst : Int := ((vwInst (vwCfg_SKIP s c) v : Nat) : Int)
      let s1 := s.setTch c { s.tch c with vw := none }
      let s2 := tiResult c 0 3 (satU 32 (vwFreq f (2 ^ 19))) (if f.n < 2 then 0 else satU 15 (sqrtNear q.1 q.2)) (r * 2 ^ 24 + f.n % 2 ^ 13) (inst.toNat / 2 ^ 25) s1
      let s3 := vwOutcome v.slice r s2
      (s3.ctxKeys.filter (fun k => decide (dKIND (s3.ctx k).desc = 3) && decide (dSOURCE (s3.ctx k).desc = c))).foldl (fun a k =>
        scDeliver k { c := inst, orig := inst, v := ((vwFreq f 1000 : Nat) : Int), tags := 0, restarted := false, failed := decide (r ≠ 0) } a) s3
  | none => s

/-- A SAFETY entry or a current-limit trip falls on a slice: a drive stops with reason SAFETY (R201). -/
def vwSafety (n : Nat) (s : State) : State :=
  match vwOf s n with
  | some c => (match (s.tch c).vw with | some v => if v.phase = 1 then vwFailed c n 5 s else s | none => s)
  | none => s

/-- At each timebase edge: a sequence whose slice counts as off ends with reason OFF (R199). -/
def vwOff (s : State) : State :=
  (List.range 16).foldl (fun a c => match (a.tch c).vw with
    | some v => if v.phase ≤ 3 ∧ a.sliceOff v.slice then vwFailed c v.slice 6 a else a
    | none => a) s

/-- SAFETY on a slice: its excitation off and locked out, its vibrating-wire drive stopped (R90, R201). -/
def sliceSafety (n t : Nat) (s : State) : State := excSafety n t (vwSafety n s)

/-- A page reset of the TIU (R192): every channel disarms and its queue empties; sequences end; presence is unaffected. -/
def tiuReset (s : State) : State :=
  let s1 := (List.range 16).foldl (fun a c => match (a.tch c).vw with | some v => bgtDrop 3 v.slice a | none => a) s
  { s1 with tiu := { s1.tiu with chans := [], ppsBad := 0, refChg := false, ppsChg := false, vwLast := 0, vwSlice := 0 } }

/-- A step of ST moves the instants of results in progress with it (R191). -/
def tiuStep (d : Int) (s : State) : State :=
  let q := Int.tdiv d tsU
  let mv (t : Nat) : Nat := ((t : Int) + q).toNat
  let mvU (t : Nat) : Nat := ((t : Int) + d).toNat
  let f (x : TiuCh) : TiuCh := { x with start := x.start.map mv, held := x.held.map mv, starts := x.starts.map mv, stops := x.stops.map mv, win := x.win.map (fun w => { w with openT := mv w.openT, first := mv w.first, last := mv w.last }), lastA := x.lastA.map mv, lastB := x.lastB.map mv, gateAt := mvU x.gateAt, gateEnd := mvU x.gateEnd, vw := x.vw.map (fun v => { v with at_ := mvU v.at_, xs := v.xs.map mv }) }
  let s1 := (List.range 16).foldl (fun a c => a.setTch c (f (a.tch c))) s
  { s1 with tiu := { s1.tiu with ppsLast := s1.tiu.ppsLast.map mv, refEdge := s1.tiu.refEdge.map mv, refFrom := mv s1.tiu.refFrom } }

end Sys2Proof.Machine
end

