-- ==== Sys2Proof/Machine/UlkLink.lean ====
section
/-! DEFINITION. The Ulumer Link's link layer (R355 to R366, R369, R377, R378): sending with acknowledgement and replay, receiving in order,
giving up, and the ring's wrap. A frame is taken whole: a link that may send puts the frame on the wire as the command that queues it
ends (R369's line time is left out). -/

namespace Sys2Proof.Machine

/-! ### Bytes and words -/

def wsBytes (ws : List Word) : List Byte := ws.flatMap (fun w => (List.range 4).map (byteOf w))

def bsWords (bs : List Byte) : List Word :=
  (List.range (cdiv bs.length 4)).map (fun i => leWord (bs.getD (4 * i) 0) (bs.getD (4 * i + 1) 0) (bs.getD (4 * i + 2) 0) (bs.getD (4 * i + 3) 0))

/-! ### Events and addresses -/

def ulkRaise (n b : Nat) (s : State) : State := raise (pULK n) b s

/-- A ring-wide event: RING_EVT bit `b`, driving EV_212 + b (R29, R39, R373). -/
def ringRaise (b : Nat) (s : State) : State :=
  let s1 := { s with ring := { s.ring with evt := s.ring.evt ||| 2 ^ b } }
  let s2 := msiRise (212 + b) s s1
  if bit (s.rw (0x2140 + 4 * 6)) (20 + b) && s1.evLevel (212 + b) && !(s.evLevel (212 + b)) then wakeHub s2 else s2

/-- This hub's ring address (R367). -/
def ringAddr (s : State) : Nat := ringCfg_ADDR s 0

/-- RING_TIME.TIME_INT within its range, in ns (R374). -/
def timeIntNs (s : State) : Nat := max 100 (min 10000 (ringTime_TIME_INT s 0)) * 1000

/-- ULK_UPPER_TMO in ns; 0 acts as 1 µs. -/
def upperNs (s : State) (n : Nat) : Nat := max 1 (ulkUpperTmo_US s n) * 1000

/-- ULK_DELAY: the mean delay of the last 16 valid measurements in ps (R375); each is held in units of 2^-17 ns. -/
def ulkDelay (s : State) (n : Nat) : Nat :=
  let l := (s.ulk n).delays
  if l = [] then 0 else (rdivAway ((l.sum * 1000 : Nat) : Int) (l.length * 2 ^ 17)).toNat

/-- ACK_TMO in ns (R362). -/
def ackTmoNs (s : State) (n : Nat) : Nat := if (s.ulk n).nValid = 0 then 10000 else cdiv (2 * ulkDelay s n) 1000 + 2000

/-! ### Sending (R356, R358, R360, R369) -/

/-- A frame type's class: 0 U, 1 C, 2 B (R358). -/
def frameClass (t : Nat) : Nat := if t = 1 ∨ t = 2 ∨ t = 3 then 2 else if t = 7 ∨ t = 8 then 1 else 0

/-- A frame's blocks on the wire (R356): SOF, data, EOF. -/
def frameBlocks (f : UlkFrame) : Nat := 2 + cdiv (8 + f.payload.length) 8
/-- Bytes a frame takes in the 64 KiB replay buffer. -/
def frameBytes (f : UlkFrame) : Nat := 8 * frameBlocks f

/-- The CRC of a frame sent or received with SEQ `seq` (R356, R357): over SOF bytes 1 to 7, the routing header and the payload. -/
def frameCrc (seq : Nat) (f : UlkFrame) : Word :=
  let len := f.payload.length
  crc32 ([f.ftype % 16, seq % 256, seq / 256 % 256, len % 256, len / 256 % 16, 0, 0]
    ++ wordBytes (word (f.dst * 2 ^ 24 + f.src * 2 ^ 16 + f.ttl * 2 ^ 8 + (if f.wrap then 1 else 0))) ++ wordBytes (word f.eseq) ++ f.payload.map (·.toNat))

/-- The queued frame to go next (R369): by class, then alternating between forwarded and local, then by arrival. -/
def nextFrame (x : UlkSt) : Option UlkFrame :=
  let pick (c : Nat) : Option UlkFrame :=
    let q := x.queue.filter (fun f => decide (frameClass f.ftype = c))
    match q.find? (fun f => f.local_ == x.fwdLast) with
    | some f => some f
    | none => q.head?
  (pick 0).orElse (fun _ => (pick 1).orElse (fun _ => pick 2))

/-- A link may start a new frame: UP, its lane sending, no BUSY, no hold, room in the replay buffer (R360, R361, R378). -/
def mayStart (s : State) (n : Nat) (f : UlkFrame) : Bool :=
  let x := s.ulk n
  x.up && laneTxOk s n && !x.farBusy && x.hold.isNone && decide (x.unacked.length < 1024)
    && decide ((x.unacked.map (fun y => frameBytes y.2)).sum + frameBytes f ≤ 65536)

/-- Start one frame: number it, keep it, and put it on the wire; a TIME frame's transmit stamp is taken (R374). -/
def startFrame (n : Nat) (f : UlkFrame) (s : State) : State :=
  let x := s.ulk n
  let x1 := { x with queue := x.queue.erase f, unacked := x.unacked ++ [(x.txSeq, f)], txSeq := (x.txSeq + 1) % 2 ^ 16, fwdLast := !f.local_, lastAdv := if x.unacked = [] then s.clk else x.lastAdv, txSt := if f.ftype = 4 then ((x.tseq, s.st / 2 ^ 32) :: x.txSt).take 16 else x.txSt, tseq := if f.ftype = 4 then (x.tseq + 1) % 2 ^ 16 else x.tseq }
  wireOut (.frame n x.txSeq f (frameCrc x.txSeq f)) (laneTxData n (s.setUlk n x1))

/-- Send what a link may send. -/
def pump (n : Nat) : Nat → State → State
  | 0, s => s
  | k + 1, s =>
    match nextFrame (s.ulk n) with
    | none => s
    | some f => if mayStart s n f then pump n k (startFrame n f s) else s

def ulkPump (n : Nat) (s : State) : State := pump n ((s.ulk n).queue.length) s

/-- Queue a frame on a link and send what may go. -/
def ulkQueue (n : Nat) (f : UlkFrame) (s : State) : State := ulkPump n (s.setUlk n { s.ulk n with queue := (s.ulk n).queue ++ [f] })

/-- A frame dropped for its TTL or a second turn (R368, R377). -/
def ttlDrop (n : Nat) (s : State) : State :=
  ringRaise 4 (s.setUlk n { s.ulk n with ttlDrop := satInc 8 (s.ulk n).ttlDrop })

/-- Send a ring-scope frame in a trunk's direction (R369, R370, R377): on a wrapped direction a unicast frame goes out on the other trunk
with WRAP set, a broadcast does not, and a frame that would turn twice is dropped. -/
def ringSend (n : Nat) (f : UlkFrame) (s : State) : State :=
  let x := s.ulk n
  if x.wrapped ∧ x.hold = none then
    if f.dst = 0xFF then s
    else if f.wrap then ttlDrop n s
    else ulkQueue (1 - n) { f with wrap := true, ttl := 31 } s
  else if f.dst = 0xFF ∧ !x.up then s
  else ulkQueue n f s

/-- The next ESEQ of this hub (R371). -/
def takeEseq (s : State) : Nat × State := (s.ring.eseq, { s with ring := { s.ring with eseq := (s.ring.eseq + 1) % 2 ^ 16 } })

def seen0 (_ : Nat) : List Nat := []

/-- Remember an ESEQ accepted from a source: the 4 096 most recent (R371). -/
def remember (src e : Nat) (s : State) : State :=
  { s with ring := { s.ring with seen := tset seen0 s.ring.seen src ((e :: tget seen0 s.ring.seen src).take 4096) } }

/-- A local frame for another hub (R368). -/
def localFrame (s : State) (ftype dst : Nat) (payload : List Byte) (eseq : Nat) : UlkFrame :=
  ⟨ftype, dst, ringAddr s, 31, false, eseq, payload, true, none, none⟩

/-- Originate a broadcast on both trunks (R370). -/
def broadcast (ftype : Nat) (payload : List Word) (s : State) : State :=
  let e := takeEseq s
  let f := localFrame s ftype 0xFF (wsBytes payload) e.1
  ringSend 1 f (ringSend 0 f (remember (ringAddr s) e.1 e.2))

/-- The broadcasts that wait go out. -/
def ringFlush (s : State) : State :=
  s.ring.sent.foldl (fun a x => broadcast x.1 x.2 a) { s with ring := { s.ring with sent := [] } }

/-- A link-scope frame, or one on a spur (R359). -/
def linkFrame (ftype : Nat) (payload : List Byte) (s : State) : UlkFrame :=
  ⟨ftype, 0xFE, ringAddr s, 0, false, 0, payload, true, none, none⟩

/-! ### Acknowledgement (R361, R381) -/

/-- A packet whose last fragment is acknowledged counts as read (R381). -/
def pktRead (n q : Nat) (s : State) : State :=
  let s1 := modPkt n q (fun p => { p with isRead := true }) s
  if (match (s1.str n).reading with | some (r, _) => decide (r = q) | none => false) then s1.setStr n { s1.str n with reading := none } else s1

/-- The last RECORD frame of a transfer is acknowledged (R381). -/
def xferDone (s : State) : State := raise pSTORE 6 { s with store := { s.store with xfer := none } }

def ackedFrame (f : UlkFrame) (s : State) : State :=
  let s1 := match f.stream with | some (n, q, true) => pktRead n q s | _ => s
  match f.recPart with | some true => xferDone s1 | _ => s1

/-- Send an ACK of the last frame accepted in order. -/
def sendAck (n : Nat) (busy : Bool) (s : State) : State :=
  wireOut (.ack n (((s.ulk n).rxSeq + 2 ^ 16 - 1) % 2 ^ 16) busy) (s.setUlk n { s.ulk n with busySent := busy })

/-- Put unacknowledged frames on the wire again, from SEQ position `i` on. -/
def resend (n i : Nat) (s : State) : State :=
  let fs := (s.ulk n).unacked.drop i
  let blocks := (fs.map (fun y => frameBlocks y.2)).sum
  let s1 := fs.foldl (fun a y => wireOut (.frame n y.1 y.2 (frameCrc y.1 y.2)) a) s
  s1.setUlk n { s1.ulk n with resendEnd := s.clk + blocks * blockPs (s.lane n).rate / 1000, lastAdv := s.clk }

/-- An ACK arrives, by itself or in a keep-alive (R361, R363, R364). -/
def ulkAck (n seq : Nat) (busy : Bool) (s : State) : State :=
  let x := { s.ulk n with lastAct := s.clk }
  if !x.up then s.setUlk n x
  else
    let k := match (x.unacked.map (·.1)).findIdx? (fun q => decide (q = seq % 2 ^ 16)) with | some i => i + 1 | none => 0
    let gone := x.unacked.take k
    let goal := gone.any (fun y => decide (y.1 = x.replayGoal))
    let s1 := s.setUlk n { x with unacked := x.unacked.drop k, lastAdv := if k = 0 then x.lastAdv else s.clk, replay := if goal then 0 else x.replay, farBusy := busy, busyAt := if busy && !x.farBusy then s.clk else x.busyAt, replayAt := if x.farBusy && !busy then x.replayAt + (s.clk - x.busyAt) else x.replayAt }
    let s2 := gone.foldl (fun a y => ackedFrame y.2 a) s1
    let s3 := if x.farBusy && !busy then resend n 0 s2 else s2
    ulkPump n s3

/-! ### Giving up, wrap (R364 to R366, R377) -/

/-- The streams whose packets a list of frames carries, packet by packet. -/
def framePkts (fs : List UlkFrame) : List (Nat × Nat) := ((fs.filterMap (fun f => f.stream.map (fun x => (x.1, x.2.1)))).eraseDups)

/-- What becomes of stream packets whose frames a link gave up on (R366). -/
def streamGiveUp (n : Nat) (fs : List UlkFrame) (s : State) : State :=
  (framePkts fs).foldl (fun a x =>
    if ulkCfg_REWIND a n = 1 then
      let b := modPkt x.1 x.2 (fun p => { p with replay := true }) a
      b.setStr x.1 { b.str x.1 with reading := none }
    else
      match (a.str x.1).pkts.find? (fun p => decide (p.pseq = x.2)) with
      | some p =>
        let b := rangeEntry x.1 0x10 p.first p.last (p.count * p.nmem) p.nmem (pktRead x.1 x.2 a)
        b.setStr x.1 { b.str x.1 with gapNext := true }
      | none => a) s

/-- The remote channels a spur serves (R383). -/
def spurChans (n c : Nat) : Bool := decide (128 * (n - 2) ≤ c ∧ c < 128 * (n - 2) + 128)

/-- A satellite channel is enabled: by SAT_EN from the start second on, by what was in force before it until then (R383). -/
def satOn (s : State) (n c : Nat) : Bool :=
  bit (if (s.ulk n).schedT ≤ s.st then s.rw (satEnAt n (c / 32)) else (s.ulk n).satWas.getD (c / 32) 0) (c % 32)

/-- A spur's satellite is lost: its inputs are missing until a new attach (R385). -/
def satLost (n : Nat) (s : State) : State :=
  ulkRaise n 8 { s.setUlk n { s.ulk n with sat := false, descAt := none } with sats := s.sats.map (fun c => if spurChans n c.chan then { c with lost := true } else c) }

/-- The mailbox access ends with a result (R387). -/
def mbDone (r : Nat) (s : State) : State :=
  ulkRaise 0 10 { s with ring := { s.ring with mbBusy := false, mbResult := r, mbSpur := none } }

/-- The trunk a mailbox frame to a hub goes over (R387). -/
def mbTrunk (s : State) : Nat := if (s.ulk 0).up ∨ !(s.ulk 1).up then 0 else 1

/-- The upper timers that depend on a link expire as it gives up (R365). -/
def upperGiveUp (n : Nat) (s : State) : State :=
  let x := s.ulk n
  let str := x.unacked.any (fun y => decide (y.2.ftype = 1 ∨ y.2.ftype = 3))
  let mb := s.ring.mbBusy && decide (s.ring.mbSpur = some n ∨ (s.ring.mbSpur = none ∧ n = mbTrunk s))
  let sat := decide (2 ≤ n) && s.sats.any (fun c => spurChans n c.chan && !c.lost && satOn s n (c.chan % 128))
  let s1 := if mb then mbDone 3 s else s
  raiseIf (str || mb || sat || x.descAt.isSome) (pULK n) 9 s1

/-- A trunk's direction is wrapped onto the other trunk (R377): its unacknowledged and waiting unicast frames go out there, its broadcasts
are dropped. -/
def wrapTrunk (n : Nat) (fs : List UlkFrame) (s : State) : State :=
  let s1 := ringRaise 1 (s.setUlk n { s.ulk n with wrapped := true, hold := none })
  (fs.filter (fun f => decide (f.dst < 0x20))).foldl (fun a f => ringSend n f a) s1

/-- The link goes DOWN and its frames are handled (R366). -/
def linkDown (n : Nat) (s : State) : State :=
  let x := s.ulk n
  let fs := x.unacked.map (·.2) ++ x.queue
  let s0 := upperGiveUp n s
  let s1 := s0.setUlk n { s0.ulk n with up := false, rstGot := false, unacked := [], queue := [], replay := 0, txSeq := 0, farBusy := false, rxBad := false, busySent := false, refused := none, hold := none }
  let s2 := ulkRaise n 1 s1
  if n < 2 then
    let s3 := if (s.ulk (1 - n)).up then (if x.wrapped then (s2.setUlk n { s2.ulk n with wrapped := true }) else wrapTrunk n fs s2)
      else streamGiveUp n fs (if fs.any (·.recPart.isSome) then { s2 with store := { s2.store with xfer := none } } else s2)
    if (s3.ulk (1 - n)).wrapped then s3.setUlk (1 - n) { s3.ulk (1 - n) with wrapped := false, hold := none } else s3
  else if (s2.ulk n).sat ∨ s2.sats.any (fun c => spurChans n c.chan && !c.lost) then satLost n s2 else s2

/-- The link gives up (R364): LANE_GIVEUP, 16 RESET blocks, DOWN. -/
def giveUp (n : Nat) (s : State) : State :=
  let x := s.ulk n
  let s1 := ulkRaise n 2 (s.setUlk n { x with giveups := satInc 8 x.giveups })
  let s2 := linkDown n s1
  wireOut (.reset n 16) (s2.setUlk n { s2.ulk n with rstSent := decide ((s.lane n).st = 5) })

/-- A go-back (R362, R364): counted, and the unacknowledged frames sent again from position `i`; a fifth gives up. -/
def goBack (n i : Nat) (s : State) : State :=
  let x := s.ulk n
  if x.unacked = [] then s
  else if x.replay = 4 then giveUp n s
  else
    let x1 := { x with replay := x.replay + 1, replays := satInc 16 x.replays, replayAt := if x.replay = 0 then s.clk else x.replayAt, replayGoal := if x.replay = 0 then ((x.unacked.getLast?).map (·.1)).getD 0 else x.replayGoal }
    ulkRaise n 3 (resend n i (s.setUlk n x1))

/-- A REPLAY_REQ's effect (R362): ignored while that frame is being resent. -/
def replayReq (n first : Nat) (s : State) : State :=
  let x := s.ulk n
  match (x.unacked.map (·.1)).findIdx? (fun q => decide (q = first % 2 ^ 16)) with
  | some i => if s.clk < x.resendEnd then s else goBack n i s
  | none => s

/-- No ACK advances for ACK_TMO (R362). -/
def ackTimeout (n : Nat) (s : State) : State :=
  let x := s.ulk n
  if x.up ∧ x.unacked ≠ [] ∧ !x.farBusy ∧ x.lastAdv + ackTmoNs s n ≤ s.clk then goBack n 0 s else s

/-- 40 µs since the first replay with REPLAY still non-zero (R364), the time of a BUSY not counted (R361). -/
def replayBudget (n : Nat) (s : State) : State :=
  let x := s.ulk n
  if x.up ∧ x.replay ≠ 0 ∧ !x.farBusy ∧ x.replayAt + 40000 ≤ s.clk then giveUp n s else s

/-! ### Coming UP, RESET, unwrap (R364, R377, R378, R382) -/

/-- A spur that enters UP asks its satellite to describe itself (R382). -/
def describe (n : Nat) (s : State) : State :=
  ulkQueue n (linkFrame 8 (wsBytes [word (4 * 2 ^ 28 + n)]) s) (s.setUlk n { s.ulk n with descAt := some s.clk })

/-- The link returns to UP once its lane is UP and RESET has gone both ways (R364). -/
def ulkTryUp (n : Nat) (s : State) : State :=
  let x := s.ulk n
  if !x.up ∧ ulkCfg_EN s n = 1 ∧ (s.lane n).st = 5 ∧ x.rstSent ∧ x.rstGot then
    let s1 := ulkRaise n 0 (s.setUlk n { x with up := true, upSince := s.clk, rstSent := false, rstGot := false, txSeq := 0, rxSeq := 0, lastAdv := s.clk, lastAct := s.clk })
    if 2 ≤ n then describe n s1 else ulkPump n s1
  else s

/-- A DOWN link sends RESET while its lane is UP (R377). -/
def sendReset (n : Nat) (s : State) : State :=
  let x := s.ulk n
  if !x.up ∧ ulkCfg_EN s n = 1 ∧ (s.lane n).st = 5 then ulkTryUp n (wireOut (.reset n 1) (s.setUlk n { x with rstSent := true })) else s

/-- A RESET arrives (R364). -/
def resetRx (n : Nat) (s : State) : State :=
  let x := { s.ulk n with lastAct := s.clk }
  if !(laneRxOk s n) ∨ ulkCfg_EN s n = 0 then s
  else if x.up ∧ x.unacked ≠ [] then giveUp n (s.setUlk n x)
  else
    let s1 := s.setUlk n { x with rxSeq := 0, ackValid := false, rxBad := false, rstGot := !x.up }
    if x.up then s1 else ulkTryUp n s1

/-- What a change of a lane's state means to what it serves: a link layer gives up as its lane leaves UP and sends RESETs as it enters UP (R364); a
MAC's link falls with its lane (R347, R388). -/
def laneSync (n : Nat) (s0 s : State) : State :=
  if 8 ≤ n then (if laneEth n ∧ (s.lane n).st ≠ 5 ∧ (s.eth (n - 8)).link then ethLink (n - 8) false (s.eth (n - 8)).speed false false 0 s else s)
  else if (s0.lane n).st = 5 ∧ (s.lane n).st ≠ 5 then
    (if (s.ulk n).up then giveUp n s else s.setUlk n { s.ulk n with rstSent := false, rstGot := false })
  else if (s0.lane n).st ≠ 5 ∧ (s.lane n).st = 5 then sendReset n s
  else s

/-- Run an operation of lane `n` with its link layer following. -/
def withLane (n : Nat) (f : State → State) (s : State) : State := laneSync n s (f s)

/-- A wrapped direction whose link has been UP for UNWRAP_MS holds new traffic for 500 µs (R378). -/
def unwrapDwell (n : Nat) (s : State) : State :=
  let x := s.ulk n
  if x.wrapped ∧ x.up ∧ x.hold = none ∧ x.upSince + ringTime_UNWRAP_MS s 0 * 1000000 ≤ s.clk then s.setUlk n { x with hold := some (s.clk + 500000) } else s

/-- The hold has ended: traffic returns to the restored link (R378). -/
def unwrap (n : Nat) (s : State) : State :=
  let x := s.ulk n
  match x.hold with
  | some t => if x.wrapped ∧ x.up ∧ t ≤ s.clk then ulkPump n (ringRaise 2 (s.setUlk n { x with wrapped := false, hold := none })) else s
  | none => s

/-! ### Receiving (R360 to R362) -/

/-- Ask for a replay on the first frame discarded after a good one (R362). -/
def askReplay (n cause : Nat) (s : State) : State :=
  let x := s.ulk n
  if x.rxBad then s
  else ulkQueue n (linkFrame 9 (wsBytes [word (cause * 2 ^ 16 + x.rxSeq)]) s) (s.setUlk n { x with rxBad := true })

/-- A link-scope frame as it arrives (R359). -/
def linkRx (ftype : Nat) (rx : UlkRx) (ws : List Word) : UlkFrame := ⟨ftype, 0xFE, rx.src, 0, false, 0, wsBytes ws, false, none, none⟩

/-- What is wrong with a frame `g` as received, by the causes of REPLAY_REQ (R358, R360): 0 nothing, 1 its CRC, 3 its length, 4 truncated. -/
def rxFault (rx : UlkRx) (g : UlkFrame) : Nat :=
  if rx.err ≠ 0 then rx.err else if 2048 < g.payload.length then 3 else if rx.crc = frameCrc rx.seq g then 0 else 1

/-- Take a frame `g` in order (R360, R361): `room` false refuses it with BUSY; otherwise it is acknowledged and `f` acts on it. -/
def ulkTake (n : Nat) (rx : UlkRx) (g : UlkFrame) (room : Bool) (noRoom f : State → State) (s : State) : State :=
  if !(s.ulk n).up ∨ !(laneRxOk s n) then s
  else
    let s0 := laneRxData n (s.setUlk n { s.ulk n with lastAct := s.clk })
    let x := s0.ulk n
    if rxFault rx g ≠ 0 then
      let s1 := if rxFault rx g = 1 then ulkRaise n 4 (s0.setUlk n { x with crcErr := satInc 16 x.crcErr }) else s0
      askReplay n (rxFault rx g) s1
    else if rx.seq % 2 ^ 16 ≠ x.rxSeq then askReplay n 2 s0
    else if !room then sendAck n true (noRoom (s0.setUlk n { x with rxBad := true, refused := some g }))
    else sendAck n false (f (s0.setUlk n { x with rxSeq := (x.rxSeq + 1) % 2 ^ 16, ackValid := true, rxBad := false, refused := none }))

end Sys2Proof.Machine
end

