-- ==== Sys2Proof/Machine/Ulk.lean ====
section
/-! DEFINITION. The Ulumer Link above its link layer: ring frames and the receive queue (R367 to R372), crown and time (R373 to R376), ARM
and FIRE frames (R379, R380), streams and records (R381), satellites (R382 to R385), taps (R386) and the mailbox (R387). -/

namespace Sys2Proof.Machine

/-! ### Ring frames and the receive queue -/

/-- A frame for this hub, or a broadcast. -/
def forMe (s : State) (h : RingHdr) : Bool := decide (h.dst = 0xFF ∨ h.dst = ringAddr s)

/-- The (SRC, ESEQ) has been accepted before (R371). -/
def isDup (s : State) (h : RingHdr) : Bool := decide (h.eseq ∈ tget seen0 s.ring.seen h.src)

/-- Bytes forwarded frames hold in a trunk's forward buffer (R369). -/
def fwdHeld (s : State) (n : Nat) : Nat := (((s.ulk n).queue.filter (fun f => !f.local_)).map frameBytes).sum

/-- Where a frame from trunk `n` would be forwarded on: the other trunk, or back where that direction is wrapped. -/
def fwdTo (s : State) (n : Nat) : Nat := if (s.ulk (1 - n)).wrapped ∧ (s.ulk (1 - n)).hold = none then n else 1 - n

/-- The forward buffer has room for a frame (R369). -/
def fwdRoom (s : State) (n : Nat) (h : RingHdr) (f : UlkFrame) : Bool :=
  decide (h.ttl = 0) || isDup s h || decide (fwdHeld s (fwdTo s n) + frameBytes f ≤ 32768)

/-- Forward a frame on the other trunk with TTL less 1, or drop it at TTL 0 (R368). -/
def forward (n : Nat) (f : UlkFrame) (s : State) : State :=
  if f.ttl = 0 then ttlDrop n s else ringSend (1 - n) { f with ttl := f.ttl - 1, local_ := false } s

/-- A ring frame accepted on link `n` (R368, R370, R371): a copy already held counts in DUP; one for this hub is taken; a broadcast goes
on, and so does a frame for another hub. -/
def ringRx (n : Nat) (h : RingHdr) (ftype : Nat) (payload : List Byte) (take : State → State) (s : State) : State :=
  let f : UlkFrame := ⟨ftype, h.dst, h.src, h.ttl, h.wrap, h.eseq, payload, false, none, none⟩
  if isDup s h then s.setUlk n { s.ulk n with dup := satInc 8 (s.ulk n).dup }
  else if h.dst = 0xFF then forward n f (take (remember h.src h.eseq s))
  else if h.dst = ringAddr s then take (remember h.src h.eseq s)
  else forward n f s

/-- The receive queue's size in bytes (R372); 0 while disabled. -/
def rxqSize (s : State) (n : Nat) : Nat := if ulkRxqSize_KIB s n = 0 then 0 else max 4 (min 1024 (ulkRxqSize_KIB s n)) * 1024

def rxqUsed (s : State) (n : Nat) : Nat :=
  let z := rxqSize s n
  if z = 0 then 0 else ((s.ulk n).rxqWr + z - ulkRxqRd_OFS s n % z) % z

/-- Bytes of a queue entry. -/
def rxqBytes (len : Nat) : Nat := 8 + cdiv len 8 * 8

/-- A frame fits the queue, or the queue takes none. -/
def rxqRoom (s : State) (n len : Nat) : Bool := decide (rxqSize s n = 0) || decide (rxqUsed s n + rxqBytes len < rxqSize s n)

/-- Write an entry to the receive queue (R372). -/
def rxqPut (n : Nat) (h : RingHdr) (ftype : Nat) (payload : List Byte) (s : State) : State :=
  let z := rxqSize s n
  if z = 0 then s
  else
    let len := payload.length
    let w0 := word (ftype * 2 ^ 28 + h.src % 32 * 2 ^ 16 + (if h.wrap then 2 ^ 15 else 0) + len)
    let bs := wsBytes [w0, word h.eseq] ++ payload ++ List.replicate (cdiv len 8 * 8 - len) 0
    let base := ulkRxqBase_BASE s n * 4096
    let wr := (s.ulk n).rxqWr
    let s1 := ((List.range bs.length).zip bs).foldl (fun a x => a.setSramB (base + (wr + x.1) % z) x.2) s
    let used := rxqUsed s n
    let lv := ulkRxqLevel_BYTES s n
    raiseIf (decide (used < lv ∧ lv ≤ used + bs.length)) (pULK n) 5 (s1.setUlk n { s1.ulk n with rxqWr := (wr + bs.length) % z })

/-- A SAMPLE, RECORD or NOTE frame of the ring (R372). -/
def queueFrameRx (n : Nat) (rx : UlkRx) (h : RingHdr) (ftype : Nat) (payload : List Byte) (s : State) : State :=
  let mine := decide (h.dst = ringAddr s) && !(isDup s h)
  let f : UlkFrame := ⟨ftype, h.dst, h.src, h.ttl, h.wrap, h.eseq, payload, false, none, none⟩
  let room := if mine then rxqRoom s n payload.length else fwdRoom s n h f
  ulkTake n rx f room (fun a => if mine then ulkRaise n 6 a else a) (ringRx n h ftype payload (rxqPut n h ftype payload)) s

/-- Whether a frame as received finds room: one of the receive queue's for this hub there, any other in the forward buffer (R369, R372). -/
def frameRoom (s : State) (n : Nat) (f : UlkFrame) : Bool :=
  let h : RingHdr := ⟨f.dst, f.src, f.ttl, f.wrap, f.eseq⟩
  if forMe s h && decide (f.dst ≠ 0xFF) then (if frameClass f.ftype = 2 && !(isDup s h) then rxqRoom s n f.payload.length else true)
  else fwdRoom s n h f

/-- The frame refused with BUSY would find room now: an ACK without BUSY follows (R361). -/
def busyFree (n : Nat) (s : State) : State :=
  match (s.ulk n).refused with
  | some f => if (s.ulk n).busySent ∧ frameRoom s n f then sendAck n false (s.setUlk n { s.ulk n with rxBad := false, refused := none }) else s
  | none => s

/-- A write of ULK_RXQ_RD frees space (R372). -/
def rxqRead (n : Nat) (v : Word) (s : State) : State := busyFree n (s.setRw (ulkRxqRdAt n) (v &&& 0xFFFFF#32))

/-! ### ARM and FIRE frames (R241, R242, R379, R380) -/

/-- The ring units with a RING_ID: by the descriptor as armed, or the table's. -/
def ringUnits (s : State) (id : Nat) : List Nat :=
  (List.range 32).filter (fun u =>
    let d := if (s.trigUnit u).armed then (s.trigUnit u).desc else s.unitDesc u
    uRING d && decide (uRINGID d = id))

/-- A FIRE frame's candidate given to one more unit (R242); whether some unit takes it. In the hub's SAFE state none does (R409). -/
def fireOne (c : Cand) (p : Bool × State) (u : Nat) : Bool × State :=
  let r := takeCand u c p.2
  if r.1 && decide (p.2.pwr.state ≠ 4) then (true, r.2) else p

/-- A FIRE frame is taken: a candidate for the units with its RING_ID, and a meeting of the remote slots that name it (R232, R242). A frame that any of
those units takes is accepted and counts once, one that none takes is ignored; where the hub has no unit with the RING_ID nothing is counted and the
remote slots meet (DESIGN CHOICE, log entry 116). -/
def fireTaken (w : List Word) (s : State) : State :=
  let g (i : Nat) : Nat := (w.getD i 0).toNat
  let id := nfld (g 0) 7 0
  let t := (g 1 + 2 ^ 32 * g 2) * secU + g 3 % 2 ^ 30 * nsU + g 4 % 2 ^ 16 * 2 ^ 32
  let c : Cand := ⟨t, nfld (g 0) 15 8, nfld (g 0) 23 16, g 5 + 2 ^ 32 * g 6 + 2 ^ 64 * g 7 + 2 ^ 96 * g 8, true⟩
  let us := ringUnits s id
  let r := us.foldl (fireOne c) (false, s)
  if r.1 then meetKind 8 id t (raise pTRIG 6 { r.2 with trig := { r.2.trig with accepted := satInc 10 r.2.trig.accepted } })
  else if us ≠ [] then raise pTRIG 7 { s with trig := { s.trig with ignored := satInc 10 s.trig.ignored } }
  else if s.pwr.state = 4 then s
  else meetKind 8 id t s

def fireRx (n : Nat) (rx : UlkRx) (h : RingHdr) (w : List Word) (s : State) : State :=
  let f : UlkFrame := ⟨6, h.dst, h.src, h.ttl, h.wrap, h.eseq, wsBytes w, false, none, none⟩
  ulkTake n rx f (fwdRoom s n h f) id (fun a => ringFlush (ringRx n h 6 (wsBytes w) (fireTaken w) a)) s

/-- Arm a unit unless it is armed (R238): a unit that is disarmed while its record runs on is armed anew. -/
def armIfFree (u : Nat) (cmd : Bool) (s : State) : State :=
  if (s.trigUnit u).armed then s else armUnit u cmd none s.st s

/-- Send a frame for one hub of the ring from this one, starting on trunk `n`. -/
def unicast (n ftype dst : Nat) (payload : List Byte) (s : State) : State :=
  let e := takeEseq s
  ringSend n (localFrame s ftype dst payload e.1) e.2

/-- The trunk towards the crown, else lane 0. -/
def crownTrunk (s : State) : Nat := s.ring.facing.getD 0

/-- One unit under an ARM frame (R241, R379): a refusal goes back to the crown. -/
def armOne (op id u : Nat) (s : State) : State :=
  if op = 1 then
    let s1 := armIfFree u false s
    if !(s1.trigUnit u).armed then
      unicast (crownTrunk s1) 5 s1.ring.crownAddr (wsBytes [word (3 * 2 ^ 24 + id * 2 ^ 16 + s1.trig.rejReason)]) s1
    else s1
  else disarmUnit u s

/-- An ARM frame is taken (R379). -/
def armTaken (w : Word) (s : State) : State :=
  let op := fld w 31 24
  let id := fld w 23 16
  if op = 3 then (if s.ring.crown then ringRaise 5 { s with trig := { s.trig with nak := satInc 12 s.trig.nak } } else s)
  else if op = 1 ∨ op = 2 then (ringUnits s id).foldl (fun a u => armOne op id u a) s
  else s

def armRx (n : Nat) (rx : UlkRx) (h : RingHdr) (w : Word) (s : State) : State :=
  let f : UlkFrame := ⟨5, h.dst, h.src, h.ttl, h.wrap, h.eseq, wsBytes [w], false, none, none⟩
  ulkTake n rx f (fwdRoom s n h f) id (ringRx n h 5 (wsBytes [w]) (armTaken w)) s

/-- TRIG_CMD ARM or DISARM of a ring unit on the crown also sends an ARM frame (R241). -/
def trigCmdArm (u : Nat) (s : State) : State :=
  let d := if (s.trigUnit u).armed then (s.trigUnit u).desc else s.unitDesc u
  let s1 := armIfFree u true s
  if uRING d ∧ s.ring.crown then broadcast 5 [word (2 ^ 24 + uRINGID d * 2 ^ 16)] s1 else s1

def trigCmdDisarm (u : Nat) (s : State) : State :=
  let d := if (s.trigUnit u).armed then (s.trigUnit u).desc else s.unitDesc u
  let s1 := disarmUnit u s
  if uRING d ∧ s.ring.crown then broadcast 5 [word (2 * 2 ^ 24 + uRINGID d * 2 ^ 16)] s1 else s1

/-! ### Crown and time (R373 to R376, R385) -/

/-- A candidate: priority, identity, distance, address, and the trunk that gave it. -/
structure CrownCand where
  pri : Nat
  id : Nat
  dist : Nat
  addr : Nat
  trunk : Option Nat
  deriving DecidableEq, Repr

/-- The order of candidates (R373): priority, identity, distance; the earlier listed wins a tie. -/
def candBefore (a b : CrownCand) : Bool :=
  decide (a.pri < b.pri) || (decide (a.pri = b.pri) && (decide (a.id < b.id) || (decide (a.id = b.id) && decide (a.dist ≤ b.dist))))

/-- The candidates a hub weighs: itself, then lane 0's neighbour, then lane 1's. -/
def crownCands (s : State) : List CrownCand :=
  let own := if ringCfg_PRI s 0 = 255 then [] else [(⟨ringCfg_PRI s 0, s.hubId, 0, ringAddr s, none⟩ : CrownCand)]
  let nb (n : Nat) : List CrownCand :=
    match (s.ulk n).adv with
    | some a => if (s.ulk n).up ∧ s.clk ≤ a.at_ + 3 * timeIntNs s ∧ a.pri ≠ 255 ∧ a.dist + 1 ≤ 31 then [⟨a.pri, a.id, a.dist + 1, a.addr, some n⟩] else []
    | none => []
  own ++ nb 0 ++ nb 1

/-- The best of a list of candidates. -/
def bestCand : List CrownCand → Option CrownCand
  | [] => none
  | c :: t => match bestCand t with | none => some c | some b => if candBefore c b then some c else some b

/-- Weigh the candidates (R373): a change of crown raises ULK_CROWN_CHANGE, one of the facing trunk ULK_TIME_DIR with a new acquisition
(R376). -/
def crownUpdate (s : State) : State :=
  let r := s.ring
  match bestCand (crownCands s) with
  | none =>
    if r.noCrown ∧ !r.crown then s
    else { s with ring := { r with noCrown := true, crown := false, facing := none, crownPri := 255, crownAddr := 0, crownId := 0, dist := 0 } }
  | some c =>
    let same := decide (r.crownId = c.id ∧ r.crownPri = c.pri) && !r.noCrown
    let s1 := if same && decide (r.facing = c.trunk ∧ r.dist = c.dist ∧ r.crownAddr = c.addr) && (r.crown == c.trunk.isNone) then s
      else { s with ring := { r with noCrown := false, crown := c.trunk.isNone, facing := c.trunk, crownPri := c.pri, crownAddr := c.addr, crownId := c.id, dist := c.dist } }
    let s2 := if same then s1 else ringRaise 0 s1
    let moved := r.facing.isSome && c.trunk.isSome && decide (r.facing ≠ c.trunk)
    tbCrown (if moved then ringRaise 3 (if s2.tb.srcAct = 1 then tbAcquire 1 s2 else s2) else s2)

/-- A timestamp (2^-16 ns) as TIME frames carry it: seconds modulo 2^32. -/
def stampWords (t : Nat) : List Word := [word (t / 65536000000000), word (t % 65536000000000 / 65536), word (t % 65536)]

/-- A carried timestamp in 2^-16 ns. -/
def stampOf (a b c : Word) : Int := ((a.toNat * 65536000000000 + b.toNat % 2 ^ 30 * 65536 + c.toNat % 2 ^ 16 : Nat) : Int)

/-- A difference of timestamps modulo 2^32 s, taken nearest 0. -/
def stampDiff (a b : Int) : Int :=
  let m : Int := 2 ^ 32 * 65536000000000
  let d := (a - b) % m
  if d < m / 2 then d else d - m

/-- The words of a TIME frame (R374). -/
def timeWords (s : State) (n : Nat) : List Word :=
  let x := s.ulk n
  let r := s.ring
  let pv : Nat × Nat := x.txSt.headD (0, 0)
  let rv : Nat × Nat := x.rxSt.headD (0, 0)
  let none_ := r.noCrown || (!r.crown && r.facing.isNone)
  let t8 := (if none_ then 255 else r.crownPri) * 2 ^ 24 + r.dist * 2 ^ 16 + r.crownAddr * 2 ^ 8 + (if x.txSt = [] then 0 else 2 ^ 7) + (if x.rxSt = [] then 0 else 2 ^ 6)
  [word (x.tseq * 2 ^ 16 + pv.1)] ++ stampWords pv.2 ++ [word rv.1] ++ stampWords rv.2 ++
  [word t8, word r.crownId, word (r.crownId / 2 ^ 32), word (r.crownId / 2 ^ 64), word (r.crownId / 2 ^ 96), 0, 0, 0]

/-- Every TIME_INT a link sends a TIME frame (R374). -/
def timeTx (n : Nat) (s : State) : State :=
  let f := linkFrame 4 (wsBytes (timeWords (crownUpdate s) n)) s
  if (s.ulk n).timeAt + timeIntNs s ≤ s.clk ∧ mayStart s n f then
    let s1 := crownUpdate s
    ulkQueue n f (s1.setUlk n { s1.ulk n with timeAt := s.clk })
  else s

/-- The measurement of a TIME frame received at `ts` (2^-16 ns): round trip in 2^-16 ns and θ in 2^-48 ps, where valid (R375). -/
def timeMeas (s : State) (n : Nat) (w : List Word) (ts : Nat) : Option (Int × Int) :=
  let x := s.ulk n
  let g (i : Nat) : Word := w.getD i 0
  let ti : Int := ((3 * timeIntNs s * 65536 : Nat) : Int)
  match x.rxSt.find? (fun p => decide (p.1 = fld (g 0) 15 0)), x.txSt.find? (fun p => decide (p.1 = fld (g 4) 15 0)) with
  | some (_, t2), some (_, t3) =>
    if bit (g 8) 7 && bit (g 8) 6 then
      let t1 := stampOf (g 1) (g 2) (g 3)
      let t4 := stampOf (g 5) (g 6) (g 7)
      let d1 := stampDiff t2 t1
      let d2 := stampDiff t4 t3
      let rt := d1 + d2
      let near := decide (((stampDiff t1 t4).natAbs : Int) ≤ ti ∧ (ts : Int) - t2 ≤ ti ∧ (ts : Int) - t3 ≤ ti)
      let trip := decide (x.nValid < 16) || decide ((rt * 1000 - ((2 * ulkDelay s n * 65536 : Nat) : Int)).natAbs ≤ 50000 * 65536)
      if near && trip then some (rt, (d1 - d2) * 1000 * 2 ^ 31 - sgn 32 (ulkAsym_ASYM s n) * 2 ^ 47) else none
    else none
  | _, _ => none

/-- A TIME frame is taken (R373 to R376, R385). -/
def timeTaken (n : Nat) (w : List Word) (ts : Nat) (s : State) : State :=
  let g (i : Nat) : Word := w.getD i 0
  let m := timeMeas s n w ts
  let x := s.ulk n
  let id := (g 9).toNat + 2 ^ 32 * (g 10).toNat + 2 ^ 64 * (g 11).toNat + 2 ^ 96 * (g 12).toNat
  let adv : Option Advert := if n < 2 then some ⟨fld (g 8) 31 24, id, fld (g 8) 23 16, fld (g 8) 12 8, s.clk⟩ else none
  let x1 := { x with rxSt := ((fld (g 0) 31 16, ts) :: x.rxSt).take 16, adv := adv }
  match m with
  | none => crownUpdate (s.setUlk n x1)
  | some (rt, e) =>
    let x2 := { x1 with delays := (rt.toNat :: x1.delays).take 16, nValid := min 16 (x1.nValid + 1), theta := e, thetas := (e :: x1.thetas).take 16 }
    let s1 := crownUpdate (s.setUlk n x2)
    if s1.ring.facing = some n then tbMeasure 1 e s1 else s1

def timeRx (n : Nat) (rx : UlkRx) (w : List Word) (ts : Nat) (s : State) : State := ulkTake n rx (linkRx 4 rx w) true id (timeTaken n w ts) s

/-- ULK_OFS: the last θ in ps, signed, saturating. -/
def ulkOfs (s : State) (n : Nat) : Int := satS 32 (rshAway (s.ulk n).theta 48)
/-- SAT_OFS: the mean θ of the last 16 valid measurements, in ps (R385). -/
def satOfs (s : State) (n : Nat) : Int :=
  let l := (s.ulk n).thetas
  if l = [] then 0 else satS 32 (rdivAway l.sum (l.length * 2 ^ 48))

/-- An advertisement has grown older than 3 × TIME_INT (R373). -/
def advertExpiry (n : Nat) (s : State) : State :=
  match (s.ulk n).adv with
  | some a => if a.at_ + 3 * timeIntNs s < s.clk then crownUpdate (s.setUlk n { s.ulk n with adv := none }) else s
  | none => s

/-! ### Streams and records (R381) -/

/-- A packet is on its way: a frame of it is queued or unacknowledged. -/
def inFlight (s : State) (n q : Nat) : Bool :=
  [0, 1].any (fun l => ((s.ulk l).unacked.map (·.2) ++ (s.ulk l).queue).any (fun f => match f.stream with | some (a, b, _) => decide (a = n ∧ b = q) | none => false))

/-- Cut bytes into pieces of `k`. -/
def chunks (k : Nat) : Nat → List Byte → List (List Byte)
  | 0, _ => []
  | _, [] => []
  | f + 1, bs => bs.take k :: chunks k f (bs.drop k)

/-- The frames of a packet (R381). -/
def pktFrames (s : State) (link n : Nat) (p : Pkt) (ws : List Word) : List UlkFrame :=
  let cs := chunks 2044 (ws.length + 1) (wsBytes ws)
  (List.range cs.length).map (fun i =>
    let last := decide (i + 1 = cs.length)
    let fw := word (p.pseq % 2 ^ 16 + i * 2 ^ 16 + n * 2 ^ 24 + (if last then 2 ^ 31 else 0))
    ⟨if p.fmt = 5 then 3 else 1, ulkCfg_SINK s link, ringAddr s, 31, false, 0, wsBytes [fw] ++ cs.getD i [], true, some (n, p.pseq, last), none⟩)

/-- Originate a unicast frame with its own ESEQ. -/
def originate (link : Nat) (f : UlkFrame) (s : State) : State :=
  let e := takeEseq s
  ringSend link { f with eseq := e.1 } e.2

/-- Send the next packet of a stream with CONSUMER ULK (R367, R381, R293). -/
def sendPkt (link n : Nat) (s : State) : State :=
  match (s.str n).pkts.find? (fun p => !p.isRead && !(inFlight s n p.pseq)) with
  | none => s
  | some p =>
    if !(headOk s n p) then (if laneTxOk s link then p1Ask s else s) else
    let dam := pktDamaged s n p
    let s0 := (pktAddrs s n p).foldl (fun a x => eccRead x a) s
    let s1 := if dam then memRange n p s0 else s0
    let g := p.gap || (s1.str n).gapNext
    let s2 := modPkt n p.pseq (fun y => { y with gap := g }) (s1.setStr n { s1.str n with gapNext := false })
    match deliverPkt s2 n { p with gap := g } with
    | none => pktRead n p.pseq (s2.setStr n { s2.str n with gapNext := true })
    | some ws =>
      let s3 := if (s2.str n).reading.isNone then s2.setStr n { s2.str n with reading := some (p.pseq, 0) } else s2
      (pktFrames s2 link n p ws).foldl (fun a f => originate link f a) s3

/-- A trunk direction can take stream traffic now: nothing local of class B waits for it. -/
def trunkFree (s : State) (link : Nat) : Bool :=
  let x := s.ulk link
  let l := if x.wrapped ∧ x.hold = none then 1 - link else link
  (s.ulk l).up && x.hold.isNone && !((s.ulk l).queue.any (fun f => f.local_ && decide (frameClass f.ftype = 2)))

/-- The words of a record's part (R381): REC, TOTAL, OFFSET, a reserved word, and up to 2 032 bytes. -/
def recFrame (s : State) (link slot ofs : Nat) (r : RecSlot) : UlkFrame :=
  let k := min 2032 (r.len - ofs)
  let ws := (List.range (cdiv k 4)).map (fun i => s.dramW (recByte s r (ofs + 4 * i)))
  ⟨2, ulkCfg_SINK s link, ringAddr s, 31, false, 0, wsBytes [word (slot * 2 ^ 24), word r.len, word ofs, 0] ++ (wsBytes ws).take k, true, none, some (decide (r.len ≤ ofs + k))⟩

/-- Send the next part of the record in transfer. -/
def xferNext (s : State) : State :=
  match s.store.xfer with
  | some (slot, link, ofs) =>
    if link < 2 && trunkFree s link && memOpen s then
      match s.recSlot slot with
      | some r =>
        if ofs < r.len then
          let s0 := (List.range (cdiv (min 2032 (r.len - ofs)) 4)).foldl (fun a i => eccRead (recByte s r (ofs + 4 * i)) a) s
          originate link (recFrame s link slot ofs r) { s0 with store := { s0.store with xfer := some (slot, link, ofs + 2032) } }
        else s
      | none => s
    else s
  | none => s

/-- STORE_XFER (R293, R381): send a closed record; a slot that holds none, a spur, or a transfer in progress takes nothing. -/
def storeXfer (link slot : Nat) (s : State) : State :=
  match s.recSlot slot with
  | some r => if r.closed ∧ s.store.xfer = none ∧ link < 2 then xferNext { s with store := { s.store with xfer := some (slot, link, 0) } } else s
  | none => s

/-- The link layers take what waits for them: one packet of each stream, one part of a record, the broadcasts. -/
def ulkService (s : State) : State :=
  let s1 := ringFlush s
  let s2 := s1.strs.foldl (fun a x =>
    let d := (a.str x.1).desc
    if d.consumer = 1 ∧ d.dest < 2 ∧ trunkFree a d.dest then sendPkt d.dest x.1 a else a) s1
  (List.range 8).foldl (fun a n => busyFree n a) ((List.range 8).foldl (fun a n => ulkPump n a) (xferNext s2))

/-! ### Satellites (R382 to R385) -/

/-- A DESCRIPTION is stored (R382): at most 128 channels attach. -/
def descTaken (n : Nat) (w : List Word) (s : State) : State :=
  let g (i : Nat) : Word := w.getD i 0
  let k := min 128 (fld (g 1) 7 0 + 1)
  let ch (c : Nat) : SatChan :=
    let rate := (g (6 + 3 * c)).toNat
    let lat := g (8 + 3 * c)
    { chan := 128 * (n - 2) + c, rate := rate, per := if rate = 0 then 0 else 1000000000 * 2 ^ 40 / rate, dsat := (psU (g (7 + 3 * c)).toNat).toNat, dps := (g (7 + 3 * c)).toNat, len := fld lat 15 0, maxlat := min 1000 (fld lat 31 16), jRef := 0, tRef := 0, cnt := 0, lastRx := s.clk, lost := true }
  let s1 := { s with sats := s.sats.filter (fun (c : SatChan) => !(spurChans n c.chan)) ++ (List.range k).map ch }
  ulkRaise n 7 (s1.setUlk n { s1.ulk n with sat := true, satId := [g 2, g 3, g 4, g 5], descAt := none })

def descRx (n : Nat) (rx : UlkRx) (w : List Word) (s : State) : State :=
  if 2 ≤ n then ulkTake n rx (linkRx 8 rx w) true id (fun a => if fld (w.getD 0 0) 31 28 = 5 then descTaken n w a else a) s else s

/-- A SAT_EN register is written (R383): a change sends a SCHED frame with every enabled channel and the start second; a frame still
waiting is replaced. -/
def satEnWrite (n i : Nat) (v : Word) (s : State) : State :=
  let old := satEn_EN s n i
  let s1 := s.setRw (satEnAt n i) v
  if old = v.toNat ∨ n < 2 then s1
  else
    let x := s1.ulk n
    let t := if s.st + 10 * msU ≤ x.schedT then x.schedT else cdiv (s.st + 10 * msU) secU * secU
    let f := linkFrame 7 (wsBytes ([word (2 ^ 24), word (secOf t), word (nsOf t)] ++ (List.range 4).map (fun j => s1.rw (satEnAt n j)))) s1
    let was := if s.st < x.schedT then x.satWas else (List.range 4).map (fun j => s.rw (satEnAt n j))
    ulkQueue n f (s1.setUlk n { x with schedT := t, satWas := was, queue := x.queue.filter (fun y => decide (y.ftype ≠ 7)) })



/-- One satellite sample as a chain input (R384): OVR is taken, and FILL with the placeholder value is a missing sample. -/
def satSmp (w : Word) (j : Nat) : Smp :=
  if bit w 6 && decide (fld w 31 8 = 2 ^ 23) then { v := 0, j := j, marks := 128, fi := 0, fx := 0 }
  else { v := sfld w 31 8 * 2 ^ 8, j := j, marks := if bit w 1 then 4 else 0, fi := 0, fx := 0 }

/-- One channel's samples of a frame whose first instant is `t` (2^-32 ns) and first index within its second `j0` (R173, R174). Inputs missing before
it are one gap of the channel, reported once whoever reads it. -/
def satChan (c : SatChan) (t : Int) (j0 : Nat) (ws : List Word) (s : State) : State :=
  let f := c.rate / 256
  if f = 0 then s
  else
    let q : Nat := 1000000000 * 2 ^ 32
    let sec := rdivAway (t * f - ((j0 * q : Nat) : Int)) (f * q)
    let jj := (sec * f + j0).toNat
    let pred : Int := c.tRef + ((jj : Int) - c.jRef) * ((1000000000 * 2 ^ 40 : Nat) : Int) / (c.rate : Int)
    let slip := decide (c.cnt ≠ 0) && decide (c.per < 4 * (t - pred).natAbs)
    let c1 := { c with jRef := jj, tRef := t.toNat, cnt := ws.length, lastRx := s.clk, lost := false }
    let gap := decide (c.cnt ≠ 0 ∧ c.jRef + c.cnt < jj) && !c.lost
    let s1 := raiseIf slip pGRID 5 (raiseIf gap pGRID 4 { s with sats := s.sats.map (fun (y : SatChan) => if y.chan = c.chan then c1 else y) })
    let reads (d : List Word) : Bool := decide (dKIND d = 1 ∧ dSOURCE d = c.chan)
    (s1.runCtxs reads).foldl (fun a k =>
      let a1 := if slip then settleEvent k (t.toNat * 2 ^ 16) 0 false 0 a else a
      ((List.range ws.length).zip ws).foldl (fun (b : State) (x : Nat × Word) => onRuns reads k (pushInput k false (satSmp x.2 (jj + x.1))) b) a1) s1

/-- A satellite SAMPLE frame's payload (R384, R385). -/
def satTaken (n : Nat) (w : List Word) (s : State) : State :=
  let g (i : Nat) : Word := w.getD i 0
  let first := fld (g 0) 30 24
  let nch := fld (g 0) 22 16 + 1
  let ns := fld (g 0) 8 0 + 1
  let sec : Int := let d := (((g 2).toNat : Int) - (s.sec : Int)) % 2 ^ 32; if d < 2 ^ 31 then s.sec + d else s.sec + d - 2 ^ 32
  let t := (sec * 1000000000 + ((fld (g 3) 29 0 : Nat) : Int)) * 2 ^ 32 + ((fld (g 4) 15 0 * 2 ^ 16 : Nat) : Int) - psU (satOfs s n)
  (List.range nch).foldl (fun a i =>
    match a.sats.find? (fun c => decide (c.chan = 128 * (n - 2) + first + i)) with
    | some c => if (a.ulk n).sat ∧ satOn a n (first + i) then satChan c t (g 1).toNat ((List.range ns).map (fun j => g (5 + j * nch + i))) a else a
    | none => a) s

/-- A satellite SAMPLE frame arrives (R384): words that do not fit LEN make it a frame of bad length. -/
def satFrameRx (n : Nat) (rx : UlkRx) (w : List Word) (s : State) : State :=
  let k := (fld (w.getD 0 0) 8 0 + 1) * (fld (w.getD 0 0) 22 16 + 1)
  let bad := decide (507 < k ∨ w.length ≠ 5 + k)
  if 2 ≤ n then ulkTake n (if bad && decide (rx.err = 0) then { rx with err := 3 } else rx) (linkRx 1 rx w) true id (satTaken n w) s else s

/-- MAXLAT and UPPER_TMO without a SAMPLE frame for an enabled channel (R365): its inputs are missing from then on (R174). -/
def satSilence (n c : Nat) (s : State) : State :=
  match s.sats.find? (fun y => decide (y.chan = 128 * (n - 2) + c)) with
  | some y =>
    if 2 ≤ n ∧ (s.ulk n).sat ∧ satOn s n c ∧ !y.lost ∧ (s.ulk n).replay = 0 ∧ max y.lastRx (s.ulk n).lastAct + y.maxlat * 1000 + upperNs s n ≤ s.clk then
      raiseIf (decide (y.cnt ≠ 0)) pGRID 4
        (ulkRaise n 9 (ulkRaise n 8 { s with sats := s.sats.map (fun z => if z.chan = y.chan then { z with lost := true } else z) }))
    else s
  | none => s

/-! ### The other upper timers (R365) -/

/-- UPPER_TMO without acknowledgement of a SAMPLE or NOTE frame: the link gives up. -/
def streamTmo (n : Nat) (s : State) : State :=
  let x := s.ulk n
  if x.up ∧ x.replay = 0 ∧ x.unacked.any (fun y => decide (y.2.ftype = 1 ∨ y.2.ftype = 3)) ∧ max x.lastAct x.lastAdv + upperNs s n ≤ s.clk then giveUp n s else s

/-- UPPER_TMO without a satellite's RESPONSE or DESCRIPTION. -/
def satRespTmo (n : Nat) (s : State) : State :=
  let x := s.ulk n
  let old (t : Nat) : Bool := decide (x.replay = 0) && decide (max t x.lastAct + upperNs s n ≤ s.clk)
  if s.ring.mbBusy ∧ s.ring.mbSpur = some n ∧ old s.ring.mbAt then ulkRaise n 9 (mbDone 1 s)
  else
    match x.descAt with
    | some t => if old t then ulkRaise n 9 (ulkRaise n 8 (s.setUlk n { x with descAt := none })) else s
    | none => s

/-- UPPER_TMO without a hub's RESPONSE. -/
def mailboxTmo (s : State) : State :=
  let n := mbTrunk s
  let x := s.ulk n
  if s.ring.mbBusy ∧ s.ring.mbSpur = none ∧ x.replay = 0 ∧ max s.ring.mbAt x.lastAct + upperNs s n ≤ s.clk then ulkRaise n 9 (mbDone 1 s) else s

/-! ### Taps and the mailbox (R386, R387) -/

/-- ULK_TAP is written: GO sends a TAP_REQ while the link is UP (R386). -/
def ulkTapWrite (n : Nat) (v : Word) (s : State) : State :=
  let s1 := s.setRw (ulkTapAt n) (v &&& 0x3301F0F#32)
  if bit v 31 ∧ (s1.ulk n).up then ulkQueue n (linkFrame 10 (wsBytes [s1.rw (ulkTapAt n)]) s1) s1 else s1

/-- A TAP_REQ's word acts (R386). -/
def tapReq (n : Nat) (w : Word) (s : State) : State :=
  let op := fld w 25 24
  let x := s.lane n
  if op = 3 then s.setUlk n { s.ulk n with tapFar := some (fld w 3 0, fld w 12 8) }
  else
    let s1 := if op = 1 then s.setLane n { x with pre := min 8 (fld w 3 0), post := min 16 (fld w 12 8) }
      else if op = 2 then (let t := presetTaps s n (fld w 21 20); s.setLane n { x with pre := t.1, post := t.2 })
      else s
    let y := s1.lane n
    ulkQueue n (linkFrame 10 (wsBytes [word (3 * 2 ^ 24 + y.post * 2 ^ 8 + y.pre)]) s1) s1

def tapRx (n : Nat) (rx : UlkRx) (w : Word) (s : State) : State := ulkTake n rx (linkRx 10 rx [w]) true id (tapReq n w) s

/-- MB_CTL is written: GO sends a MGMT READ or WRITE (R387). -/
def mbCtlWrite (v : Word) (s : State) : State :=
  let s1 := s.setRw (mbCtlAt 0) (v &&& 0x379F0000#32)
  let op := mbCtl_OP s1 0
  let link := mbCtl_LINK s1 0
  let spur := decide (mbCtl_SPUR s1 0 = 1)
  if bit v 31 ∧ !s1.ring.mbBusy ∧ (op = 1 ∨ op = 2) ∧ (!spur ∨ 2 ≤ link) then
    let tag := (s1.ring.mbTag + 1) % 2 ^ 16
    let s2 := { s1 with ring := { s1.ring with mbBusy := true, mbTag := tag, mbSpur := if spur then some link else none, mbAt := s.clk } }
    let ws := wsBytes [word (op * 2 ^ 28 + tag), s2.rw (mbAddrAt 0), if op = 2 then s2.rw (mbDataAt 0) else 0]
    if spur then ulkQueue link (linkFrame 8 ws s2) s2 else unicast (mbTrunk s2) 8 (mbCtl_DST s2 0) ws s2
  else s1

/-- A RESPONSE to this hub's mailbox (R387). -/
def respTaken (w : List Word) (s : State) : State :=
  let m0 := w.getD 0 0
  if s.ring.mbBusy ∧ fld m0 31 28 = 3 ∧ fld m0 15 0 = s.ring.mbTag then
    let s1 := if mbCtl_OP s 0 = 1 then s.setRw (mbDataAt 0) (w.getD 2 0) else s
    mbDone (fld m0 27 24) s1
  else s

/-- A RESPONSE frame arrives, on a trunk or from a satellite. -/
def respRx (n : Nat) (rx : UlkRx) (h : RingHdr) (w : List Word) (s : State) : State :=
  let f : UlkFrame := ⟨8, h.dst, h.src, h.ttl, h.wrap, h.eseq, wsBytes w, false, none, none⟩
  if n < 2 then ulkTake n rx f (forMe s h || fwdRoom s n h f) id (ringRx n h 8 (wsBytes w) (respTaken w)) s
  else ulkTake n rx f true id (respTaken w) s

/-- Answer a MGMT access (R387): RESULT, the tag, the address and the data. -/
def mgmtAnswer (n : Nat) (h : RingHdr) (result : Nat) (w : List Word) (data : Word) (s : State) : State :=
  unicast n 8 h.src (wsBytes [word (3 * 2 ^ 28 + result * 2 ^ 24 + fld (w.getD 0 0) 15 0), w.getD 1 0, data]) s

/-- A MGMT READ or WRITE frame of the ring; `run` executes the access: result, data, state. -/
def mgmtRx (n : Nat) (rx : UlkRx) (h : RingHdr) (w : List Word) (run : State → Nat × Word × State) (s : State) : State :=
  if n < 2 then
    let f : UlkFrame := ⟨8, h.dst, h.src, h.ttl, h.wrap, h.eseq, wsBytes w, false, none, none⟩
    ulkTake n rx f (forMe s h || fwdRoom s n h f) id (ringRx n h 8 (wsBytes w) (fun a =>
      if ringCfg_REMOTE_EN a 0 = 1 then (let r := run a; mgmtAnswer n h r.1 w r.2.1 r.2.2) else mgmtAnswer n h 2 w 0 a)) s
  else s

/-! ### Keep-alives, replay requests, and what has no row of its own -/

/-- After 32 idle blocks a keep-alive goes out (R344, R363). -/
def keepAliveTx (n : Nat) (s : State) : State :=
  let x := s.ulk n
  if n < 8 ∧ laneTxOk s n ∧ blocksPassed s n (s.lane n).lastTx 32 then
    wireOut (.keepAlive n ((x.rxSeq + 2 ^ 16 - 1) % 2 ^ 16) x.busySent x.ackValid ((x.kaCnt + 1) % 2 ^ 16)) (laneTxData n (s.setUlk n { x with kaCnt := (x.kaCnt + 1) % 2 ^ 16 }))
  else s

/-- A keep-alive arrives (R363); with ACK_VALID 0 it acknowledges nothing, and its BUSY counts (R361). -/
def keepAliveRx (n seq : Nat) (busy valid : Bool) (s : State) : State :=
  if n < 8 ∧ laneRxOk s n then
    ulkAck n (if valid then seq else 2 ^ 16 - 1) busy (laneRxData n (s.setUlk n { s.ulk n with lastAct := s.clk }))
  else s

/-- An ACK block arrives. -/
def ackRx (n seq : Nat) (busy : Bool) (s : State) : State := if laneRxOk s n then ulkAck n seq busy s else s

/-- A control or data block that the link layer discards counts in BAD_CTL (R355, R363). -/
def badCtlRx (n : Nat) (s : State) : State := s.setUlk n { s.ulk n with badCtl := satInc 8 (s.ulk n).badCtl }

/-- A block arrives outside a frame with the lane in block lock (R334, R336, R355, R363): an invalid header, or a lane type that is not listed, counts
in BAD_HDR; TRAIN and SLEEP are the lane's own; a data block is a keep-alive or is discarded; ACK and RESET are the link layer's. SOF and EOF come
with their frames. -/
def lineRx (n : Nat) (b : LineBlk) (ask askP : Nat) (s : State) : State :=
  let x := s.lane n
  let u := unpol x.polRx b
  let p := payBytes (descramble u.prev u.bits)
  let g (i : Nat) : Nat := p.getD i 0
  if !(laneUlk n && x.blk && !x.rxSleep) then s
  else if u.hdr = 1#2 then
    (if !(laneRxOk s n) then laneRxData n s
     else if g 0 = 0x0B then keepAliveRx n (g 2 + 2 ^ 8 * g 3) ((g 4).testBit 0) ((g 4).testBit 1) s
     else badCtlRx n (laneRxData n s))
  else if u.hdr ≠ 2#2 ∨ (3 ≤ g 0 ∧ g 0 < 16) then badHdrRx n s
  else if g 0 = 1 then laneTrain n (p.drop 1) ask askP s
  else if g 0 = 2 then laneRxSleep n s
  else if g 0 = 0x12 then ackRx n (g 1 + 2 ^ 8 * g 2) ((g 3).testBit 0) s
  else if g 0 = 0x13 then resetRx n s
  else if 0x14 ≤ g 0 ∧ laneRxOk s n then badCtlRx n s
  else s

/-- A REPLAY_REQ frame arrives (R362). -/
def replayRx (n : Nat) (rx : UlkRx) (w : Word) (s : State) : State := ulkTake n rx (linkRx 9 rx [w]) true id (replayReq n (fld w 15 0)) s

/-- ULK_CFG is written: a link disabled goes DOWN, one enabled sends RESET. -/
def ulkCfgWrite (n : Nat) (s : State) : State :=
  if ulkCfg_EN s n = 0 then (if (s.ulk n).up then linkDown n s else s) else sendReset n s

/-- A page reset of a link layer: the link goes DOWN and everything it holds is dropped (R30). -/
def ulkReset (n : Nat) (s : State) : State :=
  let s1 := if (s.ulk n).up then giveUp n s else s
  let s2 := if 2 ≤ n then { s1 with sats := s1.sats.map (fun c => if spurChans n c.chan then { c with lost := true } else c) } else s1
  let s3 := s2.setUlk n {}
  if n = 0 then { s3 with ring := { s3.ring with evt := 0, crown := false, noCrown := false, crownPri := 0, crownAddr := 0, crownId := 0, dist := 0, facing := none, mbBusy := false, mbResult := 0, mbSpur := none } } else s3

end Sys2Proof.Machine
end

