-- ==== Sys2Proof/Machine/Power.lean ====
section
/-! DEFINITION. The power manager (R416 to R427): what holds a domain, the states the hub state allows, requests that wait or are
refused, self-refresh, moves between hub states, waking, and the domains in SAFE. -/

namespace Sys2Proof.Machine

/-! ### Holders (R416, R418) -/

/-- What holds a domain, by how a request to take it down deals with it: loops and other holders refuse it; recalibrations, skew
measurements and vibrating-wire sequences are waited for; channels of the block mover pause. -/
structure Holders where
  loop : Bool
  other : Bool
  waits : Bool
  dma : Bool
  deriving DecidableEq, Repr

def Holders.any (h : Holders) : Bool := h.loop || h.other || h.waits || h.dma

/-- Loops outside OFF whose tap slice lies in mitten `m`. -/
def loopOn (s : State) (m : Nat) : Bool := (List.range 16).any (fun n => decide ((s.loop n).mode ≠ 0) && decide (lpSLICE (lw0 s n) / 4 = m))

def anyLoopOn (s : State) : Bool := (List.range 16).any (fun n => decide ((s.loop n).mode ≠ 0))

/-- A slice of the mitten has EN 1 and is named by a context with committed EN 1 on a running grid, or a legacy source or the test
converter has EN 1. -/
def mittOther (s : State) (m : Nat) : Bool :=
  (List.range 4).any (fun i =>
    let n := s.pairEven (4 * m + i)
    aEN (s.slice n).app && (setCtxs (s.slice n).app).any s.ctxRuns)
  || bit (s.mitt m).app.a 16 || bit (s.mitt m).app.b 16 || bit (s.mitt m).app.t 24

/-- A recalibration, skew measurement or vibrating-wire sequence runs on the mitten. -/
def mittWaits (s : State) (m : Nat) : Bool :=
  (List.range 4).any (fun i => (s.cal (4 * m + i)).running || vwHolds s (4 * m + i)) || (s.align.run && s.align.measuring.testBit m)

def mittHolders (s : State) (m : Nat) : Holders := ⟨loopOn s m, mittOther s m, mittWaits s m, false⟩

/-- What holds the LANE domain of lane `n`; `run`: in RUN or TRIM. -/
def laneHeld (s : State) (n : Nat) (run : Bool) : Bool :=
  (run && ((decide (n < 2) && (s.ulk n).up) || (decide (2 ≤ n ∧ n < 8) && (List.range 3).any (fun i => decide (satEn_EN s n i ≠ 0)))
      || (laneEth n && decide (ethCfg_EN s (n - 8) = 1)) || (lanePcie n && s.pcie.up && s.pwr.hostL0)))
  || (decide (n < 8) && (decide ((s.ulk n).unacked ≠ []) || decide ((s.ulk n).queue ≠ [])))

/-- The holders of a domain (R416). -/
def holders (s : State) (d : Nat) : Holders :=
  if d = 0 then ⟨false, true, false, false⟩
  else if d ≤ 16 then mittHolders s (d - 1)
  else if d = 17 then
    ⟨anyLoopOn s,
     (List.range 16).any (mittOther s) || s.enabled.any s.ctxRuns || s.strs.any (fun x => x.2.run) || s.units.any (fun x => x.2.armed || x.2.opened.isSome)
       || (List.range 16).any (fun c => decide (tiMode s c ≠ 0)),
     (List.range 16).any (mittWaits s), dmaHolds s 17⟩
  else if d = 18 then ⟨false, decide (s.dram.wait ≠ []) || decide (s.dram.p0 ≠ 0) || s.dram.p1Wait, false, dmaHolds s 18⟩
  else if d ≤ 30 then ⟨false, laneHeld s (d - 19) (decide (s.pwr.state < 2)), false, false⟩
  else if d = 31 then ⟨false, s.pcie.up && s.pwr.hostL0, false, dmaHolds s 31⟩
  else ⟨false, !s.pwr.coreWait && decide ((s.dom 32).st ≠ 4), false, false⟩

/-- PWR_DOM_STAT.HELD. -/
def domHeld (s : State) (d : Nat) : Bool := (holders s d).any

/-! ### States and latencies (R416, R419) -/

/-- Lane `n`'s link layer or MAC is enabled, and the lane itself. -/
def linkOn (s : State) (n : Nat) : Bool :=
  decide (lnCfg_EN s n = 1) && (if n < 8 then decide (ulkCfg_EN s n = 1) else if laneEth n then decide (ethCfg_EN s (n - 8) = 1) else true)

/-- The mittens VIGIL keeps: those of its slices. -/
def vigilMitts (s : State) : List Nat := ((vigilSlices s none).map (· / 4)).eraseDups

/-- The states the automatic choice may use for a domain, shallow to deep (R416, R417, R419). -/
def domAllowed (s : State) (d : Nat) : List Nat :=
  let vigil := decide (s.pwr.state = 2)
  if d = 0 then [0]
  else if d ≤ 16 then (if vigil && !(decide (d - 1 ∈ vigilMitts s)) then [4] else [0, 4])
  else if d = 17 then (if vigil then [1, 2] else [0, 1, 2, 4])
  else if d = 18 then [0, 3]
  else if d ≤ 30 then
    (if vigil then (if linkOn s (d - 19) then [3] else [4]) else if laneEth (d - 19) then [0, 4] else [0, 3, 4])
  else if d = 31 then (if vigil then [3] else [0, 3])
  else if vigil then [2] else [0, 2]

/-- The wake latency from a state to ON, in ns (R416). -/
def wakeLat (d st : Nat) : Nat :=
  if st = 0 ∨ d = 0 then 0
  else if d ≤ 16 then 225000000
  else if d = 17 then (if st = 1 then 2000 else if st = 2 then 1000 else 20000)
  else if d = 18 then 15000
  else if d ≤ 30 then (if st = 3 then 200000 else 1000000)
  else if d = 31 then 32000
  else 1000

/-- The time from the decision to wake until STATE reads ON: a mitten's settling and a lane's relock or bring-up follow it. -/
def upLat (d st : Nat) : Nat := if d ≤ 16 ∨ d = 18 ∨ (19 ≤ d ∧ d ≤ 30) ∨ (d = 32 ∧ st = 4) then 0 else wakeLat d st

/-- NEXT_EVT_d in µs; none where nothing is known (R76). -/
def nextEvt0 (_ : Nat) : Nat := 0xFFFFFFFF
def State.nextEvt (s : State) (d : Nat) : Nat := tget nextEvt0 s.sched.nextEvt d

/-- PWR_DOM_CTL_d.REQ as it acts (R417): 0 ON, 1 AUTO, 2 OFF. -/
def domReq (s : State) (d : Nat) : Nat := if d = 0 then 0 else if pwrDomCtl_REQ s d = 3 then 1 else pwrDomCtl_REQ s d

/-- The state a holder gives a domain (R416, R419): the shallowest allowed; in VIGIL a lane whose link holds frames, and PCIE while the host
holds L0, are ON. -/
def domTop (s : State) (d : Nat) : Nat :=
  if decide (s.pwr.state = 2) && (decide (19 ≤ d ∧ d ≤ 30) && linkOn s (d - 19) || decide (d = 31)) then 0 else (domAllowed s d).headD 0

/-- The state the automatic choice gives a domain now (R417). Until DWELL_US has passed unheld, a state no deeper than allowed stays. -/
def domChoice (s : State) (d : Nat) : Nat :=
  let al := domAllowed s d
  let top := al.headD 0
  let cur := (s.dom d).st
  if domHeld s d then domTop s d
  else
    match (s.dom d).unheld with
    | some t =>
      if t + pwrMargin_DWELL_US s * 1000 ≤ s.clk then
        ((al.filter (fun x => decide (x = top) || decide (wakeLat d x + pwrMargin_MARGIN_US s * 1000 ≤ s.nextEvt d * 1000) || decide (s.nextEvt d = 0xFFFFFFFF))).getLast?).getD top
      else if cur ∈ al ∨ cur < top then cur else top
    | none => top

/-- The state a domain is to take (R417, R418): under ON in RUN it stays ON; under OFF a holder that has appeared wakes it, and it goes down
again once no holder remains; else the automatic choice. -/
def domWant (s : State) (d : Nat) : Nat :=
  if domReq s d = 0 ∧ s.pwr.state = 0 then 0
  else if domReq s d = 2 then (if domHeld s d then domTop s d else if d = 18 then 3 else 4)
  else domChoice s d

/-! ### What a change of a domain's state does -/

/-- A mitten's domain comes up (R113, R435). -/
def mittCome (m : Nat) (s : State) : State := mittUp m (s.setMitt m { s.mitt m with isUp := true })

/-- A mitten's domain counts as off: its excitation and its recalibrations end (R78). -/
def mittGone (m : Nat) (s : State) : State :=
  let s1 := mittDown m (s.setMitt m { s.mitt m with isUp := false })
  (List.range 4).foldl (fun a i => excOffAt (4 * m + i) a.st a) s1

/-- A lane's domain goes to SLEEP or OFF (R350, R416): in OFF the lane forgets the taps it was last UP with. -/
def laneDomDown (n st : Nat) (s : State) : State :=
  if st = 3 then withLane n (laneSleep n) (s.setLane n { s.lane n with pmSleep := true })
  else
    let s1 := withLane n (laneOff n) s
    s1.setLane n { s1.lane n with upTaps := none, pmSleep := false }

/-- A lane's domain is ON again: it wakes, or starts its bring-up where EN is 1 (R337, R351). -/
def laneDomUp (n old : Nat) (s : State) : State :=
  if old = 4 then (if lnCfg_EN s n = 1 then withLane n (laneBringUp n) s else s)
  else withLane n (laneTxWake n) (s.setLane n { s.lane n with pmSleep := false })

/-- A domain's STATE changes; PWR_DOMAIN is raised. -/
def domSet (d st : Nat) (s : State) : State :=
  let x := s.dom d
  let s1 := s.setDom d { x with st := st, waking := none, toSr := false }
  raiseIf (decide (x.st ≠ st)) pPWR 1 s1

/-- A domain other than DRAM goes to a deeper state. -/
def domDown (d st : Nat) (s : State) : State :=
  let s0 := if d = 17 ∨ d = 31 then dmaPwrEnd d (dmaPwrAsk d s) else s
  let s1 := domSet d st s0
  if d ≤ 16 then mittGone (d - 1) s1
  else if d = 17 then (if st = 4 then loopsOff s1 else s1)
  else if d ≤ 30 then laneDomDown (d - 19) st s1
  else if d = 31 then (if st = 4 then pcieDown s1 else s1)
  else if st = 4 then { s1 with mgmt := { s1.mgmt with st := 0, bootEnd := none } } else s1

/-- A domain other than DRAM is ON, or in VIGIL the FENG domain in SLOW. -/
def domUp (d : Nat) (s : State) : State :=
  let old := (s.dom d).st
  let s1 := domSet d (if d = 17 ∧ s.pwr.state = 2 then 1 else 0) s
  if old = 0 then s1
  else if d ≤ 16 then mittCome (d - 1) s1
  else if d = 17 ∨ d = 31 then dmaPwrFree d true s1
  else if d ≤ 30 then laneDomUp (d - 19) old s1
  else if old = 4 then bootStart s1
  else s1

/-- Decide to wake a domain: it serves its blocks after its latency (R416). -/
def domWake (d : Nat) (s : State) : State :=
  let x := s.dom d
  if x.toSr ∧ x.st = 0 then s.setDom d { x with toSr := false }
  else if x.st = 0 ∨ x.waking.isSome then s
  else s.setDom d { x with waking := some (s.clk + upLat d x.st) }

/-- Take a domain to a deeper state: external memory is asked into self-refresh (R318), any other changes at once. -/
def domTo (d st : Nat) (s : State) : State :=
  if d = 18 then dmaPwrEnd 18 (dmaPwrAsk 18 (s.setDom 18 { s.dom 18 with toSr := true, waking := none })) else domDown d st s

/-! ### External memory and the reserve (R291, R318, R423) -/

/-- Put a reserve packet into its stream's region, the sequence numbers as they are (R291). -/
def regionPut (n : Nat) (p : Pkt) (ws : List Word) (s : State) : State :=
  let st := s.str n
  match st.region with
  | none => s
  | some (pg, k) =>
    let cap := k * 4096
    match findPlace cap p.len (st.pkts.filter (staying st)) (st.pkts.length + 1) (st.wrOfs % max cap 1) with
    | none => if p.isRead ∨ p.fmt = 5 then s.setStr n { st with gapNext := true } else rangeEntry n 0x0C p.first p.last (p.count * p.nmem) p.nmem (s.setStr n { st with gapNext := true })
    | some w =>
      let gone := st.pkts.filter (fun q => ringOverlap cap q.ofs q.len w p.len)
      let kept := st.pkts.filter (fun q => !(ringOverlap cap q.ofs q.len w p.len))
      let s1 := gone.foldl (fun t q => overwritten n q t) s
      let s2 := putRing (pg * 4096) cap w ws s1
      s2.setStr n { s2.str n with pkts := kept ++ [{ p with ofs := w, rsv := none }], wrOfs := (w + p.len) % cap }

/-- Copy every stream's reserve packets to its region in PSEQ order, and the ledger area to the ledger partition (R291, R423). -/
def copyReserve (s : State) : State :=
  let s1 := s.store.rsvLedger.foldl (fun t e => ledgerRing e t) { s with store := { s.store with rsvLedger := [] } }
  (s1.strs.map (·.1)).foldl (fun t n =>
    let held := (t.str n).pkts.filter (fun p => p.rsv.isSome)
    if (t.str n).region.isNone then t
    else held.foldl (fun a p => regionPut n p (p.rsv.getD []) a) (t.setStr n { t.str n with pkts := (t.str n).pkts.filter (fun p => p.rsv.isNone) })) s1

/-- Self-refresh is entered on the power manager's request; in panic it waits for the P0 buffer (R315, R318). -/
def srEnter (s : State) : State :=
  if (s.dom 18).toSr ∧ !s.dram.selfref ∧ s.dram.st ≠ 1 then
    let s1 := if s.dram.st = 2 then drSrEnter s else raise pDRAM 6 { s with dram := { s.dram with selfref := true } }
    if s1.dram.selfref then domSet 18 3 s1 else s1
  else s

/-- The power manager wants external memory out of self-refresh: the domain is to wake, a port or the store asks, or the hub wakes. -/
def srExitWanted (s : State) : Bool :=
  (s.dom 18).waking.isSome || decide (s.dram.wait ≠ []) || decide (s.dram.p0 ≠ 0) || s.dram.p1Wait || dmaHolds s 18 || decide (3072 ≤ s.store.rsvLedger.length)
    || (match s.pwr.move with | some m => decide (m.target < 2) | none => false) || (decide (s.pwr.state ≠ 2) && !s.store.rsvRecs.isEmpty)

/-- Self-refresh is left (R318); the reserve is copied where the store asked or the hub is not in VIGIL (R291, R423). -/
def srExit (cs : List Nat) (s : State) : State :=
  if s.dram.selfref ∧ srExitWanted s ∧ s.pwr.state ≠ 3 ∨ s.dram.selfref ∧ s.pwr.move.isSome ∧ srExitWanted s then
    let s1 := dmaPwrFree 18 true (domSet 18 0 (drSrExit cs { s with dram := { s.dram with p1Wait := false } }))
    if memOpen s1 ∧ (s1.pwr.state ≠ 2 ∨ 3072 ≤ s1.store.rsvLedger.length) then copyReserve s1 else s1
  else s

/-! ### Requests by REQ (R417, R418) -/

/-- A request to take a domain down is refused (R418): the domain stays up, and the channels it had paused run on. -/
def pwrDenied (d : Nat) (s : State) : State :=
  raise pPWR 2 (dmaPwrFree d false (s.setDom d { s.dom d with waiting := none }))

/-- REQ is written: ON and AUTO take effect at the next choice, OFF acts, waits or is refused (R418). -/
def domCtl (d : Nat) (v : Word) (s : State) : State :=
  let r := fld v 1 0
  if d = 0 then s
  else if r ≠ 2 then
    let s1 := s.setRw (pwrDomCtlAt d) (place 1 0 r)
    if (s.dom d).waiting.isSome then dmaPwrFree d false (s1.setDom d { s1.dom d with waiting := none }) else s1
  else if s.pwr.state = 4 ∨ (s.dom d).waiting.isSome then s
  else
    let h := holders s d
    if h.loop || h.other then pwrDenied d s
    else if h.any then
      let s1 := raise pPWR 5 (s.setDom d { s.dom d with waiting := some (s.clk, 2) })
      if h.dma then dmaPwrAsk d s1 else s1
    else
      let s1 := s.setRw (pwrDomCtlAt d) 2
      if (s.dom d).st = 4 ∨ (d = 18 ∧ (s.dom d).st = 3) then s1 else domTo d 4 s1

/-- A waiting request acts once no holder remains, and is refused when a holder of another kind has appeared. -/
def domWaited (d : Nat) (s : State) : State :=
  match (s.dom d).waiting with
  | none => s
  | some _ =>
    let h := holders s d
    if h.loop || h.other then pwrDenied d s
    else if h.any then s
    else domTo d 4 ((s.setDom d { s.dom d with waiting := none }).setRw (pwrDomCtlAt d) 2)

/-- The power manager re-makes its choice for one domain (R417). -/
def domRemake (d : Nat) (s0 : State) : State :=
  let s := domWaited d s0
  let h := domHeld s d
  let s1 := s.setDom d { s.dom d with unheld := if h then none else some ((s.dom d).unheld.getD s.clk) }
  let cur := (s1.dom d).st
  if s1.pwr.state = 3 ∨ s1.pwr.state = 4 ∨ d = 0 then s1
  else
    let want := domWant s1 d
    let s2 := if want < cur ∨ (want = 0 ∧ (s1.dom d).toSr) then domWake d s1 else if cur < want then domTo d want s1 else s1
    if 1 ≤ d ∧ d ≤ 16 ∧ (s2.dom d).st = 0 ∧ 12 ≤ s2.boot.step ∧ !(s2.mitt (d - 1)).isUp ∧ !s2.supply.avddLow then mittCome (d - 1) s2 else s2

/-- The channels of the block mover that an abandoned request had paused run on (R331, R424). -/
def dmaUnask (s : State) : State :=
  [17, 18, 31].foldl (fun a d =>
    if a.dma.reqs.any (fun r => decide (r.dom = d)) && (a.dom d).waiting.isNone && a.pwr.move.isNone then dmaPwrFree d false a else a) s

/-- Every microsecond the power manager re-makes each domain's choice, with the core's and the host's present wants (R417). -/
def pwrChoose (coreWait hostL0 : Bool) (s : State) : State :=
  (List.range 33).foldl (fun a d => domRemake d a) (dmaUnask { s with pwr := { s.pwr with coreWait := coreWait, hostL0 := hostL0 } })

/-- A waking domain's latency has passed (R416). -/
def domArrive (d : Nat) (s : State) : State :=
  match (s.dom d).waking with
  | some t => if t ≤ s.clk ∧ d ≠ 18 then domUp d s else s
  | none => s

/-! ### Hub states (R419 to R427) -/

/-- A request for a hub state is refused (R420). -/
def pwrRej (r : Nat) (s : State) : State := raise pPWR 3 { s with pwr := { s.pwr with rej := r } }

/-- The mittens a move takes down. -/
def goneMitts (s : State) (t : Nat) : List Nat := (List.range 16).filter (fun m => decide (t = 3) || !(decide (m ∈ vigilMitts s)))

/-- What a move into VIGIL or DORMANT must wait for (R418): sequences on the mittens it takes down, channels of the block mover, and in
panic the P0 buffer. -/
def moveWaits (s : State) (t : Nat) : Bool :=
  (goneMitts s t).any (mittWaits s) || dmaHolds s 18 || (decide (t = 3) && dmaHolds s 17) || (s.dram.panic && decide (s.dram.p0 ≠ 0))

/-- Another holder refuses a move (R418). -/
def moveBarred (s : State) (t : Nat) : Bool :=
  (!s.dram.panic && (decide (s.dram.wait ≠ []) || decide (s.dram.p0 ≠ 0) || s.dram.p1Wait)) || (decide (t = 3) && (List.range 12).any (fun n => laneHeld s n false))

/-- Why VIGIL or DORMANT is refused at the request, if it is (R420, R421, R425). -/
def moveRej (s : State) (t : Nat) : Option Nat :=
  let runs := s.enabled.filter s.ctxRuns
  if s.pwr.move.isSome then some 1
  else if (if t = 2 then runs.any (fun c => !(vigilCtx s (s.ctx c).desc)) else decide (runs ≠ [])) then some 2
  else if decide (t = 2) && !(slicesFit (vigilSlices s none)) then some 3
  else if anyLoopOn s then some 4
  else if t = 2 ∧ s.fengLimitU < 8 * s.fengLoad then some 5
  else if t = 3 ∧ (s.strs.any (fun x => x.2.run) ∨ s.units.any (fun x => x.2.armed || x.2.opened.isSome) ∨ (List.range 16).any (fun c => decide (tiMode s c ≠ 0))) then some 6
  else none

/-- A move is refused by a domain (R418, R420). -/
def moveDeny (s : State) : State :=
  pwrRej 9 (raise pPWR 2 (dmaPwrFree 17 false (dmaPwrFree 18 false { s with pwr := { s.pwr with move := none } })))

/-- Begin a move into VIGIL or DORMANT. -/
def moveBegin (t : Nat) (s : State) : State :=
  let s1 := { s with pwr := { s.pwr with move := some ⟨t, s.pwr.state, s.clk⟩ } }
  if moveBarred s1 t then moveDeny s1
  else if moveWaits s1 t then
    let s2 := raise pPWR 5 s1
    let s3 := if dmaHolds s2 18 then dmaPwrAsk 18 s2 else s2
    if t = 3 ∧ dmaHolds s3 17 then dmaPwrAsk 17 s3 else s3
  else s1

/-- PWR_CMD for a hub state (R420): RUN and TRIM change at once; from VIGIL or DORMANT they are a wake (R424). -/
def pwrCmd (t : Nat) (s : State) : State :=
  if s.pwr.state = 4 then pwrRej 7 s
  else if t < 2 then
    if s.pwr.move.isSome then pwrRej 1 s
    else if 2 ≤ s.pwr.state then wakeHub s
    else if s.pwr.state = t then s
    else raise pPWR 0 { s with pwr := { s.pwr with state := t } }
  else if s.pwr.state = t ∧ s.pwr.move.isNone then s
  else
    match moveRej s t with
    | some r => pwrRej r s
    | none => moveBegin t s

/-- External memory goes to self-refresh within a move. -/
def moveSr (s : State) : State := srEnter (s.setDom 18 { s.dom 18 with toSr := true, waking := none })

/-- The move into VIGIL takes its steps (R421). -/
def enterVigil (s : State) : State :=
  let gone := goneMitts s 2
  let c := closeAll s
  let s0 := { c with pwr := { c.pwr with state := 2, move := none } }
  let s1 := gone.foldl (fun a m => if (a.dom (1 + m)).st = 4 then a else domDown (1 + m) 4 (a.setMitt m { a.mitt m with app := {} })) s0
  let s2 := moveSr (if (s1.dom 17).st = 1 then s1 else domDown 17 1 s1)
  let s3 := (List.range 12).foldl (fun a n => let t := if linkOn a n then 3 else 4; if t ≤ (a.dom (19 + n)).st then a else domDown (19 + n) t a) s2
  let s4 := if s3.pcie.up && s3.pwr.hostL0 || decide (3 ≤ (s3.dom 31).st) then s3 else domDown 31 3 s3
  let s5 := if 2 ≤ (s4.dom 32).st then s4 else domDown 32 2 s4
  raise pPWR 0 s5

/-- In DORMANT the SRAM keeps only the context descriptors, the coefficient store, the schedule table and the loop tables (R21, R425). -/
def sramLose (s : State) : State :=
  { s with sram := s.sram.filter (fun x => decide ((tblBase ≤ x.1 ∧ x.1 < tblBase + 0x50000) ∨ (tblBase + 0x54000 ≤ x.1 ∧ x.1 < tblBase + 0x58000))) }

/-- The move into DORMANT takes its steps (R425).
DESIGN CHOICE (log entry 113): the packets, ledger entries and records held in the SRAM reserve are kept through DORMANT, and copied when external
memory opens on the wake: R21 lets other SRAM lose its contents and R291 copies the reserve on leaving VIGIL, and neither names the
move from VIGIL to DORMANT. -/
def enterDormant (s : State) : State :=
  let s0 := moveSr s
  let ds := (List.range 17).drop 1 ++ [17] ++ (List.range 12).map (19 + ·) ++ [31, 32]
  let s1 := ds.foldl (fun a d => if (a.dom d).st = 4 then a else domDown d 4 a) s0
  raise pPWR 0 (sramLose { s1 with pwr := { s1.pwr with state := 3, move := none } })

/-- A wake completes (R424, R426): from VIGIL every domain returns and the reserve is copied; from DORMANT the core boots, then the others
come up as R426 orders them. -/
def leaveTo (m : PwrMove) (s : State) : State :=
  let c := if s.pwr.state = 2 then closeAll s else s
  let s0 := { c with pwr := { c.pwr with state := m.target, move := none } }
  let up (a : State) (d : Nat) : State := if (a.dom d).st = 0 then a else domUp d a
  let s1 := [32, 17, 31].foldl up s0
  let s2 := (List.range 12).foldl (fun a n => if (a.dom (19 + n)).st = 3 ∨ lnCfg_EN a n = 1 then up a (19 + n) else a) s1
  let s3 := if s.pwr.state = 2 ∧ memOpen s2 then copyReserve s2 else s2
  raise pPWR 0 s3

/-- A move between hub states completes, once what it waits for has ended (R420, R424). -/
def moveDone (s : State) : State :=
  match s.pwr.move with
  | none => s
  | some m =>
    if m.target < 2 then
      if m.began + (if m.old = 3 then 20000 else 2000) ≤ s.clk ∧ !(s.dram.st = 2 ∧ s.dram.selfref) then leaveTo m s else s
    else if moveBarred s m.target then moveDeny s
    else if moveWaits s m.target then s
    else if m.target = 2 then enterVigil s
    else enterDormant s

/-- A request has waited PWR_WAIT.MS (R418). -/
def pwrWaitEnd (d : Nat) (s : State) : State :=
  let lim := pwrWait_MS s * 1000000
  match (s.dom d).waiting with
  | some (t, _) => if t + lim ≤ s.clk then pwrDenied d s else s
  | none =>
    match s.pwr.move with
    | some m => if 2 ≤ m.target ∧ moveWaits s m.target ∧ m.began + lim ≤ s.clk then moveDeny s else s
    | none => s

/-- 100 µs after a power request a channel is still not paused (R331, R418). -/
def pwrDeniedBusy (d : Nat) (s : State) : State :=
  match s.dma.reqs.find? (fun r => decide (r.dom = d)) with
  | some r =>
    if r.at_ + 100000 ≤ s.clk ∧ dmaHolds s d then
      (if (s.dom d).waiting.isSome then pwrDenied d s else if s.pwr.move.isSome then moveDeny s else pwrDenied d s)
    else s
  | none => s

/-- A PWR_HINT for a domain (R68, R76, R424). -/
def pwrHint (d : Nat) (need : Bool) (s : State) : State :=
  let hints := s.pwr.hintOff.filter (fun x => decide (x ≠ d))
  let s1 := { s with pwr := { s.pwr with hintOff := if need then hints else hints ++ [d] } }
  if !need then s1
  else if pwrCfg_HINT_WAKE s = 1 ∧ (s.pwr.state = 3 ∨ (s.pwr.state = 2 ∧ !(0 ∈ domAllowed s d))) then wakeHub s1
  else if 2 ≤ s.pwr.state ∧ !(0 ∈ domAllowed s d) ∨ 3 ≤ s.pwr.state ∨ domReq s d = 2 then s1
  else domWake d (s1.setDom d { s1.dom d with unheld := some s.clk })

/-- Entering SAFE (R427): a move is abandoned, the choice ends, and PCIE, MGMT, DRAM and the lanes with EN 1 are brought ON. -/
def pwrSafe (s : State) : State :=
  let waits := (List.range 33).filter (fun d => (s.dom d).waiting.isSome)
  let s0 := waits.foldl (fun a d => dmaPwrFree d false (a.setDom d { a.dom d with waiting := none })) s
  let s1 := dmaUnask { s0 with pwr := { s0.pwr with state := 4, move := none } }
  let s2 := [31, 32, 18].foldl (fun a d => domWake d a) s1
  (List.range 12).foldl (fun a n => if lnCfg_EN a n = 1 ∧ (a.dom (19 + n)).st ≠ 0 then domUp (19 + n) a else a) s2

end Sys2Proof.Machine
end

