-- ==== Sys2Proof/Machine/Sched.lean ====
section
/-! DEFINITION. The schedule engine (R67 to R76): the execution of an entry, order and lateness, SCHED_CTL, and NEXT_EVT. -/

namespace Sys2Proof.Machine

/-! ### Objects and order (R72) -/

/-- An entry's action kind, by which entries of one object and instant are ordered (R68, R72). -/
def actKind (a : Nat) : Nat :=
  if a = 0 then 0 else if a = 1 then 1 else if a ≤ 5 then 2 else if a = 6 then 3 else if a = 7 then 4 else if a ≤ 0xB then 5
  else if a = 0xC then 6 else if a = 0xD then 7 else 8

/-- The class of object an entry acts on: 0 slice, 1 loop, 2 grid, 3 trigger unit, 4 TIU channel, 5 domain, 6 event line. -/
def objClass (w : SchWords) : Nat :=
  let a := schACTION w
  if a = 1 then (if schARG w % 2 = 1 then 1 else 0) else if a ≤ 7 then 0 else if a ≤ 9 then 2 else if a ≤ 0xB then 3 else if a = 0xC then 4
  else if a = 0xD then 5 else 6

def sameObj (a b : SchWords) : Bool := decide (objClass a = objClass b) && (decide (schTARGET a = schTARGET b) || decide (objClass a = 0 ∧ (schTARGET a = 0xFFF ∨ schTARGET b = 0xFFF)))

/-- The targets an action takes (R68). -/
def targetBad (w : SchWords) : Bool :=
  let a := schACTION w
  let t := schTARGET w
  if a = 7 then decide (64 ≤ t ∧ t ≠ 0xFFF)
  else
    match objClass w with
    | 0 => decide (64 ≤ t)
    | 1 => decide (16 ≤ t)
    | 2 => decide (64 ≤ t)
    | 3 => decide (32 ≤ t)
    | 4 => decide (16 ≤ t)
    | 5 => decide (33 ≤ t)
    | _ => decide (16 ≤ t)

/-- An entry that is bad at its instant (R68), or whose stored words are uncorrectable (R413). -/
def entBad (s : State) (n : Nat) (w : SchWords) : Bool :=
  decide (schACTION w = 0xF) || schNoRecur w || targetBad w || tblBad s (0x40000 + 16 * n) 16
    || (decide (schACTION w = 6) && !((schARG w).testBit 3) && decide (aNSLOT (s.slice (s.pairEven (schTARGET w))).app < schARG w % 8))

/-- An entry has fallen due (R69). -/
def entDue (s : State) (e : SchEnt) : Bool :=
  if schAXIS e.content = 0 then decide (e.next ≤ (s.st : Int)) else e.dueAt.isSome

/-- The instant of an entry that has fallen due: its position in ST, or that of the interpolation step. -/
def entInst (e : SchEnt) : Nat := if schAXIS e.content = 0 then e.next.toNat else e.dueAt.getD 0

/-- Entry `m` comes before entry `n` where both are due on one object (R72): by instant (to the 2 ns of a slot), then kind, then number. -/
def entFirst (m : Nat) (a : SchEnt) (n : Nat) (b : SchEnt) : Bool :=
  let ta := entInst a / (2 * nsU)
  let tb := entInst b / (2 * nsU)
  decide (ta < tb) || (decide (ta = tb) &&
    (decide (actKind (schACTION a.content) < actKind (schACTION b.content)) || (decide (actKind (schACTION a.content) = actKind (schACTION b.content)) && decide (m < n))))

/-- Another due entry of the same object executes first. -/
def entBlocked (s : State) (n : Nat) (e : SchEnt) : Bool :=
  s.sched.ents.any (fun x => match x.2 with
    | some f => decide (x.1 ≠ n) && sameObj f.content e.content && entDue s f && entFirst x.1 f n e
    | none => false)

/-- The domain an entry's object needs ON to act on it (R418, R75). -/
def objDomain (w : SchWords) : Nat :=
  match objClass w with
  | 0 => if schTARGET w < 64 then 1 + schTARGET w / 4 else 17
  | 1 => 17
  | 4 => 17
  | _ => 0

/-- The object's domain is not ON, nor SLOW. -/
def objDown (s : State) (w : SchWords) : Bool := decide (2 ≤ (s.dom (objDomain w)).st)

/-! ### Execution (R68 to R71) -/

/-- What an entry's action does at the instant `t`; while a vibrating-wire sequence drives or listens, the excitation entries of its
slice are ignored with SL_EXC_BLOCKED (R196). -/
def entAct (w : SchWords) (t : Nat) (s : State) : State :=
  let g := schTARGET w
  let a := schARG w
  match schACTION w with
  | 1 => raise pSCHED 4 (if a % 2 = 1 then loopSafety g s else sliceSafety g t s)
  | 2 => if vwHolds s g then excBlocked g s else excOn g t (decide (a % 2 = 1)) s
  | 3 => if vwHolds s g then excBlocked g s else excOffEntry g t s
  | 4 => if vwHolds s g then excBlocked g s else excRev g t s
  | 5 => vwPluck g s
  | 6 => muxStep g (if a.testBit 3 then nextSlot (s.slice g).app (s.slice g).slot else a % 8) t s
  | 7 => calGap (fun n => decide (g = 0xFFF ∨ n = g)) (t + a * msU) s
  | 8 => gridStart g t t s
  | 9 => gridStop g t s
  | 10 => forceUnit g t 0x10 s
  | 11 => stopUnit g t s
  | 12 => tiGate g t (decide (a % 2 = 1)) s
  | 13 => pwrHint g (decide (a % 2 = 1)) s
  | 14 => raise pSCHED 3 (meetKind 7 g t (tiuEdge (0x20 + g) (t / tsU) s))
  | _ => s

/-- After an instant: the newer content takes over, a one-shot is SPENT, a repeat moves on (R13, R71). -/
def entNext (n : Nat) (e : SchEnt) (s : State) : State :=
  let p := schPeriod e.content
  let e1 := { e with next := e.next + p, late := false, dueAt := none, lead := none }
  match e.renew with
  | some lim =>
    let old := if schAXIS e.content = 0 then decide (e.next + p < (lim : Int)) else decide (s.st < lim)
    if p ≠ 0 ∧ old then s.setEnt n (some { e1 with had := true }) else schRenew n lim s
  | none => if p = 0 then schSpend n s else s.setEnt n (some e1)

/-- The executions of the last microsecond of ST (R70). -/
def entRecent (s : State) : List Nat := s.sched.ran.filter (fun t => decide (s.st < t + usU))

/-- Note an execution at the present instant (R70). -/
def entCount (s : State) : State := { s with sched := { s.sched with ran := s.st :: entRecent s } }

/-- A late entry is counted and recorded (R70, R418). -/
def entLate (n : Nat) (s : State) : State := schNote n 1 { s with sched := { s.sched with lateCnt := satInc 16 s.sched.lateCnt } }

/-- Entry `n`, whose action is `act`, executes once it is due and every earlier entry of its object has (R68 to R74, R418). -/
def schedRow (act n : Nat) (s : State) : State :=
  match s.ent n with
  | none => s
  | some e =>
    if schACTION e.content ≠ act ∨ s.pwr.state = 4 ∨ !(entDue s e) then s
    else if schedCtl_RUN s = 0 then (if schPeriod e.content = 0 then schNote n 0 (schSpend n s) else s)
    else if 128 ≤ (entRecent s).length then s.setEnt n (some { e with late := true })
    else if entBlocked s n e then s
    else if entBad s n e.content then entNext n e (schNote n 5 (entCount s))
    else if objDown s e.content then
      let s1 := s.setEnt n (some { e with late := true })
      if domReq s (objDomain e.content) = 2 ∨ 3 ≤ s.pwr.state ∨ (domAllowed s (objDomain e.content)).all (fun x => decide (2 ≤ x)) then s1
      else domWake (objDomain e.content) s1
    else
      let s1 := entCount s
      let s2 := if e.late then entLate n s1 else s1
      let t := if e.late then s.st else entInst e
      entNext n e (entAct e.content t s2)

/-- At each timebase edge: entries with the reserved action never execute and are reported at their instants (R68); while RUN is 0 a one-shot whose
instant comes is missed (R74). -/
def schedReserved (s : State) : State :=
  s.sched.ents.foldl (fun a x => match x.2 with
    | some e => if schACTION e.content = 0xF ∨ schedCtl_RUN a = 0 then schedRow (schACTION e.content) x.1 a else a
    | none => a) s

/-- SCHED_CTL (R74): the write clears LATE_CNT whatever it changes; on a rise of RUN passed one-shots are SPENT and repeats resume. -/
def schedCtlWrite (src : Nat) (v : Word) (s : State) : State :=
  let was := schedCtl_RUN s
  let s1 := storeReg src schedCtlAt v { s with sched := { s.sched with lateCnt := 0 } }
  if was = 0 ∧ schedCtl_RUN s1 = 1 then
    s1.sched.ents.foldl (fun a x => match x.2 with
      | some e =>
        if schPeriod e.content = 0 then (if entDue a e then schNote x.1 0 (schSpend x.1 a) else a)
        else if schAXIS e.content ≠ 0 ∨ e.next < ((a.st + usU : Nat) : Int) then schArm x.1 ((a.st + usU : Nat) : Int) 0 a else a
      | none => a) s1
  else s1

/-! ### NEXT_EVT (R76) -/

/-- Microseconds of ST until an instant. -/
def usTo (s : State) (t : Int) : Nat := ((t - s.st).toNat) / usU

/-- Microseconds until an angle axis reaches a position at AX_MAX_SPEED from its current position; 0 where that is 0. -/
def usToAngle (s : State) (axis : Nat) (p : Int) : Nat :=
  let v := axMaxSpeed_VMAX s (axis - 1)
  if v = 0 then 0 else ((p * 2 ^ 16 - (s.axis (axis - 1)).pos).toNat * 1000000) / (v * 2 ^ 32)

/-- An entry acts on an object in domain `d` (R75). -/
def entDomain (w : SchWords) (d : Nat) : Bool :=
  if schACTION w = 13 then decide (schTARGET w = d) && decide (schARG w % 2 = 1)
  else if schACTION w = 7 ∧ schTARGET w = 0xFFF then decide (1 ≤ d ∧ d ≤ 16)
  else match objClass w with
    | 0 => decide (d = 1 + schTARGET w / 4)
    | 1 => decide (d = 17)
    | 4 => decide (d = 17)
    | _ => decide (d = 0)

/-- The domains by which a context's data comes, from the slice, channel or context it reads (R75). -/
def sourcePages (s : State) (c : Nat) : List Nat :=
  let x := (s.ctx c).desc
  if dKIND x = 2 then pathPages s (dSOURCE x) (s.ctx (dSOURCE x)).desc else pathPages s c x

/-- The domain of the port by which a running stream's consumer reads it (R277). -/
def consumerDomain (x : StrDesc) : Option Nat :=
  if x.consumer = 1 then some (19 + x.dest) else if x.consumer = 2 then some (27 + x.dest) else if x.consumer = 3 then some 31 else none

/-- A context uses domain `d` in its data path: from its source, and on to memory and the consumers of its streams (R76). -/
def ctxDomain (s : State) (c d : Nat) : Bool :=
  let x := (s.ctx c).desc
  decide (d = 17) || (sourcePages s c).any (fun p => decide (pageDomain p = d))
    || (decide (d = 18) && (dSTREN x || dSTR2EN x))
    || (streamsOf x).any (fun n => (s.str n).run && decide (consumerDomain (s.str n).desc = some d))

/-- Microseconds to domain `d`'s next known event, if one is known. -/
def evtUs (s : State) (d : Nat) : Option Nat :=
  let es := s.sched.ents.filterMap (fun x => match x.2 with
    | some e => if entDomain e.content d then some (if schAXIS e.content = 0 then usTo s e.next else usToAngle s (schAXIS e.content) e.next) else none
    | none => none)
  let gs := s.grids.filterMap (fun x =>
    if x.2.run && s.enabled.any (fun c => decide (dGRID (s.ctx c).desc = x.1) && ctxDomain s c d) then
      some (if x.2.axis = 0 then usTo s ((x.2.origin + (x.2.next * x.2.period : Nat)) * 2 ^ 16) else usToAngle s x.2.axis (x.2.origin + (x.2.next * x.2.period : Nat)))
    else none)
  (es ++ gs).min?

/-- Every microsecond NEXT_EVT_d is recomputed (R76). -/
def nextEvtUpdate (s : State) : State :=
  if s.sched.nextClk + 1000 ≤ s.clk then
    { s with sched := { s.sched with
      nextEvt := (List.range 33).foldl (fun t d => match evtUs s d with | some u => tset nextEvt0 t d (min u 0xFFFFFFFE) | none => tset nextEvt0 t d 0xFFFFFFFF) s.sched.nextEvt
      nextClk := s.clk } }
  else s

end Sys2Proof.Machine
end

