-- ==== Sys2Proof/Machine/Sign.lean ====
section
/-! DEFINITION. The signature of a quote (R445): ECDSA over P-384 with SHA-384 (FIPS 186-5), its nonce as RFC 6979 gives, the chip's private
key and its public key. The curve's constants are the standard's, which the spec names and does not print (PRESUMED, log entry 121). -/

namespace Sys2Proof.Machine

/-! ### The curve y² = x³ − 3x + b over the field of p elements, its base point and the order of it -/

def p384 : Nat := 2 ^ 384 - 2 ^ 128 - 2 ^ 96 + 2 ^ 32 - 1
def n384 : Nat := 0xFFFFFFFFFFFFFFFFFFFFFFFFFFFFFFFFFFFFFFFFFFFFFFFFC7634D81F4372DDF581A0DB248B0A77AECEC196ACCC52973
def g384 : Nat × Nat :=
  (0xAA87CA22BE8B05378EB1C71EF320AD746E1D3B628BA79B9859F741E082542A385502F25DBF55296C3A545E3872760AB7,
   0x3617DE4A96262C6F5D9E98BF9292DC29F8F41DBD289A147CE9DA3113B5F0B8C00A60B1CE1D7E819D7A431D7C90EA0E5F)

/-- A power modulo `m`, over the `k` low bits of the exponent. -/
def powMod (m : Nat) : Nat → Nat → Nat → Nat
  | 0, _, _ => 1
  | k + 1, b, e => let r := powMod m k (b * b % m) (e / 2); if e % 2 = 1 then b * r % m else r

/-- The inverse modulo a prime of 384 bits. -/
def invMod (m a : Nat) : Nat := powMod m 384 (a % m) (m - 2)

/-- Subtraction modulo `p384` of reduced numbers. -/
def subP (a b : Nat) : Nat := (a + (p384 - b % p384)) % p384

/-- The third point of a line of slope `l` through two points, reflected. -/
def chord (l : Nat) (p q : Nat × Nat) : Nat × Nat :=
  let x := subP (subP (l * l) p.1) q.1
  (x, subP (l * subP p.1 x) p.2)

/-- Addition on the curve; `none` is the point at infinity. -/
def addPt : Option (Nat × Nat) → Option (Nat × Nat) → Option (Nat × Nat)
  | none, q => q
  | p, none => p
  | some p, some q =>
    if p.1 = q.1 then
      if (p.2 + q.2) % p384 = 0 then none
      else some (chord (subP (3 * (p.1 * p.1)) 3 * invMod p384 (2 * p.2) % p384) p q)
    else some (chord (subP q.2 p.2 * invMod p384 (subP q.1 p.1) % p384) p q)

/-- A multiple of a point, over the `k` low bits of the factor. -/
def mulPt : Nat → Nat → Option (Nat × Nat) → Option (Nat × Nat)
  | 0, _, _ => none
  | k + 1, e, p => let r := mulPt k (e / 2) (addPt p p); if e % 2 = 1 then addPt p r else r

/-- A multiple of the base point. -/
def mulG (e : Nat) : Option (Nat × Nat) := mulPt 384 e (some g384)

/-! ### The key -/

/-- The string R445 names. -/
def quoteLabel : List Nat := [0x5A, 0x48, 0x31, 0x30, 0x32, 0x34, 0x20, 0x71, 0x75, 0x6F, 0x74, 0x65, 0x20, 0x76, 0x31]

/-- The private key of a device secret (R445). -/
def privKey (secret : List Nat) : Nat := 1 + bigNat (hmac384 secret quoteLabel) % (n384 - 1)

/-- The 32 bytes of K_dev, of which the spec gives no number. -/
def kDev : List Nat := (List.range 32).map (fun i => (Config.kDev i).toNat)

/-- The words of a byte string, byte `j` in word `j / 4` from its lowest byte on (R443). -/
def leWords : List Nat → List Word
  | a :: b :: c :: d :: t => word (a + 2 ^ 8 * b + 2 ^ 16 * c + 2 ^ 24 * d) :: leWords t
  | _ => []

/-- ATT_PUB_X and then ATT_PUB_Y: the public key's two numbers as big-endian byte strings (R445). -/
def pubWords (secret : List Nat) : List Word :=
  let q := (mulG (privKey secret)).getD (0, 0)
  leWords (bigBytes 48 q.1 ++ bigBytes 48 q.2)

/-! ### The signature -/

/-- The pair (r, s) for a digest, a key and a nonce; none where the nonce does not serve. -/
def signWith (d h k : Nat) : Option (Nat × Nat) :=
  if k = 0 ∨ n384 ≤ k then none
  else
    let r := ((mulG k).getD (0, 0)).1 % n384
    let s := invMod n384 k * (h + r * d) % n384
    if r = 0 ∨ s = 0 then none else some (r, s)

/-- The nonces RFC 6979 draws in turn from its key and value, until one serves. The search is cut at a number of draws no run reaches: one draw
fails with a chance under 2^-190. -/
def drawSign : Nat → Nat → Nat → List Nat → List Nat → Nat × Nat
  | 0, _, _, _, _ => (0, 0)
  | m + 1, d, h, key, v0 =>
    let v := hmac384 key v0
    match signWith d h (bigNat v) with
    | some q => q
    | none =>
      let key1 := hmac384 key (v ++ [0])
      drawSign m d h key1 (hmac384 key1 v)

/-- The signature of a digest under a private key (FIPS 186-5, RFC 6979). -/
def ecdsa384 (d : Nat) (dig : BitVec 384) : Nat × Nat :=
  let seed := bigBytes 48 d ++ bigBytes 48 (dig.toNat % n384)
  let v0 := List.replicate 48 1
  let k1 := hmac384 (List.replicate 48 0) (v0 ++ 0 :: seed)
  let v1 := hmac384 k1 v0
  let k2 := hmac384 k1 (v1 ++ 1 :: seed)
  drawSign 64 d dig.toNat k2 (hmac384 k2 v1)

/-- SIG_R and SIG_S of a quote as bytes, each 48, big-endian (R443, R445). -/
def quoteSign (bs : List Nat) : List Nat :=
  let q := ecdsa384 (privKey kDev) (sha384 bs)
  bigBytes 48 q.1 ++ bigBytes 48 q.2

end Sys2Proof.Machine
end

