-- ==== Sys2Proof/Machine/Tmr.lean ====
section
/-! DEFINITION. Voting and spare rotation (R401 to R408), SAFE (R409), the two PLLs (R411, R412) and the on-chip memory's scrubber
(R413). -/

namespace Sys2Proof.Machine

/-! ### Copies and LEVEL (R401, R407) -/

def State.copy (s : State) (i : Nat) : CopySt := s.tmr.copies.getD i {}
def State.setCopy (s : State) (i : Nat) (c : CopySt) : State := { s with tmr := { s.tmr with copies := s.tmr.copies.set i c } }

/-- The copies in a state, lowest letter first. -/
def copiesIn (s : State) (st : Nat) : List Nat := (List.range 4).filter (fun i => decide ((s.copy i).st = st))

/-- LEVEL by the first row of R407's table that matches. -/
def levelNow (s : State) : Nat :=
  let r := (copiesIn s 5).length
  if s.pwr.state = 4 then 3 else if 2 ≤ r then 2 else if r = 1 ∨ !s.tmr.pllA ∨ !s.tmr.pllB then 1 else 0

/-- LEVEL follows; each change raises TMR_LEVEL (R407). -/
def levelSync (s : State) : State :=
  if levelNow s = s.tmr.level then s
  else raise pTMR 2 { s with tmr := { s.tmr with level := levelNow s, levelAt := s.st } }

/-- ROT_S with its bounds. -/
def rotS (s : State) : Nat := max 1 (min 600 (tmrCfg_ROT_S s))

/-! ### SAFE (R408, R409, R427) -/

/-- The hub enters SAFE (R409): excitation off and locked out, loops in HOLD at their safe codes, every armed unit disarmed; the
schedule, the trigger points and the outputs follow the hub state. -/
def enterSafe (s : State) : State :=
  if s.pwr.state = 4 then s
  else
    let s1 := pwrSafe s
    let s2 := (List.range 64).foldl (fun a n => sliceSafety n a.st a) s1
    let s3 := (List.range 16).foldl (fun a n =>
      let b := if (a.loop n).req.isSome then loopRej n 4 a else a
      if (b.loop n).mode = 0 then b else enterHold n true b) s2
    let s4 := (s3.units.map (·.1)).foldl (fun a u => disarmUnit u a) s3
    levelSync s4

/-! ### Loading, probation, recovery (R403 to R407) -/

/-- A copy is chosen to be loaded, from 2 ns on (R403, R405). -/
def copyLoad (i : Nat) (recovery : Bool) (s : State) : State :=
  (s.setCopy i { s.copy i with since := s.clk, bad := false }) |> fun t => { t with tmr := { t.tmr with load := some (i, recovery) } }

/-- With fewer than three copies seated and none being loaded, a SPARE copy is loaded, else one whose routine self-test stops for it
(R405, R407). -/
def copyRecover (s : State) : State :=
  if (copiesIn s 0).length < 3 ∧ s.tmr.load.isNone then
    match copiesIn s 1 with
    | i :: _ => copyLoad i true s
    | [] =>
      match (copiesIn s 4).filter (fun i => !(s.copy i).bad) with
      | i :: _ => copyLoad i true s
      | [] => s
  else s

/-- A failure of copy `i` counts (R406, R407): SELFTEST, or RETIRED at the third. -/
def copyFail (i : Nat) (s : State) : State :=
  let c := s.copy i
  if 3 ≤ c.fail + 1 then levelSync (raise pTMR 1 (s.setCopy i { c with fail := c.fail + 1, st := 5, since := s.clk }))
  else s.setCopy i { c with fail := c.fail + 1, st := 4, since := s.clk, bad := true }

/-- A copy in PROBATION differs once (R404): it is not seated, and a rotation is abandoned. -/
def probationFail (i : Nat) (s : State) : State :=
  copyRecover (copyFail i { s with tmr := { s.tmr with load := none } })

/-- A seated copy is outvoted (R405). -/
def outvote (i : Nat) (s : State) : State :=
  let c := s.copy i
  let s1 := s.setCopy i { c with disagree := satInc 16 c.disagree, faultAt := s.st }
  let s2 := copyFail i (raise pTMR 0 s1)
  match s2.tmr.load with
  | some (j, _) => { s2 with tmr := { s2.tmr with load := some (j, true) } }
  | none => copyRecover s2

/-- A state word held by one seated copy alone is overwritten with the majority value (R402). -/
def scrubCopy (i : Nat) (s : State) : State := s.setCopy i { s.copy i with scrub := satInc 16 (s.copy i).scrub }

/-- The value a majority of the seated copies hold (R401): `v` gives each copy's; with two seated, that on which both agree. -/
def voted (s : State) (v : Nat → Word) : Option Word :=
  let l := copiesIn s 0
  (l.find? (fun i => decide (l.length < 2 * (l.filter (fun j => decide (v j = v i))).length))).map v

/-- One cycle's vote on one output or state word, `v` giving each copy's value (R401, R402, R404, R405, R408): without a majority the hub enters SAFE;
a seated copy that differs is dealt with by `odd`; a copy in PROBATION that differs is not seated. -/
def vote (odd : Nat → State → State) (v : Nat → Word) (s : State) : State :=
  if s.pwr.state = 4 then s
  else
    match voted s v with
    | none => enterSafe s
    | some w =>
      let s1 := ((copiesIn s 3).filter (fun i => decide (v i ≠ w))).foldl (fun a i => probationFail i a) s
      ((copiesIn s 0).filter (fun i => decide (v i ≠ w))).foldl (fun a i => odd i a) s1

/-- A rotation begins (R403, R404): not while no copy is SPARE or one is being loaded. -/
def rotBegin (s : State) : State :=
  match copiesIn s 1 with
  | i :: _ => if s.tmr.load.isNone then copyLoad i false s else s
  | [] => s

/-- A rotation falls due at an instant whose nanoseconds are 0 and whose seconds are a multiple of ROT_S (R403). -/
def rotation (s : State) : State := if s.ns = 0 ∧ s.sec % rotS s = 0 then rotBegin s else s

/-- The seated copy with the earliest SEATED_SEC, a tie going to the lower letter, `j` apart. -/
def longest (s : State) (j : Nat) : Option Nat :=
  ((copiesIn s 0).filter (fun i => decide (i ≠ j))).foldl (fun b i =>
    match b with | none => some i | some k => if secOf (s.copy i).seatedAt < secOf (s.copy k).seatedAt then some i else some k) none

/-- Loading ends 4.098 µs and probation 5.122 µs after its start; the copy is then seated, and after a rotation the longest-seated copy
leaves for its self-test (R403). -/
def copyStep (s : State) : State :=
  match s.tmr.load with
  | none => s
  | some (j, recovery) =>
    let c := s.copy j
    if s.clk < c.since + 2 then s
    else if s.clk < c.since + 5122 then s.setCopy j { c with st := if c.since + 4098 ≤ s.clk then 3 else 2 }
    else
      let s1 := s.setCopy j { c with st := 0, since := s.clk, seatedAt := s.st }
      let s2 := { s1 with tmr := { s1.tmr with load := none } }
      if recovery then copyRecover s2
      else
        match longest s2 j with
        | some i => if 3 < (copiesIn s2 0).length then s2.setCopy i { s2.copy i with st := 4, since := s.clk, bad := false } else s2
        | none => s2

/-- A copy's 200 µs self-test ends (R406): SPARE, or a further failure and the test again after ROT_S. -/
def selfTest (i : Nat) (pass : Bool) (s : State) : State :=
  let c := s.copy i
  if c.st = 4 ∧ c.since + 200000 ≤ s.clk then
    if pass then copyRecover (s.setCopy i { c with st := 1, since := s.clk, tests := satInc 32 c.tests, testAt := s.st, bad := false })
    else
      let s1 := copyFail i s
      if (s1.copy i).st = 4 then s1.setCopy i { s1.copy i with since := c.since + rotS s * 1000000000 } else s1
  else s

/-- TMR_CMD RESTORE (R407): a retired copy's failures clear and it goes to SELFTEST. -/
def copyRestore (i : Nat) (s : State) : State :=
  let c := s.copy i
  if c.st = 5 then levelSync (s.setCopy i { c with st := 4, fail := 0, since := s.clk, bad := true }) else s

/-! ### The PLLs (R411, R412) -/

/-- The clock tree moves to the other PLL. -/
def pllMove (ev : Nat) (s : State) : State :=
  let t := s.tmr
  raise pTMR ev { s with tmr := { t with pllSel := !t.pllSel, pllAt := s.st, failovers := if ev = 3 then satInc 16 t.failovers else t.failovers, returns := if ev = 4 then satInc 16 t.returns else t.returns } }

/-- A PLL has failed (R411): its lock indicator has fallen, or its phase lay more than 200 ps from the reference on the last 4 edges. -/
def pllBad (lock : Bool) (edges : List Int) : Bool :=
  !lock || (decide (4 ≤ edges.length) && (edges.reverse.take 4).all (fun p => decide (200 < p.natAbs)))

/-- A PLL's comparison with XO_IN (R411, R412): `b` names PLL_B, `lock` its lock indicator, `edges` its phase in ps on consecutive reference edges, the
latest last, `ps` PLL_B's phase against PLL_A. PLL_A is clean while every edge lies within 50 ps. -/
def pllFail (b lock : Bool) (edges : List Int) (ps : Int) (s : State) : State :=
  let bad := pllBad lock edges
  let t := { s.tmr with pllPhase := unsgn 16 ps }
  let clean := lock && edges.all (fun p => decide (p.natAbs ≤ 50))
  let t1 : TmrSt := if b then { t with pllB := !bad } else { t with pllA := !bad, cleanSince := if clean then some (t.cleanSince.getD s.clk) else none }
  let s1 := { s with tmr := t1 }
  let other := if b then t1.pllA else t1.pllB
  levelSync (if bad && (t.pllSel == b) && other then pllMove 3 s1 else s1)

/-- PLL_A has stayed within 50 ps for 10 s: the clock tree returns from PLL_B unless RETURN_HOLD is 1 (R412). -/
def pllReturn (ps : Int) (s : State) : State :=
  let t := s.tmr
  match t.cleanSince with
  | some c =>
    if t.pllSel ∧ t.pllA ∧ c + 10000000000 ≤ s.clk ∧ tmrCfg_RETURN_HOLD s = 0 then pllMove 4 { s with tmr := { t with pllPhase := unsgn 16 ps } } else s
  | none => s

/-! ### On-chip memory (R413) -/

/-- Where the SRAM holds the context states, 4 KiB each, and the spill reserve, in DMA space 0. -/
def ctxStateBase : Nat := 0xA00000
def reserveBase : Nat := 0xE00000

/-- A context whose state is uncorrectable restarts at its next grid index (R413): the indices it could not produce are named in a MEM
range entry of each of its streams, and the restart is a settling event. -/
def ctxRestart (c : Nat) (s : State) : State :=
  if s.ctxRuns c then
    let d := (s.ctx c).desc
    let k := (s.grid (dGRID d)).next
    let from_ := (s.ctx c).nextK.getD k
    let s1 := if from_ < k then (streamsOf d).foldl (fun a n => rangeEntry n 0x0D from_ (k - 1) (k - from_) (max 1 (a.members n).length) a) s else s
    settleRun c s.st 0 false 0 (startCtx c s.st k s1)
  else s

/-- The reserve packet that holds word `w` of the reserve: its stream, PSEQ and word. -/
def reserveWord (s : State) (w : Nat) : Option (Nat × Nat × Nat) :=
  let ps := s.strs.flatMap (fun x => (x.2.pkts.filter (fun p => p.rsv.isSome)).map (fun p => (x.1, p)))
  (ps.foldl (fun (b : Option (Nat × Nat × Nat) × Nat) x =>
    match b.1 with
    | some _ => b
    | none => let n := (x.2.rsv.getD []).length; if w < b.2 + n then (some (x.1, x.2.pseq, w - b.2), b.2) else (none, b.2 + n)) (none, 0)).1

/-- What an uncorrectable word does by the region it lies in (R413). -/
def sramRegion (a : Nat) (s : State) : State :=
  let mark (t : State) : State := { t with tmr := { t.tmr with bad := if a ∈ t.tmr.bad then t.tmr.bad else a :: t.tmr.bad } }
  if ctxStateBase ≤ a ∧ a < ctxStateBase + 0x400000 then ctxRestart ((a - ctxStateBase) / 0x1000) s
  else if reserveBase ≤ a then
    match reserveWord s ((a - reserveBase) / 4) with
    | some (n, q, i) => modPkt n q (fun p => { p with rsvBad := if i ∈ p.rsvBad then p.rsvBad else i :: p.rsvBad }) s
    | none => mark s
  else if (tblBase + 0x20000 ≤ a ∧ a < tblBase + 0x40000) ∨ (tblBase + 0x54000 ≤ a ∧ a < tblBase + 0x58000) then mark (s.setSramW a 0)
  else mark s

/-- SCRUB_MS with its floor. -/
def scrubMs (s : State) : Nat := max 270 (sramScrub_SCRUB_MS s)

/-- The scrubber reads the next word (R413): `err` 0 sound, 1 corrected and written back, else uncorrectable. -/
def sramScrub (err : Nat) (s : State) : State :=
  let t := s.tmr
  if scrubMs s * 1000000 ≤ (s.clk - t.scrubClk) * 4194304 then
    let a := 4 * t.scrubAt
    let s1 := { s with tmr := { t with scrubAt := (t.scrubAt + 1) % 4194304, scrubClk := s.clk } }
    if a ∈ t.bad ∨ 2 ≤ err then sramRegion a (sramUncorr a s1)
    else if err = 1 then { s1 with tmr := { s1.tmr with corr := satInc 16 t.corr } }
    else s1
  else s

end Sys2Proof.Machine
end

