-- ==== Sys2Proof/Machine/Boot.lean ====
section
/-! DEFINITION. Start-up (R435 to R437), the resets (R410, R441, R463), the supplies (R464), PPS_OUT (R471), attestation (R442 to R445),
the flash port and the core's timer (R452, R453), and the governor's tick as the requesters see it (R428 to R433). -/

namespace Sys2Proof.Machine

/-! ### Start-up (R435 to R437) -/

/-- Slices whose applied set has EN 1. -/
def slicesOn (s : State) : List Nat := (List.range 64).filter (fun n => aEN (s.slice (s.pairEven n)).app)

/-- Step 3 is in progress from the first edge; steps 3 and 4 end by time: the trim loads, and the core starts in the boot ROM. -/
def startRails (s : State) : State :=
  if s.boot.step = 0 then { s with boot := { s.boot with step := 3 } }
  else if s.boot.step = 3 ∧ s.passed s.boot.since 500000 then { s with boot := { s.boot with step := 4 } }
  else if s.boot.step = 4 ∧ s.passed s.boot.since 2300000 then bootStart (otpLoad { s with boot := { s.boot with step := 5 } })
  else s

/-- Steps 5 and 6 end when the boot ROM has handed over or found no image. -/
def startImage (s : State) : State :=
  if s.boot.step = 5 ∧ s.mgmt.bootEnd.isNone then { s with boot := { s.boot with step := 7 } } else s

/-- GO ends step 7: memory trains, lanes with EN 1 that are not up already bring up, and time is acquired. -/
def startGo (s : State) : State :=
  if s.boot.step = 7 ∧ s.boot.go then
    let s1 := { s with boot := { s.boot with step := 8, goAt := s.clk } }
    let s2 := if s1.dram.st = 2 then s1 else drTrainCmd (dmaHolds s1 18) s1
    (List.range 12).foldl (fun a n => if lnCfg_EN a n = 1 ∧ (a.lane n).st = 0 ∧ (a.dom (19 + n)).st ≠ 4 then withLane n (laneBringUp n) a else a) s2
  else s

/-- Step 8 has ended: a training outcome, ten refusals, or no training under way because its request was refused (R436). -/
def trainDone (s : State) : Bool :=
  decide (s.dram.st = 2 ∨ s.dram.st = 3 ∨ 10 ≤ s.boot.refusals) || (decide (s.dram.st = 0) && !s.dram.asking && s.dram.retryAt.isNone)

/-- Step 9 has ended: every lane with EN 1 is UP. -/
def lanesDone (s : State) : Bool := (List.range 12).all (fun n => decide (lnCfg_EN s n = 0 ∨ laneState s n = 5))

/-- Step 10 has ended: locked, or no source named. -/
def timeDone (s : State) : Bool := s.tb.locked || decide (tbSel s = 0)

/-- Steps 8, 9 and 10, side by side; step 11 begins when all three have ended, and brings up the mittens of slices with EN 1. -/
def startSide (s : State) : State :=
  if s.boot.step = 8 then
    let b := s.boot
    let m := b.done8 || trainDone s
    let s1 := { s with boot := { b with done8 := m, dramFail := b.dramFail || (m && decide (s.dram.st ≠ 2)), done9 := b.done9 || lanesDone s, done10 := b.done10 || timeDone s } }
    if s1.boot.done8 && s1.boot.done9 && s1.boot.done10 then
      let ns := (slicesOn s1).filter (fun n => decide ((s1.dom (1 + n / 4)).st ≠ 4) && !s1.supply.avddLow)
      ((ns.map (· / 4)).eraseDups).foldl (fun a x => mittCome x a) { s1 with boot := { s1.boot with step := 11, slices := ns } }
    else s1
  else s

/-- Slice `n`'s first recalibration has succeeded or failed, or cannot come because its domain is off (R436). -/
def firstCal (s : State) (n : Nat) : Bool :=
  !(s.cal n).upOff || decide ((s.cal n).failCnt ≠ 0) || (s.cal n).fault || decide ((s.dom (1 + n / 4)).st = 4)

/-- Step 11 ends when the references have settled. -/
def startSettle (s : State) : State :=
  if s.boot.step = 11 ∧ s.boot.slices.all (fun n => (s.cal n).settled || firstCal s n) then { s with boot := { s.boot with step := 12 } } else s

/-- What a step of the skew measurement finds where no command has said: open values, one a slice (R170). -/
def skewOpen (s : State) : List (Nat × Option Int) :=
  (List.range 64).map (fun n => let v := Config.freeNat (s.freeCtr + n); (n, if v % 2 = 0 then some (sgn 20 (v / 2)) else none))

/-- Step 12: the first recalibrations, then the skew measurement of every mitten (R172, R436). -/
def startCal (s : State) : State :=
  if s.boot.step = 12 ∧ !s.align.run then
    if s.boot.skew then { s with boot := { s.boot with step := 13, skew := false, skewFail := s.align.fail } }
    else if s.boot.slices.all (firstCal s) then
      let bad := s.boot.slices.any (fun n => (s.cal n).upOff)
      let s1 := { s with boot := { s.boot with calFail := bad, skew := true } }
      skewGo 0xFFFF (skewOpen s1) { s1 with freeCtr := s1.freeCtr + 64 }
    else s
  else s

/-- The grids marked in SYS_AUTO_GRID, and the streams marked in SYS_AUTO_STR. -/
def autoGrids (s : State) : List Nat := (List.range 64).filter (fun g => bit (s.rw (if g < 32 then sysAutoGridLoAt else sysAutoGridHiAt)) (g % 32))
def autoStrs (s : State) : List Nat := (List.range 128).filter (fun n => bit (s.rw (sysAutoStrAt (n / 32))) (n % 32))

/-- Step 13: marked grids and streams start. -/
def startAuto (s : State) : State :=
  if s.boot.step = 13 then
    let s1 := (autoGrids s).foldl (fun a g => gridCmdStart g true a) s
    let s2 := (autoStrs s).foldl (fun a n => queStart n a) s1
    let none_ := (autoGrids s).all (fun g => !(s2.grid g).run)
    { s2 with boot := { s2.boot with step := 14, readyAt := if none_ then some ((s.sec + 1) * secU) else none } }
  else s

/-- Steps 14 and 15: at the first grid instant, or the next whole second with no grid marked, the hub is ready. -/
def startReady (s : State) : State :=
  if s.boot.step = 14 then
    let due := match s.boot.readyAt with
      | some t => decide (t ≤ s.st)
      | none => (autoGrids s).any (fun g => decide ((s.grid g).made ≠ [])) || (autoGrids s).all (fun g => !(s.grid g).run)
    if due then raise pMGMT 1 { s with boot := { s.boot with step := 15, ready := true } } else s
  else s

/-- What start-up does at a timebase edge. -/
def startTick (s : State) : State := startReady (startAuto (startCal (startSettle (startSide (startGo (startImage (startRails s)))))))

/-- SYS_START.GO: once for each start-up (R437). -/
def sysGo (s : State) : State := if s.boot.go then s else startGo { s with boot := { s.boot with go := true } }

/-- LANE_MS after GO, and TIME_S after GO (R436). -/
def laneLate (s : State) : State :=
  if s.boot.step = 8 ∧ !s.boot.done9 ∧ s.passed s.boot.goAt (sysStartWait_LANE_MS s * 1000000) then startSide { s with boot := { s.boot with done9 := true, laneLate := true } } else s
def timeLate (s : State) : State :=
  if s.boot.step = 8 ∧ !s.boot.done10 ∧ s.passed s.boot.goAt (sysStartWait_TIME_S s * 1000000000) then startSide { s with boot := { s.boot with done10 := true, timeLate := true } } else s

/-! ### Resets (R410, R441, R463) -/

/-- What the voting side keeps across RST_N and a software reset: retirement, failures, counts and the PLLs (R441); of the copies not
retired, the first three are seated. -/
def tmrKept (t : TmrSt) : TmrSt :=
  let go (acc : Nat × List CopySt) (c : CopySt) : Nat × List CopySt :=
    if c.st = 5 then (acc.1, acc.2 ++ [{ c with since := 0 }])
    else (acc.1 + 1, acc.2 ++ [{ c with st := if acc.1 < 3 then 0 else 1, since := 0, seatedAt := 0, bad := false }])
  { copies := (t.copies.foldl go (0, [])).2, failovers := t.failovers, returns := t.returns, pllA := t.pllA, pllB := t.pllB, pllSel := t.pllSel, pllPhase := t.pllPhase,
    cleanSince := t.cleanSince.map (fun _ => 0) }

/-- A full reset: every field at its reset value but what lies outside the hub (the queue of commands, the open values asked for, what the
flash held, the rails) and, where `keep`, what R441 keeps. -/
def hubReset (cause : Nat) (keep : Bool) (s : State) : State :=
  let s0 : State := { State.reset with pending := s.pending, freeCtr := s.freeCtr }
  let s1 := { s0 with boot := { s0.boot with boots := s.boot.boots, cause := if keep then s.boot.cause ||| cause else cause } }
  let s2 := { s1 with supply := { s1.supply with held := s.supply.held, avddLow := s.supply.avddLow, excLow := s.supply.excLow } }
  if keep then levelSync { s2 with tmr := tmrKept s.tmr } else s2

/-- VDD_CORE has stayed low for 1 µs: as POR_N low (R463). -/
def coreLow (s : State) : State := hubReset 1 false { s with supply := { s.supply with held := true } }

/-- VDD_CORE has been back in range for 1 ms. -/
def coreBack (s : State) : State := if s.supply.held then hubReset 1 false { s with supply := { s.supply with held := false } } else s

/-! ### Supplies and PPS_OUT (R464, R471) -/

/-- AVDD_LOW is set: every mitten domain counts as off, with its excitation and its legacy sources. -/
def avddLow (s : State) : State :=
  if s.supply.avddLow then s
  else (List.range 16).foldl (fun a m => mittGone m a) { s with supply := { s.supply with avddLow := true, dips := satInc 16 s.supply.dips } }

/-- AVDD_LOW clears: each held mitten domain counts as coming up. -/
def avddBack (s : State) : State :=
  if s.supply.avddLow then
    let s1 := { s with supply := { s.supply with avddLow := false } }
    (List.range 16).foldl (fun a m => if domHeld a (1 + m) ∧ (a.dom (1 + m)).st = 0 then mittCome m a else a) s1
  else s

/-- ST has come to a whole second by counting (R471): within the last timebase edge. -/
def ppsDue (s : State) : Bool := decide (s.st % secU < 2 * nsU)

/-- A PPS_OUT pulse starts; with GATE 1, not while HOLD_ACTIVE is 1, as it is in SAFE too (R409). -/
def ppsRise (s : State) : State :=
  if sysPpsOut_EN s = 1 ∧ ppsDue s ∧ !(decide (sysPpsOut_GATE s = 1) && (s.tb.holdActive || decide (s.pwr.state = 4))) then { s with supply := { s.supply with ppsHigh := true, ppsSec := s.sec } } else s

/-- The width of a pulse in ms. -/
def ppsWidth (s : State) : Nat := max 1 (min 999 (sysPpsOut_WIDTH_MS s))

/-- A PPS_OUT pulse ends, WIDTH_MS of ST after its start. -/
def ppsFall (s : State) : State :=
  if s.supply.ppsHigh ∧ (s.supply.ppsSec * secU + ppsWidth s * msU ≤ s.st ∨ s.st < s.supply.ppsSec * secU) then { s with supply := { s.supply with ppsHigh := false } } else s

/-! ### Attestation (R442 to R445) -/

/-- A refusal of ATT_CMD: 1 BUSY, 2 INDEX, 3 SOURCE. -/
def attRej (r : Nat) (s : State) : State := raise pATT 1 { s with att := { s.att with rej := r } }

/-- The 48 bytes written to ATT_EXT: byte `j` of the digest lies in word `j / 4`, lowest byte first. -/
def attDigest (s : State) : List Nat := (List.range 12).flatMap (fun i => (List.range 4).map (fun b => (byteOf (s.rw (attExtAt i)) b).toNat))

/-- ATT_CMD EXTEND of MEAS_i (R442). -/
def attExtend (src i : Nat) (s : State) : State :=
  if src ≠ 3 then attRej 3 s
  else if i = 0 then attRej 2 s
  else
    let a := s.att
    { s with att := { a with meas := a.meas.set i (measExtend (a.meas.getD i 0) (attDigest s)), cnt := a.cnt.set i ((a.cnt.getD i 0 + 1) % 2 ^ 32) } }

/-- ATT_CMD QUOTE (R443). -/
def attQuote (s : State) : State :=
  if s.att.snap.isSome then attRej 1 s
  else { s with att := { s.att with snap := some ⟨s.att.meas, s.att.cnt, (List.range 8).map (fun i => s.rw (attNonceAt i)), s.st, s.clk⟩, changed := false } }



/-- PAGE_LOCK of a page (R28). -/
def lockWord (s : State) (p : Nat) : Word := word ((if (s.lock p).locked then 1 else 0) + (if (s.lock p).sticky then 2 else 0))

/-- The bytes CONF_DIGEST covers (R444). -/
def confBytes (s : State) : List Nat :=
  (List.range 1024).flatMap (fun c => (s.ctx c).desc.flatMap wordBytes)
  ++ (List.range 0x38000).map (fun i => (s.sramB (tblBase + 0x20000 + i)).toNat)
  ++ ((List.range 256).filter (fun p => (blockOf p).isSome)).flatMap (fun p => wordBytes (lockWord s p))

/-- Q0 to Q147 (R443); `conf` is CONF_DIGEST. -/
def quoteBody (s : State) (q : AttSnap) (conf : BitVec 384) : List Word :=
  let flags := (if s.att.changed then 1 else 0) + (if s.otp.uncorr ≠ 0 then 2 else 0) + (if s.mgmt.alt then 4 else 0) + (if s.mgmt.st = 3 then 8 else 0)
  [word (0x5A510100 + flags), 688, 0xB0, 0] ++ q.nonce ++ (List.range 4).map (fun i => s.otpWord (8 + 4 * i))
  ++ [word (secOf q.st % 2 ^ 32), word (secOf q.st / 2 ^ 32), word (nsOf q.st), 0] ++ q.cnt.map word
  ++ q.meas.flatMap (fun m => leWords (digBytes m)) ++ leWords (digBytes (BitVec.ofNat 384 s.otp.digest)) ++ leWords (digBytes conf)



/-- The quote is filled and signed (R443 to R445); where a word it covers was written meanwhile, CONF_DIGEST is an open value. -/
def attDone (s : State) : State :=
  match s.att.snap with
  | none => s
  | some q =>
    let fr := s.free
    let conf := if s.att.changed then BitVec.ofNat 384 fr.1 else sha384 (confBytes s)
    let s1 := if s.att.changed then fr.2 else s
    let body := quoteBody s q conf
    raise pATT 0 { s1 with att := { s1.att with snap := none, changed := false, quote := body ++ leWords (quoteSign (body.flatMap wordBytes)) } }

/-- A page reset of ATT (R445). -/
def attReset (s : State) : State := { s with att := { s.att with rej := 0, snap := none, changed := false, quote := [] } }

/-! ### The flash port and the core's timer (R452, R453) -/

/-- QSPI_STAT.BUSY. -/
def qspiBusy (s : State) : Bool := decide (s.clk < s.mgmt.qEnd)

/-- A write of QSPI_CMD (R452): with GO, a 1-1-1 transaction at 50 MHz runs; `back` is what the flash returns to a read. -/
def qspiGo (v : Word) (back : List Byte) (s : State) : State :=
  let s1 := s.setRw qspiCmdAt (v &&& 0x4F3FF1FF#32)
  if bit v 31 && !(qspiBusy s) then
    let len := min 256 (qspiCmd_LEN s1)
    let wr := qspiCmd_WRITE s1 = 1
    let ab := if qspiCmd_ABYTES s1 = 0 then 0 else if qspiCmd_ABYTES s1 = 1 then 3 else 4
    let out := if wr then s1.mgmt.qfifo.take len else []
    let bits := 8 * (1 + ab + len) + qspiCmd_DUMMY s1
    { s1 with mgmt := { s1.mgmt with qEnd := s1.clk + 20 * bits, qOut := (qspiCmd_OPCODE s1, (if ab = 0 then 0 else qspiAddr_ADDR s1), out) :: s1.mgmt.qOut,
                                     qfifo := if wr then s1.mgmt.qfifo.drop len else (s1.mgmt.qfifo ++ (back ++ List.replicate (len - back.length) 0).take len).take 256 } }
  else s1

/-- A write of QSPI_DATA puts four bytes into the FIFO; a read takes four. -/
def qspiPut (v : Word) (s : State) : State :=
  { s with mgmt := { s.mgmt with qfifo := (s.mgmt.qfifo ++ (List.range 4).map (fun i => byteOf v i)).take 256 } }
def qspiTake (s : State) : Word × State :=
  let f := s.mgmt.qfifo
  (leWord (f.getD 0 0) (f.getD 1 0) (f.getD 2 0) (f.getD 3 0), { s with mgmt := { s.mgmt with qfifo := f.drop 4 } })

/-- MTIME in nanoseconds, modulo 2^64 (R453). -/
def mtime (s : State) : Nat := (s.sec * 1000000000 + s.ns) % 2 ^ 64

/-- MTIME reaches MTIMECMP: the machine timer interrupt. -/
def mtimeHit (s : State) : State :=
  if s.mgmt.mtimecmp ≤ mtime s then { s with mgmt := { s.mgmt with timer := true } } else s

/-- The machine external interrupt: an enabled line of a fabric event with MGMT_EN 1 is pending (R42, R453). -/
def mgmtPend (s : State) (g : Nat) : Word :=
  word ((List.range 32).foldl (fun a i => if bit (s.route (32 * g + i)) 16 && s.evLevel (32 * g + i) then a + 2 ^ i else a) 0)

/-! ### The governor and its requesters (R428 to R433) -/

/-- An operation asks for leave; one that holds a grant or is asking already does not ask again. -/
def bgtRequest (kind req mw : Nat) (dur wait : Option Nat) (s : State) : State :=
  if kind = 0 ∨ 6 < kind ∨ bgtHas kind req s ∨ bgtAsking kind req s then s else bgtAsk kind req mw dur wait s

/-- The requester hears the governor's decision, where it is still asking. -/
def bgtTell (o : BgtOut) (s : State) : State :=
  if o.kind = 1 then (if (s.loop o.req).leaveWait then (if o.granted then loopGranted o.req s else loopRefused o.req s) else s)
  else if o.kind = 3 then (if o.granted then vwGranted o.req s else vwRefused o.req s)
  else if o.kind = 4 then (if (s.cal o.req).asking then (if o.granted then calGranted o.req s else calRefused o.req s) else s)
  else if o.kind = 5 then withLane o.req (if o.granted then laneGranted o.req else laneRefused o.req) s
  else if o.kind = 6 then
    (if s.dram.asking then
      (if o.granted then drGranted s else drRefused { s with boot := { s.boot with refusals := if s.boot.step = 8 then s.boot.refusals + 1 else s.boot.refusals } })
    else s)
  else s

/-- A tick of the governor, at an instant whose nanoseconds are a multiple of 10 000 (R429). -/
def bgtTick (s : State) : State :=
  if s.ns % 10000 = 0 then let r := bgtRun s; r.1.foldl (fun a o => bgtTell o a) r.2 else s

/-- A grant is past its declared duration with its operation still running (R433): once. -/
def bgtOverrun (kind req : Nat) (s : State) : State :=
  let ovr (g : BgtGrant) : Bool := decide (g.kind = kind ∧ g.req = req ∧ g.kind ≠ 1) && !g.overrun && (match g.dur with | some d => decide (g.start + d * msU ≤ s.st) | none => false)
  match s.bgt.grants.find? ovr with
  | some g =>
    raise pBGT 3 (bgtLast 4 0 ⟨kind, req, g.mw, g.dur, g.start, none, true⟩ { s with bgt := { s.bgt with grants := s.bgt.grants.map (fun x => if ovr x then { x with overrun := true } else x) } })
  | none => s

end Sys2Proof.Machine
end

