-- ==== Sys2Proof/Machine/Regs.lean ====
section
/-! DEFINITION. What every register shows: the stored RW and LK bits, and beside them the read-only fields of the register tables, as a
function of the state (R25 to R29 and each chapter's register tables). -/

namespace Sys2Proof.Machine

/-- A word from its fields: the lowest bit of each and its value. -/
def flds (l : List (Nat × Nat)) : Word := word ((l.map (fun x => x.2 * 2 ^ x.1)).sum)

def b2n (b : Bool) : Nat := if b then 1 else 0

/-- The word of bits `[31:0]` of a list of numbered conditions. -/
def maskOf (p : Nat → Bool) : Word := word ((List.range 32).foldl (fun a i => if p i then a + 2 ^ i else a) 0)

def lo32 (n : Nat) : Word := word (n % 2 ^ 32)
def hi32 (n : Nat) : Word := word (n / 2 ^ 32)

/-! ### The common header (R27) -/

/-- PAGE_CAP's block-specific bits: on lanes the kind, and the PRBS facilities of lanes 0 and 1 (R333). -/
def blkCap (p : Nat) : Nat :=
  if 0x20 ≤ p ∧ p ≤ 0x2B then (if p < 0x28 then 0 else if p < 0x2A then 1 else 2) * 2 ^ 10 + (if p < 0x22 then 2 ^ 8 else 0) else 0

/-- A header register. -/
def viewHdr (s : State) (p off : Nat) : Word :=
  let h := s.page p
  let blk := (blockOf p).getD 0
  if off = 0x000 then flds [(16, 0x5A48), (8, blk), (0, instOf p)]
  else if off = 0x004 then 0x1B0
  else if off = 0x008 then word (blkCap p + blockNev blk)
  else if off = 0x010 then flds [(8, h.blkCtl), (1, b2n h.rstEnd.isSome), (0, b2n h.pageEn)]
  else if off = 0x014 then flds [(2, b2n (s.lock p).locked), (1, b2n (s.domOff p)), (0, b2n h.rstEnd.isSome)]
  else if off = 0x020 then h.raw
  else if off = 0x024 then h.stat
  else if off = 0x028 then h.en
  else if off = 0x030 then lockWord s p
  else 0

/-! ### The blocks' own registers; `o` is the offset in the page -/

def viewSYS (s : State) (o : Nat) : Option Word :=
  let b := s.boot
  if o = 0x110 then some (word s.bad.addr)
  else if o = 0x114 then some (flds [(8, b2n s.bad.write), (4, s.bad.src), (0, s.bad.cause)])
  else if o = 0x124 then some (if tblAddr_ADDR s * 4 < 0x58000 then s.tblW (tblAddr_ADDR s * 4) else 0)
  else if o = 0x130 then some (word (b2n b.go))
  else if o = 0x138 then some (flds [(31, b2n b.ready), (8, b.step), (4, b2n b.skewFail), (3, b2n b.calFail), (2, b2n b.timeLate), (1, b2n b.laneLate), (0, b2n b.dramFail)])
  else if o = 0x13C then some (word b.cause)
  else if o = 0x150 then some (flds [(16, s.supply.dips), (1, b2n s.supply.excLow), (0, b2n s.supply.avddLow)])
  else none

def viewEVT (s : State) (o : Nat) : Option Word :=
  if 0x100 ≤ o ∧ o < 0x120 then some (maskOf (fun i => s.evLevel (32 * ((o - 0x100) / 4) + i))) else none

def viewPWR (s : State) (o : Nat) : Option Word :=
  if o = 0x10C then some (flds [(28, s.pwr.rej), (4, b2n s.pwr.move.isSome), (0, s.pwr.state)])
  else if 0x300 ≤ o then
    let d := (o - 0x300) / 4
    some (flds [(5, b2n (s.dom d).waiting.isSome), (4, b2n (domHeld s d)), (0, (s.dom d).st)])
  else none

def viewBGT (s : State) (o : Nat) : Option Word :=
  let b := s.bgt
  if o = 0x110 then some (word (satU 16 (bgtUsed s)))
  else if o = 0x114 then some (word (bgtLevel s))
  else if o = 0x118 then some (flds [(28, b.outcome), (24, b.reason), (20, b.lastKind), (0, b.lastReq)])
  else if o = 0x11C then some (flds [(31, b2n (bgtHas 2 0 s)), (0, bgtExc_MA s)])
  else if o = 0x124 then some (flds [(16, b.refused), (0, b.granted)])
  else none

def viewTMR (s : State) (o : Nat) : Option Word :=
  let t := s.tmr
  if o = 0x100 then
    some (flds [(26, b2n t.pllB), (25, b2n t.pllA), (24, b2n t.pllSel), (20, (s.copy 3).st), (16, (s.copy 2).st), (12, (s.copy 1).st), (8, (s.copy 0).st), (0, t.level)])
  else if o = 0x110 then some (lo32 (secOf t.levelAt))
  else if o = 0x114 then some (word t.levelNs)
  else if 0x120 ≤ o ∧ o < 0x1A0 then
    let c := s.copy ((o - 0x120) / 0x20)
    let r := o % 0x20
    some (if r = 0x00 then flds [(16, c.disagree), (0, c.scrub)] else if r = 0x04 then word c.tests else if r = 0x08 then word (min 15 c.fail)
      else if r = 0x0C then lo32 (secOf c.faultAt) else if r = 0x10 then word (nsOf c.faultAt) else if r = 0x14 then lo32 (secOf c.testAt)
      else if r = 0x18 then word (nsOf c.testAt) else lo32 (secOf c.seatedAt))
  else if o = 0x1A0 then some (flds [(16, t.failovers), (0, t.returns)])
  else if o = 0x1A4 then some (lo32 (secOf t.pllAt))
  else if o = 0x1A8 then some (word (nsOf t.pllAt))
  else if o = 0x1AC then some (word (t.pllPhase % 2 ^ 16))
  else if o = 0x1C0 then some (flds [(16, t.uncorr), (0, t.corr)])
  else if o = 0x1C4 then some (flds [(31, b2n t.latched), (0, t.eccAddr % 2 ^ 24 / 4 * 4)])
  else if o = 0x1D0 then some (flds [(16, s.dram.uncorr), (0, s.dram.corr)])
  else none

def viewATT (s : State) (o : Nat) : Option Word :=
  let a := s.att
  if o = 0x104 then some (flds [(31, b2n a.snap.isSome), (24, a.rej)])
  else if 0x170 ≤ o ∧ o < 0x190 then some (word (a.cnt.getD ((o - 0x170) / 4) 0))
  else if 0x1A0 ≤ o ∧ o < 0x200 then some ((pubWords kDev).getD ((o - 0x1A0) / 4) 0)
  else if 0x200 ≤ o ∧ o < 0x400 then some ((leWords (digBytes (a.meas.getD ((o - 0x200) / 0x40) 0))).getD (o % 0x40 / 4) 0)
  else if 0x400 ≤ o then some (a.quote.getD ((o - 0x400) / 4) 0)
  else none

def viewOTP (s : State) (o : Nat) : Option Word :=
  let t := s.otp
  if o = 0x100 then some (flds [(16, t.uncorr), (8, t.corr), (0, b2n t.loaded)])
  else if o = 0x108 then some (if !s.otp.loaded || decide (0x27FC < 4 * otpAddr_ADDR s) then 0 else s.otpWord (4 * otpAddr_ADDR s))
  else if o = 0x110 then some (lo32 t.badMask)
  else if o = 0x114 then some (hi32 t.badMask)
  else if 0x140 ≤ o then some (if t.loaded then (leWords (digBytes (BitVec.ofNat 384 t.digest))).getD ((o - 0x140) / 4) 0 else 0)
  else none

def viewMGMT (s : State) (o : Nat) : Option Word :=
  let m := s.mgmt
  if o = 0x104 then
    some (flds [(8, b2n m.alt), (0, if m.st = 3 then 3 else if mgmtCtl_HALT s = 1 then 2 else if m.st = 1 ∧ s.pwr.coreWait then 4 else m.st)])
  else if o = 0x110 then some (s.rw 0x7110 ||| placeBit 31 (qspiBusy s))
  else if o = 0x118 then some (leWord (m.qfifo.getD 0 0) (m.qfifo.getD 1 0) (m.qfifo.getD 2 0) (m.qfifo.getD 3 0))
  else if o = 0x11C then some (word (b2n (qspiBusy s)))
  else none

/-- Saturate an integer to 32 bits, as a word. -/
def sat32 (x : Int) : Word := iword (satS 32 x)

/-- What TBASE shows. STEP_CMD.GO reads 1 while any accepted step has not taken effect, an automatic one too, of which R49 does not speak (DESIGN
CHOICE, log entry 109). -/
def viewTBASE (s : State) (o : Nat) : Option Word :=
  let b := s.tb
  let favg := unsgn 40 (rshAway b.favg 24)
  if o = 0x104 then
    some (flds [(8, b.srcAct), (4, b2n s.tiu.ref10m), (3, b2n (b.corr ≠ 0)), (2, b2n (b.holdActive || decide (s.pwr.state = 4))), (1, b2n b.holdover), (0, b2n b.locked)])
  else if o = 0x110 then some (lo32 s.sec)
  else if o = 0x114 then some (hi32 b.latSec)
  else if o = 0x118 then some (word b.latNs)
  else if o = 0x11C then some (word b.latFrac)
  else if o = 0x120 then some (lo32 (unsgn 40 b.freq))
  else if o = 0x124 then some (hi32 (unsgn 40 b.freq))
  else if o = 0x128 then some (lo32 favg)
  else if o = 0x12C then some (hi32 favg)
  else if o = 0x130 then some (sat32 (rdivAway b.err psE))
  else if o = 0x134 then some (word (hoEst s))
  else if o = 0x168 then some (s.rw 0x8168 ||| placeBit 0 b.step.isSome)
  else if o = 0x180 then some (flds [(16, b.ptpAccept), (0, b.ptpDiscard)])
  else none

def viewSCHED (s : State) (o : Nat) : Option Word :=
  if o = 0x104 then some (flds [(16, s.sched.lateCnt), (0, s.sched.lastEntry)])
  else if 0x200 ≤ o then some (word (s.nextEvt ((o - 0x200) / 4)))
  else none

/-- A 64-bit two's complement position in angle units. -/
def posBits (p : Int) : Nat := unsgn 64 (p / 2 ^ 16)

def viewAXIS (s : State) (o : Nat) : Option Word :=
  if o < 0x200 then
    let n := (o - 0x100) / 0x40
    let x := s.axis n
    let r := o % 0x40
    if r = 0x10 then some (lo32 (posBits x.pos))
    else if r = 0x14 then some x.latPosHi
    else if r = 0x18 then some (lo32 (posBits x.max))
    else if r = 0x1C then some x.latMaxHi
    else if r = 0x20 then some (sat32 (axSpeed s n))
    else if r = 0x34 then some (flds [(4, b2n x.zseen), (3, b2n x.overspeed), (2, b2n x.reversed), (1, b2n x.idle), (0, axCfg_EN s n)])
    else if r = 0x38 then some (word (unsgn 16 x.zerr))
    else none
  else if o = 0x304 then some (maskOf (fun i => (s.grid i).run))
  else if o = 0x308 then some (maskOf (fun i => (s.grid (32 + i)).run))
  else if o = 0x314 then some (lo32 (s.grid (gridSel_GRID s)).next)
  else if o = 0x318 then some (hi32 (s.grid (gridSel_GRID s)).next)
  else if o = 0x31C then some (flds [(8, s.gctl.rejReason), (0, s.gctl.rejGrid)])
  else none

def viewTIU (s : State) (o : Nat) : Option Word :=
  let t := s.tiu
  if o = 0x140 then some (flds [(16, t.ppsBad), (3, b2n t.ppsChg), (2, b2n t.refChg), (1, b2n t.pps), (0, b2n t.ref10m)])
  else if o = 0x144 then
    some (flds [(28, t.vwLast), (22, t.vwSlice)] ||| maskOf (fun c => decide (c < 16 ∧ max 1 (tiCfg_RES_LEVEL s c) ≤ (s.tch c).queue.length)))
  else if 0x200 ≤ o then
    let c := (o - 0x200) / 0x40
    let x := s.tch c
    let r := o % 0x40
    if r = 0x08 then some (flds [(16, x.early), (8, x.queue.length), (2, b2n x.gateOpen), (1, b2n (x.start.isSome || decide (x.starts ≠ []))), (0, b2n x.vw.isSome)])
    else if r = 0x0C then some (flds [(16, x.drop), (8, x.repl), (0, x.close)])
    else if r = 0x10 then some ((x.queue.headD []).getD 0 0)
    else if 0x14 ≤ r ∧ r < 0x28 then some (x.lat.getD ((r - 0x14) / 4) 0)
    else none
  else none

def viewCAL (s : State) (o : Nat) : Option Word :=
  let n := calSel_SLICE s
  let c := s.cal n
  if o = 0x110 then some (maskOf (fun i => (s.cal i).forced))
  else if o = 0x114 then some (maskOf (fun i => (s.cal (32 + i)).forced))
  else if o = 0x118 then some (maskOf (fun i => (s.cal i).running))
  else if o = 0x11C then some (maskOf (fun i => (s.cal (32 + i)).running))
  else if o = 0x120 then some (word s.calctl.last)
  else if o = 0x144 then some (flds [(28, c.failCnt), (16, b2n c.fault), (0, calState s n)])
  else if o = 0x148 then some (iword c.temp)
  else if o = 0x14C then some (lo32 c.sec)
  else if o = 0x150 then some (hi32 c.sec)
  else if o = 0x154 then some (flds [(16, c.gain), (0, c.ofs)])
  else if o = 0x158 then some (flds [(16, unsgn 16 c.gainRes), (0, unsgn 16 c.ofsRes)])
  else if o = 0x15C then some (word (satU 16 (match c.deferAt with | some a => (s.clk - a) / 1000000000 | none => c.deferSec)))
  else if o = 0x160 then some (lo32 c.count)
  else none

/-- Load units as kMAC/s, rounded up (R154). -/
def kmac (u : Nat) : Nat := satU 32 (cdiv u (1000 * loadU))

/-- The excitation settling that counts for a context: that of its source slice's applied set (R143). -/
def ctxExcCyc (s : State) (c : Nat) : Nat := match s.srcSlice c with | some n => excSettle (s.slice n) | none => 0

def viewFENG (s : State) (o : Nat) : Option Word :=
  let c := ctxQuery_CTX s
  let x := s.ctx c
  if o = 0x104 then
    some (match s.feng.done with
      | e :: t => flds [(31, 1), (30, b2n e.rej), (29, b2n s.feng.ovf), (10, t.length), (0, e.ctx)]
      | [] => flds [(29, b2n s.feng.ovf)])
  else if o = 0x108 then some (lo32 s.feng.popIdx)
  else if o = 0x10C then some (hi32 s.feng.popIdx)
  else if o = 0x110 then some (flds [(31, b2n x.pend.isSome), (30, b2n x.doneAny), (29, b2n x.lastRej), (0, c)])
  else if o = 0x114 then some (lo32 x.lastIdx)
  else if o = 0x118 then some (hi32 x.lastIdx)
  else if o = 0x120 then some (word (kmac s.fengLoad))
  else if o = 0x128 then some (flds [(28, s.feng.rejReason), (0, s.feng.rejCtx)])
  else if o = 0x130 then
    let n := s.settleN x.desc
    some (flds [(16, satU 16 (n + s.settleNe x.desc (ctxExcCyc s c))), (0, satU 16 n)])
  else if o = 0x134 then some (word (kmac (s.ctxLoad c)))
  else if o = 0x138 then some (word s.feng.satCnt)
  else if o = 0x13C then some (flds [(16, (s.ctxs.filter (fun y => y.2.fading)).length), (0, s.feng.fadeCtx)])
  else if o = 0x140 then some (word s.feng.scRestart)
  else if o = 0x154 then some (word (unsgn 24 (hbTap (hbRomAddr_DESIGN s) (hbRomAddr_TAP s))))
  else none

def viewGRID (s : State) (o : Nat) : Option Word :=
  let a := s.align
  let c := alignSel_CTX s
  if o = 0x100 then some (word (b2n a.run))
  else if o = 0x10C then some (flds [(16, a.busy), (2, b2n a.fail), (1, b2n a.done), (0, b2n a.run)])
  else if o = 0x114 then some (lo32 (s.alignDelay c))
  else if o = 0x118 then some a.latDelayHi
  else if o = 0x11C then some (if dEN (s.ctx c).desc then word (satU 32 (s.alignLat c)) else 0)
  else if o = 0x120 then some (word a.aliasCnt)
  else if o = 0x124 then some (word a.rateFill)
  else if o = 0x128 then some (word a.gapCnt)
  else if o = 0x134 then some (word (unsgn 24 (kernTap (kernAddr_PHASE s) (kernAddr_TAP s))))
  else none

def viewLOOP (s : State) (o : Nat) : Option Word :=
  let n := (o - 0x100) / 0x40
  let x := s.loop n
  let r := o % 0x40
  if r = 0x04 then
    some (flds [(12, x.req.getD 0), (11, b2n x.accSat), (10, b2n x.leaveWait), (9, b2n x.xClamp), (8, b2n x.slew), (7, b2n x.spLimit),
                (6, b2n (x.limHi || x.limLo)), (5, b2n x.iClamp), (4, b2n x.tapHold), (3, b2n x.safe), (0, x.mode)])
  else if r = 0x08 then some (word x.flags)
  else if r = 0x0C then some (word (unsgn 20 (fdNow s n)))
  else if r = 0x10 then some (word (unsgn 24 (loopInteg x)))
  else if r = 0x14 then some (sat32 (rshAway x.r 16))
  else if r = 0x18 then some (word (unsgn 20 x.diff))
  else if r = 0x1C then some (lo32 x.cycles)
  else if r = 0x2C then some (word x.rej)
  else if r = 0x30 then some (word (unsgn 16 x.o))
  else none

def viewTRIG (s : State) (o : Nat) : Option Word :=
  let t := s.trig
  let x := s.trigUnit (trigSel_UNIT s)
  if o = 0x104 then some (maskOf (fun u => (s.trigUnit u).armed))
  else if o = 0x108 then some (maskOf (fun u => (s.trigUnit u).opened.isSome))
  else if o = 0x10C then some (flds [(28, t.rejReason), (0, t.rejUnit)])
  else if o = 0x114 then some (word (satU 24 x.need))
  else if o = 0x118 then some (flds [(16, x.retrig), (8, x.lastRec), (0, x.bitmap)])
  else if o = 0x11C then some (lo32 (secOf x.lastT))
  else if o = 0x120 then some t.latSecHi
  else if o = 0x124 then some t.latNs
  else if o = 0x128 then some (flds [(20, t.nak), (10, t.ignored), (0, t.accepted)])
  else if o = 0x130 then some (flds [(16, t.brimSide), (0, t.brimCtx)])
  else if 0x400 ≤ o then some (maskOf (fun i => decide (32 * ((o - 0x400) / 4) + i ∈ t.brimPend)))
  else none

def viewCAPT (s : State) (o : Nat) : Option Word :=
  let r := s.recSlot (recSel_REC s)
  if o = 0x100 then some (word (satU 24 (captFree s)))
  else if o = 0x104 then some (word (recKeys s).length)
  else if o = 0x114 then some (match r with | some x => flds [(31, 1), (30, b2n x.openRec), (16, x.unit), (0, x.flags % 1024)] | none => 0)
  else if o = 0x118 then some (match r with | some x => lo32 (recAddr s x) | none => 0)
  else if o = 0x11C then some (match r with | some x => hi32 (recAddr s x) | none => 0)
  else if o = 0x120 then some (match r with | some x => word (satU 32 (if x.closed then x.len else x.pages * 4096)) | none => 0)
  else none

def viewCMP (s : State) (o : Nat) : Option Word :=
  let n := cmpSel_STREAM s
  let x := s.cmp n
  let g := x.cfg
  if o = 0x104 then some (flds [(31, b2n g.en), (16, g.blk), (0, g.flushMs)])
  else if o = 0x108 then some (word g.anchor)
  else if o = 0x10C then some (flds [(24, g.pred.getD 3 0), (16, g.pred.getD 2 0), (8, g.pred.getD 1 0), (0, g.pred.getD 0 0)])
  else if o = 0x110 then
    some (flds [(31, b2n x.suspended), (30, b2n x.waiting), (29, b2n x.ccIgnored), (24, ((s.members n).length - 1) % 4), (0, x.bseq % 2 ^ 16)])
  else if o = 0x114 then some (flds [(16, x.ovf), (0, x.inq.length)])
  else if o = 0x118 then some (lo32 x.blocks)
  else if o = 0x11C then some (word (satU 32 x.raws))
  else if o = 0x120 then some (lo32 x.inBytes)
  else if o = 0x124 then some x.latInHi
  else if o = 0x128 then some (lo32 x.outBytes)
  else if o = 0x12C then some x.latOutHi
  else if o = 0x134 then some (flds [(28, s.cmpc.rejReason), (0, s.cmpc.rejStream)])
  else if o = 0x138 then some (word (satU 32 s.cmpc.skip))
  else if o = 0x13C then some (flds [(31, b2n s.cmpc.srcSaved), (0, s.cmpc.srcStream)])
  else if 0x140 ≤ o then some (s.cmpc.window.getD ((o - 0x140) / 4) 0)
  else none

def viewQUE (s : State) (o : Nat) : Option Word :=
  let n := queSel_STREAM s
  let x := s.str n
  if o = 0x104 then some (flds [(31, b2n x.run), (30, b2n x.region.isSome), (29, b2n x.reading.isSome), (0, x.pseq % 2 ^ 16)])
  else if o = 0x108 then some (word (satU 32 (strFill x)))
  else if o = 0x10C then some (word (satU 32 (strRoom s n)))
  else if o = 0x118 then some (if x.desc.consumer = 3 then ((takeWord n s).1).getD 0 else 0)
  else if o = 0x11C then some (word (satU 16 (wordsAvail x)))
  else if o = 0x124 then some (flds [(28, s.store.queRejReason), (0, s.store.queRejStream)])
  else none

def viewSTORE (s : State) (o : Nat) : Option Word :=
  if o = 0x110 then some (lo32 s.store.lgWr)
  else if o = 0x114 then some (lo32 s.store.lgRd)
  else if o = 0x11C then some (word (satU 32 s.store.lgLost))
  else if o = 0x128 then
    let a := storeRdAddrLo_ADDR s * 4 + storeRdAddrHi_ADDR s * 2 ^ 32
    some (if s.dram.cap * 4096 ≤ a ∨ memBad s a then 0 else s.dramW a)
  else if o = 0x130 then some (word (satU 32 s.store.lgOfs))
  else none

def viewDRAM (s : State) (o : Nat) : Option Word :=
  let d := s.dram
  if o = 0x108 then some (flds [(28, d.rej), (8, b2n d.rank1Fail), (7, b2n d.panic), (6, b2n (d.selfref || decide (d.st ≠ 2))), (0, d.st)])
  else if o = 0x10C then some (word (satU 24 d.cap))
  else if o = 0x12C then some (word (satU 17 d.p0))
  else if o = 0x130 then some (s.rw 0x15130 ||| word (max d.post0 d.post1))
  else if 0x190 ≤ o ∧ o < 0x1A4 then
    let l := d.lanes.getD ((o - 0x190) / 4) {}
    some (flds [(24, l.rdDly % 256), (16, satU 8 l.rdEye), (8, l.wrDly % 256), (0, satU 8 l.wrEye)])
  else if o = 0x1B0 then some (flds [(16, d.uncorr), (0, d.corr)])
  else if o = 0x1B4 then some (lo32 d.eccAddr)
  else if o = 0x1B8 then some (flds [(31, b2n d.latched), (0, d.eccAddr / 2 ^ 32 % 4)])
  else none

def viewDMA (s : State) (o : Nat) : Option Word :=
  if o < 0x500 then
    let x := s.dmaCh ((o - 0x100) / 0x40)
    let r := o % 0x40
    if r = 0x14 then
      some (s.rw (0x16000 + o) ||| placeBit 3 (x.fin == some 0) ||| placeBit 1 (decide (x.st = 1) && x.causeS))
    else if r = 0x18 then
      some (flds [(12, x.err), (8, x.rej), (7, b2n x.late), (6, b2n x.desc), (5, b2n x.causeP), (4, b2n x.causeS), (0, x.st)])
    else if r = 0x1C then some (word x.flags)
    else none
  else if o = 0x504 then
    some (maskOf (fun c => decide (c < 16 ∧ (s.dmaCh c).st = 1)) ||| maskOf (fun c => decide (16 ≤ c ∧ (s.dmaCh (c - 16)).st = 2)))
  else none

def viewPCIE (s : State) (o : Nat) : Option Word :=
  let p := s.pcie
  if o = 0x100 then some (flds [(31, b2n p.up), (30, b2n p.bme), (28, p.dstate), (16, p.width)])
  else if o = 0xC00 then some (maskOf (fun v => decide (v ∈ s.msi.pba)))
  else none

def viewETH (s : State) (n o : Nat) : Option Word :=
  let x := s.eth n
  if o = 0x104 then some (flds [(8, x.speed), (2, b2n x.anFail), (1, b2n x.anDone), (0, b2n x.link)])
  else if o = 0x11C then some (word x.txHead)
  else if o = 0x12C then some (word x.rxHead)
  else if o = 0x140 then some (match x.tsq with | e :: _ => flds [(31, 1), (30, b2n e.ovf), (0, e.id)] | [] => 0)
  else if o = 0x144 then some (lo32 (tsSec x.tsLat))
  else if o = 0x148 then some (word (tsNs x.tsLat))
  else if o = 0x14C then some (flds [(16, tsSec x.tsLat / 2 ^ 32 % 2 ^ 16), (0, x.tsLat % 2 ^ 16)])
  else if o = 0x150 then some (flds [(16, x.tsDrop), (0, x.tsq.length)])
  else if o = 0x170 then some (flds [(24, x.rxFcs), (16, x.rxSize), (0, x.rxNobuf)])
  else if o = 0x178 then some (word x.cause)
  else none

/-- The W1S bits LN_CTL.RETRAIN, LN_PRBS.INJ_ONE and INJ_BURST read 1 until the bring-up or the injection has ended (R5). -/
def viewLANE (s : State) (n o : Nat) : Option Word :=
  let x := s.lane n
  if o = 0x104 then some (s.rw (0x20000 + 0x1000 * n + o) ||| placeBit 1 x.retrain)
  else if o = 0x160 then
    let run := decide (s.clk < x.injEnd)
    some (s.rw (0x20000 + 0x1000 * n + o) ||| placeBit 8 (run && !x.burst) ||| placeBit 9 (run && x.burst))
  else if o = 0x108 then
    some (flds [(28, x.rej), (16, b2n x.visorAbort), (15, b2n x.trainTmo), (14, b2n x.farReady), (13, b2n x.rxReady), (12, b2n x.frozen), (11, b2n x.rxSleep),
                (10, b2n x.txSleep), (9, b2n x.blk), (8, b2n x.cdr), (7, b2n x.pll), (0, laneState s n)])
  else if o = 0x10C then some (flds [(16, x.post), (8, 48 - x.pre - x.post), (0, x.pre)])
  else if o = 0x128 then some (flds [(16, x.lockLoss), (0, x.badHdr)])
  else if o = 0x140 then some (s.rw (0x20000 + 0x1000 * n + o) ||| placeBit 31 x.visor.isSome)
  else if o = 0x144 then some (lo32 x.visorErr)
  else if o = 0x148 then some (word (x.visorHi % 2 ^ 16))
  else if o = 0x164 then some (word (b2n x.prbsLock))
  else if o = 0x168 then some (word (satU 32 x.prbsErr))
  else none

/-- A TAP_REQ that asks, and is no answer of OP 3 (R386). -/
def isTapReq (f : UlkFrame) : Bool := decide (f.ftype = 10) && decide ((f.payload.getD 3 0).toNat % 4 ≠ 3)

/-- What ULK_n shows. ULK_TAP.GO reads 1 until its TAP_REQ has left for the link (R5, R386). -/
def viewULK (s : State) (n o : Nat) : Option Word :=
  let x := s.ulk n
  let r := s.ring
  let sc := s.sats.find? (fun c => decide (c.chan = 128 * (n - 2) + satSel_CH s n) && decide (2 ≤ n))
  if o = 0x104 then
    some (flds [(10, b2n (r.facing == some n)), (9, b2n x.sat), (8, b2n x.farBusy), (4, min 4 x.replay), (0, if x.wrapped then 2 else b2n x.up)])
  else if o = 0x108 then some (word (satU 32 (ulkDelay s n)))
  else if o = 0x110 then some (iword (ulkOfs s n))
  else if o = 0x118 then some (flds [(16, x.crcErr), (0, x.replays)])
  else if o = 0x11C then some (flds [(24, x.giveups), (16, x.badCtl), (8, x.ttlDrop), (0, x.dup)])
  else if o = 0x128 then some (word x.rxqWr)
  else if o = 0x134 then some (s.rw (0x30000 + 0x1000 * n + o) ||| placeBit 31 (x.queue.any isTapReq))
  else if o = 0x138 then some (match x.tapFar with | some (a, b) => flds [(31, 1), (16, b), (8, 48 - a - b), (0, a)] | none => 0)
  else if o = 0x154 then some (match sc with | some c => word c.rate | none => 0)
  else if o = 0x158 then some (match sc with | some c => word c.dps | none => 0)
  else if o = 0x15C then some (match sc with | some c => flds [(16, c.maxlat), (0, c.len)] | none => 0)
  else if 0x160 ≤ o ∧ o < 0x170 then some (x.satId.getD ((o - 0x160) / 4) 0)
  else if o = 0x170 then some (iword (satOfs s n))
  else if o = 0x204 then some (flds [(24, r.crownPri), (16, r.crownAddr), (8, r.dist), (1, b2n r.noCrown), (0, b2n r.crown)])
  else if 0x210 ≤ o ∧ o < 0x220 then some (word (r.crownId / 2 ^ (32 * ((o - 0x210) / 4)) % 2 ^ 32))
  else if o = 0x220 then some (word r.evt)
  else if o = 0x230 then some (s.rw 0x30230 ||| placeBit 31 r.mbBusy)
  else if o = 0x23C then some (flds [(31, b2n r.mbBusy), (0, r.mbResult)])
  else none

def viewMITT (s : State) (m o : Nat) : Option Word :=
  let x := s.mitt m
  if o = 0x108 then some (word (b2n x.waitApply))
  else if o = 0x120 then some (iword x.temp)
  else if o = 0x124 then some (flds [(3, b2n x.bCompl), (2, b2n x.aCompl), (1, b2n x.swapped), (0, b2n (decide (s.mittPend m ≠ x.app)))])
  else none

/-- The matched ratio and its convergence show on the even slice of a pair (R103). -/
def viewSLICE (s : State) (n o : Nat) : Option Word :=
  let x := s.slice n
  let k := tget keep0 x.keep x.slot
  let pair := s.leadsPair n
  if o = 0x108 then some (word (b2n x.applyAt.isSome))
  else if o = 0x10C then
    some (flds [(18, b2n (pair && decide (k.ratioCnt = 4096))), (17, b2n x.lowActive), (16, b2n x.ovlNow), (8, gainOf s n), (4, x.slot), (1, b2n x.applyRej), (0, b2n (s.slicePending n))])
  else if o = 0x194 then some (flds [(4, b2n x.exc.altOn), (3, b2n x.exc.ilim), (2, b2n x.exc.lockout), (1, b2n (x.exc.on && x.exc.reversed)), (0, b2n (x.exc.on || (s.vwDrive n).isSome))])
  else if o = 0x1C0 then some (if pair then word (satU 32 (k.ratio / 2 ^ 16)) else 0)
  else if o = 0x1C4 then some (word (satU 16 x.clean))
  else if o = 0x1C8 then some (word (satU 32 x.ovlCnt))
  else none

/-- The read-only and mixed registers of a page. -/
def viewBlock (s : State) (p o : Nat) : Option Word :=
  match blockOf p with
  | some 0x00 => viewSYS s o
  | some 0x01 => viewEVT s o
  | some 0x02 => viewPWR s o
  | some 0x03 => viewBGT s o
  | some 0x04 => viewTMR s o
  | some 0x05 => viewATT s o
  | some 0x06 => viewOTP s o
  | some 0x07 => viewMGMT s o
  | some 0x08 => viewTBASE s o
  | some 0x09 => viewSCHED s o
  | some 0x0A => viewAXIS s o
  | some 0x0B => viewTIU s o
  | some 0x0C => viewCAL s o
  | some 0x0D => viewFENG s o
  | some 0x0E => viewGRID s o
  | some 0x0F => viewLOOP s o
  | some 0x10 => viewTRIG s o
  | some 0x11 => viewCAPT s o
  | some 0x12 => viewCMP s o
  | some 0x13 => viewQUE s o
  | some 0x14 => viewSTORE s o
  | some 0x15 => viewDRAM s o
  | some 0x16 => viewDMA s o
  | some 0x17 => some (flds [(16, s.smp.frames), (8, s.smp.crcErr), (0, s.smp.aborts)])
  | some 0x18 => viewPCIE s o
  | some 0x19 => viewETH s (p - 0x19) o
  | some 0x20 => viewLANE s (p - 0x20) o
  | some 0x30 => viewULK s (p - 0x30) o
  | some 0x40 => viewMITT s (p - 0x40) o
  | some 0x80 => viewSLICE s (p - 0x80) o
  | _ => none

/-- What the register at a BAR_0 offset shows. -/
def viewReg (s : State) (a : Nat) : Word :=
  if a % 0x1000 < 0x100 then viewHdr s (a / 0x1000) (a % 0x1000)
  else (viewBlock s (a / 0x1000) (a % 0x1000)).getD (s.rw a)

end Sys2Proof.Machine
end

