-- ==== Sys2Proof/Machine/Bus.lean ====
section
/-! DEFINITION. The ways in: the common header, page resets, the effect of a write on each register, reads that change something, the
host window, the serial management port's frames, and what a remote access runs (R25 to R41, R450, R451). -/

namespace Sys2Proof.Machine

/-! ### The fabric after a change of enables or routes -/

/-- After a change of EVT_EN, EV_ROUTE or a ring enable: every vector whose level rose posts, and a rise of a wake source wakes the
hub (R41, R424). -/
def fabricSync (s0 s : State) : State :=
  let t := msiSync s0 s
  if (List.range 256).any (fun n => bit (t.rw (0x2140 + 4 * (n / 32))) (n % 32) && t.evLevel n && !(s0.evLevel n)) then wakeHub t else t

/-! ### Page resets (R30, R31) -/

/-- Pages without a page reset. -/
def noPageReset (p : Nat) : Bool :=
  decide (p = pSYS ∨ p = pEVT ∨ p = pOTP ∨ p = pTMR ∨ p = pTBASE ∨ p = pSCHED ∨ p = pAXIS)

/-- A page reset of PWR: requests that wait are withdrawn and a move into VIGIL or DORMANT is abandoned; a hub in TRIM, VIGIL or DORMANT
goes to RUN, its reset value; in SAFE it stays. -/
def pwrReset (s : State) : State :=
  let s1 := (List.range 33).foldl (fun a d =>
    if (a.dom d).waiting.isSome then dmaPwrFree d false (a.setDom d { a.dom d with waiting := none }) else a) s
  let s2 := { s1 with pwr := { s1.pwr with rej := 0, hintOff := [] } }
  match s2.pwr.move with
  | some m => if m.target = 2 ∨ m.target = 3 then { s2 with pwr := { s2.pwr with move := none, state := if m.old = 1 then 0 else m.old } } else s2
  | none =>
    if s2.pwr.state = 1 then { s2 with pwr := { s2.pwr with state := 0 } }
    else if s2.pwr.state = 2 ∨ s2.pwr.state = 3 then { s2 with pwr := { s2.pwr with move := some ⟨0, s2.pwr.state, s2.clk⟩ } }
    else s2

/-- A page reset of GRID: a skew measurement ends without results and the measured slices go back to their slots; the counts clear. -/
def gridReset (s : State) : State :=
  let ms := if s.align.run then (List.range 16).filter (fun m => s.align.measuring.testBit m) else []
  let s1 := { s with align := {} }
  ms.foldl (fun a m => (List.range 4).foldl (fun b i =>
    let n := 4 * m + i
    if aEN (b.slice n).app then startSlot n (b.slice n).slot b.st true b else b) (if (a.mitt m).waitApply then applyMitt m a else a)) s1

/-- A page reset of CMP (R273): what was being coded is accounted as PAGE_RESET; the streams' settings stay and each with EN 1 starts
again with FIRST. -/
def cmpReset (s : State) : State :=
  let ks := s.cmps.map (·.1)
  ks.foldl (fun a n =>
    let c := (s.cmp n).cfg
    if c.en then cmpMembers n (a.setCmp n { cfg := c, needFirst := true }) else a.setCmp n { cfg := c }) (cmpPageReset s)

/-- A page reset of BGT (R489). -/
def bgtReset (s : State) : State :=
  { s with bgt := { s.bgt with outcome := 0, reason := 0, lastKind := 0, lastReq := 0, granted := 0, refused := 0 } }

/-- A page reset of MGMT (R440). -/
def mgmtReset (s : State) : State :=
  let s1 := coreReset s
  { s1 with mgmt := { s1.mgmt with qfifo := [], qEnd := 0 } }

/-- What a page reset does to the block behind the page, beside its registers. -/
def blockReset (p : Nat) (s : State) : State :=
  match blockOf p with
  | some 0x02 => pwrReset s
  | some 0x03 => bgtReset s
  | some 0x05 => attReset s
  | some 0x07 => mgmtReset s
  | some 0x0B => tiuReset s
  | some 0x0C => calReset s
  | some 0x0D => fengReset s
  | some 0x0E => gridReset s
  | some 0x0F => loopReset s
  | some 0x10 => trigReset s
  | some 0x11 => captReset s
  | some 0x12 => cmpReset s
  | some 0x13 => queReset s
  | some 0x14 => storeReset s
  | some 0x15 => dramReset s
  | some 0x16 => dmaReset s
  | some 0x17 => { s with smp := {} }
  | some 0x18 => { s with msi := { s.msi with pba := [] } }
  | some 0x19 => ethReset (p - 0x19) s
  | some 0x20 =>
    let n := p - 0x20
    withLane n (fun a => let b := laneReset n a; if lnCfg_EN b n = 1 then laneBringUp n b else b) s
  | some 0x30 => ulkReset (p - 0x30) s
  | some 0x40 =>
    let m := p - 0x40
    s.setMitt m { isUp := (s.mitt m).isUp, upAt := (s.mitt m).upAt }
  | some 0x80 =>
    let s1 := sliceReset (p - 0x80) s
    if (s1.cal (p - 0x80)).running then calCancel (p - 0x80) s1 else s1
  | _ => s

/-- The contexts whose data path passes through a page. -/
def pathCtxs (s : State) (p : Nat) : List Nat :=
  (s.runCtxs (fun _ => true)).filter (fun c => decide (p ∈ pathPages s c (runDesc (s.ctx c))))

/-- A page reset begins: registers, latched events and the block's state go to their reset values; PAGE_LOCK and EVT_EN stay. The outputs of
the contexts on the page's path that have fallen due are delivered first (R30). In the hub's SAFE state a reset of LOOP does nothing (R410). -/
def pageReset (p : Nat) (s : State) : State :=
  if noPageReset p ∨ (s.page p).rstEnd.isSome ∨ (p = pLOOP ∧ s.pwr.state = 4) then s
  else
    let cs := pathCtxs s p
    let s0 := flushOutputs cs s
    blockReset p ((clearRegs p s0).setPage p { en := (s0.page p).en, rstEnd := some (s0.clk + 2000), rstCtx := cs })

/-- Whether a page's reset stops the input of the contexts on its path (R30): a slice's, and a remote channel's lane and link layer. -/
def stopsInput (p : Nat) : Bool := decide ((0x80 ≤ p ∧ p ≤ 0xBF) ∨ (0x20 ≤ p ∧ p ≤ 0x2B) ∨ (0x30 ≤ p ∧ p ≤ 0x37))

/-- The page reset ends: the outputs that fell due meanwhile are FILL, the contexts whose filter state or input the reset took resume with a
settling event (R30), CAL serves the due slices again and STORE writes the entries that fell due. -/
def pageResetEnd (p : Nat) (s : State) : State :=
  if (s.page p).rstEnd.isSome then
    let cs := (s.page p).rstCtx
    let s0 := flushOutputs cs s
    let s1 := s0.setPage p { s0.page p with rstEnd := none, rstCtx := [] }
    if p = pFENG then fengResume s1
    else if stopsInput p then cs.foldl (fun a c => settleEvent c a.st 0 false 0 a) s1
    else if p = pCAL then calServe s1
    else if p = pSTORE then ledgerDue s1
    else s1
  else s

/-- The page resets whose 2 µs have passed end. -/
def pageResetsEnd (s : State) : State :=
  (s.hdr.map (·.1)).foldl (fun a p => match (a.page p).rstEnd with
    | some t => if t ≤ a.clk then pageResetEnd p a else a
    | none => a) s

/-! ### The common header (R27 to R31) -/

/-- The bits below NEV of a page. -/
def nevMask (p : Nat) : Word := word (2 ^ blockNev ((blockOf p).getD 0xFF) - 1)

/-- Force local events (R29). -/
def evtForce (p : Nat) (v : Word) (s : State) : State :=
  (List.range 32).foldl (fun a b => if bit (v &&& nevMask p) b then raise p b a else a) s

/-- Clear latched events (R29). -/
def evtClear (p : Nat) (v : Word) (s : State) : State := s.setPage p { s.page p with stat := (s.page p).stat &&& ~~~v }

/-- Change EVT_EN. -/
def evtEnable (p : Nat) (v : Word) (s : State) : State := fabricSync s (s.setPage p { s.page p with en := v &&& nevMask p })

/-- A write of PAGE_LOCK (R28). -/
def lockWrite (p : Nat) (v : Word) (s : State) : State :=
  if fld v 31 16 ≠ 0x4C4B ∨ (s.lock p).sticky then s
  else (s.setLock p ⟨bit v 0 || bit v 1, bit v 1⟩).touch

/-- A write of PAGE_CTL: on a locked page a change of its LK fields, PAGE_RST among them, is refused (R26, R28); else PAGE_EN and BLK_CTL
are stored and PAGE_RST starts the reset. -/
def pageCtlWrite (src p : Nat) (v : Word) (s : State) : State :=
  let h := s.page p
  let rst := bit v 1 && !(noPageReset p)
  if (s.lock p).locked then
    if rst || bit v 0 != h.pageEn || decide (fld v 31 8 ≠ h.blkCtl) then lockedWrite src (p * 0x1000 + 0x010) s else s
  else
    let s1 := s.setPage p { h with pageEn := bit v 0, blkCtl := fld v 31 8 }
    if rst then pageReset p s1 else s1

/-- A write of a header register. -/
def hdrWrite (src p off : Nat) (v : Word) (s : State) : State :=
  if off = 0x010 then pageCtlWrite src p v s
  else if off = 0x024 then evtClear p v s
  else if off = 0x028 then evtEnable p v s
  else if off = 0x02C then evtForce p v s
  else if off = 0x030 then lockWrite p v s
  else s

/-! ### What a write of each block's registers does -/

/-- TBL_ADDR moves on by 4, wrapping (R33). -/
def tblAdvance (s : State) : State := s.setFld tblAddrAt 18 2 ((tblAddr_ADDR s + 1) % 2 ^ 17)

/-- A write of TBL_DATA. -/
def tblWrite (v : Word) (s : State) : State := tblAdvance (tblPuts (4 * tblAddr_ADDR s) [v] s)

/-- A read of TBL_DATA. -/
def tblRead (s : State) : State := (tblAdvance s).answer (viewReg s tblDataAt)

def wSYS (src o : Nat) (v : Word) (s : State) : State :=
  if o = 0x100 then (if fld v 15 0 = 0x5A17 then hubReset 4 true s else s)
  else if o = 0x124 then tblWrite v s
  else if o = 0x130 then (if bit v 0 then sysGo s else s)
  else if o = 0x13C then { s with boot := { s.boot with cause := (word s.boot.cause &&& ~~~v).toNat } }
  else storeReg src o v s

/-- MSI_EOI (R41). -/
def msiEoi (vec : Nat) (s : State) : State := if s.vecLevel vec then postVec vec s else s

def wEVT (src o : Nat) (v : Word) (s : State) : State :=
  if o = 0x144 then msiEoi (fld v 4 0) s
  else if 0x400 ≤ o then fabricSync s (storeReg src (0x1000 + o) v s)
  else storeReg src (0x1000 + o) v s

def wPWR (src o : Nat) (v : Word) (s : State) : State :=
  if o = 0x108 then (if fld v 2 0 ≤ 3 then pwrCmd (fld v 2 0) s else s)
  else if 0x200 ≤ o ∧ o < 0x300 then domCtl ((o - 0x200) / 4) v s
  else storeReg src (0x2000 + o) v s

def wBGT (src o : Nat) (v : Word) (s : State) : State :=
  if o = 0x120 then (if fld v 1 0 = 1 then bgtReserve s else if fld v 1 0 = 2 then bgtReleaseExc s else s)
  else if o = 0x104 then storeReg src (0x3000 + o) v (bgtDecay s)
  else storeReg src (0x3000 + o) v s

def wTMR (src o : Nat) (v : Word) (s : State) : State :=
  if o = 0x108 then (if fld v 2 0 = 1 then copyRestore (fld v 5 4) s else if fld v 2 0 = 2 then rotBegin s else s)
  else if o = 0x1C4 then (if bit v 31 then { s with tmr := { s.tmr with latched := false } } else s)
  else storeReg src (0x4000 + o) v s

def wATT (src o : Nat) (v : Word) (s : State) : State :=
  if o = 0x100 then (if fld v 9 8 = 1 then attExtend src (fld v 2 0) s else if fld v 9 8 = 2 then attQuote s else s)
  else storeReg src (0x5000 + o) v s

/-- A flash transaction whose returned bytes nothing states: they are open values. -/
def qspiFree (v : Word) (s : State) : State :=
  qspiGo v ((List.range 256).map (fun i => BitVec.ofNat 8 (Config.freeNat (s.freeCtr + i)))) { s with freeCtr := s.freeCtr + 256 }

def wMGMT (src o : Nat) (v : Word) (s : State) : State :=
  if o = 0x100 then (let s1 := storeReg src (0x7000 + o) v s; if bit v 1 then coreReset s1 else s1)
  else if o = 0x110 then qspiFree v s
  else if o = 0x118 then qspiPut v s
  else storeReg src (0x7000 + o) v s

/-- A write of PTP_OFS_AT_NS: the instant is recorded and VALID set (R399). -/
def ptpAtNs (src : Nat) (v : Word) (s : State) : State := storeReg src ptpOfsAtNsAt (v ||| 0x80000000#32) s

def wTBASE (src o : Nat) (v : Word) (s : State) : State :=
  if o = 0x100 then tbCtlWrite src v s
  else if o = 0x150 then { s with tb := { s.tb with ptpLo := v } }
  else if o = 0x154 then ptpOfsHi v s
  else if o = 0x15C then ptpAtNs src v s
  else if o = 0x168 then (if bit v 0 then stepGo (bit v 1) s else storeReg src (0x8000 + o) v s)
  else if o = 0x174 then tbLeap (storeReg src (0x8000 + o) v s)
  else storeReg src (0x8000 + o) v s

def wSCHED (src o : Nat) (v : Word) (s : State) : State :=
  if o = 0x100 then schedCtlWrite src v s else storeReg src (0x9000 + o) v s

def wAXIS (src o : Nat) (v : Word) (s : State) : State :=
  if o < 0x200 ∧ o % 0x40 = 0 then axCfgWrite src ((o - 0x100) / 0x40) v s
  else if o = 0x300 then
    (if fld v 17 16 = 1 then gridCmdStart (fld v 5 0) (bit v 8) s else if fld v 17 16 = 2 then gridCmdStop (fld v 5 0) s else s)
  else storeReg src (0xA000 + o) v s

def wTIU (src o : Nat) (v : Word) (s : State) : State :=
  if 0x200 ≤ o ∧ o % 0x40 = 0 then tiCfgWrite src ((o - 0x200) / 0x40) v s else storeReg src (0xB000 + o) v s

def wCAL (src o : Nat) (v : Word) (s : State) : State :=
  if o = 0x100 then calServe (storeReg src (0xC000 + o) v s)
  else if o = 0x110 then calForce false v s
  else if o = 0x114 then calForce true v s
  else storeReg src (0xC000 + o) v s

/-- A write of CTX_COMMIT: the context's commit is pending from now, unless one is already (R35, R36). -/
def commitAccept (c : Nat) (s : State) : State :=
  if (s.ctx c).pend.isSome then s else s.setCtx c { s.ctx c with pend := some s.st }

/-- A read of CTX_COMMIT_DONE (R37). -/
def commitPop (s : State) : State :=
  match s.feng.done with
  | e :: t => ({ s with feng := { s.feng with done := t, popIdx := e.idx } }).answer (viewReg s 0xD104)
  | [] => s.answer (viewReg s 0xD104)

def wFENG (src o : Nat) (v : Word) (s : State) : State :=
  if o = 0x100 then commitAccept (fld v 9 0) s
  else if o = 0x104 then (if bit v 29 then { s with feng := { s.feng with ovf := false } } else s)
  else storeReg src (0xD000 + o) v s

/-- SKEW_CMD.GO with readings that nothing states. -/
def skewFree (s : State) : State :=
  if s.align.run then s else skewGo (skewMask_MASK s) (skewOpen s) { s with freeCtr := s.freeCtr + 64 }

/-- A write of SKEW_n while a measurement runs is ignored and raises LOCK_WRITE (R172). -/
def wGRID (src o : Nat) (v : Word) (s : State) : State :=
  if o = 0x100 then (if bit v 0 then skewFree s else s)
  else if 0x200 ≤ o ∧ s.align.run then raise pSYS 1 s
  else storeReg src (0xE000 + o) v s

def wLOOP (src o : Nat) (v : Word) (s : State) : State :=
  let n := (o - 0x100) / 0x40
  let r := o % 0x40
  if 0x500 ≤ o then storeReg src (0xF000 + o) v s
  else if r = 0 then lpCmd n (fld v 2 0) s
  else if r = 0x08 then s.setLoop n { s.loop n with flags := (word (s.loop n).flags &&& ~~~v).toNat }
  else
    let s1 := storeReg src (0xF000 + o) v s
    if fdMax s1 n < fdMin s1 n then raise pSYS 1 s else s1

def wTRIG (src o : Nat) (v : Word) (s : State) : State :=
  if o = 0x100 then
    let u := fld v 4 0
    let op := fld v 18 16
    if op = 1 then trigCmdArm u s
    else if op = 2 then trigCmdDisarm u s
    else if op = 3 then forceUnit u s.st 0x11 s
    else if op = 4 then stopUnit u (s.st + usU) s
    else s
  else if 0x400 ≤ o then
    let b := 32 * ((o - 0x400) / 4)
    { s with trig := { s.trig with brimPend := s.trig.brimPend.filter (fun c => !(decide (b ≤ c ∧ c < b + 32) && bit v (c - b))) } }
  else storeReg src (0x10000 + o) v s

/-- REC_CMD: free a closed record's slot, refused for one that is open or reserved (R250). -/
def recFree (n : Nat) (s : State) : State :=
  match s.recSlot n with
  | some r =>
    if r.closed then raise pCAPT 6 ({ s with store := { s.store with rsvRecs := s.store.rsvRecs.filter (fun x => decide (x.1 ≠ n)) } }.setRec n none)
    else raise pCAPT 7 s
  | none => s

def wCAPT (src o : Nat) (v : Word) (s : State) : State :=
  if o = 0x124 then (if fld v 9 8 = 1 then recFree (fld v 7 0) s else s) else storeReg src (0x11000 + o) v s

/-- CMP_ANCHOR and CMP_PRED of the selected stream. -/
def cmpAnchorWrite (v : Word) (s : State) : State :=
  let n := cmpSel_STREAM s
  s.setCmp n { s.cmp n with cfg := { (s.cmp n).cfg with anchor := fld v 7 0 } }
def cmpPredWrite (v : Word) (s : State) : State :=
  let n := cmpSel_STREAM s
  s.setCmp n { s.cmp n with cfg := { (s.cmp n).cfg with pred := (List.range 4).map (fun i => fld v (8 * i + 4) (8 * i)) } }

def wCMP (src o : Nat) (v : Word) (s : State) : State :=
  if o = 0x104 then cmpCfgWrite v s
  else if o = 0x108 then cmpAnchorWrite v s
  else if o = 0x10C then cmpPredWrite v s
  else if o = 0x130 then
    let n := fld v 6 0
    let op := fld v 18 16
    if op = 1 then cmpFlush n s else if op = 2 then cmpSave n s else if op = 3 then cmpRestore n s else if op = 4 then cmpResume n s else s
  else if 0x140 ≤ o then { s with cmpc := { s.cmpc with window := s.cmpc.window.set ((o - 0x140) / 4) v } }
  else storeReg src (0x12000 + o) v s

def wQUE (src o : Nat) (v : Word) (s : State) : State :=
  if o = 0x120 then
    let n := fld v 6 0
    let op := fld v 18 16
    if op = 1 then queStart n s else if op = 2 then queStop n s else if op = 3 then queDrop n s
    else if op = 4 then queRewind n s else if op = 5 then queFree n s else s
  else storeReg src (0x13000 + o) v s

def wSTORE (src o : Nat) (v : Word) (s : State) : State :=
  if o = 0x10C then (if bit v 0 then partApply s else s)
  else if o = 0x114 then { s with store := { s.store with lgRd := v.toNat } }
  else if o = 0x12C then storeXfer (fld v 18 16) (fld v 7 0) s
  else storeReg src (0x14000 + o) v s

def wDRAM (src o : Nat) (v : Word) (s : State) : State :=
  if o = 0x104 then (if fld v 1 0 = 1 then drTrainCmd (dmaHolds s 18) s else if fld v 1 0 = 2 then drTrackCmd s else s)
  else if o = 0x1B8 then (if bit v 31 then { s with dram := { s.dram with latched := false } } else s)
  else storeReg src (0x15000 + o) v s

/-- SRC, DST and COUNT cannot be written while the channel runs or is paused. -/
def wDMA (src o : Nat) (v : Word) (s : State) : State :=
  let c := (o - 0x100) / 0x40
  let r := o % 0x40
  let busy := decide ((s.dmaCh c).st = 1 ∨ (s.dmaCh c).st = 2)
  if 0x500 ≤ o then storeReg src (0x16000 + o) v s
  else if r = 0x14 then dmaCtl c v s
  else if r = 0x1C then s.setDma c { s.dmaCh c with flags := (word (s.dmaCh c).flags &&& ~~~v).toNat }
  else if r < 0x14 ∧ busy then s
  else storeReg src (0x16000 + o) v s

/-- A write of a vector control word of the MSI-X table: unmasking posts a message that is pending (R41). -/
def msixCtl (src vec : Nat) (v : Word) (s : State) : State :=
  let was := s.vecMasked vec
  let s1 := storeReg src (0x1880C + 0x10 * vec) v s
  if was && !(s1.vecMasked vec) && decide (vec ∈ s.msi.pba) then
    let s2 := { s1 with msi := { s1.msi with pba := s1.msi.pba.filter (fun x => decide (x ≠ vec)) } }
    if s2.vecLevel vec then postVec vec s2 else s2
  else s1

def wPCIE (src o : Nat) (v : Word) (s : State) : State :=
  if 0x800 ≤ o ∧ o < 0xA00 ∧ o % 0x10 = 0x0C then msixCtl src ((o - 0x800) / 0x10) v s else storeReg src (0x18000 + o) v s

def wETH (src n o : Nat) (v : Word) (s : State) : State :=
  if o = 0x118 then txTail n v s
  else if o = 0x128 then rxTail n v s
  else if o = 0x178 then s.setEth n { s.eth n with cause := (word (s.eth n).cause &&& ~~~v).toNat }
  else storeReg src ((0x19 + n) * 0x1000 + o) v s

/-- Lanes 10 and 11 are the PCIe endpoint's: disabling lane 10 takes the link down (R353). -/
def wLANE (src n o : Nat) (v : Word) (s : State) : State :=
  if o = 0x100 then
    let s1 := withLane n (lnCfgWrite n v) s
    if n = 10 ∧ lnCfg_EN s1 10 = 0 ∧ s1.pcie.up then pcieDown s1 else s1
  else if o = 0x104 then withLane n (lnCtlWrite n v) s
  else if o = 0x140 then withLane n (lnVisorWrite n v) s
  else if o = 0x160 then withLane n (lnPrbsWrite n v) s
  else storeReg src ((0x20 + n) * 0x1000 + o) v s

def wULK (src n o : Nat) (v : Word) (s : State) : State :=
  let a := (0x30 + n) * 0x1000 + o
  if o = 0x100 then ulkCfgWrite n (storeReg src a v s)
  else if o = 0x12C then rxqRead n v s
  else if o = 0x134 then ulkTapWrite n v s
  else if 0x140 ≤ o ∧ o < 0x150 then satEnWrite n ((o - 0x140) / 4) v s
  else if o = 0x220 then { s with ring := { s.ring with evt := (word s.ring.evt &&& ~~~v).toNat } }
  else if o = 0x224 then fabricSync s (storeReg src a v s)
  else if o = 0x230 then mbCtlWrite v s
  else storeReg src a v s

/-- MT_CMD.APPLY: within 2 µs, or when a skew measurement of the mitten has ended (R85, R172). -/
def mtApply (m : Nat) (s : State) : State :=
  if s.align.run && s.align.measuring.testBit m then s.setMitt m { s.mitt m with waitApply := true } else applyMitt m s

def wMITT (src m o : Nat) (v : Word) (s : State) : State :=
  if o = 0x108 then
    let s1 := if bit v 0 then mtApply m s else s
    if bit v 1 then mittSwap m s1 else s1
  else storeReg src ((0x40 + m) * 0x1000 + o) v s

/-- SL_CMD.APPLY (R85). -/
def slApply (n : Nat) (s : State) : State := s.setSlice n { s.slice n with applyAt := some ((s.slice n).applyAt.getD s.st) }

/-- EXC_CTL.REARM (R90). -/
def excRearm (n : Nat) (s : State) : State :=
  let x := s.slice n
  s.setSlice n { x with exc := { x.exc with lockout := false, ilim := false, afterLock := x.exc.lockout || x.exc.afterLock } }

def wSLICE (src n o : Nat) (v : Word) (s : State) : State :=
  if o = 0x108 then (if bit v 0 then slApply n s else s)
  else if o = 0x190 then (if bit v 0 then excRearm n s else s)
  else storeReg src ((0x80 + n) * 0x1000 + o) v s

/-- The effect of a sound write on a register from offset 0x100 on. -/
def regEffect (src a : Nat) (v : Word) (s : State) : State :=
  let p := a / 0x1000
  let o := a % 0x1000
  match blockOf p with
  | some 0x00 => wSYS src o v s
  | some 0x01 => wEVT src o v s
  | some 0x02 => wPWR src o v s
  | some 0x03 => wBGT src o v s
  | some 0x04 => wTMR src o v s
  | some 0x05 => wATT src o v s
  | some 0x07 => wMGMT src o v s
  | some 0x08 => wTBASE src o v s
  | some 0x09 => wSCHED src o v s
  | some 0x0A => wAXIS src o v s
  | some 0x0B => wTIU src o v s
  | some 0x0C => wCAL src o v s
  | some 0x0D => wFENG src o v s
  | some 0x0E => wGRID src o v s
  | some 0x0F => wLOOP src o v s
  | some 0x10 => wTRIG src o v s
  | some 0x11 => wCAPT src o v s
  | some 0x12 => wCMP src o v s
  | some 0x13 => wQUE src o v s
  | some 0x14 => wSTORE src o v s
  | some 0x15 => wDRAM src o v s
  | some 0x16 => wDMA src o v s
  | some 0x18 => wPCIE src o v s
  | some 0x19 => wETH src (p - 0x19) o v s
  | some 0x20 => wLANE src (p - 0x20) o v s
  | some 0x30 => wULK src (p - 0x30) o v s
  | some 0x40 => wMITT src (p - 0x40) o v s
  | some 0x80 => wSLICE src (p - 0x80) o v s
  | _ => storeReg src a v s

/-- A write at a BAR_0 offset (R25, R26): only whole aligned words act, an unsound access is reported and ignored, header registers and
block registers have their effects. -/
def busWrite (src a : Nat) (v : Word) (s : State) : State :=
  onWrite src a (if a % 0x1000 < 0x100 then hdrWrite src (a / 0x1000) (a % 0x1000) v else regEffect src a v) s

/-- A new MTIMECMP: the machine timer interrupt stands while MTIME ≥ MTIMECMP (R453). -/
def setMtimecmp (c : Nat) (s : State) : State := { s with mgmt := { s.mgmt with mtimecmp := c, timer := decide (c ≤ mtime s) } }

/-- The management core's local registers (R453): MTIMECMP and IE. -/
def coreLocal (o : Nat) (v : Word) (s : State) : State :=
  let m := s.mgmt
  if o = 0x008 then setMtimecmp (m.mtimecmp / 2 ^ 32 * 2 ^ 32 + v.toNat) s
  else if o = 0x00C then setMtimecmp (m.mtimecmp % 2 ^ 32 + 2 ^ 32 * v.toNat) s
  else if 0x200 ≤ o ∧ o < 0x220 ∧ o % 4 = 0 then { s with mgmt := { m with ie := m.ie.set ((o - 0x200) / 4) v } }
  else s

/-- A register write as it arrives: with byte enables, and from the core also to its local registers (R25). A write with fewer than four byte enables
is ignored wherever it goes: R25 is taken to govern before the checks of R26, so it raises no BAD_ACCESS (DESIGN CHOICE, log entry 112). -/
def anyWrite (src a be : Nat) (v : Word) (s : State) : State :=
  if src = 3 ∧ 0xF0000000 ≤ a then coreLocal (a - 0xF0000000) v s
  else if be % 16 ≠ 15 ∨ a % 4 ≠ 0 ∨ 0x100000 ≤ a then s
  else busWrite src a v s

/-! ### Reads that change something -/

/-- A sound read of a register: its answer, and what the read changes. -/
def readEffect (src a : Nat) (s : State) : State :=
  let p := a / 0x1000
  let o := a % 0x1000
  let v := viewReg s a
  if a = tblDataAt then tblRead s
  else if a = 0xD104 then commitPop s
  else if a = 0x8110 then stRead s
  else if p = pAXIS ∧ o < 0x200 ∧ o % 0x40 = 0x10 then
    let n := (o - 0x100) / 0x40
    (s.setAxis n { s.axis n with latPosHi := hi32 (posBits (s.axis n).pos) }).answer v
  else if p = pAXIS ∧ o < 0x200 ∧ o % 0x40 = 0x18 then
    let n := (o - 0x100) / 0x40
    (s.setAxis n { s.axis n with latMaxHi := hi32 (posBits (s.axis n).max) }).answer v
  else if a = 0x6108 then otpDataRead s
  else if a = 0xE114 then ({ s with align := { s.align with latDelayHi := hi32 (s.alignDelay (alignSel_CTX s)) } }).answer v
  else if p = pTIU ∧ 0x200 ≤ o ∧ o % 0x40 = 0x10 then tiRead ((o - 0x200) / 0x40) s
  else if a = 0x1011C then
    let t := (s.trigUnit (trigSel_UNIT s)).lastT
    ({ s with trig := { s.trig with latSecHi := hi32 (secOf t), latNs := word (nsOf t) } }).answer v
  else if a = 0x12120 then
    let n := cmpSel_STREAM s
    (s.setCmp n { s.cmp n with latInHi := hi32 (s.cmp n).inBytes }).answer v
  else if a = 0x12128 then
    let n := cmpSel_STREAM s
    (s.setCmp n { s.cmp n with latOutHi := hi32 (s.cmp n).outBytes }).answer v
  else if a = 0x13118 then queRead s
  else if a = 0x14128 then rdData src s
  else if 0x20 ≤ p ∧ p < 0x2C ∧ o = 0x144 then
    let n := p - 0x20
    (s.setLane n { s.lane n with visorHi := (s.lane n).visorErr / 2 ^ 32 }).answer v
  else if (p = 0x19 ∨ p = 0x1A) ∧ o = 0x140 then txtsRead (p - 0x19) s
  else if a = 0x4110 then ({ s with tmr := { s.tmr with levelNs := nsOf s.tmr.levelAt } }).answer v
  else if a = 0x7118 then (let r := qspiTake s; r.2.answer r.1)
  else s.answer v

/-- A read at a BAR_0 offset: an unsound one reads 0 and is reported (R26). -/
def busRead (src a : Nat) (s : State) : State := onRead src a (readEffect src a) s

/-! ### The host window (R32) -/

/-- Whether BAR_2 shows the table region at an offset. -/
def inAperture (s : State) (off : Nat) : Bool := decide (bar2Cfg_TBL_APER s = 1 ∧ 0x380000 ≤ off ∧ off < 0x400000)

/-- A write through BAR_2 of at most 256 bytes: what falls into the aperture goes to the table region, the rest to the host window (R32).
The core reaches the same memory by its own addresses. -/
def bar2Write (src off : Nat) (bs : List Byte) (s : State) : State :=
  if 256 < bs.length then s
  else if src = 3 then (if off + bs.length ≤ tblBase + 0x80000 then sramPut off bs s else s)
  else if 0x400000 < off + bs.length then s
  else if bar2Cfg_TBL_APER s = 1 then
    let n := 0x380000 - off
    sramPut (tblBase + (max off 0x380000 - 0x380000)) (bs.drop n) (sramPut off (bs.take n) s)
  else sramPut off bs s

/-- A word read through BAR_2. -/
def bar2Word (s : State) (off : Nat) : Word :=
  if inAperture s off then (if off - 0x380000 < 0x58000 then s.tblW (off - 0x380000) else 0) else s.sramW off

/-! ### The serial management port (R450, R451) -/

/-- A word's bytes, most significant first. -/
def beWord (w : Word) : List Nat := [fld w 31 24, fld w 23 16, fld w 15 8, fld w 7 0]

/-- One word read by the port at its address: the word, and whether R26 met it. -/
def smpWord (a : Nat) (s : State) : Word × Bool × State :=
  if a < 0x100000 then
    let s1 := busRead 2 a s
    (s1.lastRead.headD 0, (s.accessFault a).isSome, s1)
  else (bar2Word s (a - 0x400000), false, s)

/-- The words of a read frame, `step` bytes apart: what was read, whether any met R26. -/
def smpWords (a step : Nat) : Nat → State → List Word × Bool × State
  | 0, s => ([], false, s)
  | k + 1, s =>
    let r := smpWord a s
    let q := smpWords (a + step) step k r.2.2
    (r.1 :: q.1, r.2.1 || q.2.1, q.2.2)

/-- Whether `n` words at an address lie in what the port reaches. -/
def smpRange (a n : Nat) : Bool := decide (a + 4 * n ≤ 0x100000) || decide (0x400000 ≤ a ∧ a + 4 * n ≤ 0x800000)

/-- A frame has ended: it is counted, and its response leaves. -/
def smpAnswer (out : List Nat) (words : List Word) (s : State) : State :=
  { s with smp := { s.smp with frames := satInc 16 s.smp.frames, out := out }, lastRead := words }

/-- The response to a read frame. -/
def smpReply (status : Nat) (ws : List Word) (s : State) : State :=
  let b := status :: ws.flatMap beWord
  smpAnswer (b ++ [crc16 b / 256 % 256, crc16 b % 256]) ws s

/-- Count a frame whose CRC was wrong. -/
def smpCrc (s : State) : State := raise pSMP 1 { s with smp := { s.smp with crcErr := satInc 8 s.smp.crcErr } }

/-- The bytes b0 to b4 of a frame: its operation, address and word count less 1 (R450). -/
def smpHead (op addr nm1 : Nat) : List Nat := [op, addr / 2 ^ 16 % 256, addr / 2 ^ 8 % 256, addr % 256, nm1]

/-- READ and FIXED READ: `op` is the frame's first byte, `good` the read operation the command stands for, `crc` the CRC-16 it carries. -/
def smpRead (good op addr nm1 crc : Nat) (s : State) : State :=
  let n := nm1 + 1
  let a := addr % 2 ^ 24 / 4 * 4
  let zero := List.replicate n (0 : Word)
  if crc ≠ crc16 (smpHead op addr nm1) then smpReply 1 zero (smpCrc s)
  else if op ≠ good then smpReply 4 zero s
  else if !(smpRange a (if good = 3 then 1 else n)) then smpReply 3 zero s
  else
    let r := smpWords a (if good = 3 then 0 else 4) n s
    smpReply (if r.2.1 then 2 else 0) r.1 r.2.2

/-- Write a frame's words, in order. -/
def smpPut (a : Nat) (ws : List Word) (s : State) : State :=
  if a < 0x100000 then ((List.range ws.length).zip ws).foldl (fun t x => busWrite 2 (a + 4 * x.1) x.2 t) s
  else ((List.range ws.length).zip ws).foldl (fun t x => bar2Write 2 (a - 0x400000 + 4 * x.1) (wsBytes [x.2]) t) s

/-- WRITE. -/
def smpWrite (op addr : Nat) (ws : List Word) (crc : Nat) (s : State) : State :=
  let a := addr % 2 ^ 24 / 4 * 4
  let reply (st : Nat) (t : State) : State := smpAnswer [st, 255 - st] [] t
  if crc ≠ crc16 (smpHead op addr (ws.length - 1) ++ ws.flatMap beWord) then reply 1 (smpCrc s)
  else if op ≠ 2 then reply 4 s
  else if ws = [] ∨ 256 < ws.length ∨ !(smpRange a ws.length) then reply 3 s
  else reply 0 (smpPut a ws s)

/-- Take `k` words from a stream's head: the words, how many there were. -/
def takeWords (n : Nat) : Nat → State → List Word × Nat × State
  | 0, s => ([], 0, s)
  | k + 1, s =>
    let r := takeWord n s
    let q := takeWords n k r.2
    (r.1.getD 0 :: q.1, (if r.1.isSome then 1 else 0) + q.2.1, q.2.2)

/-- STREAM READ. -/
def smpStream (op addr nm1 crc : Nat) (s : State) : State :=
  let n := nm1 + 1
  let k := addr % 128
  let zero := List.replicate n (0 : Word)
  if crc ≠ crc16 (smpHead op addr nm1) then smpReply 1 zero (smpCrc s)
  else if op ≠ 4 then smpReply 4 zero s
  else if (s.str k).desc.consumer ≠ 3 then smpReply 5 zero s
  else
    let r := takeWords k n s
    smpReply (if r.2.1 < n then 5 else 0) r.1 r.2.2

/-- SMP_CS_N rises before a frame has ended. -/
def smpAbort (s : State) : State := raise pSMP 0 { s with smp := { s.smp with aborts := satInc 8 s.smp.aborts } }

/-! ### What a remote access runs (R387) -/

/-- A remote read: result, data. -/
def remoteRead (a : Nat) (s : State) : Nat × Word × State :=
  let a := a / 4 * 4
  let s1 := busRead 0 a s
  (if (s.accessFault a).isSome then 4 else 0, s1.lastRead.headD 0, { s1 with lastRead := s.lastRead })
/-- A remote write. -/
def remoteWrite (a : Nat) (v : Word) (s : State) : Nat × Word × State :=
  let a := a / 4 * 4
  (if (s.accessFault a).isSome then 4 else 0, 0, busWrite 0 a v s)

end Sys2Proof.Machine
end

