-- ==== Sys2Proof/Machine/Events.lean ====
section
/-! DEFINITION. The operations behind the time-driven and pin-driven commands that no block's file holds yet: conversion boundaries,
excitation limits, decimator outputs, trigger silences, record limits, a step of structure time, pins. -/

namespace Sys2Proof.Machine

/-! ### Conversion boundaries (R85, R88) -/

/-- The instant at which a change of slice `n` asked for at `ask` acts, where that instant has come: at once with no conversion running, at the
start of the conversion that began at or after `ask` in single-cycle mode, and at a decimator output in FIR mode, whose decimator runs on
through a slot's SETTLE wait (R83, R85). -/
def convAt (s : State) (n ask : Nat) : Option Nat :=
  let x := s.slice n
  let now := if ask ≤ s.st then some s.st else none
  if s.sliceOff n then now
  else if s.sliceSc n then
    match x.conv with
    | some (e, _) => if ask ≤ e * 2 ^ 16 ∧ e * 2 ^ 16 ≤ s.st then some (e * 2 ^ 16) else none
    | none => now
  else
    let per := s.sliceDec n * modCyc * 2 ^ 16
    let b := cdiv ask per * per
    if b ≤ s.st then some b else none

/-- A pending apply of a slice takes effect (R85): 1 µs or more after its acceptance, and never while the slice recalibrates (R121). -/
def slApplyNow (n : Nat) (s : State) : State :=
  match (s.slice n).applyAt with
  | none => s
  | some a =>
    if s.calibrating n then s
    else match convAt s n (if s.sliceOff n then a else a + usU) with
      | some t => applySlice n t s
      | none => s

/-- A pending excitation change is applied (R88). -/
def excNow (n : Nat) (s : State) : State :=
  let x := s.slice n
  match x.exc.pend with
  | none => s
  | some chg =>
    let s1 := s.setSlice n { x with exc := { x.exc with pend := none } }
    if s.sliceOff n then s1
    else match convAt s n x.exc.pendAt with
      | some t => excApply n t chg s1
      | none => s

/-! ### Excitation limits (R89, R90) -/

/-- An EXC_OFF asked for under 20 µs after its EXC_ON takes effect (R89). -/
def excMinEnd (n : Nat) (s : State) : State :=
  let e := (s.slice n).exc
  if e.on ∧ e.offPend ∧ e.onAt + 20 * usU ≤ s.st then excOffAt n (e.onAt + 20 * usU) s else s

/-- When a slice's polarity segment reaches EXC_MAXW (R89). -/
def segEnd (x : SliceSt) : Nat := x.exc.segAt + max 20 (min 1000000 (fld x.app.maxw 19 0)) * usU

/-- An EXC_OFF or EXC_REV entry for slice `n` that falls due at the instant `t` and has not executed yet. -/
def excEntryAt (s : State) (n t : Nat) : Bool :=
  decide (schedCtl_RUN s ≠ 0) && s.sched.ents.any (fun x => match x.2 with
    | some e => decide ((schACTION e.content = 3 ∨ schACTION e.content = 4) ∧ schTARGET e.content = n ∧ (if schAXIS e.content = 0 then e.next = (t : Int) else e.dueAt = some t))
    | none => false)

/-- Whether an EXC_OFF or EXC_REV is applied at the instant `t`, and so decides in place of EXC_MAXW (R91): one that waits for the boundary
at `t`, an EXC_OFF held to the end of its 20 µs, or an entry due then. -/
def excDecides (s : State) (n t : Nat) : Bool :=
  let e := (s.slice n).exc
  (match e.pend with | some (.on _) => false | some _ => decide (convAt s n e.pendAt = some t) | none => false)
    || (e.offPend && decide (e.onAt + 20 * usU = t)) || (!(eALIGN (s.slice n).app.exc) && excEntryAt s n t)

/-- A polarity segment reaches EXC_MAXW (R89, R91). -/
def excMaxw (n : Nat) (s : State) : State :=
  let t := segEnd (s.slice n)
  if (s.slice n).exc.on ∧ t ≤ s.st ∧ !(excDecides s n t) then raise (pSLICE n) 3 (excCut n t 1 s) else s

/-- The driver has limited its current for 1 ms: in voltage mode the generator goes off and is locked out (R90); in a vibrating-wire sequence a drive
stops, and in the quiet time and listening the lockout alone is set (R201). -/
def excIlim (n : Nat) (s : State) : State :=
  let x := s.slice n
  if x.exc.on ∧ eMODE (excDrv x) = 1 then
    let s1 := excCut n s.st 2 s
    raise (pSLICE n) 1 (s1.setSlice n { s1.slice n with exc := { (s1.slice n).exc with lockout := true, ilim := true, pend := none } })
  else if vwHolds s n then
    let s1 := vwSafety n s
    raise (pSLICE n) 1 (s1.setSlice n { s1.slice n with exc := { (s1.slice n).exc with lockout := true, ilim := true } })
  else s

/-- A legacy source leaves its compliance range (R92). -/
def mtCompl (m : Nat) (b : Bool) (s : State) : State :=
  let x := s.mitt m
  if bit (if b then x.app.b else x.app.a) 16 then
    raise (pMITT m) 1 (s.setMitt m (if b then { x with bCompl := true } else { x with aCompl := true }))
  else s

/-! ### Outputs of a slice -/

/-- A decimator output of a slice at or after its instant (R108). Of a slice in FIR mode that is on it goes to the contexts, the thermistor's end and
the loops (R152, R201, R203); while the slice recalibrates, its decimator runs at D = 256, and an output that ends where one of those does is that
one, which the recalibration takes (R117). A slice that delivers nothing in FIR mode counts its outputs at D = 256. -/
def decimated (n j : Nat) (src : ConvSrc) (s : State) : State :=
  let idle := s.sliceOff n || s.sliceSc n
  let dd := if idle then 256 else s.sliceDec n
  if s.st < j * dd * modCyc * 2 ^ 16 then s
  else
    let s1 := if s.calibrating n && decide (j * dd % 256 = 0) then calFeed n (j * dd / 256) src s else s
    if idle then s1
    else
      let r := if s.calibrating n then (0, false) else convCode s n 5 dd src
      loopTap n j (thermEnd n (decOutput n j r.1 r.2 s1))

/-- A single-cycle conversion ends; a thermistor slot's first one ends its excitation (R147, R201). -/
def scEnded (n : Nat) (src : ConvSrc) (s : State) : State :=
  let x := s.slice n
  let s1 := scDone n src s
  match x.therm, x.conv with
  | some j, some c =>
    if x.slot = j ∧ (s1.slice n).conv ≠ some c then excOffEntry n s.st (s1.setSlice n { s1.slice n with therm := none }) else s1
  | _, _ => s1

/-- The next output of a context that is no detector (R164, R165). -/
def ctxResOutput (c : Nat) (s : State) : State := if dKIND (firstRun s c).1.desc = 2 then s else ctxOutput c s

/-- The next output of a detector context (R150). -/
def ctxDetOutput (c : Nat) (s : State) : State := if dKIND (firstRun s c).1.desc = 2 then ctxOutput c s else s

/-! ### Triggers and records -/

/-- A slot's context has delivered nothing for 1 s of ST: the slot no longer holds back the unit's decision (R236). -/
def slotSilence (u i : Nat) (s : State) : State :=
  let x := s.trigUnit u
  match x.slots[i]? with
  | none => s
  | some q =>
    if x.armed && slEN x.desc i && slCtx x.desc i && !q.silent && decide (q.lastAt + secU ≤ s.st) then
      decideUnit u 64 (s.setUnit u { x with slots := x.slots.set i { q with silent := true } })
    else s

/-- MAXDUR seconds after the trigger point the record closes with TIMEOUT (R245). -/
def recMaxdur (u : Nat) (s : State) : State :=
  let x := s.trigUnit u
  match x.opened with
  | some o => if o.maxdur ≠ 0 ∧ o.t + o.maxdur * secU ≤ s.st then closeRec u 8 s else s
  | none => s

/-! ### A step of structure time (R49) -/

/-- The accepted step takes effect: ST, the TIU's pending instants and the schedule follow it. -/
def stepDone (s : State) : State :=
  match s.tb.step with
  | none => s
  | some r =>
    let s1 := stepApply r s
    schedSkip (tiuStep ((s1.st : Int) - s.st) s1)

/-! ### Values of control registers as a write of one bit leaves them -/

/-- PAGE_CTL as it stands, with PAGE_RST. -/
def pageRstWord (s : State) (p : Nat) : Word := viewReg s (p * 0x1000 + 0x010) ||| 2#32

/-- A register's stored word with further bits set. -/
def State.orWord (s : State) (a b : Nat) : Word := s.rw a ||| word b

/-- LN_CTL with TX_SLEEP as given. -/
def txSleepWord (b : Bool) : Word := if b then 1#32 else 0#32

/-- DMA CTL as it stands, with a command bit. -/
def dmaCtlWord (s : State) (c b : Nat) : Word := (s.rw (dmaCtlAt c) &&& 0x1F770#32) ||| word (2 ^ b)

/-! ### Supplies -/

/-- VDD_EXC crosses 4.60 V (R464). -/
def excSupply (low : Bool) (s : State) : State := { s with supply := { s.supply with excLow := low } }

/-! ### The timebase edge (R43) -/

/-- ST and the edge count move on: by 1 ns of nominal clock corrected by FREQ. -/
def edge (s : State) : State := { s with st := ((s.st : Int) + 2 ^ 48 + s.tb.freq).toNat, clk := s.clk + 1 }

/-- What one timebase clock edge with no command waiting does: time moves on, and what acts of itself with no row of its own acts. -/
def idleTick (s : State) : State :=
  if s.supply.held then s
  else recFlush (strSweep (cmpSweep (schedReserved (angleStep (startTick (bootFinish (copyStep (ulkService (crownUpdate (skewEnd (vwOff (refSilence (loneStops (pageResetsEnd (edge (calSweep s))))))))))))))))

/-- Run a command's effect; while a reset is held nothing acts (R463). -/
def act (f : State → State) (s : State) : Host.Outcome State Fault Refusal := .next (if s.supply.held then s else f s)

end Sys2Proof.Machine
end

