-- ==== Sys2Proof/Machine/ExecBoot.lean ====
section
/-! DEFINITION. What the commands of start-up, resets, the host ports and the pins do, one definition a command. -/

namespace Sys2Proof.Machine

/-- POR_N (R435): POR_N rises and the hub runs its start-up sequence from step 3. -/
def execPorN (s : State) : Host.Outcome State Fault Refusal :=
  act (hubReset 1 false) s

/-- RST_N (R441): RST_N held low resets the hub as POR_N, keeping TMR retirement and reset causes. -/
def execRstN (s : State) : Host.Outcome State Fault Refusal :=
  act (hubReset 2 true) s

/-- SYS_RESET (R441): A write of 0x5A17 to SYS_RESET starts a software full reset. -/
def execSysReset (src : Src) (s : State) : Host.Outcome State Fault Refusal :=
  act (fun s => busWrite src.code (0x100) (0x5A17) s) s

/-- SYS_START_GO (R437): A write of SYS_START.GO ends step 7 and starts training, bring-up and time acquisition. -/
def execSysStartGo (src : Src) (s : State) : Host.Outcome State Fault Refusal :=
  act (fun s => busWrite src.code (0x130) (1) s) s

/-- START_LANE_TIMEOUT (R436): LANE_MS after GO the lane step ends with LANE_LATE set. -/
def execStartLaneTimeout (s : State) : Host.Outcome State Fault Refusal :=
  act (laneLate) s

/-- START_TIME_TIMEOUT (R436): TIME_S after GO the time step ends with TIME_LATE set. -/
def execStartTimeTimeout (s : State) : Host.Outcome State Fault Refusal :=
  act (timeLate) s

/-- MGMT_CTL_RESET (R440): A write of MGMT_CTL.RESET restarts the core in the boot ROM and re-measures MEAS_0. -/
def execMgmtCtlReset (src : Src) (s : State) : Host.Outcome State Fault Refusal :=
  act (fun s => busWrite src.code (0x7100) (s.orWord 0x7100 2) s) s

/-- ATT_CMD_EXTEND (R442): an ATT_CMD EXTEND from the core extends a measurement register, or is refused. -/
def execAttCmdExtend (src : Src) (index : Fin 8) (s : State) : Host.Outcome State Fault Refusal :=
  act (fun s => busWrite src.code (0x5100) (word (2 ^ 8 + index.val)) s) s

/-- ATT_CMD_QUOTE (R443): an ATT_CMD QUOTE snapshots the measurements and nonce and starts a signed quote. -/
def execAttCmdQuote (src : Src) (s : State) : Host.Outcome State Fault Refusal :=
  act (fun s => busWrite src.code (0x5100) (word (2 ^ 9)) s) s

/-- ATT_QUOTE_DONE (R445): the quote is filled and signed and ATT_DONE is raised. -/
def execAttQuoteDone (s : State) : Host.Outcome State Fault Refusal :=
  act (attDone) s

/-- PCIE_HOT_RESET (R449): A hot reset, FLR or link disable resets the configuration space and PCIE page. -/
def execPcieHotReset (kind : Fin 3) (s : State) : Host.Outcome State Fault Refusal :=
  act (pcieReset kind.val) s

/-- PCIE_LINK_CHANGE (R449): the PCIe link goes up or down. -/
def execPcieLinkChange (up : Bool) (width : Fin 3) (s : State) : Host.Outcome State Fault Refusal :=
  act (pcieLink up width.val) s

/-- PCIE_CONFIG_REQUEST (R446): A configuration request is answered, or retried until the image starts or is found missing. -/
def execPcieConfigRequest (wr : Bool) (addr : BitVec 12) (be : Fin 16) (val : Word) (s : State) : Host.Outcome State Fault Refusal :=
  act (cfgRequest wr addr.toNat be.val val) s

/-- QSPI_CMD_GO (R452): A write of QSPI_CMD.GO runs a flash transaction. -/
def execQspiCmdGo (src : Src) (val : Word) (back : List Byte) (s : State) : Host.Outcome State Fault Refusal :=
  act (onWrite src.code 0x7110 (qspiGo (val ||| 0x80000000#32) back)) s

/-- MTIME_COMPARE (R453): MTIME reaching MTIMECMP raises the machine timer interrupt. -/
def execMtimeCompare (s : State) : Host.Outcome State Fault Refusal :=
  act (mtimeHit) s

/-- VDD_CORE_LOW (R463): VDD_CORE below 0.74 V for 1 µs acts as POR_N low. -/
def execVddCoreLow (s : State) : Host.Outcome State Fault Refusal :=
  act (coreLow) s

/-- AVDD_LOW (R464): AVDD below 4.60 V for 10 µs turns off every mitten, excitation and legacy source. -/
def execAvddLow (s : State) : Host.Outcome State Fault Refusal :=
  act (avddLow) s

/-- AVDD_LOW_CLEAR (R464): AVDD above 4.70 V for 1 ms clears AVDD_LOW and the held mittens come up. -/
def execAvddLowClear (s : State) : Host.Outcome State Fault Refusal :=
  act (avddBack) s

/-- PPS_OUT_PULSE (R471): ST reaching a whole second by counting starts a PPS_OUT pulse. -/
def execPpsOutPulse (s : State) : Host.Outcome State Fault Refusal :=
  act (ppsRise) s

/-- PPS_OUT_PULSE_END (R471): WIDTH_MS of ST after its start a PPS_OUT pulse ends. -/
def execPpsOutPulseEnd (s : State) : Host.Outcome State Fault Refusal :=
  act (ppsFall) s

/-- VDD_CORE_IN_RANGE (R463): VDD_CORE back in range for 1 ms after a dip ends the internal reset and starts the start-up sequence. -/
def execVddCoreInRange (s : State) : Host.Outcome State Fault Refusal :=
  .next (coreBack s)

/-- EXC_LOW (R464): VDD_EXC crossing 4.60 V sets or clears SYS_SUPPLY.EXC_LOW. -/
def execExcLow (low : Bool) (s : State) : Host.Outcome State Fault Refusal :=
  act (excSupply low) s

end Sys2Proof.Machine
end

