-- ==== Sys2Proof/Machine/ExecBus.lean ====
section
/-! DEFINITION. What the commands of the register file, descriptor tables, commits and message vectors do, one definition a command. -/

namespace Sys2Proof.Machine

/-- REGISTER_WRITE (R26): A write to a register that has no row of its own is checked against unused pages, unassigned offsets, domain off, page reset and locked fields, and then applied. -/
def execRegisterWrite (src : Src) (addr : Word) (be : Fin 16) (val : Word) (s : State) : Host.Outcome State Fault Refusal :=
  act (anyWrite src.code addr.toNat be.val val) s

/-- PAGE_RST (R30): A write of PAGE_RST starts a page reset that returns the block's state and registers to reset values, keeping what the block's chapter names. -/
def execPageRst (src : Src) (page : Fin 256) (s : State) : Host.Outcome State Fault Refusal :=
  act (fun s => busWrite src.code (page.val * 0x1000 + 0x010) (pageRstWord s page.val) s) s

/-- PAGE_RESET_END (R30): A page reset ends within 2 µs; RST_BUSY clears and the contexts on the page's path resume with a settling event. -/
def execPageResetEnd (page : Fin 256) (s : State) : Host.Outcome State Fault Refusal :=
  act (pageResetEnd page.val) s

/-- PAGE_LOCK_WRITE (R28): A keyed write to PAGE_LOCK unlocks, locks or sticky-locks the page; while STICKY is 1 every write is ignored. -/
def execPageLockWrite (src : Src) (page : Fin 256) (val : Word) (s : State) : Host.Outcome State Fault Refusal :=
  act (fun s => busWrite src.code (page.val * 0x1000 + 0x030) (val) s) s

/-- EVT_STAT_CLEAR (R29): A W1C write to EVT_STAT clears the latched event bits, except a bit whose event occurs again in the same cycle. -/
def execEvtStatClear (src : Src) (page : Fin 256) (val : Word) (s : State) : Host.Outcome State Fault Refusal :=
  act (fun s => busWrite src.code (page.val * 0x1000 + 0x024) (val) s) s

/-- EVT_FORCE (R29): A write of 1 to an EVT_FORCE bit sets the matching EVT_STAT bit. -/
def execEvtForce (src : Src) (page : Fin 256) (val : Word) (s : State) : Host.Outcome State Fault Refusal :=
  act (fun s => busWrite src.code (page.val * 0x1000 + 0x02C) (val) s) s

/-- TBL_DATA_ACCESS (R33): A read or write of TBL_DATA accesses the table-region word at TBL_ADDR and then advances TBL_ADDR by 4, wrapping. -/
def execTblDataAccess (src : Src) (wr : Bool) (val : Word) (s : State) : Host.Outcome State Fault Refusal :=
  act (if wr then busWrite src.code tblDataAt val else busRead src.code tblDataAt) s

/-- BAR2_WRITE (R32): A write through BAR_2 reaches the host window or, under TBL_APER, the descriptor tables, subject to the rules of each table. -/
def execBar2Write (src : Src) (off : Nat) (bytes : List Byte) (s : State) : Host.Outcome State Fault Refusal :=
  act (bar2Write src.code off bytes) s

/-- CTX_COMMIT (R35): A write of CTX_COMMIT freezes the context's shadow descriptor and schedules the commit for the context's next safe point. -/
def execCtxCommit (src : Src) (ctx : Fin 1024) (s : State) : Host.Outcome State Fault Refusal :=
  act (fun s => busWrite src.code (0xD100) (word ctx.val) s) s

/-- CTX_COMMIT_SAFE_POINT (R35): at the safe point, the pending commit is judged and either takes effect whole or is rejected, and a completion entry is queued. -/
def execCtxCommitSafePoint (ctx : Fin 1024) (s : State) : Host.Outcome State Fault Refusal :=
  act (commitAtPoint ctx.val) s

/-- CTX_COMMIT_DONE_POP (R37): A read of CTX_COMMIT_DONE pops the oldest completion entry and loads the index registers. -/
def execCtxCommitDonePop (src : Src) (s : State) : Host.Outcome State Fault Refusal :=
  act (busRead src.code (0xD104)) s

/-- MSI_EOI (R41): A write to MSI_EOI ends service of a vector and posts its message again if the vector's level is still high. -/
def execMsiEoi (src : Src) (vec : Fin 32) (s : State) : Host.Outcome State Fault Refusal :=
  act (fun s => busWrite src.code (0x1144) (word vec.val) s) s

/-- MSIX_UNMASK (R41): unmasking a vector in the MSI-X table posts its message if its pending level is still high. -/
def execMsixUnmask (src : Src) (vec : Fin 32) (s : State) : Host.Outcome State Fault Refusal :=
  act (fun s => busWrite src.code (0x1880C + 0x10 * vec.val) (0) s) s

end Sys2Proof.Machine
end

