-- ==== Sys2Proof/Machine/ExecCal.lean ====
section
/-! DEFINITION. What the commands of trim, temperature and calibration do, one definition a command. -/

namespace Sys2Proof.Machine

/-- MT_TEMP_UPDATE (R96): the mitten temperature sensor updates MT_TEMP every 10 ms. -/
def execMtTempUpdate (mitten : Fin 16) (temp : Int) (s : State) : Host.Outcome State Fault Refusal :=
  act (mittTemp mitten.val temp) s

/-- OTP_DATA_READ (R111): A read of OTP_DATA returns the word at OTP_ADDR and advances or wraps OTP_ADDR. -/
def execOtpDataRead (src : Src) (s : State) : Host.Outcome State Fault Refusal :=
  act (busRead src.code (0x6108)) s

/-- CAL_MAX_AGE_EXPIRY (R113): CAL_MAX_AGE hours since the last successful recalibration make a slice due. -/
def execCalMaxAgeExpiry (slice : Fin 64) (s : State) : Host.Outcome State Fault Refusal :=
  act (calAge slice.val) s

/-- CAL_FORCE (R113): A write of a CAL_FORCE bit makes the slice due regardless of AUTO_EN and open records. -/
def execCalForce (src : Src) (hi : Bool) (val : Word) (s : State) : Host.Outcome State Fault Refusal :=
  act (fun s => busWrite src.code (if hi then 0xC114 else 0xC110) (val) s) s

/-- CAL_RETRY (R114): after RETRY_S seconds the supervisor asks again for leave, or a failed slice becomes due again. -/
def execCalRetry (slice : Fin 64) (s : State) : Host.Outcome State Fault Refusal :=
  act (calRetry slice.val) s

/-- CAL_DEFER_EXPIRED (R116): 600 s after becoming due a deferred slice proceeds despite open records, which then carry STALE. -/
def execCalDeferExpired (slice : Fin 64) (s : State) : Host.Outcome State Fault Refusal :=
  act (fun s => calServe (calExpire slice.val s)) s

/-- CAL_START (R117): at gap start t0 after a grant, the slice disconnects its inputs and runs its offset and gain trials. -/
def execCalStart (slice : Fin 64) (s : State) : Host.Outcome State Fault Refusal :=
  act (calStart slice.val) s

/-- CAL_END (R118): at t1 the recalibration result is kept or reverted and decimator outputs reach contexts again. -/
def execCalEnd (slice : Fin 64) (ofsTrials gainTrials gainMean ofsMean : Int) (s : State) : Host.Outcome State Fault Refusal :=
  act (calEnd slice.val (calSaid ofsTrials gainTrials gainMean ofsMean)) s

/-- MITT_REFERENCE_SETTLED (R113): 200 ms after a mitten domain comes up, its reference has settled and the start-up recalibration of its slices asks for leave. -/
def execMittReferenceSettled (mitten : Fin 16) (s : State) : Host.Outcome State Fault Refusal :=
  act (mittSettled mitten.val) s

end Sys2Proof.Machine
end

