-- ==== Sys2Proof/Machine/ExecCmp.lean ====
section
/-! DEFINITION. What the commands of compression do, one definition a command. -/

namespace Sys2Proof.Machine

/-- CMP_CFG_WRITE (R266): A write of CMP_CFG.EN starts or stops compression of a stream. -/
def execCmpCfgWrite (src : Src) (val : Word) (s : State) : Host.Outcome State Fault Refusal :=
  act (fun s => busWrite src.code (0x12104) (val) s) s

/-- CMP_BLOCK_START (R267): A compressed block starts once the stream queue has room for its worst case. -/
def execCmpBlockStart (stream : Fin 128) (s : State) : Host.Outcome State Fault Refusal :=
  act (cmpStart stream.val) s

/-- CMP_BLOCK_COMMIT (R267): A coded or raw block is committed to the stream queue whole. -/
def execCmpBlockCommit (stream : Fin 128) (s : State) : Host.Outcome State Fault Refusal :=
  act (cmpCommit stream.val) s

/-- CMP_CMD_FLUSH (R269): A CMP_CMD FLUSH ends the present block early. -/
def execCmpCmdFlush (src : Src) (stream : Fin 128) (s : State) : Host.Outcome State Fault Refusal :=
  act (fun s => busWrite src.code (0x12130) (word (1 * 2 ^ 16 + stream.val)) s) s

/-- CMP_CMD_SAVE (R272): A CMP_CMD SAVE flushes and suspends the stream and copies its state into the window. -/
def execCmpCmdSave (src : Src) (stream : Fin 128) (s : State) : Host.Outcome State Fault Refusal :=
  act (fun s => busWrite src.code (0x12130) (word (2 * 2 ^ 16 + stream.val)) s) s

/-- CMP_CMD_RESTORE (R273): A CMP_CMD RESTORE loads the state window into a suspended stream, or refuses it. -/
def execCmpCmdRestore (src : Src) (stream : Fin 128) (s : State) : Host.Outcome State Fault Refusal :=
  act (fun s => busWrite src.code (0x12130) (word (3 * 2 ^ 16 + stream.val)) s) s

/-- CMP_CMD_RESUME (R272): A CMP_CMD RESUME continues a suspended stream on its own state. -/
def execCmpCmdResume (src : Src) (stream : Fin 128) (s : State) : Host.Outcome State Fault Refusal :=
  act (fun s => busWrite src.code (0x12130) (word (4 * 2 ^ 16 + stream.val)) s) s

/-- CMP_FLUSH_AGE (R269): A block still open FLUSH_MS after its first word is flushed. -/
def execCmpFlushAge (stream : Fin 128) (s : State) : Host.Outcome State Fault Refusal :=
  act (cmpAge stream.val) s

end Sys2Proof.Machine
end

