-- ==== Sys2Proof/Machine/ExecDma.lean ====
section
/-! DEFINITION. What the commands of the block mover do, one definition a command. -/

namespace Sys2Proof.Machine

/-- DMA_CTL_START (R325): A CTL.START begins a transfer, or refuses it with a reason. -/
def execDmaCtlStart (src : Src) (chan : Fin 16) (s : State) : Host.Outcome State Fault Refusal :=
  act (fun s => busWrite src.code (dmaCtlAt chan.val) (dmaCtlWord s chan.val 0) s) s

/-- DMA_CTL_PAUSE (R327): A CTL.PAUSE drains the channel to its next burst boundary and pauses it. -/
def execDmaCtlPause (src : Src) (chan : Fin 16) (s : State) : Host.Outcome State Fault Refusal :=
  act (fun s => busWrite src.code (dmaCtlAt chan.val) (dmaCtlWord s chan.val 1) s) s

/-- DMA_CTL_RESUME (R327): A CTL.RESUME clears the software pause cause and lets the channel run again. -/
def execDmaCtlResume (src : Src) (chan : Fin 16) (s : State) : Host.Outcome State Fault Refusal :=
  act (fun s => busWrite src.code (dmaCtlAt chan.val) (dmaCtlWord s chan.val 2) s) s

/-- DMA_CTL_ABORT (R328): A CTL.ABORT ends the transfer as ABORTED before its commit point, or as DONE with ABORT_LATE after it. -/
def execDmaCtlAbort (src : Src) (chan : Fin 16) (s : State) : Host.Outcome State Fault Refusal :=
  act (fun s => busWrite src.code (dmaCtlAt chan.val) (dmaCtlWord s chan.val 3) s) s

/-- DMA_BURST_READ (R323): A channel's turn issues a read burst into its holding register. -/
def execDmaBurstRead (chan : Fin 16) (s : State) : Host.Outcome State Fault Refusal :=
  act (dmaBurst chan.val) s

/-- DMA_READ_COMPLETE (R323): A read burst completes and the holding register is written out. -/
def execDmaReadComplete (chan : Fin 16) (data : List Byte) (ok : Bool) (errs : List (Nat × Bool)) (s : State) : Host.Outcome State Fault Refusal :=
  act (dmaRead chan.val data ok errs) s

/-- DMA_WRITE_ACK (R324): A write is acknowledged and SRC, DST and COUNT advance. -/
def execDmaWriteAck (chan : Fin 16) (s : State) : Host.Outcome State Fault Refusal :=
  act (dmaAck chan.val) s

/-- DMA_HOST_TIMEOUT (R330): A host read without completion for DMA_TMO ends the transfer with TIMEOUT. -/
def execDmaHostTimeout (chan : Fin 16) (idle : Nat) (s : State) : Host.Outcome State Fault Refusal :=
  act (dmaTimeout chan.val idle) s

/-- DMA_PAUSE_SLOW (R331): A channel not paused 16 µs after a power request raises DMA_PAUSE_SLOW. -/
def execDmaPauseSlow (dom : Fin 33) (s : State) : Host.Outcome State Fault Refusal :=
  act (dmaPwrSlow dom.val) s

/-- PWR_DENIED_BUSY (R331): 100 µs after a power request with a channel still not paused, the request is refused and the channels resume. -/
def execPwrDeniedBusy (dom : Fin 33) (s : State) : Host.Outcome State Fault Refusal :=
  act (pwrDeniedBusy dom.val) s

end Sys2Proof.Machine
end

