-- ==== Sys2Proof/Machine/ExecDram.lean ====
section
/-! DEFINITION. What the commands of the external memory do, one definition a command. -/

namespace Sys2Proof.Machine

/-- DR_CMD_TRAIN (R306): A DR_CMD TRAIN requests memory training and asks for leave, or is refused. -/
def execDrCmdTrain (src : Src) (s : State) : Host.Outcome State Fault Refusal :=
  act (fun s => busWrite src.code (0x15104) (1) s) s

/-- DRAM_TRAIN (R304): from the leave grant the controller resets, levels, sweeps and checks the memory and opens its ports. -/
def execDramTrain (found : DrFound) (s : State) : Host.Outcome State Fault Refusal :=
  act (drTrain found) s

/-- DRAM_TRAIN_RETRY (R304): 1 s after a refused leave the controller asks again. -/
def execDramTrainRetry (s : State) : Host.Outcome State Fault Refusal :=
  act (drRetry) s

/-- DR_CMD_TRACK (R307): A DR_CMD TRACK runs one tracking round. -/
def execDrCmdTrack (src : Src) (s : State) : Host.Outcome State Fault Refusal :=
  act (fun s => busWrite src.code (0x15104) (2) s) s

/-- DRAM_TRACK_ROUND (R307): every TRACK_MS a tracking round moves each lane's read gate and delay towards the re-measured centre. -/
def execDramTrackRound (centres : List Nat) (s : State) : Host.Outcome State Fault Refusal :=
  act (drTrack centres) s

/-- DRAM_ZQCS (R307): every ZQ_MS the controller issues ZQCS to each rank. -/
def execDramZqcs (s : State) : Host.Outcome State Fault Refusal :=
  act (drZqcs) s

/-- DRAM_REFRESH (R314): each tREFI a rank receives a REF, postponed during panic up to 8. -/
def execDramRefresh (rank : Fin 2) (s : State) : Host.Outcome State Fault Refusal :=
  act (drRefresh rank.val) s

/-- DRAM_SCRUB (R317): every SCRUB_US the controller reads one burst and writes back corrected beats. -/
def execDramScrub (errs : List (Nat × Bool)) (s : State) : Host.Outcome State Fault Refusal :=
  act (drScrub errs) s

/-- DRAM_PORT_REQUEST (R312): A port request is accepted by the arbiter and served in order, with forwarding and ECC. -/
def execDramPortRequest (port : Fin 4) (write : Bool) (addr : BitVec 34) (bytes : List Byte) (mask : Word) (errs : List (Nat × Bool)) (s : State) : Host.Outcome State Fault Refusal :=
  act (drRequest ⟨port.val, write, addr.toNat / 32 * 32, bytes, mask.toNat⟩ errs) s

/-- DRAM_WRITE_DRAIN (R310): the write queue drains between WQ_HI and WQ_LO, and panic ends when the P0 buffer falls to PANIC_CLR. -/
def execDramWriteDrain (s : State) : Host.Outcome State Fault Refusal :=
  act (drDrain) s

/-- DRAM_SR_ENTER (R318): on request the controller finishes writes, precharges and enters self-refresh. -/
def execDramSrEnter (s : State) : Host.Outcome State Fault Refusal :=
  act (srEnter) s

/-- DRAM_SR_EXIT (R318): on request the controller leaves self-refresh, runs a tracking round and opens its ports. -/
def execDramSrExit (centres : List Nat) (s : State) : Host.Outcome State Fault Refusal :=
  act (srExit centres) s

end Sys2Proof.Machine
end

