-- ==== Sys2Proof/Machine/ExecEth.lean ====
section
/-! DEFINITION. What the commands of the Ethernet ports do, one definition a command. -/

namespace Sys2Proof.Machine

/-- ETH_LINK_CHANGE (R388): the MAC's link state changes after auto-negotiation or in-band status. -/
def execEthLinkChange (port : Fin 2) (up : Bool) (speed : Fin 4) (anDone : Bool) (anFail : Bool) (sent : Nat) (s : State) : Host.Outcome State Fault Refusal :=
  act (ethLink port.val up speed.val anDone anFail sent) s

/-- ETH_FRAME_RX (R393): A received frame is filtered, timestamped and stored in the receive ring, or dropped. -/
def execEthFrameRx (port : Fin 2) (frame : List Byte) (fcs : Word) (ts : Nat) (s : State) : Host.Outcome State Fault Refusal :=
  act (ethRx port.val frame fcs ts) s

/-- ETH_TX_TAIL_WRITE (R392): A write of ETH_TX_TAIL hands transmit descriptors to the hub. -/
def execEthTxTailWrite (src : Src) (port : Fin 2) (val : Word) (s : State) : Host.Outcome State Fault Refusal :=
  act (fun s => busWrite src.code ((0x19 + port.val) * 0x1000 + 0x118) (val) s) s

/-- ETH_RX_TAIL_WRITE (R392): A write of ETH_RX_TAIL hands receive descriptors to the hub. -/
def execEthRxTailWrite (src : Src) (port : Fin 2) (val : Word) (s : State) : Host.Outcome State Fault Refusal :=
  act (fun s => busWrite src.code ((0x19 + port.val) * 0x1000 + 0x128) (val) s) s

/-- ETH_FRAME_TX (R397): A frame leaves the ball, its descriptor is written back and a timestamp is queued. -/
def execEthFrameTx (port : Fin 2) (ts : Nat) (s : State) : Host.Outcome State Fault Refusal :=
  act (ethTx port.val ts) s

/-- ETH_TXTS_W0_READ (R397): A read of ETH_TXTS_W0 pops the oldest transmit timestamp. -/
def execEthTxtsW0Read (src : Src) (port : Fin 2) (s : State) : Host.Outcome State Fault Refusal :=
  act (busRead src.code ((0x19 + port.val) * 0x1000 + 0x140)) s

end Sys2Proof.Machine
end

