-- ==== Sys2Proof/Machine/ExecFilter.lean ====
section
/-! DEFINITION. What the commands of context outputs and the skew measurement do, one definition a command. -/

namespace Sys2Proof.Machine

/-- CONTEXT_OUTPUT (R164): the resampler completes a context's output for a grid index, tags it and passes it to brims, triggers, records and streams. -/
def execContextOutput (ctx : Fin 1024) (s : State) : Host.Outcome State Fault Refusal :=
  act (ctxResOutput ctx.val) s

/-- DETECTOR_OUTPUT (R150): A detector context forms its value from the source outputs of its interval. -/
def execDetectorOutput (ctx : Fin 1024) (s : State) : Host.Outcome State Fault Refusal :=
  act (ctxDetOutput ctx.val) s

/-- SKEW_CMD_GO (R170): A write of SKEW_CMD.GO runs the skew measurement on the masked mittens. -/
def execSkewCmdGo (src : Src) (found : List (Nat × Option Int)) (s : State) : Host.Outcome State Fault Refusal :=
  act (fun s => onWrite src.code 0xE100 (skewGo (skewMask_MASK s) found) s) s

end Sys2Proof.Machine
end

