-- ==== Sys2Proof/Machine/ExecLane.lean ====
section
/-! DEFINITION. What the commands of the serial lanes do, one definition a command. -/

namespace Sys2Proof.Machine

/-- LN_CFG_WRITE (R354): A write of LN_CFG is accepted or refused whole, and a rise of EN starts a bring-up. -/
def execLnCfgWrite (src : Src) (lane : Fin 12) (val : Word) (s : State) : Host.Outcome State Fault Refusal :=
  act (fun s => busWrite src.code ((0x20 + lane.val) * 0x1000 + 0x100) (val) s) s

/-- LN_CTL_RETRAIN (R337): A write of LN_CTL.RETRAIN starts a full bring-up. -/
def execLnCtlRetrain (src : Src) (lane : Fin 12) (s : State) : Host.Outcome State Fault Refusal :=
  act (fun s => busWrite src.code ((0x20 + lane.val) * 0x1000 + 0x104) (s.orWord (lnCtlAt lane.val) 2) s) s

/-- LN_CTL_TX_SLEEP (R350): A write of LN_CTL.TX_SLEEP asks the transmitter to sleep or withdraws the request. -/
def execLnCtlTxSleep (src : Src) (lane : Fin 12) (sleep : Bool) (s : State) : Host.Outcome State Fault Refusal :=
  act (fun s => busWrite src.code ((0x20 + lane.val) * 0x1000 + 0x104) (txSleepWord sleep) s) s

/-- LANE_PLL_LOCK (R337): the serial PLL locks and the lane sends IDLE while seeking lock. -/
def execLanePllLock (lane : Fin 12) (s : State) : Host.Outcome State Fault Refusal :=
  act (withLane lane.val (lanePll lane.val)) s

/-- LANE_BLOCK_LOCK (R335): 64 consecutive valid headers give block lock and the lane enters TRAINING. -/
def execLaneBlockLock (lane : Fin 12) (s : State) : Host.Outcome State Fault Refusal :=
  act (withLane lane.val (laneLock lane.val)) s

/-- TRAIN_BLOCK_RX (R341): A received TRAIN block applies a tap request, reports status and advances the exchange. -/
def execTrainBlockRx (lane : Fin 12) (blk : LineBlk) (ask : Fin 32) (askPreset : Fin 4) (s : State) : Host.Outcome State Fault Refusal :=
  act (withLane lane.val (lineRx lane.val blk ask.val askPreset.val)) s

/-- LN_TRAIN_TIMEOUT (R342): TRAIN_TMO after block lock the lane enters UP with the taps in force. -/
def execLnTrainTimeout (lane : Fin 12) (s : State) : Host.Outcome State Fault Refusal :=
  act (withLane lane.val (laneTrainTmo lane.val)) s

/-- LANE_LOCK_LOSS (R343): an UP lane losing block lock enters LOCKING and raises LN_DOWN. -/
def execLaneLockLoss (lane : Fin 12) (bad : Nat) (s : State) : Host.Outcome State Fault Refusal :=
  act (withLane lane.val (laneLoss lane.val bad)) s

/-- LANE_RELOCK_EXPIRY (R343): without relock within RELOCK_MS a full bring-up follows. -/
def execLaneRelockExpiry (lane : Fin 12) (s : State) : Host.Outcome State Fault Refusal :=
  act (withLane lane.val (laneRelockEnd lane.val)) s

/-- LANE_LEAVE_RETRY (R338): 1 s after a refused leave the lane asks again. -/
def execLaneLeaveRetry (lane : Fin 12) (s : State) : Host.Outcome State Fault Refusal :=
  act (withLane lane.val (laneRetry lane.val)) s

/-- KEEPALIVE_TX (R344): after 32 idle blocks the transmitter sends a keep-alive data block. -/
def execKeepaliveTx (lane : Fin 12) (s : State) : Host.Outcome State Fault Refusal :=
  act (keepAliveTx lane.val) s

/-- LANE_ADAPT_FREEZE (R344): 1 024 blocks without a data block freeze the receiver's adaptation. -/
def execLaneAdaptFreeze (lane : Fin 12) (s : State) : Host.Outcome State Fault Refusal :=
  act (withLane lane.val (laneFreeze lane.val)) s

/-- SLEEP_BLOCK_RX (R350): A received SLEEP block puts the receiver to sleep with its lock state kept. -/
def execSleepBlockRx (lane : Fin 12) (s : State) : Host.Outcome State Fault Refusal :=
  act (withLane lane.val (laneRxSleep lane.val)) s

/-- LANE_TX_WAKE (R351): with every sleep request withdrawn, the transmitter wakes and sends 256 IDLE blocks. -/
def execLaneTxWake (lane : Fin 12) (s : State) : Host.Outcome State Fault Refusal :=
  act (withLane lane.val (laneTxWake lane.val)) s

/-- LN_VISOR_GO (R346): A write of LN_VISOR.GO starts an eye scan, or is refused. -/
def execLnVisorGo (src : Src) (lane : Fin 12) (val : Word) (s : State) : Host.Outcome State Fault Refusal :=
  act (fun s => busWrite src.code ((0x20 + lane.val) * 0x1000 + 0x140) (val ||| 0x80000000#32) s) s

/-- LN_VISOR_DONE (R346): the scan compares 2^LOG2N bits and ends, or stops early with VISOR_ABORT. -/
def execLnVisorDone (lane : Fin 12) (errs : Nat) (s : State) : Host.Outcome State Fault Refusal :=
  act (withLane lane.val (lnVisorDone lane.val errs)) s

/-- LN_PRBS_INJ_ONE (R349): A write of INJ_ONE inverts one transmitted bit. -/
def execLnPrbsInjOne (src : Src) (lane : Fin 12) (s : State) : Host.Outcome State Fault Refusal :=
  act (fun s => busWrite src.code ((0x20 + lane.val) * 0x1000 + 0x160) (s.orWord (lnPrbsAt lane.val) (2 ^ 8)) s) s

/-- LN_PRBS_INJ_BURST (R349): A write of INJ_BURST inverts BURST_LEN consecutive transmitted bits. -/
def execLnPrbsInjBurst (src : Src) (lane : Fin 12) (s : State) : Host.Outcome State Fault Refusal :=
  act (fun s => busWrite src.code ((0x20 + lane.val) * 0x1000 + 0x160) (s.orWord (lnPrbsAt lane.val) (2 ^ 9)) s) s

/-- RX_SIGNAL_DETECT (R351): A sleeping receiver's signal detector finds signal, so the receiver wakes, relocks with its kept equaliser state and starts RELOCK_MS. -/
def execRxSignalDetect (lane : Fin 12) (s : State) : Host.Outcome State Fault Refusal :=
  act (withLane lane.val (laneSignal lane.val)) s

/-- RX_CONVERGED (R342): the lane receiver's adaptation converges during training, so it sets RX_READY and starts counting TRAIN blocks towards UP. -/
def execRxConverged (lane : Fin 12) (s : State) : Host.Outcome State Fault Refusal :=
  act (withLane lane.val (laneConverged lane.val)) s

/-- PRBS_CHECKER_LOCK (R348): after 64 consecutive error-free bits the PRBS checker sets LOCK and starts counting errors. -/
def execPrbsCheckerLock (rx : PrbsRx) (s : State) : Host.Outcome State Fault Refusal :=
  act (withLane rx.lane.val (prbsLock rx.lane.val rx.bits)) s

/-- PRBS_CHECKER_LOSS (R348): 16 wrong bits in 64 clear the PRBS checker's LOCK, raise LN_PRBS_ERR and make it reseed. -/
def execPrbsCheckerLoss (lane : Fin 12) (errs : Nat) (s : State) : Host.Outcome State Fault Refusal :=
  act (withLane lane.val (prbsLoss lane.val errs)) s

end Sys2Proof.Machine
end

