-- ==== Sys2Proof/Machine/ExecLoop.lean ====
section
/-! DEFINITION. What the commands of the loops do, one definition a command. -/

namespace Sys2Proof.Machine

/-- LOOP_INNER_CYCLE (R205): A loop's inner law runs on the mean of IDIV tap values and sets a new drive code. -/
def execLoopInnerCycle (loop : Fin 16) (s : State) : Host.Outcome State Fault Refusal :=
  act (loopCycle loop.val) s

/-- LP_CMD_OFF (R210): A request for mode OFF. -/
def execLpCmdOff (src : Src) (loop : Fin 16) (s : State) : Host.Outcome State Fault Refusal :=
  act (fun s => busWrite src.code (0xF100 + 0x40 * loop.val) (0) s) s

/-- LP_CMD_OPEN (R210): A request for mode OPEN, asking for leave when leaving OFF. -/
def execLpCmdOpen (src : Src) (loop : Fin 16) (s : State) : Host.Outcome State Fault Refusal :=
  act (fun s => busWrite src.code (0xF100 + 0x40 * loop.val) (1) s) s

/-- LP_CMD_CENTRE (R210): A request for mode CENTRE, asking for leave when leaving OFF. -/
def execLpCmdCentre (src : Src) (loop : Fin 16) (s : State) : Host.Outcome State Fault Refusal :=
  act (fun s => busWrite src.code (0xF100 + 0x40 * loop.val) (2) s) s

/-- LP_CMD_FEEDBACK (R210): A request for mode FEEDBACK, asking for leave when leaving OFF. -/
def execLpCmdFeedback (src : Src) (loop : Fin 16) (s : State) : Host.Outcome State Fault Refusal :=
  act (fun s => busWrite src.code (0xF100 + 0x40 * loop.val) (3) s) s

/-- LP_CMD_HOLD (R210): A request for mode HOLD. -/
def execLpCmdHold (src : Src) (loop : Fin 16) (s : State) : Host.Outcome State Fault Refusal :=
  act (fun s => busWrite src.code (0xF100 + 0x40 * loop.val) (4) s) s

/-- LOOP_TAP_LOST (R221): four tap periods without a tap value put the loop in HOLD with SAFE. -/
def execLoopTapLost (loop : Fin 16) (s : State) : Host.Outcome State Fault Refusal :=
  act (loopTapLost loop.val) s

/-- LOOP_FD_FAULT (R209): the force driver leaving its compliance raises LOOP_FD_FAULT. -/
def execLoopFdFault (loop : Fin 16) (s : State) : Host.Outcome State Fault Refusal :=
  act (lraise loop.val 11) s

/-- LOOP_LEAVE_EXPIRY (R433): A loop start's leave grant is released when its declared duration ends. -/
def execLoopLeaveExpiry (loop : Fin 16) (s : State) : Host.Outcome State Fault Refusal :=
  act (loopLeaveExpiry loop.val) s

end Sys2Proof.Machine
end

