-- ==== Sys2Proof/Machine/ExecPower.lean ====
section
/-! DEFINITION. What the commands of power and the budget do, one definition a command. -/

namespace Sys2Proof.Machine

/-- PWR_CMD_RUN (R420): A request for hub state RUN. -/
def execPwrCmdRun (src : Src) (s : State) : Host.Outcome State Fault Refusal :=
  act (fun s => busWrite src.code (0x2108) (0) s) s

/-- PWR_CMD_TRIM (R420): A request for hub state TRIM. -/
def execPwrCmdTrim (src : Src) (s : State) : Host.Outcome State Fault Refusal :=
  act (fun s => busWrite src.code (0x2108) (1) s) s

/-- PWR_CMD_VIGIL (R421): A request for hub state VIGIL, checked and run as a move. -/
def execPwrCmdVigil (src : Src) (s : State) : Host.Outcome State Fault Refusal :=
  act (fun s => busWrite src.code (0x2108) (2) s) s

/-- PWR_CMD_DORMANT (R425): A request for hub state DORMANT, checked and run as a move. -/
def execPwrCmdDormant (src : Src) (s : State) : Host.Outcome State Fault Refusal :=
  act (fun s => busWrite src.code (0x2108) (3) s) s

/-- PWR_MOVE_DONE (R420): A move between hub states completes and raises PWR_STATE. -/
def execPwrMoveDone (s : State) : Host.Outcome State Fault Refusal :=
  act (moveDone) s

/-- PWR_AUTO_CHOICE (R417): every 1 µs the power manager re-chooses each domain's state. -/
def execPwrAutoChoice (coreWait : Bool) (hostL0 : Bool) (s : State) : Host.Outcome State Fault Refusal :=
  act (pwrChoose coreWait hostL0) s

/-- PWR_DOM_CTL_WRITE (R418): A write of a domain's REQ asks for ON, AUTO or OFF, waiting on holders or refused. -/
def execPwrDomCtlWrite (src : Src) (dom : Fin 33) (req : Fin 4) (s : State) : Host.Outcome State Fault Refusal :=
  act (fun s => busWrite src.code (0x2200 + 4 * dom.val) (word req.val) s) s

/-- PWR_WAIT_TIMEOUT (R418): A power request still waiting after PWR_WAIT.MS is refused with PWR_DENIED_BUSY. -/
def execPwrWaitTimeout (dom : Fin 33) (s : State) : Host.Outcome State Fault Refusal :=
  act (pwrWaitEnd dom.val) s

/-- PWR_DOMAIN_UP (R416): A waking domain reaches ON after its wake latency. -/
def execPwrDomainUp (dom : Fin 33) (s : State) : Host.Outcome State Fault Refusal :=
  act (domArrive dom.val) s

/-- BGT_REQUEST (R428): an operation asks the governor for leave, declaring its power and duration. -/
def execBgtRequest (kind : Fin 8) (req : Nat) (mw : Nat) (dur : Option Nat) (wait : Option Nat) (s : State) : Host.Outcome State Fault Refusal :=
  act (bgtRequest kind.val req mw dur wait) s

/-- BGT_TICK (R429): every 10 µs the governor lowers the step account and decides its queue in order. -/
def execBgtTick (s : State) : Host.Outcome State Fault Refusal :=
  act (bgtTick) s

/-- BGT_OVERRUN (R433): an operation still running at the end of its declared duration raises BGT_OVERRUN. -/
def execBgtOverrun (kind : Fin 8) (req : Nat) (s : State) : Host.Outcome State Fault Refusal :=
  act (bgtOverrun kind.val req) s

/-- BGT_CMD_RESERVE (R433): A BGT_CMD RESERVE asks for the standing excitation grant. -/
def execBgtCmdReserve (src : Src) (s : State) : Host.Outcome State Fault Refusal :=
  act (fun s => busWrite src.code (0x3120) (1) s) s

/-- BGT_CMD_RELEASE (R433): A BGT_CMD RELEASE ends the standing excitation grant. -/
def execBgtCmdRelease (src : Src) (s : State) : Host.Outcome State Fault Refusal :=
  act (fun s => busWrite src.code (0x3120) (2) s) s

end Sys2Proof.Machine
end

