-- ==== Sys2Proof/Machine/ExecSched.lean ====
section
/-! DEFINITION. What the commands of the schedule do, one definition a command. -/

namespace Sys2Proof.Machine

/-- SCHED_CTL_WRITE (R74): A write of SCHED_CTL sets RUN and clears LATE_CNT. -/
def execSchedCtlWrite (src : Src) (val : Word) (s : State) : Host.Outcome State Fault Refusal :=
  act (fun s => busWrite src.code (schedCtlAt) (val) s) s

/-- SAFETY (R68): A SAFETY entry executes, switching a slice's excitation off with lockout or putting a loop in HOLD at its safe code. -/
def execSafety (entry : Fin 4096) (s : State) : Host.Outcome State Fault Refusal :=
  act (schedRow 1 entry.val) s

/-- EXC_ON (R88): an EXC_ON entry switches on the excitation set selected by the slot in force, subject to lockout and the excitation current count. -/
def execExcOn (entry : Fin 4096) (s : State) : Host.Outcome State Fault Refusal :=
  act (schedRow 2 entry.val) s

/-- EXC_OFF (R88): an EXC_OFF entry switches the excitation generator off. -/
def execExcOff (entry : Fin 4096) (s : State) : Host.Outcome State Fault Refusal :=
  act (schedRow 3 entry.val) s

/-- EXC_REV (R88): an EXC_REV entry reverses the running excitation, breaking before making. -/
def execExcRev (entry : Fin 4096) (s : State) : Host.Outcome State Fault Refusal :=
  act (schedRow 4 entry.val) s

/-- VW_PLUCK (R195): A VW_PLUCK entry engages a TIU channel and asks for leave for a vibrating-wire sequence, or is refused. -/
def execVwPluck (entry : Fin 4096) (s : State) : Host.Outcome State Fault Refusal :=
  act (schedRow 5 entry.val) s

/-- MUX_STEP (R83): A MUX_STEP entry starts a multiplexer slot of a slice. -/
def execMuxStep (entry : Fin 4096) (s : State) : Host.Outcome State Fault Refusal :=
  act (schedRow 6 entry.val) s

/-- CAL_SLOT (R114): A CAL_SLOT entry opens a gap in which the calibration supervisor may ask for leave for a due slice. -/
def execCalSlot (entry : Fin 4096) (s : State) : Host.Outcome State Fault Refusal :=
  act (schedRow 7 entry.val) s

/-- GRID_START (R65): A GRID_START entry starts a grid from its instant. -/
def execGridStart (entry : Fin 4096) (s : State) : Host.Outcome State Fault Refusal :=
  act (schedRow 8 entry.val) s

/-- GRID_STOP (R66): A GRID_STOP entry ends a grid after the last index before its instant. -/
def execGridStop (entry : Fin 4096) (s : State) : Host.Outcome State Fault Refusal :=
  act (schedRow 9 entry.val) s

/-- REC_OPEN (R247): A REC_OPEN entry fires a trigger unit with the entry's instant as trigger point, arming it first if needed. -/
def execRecOpen (entry : Fin 4096) (s : State) : Host.Outcome State Fault Refusal :=
  act (schedRow 10 entry.val) s

/-- REC_CLOSE (R246): A REC_CLOSE entry stops a unit's open record with the entry's instant as cut. -/
def execRecClose (entry : Fin 4096) (s : State) : Host.Outcome State Fault Refusal :=
  act (schedRow 11 entry.val) s

/-- TIU_GATE (R185): A TIU_GATE entry opens or closes the gate of a TIU channel. -/
def execTiuGate (entry : Fin 4096) (s : State) : Host.Outcome State Fault Refusal :=
  act (schedRow 12 entry.val) s

/-- PWR_HINT (R76): A PWR_HINT entry tells the power manager that a domain is or is not needed, and may wake the hub. -/
def execPwrHint (entry : Fin 4096) (s : State) : Host.Outcome State Fault Refusal :=
  act (schedRow 13 entry.val) s

/-- EVENT (R68): an EVENT entry pulses a schedule event line and raises SCHED_EVENT. -/
def execEvent (entry : Fin 4096) (s : State) : Host.Outcome State Fault Refusal :=
  act (schedRow 14 entry.val) s

/-- NEXT_EVT_UPDATE (R76): every 1 µs the time to each domain's next known event is recomputed. -/
def execNextEvtUpdate (s : State) : Host.Outcome State Fault Refusal :=
  act (nextEvtUpdate) s

end Sys2Proof.Machine
end

