-- ==== Sys2Proof/Machine/ExecSlice.lean ====
section
/-! DEFINITION. What the commands of slices and mittens do, one definition a command. -/

namespace Sys2Proof.Machine

/-- SL_CMD_APPLY (R85): A write of SL_CMD.APPLY requests that the slice's pending set be applied at its next conversion boundary. -/
def execSlCmdApply (src : Src) (slice : Fin 64) (s : State) : Host.Outcome State Fault Refusal :=
  act (fun s => busWrite src.code ((0x80 + slice.val) * 0x1000 + 0x108) (1) s) s

/-- SL_APPLY_TAKE_EFFECT (R85): at the conversion boundary, or at a commit's safe point, the pending slice set is checked and becomes the applied set whole. -/
def execSlApplyTakeEffect (slice : Fin 64) (s : State) : Host.Outcome State Fault Refusal :=
  act (slApplyNow slice.val) s

/-- MT_CMD_APPLY (R85): A write of MT_CMD.APPLY applies the mitten's pending set within 2 µs or refuses it. -/
def execMtCmdApply (src : Src) (mitten : Fin 16) (s : State) : Host.Outcome State Fault Refusal :=
  act (fun s => busWrite src.code ((0x40 + mitten.val) * 0x1000 + 0x108) (1) s) s

/-- MT_CMD_SWAP (R93): A write of MT_CMD.SWAP exchanges the pins of legacy sources A and B. -/
def execMtCmdSwap (src : Src) (mitten : Fin 16) (s : State) : Host.Outcome State Fault Refusal :=
  act (fun s => busWrite src.code ((0x40 + mitten.val) * 0x1000 + 0x108) (2) s) s

/-- EXC_CHANGE_APPLY (R88): with ALIGN 1, an excitation change is applied at the next conversion boundary and becomes a settling event. -/
def execExcChangeApply (slice : Fin 64) (s : State) : Host.Outcome State Fault Refusal :=
  act (excNow slice.val) s

/-- EXC_MIN_PULSE_END (R89): an EXC_OFF applied under 20 µs after EXC_ON takes effect 20 µs after that EXC_ON. -/
def execExcMinPulseEnd (slice : Fin 64) (s : State) : Host.Outcome State Fault Refusal :=
  act (excMinEnd slice.val) s

/-- EXC_MAXW_EXPIRY (R89): A polarity segment reaching EXC_MAXW switches the generator off and raises SL_EXC_MAXW. -/
def execExcMaxwExpiry (slice : Fin 64) (s : State) : Host.Outcome State Fault Refusal :=
  act (excMaxw slice.val) s

/-- EXC_ILIM_TRIP (R90): after 1 ms of current limiting in voltage mode the generator switches off and LOCKOUT and ILIM are set. -/
def execExcIlimTrip (slice : Fin 64) (s : State) : Host.Outcome State Fault Refusal :=
  act (excIlim slice.val) s

/-- EXC_CTL_REARM (R90): A write of EXC_CTL.REARM clears LOCKOUT and ILIM without switching the generator on. -/
def execExcCtlRearm (src : Src) (slice : Fin 64) (s : State) : Host.Outcome State Fault Refusal :=
  act (fun s => busWrite src.code ((0x80 + slice.val) * 0x1000 + 0x190) (1) s) s

/-- SLOT_SETTLE_END (R83): A slot's SETTLE wait ends, its first conversion begins and its settling event falls. -/
def execSlotSettleEnd (slice : Fin 64) (s : State) : Host.Outcome State Fault Refusal :=
  act (settleEnd slice.val) s

/-- DECIMATOR_OUTPUT (R108): A slice decimator completes an output, which is trimmed and passed to the filter engine and the fast tap. -/
def execDecimatorOutput (slice : Fin 64) (index : Nat) (levels : List (Fin 5)) (steady : Option VoltIn) (s : State) : Host.Outcome State Fault Refusal :=
  act (decimated slice.val index (convSrc levels steady)) s

/-- SC_CONVERSION_DONE (R147): A single-cycle conversion ends and delivers one value to the slot's context. -/
def execScConversionDone (slice : Fin 64) (levels : List (Fin 5)) (steady : Option VoltIn) (s : State) : Host.Outcome State Fault Refusal :=
  act (scEnded slice.val (convSrc levels steady)) s

/-- OVL_COMPARATOR_RISE (R97): the slice overload comparator fires, raising SL_OVL and counting in OVL_CNT. -/
def execOvlComparatorRise (slice : Fin 64) (s : State) : Host.Outcome State Fault Refusal :=
  act (ovlRise slice.val) s

/-- MT_SRC_COMPLIANCE (R92): A legacy source leaving its compliance range raises MT_SRC_COMPLIANCE. -/
def execMtSrcCompliance (mitten : Fin 16) (sourceB : Bool) (s : State) : Host.Outcome State Fault Refusal :=
  act (mtCompl mitten.val sourceB) s

/-- OVL_COMPARATOR_FALL (R97): the overload comparator stops firing, OVL_NOW clears and the 40 µs recovery extension of R98 begins. -/
def execOvlComparatorFall (slice : Fin 64) (s : State) : Host.Outcome State Fault Refusal :=
  act (ovlFall slice.val) s

end Sys2Proof.Machine
end

