-- ==== Sys2Proof/Machine/ExecSmp.lean ====
section
/-! DEFINITION. What the commands of the serial management port do, one definition a command. -/

namespace Sys2Proof.Machine

/-- SMP_READ (R450): an SMP READ frame returns N words from consecutive addresses. -/
def execSmpRead (op : Fin 256) (addr : BitVec 24) (nm1 : Fin 256) (crc : Fin 65536) (s : State) : Host.Outcome State Fault Refusal :=
  act (smpRead 1 op.val addr.toNat nm1.val crc.val) s

/-- SMP_WRITE (R450): an SMP WRITE frame writes N words once its CRC checks. -/
def execSmpWrite (op : Fin 256) (addr : BitVec 24) (data : List Word) (crc : Fin 65536) (s : State) : Host.Outcome State Fault Refusal :=
  act (smpWrite op.val addr.toNat data crc.val) s

/-- SMP_FIXED_READ (R450): an SMP FIXED READ frame returns N words from one address. -/
def execSmpFixedRead (op : Fin 256) (addr : BitVec 24) (nm1 : Fin 256) (crc : Fin 65536) (s : State) : Host.Outcome State Fault Refusal :=
  act (smpRead 3 op.val addr.toNat nm1.val crc.val) s

/-- SMP_STREAM_READ (R450): an SMP STREAM READ frame returns N words from a stream's head. -/
def execSmpStreamRead (op : Fin 256) (addr : BitVec 24) (nm1 : Fin 256) (crc : Fin 65536) (s : State) : Host.Outcome State Fault Refusal :=
  act (smpStream op.val addr.toNat nm1.val crc.val) s

/-- SMP_FRAME_ERR (R451): A rise of SMP_CS_N before a frame ends discards the frame. -/
def execSmpFrameErr (s : State) : Host.Outcome State Fault Refusal :=
  act (smpAbort) s

end Sys2Proof.Machine
end

