-- ==== Sys2Proof/Machine/ExecStore.lean ====
section
/-! DEFINITION. What the commands of streams and the store do, one definition a command. -/

namespace Sys2Proof.Machine

/-- QUE_CMD_START (R278): A QUE_CMD START allocates a region and starts a stream, or refuses it. -/
def execQueCmdStart (src : Src) (stream : Fin 128) (s : State) : Host.Outcome State Fault Refusal :=
  act (fun s => busWrite src.code (0x13120) (word (1 * 2 ^ 16 + stream.val)) s) s

/-- QUE_CMD_STOP (R279): A QUE_CMD STOP ends the stream and closes its open packet with LAST. -/
def execQueCmdStop (src : Src) (stream : Fin 128) (s : State) : Host.Outcome State Fault Refusal :=
  act (fun s => busWrite src.code (0x13120) (word (2 * 2 ^ 16 + stream.val)) s) s

/-- QUE_CMD_DROP (R287): A QUE_CMD DROP discards the rest of the packet being read and gives a DROP range entry. -/
def execQueCmdDrop (src : Src) (stream : Fin 128) (s : State) : Host.Outcome State Fault Refusal :=
  act (fun s => busWrite src.code (0x13120) (word (3 * 2 ^ 16 + stream.val)) s) s

/-- QUE_CMD_REWIND (R288): A QUE_CMD REWIND moves the head back to the oldest packet reaching QUE_REWIND. -/
def execQueCmdRewind (src : Src) (stream : Fin 128) (s : State) : Host.Outcome State Fault Refusal :=
  act (fun s => busWrite src.code (0x13120) (word (4 * 2 ^ 16 + stream.val)) s) s

/-- QUE_CMD_FREE (R279): A QUE_CMD FREE releases a stopped stream's region. -/
def execQueCmdFree (src : Src) (stream : Fin 128) (s : State) : Host.Outcome State Fault Refusal :=
  act (fun s => busWrite src.code (0x13120) (word (5 * 2 ^ 16 + stream.val)) s) s

/-- PKT_AGE_EXPIRY (R282): A packet open for PKT_AGE_MS closes. -/
def execPktAgeExpiry (stream : Fin 128) (s : State) : Host.Outcome State Fault Refusal :=
  act (pktAge stream.val) s

/-- QUE_RD_READ (R284): A read of QUE_RD returns the next word of the stream's head. -/
def execQueRdRead (src : Src) (s : State) : Host.Outcome State Fault Refusal :=
  act (busRead src.code (0x13118)) s

/-- LEDGER_SECOND_WRITE (R295): once every index of a second is queued or accounted, the second's ledger entry is written once. -/
def execLedgerSecondWrite (stream : Fin 128) (s : State) : Host.Outcome State Fault Refusal :=
  act (ledgerSecond stream.val) s

/-- STORE_PART_CMD_APPLY (R292): A STORE_PART_CMD APPLY sets the three partition sizes and empties the ledger ring, or is refused. -/
def execStorePartCmdApply (src : Src) (s : State) : Host.Outcome State Fault Refusal :=
  act (fun s => busWrite src.code (0x1410C) (1) s) s

/-- STORE_RD_DATA_READ (R293): A read of STORE_RD_DATA returns a corrected memory word and advances the address. -/
def execStoreRdDataRead (src : Src) (s : State) : Host.Outcome State Fault Refusal :=
  act (busRead src.code (0x14128)) s

/-- STORE_XFER (R293): A write of STORE_XFER sends a record slot as RECORD frames on a ULK link layer. -/
def execStoreXfer (src : Src) (link : Fin 8) (rec_ : Fin 256) (s : State) : Host.Outcome State Fault Refusal :=
  act (fun s => busWrite src.code (0x1412C) (word (link.val * 2 ^ 16 + rec_.val)) s) s

end Sys2Proof.Machine
end

