-- ==== Sys2Proof/Machine/ExecTime.lean ====
section
/-! DEFINITION. What the commands of structure time, axes and grids do, one definition a command. -/

namespace Sys2Proof.Machine

/-- ST_SEC_LO_READ (R44): A read of ST_SEC_LO latches the ST seconds, nanoseconds and fraction from one timebase clock edge. -/
def execStSecLoRead (src : Src) (s : State) : Host.Outcome State Fault Refusal :=
  act (busRead src.code (0x8110)) s

/-- PTP_OFS_AT_NS_WRITE (R399): A write of PTP_OFS_AT_NS records the instant of the next offset and sets VALID. -/
def execPtpOfsAtNsWrite (src : Src) (val : Word) (s : State) : Host.Outcome State Fault Refusal :=
  act (fun s => busWrite src.code (ptpOfsAtNsAt) (val) s) s

/-- PTP_OFS_HI_WRITE (R400): A write of PTP_OFS_HI delivers one PTP offset measurement, which is discarded or given to the servo, and consumes VALID. -/
def execPtpOfsHiWrite (src : Src) (val : Word) (s : State) : Host.Outcome State Fault Refusal :=
  act (fun s => busWrite src.code (0x8154) (val) s) s

/-- TB_SOURCE_LOST (R51): the loss timer of the source in use expires, and the timebase switches to the alternate source or enters holdover. -/
def execTbSourceLost (s : State) : Host.Outcome State Fault Refusal :=
  act (tbLost) s

/-- TB_SRC_RETURN (R46): after SRC_SEL has delivered valid measurements for 10 s without a break, the servo switches back to it. -/
def execTbSrcReturn (s : State) : Host.Outcome State Fault Refusal :=
  act (tbReturn) s

/-- TB_HOLD_ON (R52): HO_EST exceeds HOLD_LIMIT in holdover, so HOLD_ACTIVE is set and every sample carries HOLD. -/
def execTbHoldOn (s : State) : Host.Outcome State Fault Refusal :=
  act (tbHoldCheck) s

/-- TB_CTL_WRITE (R485): A write of TB_CTL changes the time sources; naming free run for both ends holdover. -/
def execTbCtlWrite (src : Src) (val : Word) (s : State) : Host.Outcome State Fault Refusal :=
  act (fun s => busWrite src.code (0x8100) (val) s) s

/-- STEP_CMD_GO (R49): A write of STEP_CMD.GO requests a step of ST, which is refused while any grid runs. -/
def execStepCmdGo (src : Src) (absolute : Bool) (s : State) : Host.Outcome State Fault Refusal :=
  act (fun s => busWrite src.code (0x8168) (if absolute then 3#32 else 1#32) s) s

/-- TB_STEP_DONE (R49): an accepted step takes effect on one timebase edge and the schedule recomputes its entries. -/
def execTbStepDone (s : State) : Host.Outcome State Fault Refusal :=
  act (stepDone) s

/-- TB_LEAP (R54): at the start of LEAP_SEC with ARM set, UTC_OFFSET takes the value NEW and ARM clears. -/
def execTbLeap (s : State) : Host.Outcome State Fault Refusal :=
  act (tbLeap) s

/-- AX_CFG_ENABLE (R56): A rise of AX_CFG.EN loads the axis position and AX_MAX from AX_PRESET. -/
def execAxCfgEnable (src : Src) (axis : Fin 4) (val : Word) (s : State) : Host.Outcome State Fault Refusal :=
  act (fun s => busWrite src.code (axCfgAt axis.val) (val) s) s

/-- AXIS_COUNT_EDGE (R55): A filtered quadrature edge moves the axis position by AX_INC and is timestamped. -/
def execAxisCountEdge (axis : Fin 4) (a : Bool) (b : Bool) (ts : HeldEdge) (s : State) : Host.Outcome State Fault Refusal :=
  act (axisEdge axis.val a b ts.held ts.ts.coarse ts.ts.fine.val) s

/-- AX_IDLE (R60): no count edge for AX_IDLE_TIME sets IDLE, and the axis's grids yield no instants. -/
def execAxIdle (axis : Fin 4) (s : State) : Host.Outcome State Fault Refusal :=
  act (axIdle axis.val) s

/-- ENC_Z_EDGE (R61): A forward Z edge compares the position with AX_Z_ANGLE and spreads, reports or homes the difference. -/
def execEncZEdge (edge : ZEdge) (s : State) : Host.Outcome State Fault Refusal :=
  act (axisZ edge.axis.val edge.ts.coarse edge.ts.fine.val) s

/-- GRID_CMD_START (R65): A GRID_CMD start reads the grid descriptor and starts the grid, or refuses it with a reason. -/
def execGridCmdStart (src : Src) (grid : Fin 64) (atSec : Bool) (s : State) : Host.Outcome State Fault Refusal :=
  act (fun s => busWrite src.code (0xA300) (word (2 ^ 16 + (if atSec then 2 ^ 8 else 0) + grid.val)) s) s

/-- GRID_CMD_STOP (R66): A GRID_CMD stop ends the grid after the last index before acceptance plus 1 µs. -/
def execGridCmdStop (src : Src) (grid : Fin 64) (s : State) : Host.Outcome State Fault Refusal :=
  act (fun s => busWrite src.code (0xA300) (word (2 ^ 17 + grid.val)) s) s

/-- GRID_INSTANT (R63): A running grid reaches the instant of its next index and produces that index for its contexts. -/
def execGridInstant (grid : Fin 64) (s : State) : Host.Outcome State Fault Refusal :=
  act (gridTick grid.val) s

end Sys2Proof.Machine
end

