-- ==== Sys2Proof/Machine/ExecTmr.lean ====
section
/-! DEFINITION. What the commands of voting and health do, one definition a command. -/

namespace Sys2Proof.Machine

/-- What each copy holds, A to D. -/
def held4 (w : CopyWords) (i : Nat) : Word := [w.a, w.b, w.c, w.d].getD i w.d

/-- TMR_SCRUB (R402): A state word held by one seated copy alone is overwritten with the majority value; `words` is what the copies hold. -/
def execTmrScrub (words : CopyWords) (s : State) : Host.Outcome State Fault Refusal :=
  act (vote scrubCopy (held4 words)) s

/-- TMR_OUTVOTE (R405): A seated copy differing on a voted output is unseated, tested and replaced by the spare; the first operand names the output, `words` what the copies put out. -/
def execTmrOutvote (_ : Nat) (words : CopyWords) (s : State) : Host.Outcome State Fault Refusal :=
  act (vote outvote (held4 words)) s

/-- TMR_ROTATION (R403): at each multiple of ROT_S the spare is loaded, probed and seated, and the longest-seated copy leaves. -/
def execTmrRotation (s : State) : Host.Outcome State Fault Refusal :=
  act (rotation) s

/-- TMR_CMD_ROTATE (R403): A TMR_CMD ROTATE starts a rotation. -/
def execTmrCmdRotate (src : Src) (s : State) : Host.Outcome State Fault Refusal :=
  act (fun s => busWrite src.code (0x4108) (2) s) s

/-- TMR_CMD_RESTORE (R407): A TMR_CMD RESTORE clears a copy's failures and puts it in SELFTEST. -/
def execTmrCmdRestore (src : Src) (copy : Fin 4) (s : State) : Host.Outcome State Fault Refusal :=
  act (fun s => busWrite src.code (0x4108) (word (copy.val * 2 ^ 4 + 1)) s) s

/-- TMR_SELFTEST_DONE (R406): A copy's 200 µs self-test ends, making it SPARE or counting a failure. -/
def execTmrSelftestDone (copy : Fin 4) (pass : Bool) (s : State) : Host.Outcome State Fault Refusal :=
  act (selfTest copy.val pass) s

/-- PLL_FAIL (R411): A PLL losing lock or phase is marked failed. -/
def execPllFail (pllB : Bool) (cmp : PllCmp) (phase : Int) (s : State) : Host.Outcome State Fault Refusal :=
  act (pllFail pllB cmp.lock cmp.edges phase) s

/-- PLL_RETURN (R412): PLL_A clean for 10 s takes the clock tree back from PLL_B. -/
def execPllReturn (phase : Int) (s : State) : Host.Outcome State Fault Refusal :=
  act (pllReturn phase) s

/-- SRAM_SCRUB (R413): the scrubber reads the next SRAM word and writes back a corrected one. -/
def execSramScrub (err : Fin 3) (s : State) : Host.Outcome State Fault Refusal :=
  act (sramScrub err.val) s

end Sys2Proof.Machine
end

