-- ==== Sys2Proof/Machine/ExecTrig.lean ====
section
/-! DEFINITION. What the commands of triggers and records do, one definition a command. -/

namespace Sys2Proof.Machine

/-- TRIG_CMD_ARM (R237): A TRIG_CMD ARM arms a unit and reserves its record pages, or refuses it. -/
def execTrigCmdArm (src : Src) (unit : Fin 32) (s : State) : Host.Outcome State Fault Refusal :=
  act (fun s => busWrite src.code (0x10100) (word (1 * 2 ^ 16 + unit.val)) s) s

/-- TRIG_CMD_DISARM (R240): A TRIG_CMD DISARM disarms a unit at acceptance. -/
def execTrigCmdDisarm (src : Src) (unit : Fin 32) (s : State) : Host.Outcome State Fault Refusal :=
  act (fun s => busWrite src.code (0x10100) (word (2 * 2 ^ 16 + unit.val)) s) s

/-- TRIG_CMD_FIRE (R247): A TRIG_CMD FIRE fires a unit with its acceptance as trigger point. -/
def execTrigCmdFire (src : Src) (unit : Fin 32) (s : State) : Host.Outcome State Fault Refusal :=
  act (fun s => busWrite src.code (0x10100) (word (3 * 2 ^ 16 + unit.val)) s) s

/-- TRIG_CMD_STOP (R246): A TRIG_CMD STOP cuts the open record, or completes it with STOP_LATE after the commit point. -/
def execTrigCmdStop (src : Src) (unit : Fin 32) (s : State) : Host.Outcome State Fault Refusal :=
  act (fun s => busWrite src.code (0x10100) (word (4 * 2 ^ 16 + unit.val)) s) s

/-- TRIG_DECIDE (R236): once every slot has delivered past an instant, the unit decides whether K meetings form a trigger point and opens the record. -/
def execTrigDecide (unit : Fin 32) (s : State) : Host.Outcome State Fault Refusal :=
  act (decideUnit unit.val 64) s

/-- TRIG_MERGE_CLOSE (R242): FIRE_LAT after the first candidate, the merge period closes and the earliest candidate is the trigger point. -/
def execTrigMergeClose (unit : Fin 32) (s : State) : Host.Outcome State Fault Refusal :=
  act (mergeUnit unit.val) s

/-- FIRE_FRAME_RX (R242): A received FIRE frame becomes a trigger candidate for units with its RING_ID, or is ignored. -/
def execFireFrameRx (link : Fin 8) (rx : UlkRx) (hdr : RingHdr) (body : List Word) (s : State) : Host.Outcome State Fault Refusal :=
  act (fireRx link.val rx hdr body) s

/-- ARM_FRAME_RX (R379): A received ARM frame arms or disarms the ring units with its RING_ID, or a NAK is counted at the crown. -/
def execArmFrameRx (link : Fin 8) (rx : UlkRx) (hdr : RingHdr) (body : Word) (s : State) : Host.Outcome State Fault Refusal :=
  act (armRx link.val rx hdr body) s

/-- REC_MAXDUR_EXPIRY (R245): MAXDUR seconds after the trigger point the record closes with TIMEOUT. -/
def execRecMaxdurExpiry (unit : Fin 32) (s : State) : Host.Outcome State Fault Refusal :=
  act (recMaxdur unit.val) s

/-- REC_CMD_FREE (R250): A REC_CMD free releases a closed record's index slot, or is refused for an open or reserved slot. -/
def execRecCmdFree (src : Src) (rec_ : Fin 256) (s : State) : Host.Outcome State Fault Refusal :=
  act (fun s => busWrite src.code (0x11124) (word (2 ^ 8 + rec_.val)) s) s

/-- TRIG_SLOT_SILENCE (R236): A trigger slot whose context has delivered no output for 1 s of ST stops holding back the unit's decision and counts as not met. -/
def execTrigSlotSilence (unit : Fin 32) (slot : Fin 8) (s : State) : Host.Outcome State Fault Refusal :=
  act (slotSilence unit.val slot.val) s

end Sys2Proof.Machine
end

