-- ==== Sys2Proof/Machine/ExecUlk.lean ====
section
/-! DEFINITION. What the commands of the link layers and the ring do, one definition a command. -/

namespace Sys2Proof.Machine

/-- TIME_FRAME_RX (R375): A received TIME frame yields a delay and offset measurement and an advertisement for the crown election. -/
def execTimeFrameRx (link : Fin 8) (rx : UlkRx) (body : List Word) (ts : Nat) (s : State) : Host.Outcome State Fault Refusal :=
  act (timeRx link.val rx body ts) s

/-- SAT_SAMPLE_FRAME_RX (R384): A satellite SAMPLE frame delivers timestamped remote samples to the resampler. -/
def execSatSampleFrameRx (link : Fin 8) (rx : UlkRx) (body : List Word) (s : State) : Host.Outcome State Fault Refusal :=
  act (satFrameRx link.val rx body) s

/-- ULK_ACK_RX (R361): A received ACK releases acknowledged frames from the replay buffer or reports BUSY. -/
def execUlkAckRx (link : Fin 8) (seq : Nat) (busy : Bool) (s : State) : Host.Outcome State Fault Refusal :=
  act (ackRx link.val seq busy) s

/-- ULK_RESET_RX (R364): A received RESET resets the expected sequence, or makes a link holding frames give up. -/
def execUlkResetRx (link : Fin 8) (s : State) : Host.Outcome State Fault Refusal :=
  act (resetRx link.val) s

/-- KEEPALIVE_RX (R363): A received keep-alive block carries the peer's acknowledgement and BUSY state. -/
def execKeepaliveRx (link : Fin 8) (seq : Nat) (busy : Bool) (valid : Bool) (s : State) : Host.Outcome State Fault Refusal :=
  act (keepAliveRx link.val seq busy valid) s

/-- REPLAY_REQ_RX (R362): A received REPLAY_REQ makes the sender go back and resend from the requested frame. -/
def execReplayReqRx (link : Fin 8) (rx : UlkRx) (body : Word) (s : State) : Host.Outcome State Fault Refusal :=
  act (replayRx link.val rx body) s

/-- SAMPLE_FRAME_RX (R372): A ring SAMPLE frame is taken into the receive queue or forwarded. -/
def execSampleFrameRx (link : Fin 8) (rx : UlkRx) (hdr : RingHdr) (payload : List Byte) (s : State) : Host.Outcome State Fault Refusal :=
  act (queueFrameRx link.val rx hdr 1 payload) s

/-- RECORD_FRAME_RX (R372): A RECORD frame is taken into the receive queue or forwarded. -/
def execRecordFrameRx (link : Fin 8) (rx : UlkRx) (hdr : RingHdr) (payload : List Byte) (s : State) : Host.Outcome State Fault Refusal :=
  act (queueFrameRx link.val rx hdr 2 payload) s

/-- NOTE_FRAME_RX (R372): A ring NOTE frame is taken into the receive queue or forwarded. -/
def execNoteFrameRx (link : Fin 8) (rx : UlkRx) (hdr : RingHdr) (payload : List Byte) (s : State) : Host.Outcome State Fault Refusal :=
  act (queueFrameRx link.val rx hdr 3 payload) s

/-- MGMT_READ_RX (R387): A MGMT READ is executed on BAR_0 when REMOTE_EN is 1 and answered with RESPONSE. -/
def execMgmtReadRx (link : Fin 8) (rx : UlkRx) (hdr : RingHdr) (tag : BitVec 16) (addr : Word) (s : State) : Host.Outcome State Fault Refusal :=
  act (mgmtRx link.val rx hdr [word (2 ^ 28 + tag.toNat), addr, 0] (remoteRead addr.toNat)) s

/-- MGMT_WRITE_RX (R387): A MGMT WRITE is executed on BAR_0 when REMOTE_EN is 1 and answered with RESPONSE. -/
def execMgmtWriteRx (link : Fin 8) (rx : UlkRx) (hdr : RingHdr) (tag : BitVec 16) (addr : Word) (val : Word) (s : State) : Host.Outcome State Fault Refusal :=
  act (mgmtRx link.val rx hdr [word (2 ^ 29 + tag.toNat), addr, val] (remoteWrite addr.toNat val)) s

/-- MGMT_RESPONSE_RX (R387): A RESPONSE completes the mailbox access and raises ULK_MB_DONE. -/
def execMgmtResponseRx (link : Fin 8) (rx : UlkRx) (hdr : RingHdr) (body : List Word) (s : State) : Host.Outcome State Fault Refusal :=
  act (respRx link.val rx hdr body) s

/-- DESCRIPTION_RX (R382): A satellite DESCRIPTION is stored, SAT is set and ULK_SAT_ATTACH is raised. -/
def execDescriptionRx (link : Fin 8) (rx : UlkRx) (body : List Word) (s : State) : Host.Outcome State Fault Refusal :=
  act (descRx link.val rx body) s

/-- TAP_REQ_RX (R386): A TAP_REQ makes the transmitter report or change its taps, or reports the far taps. -/
def execTapReqRx (link : Fin 8) (rx : UlkRx) (body : Word) (s : State) : Host.Outcome State Fault Refusal :=
  act (tapRx link.val rx body) s

/-- ULK_ACK_TIMEOUT (R362): no ACK advancing for ACK_TMO makes the sender go back and resend. -/
def execUlkAckTimeout (link : Fin 8) (s : State) : Host.Outcome State Fault Refusal :=
  act (ackTimeout link.val) s

/-- ULK_REPLAY_BUDGET_EXPIRY (R364): 40 µs after the first replay, or a fifth replay needed, the link gives up. -/
def execUlkReplayBudgetExpiry (link : Fin 8) (s : State) : Host.Outcome State Fault Refusal :=
  act (replayBudget link.val) s

/-- UNWRAP_DWELL_EXPIRY (R378): A wrapped link UP for UNWRAP_MS holds new traffic for 500 µs. -/
def execUnwrapDwellExpiry (link : Fin 8) (s : State) : Host.Outcome State Fault Refusal :=
  act (unwrapDwell link.val) s

/-- ULK_UNWRAP (R378): after the 500 µs hold the hub sends on the restored link again. -/
def execUlkUnwrap (link : Fin 8) (s : State) : Host.Outcome State Fault Refusal :=
  act (unwrap link.val) s

/-- STREAM_DELIVERY_TIMEOUT (R365): UPPER_TMO without acknowledgement of a SAMPLE or NOTE frame makes the link give up. -/
def execStreamDeliveryTimeout (link : Fin 8) (s : State) : Host.Outcome State Fault Refusal :=
  act (streamTmo link.val) s

/-- SAT_RESPONSE_TIMEOUT (R365): UPPER_TMO without a satellite RESPONSE or DESCRIPTION gives TIMEOUT or ULK_SAT_LOST. -/
def execSatResponseTimeout (link : Fin 8) (s : State) : Host.Outcome State Fault Refusal :=
  act (satRespTmo link.val) s

/-- SAMPLE_SILENCE_TIMEOUT (R365): MAXLAT plus UPPER_TMO without a SAMPLE frame makes a satellite channel's inputs missing. -/
def execSampleSilenceTimeout (link : Fin 8) (chan : Fin 128) (s : State) : Host.Outcome State Fault Refusal :=
  act (satSilence link.val chan.val) s

/-- MAILBOX_TIMEOUT (R365): UPPER_TMO without a RESPONSE from a hub sets MB_STAT TIMEOUT. -/
def execMailboxTimeout (s : State) : Host.Outcome State Fault Refusal :=
  act (mailboxTmo) s

/-- TIME_FRAME_TX (R374): every TIME_INT a link sends a TIME frame with timestamps and advertisement. -/
def execTimeFrameTx (link : Fin 8) (s : State) : Host.Outcome State Fault Refusal :=
  act (timeTx link.val) s

/-- CROWN_ADVERT_EXPIRY (R373): A neighbour's advertisement older than 3 × TIME_INT stops counting as a candidate. -/
def execCrownAdvertExpiry (link : Fin 8) (s : State) : Host.Outcome State Fault Refusal :=
  act (advertExpiry link.val) s

/-- ULK_TAP_GO (R386): A write of ULK_TAP.GO sends a TAP_REQ to the far transmitter. -/
def execUlkTapGo (src : Src) (link : Fin 8) (val : Word) (s : State) : Host.Outcome State Fault Refusal :=
  act (fun s => busWrite src.code ((0x30 + link.val) * 0x1000 + 0x134) (val ||| 0x80000000#32) s) s

/-- MB_CTL_GO (R387): A write of MB_CTL.GO sends a MGMT READ or WRITE to a hub or satellite. -/
def execMbCtlGo (src : Src) (val : Word) (s : State) : Host.Outcome State Fault Refusal :=
  act (fun s => busWrite src.code (0x30230) (val ||| 0x80000000#32) s) s

/-- SAT_EN_WRITE (R383): A change of SAT_EN sends a SCHED frame naming the channels and their start second. -/
def execSatEnWrite (src : Src) (link : Fin 8) (index : Fin 4) (val : Word) (s : State) : Host.Outcome State Fault Refusal :=
  act (fun s => busWrite src.code ((0x30 + link.val) * 0x1000 + 0x140 + 4 * index.val) (val) s) s

/-- ULK_RXQ_RD_WRITE (R372): advancing ULK_RXQ_RD frees receive-queue space. -/
def execUlkRxqRdWrite (src : Src) (link : Fin 8) (val : Word) (s : State) : Host.Outcome State Fault Refusal :=
  act (fun s => busWrite src.code ((0x30 + link.val) * 0x1000 + 0x12C) (val) s) s

end Sys2Proof.Machine
end

