-- ==== Sys2Proof/Machine/ExecWire.lean ====
section
/-! DEFINITION. What the commands of time intervals and vibrating wires do, one definition a command. -/

namespace Sys2Proof.Machine

/-- PPS_IN_EDGE (R194): A rising edge on PPS_IN is timestamped, judged for presence and period, and passed to the servo as a source 3 measurement. -/
def execPpsInEdge (ts : EdgeTs) (s : State) : Host.Outcome State Fault Refusal :=
  act (fun s => ppsEdge (stamp s ts.coarse ts.fine.val) s) s

/-- TI_EDGE (R178): an edge of a TIU source is timestamped and taken by the channels that use it. -/
def execTiEdge (source : Fin 128) (ts : EdgeTs) (rising : Bool) (s : State) : Host.Outcome State Fault Refusal :=
  act (fun s => tiEdge source.val (stamp s ts.coarse ts.fine.val) rising s) s

/-- TIU_TIMEOUT (R189): TMO passes after a start with no stop, and the channel yields a TMO result and disarms. -/
def execTiuTimeout (chan : Fin 16) (s : State) : Host.Outcome State Fault Refusal :=
  act (tiTimeout chan.val) s

/-- TIU_OVF (R189): 2^40 ns pass without a stop, and the channel yields an OVF result and disarms. -/
def execTiuOvf (chan : Fin 16) (s : State) : Host.Outcome State Fault Refusal :=
  act (tiOvf chan.val) s

/-- TIU_WINDOW_CLOSE (R188): in signed interval mode a start's window closes and its result is delivered. -/
def execTiuWindowClose (chan : Fin 16) (s : State) : Host.Outcome State Fault Refusal :=
  act (tiWindow chan.val) s

/-- TI_RES_W0_READ (R192): A read of TI_RES_W0 pops the oldest result and latches its other words. -/
def execTiResW0Read (src : Src) (chan : Fin 16) (s : State) : Host.Outcome State Fault Refusal :=
  act (busRead src.code (0xB210 + 0x40 * chan.val)) s

/-- TI_CFG_WRITE (R192): A write of a channel's mode or sources while armed drops the pending start or window. -/
def execTiCfgWrite (src : Src) (chan : Fin 16) (val : Word) (s : State) : Host.Outcome State Fault Refusal :=
  act (fun s => busWrite src.code (tiCfgAt chan.val) (val) s) s

/-- REF10M_PRESENT (R193): 1 024 consecutive good REF10M periods make REF10M present. -/
def execRef10mPresent (s : State) : Host.Outcome State Fault Refusal :=
  act (refBack) s

/-- REF10M_LOST (R193): no REF10M edge for 1 µs or 16 bad periods make REF10M lost. -/
def execRef10mLost (s : State) : Host.Outcome State Fault Refusal :=
  act (refLost) s

/-- PPS_LOST (R194): 1.2 s without a PPS_IN pulse make PPS_IN lost and raise TIU_REF_LOST. -/
def execPpsLost (s : State) : Host.Outcome State Fault Refusal :=
  act (ppsLost) s

/-- VW_DRIVE_START (R195): on the leave grant, the vibrating-wire driver starts its sweep or pluck. -/
def execVwDriveStart (chan : Fin 16) (s : State) : Host.Outcome State Fault Refusal :=
  act (vwDriveStart chan.val) s

/-- VW_LEAVE_TIMEOUT (R195): no grant within VW_LEAVE.WAIT ends the sequence with reason LEAVE. -/
def execVwLeaveTimeout (chan : Fin 16) (s : State) : Host.Outcome State Fault Refusal :=
  act (vwLeaveTimeout chan.val) s

/-- VW_DRIVE_END (R196): the drive ends and the driver goes to high impedance. -/
def execVwDriveEnd (chan : Fin 16) (s : State) : Host.Outcome State Fault Refusal :=
  act (vwDriveEnd chan.val) s

/-- VW_LISTEN_START (R196): after the quiet time the listen comparator connects and crossings are stamped. -/
def execVwListenStart (chan : Fin 16) (s : State) : Host.Outcome State Fault Refusal :=
  act (vwListenStart chan.val) s

/-- VW_LISTEN_END (R196): listening ends after WIN ms or 4 096 crossings, and the thermistor slot may start. -/
def execVwListenEnd (chan : Fin 16) (s : State) : Host.Outcome State Fault Refusal :=
  act (vwListenEnd chan.val) s

/-- VW_FIT_DONE (R197): the frequency fit completes and places a vibrating-wire result in the queue. -/
def execVwFitDone (chan : Fin 16) (s : State) : Host.Outcome State Fault Refusal :=
  act (vwFitDone chan.val) s

end Sys2Proof.Machine
end

