-- ==== Sys2Proof/Machine/Dispatch.lean ====
section
/-! DEFINITION. What each command does: one arm a constructor. -/

namespace Sys2Proof.Machine

/-- The effect of a command on everything but the queue. -/
def exec (i : Instr) (s : State) : Host.Outcome State Fault Refusal :=
  match i with
  | .registerWrite src addr be val => Sys2Proof.Machine.execRegisterWrite src addr be val s
  | .pageRst src page => Sys2Proof.Machine.execPageRst src page s
  | .pageResetEnd page => Sys2Proof.Machine.execPageResetEnd page s
  | .pageLockWrite src page val => Sys2Proof.Machine.execPageLockWrite src page val s
  | .evtStatClear src page val => Sys2Proof.Machine.execEvtStatClear src page val s
  | .evtForce src page val => Sys2Proof.Machine.execEvtForce src page val s
  | .tblDataAccess src wr val => Sys2Proof.Machine.execTblDataAccess src wr val s
  | .bar2Write src off bytes => Sys2Proof.Machine.execBar2Write src off bytes s
  | .ctxCommit src ctx => Sys2Proof.Machine.execCtxCommit src ctx s
  | .ctxCommitSafePoint ctx => Sys2Proof.Machine.execCtxCommitSafePoint ctx s
  | .ctxCommitDonePop src => Sys2Proof.Machine.execCtxCommitDonePop src s
  | .msiEoi src vec => Sys2Proof.Machine.execMsiEoi src vec s
  | .msixUnmask src vec => Sys2Proof.Machine.execMsixUnmask src vec s
  | .stSecLoRead src => Sys2Proof.Machine.execStSecLoRead src s
  | .ppsInEdge ts => Sys2Proof.Machine.execPpsInEdge ts s
  | .timeFrameRx link rx body ts => Sys2Proof.Machine.execTimeFrameRx link rx body ts s
  | .ptpOfsAtNsWrite src val => Sys2Proof.Machine.execPtpOfsAtNsWrite src val s
  | .ptpOfsHiWrite src val => Sys2Proof.Machine.execPtpOfsHiWrite src val s
  | .tbSourceLost => Sys2Proof.Machine.execTbSourceLost s
  | .tbSrcReturn => Sys2Proof.Machine.execTbSrcReturn s
  | .tbHoldOn => Sys2Proof.Machine.execTbHoldOn s
  | .tbCtlWrite src val => Sys2Proof.Machine.execTbCtlWrite src val s
  | .stepCmdGo src absolute => Sys2Proof.Machine.execStepCmdGo src absolute s
  | .tbStepDone => Sys2Proof.Machine.execTbStepDone s
  | .tbLeap => Sys2Proof.Machine.execTbLeap s
  | .axCfgEnable src axis val => Sys2Proof.Machine.execAxCfgEnable src axis val s
  | .axisCountEdge axis a b ts => Sys2Proof.Machine.execAxisCountEdge axis a b ts s
  | .axIdle axis => Sys2Proof.Machine.execAxIdle axis s
  | .encZEdge edge => Sys2Proof.Machine.execEncZEdge edge s
  | .gridCmdStart src grid atSec => Sys2Proof.Machine.execGridCmdStart src grid atSec s
  | .gridCmdStop src grid => Sys2Proof.Machine.execGridCmdStop src grid s
  | .gridInstant grid => Sys2Proof.Machine.execGridInstant grid s
  | .schedCtlWrite src val => Sys2Proof.Machine.execSchedCtlWrite src val s
  | .safety entry => Sys2Proof.Machine.execSafety entry s
  | .excOn entry => Sys2Proof.Machine.execExcOn entry s
  | .excOff entry => Sys2Proof.Machine.execExcOff entry s
  | .excRev entry => Sys2Proof.Machine.execExcRev entry s
  | .vwPluck entry => Sys2Proof.Machine.execVwPluck entry s
  | .muxStep entry => Sys2Proof.Machine.execMuxStep entry s
  | .calSlot entry => Sys2Proof.Machine.execCalSlot entry s
  | .gridStart entry => Sys2Proof.Machine.execGridStart entry s
  | .gridStop entry => Sys2Proof.Machine.execGridStop entry s
  | .recOpen entry => Sys2Proof.Machine.execRecOpen entry s
  | .recClose entry => Sys2Proof.Machine.execRecClose entry s
  | .tiuGate entry => Sys2Proof.Machine.execTiuGate entry s
  | .pwrHint entry => Sys2Proof.Machine.execPwrHint entry s
  | .event entry => Sys2Proof.Machine.execEvent entry s
  | .nextEvtUpdate => Sys2Proof.Machine.execNextEvtUpdate s
  | .slCmdApply src slice => Sys2Proof.Machine.execSlCmdApply src slice s
  | .slApplyTakeEffect slice => Sys2Proof.Machine.execSlApplyTakeEffect slice s
  | .mtCmdApply src mitten => Sys2Proof.Machine.execMtCmdApply src mitten s
  | .mtCmdSwap src mitten => Sys2Proof.Machine.execMtCmdSwap src mitten s
  | .excChangeApply slice => Sys2Proof.Machine.execExcChangeApply slice s
  | .excMinPulseEnd slice => Sys2Proof.Machine.execExcMinPulseEnd slice s
  | .excMaxwExpiry slice => Sys2Proof.Machine.execExcMaxwExpiry slice s
  | .excIlimTrip slice => Sys2Proof.Machine.execExcIlimTrip slice s
  | .excCtlRearm src slice => Sys2Proof.Machine.execExcCtlRearm src slice s
  | .slotSettleEnd slice => Sys2Proof.Machine.execSlotSettleEnd slice s
  | .decimatorOutput slice index levels steady => Sys2Proof.Machine.execDecimatorOutput slice index levels steady s
  | .scConversionDone slice levels steady => Sys2Proof.Machine.execScConversionDone slice levels steady s
  | .ovlComparatorRise slice => Sys2Proof.Machine.execOvlComparatorRise slice s
  | .mtSrcCompliance mitten sourceB => Sys2Proof.Machine.execMtSrcCompliance mitten sourceB s
  | .mtTempUpdate mitten temp => Sys2Proof.Machine.execMtTempUpdate mitten temp s
  | .otpDataRead src => Sys2Proof.Machine.execOtpDataRead src s
  | .calMaxAgeExpiry slice => Sys2Proof.Machine.execCalMaxAgeExpiry slice s
  | .calForce src hi val => Sys2Proof.Machine.execCalForce src hi val s
  | .calRetry slice => Sys2Proof.Machine.execCalRetry slice s
  | .calDeferExpired slice => Sys2Proof.Machine.execCalDeferExpired slice s
  | .calStart slice => Sys2Proof.Machine.execCalStart slice s
  | .calEnd slice ofsTrials gainTrials gainMean ofsMean => Sys2Proof.Machine.execCalEnd slice ofsTrials gainTrials gainMean ofsMean s
  | .contextOutput ctx => Sys2Proof.Machine.execContextOutput ctx s
  | .detectorOutput ctx => Sys2Proof.Machine.execDetectorOutput ctx s
  | .skewCmdGo src found => Sys2Proof.Machine.execSkewCmdGo src found s
  | .satSampleFrameRx link rx body => Sys2Proof.Machine.execSatSampleFrameRx link rx body s
  | .tiEdge source ts rising => Sys2Proof.Machine.execTiEdge source ts rising s
  | .tiuTimeout chan => Sys2Proof.Machine.execTiuTimeout chan s
  | .tiuOvf chan => Sys2Proof.Machine.execTiuOvf chan s
  | .tiuWindowClose chan => Sys2Proof.Machine.execTiuWindowClose chan s
  | .tiResW0Read src chan => Sys2Proof.Machine.execTiResW0Read src chan s
  | .tiCfgWrite src chan val => Sys2Proof.Machine.execTiCfgWrite src chan val s
  | .ref10mPresent => Sys2Proof.Machine.execRef10mPresent s
  | .ref10mLost => Sys2Proof.Machine.execRef10mLost s
  | .ppsLost => Sys2Proof.Machine.execPpsLost s
  | .vwDriveStart chan => Sys2Proof.Machine.execVwDriveStart chan s
  | .vwLeaveTimeout chan => Sys2Proof.Machine.execVwLeaveTimeout chan s
  | .vwDriveEnd chan => Sys2Proof.Machine.execVwDriveEnd chan s
  | .vwListenStart chan => Sys2Proof.Machine.execVwListenStart chan s
  | .vwListenEnd chan => Sys2Proof.Machine.execVwListenEnd chan s
  | .vwFitDone chan => Sys2Proof.Machine.execVwFitDone chan s
  | .loopInnerCycle loop => Sys2Proof.Machine.execLoopInnerCycle loop s
  | .lpCmdOff src loop => Sys2Proof.Machine.execLpCmdOff src loop s
  | .lpCmdOpen src loop => Sys2Proof.Machine.execLpCmdOpen src loop s
  | .lpCmdCentre src loop => Sys2Proof.Machine.execLpCmdCentre src loop s
  | .lpCmdFeedback src loop => Sys2Proof.Machine.execLpCmdFeedback src loop s
  | .lpCmdHold src loop => Sys2Proof.Machine.execLpCmdHold src loop s
  | .loopTapLost loop => Sys2Proof.Machine.execLoopTapLost loop s
  | .loopFdFault loop => Sys2Proof.Machine.execLoopFdFault loop s
  | .loopLeaveExpiry loop => Sys2Proof.Machine.execLoopLeaveExpiry loop s
  | .trigCmdArm src unit => Sys2Proof.Machine.execTrigCmdArm src unit s
  | .trigCmdDisarm src unit => Sys2Proof.Machine.execTrigCmdDisarm src unit s
  | .trigCmdFire src unit => Sys2Proof.Machine.execTrigCmdFire src unit s
  | .trigCmdStop src unit => Sys2Proof.Machine.execTrigCmdStop src unit s
  | .trigDecide unit => Sys2Proof.Machine.execTrigDecide unit s
  | .trigMergeClose unit => Sys2Proof.Machine.execTrigMergeClose unit s
  | .fireFrameRx link rx hdr body => Sys2Proof.Machine.execFireFrameRx link rx hdr body s
  | .armFrameRx link rx hdr body => Sys2Proof.Machine.execArmFrameRx link rx hdr body s
  | .recMaxdurExpiry unit => Sys2Proof.Machine.execRecMaxdurExpiry unit s
  | .recCmdFree src rec_ => Sys2Proof.Machine.execRecCmdFree src rec_ s
  | .cmpCfgWrite src val => Sys2Proof.Machine.execCmpCfgWrite src val s
  | .cmpBlockStart stream => Sys2Proof.Machine.execCmpBlockStart stream s
  | .cmpBlockCommit stream => Sys2Proof.Machine.execCmpBlockCommit stream s
  | .cmpCmdFlush src stream => Sys2Proof.Machine.execCmpCmdFlush src stream s
  | .cmpCmdSave src stream => Sys2Proof.Machine.execCmpCmdSave src stream s
  | .cmpCmdRestore src stream => Sys2Proof.Machine.execCmpCmdRestore src stream s
  | .cmpCmdResume src stream => Sys2Proof.Machine.execCmpCmdResume src stream s
  | .cmpFlushAge stream => Sys2Proof.Machine.execCmpFlushAge stream s
  | .queCmdStart src stream => Sys2Proof.Machine.execQueCmdStart src stream s
  | .queCmdStop src stream => Sys2Proof.Machine.execQueCmdStop src stream s
  | .queCmdDrop src stream => Sys2Proof.Machine.execQueCmdDrop src stream s
  | .queCmdRewind src stream => Sys2Proof.Machine.execQueCmdRewind src stream s
  | .queCmdFree src stream => Sys2Proof.Machine.execQueCmdFree src stream s
  | .pktAgeExpiry stream => Sys2Proof.Machine.execPktAgeExpiry stream s
  | .queRdRead src => Sys2Proof.Machine.execQueRdRead src s
  | .ledgerSecondWrite stream => Sys2Proof.Machine.execLedgerSecondWrite stream s
  | .storePartCmdApply src => Sys2Proof.Machine.execStorePartCmdApply src s
  | .storeRdDataRead src => Sys2Proof.Machine.execStoreRdDataRead src s
  | .storeXfer src link rec_ => Sys2Proof.Machine.execStoreXfer src link rec_ s
  | .drCmdTrain src => Sys2Proof.Machine.execDrCmdTrain src s
  | .dramTrain found => Sys2Proof.Machine.execDramTrain found s
  | .dramTrainRetry => Sys2Proof.Machine.execDramTrainRetry s
  | .drCmdTrack src => Sys2Proof.Machine.execDrCmdTrack src s
  | .dramTrackRound centres => Sys2Proof.Machine.execDramTrackRound centres s
  | .dramZqcs => Sys2Proof.Machine.execDramZqcs s
  | .dramRefresh rank => Sys2Proof.Machine.execDramRefresh rank s
  | .dramScrub errs => Sys2Proof.Machine.execDramScrub errs s
  | .dramPortRequest port write addr bytes mask errs => Sys2Proof.Machine.execDramPortRequest port write addr bytes mask errs s
  | .dramWriteDrain => Sys2Proof.Machine.execDramWriteDrain s
  | .dramSrEnter => Sys2Proof.Machine.execDramSrEnter s
  | .dramSrExit centres => Sys2Proof.Machine.execDramSrExit centres s
  | .dmaCtlStart src chan => Sys2Proof.Machine.execDmaCtlStart src chan s
  | .dmaCtlPause src chan => Sys2Proof.Machine.execDmaCtlPause src chan s
  | .dmaCtlResume src chan => Sys2Proof.Machine.execDmaCtlResume src chan s
  | .dmaCtlAbort src chan => Sys2Proof.Machine.execDmaCtlAbort src chan s
  | .dmaBurstRead chan => Sys2Proof.Machine.execDmaBurstRead chan s
  | .dmaReadComplete chan data ok errs => Sys2Proof.Machine.execDmaReadComplete chan data ok errs s
  | .dmaWriteAck chan => Sys2Proof.Machine.execDmaWriteAck chan s
  | .dmaHostTimeout chan idle => Sys2Proof.Machine.execDmaHostTimeout chan idle s
  | .dmaPauseSlow dom => Sys2Proof.Machine.execDmaPauseSlow dom s
  | .pwrDeniedBusy dom => Sys2Proof.Machine.execPwrDeniedBusy dom s
  | .lnCfgWrite src lane val => Sys2Proof.Machine.execLnCfgWrite src lane val s
  | .lnCtlRetrain src lane => Sys2Proof.Machine.execLnCtlRetrain src lane s
  | .lnCtlTxSleep src lane sleep => Sys2Proof.Machine.execLnCtlTxSleep src lane sleep s
  | .lanePllLock lane => Sys2Proof.Machine.execLanePllLock lane s
  | .laneBlockLock lane => Sys2Proof.Machine.execLaneBlockLock lane s
  | .trainBlockRx lane blk ask askPreset => Sys2Proof.Machine.execTrainBlockRx lane blk ask askPreset s
  | .lnTrainTimeout lane => Sys2Proof.Machine.execLnTrainTimeout lane s
  | .laneLockLoss lane bad => Sys2Proof.Machine.execLaneLockLoss lane bad s
  | .laneRelockExpiry lane => Sys2Proof.Machine.execLaneRelockExpiry lane s
  | .laneLeaveRetry lane => Sys2Proof.Machine.execLaneLeaveRetry lane s
  | .keepaliveTx lane => Sys2Proof.Machine.execKeepaliveTx lane s
  | .laneAdaptFreeze lane => Sys2Proof.Machine.execLaneAdaptFreeze lane s
  | .sleepBlockRx lane => Sys2Proof.Machine.execSleepBlockRx lane s
  | .laneTxWake lane => Sys2Proof.Machine.execLaneTxWake lane s
  | .lnVisorGo src lane val => Sys2Proof.Machine.execLnVisorGo src lane val s
  | .lnVisorDone lane errs => Sys2Proof.Machine.execLnVisorDone lane errs s
  | .lnPrbsInjOne src lane => Sys2Proof.Machine.execLnPrbsInjOne src lane s
  | .lnPrbsInjBurst src lane => Sys2Proof.Machine.execLnPrbsInjBurst src lane s
  | .ulkAckRx link seq busy => Sys2Proof.Machine.execUlkAckRx link seq busy s
  | .ulkResetRx link => Sys2Proof.Machine.execUlkResetRx link s
  | .keepaliveRx link seq busy valid => Sys2Proof.Machine.execKeepaliveRx link seq busy valid s
  | .replayReqRx link rx body => Sys2Proof.Machine.execReplayReqRx link rx body s
  | .sampleFrameRx link rx hdr payload => Sys2Proof.Machine.execSampleFrameRx link rx hdr payload s
  | .recordFrameRx link rx hdr payload => Sys2Proof.Machine.execRecordFrameRx link rx hdr payload s
  | .noteFrameRx link rx hdr payload => Sys2Proof.Machine.execNoteFrameRx link rx hdr payload s
  | .mgmtReadRx link rx hdr tag addr => Sys2Proof.Machine.execMgmtReadRx link rx hdr tag addr s
  | .mgmtWriteRx link rx hdr tag addr val => Sys2Proof.Machine.execMgmtWriteRx link rx hdr tag addr val s
  | .mgmtResponseRx link rx hdr body => Sys2Proof.Machine.execMgmtResponseRx link rx hdr body s
  | .descriptionRx link rx body => Sys2Proof.Machine.execDescriptionRx link rx body s
  | .tapReqRx link rx body => Sys2Proof.Machine.execTapReqRx link rx body s
  | .ulkAckTimeout link => Sys2Proof.Machine.execUlkAckTimeout link s
  | .ulkReplayBudgetExpiry link => Sys2Proof.Machine.execUlkReplayBudgetExpiry link s
  | .unwrapDwellExpiry link => Sys2Proof.Machine.execUnwrapDwellExpiry link s
  | .ulkUnwrap link => Sys2Proof.Machine.execUlkUnwrap link s
  | .streamDeliveryTimeout link => Sys2Proof.Machine.execStreamDeliveryTimeout link s
  | .satResponseTimeout link => Sys2Proof.Machine.execSatResponseTimeout link s
  | .sampleSilenceTimeout link chan => Sys2Proof.Machine.execSampleSilenceTimeout link chan s
  | .mailboxTimeout => Sys2Proof.Machine.execMailboxTimeout s
  | .timeFrameTx link => Sys2Proof.Machine.execTimeFrameTx link s
  | .crownAdvertExpiry link => Sys2Proof.Machine.execCrownAdvertExpiry link s
  | .ulkTapGo src link val => Sys2Proof.Machine.execUlkTapGo src link val s
  | .mbCtlGo src val => Sys2Proof.Machine.execMbCtlGo src val s
  | .satEnWrite src link index val => Sys2Proof.Machine.execSatEnWrite src link index val s
  | .ulkRxqRdWrite src link val => Sys2Proof.Machine.execUlkRxqRdWrite src link val s
  | .ethLinkChange port up speed anDone anFail sent => Sys2Proof.Machine.execEthLinkChange port up speed anDone anFail sent s
  | .ethFrameRx port frame fcs ts => Sys2Proof.Machine.execEthFrameRx port frame fcs ts s
  | .ethTxTailWrite src port val => Sys2Proof.Machine.execEthTxTailWrite src port val s
  | .ethRxTailWrite src port val => Sys2Proof.Machine.execEthRxTailWrite src port val s
  | .ethFrameTx port ts => Sys2Proof.Machine.execEthFrameTx port ts s
  | .ethTxtsW0Read src port => Sys2Proof.Machine.execEthTxtsW0Read src port s
  | .tmrScrub words => Sys2Proof.Machine.execTmrScrub words s
  | .tmrOutvote output words => Sys2Proof.Machine.execTmrOutvote output words s
  | .tmrRotation => Sys2Proof.Machine.execTmrRotation s
  | .tmrCmdRotate src => Sys2Proof.Machine.execTmrCmdRotate src s
  | .tmrCmdRestore src copy => Sys2Proof.Machine.execTmrCmdRestore src copy s
  | .tmrSelftestDone copy pass => Sys2Proof.Machine.execTmrSelftestDone copy pass s
  | .pllFail pllB cmp phase => Sys2Proof.Machine.execPllFail pllB cmp phase s
  | .pllReturn phase => Sys2Proof.Machine.execPllReturn phase s
  | .sramScrub err => Sys2Proof.Machine.execSramScrub err s
  | .pwrCmdRun src => Sys2Proof.Machine.execPwrCmdRun src s
  | .pwrCmdTrim src => Sys2Proof.Machine.execPwrCmdTrim src s
  | .pwrCmdVigil src => Sys2Proof.Machine.execPwrCmdVigil src s
  | .pwrCmdDormant src => Sys2Proof.Machine.execPwrCmdDormant src s
  | .pwrMoveDone => Sys2Proof.Machine.execPwrMoveDone s
  | .pwrAutoChoice coreWait hostL0 => Sys2Proof.Machine.execPwrAutoChoice coreWait hostL0 s
  | .pwrDomCtlWrite src dom req => Sys2Proof.Machine.execPwrDomCtlWrite src dom req s
  | .pwrWaitTimeout dom => Sys2Proof.Machine.execPwrWaitTimeout dom s
  | .pwrDomainUp dom => Sys2Proof.Machine.execPwrDomainUp dom s
  | .bgtRequest kind req mw dur wait => Sys2Proof.Machine.execBgtRequest kind req mw dur wait s
  | .bgtTick => Sys2Proof.Machine.execBgtTick s
  | .bgtOverrun kind req => Sys2Proof.Machine.execBgtOverrun kind req s
  | .bgtCmdReserve src => Sys2Proof.Machine.execBgtCmdReserve src s
  | .bgtCmdRelease src => Sys2Proof.Machine.execBgtCmdRelease src s
  | .porN => Sys2Proof.Machine.execPorN s
  | .rstN => Sys2Proof.Machine.execRstN s
  | .sysReset src => Sys2Proof.Machine.execSysReset src s
  | .sysStartGo src => Sys2Proof.Machine.execSysStartGo src s
  | .startLaneTimeout => Sys2Proof.Machine.execStartLaneTimeout s
  | .startTimeTimeout => Sys2Proof.Machine.execStartTimeTimeout s
  | .mgmtCtlReset src => Sys2Proof.Machine.execMgmtCtlReset src s
  | .attCmdExtend src index => Sys2Proof.Machine.execAttCmdExtend src index s
  | .attCmdQuote src => Sys2Proof.Machine.execAttCmdQuote src s
  | .attQuoteDone => Sys2Proof.Machine.execAttQuoteDone s
  | .pcieHotReset kind => Sys2Proof.Machine.execPcieHotReset kind s
  | .pcieLinkChange up width => Sys2Proof.Machine.execPcieLinkChange up width s
  | .pcieConfigRequest wr addr be val => Sys2Proof.Machine.execPcieConfigRequest wr addr be val s
  | .smpRead op addr nm1 crc => Sys2Proof.Machine.execSmpRead op addr nm1 crc s
  | .smpWrite op addr data crc => Sys2Proof.Machine.execSmpWrite op addr data crc s
  | .smpFixedRead op addr nm1 crc => Sys2Proof.Machine.execSmpFixedRead op addr nm1 crc s
  | .smpStreamRead op addr nm1 crc => Sys2Proof.Machine.execSmpStreamRead op addr nm1 crc s
  | .smpFrameErr => Sys2Proof.Machine.execSmpFrameErr s
  | .qspiCmdGo src val back => Sys2Proof.Machine.execQspiCmdGo src val back s
  | .mtimeCompare => Sys2Proof.Machine.execMtimeCompare s
  | .vddCoreLow => Sys2Proof.Machine.execVddCoreLow s
  | .avddLow => Sys2Proof.Machine.execAvddLow s
  | .avddLowClear => Sys2Proof.Machine.execAvddLowClear s
  | .ppsOutPulse => Sys2Proof.Machine.execPpsOutPulse s
  | .ppsOutPulseEnd => Sys2Proof.Machine.execPpsOutPulseEnd s
  | .vddCoreInRange => Sys2Proof.Machine.execVddCoreInRange s
  | .excLow low => Sys2Proof.Machine.execExcLow low s
  | .mittReferenceSettled mitten => Sys2Proof.Machine.execMittReferenceSettled mitten s
  | .ovlComparatorFall slice => Sys2Proof.Machine.execOvlComparatorFall slice s
  | .trigSlotSilence unit slot => Sys2Proof.Machine.execTrigSlotSilence unit slot s
  | .rxSignalDetect lane => Sys2Proof.Machine.execRxSignalDetect lane s
  | .rxConverged lane => Sys2Proof.Machine.execRxConverged lane s
  | .prbsCheckerLock rx => Sys2Proof.Machine.execPrbsCheckerLock rx s
  | .prbsCheckerLoss lane errs => Sys2Proof.Machine.execPrbsCheckerLoss lane errs s

end Sys2Proof.Machine
end

