-- ==== Sys2Proof/Safety.lean ====
section
/-! DEFINITION. What claims call a sound state and a safe step: the memories in canonical form, and a step that goes on. -/

namespace Sys2Proof.Machine

/-- The byte-addressed memories are in their one canonical form. -/
abbrev State.memOk (s : State) : Prop := Memory.wf sram0 s.sram ∧ Memory.wf dram0 s.dramMem

/-- The hub is held in reset and no command waits that would end it (R463). -/
abbrev State.frozen (s : State) : Prop := s.supply.held = true ∧ Instr.vddCoreInRange ∉ s.pending

/-- The same hub but for the queue. -/
def State.sameBut (s t : State) : Prop := { s with pending := [] } = { t with pending := [] }

/-- The register at a BAR_0 offset answers: no reset is held, and R26 finds nothing wrong with an access to it. -/
abbrev State.reaches (s : State) (a : Nat) : Prop := s.supply.held = false ∧ s.accessFault a = none

/-- A schedule entry that executes now, at its own instant: due, not late, not spent on a full microsecond, first of
its object's due entries, sound, its object's domain up, with RUN 1 and the hub not in SAFE (R68 to R74, R418). -/
abbrev State.entReady (s : State) (act n : Nat) (e : SchEnt) : Prop :=
  s.supply.held = false ∧ s.ent n = some e ∧ schACTION e.content = act ∧ s.pwr.state ≠ 4 ∧ entDue s e = true ∧ schedCtl_RUN s ≠ 0 ∧
    (entRecent s).length < 128 ∧ entBlocked s n e = false ∧ entBad s n e.content = false ∧ objDown s e.content = false ∧ e.late = false

/-- Frame `g` arrives soundly on link `n`: the link is up, its lane receives, the frame is whole with the CRC of its bytes, at most 2 048 of payload, and
the next in order (R357, R360). -/
abbrev State.hears (s : State) (n : Nat) (rx : UlkRx) (g : UlkFrame) : Prop :=
  s.supply.held = false ∧ (s.ulk n).up = true ∧ laneRxOk s n = true ∧ rx.err = 0 ∧ g.payload.length ≤ 2048 ∧ rx.crc = frameCrc rx.seq g ∧
    rx.seq % 2 ^ 16 = (s.ulk n).rxSeq

/-- The hub that has heard a frame on link `n` and moved on to the next number (R360, R361). -/
def State.heard (s : State) (n : Nat) : State :=
  (laneRxData n (s.setUlk n { s.ulk n with lastAct := s.clk })).setUlk n
    { s.ulk n with lastAct := s.clk, rxSeq := ((s.ulk n).rxSeq + 1) % 2 ^ 16, ackValid := true, rxBad := false, refused := none }

/-- What the upkeep of the hub leaves as it was: registers and locks, the last read's answer, both memories, time, the queue, and the whole
measuring path from axes and slices to streams, loops and the time interval unit (R9). -/
def State.pathKept (s t : State) : Prop :=
  t.pending = s.pending ∧ t.st = s.st ∧ t.clk = s.clk ∧ t.regs = s.regs ∧ t.locks = s.locks ∧ t.lastRead = s.lastRead ∧ t.sram = s.sram ∧ t.dramMem = s.dramMem ∧
    t.ax = s.ax ∧ t.grids = s.grids ∧ t.sched = s.sched ∧ t.slices = s.slices ∧ t.ctxs = s.ctxs ∧ t.tails = s.tails ∧ t.recs = s.recs ∧ t.units = s.units ∧
    t.cmps = s.cmps ∧ t.strs = s.strs ∧ t.store = s.store ∧ t.loops = s.loops ∧ t.tiu = s.tiu

/-- The step goes on: neither a fault nor a refusal. -/
def State.goesOn (s : State) : Prop := ∃ t, step s = .next t

end Sys2Proof.Machine
end

