-- ==== Sys2Proof/Certificates/Slice0/Obligations.lean ====
section
/-! DEFINITION. The statements for the provers: what the commands and the machine do, by the spec's rules. -/

open Sys2Proof Sys2Proof.Machine

/-- A step takes the front command (the queue and the tick are the model's own, log entry 1). -/
def Obligations.StepRunsFront : Prop :=  (∀ (s : State) (c : Instr) (rest : List Instr), s.pending = c :: rest → step s = exec c { s with pending := rest }) ∧
  (∀ (s : State), s.pending = [] → step s = .next (idleTick s))

/-- R435: what reset leaves (values the spec does not give are log entry 2's). -/
def Obligations.ResetState : Prop :=  (∀ a, State.reset.rw a = regReset a) ∧ State.reset.memOk ∧ State.reset.st = 0 ∧ State.reset.pending = [] ∧ State.reset.supply.held = false ∧
  (∀ p, (State.reset.page p).stat = 0 ∧ (State.reset.page p).rstEnd = none ∧ (State.reset.lock p).locked = false) ∧
  (∀ g, (State.reset.grid g).run = false) ∧ (∀ n, (State.reset.str n).run = false) ∧
  State.reset.tmr.copies.map (·.st) = [0, 0, 0, 1] ∧ State.reset.pwr.state = 0 ∧ State.reset.boot.step = 0 ∧ State.reset.boot.cause = 1

/-- R463: a dip of the core supply. -/
def Obligations.SupplyDip : Prop :=  (∀ s : State, s.supply.held = false → ∃ t, exec .vddCoreLow s = .next t ∧ t.supply.held = true ∧ t.st = 0 ∧ t.pending = s.pending ∧
    (∀ a, t.rw a = regReset a) ∧ t.sram = [] ∧ t.dramMem = [] ∧ t.hdr = [] ∧ t.boot.step = 0) ∧
  (∀ (s : State) (c : Instr), s.supply.held = true → c ≠ .vddCoreInRange → exec c s = .next s) ∧
  (∀ s : State, s.supply.held = true → idleTick s = s) ∧
  (∀ s : State, s.supply.held = true → ∃ t, exec .vddCoreInRange s = .next t ∧ t.supply.held = false ∧ t.st = 0 ∧ t.pending = s.pending ∧
    (∀ a, t.rw a = regReset a) ∧ t.sram = [] ∧ t.dramMem = [] ∧ t.hdr = [] ∧ t.boot.step = 0 ∧ t.boot.cause = 1 ∧
    exec .porN { s with supply := { s.supply with held := false } } = .next t)

/-- R430: the budget. -/
def Obligations.BudgetRule : Prop :=  (∀ s : State, s.supply.held = false → s.ns % 10000 = 0 → ∃ outs u new, bgtRun s = (outs, u) ∧
    exec .bgtTick s = .next (outs.foldl (fun a o => bgtTell o a) u) ∧
    u.bgt.grants = s.bgt.grants ++ new ∧ bgtBudget_MW u = bgtBudget_MW s ∧
    (∀ k, 0 < k → k ≤ new.length → bgtUsed s + ((new.take k).map (·.mw)).sum ≤ bgtBudget_MW s) ∧
    new.map (fun g => (g.kind, g.req)) = (outs.filter (·.granted)).map (fun o => (o.kind, o.req))) ∧
  (∀ (s : State) (src : Src), s.reaches 0x3110 → bgtUsed s < 2 ^ 16 →
    busRead src.code 0x3110 s = s.answer (word ((s.bgt.grants.map (·.mw)).sum))) ∧
  (∀ (s : State) (r : BgtReq), s.supply.held = false → s.ns % 10000 = 0 → s.bgt.queue = [r] → r.arr + 30 * usU ≤ s.st →
    s.pwr.state ≠ 3 → s.pwr.state ≠ 4 → ¬ (s.pwr.state = 2 ∧ (r.kind = 5 ∨ r.kind = 6)) → (r.queued = true → s.st < r.arr + bgtWait s r) →
    bgtBudget_MW s < r.mw → ∃ u, bgtRun s = ([⟨r.kind, r.req, false⟩], u) ∧ exec .bgtTick s = .next (bgtTell ⟨r.kind, r.req, false⟩ u) ∧
      u.bgt.queue = [] ∧ u.bgt.grants = s.bgt.grants ∧ u.bgt.outcome = 3 ∧ u.bgt.reason = 1 ∧ u.bgt.lastKind = r.kind ∧ u.bgt.lastReq = r.req ∧
      bit (u.page pBGT).stat 2 = true)

/-- R26: faulty accesses. -/
def Obligations.AccessFaults : Prop :=  (∀ (s : State) (src : Src) (v : Word) (c : Nat), s.supply.held = false → ∀ a, s.accessFault a = some c →
    (busRead src.code a s).lastRead = [0] ∧ (busWrite src.code a v s).lastRead = s.lastRead ∧
    (∀ t, t = busRead src.code a s ∨ t = busWrite src.code a v s → bit (t.page pSYS).stat 0 = true ∧ t.regs = s.regs ∧ t.locks = s.locks ∧
      t.sram = s.sram ∧ t.dramMem = s.dramMem ∧ t.pending = s.pending ∧ t.st = s.st ∧ t.clk = s.clk ∧ t.ctxs = s.ctxs ∧ t.slices = s.slices ∧ t.grids = s.grids) ∧
    (bit (s.page pSYS).stat 0 = false → (busRead src.code a s).bad = ⟨a % 2 ^ 20, false, src.code, c⟩ ∧ (busWrite src.code a v s).bad = ⟨a % 2 ^ 20, true, src.code, c⟩) ∧
    (bit (s.page pSYS).stat 0 = true → (busRead src.code a s).bad = s.bad ∧ (busWrite src.code a v s).bad = s.bad)) ∧
  (∀ (s : State) (src : Src) (a v : Word), s.supply.held = false → a.toNat % 4 = 0 → a.toNat < 0x100000 →
    exec (.registerWrite src a 15 v) s = .next (busWrite src.code a.toNat v s) ∧ exec (.stSecLoRead src) s = .next (busRead src.code 0x8110 s) ∧
    ∀ be : Fin 16, be ≠ 15 → exec (.registerWrite src a be v) s = .next s) ∧
  (∀ (s : State) (src : Src) (a v : Word) (be : Fin 16), s.supply.held = false →
    (src ≠ Src.core → a.toNat % 4 ≠ 0 ∨ 0x100000 ≤ a.toNat → exec (.registerWrite src a be v) s = .next s) ∧
    (src = Src.core → a.toNat < 0xF0000000 → a.toNat % 4 ≠ 0 ∨ 0x100000 ≤ a.toNat → exec (.registerWrite src a be v) s = .next s) ∧
    (src = Src.core → ∀ k : Fin 8, a.toNat = 0xF0000200 + 4 * k.val → exec (.registerWrite src a be v) s = .next { s with mgmt := { s.mgmt with ie := s.mgmt.ie.set k.val v } }) ∧
    (src = Src.core → a.toNat = 0xF0000008 → ∃ t, exec (.registerWrite src a be v) s = .next t ∧ t.mgmt.mtimecmp = s.mgmt.mtimecmp / 2 ^ 32 * 2 ^ 32 + v.toNat ∧ t.regs = s.regs) ∧
    (src = Src.core → a.toNat = 0xF000000C → ∃ t, exec (.registerWrite src a be v) s = .next t ∧ t.mgmt.mtimecmp = s.mgmt.mtimecmp % 2 ^ 32 + 2 ^ 32 * v.toNat ∧ t.regs = s.regs)) ∧
  (∀ (s : State) (a : Nat), (0x100 ≤ a / 0x1000 ∨ blockOf (a / 0x1000) = none → s.accessFault a = some 1) ∧
    (a / 0x1000 < 0x100 → (blockOf (a / 0x1000)).isSome → headerOff (a % 0x1000) = true → s.accessFault a = none) ∧
    (a / 0x1000 < 0x100 → (blockOf (a / 0x1000)).isSome → headerOff (a % 0x1000) = false → 0x100 ≤ a % 0x1000 →
      (findReg (a / 0x1000) (a % 0x1000 / 4 * 4)).isSome → s.accessFault a =
        if s.domOff (a / 0x1000) then some 3 else if (s.page (a / 0x1000)).rstEnd.isSome then some 4 else none))

/-- Every step goes on. -/
def Obligations.EveryStepGoesOn : Prop := ∀ s : State, s.goesOn

/-- R463: nothing acts in a held reset. -/
def Obligations.HeldHubFrozen : Prop := ∀ s t : State, s.frozen → step s = .next t → t.frozen ∧ s.sameBut t

/-- R9: what the upkeep of the hub does not touch. -/
def Obligations.HubUpkeepFrame : Prop :=  ∀ (k : Fin 8) (ch : Fin 16) (r mw errs : Nat) (d w : Option Nat) (b e : Bool) (phs : List Int) (ph : Int) (bits : BitVec 95) (cs : List Nat) (rank : Fin 2) (es : List (Nat × Bool))
    (n : Fin 12) (src : Src), ∀ c ∈ [Instr.bgtRequest k r mw d w, .bgtOverrun k r, .bgtCmdReserve src, .bgtCmdRelease src, .excLow b, .ppsOutPulse, .ppsOutPulseEnd,
      .mtimeCompare, .smpFrameErr, .pllFail b ⟨e, phs⟩ ph, .pllReturn ph, .tmrRotation, .dramTrainRetry, .dramTrackRound cs, .dramZqcs, .dramRefresh rank, .dramScrub es,
      .dmaBurstRead ch, .lanePllLock n, .rxConverged n, .laneLeaveRetry n, .laneTxWake n, .laneAdaptFreeze n, .sleepBlockRx n, .rxSignalDetect n,
      .lnVisorDone n errs, .prbsCheckerLock ⟨n, bits⟩, .prbsCheckerLoss n errs],
    ∀ s t : State, exec c s = .next t → s.pathKept t

/-- R32, R33: host writes keep the memories' form (the form itself is the model's, log entry 3). -/
def Obligations.CanonicalMemory : Prop :=  ∀ (s t : State) (src : Src), s.memOk →
    (∀ (o : Nat) (bs : List Byte), exec (.bar2Write src o bs) s = .next t → t.memOk) ∧
    (∀ (wr : Bool) (v : Word), exec (.tblDataAccess src wr v) s = .next t → t.memOk)

/-- R25, R26: a whole, aligned, sound write to a register with no effect of its own, on an unlocked page. -/
def Obligations.RegisterWritePlain : Prop :=  ∀ (s : State) (src : Src) (a v : Word) (r : RegDef), s.reaches a.toNat → a.toNat % 4 = 0 → a.toNat < 0x100000 → 0x100 ≤ a.toNat % 0x1000 →
    findReg (a.toNat / 0x1000) (a.toNat % 0x1000) = some r → (s.lock (a.toNat / 0x1000)).locked = false →
    (∀ t, regEffect src.code a.toNat v t = storeReg src.code a.toNat v t) →
    ∃ t, exec (.registerWrite src a 15 v) s = .next t ∧
      t.rw a.toNat = (s.rw a.toNat &&& ~~~word (r.rw ||| r.lk)) ||| (v &&& word (r.rw ||| r.lk)) ∧
      (∀ b, b ≠ a.toNat → t.rw b = s.rw b) ∧ t.sram = s.sram ∧ t.dramMem = s.dramMem ∧ t.hdr = s.hdr ∧ t.locks = s.locks

/-- R28: the keyed writes of PAGE_LOCK on a used page. -/
def Obligations.PageLockWrite : Prop :=  ∀ (s : State) (src : Src) (p : Fin 256) (v : Word), s.supply.held = false → (blockOf p.val).isSome →
    ((s.lock p.val).sticky = true ∨ fld v 31 16 ≠ 0x4C4B → exec (.pageLockWrite src p v) s = .next s) ∧
    ((s.lock p.val).sticky = false → ∀ l, (v, l) ∈ [(0x4C4B0000#32, (⟨false, false⟩ : PageLock)), (0x4C4B0001#32, ⟨true, false⟩), (0x4C4B0002#32, ⟨true, true⟩), (0x4C4B0003#32, ⟨true, true⟩)] →
      ∃ t, exec (.pageLockWrite src p v) s = .next t ∧ t.lock p.val = l ∧ (∀ q, q ≠ p.val → t.lock q = s.lock q) ∧
        t.hdr = s.hdr ∧ t.regs = s.regs ∧ t.sram = s.sram ∧ t.dramMem = s.dramMem)

/-- R29: clearing latched events. R29: forcing events. -/
def Obligations.EventLatches : Prop :=
  (∀ (s : State) (src : Src) (p : Fin 256) (v : Word), s.supply.held = false → (blockOf p.val).isSome →
    ∃ t, exec (.evtStatClear src p v) s = .next t ∧ (t.page p.val).stat = (s.page p.val).stat &&& ~~~v ∧
      (t.page p.val).en = (s.page p.val).en ∧ (t.page p.val).raw = (s.page p.val).raw ∧ (∀ q, q ≠ p.val → t.page q = s.page q) ∧
      t.regs = s.regs ∧ t.locks = s.locks ∧ t.sram = s.sram ∧ t.dramMem = s.dramMem ∧ t.msi = s.msi) ∧
  (∀ (s : State) (src : Src) (p : Fin 256) (v : Word), s.supply.held = false → (blockOf p.val).isSome →
    ∃ t, exec (.evtForce src p v) s = .next t ∧
      (∀ b, b < 32 → bit (v &&& nevMask p.val) b = true → bit (t.page p.val).stat b = true) ∧
      (∀ q b, bit (s.page q).stat b = true → bit (t.page q).stat b = true) ∧
      t.regs = s.regs ∧ t.locks = s.locks ∧ t.sram = s.sram ∧ t.dramMem = s.dramMem)

/-- R30, R31, R410, R489: a page reset begins, and ends. -/
def Obligations.PageReset : Prop :=  (∀ (s : State) (src : Src) (p : Fin 256), s.supply.held = false → (blockOf p.val).isSome → noPageReset p.val = false →
    (s.lock p.val).locked = false → (s.page p.val).rstEnd = none → ¬(p.val = pLOOP ∧ s.pwr.state = 4) →
    ∃ h u, (∀ q, q ≠ p.val → State.page { s with hdr := h } q = s.page q) ∧ (State.page { s with hdr := h } p.val).en = (s.page p.val).en ∧
      let cs := pathCtxs { s with hdr := h } p.val
      let f := flushOutputs cs { s with hdr := h }
      exec (.pageRst src p) s = .next (blockReset p.val u) ∧
      u.page p.val = { en := (f.page p.val).en, rstEnd := some (f.clk + 2000), rstCtx := cs } ∧
      (∀ a, a / 0x1000 = p.val → u.rw a = regReset a) ∧ u.regs = f.regs.filter (fun x => decide (x.1 / 0x1000 ≠ p.val)) ∧
      (∀ q, q ≠ p.val → u.page q = f.page q) ∧ { u with regs := f.regs, hdr := f.hdr } = f ∧
      (cs = [] → u.page p.val = { en := (s.page p.val).en, rstEnd := some (s.clk + 2000) } ∧ (∀ q, q ≠ p.val → u.page q = s.page q) ∧
        { u with regs := s.regs, hdr := s.hdr } = s)) ∧
  (∀ (s : State) (src : Src), s.supply.held = false → (s.lock pBGT).locked = false → (s.page pBGT).rstEnd = none →
    pathCtxs s pBGT = [] →
    ∃ t, exec (.pageRst src ⟨pBGT, by decide⟩) s = .next t ∧ t.bgt.grants = s.bgt.grants ∧ t.bgt.queue = s.bgt.queue ∧
      t.bgt.accNum = s.bgt.accNum ∧ t.bgt.accDen = s.bgt.accDen ∧ t.bgt.outcome = 0 ∧ t.bgt.granted = 0 ∧ t.bgt.refused = 0 ∧
      bgtBudget_MW t = 600 ∧ bgtStep_STEP t = 10 ∧ bgtSupply_MV t = 12000 ∧ bgtMaxwait_MS t = 1000 ∧ bgtExc_MA t = 0 ∧
      t.locks = s.locks ∧ t.ctxs = s.ctxs ∧ t.grids = s.grids ∧ t.sram = s.sram) ∧
  (∀ (s : State) (src : Src), s.supply.held = false → (s.lock pLOOP).locked = false → (s.page pLOOP).rstEnd = none → s.pwr.state = 4 →
    ∃ t, exec (.pageRst src ⟨pLOOP, by decide⟩) s = .next t ∧ t.loops = s.loops ∧ t.regs = s.regs ∧ (t.page pLOOP).rstEnd = none) ∧
  (∀ (s : State) (src : Src) (p : Fin 256), s.supply.held = false →
    ((blockOf p.val) = none → ∃ t, exec (.pageRst src p) s = .next t ∧ t.regs = s.regs ∧ t.locks = s.locks ∧ bit (t.page pSYS).stat 0 = true) ∧
    ((blockOf p.val).isSome → (s.lock p.val).locked = false → noPageReset p.val = true ∨ (s.page p.val).rstEnd.isSome →
      ∃ t, exec (.pageRst src p) s = .next t ∧ t.regs = s.regs ∧ t.locks = s.locks ∧ (t.page p.val).rstEnd = (s.page p.val).rstEnd ∧
        (t.page p.val).stat = (s.page p.val).stat ∧ (t.page p.val).en = (s.page p.val).en) ∧
    ((blockOf p.val).isSome → (s.lock p.val).locked = true → ∃ t, exec (.pageRst src p) s = .next t ∧ t.regs = s.regs ∧ t.locks = s.locks ∧
      (t.page p.val).rstEnd = (s.page p.val).rstEnd ∧ (noPageReset p.val = false → bit (t.page pSYS).stat 1 = true) ∧ t.ctxs = s.ctxs ∧ t.slices = s.slices)) ∧
  (∀ (s : State) (p : Fin 256), s.supply.held = false →
    ((s.page p.val).rstEnd = none → exec (.pageResetEnd p) s = .next s) ∧
    ((s.page p.val).rstEnd.isSome → (∀ c ∈ (s.page p.val).rstCtx, s.madeCount c = 0) →
      let u := s.setPage p.val { s.page p.val with rstEnd := none, rstCtx := [] }
      (p.val ≠ pFENG → stopsInput p.val = false → p.val ≠ pCAL → p.val ≠ pSTORE → exec (.pageResetEnd p) s = .next u) ∧
      (∀ c, stopsInput p.val = true → (s.page p.val).rstCtx = [c] → exec (.pageResetEnd p) s = .next (settleEvent c s.st 0 false 0 u)) ∧
      (p.val = pCAL → exec (.pageResetEnd p) s = .next (calServe u)) ∧
      (p.val = pSTORE → exec (.pageResetEnd p) s = .next (ledgerDue u))))

/-- R33: the windowed table access. -/
def Obligations.TblDataAccess : Prop :=  ∀ (s : State) (src : Src) (v : Word) (o : Nat), s.reaches 0x124 → o = 4 * fld (s.rw 0x120) 18 2 →
    (∃ t, exec (.tblDataAccess src false v) s = .next t ∧ t.lastRead = [if o < 0x58000 then s.tblW o else 0] ∧
      fld (t.rw 0x120) 18 2 = (o / 4 + 1) % 2 ^ 17 ∧ t.sram = s.sram) ∧
    (∃ t, exec (.tblDataAccess src true v) s = .next t ∧ fld (t.rw 0x120) 18 2 = (o / 4 + 1) % 2 ^ 17 ∧
      (0x58000 ≤ o → t.sram = s.sram) ∧
      (o < 0x58000 → (o < 0x20000 → (s.ctx (o / 0x80)).pend = none) →
        (0x20000 ≤ o → o < 0x20400 → headOpen s ((o - 0x20000) / 0x20) (o % 0x20 / 4) (s.tblMerge o v) = true) →
        (0x20400 ≤ o → o < 0x40000 → poolActive s ((o - 0x20400) / 4) = false) →
        t.tblW o = s.tblMerge o v ∨ (0x40000 ≤ o ∧ o < 0x50000 ∧ o % 16 = 0 ∧ t.tblW o = s.tblMerge o v ||| 0x40000000#32)))

/-- R35, R36, R37, R128, R155: a commit's acceptance, its safe point, and the completion queue. -/
def Obligations.CommitQueue : Prop :=  (∀ (s : State) (src : Src) (c : Fin 1024), s.reaches 0xD100 →
    ((s.ctx c.val).pend = none → exec (.ctxCommit src c) s = .next (s.setCtx c.val { s.ctx c.val with pend := some s.st })) ∧
    ((s.ctx c.val).pend.isSome → exec (.ctxCommit src c) s = .next s)) ∧
  (∀ (s : State) (c : Fin 1024), s.supply.held = false → safePoint s c.val = none → exec (.ctxCommitSafePoint c) s = .next s) ∧
  (∀ (s : State) (c : Fin 1024) (sp : Option (Nat × Nat)) (idx : Nat), s.supply.held = false → safePoint s c.val = some sp → commitsBefore s c.val = [] →
    idx = (match sp with | some (k, _) => k | none => 2 ^ 64 - 1) →
    (∀ r, commitRej s c.val (s.shadow c.val) = some r →
      ∃ t, exec (.ctxCommitSafePoint c) s = .next t ∧ t.ctx c.val = { s.ctx c.val with pend := none, doneAny := true, lastRej := true } ∧
        (∀ x, x ≠ c.val → t.ctx x = s.ctx x) ∧ t.feng.rejReason = r ∧ t.feng.rejCtx = c.val ∧
        (s.feng.done.length < 32 → t.feng.done = s.feng.done ++ [⟨c.val, true, idx⟩] ∧ t.feng.ovf = s.feng.ovf) ∧
        (32 ≤ s.feng.done.length → t.feng.done = s.feng.done ∧ t.feng.ovf = true) ∧
        bit (t.page pFENG).stat 0 = true ∧ bit (t.page pFENG).stat 1 = true ∧ t.slices = s.slices ∧ t.strs = s.strs ∧ t.sram = s.sram ∧ t.regs = s.regs) ∧
    (commitRej s c.val (s.shadow c.val) = none →
      ∃ t, exec (.ctxCommitSafePoint c) s = .next t ∧ (t.ctx c.val).pend = none ∧ (t.ctx c.val).doneAny = true ∧ (t.ctx c.val).lastRej = false ∧
        (t.ctx c.val).lastIdx = idx ∧ bit (t.page pFENG).stat 0 = true ∧
        (sp = none → dEN (s.shadow c.val) = false → dEN (s.ctx c.val).desc = false → s.slicesNaming c.val = [] → s.owes c.val = false →
          streamsOf (s.shadow c.val) = streamsOf (s.ctx c.val).desc → dCCEN (s.shadow c.val) = dCCEN (s.ctx c.val).desc →
          (t.ctx c.val).desc = s.shadow c.val ∧ (∀ x, x ≠ c.val → t.ctx x = s.ctx x) ∧ t.slices = s.slices ∧ t.strs = s.strs ∧ t.sram = s.sram ∧ t.regs = s.regs))) ∧
  (∀ (s : State) (src : Src), s.reaches 0xD104 →
    (∀ e rest, s.feng.done = e :: rest →
      ∃ t, exec (.ctxCommitDonePop src) s = .next t ∧ t.feng.done = rest ∧ t.feng.popIdx = e.idx ∧
        t.ctxs = s.ctxs ∧ t.regs = s.regs ∧ t.hdr = s.hdr ∧ t.sram = s.sram) ∧
    (s.feng.done = [] → ∃ w, bit w 31 = false ∧ exec (.ctxCommitDonePop src) s = .next { s with lastRead := [w] }))

/-- R41: end of interrupt, and unmasking. -/
def Obligations.MsiCommands : Prop :=  (∀ (s : State) (src : Src) (v : Fin 32), s.reaches 0x1144 →
    (s.vecLevel v.val = false → exec (.msiEoi src v) s = .next s) ∧
    (s.vecLevel v.val = true → s.vecMasked v.val = false →
      exec (.msiEoi src v) s = .next { s with msi := { s.msi with posted := v.val :: s.msi.posted } }) ∧
    (s.vecLevel v.val = true → s.vecMasked v.val = true → v.val ∉ s.msi.pba →
      exec (.msiEoi src v) s = .next { s with msi := { s.msi with pba := v.val :: s.msi.pba } }) ∧
    (s.vecLevel v.val = true → s.vecMasked v.val = true → v.val ∈ s.msi.pba → exec (.msiEoi src v) s = .next s)) ∧
  (∀ (s : State) (src : Src) (v : Fin 32), s.reaches (0x1880C + 0x10 * v.val) →
    (s.vecMasked v.val = false → ∃ t, exec (.msixUnmask src v) s = .next t ∧ t.vecMasked v.val = false ∧ t.msi = s.msi ∧ t.hdr = s.hdr ∧
      (∀ a, a ≠ 0x1880C + 0x10 * v.val → t.rw a = s.rw a)) ∧
    (s.vecMasked v.val = true →
    ∃ t, exec (.msixUnmask src v) s = .next t ∧ t.vecMasked v.val = false ∧ t.hdr = s.hdr ∧ (∀ a, a ≠ 0x1880C + 0x10 * v.val → t.rw a = s.rw a) ∧
      (v.val ∉ s.msi.pba → t.msi = s.msi) ∧
      (v.val ∈ s.msi.pba → t.msi.pba = s.msi.pba.filter (fun x => decide (x ≠ v.val)) ∧
        t.msi.posted = if s.vecLevel v.val then v.val :: s.msi.posted else s.msi.posted)))

/-- R44, R194, R399, R400: the reads and the measurements of structure time. -/
def Obligations.TimeReadsAndMeasures : Prop :=  (∀ (s : State) (src : Src), s.reaches 0x8110 →
    ∃ t, exec (.stSecLoRead src) s = .next t ∧ t.lastRead = [word s.sec] ∧ t.tb.latSec = s.sec ∧ t.tb.latNs = s.ns ∧
      t.tb.latFrac = s.st % nsU / 2 ^ 32 ∧ t.st = s.st ∧ t.regs = s.regs ∧ t.hdr = s.hdr) ∧
  (∀ (s : State) (co ts : Nat) (fi : Fin 128) (e : Int), s.supply.held = false → ts = stamp s co fi.val →
    e = (if 2 * (ts % 128000000000) < 128000000000 then ((ts % 128000000000 : Nat) : Int) else ((ts % 128000000000 : Nat) : Int) - 128000000000) →
    (s.tb.srcAct ≠ 3 → s.tiu.ppsLast = none →
      exec (.ppsInEdge ⟨co, fi⟩) s = .next (tiuEdge 0x10 ts { s with tiu := { s.tiu with ppsLast := some ts, ppsClk := s.clk } })) ∧
    (∀ l, s.tb.srcAct ≠ 3 → s.tiu.ppsLast = some l → l < ts → 1280000 < tsDist (ts - l) 128000000000 →
      exec (.ppsInEdge ⟨co, fi⟩) s = .next (tiuEdge 0x10 ts
        { s with tiu := { s.tiu with ppsLast := some ts, ppsClk := s.clk, ppsBad := satInc 16 s.tiu.ppsBad } })) ∧
    (∀ l, s.tiu.pps = true → s.tiu.ppsLast = some l → l < ts → tsDist (ts - l) 128000000000 ≤ 1280000 →
      exec (.ppsInEdge ⟨co, fi⟩) s = .next (tiuEdge 0x10 ts (tbMeasure 3 (e * tsU * 1000)
        { s with tiu := { s.tiu with ppsLast := some ts, ppsClk := s.clk }, tb := if s.tb.srcAct = 3 then { s.tb with seen3 := some s.clk } else s.tb })))) ∧
  (∀ (s : State) (src : Src) (v : Word), s.reaches 0x815C → (s.lock pTBASE).locked = false →
    ∃ t, exec (.ptpOfsAtNsWrite src v) s = .next t ∧ ptpOfsAtNs_VALID t = 1 ∧ ptpOfsAtNs_NS t = fld v 29 0 ∧ t.tb = s.tb ∧ t.st = s.st) ∧
  (∀ (s : State) (src : Src) (v : Word), s.reaches 0x8154 →
    (ptpOfsAtNs_VALID s = 1 → (s.st : Int) < ptpInstant s ∨ ptpInstant s + secU < (s.st : Int) ∨ (∃ l, s.tb.lastStep = some l ∧ ptpInstant s < (l : Int)) →
      ∃ t, exec (.ptpOfsHiWrite src v) s = .next t ∧ ptpOfsAtNs_VALID t = 0 ∧ t.tb = { s.tb with ptpDiscard := satInc 16 s.tb.ptpDiscard } ∧ t.st = s.st) ∧
    (ptpOfsAtNs_VALID s = 1 → ptpInstant s ≤ (s.st : Int) → (s.st : Int) ≤ ptpInstant s + secU → (∀ l, s.tb.lastStep = some l → (l : Int) ≤ ptpInstant s) →
      let m := tbMeasure 2 (sgn 64 (s.tb.ptpLo.toNat + 2 ^ 32 * v.toNat) * psE + corrSince s (ptpInstant s).toNat) (s.setFld 0x815C 31 31 0)
      exec (.ptpOfsHiWrite src v) s = .next (if m.tb.srcAct = 2 then { m with tb := { m.tb with ptpAccept := satInc 16 m.tb.ptpAccept } }
        else { m with tb := { m.tb with ptpDiscard := satInc 16 m.tb.ptpDiscard } })) ∧
    (ptpOfsAtNs_VALID s = 0 → s.tb.lastStep = none →
      let m := tbMeasure 2 (sgn 64 (s.tb.ptpLo.toNat + 2 ^ 32 * v.toNat) * psE) s
      exec (.ptpOfsHiWrite src v) s = .next (if m.tb.srcAct = 2 then { m with tb := { m.tb with ptpAccept := satInc 16 m.tb.ptpAccept } }
        else { m with tb := { m.tb with ptpDiscard := satInc 16 m.tb.ptpDiscard } })))

/-- R46, R51, R52, R485: the time sources. -/
def Obligations.TimeSources : Prop :=  (∀ (s : State), s.supply.held = false → s.tb.srcAct ≠ 0 → tbDelivers s s.tb.srcAct = false → s.tb.holdover = false →
    (s.tb.srcAct = tbSel s → tbAlt s ≠ s.tb.srcAct → tbDelivers s (tbAlt s) = true →
      ∃ t, exec .tbSourceLost s = .next t ∧ t.tb = { s.tb with srcAct := tbAlt s, lastMeas := none, autoDone := false, lockCnt := 0, newSel := false, retSince := none } ∧
        t.st = s.st ∧ t.regs = s.regs ∧ bit (t.page pTBASE).stat 4 = true) ∧
    (s.tb.srcAct = 1 → s.ring.crown = true → tbAlt s = 0 → tbSel s = 1 →
      ∃ t, exec .tbSourceLost s = .next t ∧ t.tb.srcAct = 0 ∧ t.tb.holdover = false ∧ t.tb.freq = s.tb.freq ∧ t.st = s.st) ∧
    (s.tb.srcAct ≠ tbSel s ∨ tbAlt s = s.tb.srcAct ∨ tbDelivers s (tbAlt s) = false → ¬(s.tb.srcAct = 1 ∧ s.ring.crown = true ∧ tbAlt s = 0) →
      ∃ t, exec .tbSourceLost s = .next t ∧ t.tb.holdover = true ∧ t.tb.hoStart = s.clk ∧ t.tb.hoErr = s.tb.err.natAbs ∧ t.tb.corr = 0 ∧
        t.st = s.st ∧ t.regs = s.regs ∧ bit (t.page pTBASE).stat 1 = true)) ∧
  (∀ (s : State), s.supply.held = false → (s.tb.srcAct = 0 ∨ tbDelivers s s.tb.srcAct = true) → exec .tbSourceLost s = .next s) ∧
  (∀ (s : State) (r : Nat), s.supply.held = false → s.tb.retSince = some r → s.tb.srcAct ≠ tbSel s → tbDelivers s (tbSel s) = true → r + 10000000000 ≤ s.clk →
    ∃ t, exec .tbSrcReturn s = .next t ∧ t.tb = { s.tb with srcAct := tbSel s, lastMeas := none, autoDone := false, lockCnt := 0, newSel := false, retSince := none } ∧
      t.st = s.st ∧ t.regs = s.regs ∧ bit (t.page pTBASE).stat 4 = true) ∧
  (∀ (s : State), s.supply.held = false → s.tb.holdover = true → s.tb.recovering = false → s.tb.holdActive = false →
    holdLimit_LIMIT s * (2 * 10 ^ 27 * 2 ^ 48) < hoEstNum s (s.clk - s.tb.hoStart) →
    ∃ t, exec .tbHoldOn s = .next t ∧ t.tb = { s.tb with holdActive := true, holds := t.tb.holds } ∧ t.tb.holds.head? = some (s.st, none) ∧
      t.st = s.st ∧ t.regs = s.regs ∧ bit (t.page pTBASE).stat 2 = true) ∧
  (∀ (s u : State) (src : Src) (v : Word), s.reaches 0x8100 → u = storeReg src.code 0x8100 v s →
    (s.tb.holdover = false → tbSel u = tbSel s → tbAlt u = tbAlt s → exec (.tbCtlWrite src v) s = .next u) ∧
    (s.tb.holdover = false → tbSel u ≠ tbSel s → s.tb.srcAct ≠ tbSel u → tbSel u ≠ 0 → tbSel u ≠ 1 → tbDelivers u (tbSel u) = true →
      exec (.tbCtlWrite src v) s = .next { u with tb := { s.tb with srcAct := tbSel u, lastMeas := none, autoDone := false, lockCnt := 0, newSel := false, retSince := none } }) ∧
    (s.tb.holdover = true → tbSel u = 0 → tbAlt u = 0 →
      ∃ t, exec (.tbCtlWrite src v) s = .next t ∧ t.tb.holdover = false ∧ t.tb.holdActive = false ∧ t.tb.srcAct = 0 ∧ t.tb.freq = s.tb.freq ∧ t.regs = u.regs ∧ t.st = s.st ∧
        bit (t.page pTBASE).stat 3 = true) ∧
    (s.tb.holdover = true → (tbSel u ≠ 0 ∨ tbAlt u ≠ 0) → tbSel u = tbSel s → s.tb.recovering = false → s.ring.crown = false → exec (.tbCtlWrite src v) s = .next u))

/-- R49, R54: steps of ST, and the leap second. -/
def Obligations.TimeSteps : Prop :=  (∀ (s : State) (src : Src) (ab : Bool), s.reaches 0x8168 →
    (s.tb.step.isSome ∨ anyGridRuns s = true →
      ∃ t, exec (.stepCmdGo src ab) s = .next t ∧ t.tb = s.tb ∧ t.st = s.st ∧ fld (t.rw 0x8168) 1 1 = (if ab then 1 else 0) ∧ bit (t.page pTBASE).stat 6 = true) ∧
    (s.tb.step = none → anyGridRuns s = false →
      ∃ t, exec (.stepCmdGo src ab) s = .next t ∧ t.st = s.st ∧ fld (t.rw 0x8168) 1 1 = (if ab then 1 else 0) ∧ t.hdr = s.hdr ∧
        t.tb = { s.tb with step := some ⟨ab, if ab then (((stepLo_STEP s + 2 ^ 32 * stepHi_STEP s) * nsU : Nat) : Int) else sgn 64 (stepLo_STEP s + 2 ^ 32 * stepHi_STEP s) * nsU⟩ })) ∧
  (∀ (s : State) (r : StepReq), s.supply.held = false → s.tb.step = some r →
    ∃ u, exec .tbStepDone s = .next (schedSkip (tiuStep ((u.st : Int) - s.st) u)) ∧ u.st = (if r.abs then r.amt else (s.st : Int) + r.amt).toNat ∧
      u.tb.step = none ∧ u.tb.freq = s.tb.freq ∧ u.clk = s.clk ∧ u.ctxs = s.ctxs ∧ u.slices = s.slices ∧ u.grids = s.grids ∧ u.regs = s.regs ∧ bit (u.page pTBASE).stat 5 = true) ∧
  (∀ (s : State), s.supply.held = false → s.tb.step = none → exec .tbStepDone s = .next s) ∧
  (∀ (s : State), s.supply.held = false → leapCfg_ARM s = 1 → leapSecLo_SEC s + 2 ^ 32 * leapSecHi_SEC s ≤ s.sec →
    ∃ t, exec .tbLeap s = .next t ∧ fld (t.rw 0x8170) 15 0 = leapCfg_NEW s ∧ leapCfg_ARM t = 0 ∧ t.st = s.st ∧ t.tb = s.tb ∧
      (∀ a, a ≠ 0x8170 → a ≠ leapCfgAt → t.rw a = s.rw a) ∧ bit (t.page pTBASE).stat 8 = true)

/-- R55, R56, R60, R61: an angle axis. -/
def Obligations.AxisCommands : Prop :=  (∀ (s : State) (src : Src) (n : Fin 4) (v : Word), s.reaches (axCfgAt n.val) → (s.lock pAXIS).locked = false → axCfg_EN s n.val = 0 → bit v 0 = true →
    ∃ t, exec (.axCfgEnable src n v) s = .next t ∧
      (t.axis n.val).pos = sgn 64 (axPresetLo_PRE s n.val + 2 ^ 32 * axPresetHi_PRE s n.val) * 2 ^ 16 ∧ (t.axis n.val).max = (t.axis n.val).pos ∧
      (t.axis n.val).idle = false ∧ (t.axis n.val).reversed = false ∧ (t.axis n.val).zseen = false ∧ axCfg_EN t n.val = 1) ∧
  (∀ (s : State) (n : Fin 4) (a b : Bool) (held co : Nat) (fi : Fin 128), s.supply.held = false →
    (held < axCfg_FILT s n.val → exec (.axisCountEdge n a b ⟨held, ⟨co, fi⟩⟩) s = .next s) ∧
    (axCfg_FILT s n.val ≤ held → axCfg_EN s n.val = 0 →
      ∃ t, exec (.axisCountEdge n a b ⟨held, ⟨co, fi⟩⟩) s = .next t ∧ t.axis n.val = { s.axis n.val with a := a, b := b } ∧ t.grids = s.grids ∧ t.hdr = s.hdr) ∧
    (axCfg_FILT s n.val ≤ held → axCfg_EN s n.val = 1 → (a ≠ (s.axis n.val).a ↔ b = (s.axis n.val).b) →
      ∃ t, exec (.axisCountEdge n a b ⟨held, ⟨co, fi⟩⟩) s = .next (tiuEdge (0x08 + n.val) (stamp s co fi.val) t) ∧ (t.axis n.val).a = a ∧ (t.axis n.val).b = b ∧ (t.axis n.val).idle = false ∧ (t.axis n.val).lastClk = s.clk ∧
        (t.axis n.val).pos = wrapPos ((s.axis n.val).pos +
          (if decide (quadNext (s.axis n.val).a (s.axis n.val).b = (a, b)) != decide (axCfg_INVERT s n.val = 1) then axInc s n.val else -(axInc s n.val)) + spreadStep (s.axis n.val)) ∧
        (t.axis n.val).edges.head?.map (·.t) = some (stamp s co fi.val * tsU) ∧ (∀ m, m ≠ n.val → t.axis m = s.axis m) ∧ t.st = s.st ∧ t.regs = s.regs ∧ t.sram = s.sram) ∧
    (axCfg_FILT s n.val ≤ held → axCfg_EN s n.val = 1 → a ≠ (s.axis n.val).a → b ≠ (s.axis n.val).b →
      ∃ t, exec (.axisCountEdge n a b ⟨held, ⟨co, fi⟩⟩) s = .next t ∧ t.axis n.val = { s.axis n.val with a := a, b := b } ∧ t.grids = s.grids ∧ bit (t.page pAXIS).stat 4 = true)) ∧
  (∀ (s : State) (n : Fin 4), s.supply.held = false → axCfg_EN s n.val = 1 → (s.axis n.val).idle = false →
    (s.axis n.val).lastClk + max 1 (axIdleTime_IDLE s n.val) * 1000000 ≤ s.clk →
    ∃ t, exec (.axIdle n) s = .next t ∧ (t.axis n.val).idle = true ∧ (t.axis n.val).pos = (s.axis n.val).pos ∧ t.grids = s.grids ∧ bit (t.page pAXIS).stat 0 = true) ∧
  (∀ (s : State) (n : Fin 4) (co : Nat) (fi : Fin 128), s.supply.held = false →
    (axCfg_EN s n.val = 0 ∨ axCfg_Z_EN s n.val = 0 ∨ (s.axis n.val).reversed = true ∨ (s.axis n.val).fwd = false) →
    exec (.encZEdge ⟨n, ⟨co, fi⟩⟩) s = .next (tiuEdge (0x0C + n.val) (stamp s co fi.val) s)) ∧
  (∀ (s : State) (n : Fin 4) (d : Int) (co : Nat) (fi : Fin 128), s.supply.held = false → axCfg_EN s n.val = 1 → axCfg_Z_EN s n.val = 1 → (s.axis n.val).reversed = false → (s.axis n.val).fwd = true →
    (axCfg_Z_HOME s n.val = 0 ∨ (s.axis n.val).zseen = true) → d = sgn 48 (unsgn 48 ((s.axis n.val).pos - ((axZAngle_ZANG s n.val * 2 ^ 16 : Nat) : Int))) →
    (d.natAbs ≤ 2 * (axInc s n.val).natAbs →
      ∃ t, exec (.encZEdge ⟨n, ⟨co, fi⟩⟩) s = .next (tiuEdge (0x0C + n.val) (stamp s co fi.val) t) ∧ (t.axis n.val).spread = -d ∧ (t.axis n.val).spreadN = 64 ∧ (t.axis n.val).pos = (s.axis n.val).pos ∧ (t.axis n.val).zseen = true) ∧
    (2 * (axInc s n.val).natAbs < d.natAbs →
      ∃ t, exec (.encZEdge ⟨n, ⟨co, fi⟩⟩) s = .next (tiuEdge (0x0C + n.val) (stamp s co fi.val) t) ∧ (t.axis n.val).pos = (s.axis n.val).pos ∧ (t.axis n.val).spread = (s.axis n.val).spread ∧ (t.axis n.val).zseen = true ∧
        bit (t.page pAXIS).stat 2 = true))

/-- R63 to R66: grids. -/
def Obligations.GridCommands : Prop :=  (∀ (s : State) (src : Src) (g : Fin 64) (at_ : Bool) (a : Nat), s.reaches 0xA300 → a = (if at_ then max (s.st + usU) ((s.sec + 1) * secU) else s.st + usU) →
    ((s.grid g.val).run = true → gridStopped (s.grid g.val) s.st = false → exec (.gridCmdStart src g at_) s = .next s) ∧
    ((s.grid g.val).run = false → ∀ r, gridRej s g.val a = some r →
      ∃ t, exec (.gridCmdStart src g at_) s = .next t ∧ t.gctl = ⟨r, g.val⟩ ∧ t.grids = s.grids ∧ t.ctxs = s.ctxs ∧ bit (t.page pAXIS).stat 7 = true) ∧
    ((s.grid g.val).run = false → gridRej s g.val a = none →
      ∃ u, exec (.gridCmdStart src g at_) s = .next (raise pAXIS 5 (startGridCtxs g.val s.st (gridFirst s (gridRead s g.val) a) u)) ∧
        (u.grid g.val).run = true ∧ (u.grid g.val).axis = (gridRead s g.val).axis ∧ (u.grid g.val).origin = (gridRead s g.val).origin ∧
        (u.grid g.val).period = (gridRead s g.val).period ∧ (u.grid g.val).stopIdx = (gridRead s g.val).stop ∧
        (u.grid g.val).next = gridFirst s (gridRead s g.val) a ∧ (u.grid g.val).made = [])) ∧
  (∀ (s : State) (src : Src) (g : Fin 64) (q : GridSt), s.reaches 0xA300 → (s.grid g.val).run = true →
    q = { s.grid g.val with stopAt := some (min (s.st + usU) ((s.grid g.val).stopAt.getD (s.st + usU))) } →
    (gridPast (s.setGrid g.val q) q = false → exec (.gridCmdStop src g) s = .next (s.setGrid g.val q)) ∧
    (gridPast (s.setGrid g.val q) q = true →
      ∃ t, exec (.gridCmdStop src g) s = .next t ∧ (t.grid g.val).run = false ∧ (t.grid g.val).next = (s.grid g.val).next ∧ bit (t.page pAXIS).stat 6 = true)) ∧
  (∀ (s : State) (g : Fin 64), s.supply.held = false → (s.grid g.val).run = true → (s.grid g.val).axis = 0 → (s.grid g.val).stopAt = none →
    ((s.grid g.val).origin + ((s.grid g.val).next * (s.grid g.val).period : Nat)).toNat * 2 ^ 16 ≤ s.st →
    ∃ t i, exec (.gridInstant g) s = .next t ∧ (t.grid g.val).next = (s.grid g.val).next + 1 ∧ (t.grid g.val).made = i :: (s.grid g.val).made.take 4095 ∧
      i.k = (s.grid g.val).next ∧ i.t = ((s.grid g.val).origin + ((s.grid g.val).next * (s.grid g.val).period : Nat)).toNat * 2 ^ 16 ∧
      ((t.grid g.val).run = false ↔ (s.grid g.val).next = (s.grid g.val).stopIdx)) ∧
  (∀ (s : State) (g : Fin 64) (t0 : Nat) (un : Bool), s.supply.held = false → (s.grid g.val).run = true → (s.grid g.val).stopAt = none → gridDue s (s.grid g.val) = some (t0, un) →
    ∃ t i, exec (.gridInstant g) s = .next t ∧ (t.grid g.val).next = (s.grid g.val).next + 1 ∧ (t.grid g.val).made = i :: (s.grid g.val).made.take 4095 ∧
      i.k = (s.grid g.val).next ∧ i.t = t0 ∧ i.hold = holdAt s t0) ∧
  (∀ (s : State) (g : Fin 64), s.supply.held = false → ((s.grid g.val).run = false ∨ ((s.grid g.val).stopAt = none ∧ gridDue s (s.grid g.val) = none)) →
    exec (.gridInstant g) s = .next s)

/-- R68 to R72: what each kind of entry does at its instant. -/
def Obligations.ScheduleActions : Prop :=  ∀ (s : State) (n : Fin 4096) (e : SchEnt) (t g a : Nat), t = entInst e → g = schTARGET e.content → a = schARG e.content →
    (s.entReady 1 n.val e → a % 2 = 0 → exec (.safety n) s = .next (entNext n.val e (raise pSCHED 4 (sliceSafety g t (entCount s))))) ∧
    (s.entReady 1 n.val e → a % 2 = 1 → exec (.safety n) s = .next (entNext n.val e (raise pSCHED 4 (loopSafety g (entCount s))))) ∧
    (s.entReady 2 n.val e → vwHolds s g = false → exec (.excOn n) s = .next (entNext n.val e (excOn g t (decide (a % 2 = 1)) (entCount s)))) ∧
    (s.entReady 2 n.val e → vwHolds s g = true → exec (.excOn n) s = .next (entNext n.val e (excBlocked g (entCount s)))) ∧
    (s.entReady 3 n.val e → vwHolds s g = false → exec (.excOff n) s = .next (entNext n.val e (excOffEntry g t (entCount s)))) ∧
    (s.entReady 3 n.val e → vwHolds s g = true → exec (.excOff n) s = .next (entNext n.val e (excBlocked g (entCount s)))) ∧
    (s.entReady 4 n.val e → vwHolds s g = false → exec (.excRev n) s = .next (entNext n.val e (excRev g t (entCount s)))) ∧
    (s.entReady 4 n.val e → vwHolds s g = true → exec (.excRev n) s = .next (entNext n.val e (excBlocked g (entCount s)))) ∧
    (s.entReady 5 n.val e → exec (.vwPluck n) s = .next (entNext n.val e (vwPluck g (entCount s)))) ∧
    (s.entReady 6 n.val e → exec (.muxStep n) s = .next (entNext n.val e
      (muxStep g (if a.testBit 3 then nextSlot (s.slice g).app (s.slice g).slot else a % 8) t (entCount s)))) ∧
    (s.entReady 7 n.val e → exec (.calSlot n) s = .next (entNext n.val e (calGap (fun k => decide (g = 0xFFF ∨ k = g)) (t + a * msU) (entCount s)))) ∧
    (s.entReady 8 n.val e → exec (.gridStart n) s = .next (entNext n.val e (gridStart g t t (entCount s)))) ∧
    (s.entReady 9 n.val e → exec (.gridStop n) s = .next (entNext n.val e (gridStop g t (entCount s)))) ∧
    (s.entReady 10 n.val e → exec (.recOpen n) s = .next (entNext n.val e (forceUnit g t 0x10 (entCount s)))) ∧
    (s.entReady 11 n.val e → exec (.recClose n) s = .next (entNext n.val e (stopUnit g t (entCount s)))) ∧
    (s.entReady 12 n.val e → exec (.tiuGate n) s = .next (entNext n.val e (tiGate g t (decide (a % 2 = 1)) (entCount s)))) ∧
    (s.entReady 13 n.val e → exec (.pwrHint n) s = .next (entNext n.val e (pwrHint g (decide (a % 2 = 1)) (entCount s)))) ∧
    (s.entReady 14 n.val e → exec (.event n) s = .next (entNext n.val e (raise pSCHED 3 (meetKind 7 g t (tiuEdge (0x20 + g) (t / tsU) (entCount s))))))

/-- R68, R70, R74, R76: the schedule's control. -/
def Obligations.ScheduleControl : Prop :=  (∀ (s : State) (n : Fin 4096) (e : SchEnt), s.supply.held = false → s.ent n.val = some e → schACTION e.content = 2 → s.pwr.state ≠ 4 → entDue s e = true → schedCtl_RUN s = 0 →
    (schPeriod e.content ≠ 0 → exec (.excOn n) s = .next s) ∧
    (schPeriod e.content = 0 → ∃ t, exec (.excOn n) s = .next t ∧ t.slices = s.slices ∧ t.ent n.val = none ∧ t.sched.lastEntry = n.val ∧
      t.tblW (0x40000 + 16 * n.val) = s.tblW (0x40000 + 16 * n.val) ||| 0x40000000#32 ∧ bit (t.page pSCHED).stat 0 = true)) ∧
  (∀ (s : State) (n : Fin 4096) (e : SchEnt), s.supply.held = false → s.ent n.val = some e → schACTION e.content = 2 → s.pwr.state ≠ 4 → entDue s e = true → schedCtl_RUN s ≠ 0 →
    (entRecent s).length < 128 → entBlocked s n.val e = false → entBad s n.val e.content = true →
    exec (.excOn n) s = .next (entNext n.val e (raise pSCHED 5 { entCount s with sched := { (entCount s).sched with lastEntry := n.val } }))) ∧
  (∀ (s : State) (src : Src) (v : Word), s.reaches 0x9100 → (s.lock pSCHED).locked = false → schedCtl_RUN s ≠ 0 →
    ∃ t, exec (.schedCtlWrite src v) s = .next t ∧ t.sched = { s.sched with lateCnt := 0 } ∧ schedCtl_RUN t = fld v 0 0 ∧ t.st = s.st) ∧
  (∀ (s : State), s.supply.held = false → s.sched.nextClk + 1000 ≤ s.clk →
    ∃ t, exec .nextEvtUpdate s = .next t ∧ t.sched.nextClk = s.clk ∧ t.sched.ents = s.sched.ents ∧ t.regs = s.regs ∧
      ∀ d, d < 33 → t.nextEvt d = (match evtUs s d with | some u => min u 0xFFFFFFFE | none => 0xFFFFFFFF))

/-- R85, R92, R93: applying sets, and the legacy sources. -/
def Obligations.SliceSets : Prop :=  (∀ (s : State) (src : Src) (n : Fin 64), s.reaches ((0x80 + n.val) * 0x1000 + 0x108) →
    exec (.slCmdApply src n) s = .next (s.setSlice n.val { s.slice n.val with applyAt := some ((s.slice n.val).applyAt.getD s.st) })) ∧
  (∀ (s : State) (n : Fin 64) (a t : Nat), s.supply.held = false → (s.slice n.val).applyAt = some a → s.calibrating n.val = false →
    convAt s n.val (if s.sliceOff n.val then a else a + usU) = some t →
    (setConflict s n.val (s.pendSet n.val) = false → setBad s n.val (s.pendSet n.val) = false →
      exec (.slApplyTakeEffect n) s = .next (applySet n.val t (s.pendSet n.val) s)) ∧
    (setConflict s n.val (s.pendSet n.val) = true ∨ setBad s n.val (s.pendSet n.val) = true →
      ∃ u, exec (.slApplyTakeEffect n) s = .next u ∧ u.slice n.val = { s.slice n.val with applyRej := true, applyAt := none } ∧
        (setBad s n.val (s.pendSet n.val) = true → bit (u.page (pSLICE n.val)).stat 6 = true) ∧
        (∀ m, m ≠ n.val → u.slice m = s.slice m) ∧ u.mitts = s.mitts ∧ u.regs = s.regs ∧ u.sram = s.sram ∧
        (setConflict s n.val (s.pendSet n.val) = true → bit (u.page (pMITT (n.val / 4))).stat 0 = true))) ∧
  (∀ (s : State) (n : Fin 64), s.supply.held = false →
    ((s.slice n.val).applyAt = none ∨ s.calibrating n.val = true ∨
      (∃ a, (s.slice n.val).applyAt = some a ∧ convAt s n.val (if s.sliceOff n.val then a else a + usU) = none) →
      exec (.slApplyTakeEffect n) s = .next s)) ∧
  (∀ (s : State) (src : Src) (m : Fin 16), s.reaches ((0x40 + m.val) * 0x1000 + 0x108) →
    exec (.mtCmdSwap src m) s = .next (s.setMitt m.val { s.mitt m.val with swapped := !(s.mitt m.val).swapped }) ∧
    (s.align.run = false ∨ s.align.measuring.testBit m.val = false →
      (fld (s.mittPend m.val).a 12 8 < 24 ∧ fld (s.mittPend m.val).b 12 8 < 24 ∧ fld (s.mittPend m.val).t 20 16 < 24 ∧
        hasDup (allClaims s m.val (s.mittPend m.val) none) = false →
        ∃ t, exec (.mtCmdApply src m) s = .next t ∧ (t.mitt m.val).app = s.mittPend m.val ∧ (t.mitt m.val).swapped = (s.mitt m.val).swapped ∧
          bit (t.page (pMITT m.val)).stat 2 = true ∧ t.slices = s.slices ∧ t.regs = s.regs ∧ t.sram = s.sram) ∧
      (24 ≤ fld (s.mittPend m.val).a 12 8 ∨ 24 ≤ fld (s.mittPend m.val).b 12 8 ∨ 24 ≤ fld (s.mittPend m.val).t 20 16 ∨
        hasDup (allClaims s m.val (s.mittPend m.val) none) = true →
        ∃ t, exec (.mtCmdApply src m) s = .next t ∧ (t.mitt m.val).app = (s.mitt m.val).app ∧ bit (t.page (pMITT m.val)).stat 0 = true ∧
          t.slices = s.slices ∧ t.regs = s.regs ∧ t.sram = s.sram)) ∧
    (s.align.run = true → s.align.measuring.testBit m.val = true →
      exec (.mtCmdApply src m) s = .next (s.setMitt m.val { s.mitt m.val with waitApply := true }))) ∧
  (∀ (s : State) (m : Fin 16) (b : Bool), s.supply.held = false → bit (if b then (s.mitt m.val).app.b else (s.mitt m.val).app.a) 16 = true →
    ∃ t, exec (.mtSrcCompliance m b) s = .next t ∧ (if b then (t.mitt m.val).bCompl else (t.mitt m.val).aCompl) = true ∧
      (t.mitt m.val).app = (s.mitt m.val).app ∧ bit (t.page (pMITT m.val)).stat 1 = true ∧ t.slices = s.slices ∧ t.regs = s.regs ∧ t.sram = s.sram) ∧
  (∀ (s : State) (m : Fin 16) (b : Bool), s.supply.held = false → bit (if b then (s.mitt m.val).app.b else (s.mitt m.val).app.a) 16 = false →
    exec (.mtSrcCompliance m b) s = .next s)

/-- R88, R89, R90: the pulsed excitation. -/
def Obligations.Excitation : Prop :=  (∀ (s : State) (n : Fin 64) (c : ExcChg) (t : Nat), s.supply.held = false → (s.slice n.val).exc.pend = some c → s.sliceOff n.val = false →
    convAt s n.val (s.slice n.val).exc.pendAt = some t →
    exec (.excChangeApply n) s = .next (excApply n.val t c (s.setSlice n.val { s.slice n.val with exc := { (s.slice n.val).exc with pend := none } }))) ∧
  (∀ (s : State) (n : Fin 64), s.supply.held = false →
    ((s.slice n.val).exc.pend = none → exec (.excChangeApply n) s = .next s) ∧
    ((s.slice n.val).exc.pend.isSome → s.sliceOff n.val = true →
      exec (.excChangeApply n) s = .next (s.setSlice n.val { s.slice n.val with exc := { (s.slice n.val).exc with pend := none } })) ∧
    ((s.slice n.val).exc.on = true → (s.slice n.val).exc.offPend = true → (s.slice n.val).exc.onAt + 20 * usU ≤ s.st →
      exec (.excMinPulseEnd n) s = .next (excOffAt n.val ((s.slice n.val).exc.onAt + 20 * usU) s)) ∧
    ((s.slice n.val).exc.on = false ∨ (s.slice n.val).exc.offPend = false ∨ s.st < (s.slice n.val).exc.onAt + 20 * usU →
      exec (.excMinPulseEnd n) s = .next s)) ∧
  (∀ (s : State) (n : Fin 64), s.supply.held = false →
    let w := (s.slice n.val).exc.segAt + max 20 (min 1000000 (fld (s.slice n.val).app.maxw 19 0)) * usU
    ((s.slice n.val).exc.on = true → w ≤ s.st → excDecides s n.val w = false →
      ∃ t, exec (.excMaxwExpiry n) s = .next t ∧ t.slices = (excCut n.val w 1 s).slices ∧ bit (t.page (pSLICE n.val)).stat 3 = true ∧
        (t.slice n.val).exc.on = false) ∧
    ((s.slice n.val).exc.on = false ∨ s.st < w ∨ excDecides s n.val w = true → exec (.excMaxwExpiry n) s = .next s) ∧
    ((s.slice n.val).exc.on = true → eMODE (excDrv (s.slice n.val)) = 1 →
      ∃ t, exec (.excIlimTrip n) s = .next t ∧ (t.slice n.val).exc.lockout = true ∧ (t.slice n.val).exc.ilim = true ∧
        (t.slice n.val).exc.on = false ∧ bit (t.page (pSLICE n.val)).stat 1 = true) ∧
    ((s.slice n.val).exc.on = false ∨ eMODE (excDrv (s.slice n.val)) ≠ 1 →
      (vwHolds s n.val = true → ∃ t, exec (.excIlimTrip n) s = .next t ∧ (t.slice n.val).exc.lockout = true ∧ (t.slice n.val).exc.ilim = true ∧
        t.tiu = (vwSafety n.val s).tiu ∧ bit (t.page (pSLICE n.val)).stat 1 = true) ∧
      (vwHolds s n.val = false → exec (.excIlimTrip n) s = .next s))) ∧
  (∀ (s : State) (src : Src) (n : Fin 64), s.reaches ((0x80 + n.val) * 0x1000 + 0x190) →
    ∃ t, exec (.excCtlRearm src n) s = .next t ∧ (t.slice n.val).exc.lockout = false ∧ (t.slice n.val).exc.ilim = false ∧
      (t.slice n.val).exc.on = (s.slice n.val).exc.on ∧ (∀ m, m ≠ n.val → t.slice m = s.slice m) ∧ t.regs = s.regs)

/-- R83, R97, R98, R108, R147: conversions. -/
def Obligations.Conversions : Prop :=  (∀ (s : State) (n : Fin 64) (w c : Nat), s.supply.held = false → (s.slice n.val).waitEnd = some w → w ≤ s.st → slotCtx (s.slice n.val) = some c →
    (dMODE (s.ctx c).desc = true → ∃ t, exec (.slotSettleEnd n) s = .next t ∧ (t.slice n.val).waitEnd = none ∧
      (t.slice n.val).conv = some (edgeAt w, (s.slice n.val).redo) ∧ (t.slice n.val).fired = (s.slice n.val).ovlNow ∧
      (t.slice n.val).app = (s.slice n.val).app ∧ (∀ m, m ≠ n.val → t.slice m = s.slice m)) ∧
    (dMODE (s.ctx c).desc = false → (s.slice n.val).slotDiff = true →
      exec (.slotSettleEnd n) s = .next (settleEvent c w 0 false 0 (s.setSlice n.val { s.slice n.val with waitEnd := none })))) ∧
  (∀ (s : State) (n : Fin 64), s.supply.held = false →
    ((s.slice n.val).waitEnd = none ∨ (∃ w, (s.slice n.val).waitEnd = some w ∧ s.st < w) → exec (.slotSettleEnd n) s = .next s)) ∧
  (∀ (s : State) (n : Fin 64) (j : Nat) (ls : List (Fin 5)) (sv : Option VoltIn), s.supply.held = false → s.sliceOff n.val = false → s.sliceSc n.val = false →
    s.calibrating n.val = false →
    (s.st < j * s.sliceDec n.val * modCyc * 2 ^ 16 → exec (.decimatorOutput n j ls sv) s = .next s) ∧
    (j * s.sliceDec n.val * modCyc * 2 ^ 16 ≤ s.st → scCOMB (s.slice (s.pairEven n.val)).app (s.slice (s.pairEven n.val)).slot = 0 →
      let raw := convCode s n.val 5 (s.sliceDec n.val) (convSrc ls sv)
      ∃ x marks ovl, exec (.decimatorOutput n j ls sv) s = .next (loopTap n.val j (thermEnd n.val
          (feedContexts n.val j (correct s n.val raw.1 raw.2) marks (s.cal n.val).running (s.setSlice n.val x)))) ∧
        x.tap = tapNext (s.slice n.val).tap (correct s n.val raw.1 raw.2) raw.2 ovl (s.cal n.val).running ∧ x.app = (s.slice n.val).app ∧
        x.exc = (s.slice n.val).exc)) ∧
  (∀ (s : State) (n : Fin 64) (e c : Nat) (o : Option Int) (ls : List (Fin 5)) (sv : Option VoltIn), s.supply.held = false →
    (s.slice n.val).conv = some (e, o) → slotCtx (s.slice n.val) = some c → (s.slice n.val).therm = none →
    (s.sliceOff n.val = true ∨ s.st < (e + 4 * (max 2 (dSCK (s.ctx c).desc) - 1) * modCyc) * 2 ^ 16 → exec (.scConversionDone n ls sv) s = .next s) ∧
    (s.sliceOff n.val = false → (e + 4 * (max 2 (dSCK (s.ctx c).desc) - 1) * modCyc) * 2 ^ 16 ≤ s.st →
      scCOMB (s.slice n.val).app (s.slice n.val).slot = 0 → aAREN (s.slice n.val).app = false →
      feedsNext (s.slice n.val).app (s.slice n.val).slot = false →
      let raw := convCode s n.val 4 (max 2 (dSCK (s.ctx c).desc)) (convSrc ls sv)
      ∃ x cv, exec (.scConversionDone n ls sv) s = .next (scNext n.val e (max 2 (dSCK (s.ctx c).desc)) false (scDeliver c cv (s.setSlice n.val x))) ∧
        cv.v = correct s n.val raw.1 raw.2 ∧ cv.c = s.scInst (s.ctx c).desc n.val e ∧ x.conv = none ∧ x.redo = none ∧ x.app = (s.slice n.val).app)) ∧
  (∀ (s : State) (n : Fin 64), s.supply.held = false →
    (s.sliceOff n.val = false → (s.slice n.val).ovlNow = false →
      ∃ t, exec (.ovlComparatorRise n) s = .next t ∧ (t.slice n.val).ovlNow = true ∧ (t.slice n.val).fired = true ∧ (t.slice n.val).slotOvl = true ∧ (t.slice n.val).ovlCnt = satInc 32 (s.slice n.val).ovlCnt ∧
        bit (t.page (pSLICE n.val)).stat 0 = true ∧ (t.slice n.val).app = (s.slice n.val).app ∧ (∀ m, m ≠ n.val → t.slice m = s.slice m)) ∧
    (s.sliceOff n.val = true ∨ (s.slice n.val).ovlNow = true → exec (.ovlComparatorRise n) s = .next s) ∧
    ((s.slice n.val).ovlNow = false → exec (.ovlComparatorFall n) s = .next s) ∧
    ((s.slice n.val).ovlNow = true →
      exec (.ovlComparatorFall n) s = .next (s.setSlice n.val { s.slice n.val with ovlNow := false, ovlEnd := s.st + 40 * usU })))

/-- R96, R111, R113, R114, R116: what makes slices due. R117, R118, R120, R121: a recalibration. -/
def Obligations.Calibration : Prop :=
  ((∀ (s : State) (m : Fin 16) (temp : Int), s.supply.held = false →
    ((s.dom (1 + m.val)).st = 4 → exec (.mtTempUpdate m temp) s = .next s) ∧
    ((s.dom (1 + m.val)).st ≠ 4 →
      ∃ t, exec (.mtTempUpdate m temp) s = .next t ∧ t.mitt m.val = { s.mitt m.val with temp := temp } ∧ t.regs = s.regs ∧
        (∀ n, n / 4 ≠ m.val → t.cal n = s.cal n) ∧
        (∀ n, n / 4 = m.val → (s.cal n).dueAt = none → (s.cal n).running = false → (s.cal n).retryAt = none → (s.cal n).fault = false →
          (t.cal n).dueAt = (if calCfg_AUTO_EN s = 1 ∧ calThresh s < calDiff (s.setMitt m.val { s.mitt m.val with temp := temp }) n then some s.clk else none)))) ∧
  (∀ (s : State) (src : Src), s.reaches 0x6108 →
    ∃ t, exec (.otpDataRead src) s = .next t ∧
      t.lastRead = [if s.otp.loaded = true ∧ otpAddr_ADDR s ≤ 0x9FF then s.otpWord (4 * otpAddr_ADDR s) else 0] ∧
      otpAddr_ADDR t = (if 0x9FF ≤ otpAddr_ADDR s then 0 else otpAddr_ADDR s + 1) ∧ t.otp = s.otp) ∧
  (∀ (s : State) (n : Fin 64), s.supply.held = false →
    ((calCfg_AUTO_EN s = 1 ∧ calMaxAge_AGE s ≠ 0 ∧ (s.cal n.val).sec + 3600 * calMaxAge_AGE s ≤ s.sec ∧ (s.dom (1 + n.val / 4)).st ≠ 4 →
      exec (.calMaxAgeExpiry n) s = .next (calServe (calDue n.val s))) ∧
     (calCfg_AUTO_EN s = 0 ∨ calMaxAge_AGE s = 0 ∨ s.sec < (s.cal n.val).sec + 3600 * calMaxAge_AGE s ∨ (s.dom (1 + n.val / 4)).st = 4 →
      exec (.calMaxAgeExpiry n) s = .next s)) ∧
    (((s.cal n.val).retryAt = none ∨ ∃ r, (s.cal n.val).retryAt = some r ∧ s.clk < r) → exec (.calRetry n) s = .next s) ∧
    (∀ r, (s.cal n.val).retryAt = some r → r ≤ s.clk →
      let u := s.setCal n.val { s.cal n.val with retryAt := none, gapEnd := none, dueAt := some ((s.cal n.val).dueAt.getD s.clk) }
      ((s.cal n.val).gapEnd = none ∨ needsGap s n.val = false → exec (.calRetry n) s = .next (calServe u)) ∧
      ((s.cal n.val).gapEnd.isSome → needsGap s n.val = true →
        exec (.calRetry n) s = .next (calServe (calServeGo [n.val] (s.cal n.val).gapEnd 1 (calDefer n.val u))))) ∧
    (∀ d, (s.cal n.val).dueAt = some d →
      (d + 600000000000 ≤ s.clk → (s.cal n.val).expired = false → calTaken (s.cal n.val) = false → (s.cal n.val).forced = false → calAffected s n.val = true →
        ∃ u, exec (.calDeferExpired n) s = .next (calServe u) ∧ (u.cal n.val).expired = true ∧ (u.cal n.val).deferAt = none ∧ (u.cal n.val).dueAt = some d ∧
          (∀ m, m ≠ n.val → u.cal m = s.cal m) ∧ u.regs = s.regs ∧ bit (u.page pCAL).stat 4 = true) ∧
      (s.clk < d + 600000000000 ∨ (s.cal n.val).expired = true ∨ calTaken (s.cal n.val) = true ∨ (s.cal n.val).forced = true ∨ calAffected s n.val = false →
        exec (.calDeferExpired n) s = .next (calServe s)))) ∧
  (∀ (s : State) (src : Src) (hi : Bool) (v : Word), s.reaches (if hi then 0xC114 else 0xC110) →
    ∃ u, exec (.calForce src hi v) s = .next (calServe u) ∧
      (∀ n, (n / 32 ≠ if hi then 1 else 0) → u.cal n = s.cal n) ∧
      ∀ i, i < 32 →
        (bit v i = true → (u.cal (i + if hi then 32 else 0)).forced = true ∧ (u.cal (i + if hi then 32 else 0)).retryAt = none ∧
          ((s.cal (i + if hi then 32 else 0)).running = false → (u.cal (i + if hi then 32 else 0)).dueAt = some ((s.cal (i + if hi then 32 else 0)).dueAt.getD s.clk))) ∧
        (bit v i = false → u.cal (i + if hi then 32 else 0) = s.cal (i + if hi then 32 else 0))) ∧
  (∀ (s : State) (m : Fin 16), s.supply.held = false →
    ((s.dom (1 + m.val)).st ≠ 4 → (s.mitt m.val).upAt + 200000000 ≤ s.clk →
      ∃ u, exec (.mittReferenceSettled m) s = .next (calServe u) ∧
        (∀ i, i < 4 → u.cal (4 * m.val + i) = { s.cal (4 * m.val + i) with settled := true }) ∧
        ∀ n, n / 4 ≠ m.val → u.cal n = s.cal n) ∧
    ((s.dom (1 + m.val)).st = 4 ∨ s.clk < (s.mitt m.val).upAt + 200000000 → exec (.mittReferenceSettled m) s = .next s))) ∧
  ((∀ (s : State) (n : Fin 64) (t0 : Nat), s.supply.held = false → (s.cal n.val).t0 = some t0 →
    (t0 ≤ s.st → (s.cal n.val).running = false →
      ∃ t, exec (.calStart n) s = .next t ∧ (t.cal n.val).running = true ∧ (t.cal n.val).verdict = none ∧ (t.cal n.val).outs = 0 ∧
        (t.cal n.val).ofs = (s.cal n.val).ofs ∧ (t.cal n.val).gain = (s.cal n.val).gain ∧
        (t.cal n.val).oldOfs = (s.cal n.val).ofs ∧ (t.cal n.val).oldGain = (s.cal n.val).gain ∧
        (t.cal n.val).calTemp = (s.mitt (n.val / 4)).temp ∧ (t.cal n.val).forced = false ∧ bit (t.page pCAL).stat 0 = true ∧
        (∀ m, m ≠ n.val → t.cal m = s.cal m) ∧ t.regs = s.regs ∧ t.slices = s.slices) ∧
    (s.st < t0 ∨ (s.cal n.val).running = true → exec (.calStart n) s = .next s)) ∧
  (∀ (s : State) (n : Fin 64) (j t0 q : Nat) (ls : List (Fin 5)) (sv : Option VoltIn), s.supply.held = false → (s.cal n.val).t0 = some t0 → s.calibrating n.val = true →
    s.sliceOff n.val = true → j * 256 * modCyc * 2 ^ 16 ≤ s.st → q = j - t0 / (256 * modCyc * 2 ^ 16) → q = (s.cal n.val).outs + 1 →
    let g := calGain q
    let y := match convSrc ls sv with
      | .samples ls => sincCode 5 256 ls
      | .volts vin _ => convFormula (2 ^ g) ((if g = 0 then ((5 * voltU / 4 : Nat) : Int) else 0) + vin) none
    let z := clampI (-(2 ^ 23 - 1)) (2 ^ 23 - 1) y
    let v := correctAt s n.val g z (decide (y ≠ z))
    (9 ≤ q → q ≤ 80 → (q - 9) % 6 = 5 → exec (.decimatorOutput n j ls sv) s =
      .next (s.setCal n.val { s.cal n.val with outs := q, acc := 0, ofs := calTrial (decide (0 ≤ (s.cal n.val).acc + v)) (s.cal n.val).ofs (11 - (q - 9) / 6) })) ∧
    (89 ≤ q → q ≤ 160 → (q - 89) % 6 = 5 → exec (.decimatorOutput n j ls sv) s =
      .next (s.setCal n.val { s.cal n.val with outs := q, acc := 0, gain := calTrial (decide ((s.cal n.val).acc + v ≤ 2 * (s.cal n.val).target)) (s.cal n.val).gain (11 - (q - 89) / 6) })) ∧
    (q = 184 → exec (.decimatorOutput n j ls sv) s =
      .next (calJudge n.val t0 (s.setCal n.val { s.cal n.val with outs := q, acc := 0, ofsRes := ofsResid ((s.cal n.val).acc + v) })))) ∧
  (∀ (s : State) (n t0 : Nat),
    let s1 := calStep7 n (t0 + 23 * msU) s
    let c := s1.cal n
    let x := (calJudge n t0 s).cal n
    max (t0 + 24 * msU) (calWait s1 n (t0 + 23 * msU)) = x.t1 ∧ x.ofsRes = c.ofsRes ∧ x.gainRes = c.gainRes ∧
    (calGood c.ofs c.gain c.ofsRes c.gainRes = true →
      x.verdict = some true ∧ x.ofs = c.ofs ∧ x.gain = c.gain ∧ x.temp = c.calTemp ∧ x.sec = secOf x.t1 ∧ x.count = c.count + 1 ∧ x.failCnt = 0 ∧ x.fault = false) ∧
    (calGood c.ofs c.gain c.ofsRes c.gainRes = false →
      x.verdict = some false ∧ x.ofs = c.oldOfs ∧ x.gain = c.oldGain ∧ x.temp = c.temp ∧ x.sec = c.sec ∧ x.count = c.count ∧
      x.failCnt = min 15 (c.failCnt + 1) ∧ x.fault = decide (3 ≤ c.failCnt + 1) ∧ x.dueAt = none)) ∧
  (∀ (s : State) (n : Fin 64) (a b c d : Int), s.supply.held = false →
    ((s.cal n.val).t0 = none ∨ (s.cal n.val).running = false ∨ (∃ t0, (s.cal n.val).t0 = some t0 ∧ s.st < t0 + 24 * msU) →
      exec (.calEnd n a b c d) s = .next s) ∧
    (∀ t0 good, (s.cal n.val).t0 = some t0 → (s.cal n.val).running = true → t0 + 24 * msU ≤ s.st → (s.cal n.val).verdict = some good →
      (s.st < (s.cal n.val).t1 → exec (.calEnd n a b c d) s = .next s) ∧
      ((s.cal n.val).t1 ≤ s.st →
        ∃ u, exec (.calEnd n a b c d) s = .next (calServe (settleEnd n.val (calRaise n.val (if good then 1 else 2) (calStaleEvents n.val (s.cal n.val).t1 (bgtRelease 4 n.val u))))) ∧
          u = s.setCal n.val (u.cal n.val) ∧ (u.cal n.val).running = false ∧ (u.cal n.val).t0 = none ∧
          (u.cal n.val).ofs = (s.cal n.val).ofs ∧ (u.cal n.val).gain = (s.cal n.val).gain ∧ (u.cal n.val).count = (s.cal n.val).count ∧
          (u.cal n.val).fault = (s.cal n.val).fault ∧
          (u.cal n.val).upOff = ((s.cal n.val).upOff && !good) ∧
          ((s.cal n.val).forced = false → (u.cal n.val).retryAt = (if good = true ∨ (s.cal n.val).fault = true then none else some (s.clk + calRetryNs s)))))))

/-- R150, R164, R170, R176: outputs, and the skew measurement. -/
def Obligations.OutputsAndSkew : Prop :=  (∀ (s : State) (c : Fin 1024), s.supply.held = false → s.tails.find? (fun t => decide (t.ctx = c.val)) = none →
    (∀ (gi : GridInst) (o : OutVal) (s1 u : State) (d : List Word),
      nextInst s c.val = some gi → d = descFor (s.ctx c.val) gi.k → dEN d = true →
      ctxValue c.val d gi (descTurn c.val gi.k d (s.setCtx c.val { s.ctx c.val with desc := d })) = some (o, s1) →
      u = deliver c.val { gi with hold := gi.hold || decide (s.pwr.state = 4) } (rateChecks c.val d gi o s1).1 (remoteGap (rateChecks c.val d gi o s1).1 (rateChecks c.val d gi o s1).2) →
      (dKIND (s.ctx c.val).desc ≠ 2 → exec (.contextOutput c) s = .next (strSweep (u.setCtx c.val { u.ctx c.val with desc := (s.ctx c.val).desc, prev := (u.ctx c.val).prev.filter (fun p => decide (gi.k < p.1)) }))) ∧
      (dKIND (s.ctx c.val).desc = 2 → exec (.detectorOutput c) s = .next (strSweep (u.setCtx c.val { u.ctx c.val with desc := (s.ctx c.val).desc, prev := (u.ctx c.val).prev.filter (fun p => decide (gi.k < p.1)) })))) ∧
    (nextInst s c.val = none ∨ (∃ gi d, nextInst s c.val = some gi ∧ d = descFor (s.ctx c.val) gi.k ∧
        (dEN d = false ∨ ctxValue c.val d gi (descTurn c.val gi.k d (s.setCtx c.val { s.ctx c.val with desc := d })) = none)) →
      (dKIND (s.ctx c.val).desc ≠ 2 → exec (.contextOutput c) s = .next (strSweep s)) ∧
      (dKIND (s.ctx c.val).desc = 2 → exec (.detectorOutput c) s = .next (strSweep s))) ∧
    (dKIND (s.ctx c.val).desc = 2 → exec (.contextOutput c) s = .next s) ∧ (dKIND (s.ctx c.val).desc ≠ 2 → exec (.detectorOutput c) s = .next s)) ∧
  (∀ (s : State) (c : Fin 1024) (tl : TailSt), s.supply.held = false → s.tails.find? (fun t => decide (t.ctx = c.val)) = some tl →
    ∃ u v, u = runOutput c.val ((s.setGrid (dGRID tl.run.desc) tl.grid).setCtx c.val tl.run) ∧
      v.ctx c.val = s.ctx c.val ∧ v.grid (dGRID tl.run.desc) = s.grid (dGRID tl.run.desc) ∧ v.tails = (if u.owes c.val then { tl with run := u.ctx c.val } :: u.tails.erase tl else u.tails.erase tl) ∧
      v.sram = u.sram ∧ v.strs = u.strs ∧ v.regs = u.regs ∧
      (dKIND tl.run.desc ≠ 2 → exec (.contextOutput c) s = .next (strSweep v)) ∧
      (dKIND tl.run.desc = 2 → exec (.detectorOutput c) s = .next (strSweep v))) ∧
  (∀ (s : State) (src : Src) (f : List (Nat × Option Int)), s.reaches 0xE100 →
    (s.align.run = true → exec (.skewCmdGo src f) s = .next s) ∧
    (s.align.run = false →
      ((skewMask_MASK s).testBit (skewCfg_REF_MITT s) = true → skewSkips s (skewCfg_REF_MITT s) = true →
        ∃ t, exec (.skewCmdGo src f) s = .next t ∧ t.align.run = false ∧ t.align.fail = true ∧ t.align.done = false ∧ bit (t.page pGRID).stat 3 = true ∧
          t.align.measuring = s.align.measuring ∧ t.regs = s.regs ∧ t.slices = s.slices) ∧
      ((skewMask_MASK s).testBit (skewCfg_REF_MITT s) = false ∨ skewSkips s (skewCfg_REF_MITT s) = false →
        ∃ t, exec (.skewCmdGo src f) s = .next t ∧ t.align.run = true ∧ t.align.fail = false ∧ t.align.done = false ∧ t.align.found = f ∧
          t.align.takeAt = s.nextMs ∧ t.align.endAt = s.nextMs + (2 * max 8 (skewCfg_NSTEP s) + 2) * msU ∧
          (∀ m, m < 16 → t.align.measuring.testBit m = ((skewMask_MASK s).testBit m && !(skewSkips s m)) ∧
            t.align.busy.testBit m = ((skewMask_MASK s).testBit m && skewSkips s m)) ∧
          t.regs = s.regs ∧ t.slices = s.slices)))

/-- R236 to R247: the trigger commands. R250: REC_CMD. -/
def Obligations.TriggerCommands : Prop :=
  ((∀ (s : State) (src : Src) (u : Fin 32), s.reaches 0x10100 →
    (uRING (if (s.trigUnit u.val).armed then (s.trigUnit u.val).desc else s.unitDesc u.val) = false ∨ s.ring.crown = false →
      ((s.trigUnit u.val).armed = true → exec (.trigCmdArm src u) s = .next s) ∧
      ((s.trigUnit u.val).armed = false →
        (∀ r, armRej s u.val true = some r → ∃ t, exec (.trigCmdArm src u) s = .next t ∧
          t.trigUnit u.val = { s.trigUnit u.val with need := cdiv (armBytes (armMembers s u.val (s.unitDesc u.val) s.st [])) 4096 } ∧ t.recs = s.recs ∧
          t.trig = { s.trig with rejReason := r, rejUnit := u.val } ∧ bit (t.page pTRIG).stat 2 = true ∧ t.ctxs = s.ctxs ∧ t.regs = s.regs) ∧
        (armRej s u.val true = none → ∃ t, exec (.trigCmdArm src u) s = .next t ∧ (t.trigUnit u.val).armed = true ∧ (t.trigUnit u.val).desc = s.unitDesc u.val ∧
          (t.trigUnit u.val).members = armMembers s u.val (s.unitDesc u.val) s.st [] ∧ (t.trigUnit u.val).opened = (s.trigUnit u.val).opened ∧
          (∃ r, t.recSlot (t.trigUnit u.val).slotNo = some r ∧ r.closed = false ∧ r.openRec = false ∧ r.unit = u.val) ∧
          bit (t.page pTRIG).stat 1 = true ∧ t.ctxs = s.ctxs ∧ t.regs = s.regs)) ∧
      ((s.trigUnit u.val).armed = false → exec (.trigCmdDisarm src u) s = .next s) ∧
      ((s.trigUnit u.val).armed = true → ∃ t, exec (.trigCmdDisarm src u) s = .next t ∧ (t.trigUnit u.val).armed = false ∧ (t.trigUnit u.val).members = [] ∧
        (t.trigUnit u.val).opened = (s.trigUnit u.val).opened ∧ ((s.trigUnit u.val).members ≠ [] → t.recSlot (s.trigUnit u.val).slotNo = none) ∧
        ((s.trigUnit u.val).members = [] → t.recs = s.recs) ∧ bit (t.page pTRIG).stat 3 = true ∧ t.ctxs = s.ctxs ∧ t.regs = s.regs)) ∧
    (let d := if (s.trigUnit u.val).armed then (s.trigUnit u.val).desc else s.unitDesc u.val
     uRING d = true → s.ring.crown = true →
      exec (.trigCmdArm src u) s = .next (broadcast 5 [word (2 ^ 24 + uRINGID d * 2 ^ 16)] (armIfFree u.val true s)) ∧
      exec (.trigCmdDisarm src u) s = .next (broadcast 5 [word (2 * 2 ^ 24 + uRINGID d * 2 ^ 16)] (disarmUnit u.val s)))) ∧
  (∀ (s : State) (src : Src) (u : Fin 32), s.reaches 0x10100 → (s.trigUnit u.val).opened = none →
    ((s.trigUnit u.val).armed = true → uRING (s.trigUnit u.val).desc = false →
      exec (.trigCmdFire src u) s = .next (openRec u.val s.st 0x11 0 s.hubId false 0 0 s)) ∧
    ((s.trigUnit u.val).armed = true → uRING (s.trigUnit u.val).desc = true →
      ∃ t, exec (.trigCmdFire src u) s = .next t ∧ (⟨s.st, 0x11, 0, s.hubId, false⟩ : Cand) ∈ (t.trigUnit u.val).cands ∧ (t.trigUnit u.val).mergeEnd.isSome ∧
        (t.trigUnit u.val).opened = none ∧ t.ring.sent.length = s.ring.sent.length + (if uRINGTX (s.trigUnit u.val).desc then 1 else 0) ∧ t.recs = s.recs ∧ t.regs = s.regs) ∧
    ((s.trigUnit u.val).armed = false → armRej s u.val false = none →
      exec (.trigCmdFire src u) s = .next (fireUnit u.val s.st 0x11 0 (armUnit u.val false none s.st s))) ∧
    ((s.trigUnit u.val).armed = false → (armRej s u.val false).isSome →
      exec (.trigCmdFire src u) s = .next (armUnit u.val false none s.st s) ∧ ((armUnit u.val false none s.st s).trigUnit u.val).armed = false)) ∧
  (∀ (s : State) (src : Src) (u : Fin 32) (o : OpenRec), s.reaches 0x10100 → (s.trigUnit u.val).opened = some o →
    (∃ t, exec (.trigCmdFire src u) s = .next t ∧ (t.trigUnit u.val).retrig = satInc 16 (s.trigUnit u.val).retrig ∧
      (t.trigUnit u.val).opened = some { o with retrig := satInc 32 o.retrig } ∧ bit (t.page pTRIG).stat 5 = true ∧ t.recs = s.recs) ∧
    (s.st + usU ≠ o.t →
      (∀ c, commitPoint s o.mems = some c → c < s.st + usU →
        exec (.trigCmdStop src u) s = .next (s.setUnit u.val { s.trigUnit u.val with opened := some { o with stopLate := true } })) ∧
      ((∀ c, commitPoint s o.mems = some c → s.st + usU ≤ c) → (∃ f, o.full = some f ∧ f.1 < s.st + usU) → exec (.trigCmdStop src u) s = .next s) ∧
      ((∀ c, commitPoint s o.mems = some c → s.st + usU ≤ c) → (∀ f, o.full = some f → s.st + usU ≤ f.1) →
        exec (.trigCmdStop src u) s = .next (closeIfDone u.val (s.setUnit u.val { s.trigUnit u.val with opened := some (cutRec (s.st + usU) o) }))))) ∧
  (∀ (s : State) (src : Src) (u : Fin 32), s.reaches 0x10100 → (s.trigUnit u.val).opened = none → exec (.trigCmdStop src u) s = .next s) ∧
  (∀ (s : State) (u : Fin 32) (i : Fin 8), s.supply.held = false →
    (∀ q, (s.trigUnit u.val).slots[i.val]? = some q → (s.trigUnit u.val).armed = true →
      slEN (s.trigUnit u.val).desc i.val = true → slCtx (s.trigUnit u.val).desc i.val = true → q.silent = false → q.lastAt + secU ≤ s.st →
      exec (.trigSlotSilence u i) s = .next (decideUnit u.val 64
        (s.setUnit u.val { s.trigUnit u.val with slots := (s.trigUnit u.val).slots.set i.val { q with silent := true } }))) ∧
    ((s.trigUnit u.val).armed = false ∨ slCtx (s.trigUnit u.val).desc i.val = false ∨ (s.trigUnit u.val).slots[i.val]? = none ∨
      (∃ q, (s.trigUnit u.val).slots[i.val]? = some q ∧ (q.silent = true ∨ s.st < q.lastAt + secU)) →
      exec (.trigSlotSilence u i) s = .next s))) ∧
  (∀ (s : State) (src : Src) (n : Fin 256), s.reaches 0x11124 →
    (s.recSlot n.val = none → exec (.recCmdFree src n) s = .next s) ∧
    (∀ r, s.recSlot n.val = some r →
      (r.closed = true → ∃ t, exec (.recCmdFree src n) s = .next t ∧ t.recSlot n.val = none ∧ (∀ m, m ≠ n.val → t.recSlot m = s.recSlot m) ∧
        t.store = { s.store with rsvRecs := s.store.rsvRecs.filter (fun x => decide (x.1 ≠ n.val)) } ∧
        bit (t.page pCAPT).stat 6 = true ∧ t.units = s.units ∧ t.dramMem = s.dramMem ∧ t.regs = s.regs) ∧
      (r.closed = false → ∃ t, exec (.recCmdFree src n) s = .next t ∧ t.recs = s.recs ∧ t.units = s.units ∧ t.store = s.store ∧ bit (t.page pCAPT).stat 7 = true)))

/-- R235, R236, R242, R245: decisions. -/
def Obligations.TriggerDecisions : Prop :=  (∀ (s : State) (u : Fin 32), s.supply.held = false →
    (nextMeet (s.trigUnit u.val) = none ∨ (s.trigUnit u.val).armed = false ∨ (∃ t, nextMeet (s.trigUnit u.val) = some t ∧ decidable (s.trigUnit u.val) t = false) →
      exec (.trigDecide u) s = .next s) ∧
    (∀ t, (s.trigUnit u.val).armed = true → nextMeet (s.trigUnit u.val) = some t → decidable (s.trigUnit u.val) t = true →
      let x := s.trigUnit u.val
      let bm := countedAt x t
      let s1 := s.setUnit u.val { x with after := max x.after t, meets := meetsAfter x t }
      (bitCount bm < uK x.desc → exec (.trigDecide u) s = .next (decideUnit u.val 63 s1)) ∧
      (uK x.desc ≤ bitCount bm →
        (x.opened = none → uRING x.desc = false → exec (.trigDecide u) s = .next (openRec u.val t (lowBit bm) bm s.hubId false 0 0 s1)) ∧
        (x.opened = none → uRING x.desc = true → ∃ v, exec (.trigDecide u) s = .next v ∧
          (v.trigUnit u.val).cands = x.cands ++ [⟨t, lowBit bm, bm, s.hubId, false⟩] ∧ (v.trigUnit u.val).mergeEnd = some (x.mergeEnd.getD (s.st + uFIRELAT x.desc * msU)) ∧
          (v.trigUnit u.val).meets = meetsAfter x t ∧ v.ring.sent.length = s.ring.sent.length + (if uRINGTX x.desc then 1 else 0) ∧ v.recs = s.recs) ∧
        (∀ o, x.opened = some o → o.t ≠ t ∨ o.reason ≠ 0x10 → exec (.trigDecide u) s = .next (decideUnit u.val 63 (retrig u.val s1))) ∧
        (∀ o, x.opened = some o → o.t = t → o.reason = 0x10 → exec (.trigDecide u) s = .next (decideUnit u.val 63
          (s.setUnit u.val { x with after := max x.after t, meets := meetsAfter x t, bitmap := bm, opened := some { o with reason := lowBit bm, bitmap := bm } })))))) ∧
  (∀ (s : State) (u : Fin 32), s.supply.held = false →
    (∀ e, (s.trigUnit u.val).mergeEnd = some e → s.st < e → exec (.trigMergeClose u) s = .next s) ∧
    ((s.trigUnit u.val).mergeEnd = none → (s.trigUnit u.val).cands = [] → exec (.trigMergeClose u) s = .next (s.setUnit u.val { s.trigUnit u.val with mergeEnd := none })) ∧
    (∀ (e t : Nat) (c1 : Cand), (s.trigUnit u.val).mergeEnd = some e → e ≤ s.st → c1 ∈ (s.trigUnit u.val).cands → c1.t = t →
      (∀ c ∈ (s.trigUnit u.val).cands, t ≤ c.t) →
      let same := (s.trigUnit u.val).cands.filter (fun c => decide (c.t = t))
      ∃ rs hb, (∀ c ∈ same, rs ≤ c.reason ∧ hb ≤ c.hub) ∧ (∃ c ∈ same, rs = c.reason) ∧ (∃ c ∈ same, hb = c.hub) ∧
        exec (.trigMergeClose u) s = .next (openRec u.val t rs (same.foldl (fun b c => b ||| c.bitmap) 0) hb (same.all (·.remote))
          (if 1 < same.length then same.length else 0) ((s.trigUnit u.val).cands.length - same.length) s))) ∧
  (∀ (s : State) (u : Fin 32), s.supply.held = false →
    ((s.trigUnit u.val).opened = none → exec (.recMaxdurExpiry u) s = .next s) ∧
    (∀ o, (s.trigUnit u.val).opened = some o →
      (o.maxdur ≠ 0 → o.t + o.maxdur * secU ≤ s.st → exec (.recMaxdurExpiry u) s = .next (closeRec u.val 8 s)) ∧
      (o.maxdur = 0 ∨ s.st < o.t + o.maxdur * secU → exec (.recMaxdurExpiry u) s = .next s)))

/-- R360 to R362 with each kind's own rule: frames arriving soundly. -/
def Obligations.FramesTaken : Prop :=  ∀ (s : State) (n : Fin 8) (rx : UlkRx),
    (∀ w ts, s.hears n.val rx (linkRx 4 rx w) → exec (.timeFrameRx n rx w ts) s = .next (sendAck n.val false (timeTaken n.val w ts (s.heard n.val)))) ∧
    (∀ w, s.hears n.val rx (linkRx 9 rx [w]) → exec (.replayReqRx n rx w) s = .next (sendAck n.val false (replayReq n.val (fld w 15 0) (s.heard n.val)))) ∧
    (∀ w, s.hears n.val rx (linkRx 10 rx [w]) → exec (.tapReqRx n rx w) s = .next (sendAck n.val false (tapReq n.val w (s.heard n.val)))) ∧
    (∀ w, s.hears n.val rx (linkRx 8 rx w) → 2 ≤ n.val →
      (fld (w.getD 0 0) 31 28 = 5 → exec (.descriptionRx n rx w) s = .next (sendAck n.val false (descTaken n.val w (s.heard n.val)))) ∧
      (fld (w.getD 0 0) 31 28 ≠ 5 → exec (.descriptionRx n rx w) s = .next (sendAck n.val false (s.heard n.val)))) ∧
    (∀ w, s.hears n.val rx (linkRx 1 rx w) → 2 ≤ n.val → w.length = 5 + (fld (w.getD 0 0) 8 0 + 1) * (fld (w.getD 0 0) 22 16 + 1) →
      (fld (w.getD 0 0) 8 0 + 1) * (fld (w.getD 0 0) 22 16 + 1) ≤ 507 →
      exec (.satSampleFrameRx n rx w) s = .next (sendAck n.val false (satTaken n.val w (s.heard n.val)))) ∧
    (∀ h w, let g : UlkFrame := ⟨6, h.dst, h.src, h.ttl, h.wrap, h.eseq, wsBytes w, false, none, none⟩
      s.hears n.val rx g → fwdRoom s n.val h g = true →
      exec (.fireFrameRx n rx h w) s = .next (sendAck n.val false (ringFlush (ringRx n.val h 6 (wsBytes w) (fireTaken w) (s.heard n.val))))) ∧
    (∀ h w, let g : UlkFrame := ⟨5, h.dst, h.src, h.ttl, h.wrap, h.eseq, wsBytes [w], false, none, none⟩
      s.hears n.val rx g → fwdRoom s n.val h g = true →
      exec (.armFrameRx n rx h w) s = .next (sendAck n.val false (ringRx n.val h 5 (wsBytes [w]) (armTaken w) (s.heard n.val)))) ∧
    (∀ h p, (let mine := h.dst = ringAddr s ∧ isDup s h = false
      let g (k : Nat) : UlkFrame := ⟨k, h.dst, h.src, h.ttl, h.wrap, h.eseq, p, false, none, none⟩
      (mine → rxqRoom s n.val p.length = true) → (¬ mine → fwdRoom s n.val h (g 1) = true) →
      (s.hears n.val rx (g 1) → exec (.sampleFrameRx n rx h p) s = .next (sendAck n.val false (ringRx n.val h 1 p (rxqPut n.val h 1 p) (s.heard n.val)))) ∧
      (s.hears n.val rx (g 2) → exec (.recordFrameRx n rx h p) s = .next (sendAck n.val false (ringRx n.val h 2 p (rxqPut n.val h 2 p) (s.heard n.val)))) ∧
      (s.hears n.val rx (g 3) → exec (.noteFrameRx n rx h p) s = .next (sendAck n.val false (ringRx n.val h 3 p (rxqPut n.val h 3 p) (s.heard n.val)))))) ∧
    (∀ h tag a v, n.val < 2 → (let r := [word (2 ^ 28 + tag.toNat), a, 0]
      let w := [word (2 ^ 29 + tag.toNat), a, v]
      let g (x : List Word) : UlkFrame := ⟨8, h.dst, h.src, h.ttl, h.wrap, h.eseq, wsBytes x, false, none, none⟩
      (s.hears n.val rx (g r) → (forMe s h || fwdRoom s n.val h (g r)) = true →
        exec (.mgmtReadRx n rx h tag a) s = .next (sendAck n.val false (ringRx n.val h 8 (wsBytes r)
          (fun x => if ringCfg_REMOTE_EN x 0 = 1 then mgmtAnswer n.val h (remoteRead a.toNat x).1 r (remoteRead a.toNat x).2.1 (remoteRead a.toNat x).2.2
            else mgmtAnswer n.val h 2 r 0 x) (s.heard n.val)))) ∧
      (s.hears n.val rx (g w) → (forMe s h || fwdRoom s n.val h (g w)) = true →
        exec (.mgmtWriteRx n rx h tag a v) s = .next (sendAck n.val false (ringRx n.val h 8 (wsBytes w)
          (fun x => if ringCfg_REMOTE_EN x 0 = 1 then mgmtAnswer n.val h (remoteWrite a.toNat v x).1 w (remoteWrite a.toNat v x).2.1 (remoteWrite a.toNat v x).2.2
            else mgmtAnswer n.val h 2 w 0 x) (s.heard n.val)))))) ∧
    (∀ h w, let g : UlkFrame := ⟨8, h.dst, h.src, h.ttl, h.wrap, h.eseq, wsBytes w, false, none, none⟩
      s.hears n.val rx g →
      (n.val < 2 → (forMe s h || fwdRoom s n.val h g) = true →
        exec (.mgmtResponseRx n rx h w) s = .next (sendAck n.val false (ringRx n.val h 8 (wsBytes w) (respTaken w) (s.heard n.val)))) ∧
      (2 ≤ n.val → exec (.mgmtResponseRx n rx h w) s = .next (sendAck n.val false (respTaken w (s.heard n.val)))))

/-- R357, R360, R361, R362, R372: frames not taken. R372, R383, R386, R387: register writes of a link that send. -/
def Obligations.RefusedFramesAndLinkWrites : Prop :=
  (∀ (s : State) (n : Fin 8) (rx : UlkRx), s.supply.held = false →
    ((s.ulk n.val).up = true → laneRxOk s n.val = true →
      let s0 := laneRxData n.val (s.setUlk n.val { s.ulk n.val with lastAct := s.clk })
      let bad (g : UlkFrame) : Prop := rxFault rx g ≠ 0 ∨ rx.seq % 2 ^ 16 ≠ (s.ulk n.val).rxSeq
      let refused (g : UlkFrame) : State :=
        if rxFault rx g = 1 then askReplay n.val 1 (ulkRaise n.val 4 (s0.setUlk n.val { s0.ulk n.val with crcErr := satInc 16 (s.ulk n.val).crcErr }))
        else askReplay n.val (if rxFault rx g = 0 then 2 else rxFault rx g) s0
      ∀ (w : List Word) (ts : Nat) (h : RingHdr) (p : List Byte) (b : Word) (tag : BitVec 16) (a v : Word),
        let g (k : Nat) (x : List Byte) : UlkFrame := ⟨k, h.dst, h.src, h.ttl, h.wrap, h.eseq, x, false, none, none⟩
        (bad (linkRx 4 rx w) → exec (.timeFrameRx n rx w ts) s = .next (refused (linkRx 4 rx w))) ∧
        (bad (linkRx 9 rx [b]) → exec (.replayReqRx n rx b) s = .next (refused (linkRx 9 rx [b]))) ∧
        (bad (linkRx 10 rx [b]) → exec (.tapReqRx n rx b) s = .next (refused (linkRx 10 rx [b]))) ∧
        (bad (linkRx 8 rx w) → 2 ≤ n.val → exec (.descriptionRx n rx w) s = .next (refused (linkRx 8 rx w))) ∧
        (bad (g 6 (wsBytes w)) → exec (.fireFrameRx n rx h w) s = .next (refused (g 6 (wsBytes w)))) ∧
        (bad (g 5 (wsBytes [b])) → exec (.armFrameRx n rx h b) s = .next (refused (g 5 (wsBytes [b])))) ∧
        (bad (g 1 p) → exec (.sampleFrameRx n rx h p) s = .next (refused (g 1 p))) ∧
        (bad (g 2 p) → exec (.recordFrameRx n rx h p) s = .next (refused (g 2 p))) ∧
        (bad (g 3 p) → exec (.noteFrameRx n rx h p) s = .next (refused (g 3 p))) ∧
        (bad (g 8 (wsBytes w)) → exec (.mgmtResponseRx n rx h w) s = .next (refused (g 8 (wsBytes w)))) ∧
        (n.val < 2 → bad (g 8 (wsBytes [word (2 ^ 28 + tag.toNat), a, 0])) → exec (.mgmtReadRx n rx h tag a) s = .next (refused (g 8 (wsBytes [word (2 ^ 28 + tag.toNat), a, 0])))) ∧
        (n.val < 2 → bad (g 8 (wsBytes [word (2 ^ 29 + tag.toNat), a, v])) → exec (.mgmtWriteRx n rx h tag a v) s = .next (refused (g 8 (wsBytes [word (2 ^ 29 + tag.toNat), a, v])))) ∧
        (¬ bad (g 1 p) → h.dst = ringAddr s → isDup s h = false → rxqRoom s n.val p.length = false →
          exec (.sampleFrameRx n rx h p) s = .next (sendAck n.val true (ulkRaise n.val 6 (s0.setUlk n.val { s0.ulk n.val with rxBad := true, refused := some (g 1 p) })))) ∧
        (¬ bad (g 2 p) → h.dst = ringAddr s → isDup s h = false → rxqRoom s n.val p.length = false →
          exec (.recordFrameRx n rx h p) s = .next (sendAck n.val true (ulkRaise n.val 6 (s0.setUlk n.val { s0.ulk n.val with rxBad := true, refused := some (g 2 p) })))) ∧
        (¬ bad (g 3 p) → h.dst = ringAddr s → isDup s h = false → rxqRoom s n.val p.length = false →
          exec (.noteFrameRx n rx h p) s = .next (sendAck n.val true (ulkRaise n.val 6 (s0.setUlk n.val { s0.ulk n.val with rxBad := true, refused := some (g 3 p) }))))) ∧
    ((s.ulk n.val).up = false ∨ laneRxOk s n.val = false → ∀ (w : List Word) (ts : Nat) (h : RingHdr) (p : List Byte) (b : Word),
      exec (.timeFrameRx n rx w ts) s = .next s ∧ exec (.satSampleFrameRx n rx w) s = .next s ∧ exec (.sampleFrameRx n rx h p) s = .next s ∧
      exec (.recordFrameRx n rx h p) s = .next s ∧ exec (.noteFrameRx n rx h p) s = .next s ∧ exec (.replayReqRx n rx b) s = .next s ∧
      exec (.tapReqRx n rx b) s = .next s ∧ exec (.descriptionRx n rx w) s = .next s ∧ exec (.fireFrameRx n rx h w) s = .next s ∧
      exec (.armFrameRx n rx h b) s = .next s ∧ exec (.mgmtResponseRx n rx h w) s = .next s)) ∧
  ((∀ (s : State) (src : Src) (n : Fin 8) (v : Word), s.reaches ((0x30 + n.val) * 0x1000 + 0x134) →
    let u := s.setRw (ulkTapAt n.val) (v &&& 0x3301F0F#32)
    ((s.ulk n.val).up = true → exec (.ulkTapGo src n v) s = .next (ulkQueue n.val (linkFrame 10 (wsBytes [v &&& 0x3301F0F#32]) u) u)) ∧
    ((s.ulk n.val).up = false → exec (.ulkTapGo src n v) s = .next u)) ∧
  (∀ (s : State) (src : Src) (v : Word), s.reaches 0x30230 →
    s.ring.mbBusy = true ∨ fld v 29 28 = 0 ∨ fld v 29 28 = 3 ∨ (bit v 23 = true ∧ fld v 26 24 < 2) →
    exec (.mbCtlGo src v) s = .next (s.setRw (mbCtlAt 0) (v &&& 0x379F0000#32))) ∧
  (∀ (s : State) (src : Src) (v : Word), s.reaches 0x30230 → s.ring.mbBusy = false → (fld v 29 28 = 1 ∨ fld v 29 28 = 2) →
    ∃ u, u.ring.mbBusy = true ∧ u.ring.mbTag = (s.ring.mbTag + 1) % 2 ^ 16 ∧ u.ring.mbAt = s.clk ∧ u.st = s.st ∧
      (bit v 23 = true → 2 ≤ fld v 26 24 → u.ring.mbSpur = some (fld v 26 24) ∧ exec (.mbCtlGo src v) s = .next (ulkQueue (fld v 26 24) (linkFrame 8
        (wsBytes [word (fld v 29 28 * 2 ^ 28 + (s.ring.mbTag + 1) % 2 ^ 16), u.rw (mbAddrAt 0), if fld v 29 28 = 2 then u.rw (mbDataAt 0) else 0]) u) u)) ∧
      (bit v 23 = false → u.ring.mbSpur = none ∧ exec (.mbCtlGo src v) s = .next (unicast (mbTrunk u) 8 (mbCtl_DST u 0)
        (wsBytes [word (fld v 29 28 * 2 ^ 28 + (s.ring.mbTag + 1) % 2 ^ 16), u.rw (mbAddrAt 0), if fld v 29 28 = 2 then u.rw (mbDataAt 0) else 0]) u))) ∧
  (∀ (s : State) (src : Src) (n : Fin 8) (i : Fin 4) (v : Word), s.reaches ((0x30 + n.val) * 0x1000 + 0x140 + 4 * i.val) → 2 ≤ n.val → satEn_EN s n.val i.val ≠ v.toNat →
    (s.ulk n.val).schedT < s.st + 10 * msU →
    ∃ t u f, exec (.satEnWrite src n i v) s = .next (ulkQueue n.val f u) ∧ u.rw (satEnAt n.val i.val) = v ∧ t = cdiv (s.st + 10 * msU) secU * secU ∧
      (u.ulk n.val).schedT = t ∧ f.ftype = 7 ∧
      f.payload = wsBytes ([word (2 ^ 24), word (secOf t), word (nsOf t)] ++ (List.range 4).map (fun j => u.rw (satEnAt n.val j)))) ∧
  (∀ (s : State) (src : Src) (n : Fin 8) (i : Fin 4) (v : Word), s.supply.held = false →
    (2 ≤ n.val → s.reaches ((0x30 + n.val) * 0x1000 + 0x140 + 4 * i.val) → satEn_EN s n.val i.val = v.toNat →
      exec (.satEnWrite src n i v) s = .next (s.setRw (satEnAt n.val i.val) v)) ∧
    (n.val < 2 → ∃ t, exec (.satEnWrite src n i v) s = .next t ∧ t.regs = s.regs ∧ t.ulks = s.ulks ∧ t.ring = s.ring ∧ bit (t.page pSYS).stat 0 = true)) ∧
  (∀ (s : State) (src : Src) (n : Fin 8) (v : Word), s.reaches ((0x30 + n.val) * 0x1000 + 0x12C) →
    let u := s.setRw (ulkRxqRdAt n.val) (v &&& 0xFFFFF#32)
    ((s.ulk n.val).busySent = false ∨ (s.ulk n.val).refused = none ∨ (∃ f, (s.ulk n.val).refused = some f ∧ frameRoom u n.val f = false) →
      exec (.ulkRxqRdWrite src n v) s = .next u) ∧
    (∀ f, (s.ulk n.val).refused = some f → (s.ulk n.val).busySent = true → frameRoom u n.val f = true →
      exec (.ulkRxqRdWrite src n v) s = .next (sendAck n.val false (u.setUlk n.val { u.ulk n.val with rxBad := false, refused := none })))))

/-- R361 to R365, R373, R374, R378: control of a link. -/
def Obligations.LinkControl : Prop :=  (∀ (s : State) (n : Fin 8) (seq : Nat) (b : Bool), s.supply.held = false →
    (laneRxOk s n.val = true →
      exec (.ulkAckRx n seq b) s = .next (ulkAck n.val seq b s) ∧
      exec (.keepaliveRx n seq b true) s = .next (ulkAck n.val seq b (laneRxData n.val (s.setUlk n.val { s.ulk n.val with lastAct := s.clk }))) ∧
      exec (.keepaliveRx n seq b false) s = .next (ulkAck n.val 65535 b (laneRxData n.val (s.setUlk n.val { s.ulk n.val with lastAct := s.clk }))) ∧
      (ulkCfg_EN s n.val ≠ 0 → (s.ulk n.val).up = true → (s.ulk n.val).unacked = [] → exec (.ulkResetRx n) s = .next
        (s.setUlk n.val { s.ulk n.val with lastAct := s.clk, rxSeq := 0, ackValid := false, rxBad := false, rstGot := false })) ∧
      (ulkCfg_EN s n.val ≠ 0 → (s.ulk n.val).up = true → (s.ulk n.val).unacked ≠ [] → exec (.ulkResetRx n) s = .next
        (giveUp n.val (s.setUlk n.val { s.ulk n.val with lastAct := s.clk }))) ∧
      (ulkCfg_EN s n.val ≠ 0 → (s.ulk n.val).up = false → exec (.ulkResetRx n) s = .next
        (ulkTryUp n.val (s.setUlk n.val { s.ulk n.val with lastAct := s.clk, rxSeq := 0, ackValid := false, rxBad := false, rstGot := true }))) ∧
      (ulkCfg_EN s n.val = 0 → exec (.ulkResetRx n) s = .next s)) ∧
    (laneRxOk s n.val = false → exec (.ulkAckRx n seq b) s = .next s ∧ (∀ v, exec (.keepaliveRx n seq b v) s = .next s) ∧ exec (.ulkResetRx n) s = .next s)) ∧
  (∀ (s : State) (n : Fin 8), s.supply.held = false →
    (let due := (s.ulk n.val).up = true ∧ (s.ulk n.val).unacked ≠ [] ∧ (s.ulk n.val).farBusy = false ∧ (s.ulk n.val).lastAdv + ackTmoNs s n.val ≤ s.clk
     (due → exec (.ulkAckTimeout n) s = .next (goBack n.val 0 s)) ∧ (¬ due → exec (.ulkAckTimeout n) s = .next s)) ∧
    (let due := (s.ulk n.val).up = true ∧ (s.ulk n.val).replay ≠ 0 ∧ (s.ulk n.val).farBusy = false ∧ (s.ulk n.val).replayAt + 40000 ≤ s.clk
     (due → exec (.ulkReplayBudgetExpiry n) s = .next (giveUp n.val s)) ∧ (¬ due → exec (.ulkReplayBudgetExpiry n) s = .next s)) ∧
    (let due := (s.ulk n.val).up = true ∧ (s.ulk n.val).replay = 0 ∧ (s.ulk n.val).unacked.any (fun y => decide (y.2.ftype = 1 ∨ y.2.ftype = 3)) = true ∧
       max (s.ulk n.val).lastAct (s.ulk n.val).lastAdv + upperNs s n.val ≤ s.clk
     (due → exec (.streamDeliveryTimeout n) s = .next (giveUp n.val s)) ∧ (¬ due → exec (.streamDeliveryTimeout n) s = .next s)) ∧
    (let due := (s.ulk n.val).wrapped = true ∧ (s.ulk n.val).up = true ∧ (s.ulk n.val).hold = none ∧ (s.ulk n.val).upSince + ringTime_UNWRAP_MS s 0 * 1000000 ≤ s.clk
     (due → exec (.unwrapDwellExpiry n) s = .next (s.setUlk n.val { s.ulk n.val with hold := some (s.clk + 500000) })) ∧
     (¬ due → exec (.unwrapDwellExpiry n) s = .next s)) ∧
    (let due := (s.ulk n.val).wrapped = true ∧ (s.ulk n.val).up = true ∧ ∃ t, (s.ulk n.val).hold = some t ∧ t ≤ s.clk
     (due → exec (.ulkUnwrap n) s = .next (ulkPump n.val (ringRaise 2 (s.setUlk n.val { s.ulk n.val with wrapped := false, hold := none })))) ∧
     (¬ due → exec (.ulkUnwrap n) s = .next s))) ∧
  (∀ (s : State) (n : Fin 8), s.supply.held = false →
    (let old (t : Nat) : Prop := (s.ulk n.val).replay = 0 ∧ max t (s.ulk n.val).lastAct + upperNs s n.val ≤ s.clk
     let mb := s.ring.mbBusy = true ∧ s.ring.mbSpur = some n.val ∧ old s.ring.mbAt
     (mb → exec (.satResponseTimeout n) s = .next (ulkRaise n.val 9 (mbDone 1 s))) ∧
     (¬ mb → (∀ t, (s.ulk n.val).descAt = some t → old t →
        exec (.satResponseTimeout n) s = .next (ulkRaise n.val 9 (ulkRaise n.val 8 (s.setUlk n.val { s.ulk n.val with descAt := none })))) ∧
       ((∀ t, (s.ulk n.val).descAt = some t → ¬ old t) → exec (.satResponseTimeout n) s = .next s))) ∧
    ((∀ a, (s.ulk n.val).adv = some a → a.at_ + 3 * timeIntNs s < s.clk → exec (.crownAdvertExpiry n) s = .next (crownUpdate (s.setUlk n.val { s.ulk n.val with adv := none }))) ∧
     ((∀ a, (s.ulk n.val).adv = some a → s.clk ≤ a.at_ + 3 * timeIntNs s) → exec (.crownAdvertExpiry n) s = .next s)) ∧
    (let f := linkFrame 4 (wsBytes (timeWords (crownUpdate s) n.val)) s
     ((s.ulk n.val).timeAt + timeIntNs s ≤ s.clk → mayStart s n.val f = true →
      exec (.timeFrameTx n) s = .next (ulkQueue n.val f ((crownUpdate s).setUlk n.val { (crownUpdate s).ulk n.val with timeAt := s.clk }))) ∧
     (s.clk < (s.ulk n.val).timeAt + timeIntNs s ∨ mayStart s n.val f = false → exec (.timeFrameTx n) s = .next s)) ∧
    (∀ (c : Fin 128),
      (s.sats.find? (fun y => decide (y.chan = 128 * (n.val - 2) + c.val)) = none → exec (.sampleSilenceTimeout n c) s = .next s) ∧
      (∀ y, s.sats.find? (fun y => decide (y.chan = 128 * (n.val - 2) + c.val)) = some y →
        let due := 2 ≤ n.val ∧ (s.ulk n.val).sat = true ∧ satOn s n.val c.val = true ∧ y.lost = false ∧
          (s.ulk n.val).replay = 0 ∧ max y.lastRx (s.ulk n.val).lastAct + y.maxlat * 1000 + upperNs s n.val ≤ s.clk
        (due → exec (.sampleSilenceTimeout n c) s = .next (raiseIf (decide (y.cnt ≠ 0)) pGRID 4
          (ulkRaise n.val 9 (ulkRaise n.val 8 { s with sats := s.sats.map (fun z => if z.chan = y.chan then { z with lost := true } else z) })))) ∧
        (¬ due → exec (.sampleSilenceTimeout n c) s = .next s)))) ∧
  (∀ (s : State), s.supply.held = false →
    let due := s.ring.mbBusy = true ∧ s.ring.mbSpur = none ∧ (s.ulk (mbTrunk s)).replay = 0 ∧
      max s.ring.mbAt (s.ulk (mbTrunk s)).lastAct + upperNs s (mbTrunk s) ≤ s.clk
    (due → exec .mailboxTimeout s = .next (ulkRaise (mbTrunk s) 9 (mbDone 1 s))) ∧ (¬ due → exec .mailboxTimeout s = .next s))

/-- R178, R182, R188, R189, R192 to R194: the time interval unit. -/
def Obligations.TiuCommands : Prop :=  (∀ (s : State) (x : Fin 128) (co : Nat) (fi : Fin 128) (r : Bool), s.supply.held = false →
    let t := stamp s co fi.val
    let takes : Prop := if x.val < 8 then tiIn_SLOPE s x.val = 2 ∨ (tiIn_SLOPE s x.val = 1 ∧ r = false) ∨ ((tiIn_SLOPE s x.val = 0 ∨ tiIn_SLOPE s x.val = 3) ∧ r = true)
      else x.val < 12 ∨ (0x14 ≤ x.val ∧ x.val < 0x30) ∨ r = true
    (¬ takes → exec (.tiEdge x ⟨co, fi⟩ r) s = .next s) ∧
    (takes → (x.val = 0x10 → exec (.tiEdge x ⟨co, fi⟩ r) s = .next (ppsEdge t s)) ∧
      (x.val = 0x11 → exec (.tiEdge x ⟨co, fi⟩ r) s = .next (tiuEdge 0x11 t (refEdgeAt t s))) ∧
      (x.val ≠ 0x10 → x.val ≠ 0x11 → exec (.tiEdge x ⟨co, fi⟩ r) s = .next (tiuEdge x.val t s)))) ∧
  (∀ (s : State) (c : Fin 16), s.supply.held = false →
    (∀ a, tiMode s c.val = 2 → tiSigned s c.val = false → (s.tch c.val).start = some a →
      (tiTmo_TMO s c.val ≠ 0 → (a + tiTmo s c.val) * tsU ≤ s.st →
        exec (.tiuTimeout c) s = .next (raise pTIU 1 (tiResult c.val (2 ^ 27) 1 0 0 0 a (s.setTch c.val { s.tch c.val with start := none })))) ∧
      (tiTmo_TMO s c.val = 0 → (a + 2 ^ 47) * tsU ≤ s.st →
        exec (.tiuOvf c) s = .next (raise pTIU 2 (tiResult c.val (2 ^ 30) 1 (2 ^ 32 - 1) (2 ^ 15 - 1) 0 a (s.setTch c.val { s.tch c.val with start := none }))))) ∧
    (tiMode s c.val ≠ 2 ∨ tiSigned s c.val = true ∨ tiTmo_TMO s c.val = 0 ∨ (∀ a, (s.tch c.val).start = some a → s.st < (a + tiTmo s c.val) * tsU) →
      exec (.tiuTimeout c) s = .next s) ∧
    (tiMode s c.val ≠ 2 ∨ tiSigned s c.val = true ∨ tiTmo_TMO s c.val ≠ 0 ∨ (∀ a, (s.tch c.val).start = some a → s.st < (a + 2 ^ 47) * tsU) →
      exec (.tiuOvf c) s = .next s) ∧
    (∀ a r, tiMode s c.val = 2 → tiSigned s c.val = true → (s.tch c.val).starts = a :: r → (a + tiTmo s c.val) * tsU < s.st →
      (nearStop a (tiTmo s c.val) (s.tch c.val).stops = none →
        exec (.tiuWindowClose c) s = .next (pruneStops c.val (s.st / tsU) (tiResult c.val (2 ^ 27) 1 0 0 0 a (s.setTch c.val { s.tch c.val with starts := r })))) ∧
      (∀ b, nearStop a (tiTmo s c.val) (s.tch c.val).stops = some b →
        (2 < tsDist a b → exec (.tiuWindowClose c) s = .next (pruneStops c.val (s.st / tsU) (tiSpan c.val (if b < a then 2 ^ 28 else 0) 1 (tsDist a b) 0 a
          (s.setTch c.val { s.tch c.val with starts := r, stops := (s.tch c.val).stops.erase b })))) ∧
        (tsDist a b ≤ 2 → exec (.tiuWindowClose c) s = .next (pruneStops c.val (s.st / tsU) (tiResult c.val (2 ^ 29) 1 0 0 0 a
          (s.setTch c.val { s.tch c.val with starts := r, stops := (s.tch c.val).stops.erase b })))))) ∧
    (tiMode s c.val ≠ 2 ∨ tiSigned s c.val = false ∨ (∀ a r, (s.tch c.val).starts = a :: r → s.st ≤ (a + tiTmo s c.val) * tsU) →
      exec (.tiuWindowClose c) s = .next s)) ∧
  (∀ (s : State) (src : Src) (c : Fin 16), s.reaches (0xB210 + 0x40 * c.val) →
    (∀ e q, (s.tch c.val).queue = e :: q → ∃ t, exec (.tiResW0Read src c) s = .next t ∧ t.lastRead = [e.getD 0 0] ∧ (t.tch c.val).queue = q ∧ (t.tch c.val).lat = e.drop 1) ∧
    ((s.tch c.val).queue = [] → ∃ t, exec (.tiResW0Read src c) s = .next t ∧ t.lastRead = [0] ∧ t.tiu = s.tiu)) ∧
  (∀ (s : State) (src : Src) (c : Fin 16) (v : Word), s.reaches (tiCfgAt c.val) →
    ∃ t, exec (.tiCfgWrite src c v) s = .next t ∧ (t.tch c.val).start = none ∧ (t.tch c.val).starts = [] ∧ (t.tch c.val).stops = [] ∧ (t.tch c.val).held = none ∧
      (t.tch c.val).early = satU 16 ((s.tch c.val).early + ((s.tch c.val).stops.length + (if (s.tch c.val).held.isSome then 1 else 0))) ∧
      (t.tch c.val).queue = (s.tch c.val).queue) ∧
  (∀ (s : State), s.supply.held = false →
    (s.tiu.ref10m = false → exec .ref10mLost s = .next s ∧
      ∃ t, exec .ref10mPresent s = .next t ∧ t.tiu = { s.tiu with ref10m := true, refChg := true, ppsChg := false } ∧ bit (t.page pTIU).stat 5 = true) ∧
    (s.tiu.ref10m = true → exec .ref10mPresent s = .next s ∧
      ∃ t, exec .ref10mLost s = .next t ∧ t.tiu = { s.tiu with ref10m := false, refChg := true, ppsChg := false } ∧ bit (t.page pTIU).stat 4 = true) ∧
    (s.tiu.pps = true → s.tiu.ppsClk + 1200000000 ≤ s.clk →
      ∃ t, exec .ppsLost s = .next t ∧ t.tiu = { s.tiu with pps := false, refChg := false, ppsChg := true } ∧ bit (t.page pTIU).stat 4 = true) ∧
    (s.tiu.pps = false ∨ s.clk < s.tiu.ppsClk + 1200000000 → exec .ppsLost s = .next s))

/-- R195 to R200: the vibrating-wire sequence. -/
def Obligations.WireSequence : Prop :=  (∀ (s : State) (c : Fin 16) (v : VwSt), s.supply.held = false → (s.tch c.val).vw = some v →
    (v.phase = 0 → v.granted = true →
      ((s.slice v.slice).exc.lockout = true → exec (.vwDriveStart c) s = .next (vwFailed c.val v.slice 5 s)) ∧
      ((s.slice v.slice).exc.lockout = false → s.sliceOff v.slice = true → exec (.vwDriveStart c) s = .next (vwFailed c.val v.slice 6 s)) ∧
      ((s.slice v.slice).exc.lockout = false → s.sliceOff v.slice = false →
        exec (.vwDriveStart c) s = .next (s.setTch c.val { s.tch c.val with vw := some { v with phase := 1, at_ := s.st } }))) ∧
    (v.phase ≠ 0 ∨ v.granted = false → exec (.vwDriveStart c) s = .next s) ∧
    (v.phase = 0 → v.granted = false → v.at_ + vwLeave_WAIT s c.val * msU ≤ s.st → exec (.vwLeaveTimeout c) s = .next (vwFailed c.val v.slice 4 s)) ∧
    (v.phase ≠ 0 ∨ v.granted = true ∨ s.st < v.at_ + vwLeave_WAIT s c.val * msU → exec (.vwLeaveTimeout c) s = .next s) ∧
    (let e := v.at_ + vwDriveLen (s.slice v.slice)
     (v.phase = 1 → e ≤ s.st → s.sliceOff v.slice = false →
       exec (.vwDriveEnd c) s = .next (bgtRelease 3 v.slice (s.setTch c.val { s.tch c.val with vw := some { v with phase := 2, at_ := e } }))) ∧
     (v.phase = 1 → e ≤ s.st → s.sliceOff v.slice = true → exec (.vwDriveEnd c) s = .next (vwFailed c.val v.slice 6 s)) ∧
     (v.phase ≠ 1 ∨ s.st < e → exec (.vwDriveEnd c) s = .next s)) ∧
    (let e := v.at_ + vwCfg_QUIET s c.val * 100 * usU
     (v.phase = 2 → e ≤ s.st → s.sliceOff v.slice = false →
       exec (.vwListenStart c) s = .next (s.setTch c.val { s.tch c.val with vw := some { v with phase := 3, at_ := e, xs := [] } })) ∧
     (v.phase = 2 → e ≤ s.st → s.sliceOff v.slice = true → exec (.vwListenStart c) s = .next (vwFailed c.val v.slice 6 s)) ∧
     (v.phase ≠ 2 ∨ s.st < e → exec (.vwListenStart c) s = .next s)) ∧
    (let ended := v.at_ + max 1 (min 1000 (vwCfg_WIN s c.val)) * msU ≤ s.st ∨ 4096 ≤ v.xs.length
     (v.phase = 3 → ended → s.sliceOff v.slice = false →
       exec (.vwListenEnd c) s = .next (thermStart c.val v.slice (s.setTch c.val { s.tch c.val with vw := some { v with phase := 4, at_ := s.st } }))) ∧
     (v.phase = 3 → ended → s.sliceOff v.slice = true → exec (.vwListenEnd c) s = .next (vwFailed c.val v.slice 6 s)) ∧
     (v.phase ≠ 3 ∨ ¬ ended → exec (.vwListenEnd c) s = .next s)) ∧
    (v.phase ≠ 4 → exec (.vwFitDone c) s = .next s) ∧
    (v.phase = 4 →
      let f := vwFit (vwUsed (vwCfg_SKIP s c.val) v)
      let r := vwReason s c.val f
      let inst := vwInst (vwCfg_SKIP s c.val) v
      let u := vwOutcome v.slice r (tiResult c.val 0 3 (satU 32 (vwFreq f (2 ^ 19)))
        (if f.n < 2 then 0 else satU 15 (sqrtNear (vwRes2 f).1 (vwRes2 f).2)) (r * 2 ^ 24 + f.n % 2 ^ 13) (inst / 2 ^ 25) (s.setTch c.val { s.tch c.val with vw := none }))
      let readers := s.ctxKeys.filter (fun k => decide (dKIND (s.ctx k).desc = 3) && decide (dSOURCE (s.ctx k).desc = c.val))
      exec (.vwFitDone c) s = .next (readers.foldl (fun a k =>
        scDeliver k { c := Int.ofNat inst, orig := Int.ofNat inst, v := Int.ofNat (vwFreq f 1000), tags := 0, restarted := false, failed := decide (r ≠ 0) } a) u))) ∧
  (∀ (s : State) (c : Fin 16), s.supply.held = false → (s.tch c.val).vw = none →
    exec (.vwDriveStart c) s = .next s ∧ exec (.vwLeaveTimeout c) s = .next s ∧ exec (.vwDriveEnd c) s = .next s ∧ exec (.vwListenStart c) s = .next s ∧
    exec (.vwListenEnd c) s = .next s ∧ exec (.vwFitDone c) s = .next s)

/-- R203, R210 to R213: LP_CMD. -/
def Obligations.LoopRequests : Prop :=  ∀ (s : State) (src : Src) (n : Fin 16) (i : Instr) (m : Nat), s.reaches (0xF100 + 0x40 * n.val) →
    (i, m) ∈ [(Instr.lpCmdOff src n, 0), (.lpCmdOpen src n, 1), (.lpCmdCentre src n, 2), (.lpCmdFeedback src n, 3), (.lpCmdHold src n, 4)] →
    (∀ r, loopBar s n.val m = some r → ∃ t, exec i s = .next t ∧ (t.loop n.val).rej = r ∧ (t.loop n.val).req = none ∧
      (t.loop n.val).mode = (s.loop n.val).mode ∧ (t.loop n.val).y = (s.loop n.val).y ∧ (t.loop n.val).flags.testBit 1 = true) ∧
    (loopBar s n.val m = none → (s.loop n.val).mode ≠ 0 → m ≠ 0 → ∃ t, exec i s = .next t ∧ (t.loop n.val).req = some m ∧ (t.loop n.val).reqAt = s.st ∧
      (t.loop n.val).leaveWait = false ∧ (t.loop n.val).mode = (s.loop n.val).mode ∧ (t.loop n.val).y = (s.loop n.val).y ∧ t.hdr = s.hdr ∧
      t.bgt.queue = s.bgt.queue.filter (fun g => !(decide (g.kind = 1 ∧ g.req = n.val)))) ∧
    (loopBar s n.val m = none → (s.loop n.val).mode = 0 → m ≠ 0 → m ≠ 4 → ∃ t, exec i s = .next t ∧ (t.loop n.val).req = some m ∧ (t.loop n.val).leaveWait = true ∧
      (t.loop n.val).mode = 0 ∧ t.hdr = s.hdr ∧
      t.bgt.queue = s.bgt.queue.filter (fun g => !(decide (g.kind = 1 ∧ g.req = n.val))) ++
        [⟨1, n.val, fld (lw s n.val 17) 15 0, some (fld (lw s n.val 17) 27 16), s.st, none, false⟩]) ∧
    (loopBar s n.val m = none → (s.loop n.val).mode = 0 → m = 4 → ∃ t, exec i s = .next t ∧ (t.loop n.val).req = some 4 ∧ (t.loop n.val).leaveWait = false ∧
      (t.loop n.val).mode = 0) ∧
    (m = 0 → loopBar s n.val 3 = none → ∃ t, exec i s = .next t ∧ (t.loop n.val).req = some 0 ∧ (t.loop n.val).mode = (s.loop n.val).mode) ∧
    (m = 0 → (loopBar s n.val 3).isSome → ∃ t, exec i s = .next t ∧ (t.loop n.val).mode = 0 ∧ (t.loop n.val).req = none)

/-- R205, R209, R210, R212, R213, R218, R221, R433: the loops' own events. -/
def Obligations.LoopCycles : Prop :=  (∀ (s : State) (n : Fin 16), s.supply.held = false → (s.loop n.val).ready = [] → exec (.loopInnerCycle n) s = .next s) ∧
  (∀ (s : State) (n : Fin 16) (g : LoopGroup) (r : List LoopGroup), s.supply.held = false → (s.loop n.val).ready = g :: r →
    let stale := g.taps.any (·.stale)
    let due := loopDue (s.loop n.val) (g.taps.headD ⟨0, 0, false, false, false, 0⟩).at_ stale
    let u := s.setLoop n.val { s.loop n.val with snap := g.snap }
    (due = false →
      ((s.loop n.val).mode = 0 ∨ (s.loop n.val).mode = 4 → ∃ t, exec (.loopInnerCycle n) s = .next t ∧ (t.loop n.val).y = fdNow s n.val ∧
        (t.loop n.val).mode = (s.loop n.val).mode ∧ (t.loop n.val).ready = r ∧ (t.loop n.val).req = (s.loop n.val).req) ∧
      ((s.loop n.val).mode = 1 → (s.loop n.val).tapHold = false → stale = false →
        ∃ t, exec (.loopInnerCycle n) s = .next t ∧ (t.loop n.val).mode = 1 ∧
          (t.loop n.val).y = outRate u n.val (fdNow s n.val) (clampFd s n.val (rshAway (t.loop n.val).r 28)).1) ∧
      ((s.loop n.val).mode = 1 ∨ (s.loop n.val).mode = 2 ∨ (s.loop n.val).mode = 3 →
        (stale = true → ∃ t, exec (.loopInnerCycle n) s = .next t ∧ (t.loop n.val).mode = (s.loop n.val).mode ∧ (t.loop n.val).tapHold = true ∧
          (t.loop n.val).y = fdNow s n.val ∧ (t.loop n.val).i = (s.loop n.val).i ∧ (t.loop n.val).r = (s.loop n.val).r ∧
          ((s.loop n.val).tapHold = false → (t.loop n.val).flags.testBit 3 = true)) ∧
        (stale = false → fdMin s n.val ≤ fdMax s n.val →
          ∃ t, exec (.loopInnerCycle n) s = .next t ∧ (t.loop n.val).mode = (s.loop n.val).mode ∧ (t.loop n.val).cycles = (s.loop n.val).cycles + 1 ∧
            (t.loop n.val).tapHold = false ∧ (t.loop n.val).ready = r ∧
            min (fdNow s n.val) (fdMin s n.val) ≤ (t.loop n.val).y ∧ (t.loop n.val).y ≤ max (fdNow s n.val) (fdMax s n.val) ∧
            (fld (lv u n.val 8) 19 0 = 0 → fdMin s n.val ≤ (t.loop n.val).y ∧ (t.loop n.val).y ≤ fdMax s n.val)))) ∧
    (∀ m, due = true → (s.loop n.val).req = some m →
      (∀ e, loopBar s n.val m = some e → ∃ t, exec (.loopInnerCycle n) s = .next t ∧ (t.loop n.val).rej = e ∧ (t.loop n.val).req = none ∧
        (t.loop n.val).mode = (s.loop n.val).mode ∧ (t.loop n.val).flags.testBit 1 = true) ∧
      (loopBar s n.val m = none →
        (m = 0 → ∃ t, exec (.loopInnerCycle n) s = .next t ∧ (t.loop n.val).mode = 0 ∧ (t.loop n.val).req = none ∧ fdNow t n.val = fdSafe s n.val) ∧
        (m = 4 → ∃ t, exec (.loopInnerCycle n) s = .next t ∧ (t.loop n.val).mode = 4 ∧ (t.loop n.val).req = none ∧ (t.loop n.val).safe = false ∧
          (t.loop n.val).y = fdNow s n.val) ∧
        (m = 1 ∨ m = 2 ∨ m = 3 → ∃ t, exec (.loopInnerCycle n) s = .next t ∧ (t.loop n.val).mode = m ∧ (t.loop n.val).req = none)))) ∧
  (∀ (s : State) (n : Fin 16), s.supply.held = false →
    ((s.loop n.val).mode ≠ 0 → ((s.loop n.val).mode ≠ 4 ∨ (s.loop n.val).safe = false) →
      (s.loop n.val).lastTap + 4 * s.sliceDec (lpSLICE (lw0 s n.val)) * 15625 / 32 ≤ s.clk →
      ∃ t, exec (.loopTapLost n) s = .next t ∧ (t.loop n.val).mode = 4 ∧ (t.loop n.val).safe = true ∧ (t.loop n.val).y = fdSafe s n.val ∧
        (t.loop n.val).flags.testBit 4 = true) ∧
    ((s.loop n.val).mode = 0 ∨ ((s.loop n.val).mode = 4 ∧ (s.loop n.val).safe = true) ∨
      s.clk < (s.loop n.val).lastTap + 4 * s.sliceDec (lpSLICE (lw0 s n.val)) * 15625 / 32 → exec (.loopTapLost n) s = .next s) ∧
    (∃ t, exec (.loopFdFault n) s = .next t ∧ t.loop n.val = { s.loop n.val with flags := (s.loop n.val).flags ||| 2 ^ 11 } ∧
      (∀ k, k ≠ n.val → t.loop k = s.loop k) ∧ t.regs = s.regs ∧ t.bgt = s.bgt ∧ t.dramMem = s.dramMem ∧
      ((s.loop n.val).flags.testBit 11 = false → bit (t.page pLOOP).stat 11 = true)) ∧
    (∀ g d, g ∈ s.bgt.grants → g.kind = 1 → g.req = n.val → g.dur = some d → g.start + d * msU ≤ s.st →
      exec (.loopLeaveExpiry n) s = .next { s with bgt := { s.bgt with grants := s.bgt.grants.filter (fun g => !(decide (g.kind = 1 ∧ g.req = n.val))) } }) ∧
    ((∀ g ∈ s.bgt.grants, g.kind = 1 → g.req = n.val → ∀ d, g.dur = some d → s.st < g.start + d * msU) → exec (.loopLeaveExpiry n) s = .next s))

/-- R255, R266, R269, R272, R273: the control of compression. R264, R266, R267: a block starts, and is committed. -/
def Obligations.Compression : Prop :=
  ((∀ (s : State) (src : Src) (v : Word) (n : Nat), s.reaches 0x12104 → n = cmpSel_STREAM s →
    (bit v 31 = true → (s.cmp n).cfg.en = false →
      ((s.members n).length ≤ 4 → (∀ c ∈ s.members n, dGRID (s.ctx c).desc = dGRID (s.ctx ((s.members n).headD 0)).desc) →
        ∃ t, exec (.cmpCfgWrite src v) s = .next t ∧ (t.cmp n).cfg.en = true ∧ (t.cmp n).enAt = some s.st ∧ (t.cmp n).needFirst = true ∧
          (t.cmp n).cfg.blk = fld v 28 16 ∧ (t.cmp n).cfg.flushMs = fld v 15 0) ∧
      (4 < (s.members n).length ∨ (∃ c ∈ s.members n, dGRID (s.ctx c).desc ≠ dGRID (s.ctx ((s.members n).headD 0)).desc) →
        ∃ t, exec (.cmpCfgWrite src v) s = .next t ∧ (t.cmp n).cfg.en = false ∧ t.cmpc.rejReason = 1 ∧ t.cmpc.rejStream = n ∧ bit (t.page pCMP).stat 5 = true)) ∧
    (bit v 31 = (s.cmp n).cfg.en → exec (.cmpCfgWrite src v) s =
      .next (s.setCmp n { s.cmp n with cfg := { (s.cmp n).cfg with blk := fld v 28 16, flushMs := fld v 15 0 } })) ∧
    (bit v 31 = false → ∃ t, exec (.cmpCfgWrite src v) s = .next t ∧ (t.cmp n).cfg.en = false ∧ (t.cmp n).cfg.blk = fld v 28 16 ∧ (t.cmp n).cfg.flushMs = fld v 15 0)) ∧
  (∀ (s : State) (src : Src) (n : Fin 128), s.reaches 0x12130 →
    (∀ b, (s.cmp n.val).blk = some b → (s.cmp n.val).ready = false → cmpWhole b ≠ 0 →
      ∃ t, exec (.cmpCmdFlush src n) s = .next t ∧ (t.cmp n.val).ready = true ∧ (t.cmp n.val).flushedEnd = decide (cmpWhole b < b.n) ∧
        (t.cmp n.val).blk = some { b with words := b.words.map (List.take (cmpWhole b)), came := b.came.map (List.take (cmpWhole b)) } ∧ bit (t.page pCMP).stat 2 = true) ∧
    (∀ b, (s.cmp n.val).blk = some b → (s.cmp n.val).ready = true ∨ cmpWhole b = 0 → exec (.cmpCmdFlush src n) s = .next s) ∧
    ((s.cmp n.val).blk = none → (s.cmp n.val).waiting = false → exec (.cmpCmdFlush src n) s = .next s) ∧
    ((s.cmp n.val).blk = none → (s.cmp n.val).waiting = true →
      exec (.cmpCmdFlush src n) s = .next (s.setCmp n.val { s.cmp n.val with flushWait := some (inqWhole s n.val) })) ∧
    ((s.cmp n.val).suspended = false → ∃ t, exec (.cmpCmdSave src n) s = .next t ∧ (t.cmp n.val).suspended = true ∧ t.cmpc.srcSaved = true ∧ t.cmpc.srcStream = n.val ∧
      bit (t.page pCMP).stat 3 = true) ∧
    ((s.cmp n.val).suspended = true → ∃ t, exec (.cmpCmdSave src n) s = .next t ∧ t.cmpc.rejReason = 4 ∧ t.cmps = s.cmps ∧ bit (t.page pCMP).stat 5 = true) ∧
    ((s.cmp n.val).suspended = true → s.cmpc.window.getD 15 0 = crcWords (s.cmpc.window.take 15) → fld (s.cmpc.window.getD 0 0) 31 28 = 1 →
      fld (s.cmpc.window.getD 0 0) 25 24 + 1 = (s.members n.val).length →
      ∃ t, exec (.cmpCmdRestore src n) s = .next t ∧ (t.cmp n.val).suspended = false ∧ (t.cmp n.val).bseq = fld (s.cmpc.window.getD 0 0) 15 0 ∧
        bit (t.page pCMP).stat 4 = true) ∧
    ((s.cmp n.val).suspended = true → (s.cmpc.window.getD 15 0 ≠ crcWords (s.cmpc.window.take 15) ∨ fld (s.cmpc.window.getD 0 0) 31 28 ≠ 1 ∨
      fld (s.cmpc.window.getD 0 0) 25 24 + 1 ≠ (s.members n.val).length) →
      ∃ t, exec (.cmpCmdRestore src n) s = .next t ∧ t.cmpc.rejReason = 3 ∧ t.cmps = s.cmps ∧ bit (t.page pCMP).stat 5 = true) ∧
    ((s.cmp n.val).suspended = true → ∃ t, exec (.cmpCmdResume src n) s = .next t ∧ (t.cmp n.val).suspended = false) ∧
    ((s.cmp n.val).suspended = false → (∃ t, exec (.cmpCmdResume src n) s = .next t ∧ t.cmpc.rejReason = 4 ∧ t.cmps = s.cmps ∧ bit (t.page pCMP).stat 5 = true) ∧
      (∃ t, exec (.cmpCmdRestore src n) s = .next t ∧ t.cmpc.rejReason = 4 ∧ t.cmps = s.cmps ∧ bit (t.page pCMP).stat 5 = true))) ∧
  (∀ (s : State) (n : Fin 128), s.supply.held = false →
    (∀ b, (s.cmp n.val).blk = some b → (s.cmp n.val).ready = false → cmpWhole b ≠ 0 →
      (s.cmp n.val).cfg.flushMs ≠ 0 → b.born + (s.cmp n.val).cfg.flushMs * 1000000 ≤ s.clk →
      ∃ t, exec (.cmpFlushAge n) s = .next t ∧ (t.cmp n.val).ready = true ∧
        (t.cmp n.val).blk = some { b with words := b.words.map (List.take (cmpWhole b)), came := b.came.map (List.take (cmpWhole b)) } ∧ bit (t.page pCMP).stat 2 = true) ∧
    ((s.cmp n.val).blk = none ∨ (s.cmp n.val).cfg.flushMs = 0 ∨ (∀ b, (s.cmp n.val).blk = some b → s.clk < b.born + (s.cmp n.val).cfg.flushMs * 1000000) →
      exec (.cmpFlushAge n) s = .next s))) ∧
  ((∀ (s : State) (n : Fin 128) (i : CmpIn) (r : List CmpIn) (ms : List Nat), s.supply.held = false → (s.cmp n.val).blk = none → (s.cmp n.val).inq = i :: r →
    (s.cmp n.val).suspended = false → ms = membersAt (s.str n.val) i.t →
    (strRoom s n.val < 32 + 4 * max 64 (min 4096 (s.cmp n.val).cfg.blk) * ms.length →
      ∃ t, exec (.cmpBlockStart n) s = .next t ∧ (t.cmp n.val).blk = none ∧ (t.cmp n.val).waiting = true ∧
        ((s.cmp n.val).waiting = false → bit (t.page pCMP).stat 0 = true)) ∧
    (32 + 4 * max 64 (min 4096 (s.cmp n.val).cfg.blk) * ms.length ≤ strRoom s n.val → (s.cmp n.val).flushWait = none → (s.cmp n.val).lostK = [] →
      (∀ x ∈ (s.cmp n.val).inq, membersAt (s.str n.val) x.t = ms) →
      ∃ t b, exec (.cmpBlockStart n) s = .next t ∧ (t.cmp n.val).blk = some b ∧ b.mems = ms ∧ b.n = max 64 (min 4096 (s.cmp n.val).cfg.blk) ∧
        b.firstFlag = (s.cmp n.val).needFirst ∧ b.restored = (s.cmp n.val).needRestored ∧ b.sec = secOf i.t ∧
        (∀ x ∈ (s.cmp n.val).inq, x.ctx ∈ ms → b.first ≤ x.k) ∧ (t.cmp n.val).waiting = false ∧ (t.cmp n.val).needFirst = false ∧
        (t.cmp n.val).bseq = (s.cmp n.val).bseq)) ∧
  (∀ (s : State) (n : Fin 128), s.supply.held = false →
    ((s.cmp n.val).inq = [] ∨ (s.cmp n.val).blk.isSome ∨ (s.cmp n.val).suspended = true → exec (.cmpBlockStart n) s = .next s) ∧
    ((s.cmp n.val).blk = none ∨ (s.cmp n.val).ready = false → exec (.cmpBlockCommit n) s = .next s)) ∧
  (∀ (s : State) (n : Fin 128) (b : CmpBlk), s.supply.held = false → (s.cmp n.val).blk = some b → (s.cmp n.val).ready = true →
    ∃ t, exec (.cmpBlockCommit n) s = .next t ∧ (t.cmp n.val).blk = none ∧ (t.cmp n.val).ready = false ∧ (t.cmp n.val).bseq = ((s.cmp n.val).bseq + 1) % 2 ^ 16 ∧
      (t.cmp n.val).blocks = ((s.cmp n.val).blocks + 1) % 2 ^ 32 ∧ (t.cmp n.val).nextIdx = b.first + (b.words.headD []).length ∧
      (t.cmp n.val).inBytes = ((s.cmp n.val).inBytes + 4 * (b.words.headD []).length * b.mems.length) % 2 ^ 64))

/-- R278, R279, R282, R287, R288: the stream commands. -/
def Obligations.StreamControl : Prop :=  (∀ (s : State) (src : Src) (n : Fin 128), s.reaches 0x13120 →
    (strRej s n.val = none → ∃ a, strPlace s n.val (strRead s n.val).pages = some a ∧ exec (.queCmdStart src n) s = .next (s.setStr n.val
      { run := true, region := some (a, (strRead s n.val).pages), desc := strRead s n.val, startAt := s.st + usU, memSets := [(0, s.members n.val)] })) ∧
    (∀ r, strRej s n.val = some r → ∃ t, exec (.queCmdStart src n) s = .next t ∧ t.store.queRejReason = r ∧ t.store.queRejStream = n.val ∧ t.strs = s.strs ∧
      bit (t.page pQUE).stat 1 = true) ∧
    ((s.str n.val).run = true → (s.str n.val).stopAt = none → ∃ t, exec (.queCmdStop src n) s = .next t ∧ (t.str n.val).stopAt = some (s.st + usU) ∧
      ((t.str n.val).run = false → bit (t.page pQUE).stat 5 = true ∧ (t.str n.val).openPkt = none)) ∧
    ((s.str n.val).run = false ∨ (s.str n.val).stopAt.isSome → exec (.queCmdStop src n) s = .next s) ∧
    (∀ q i, (s.str n.val).reading = some (q, i) → ∃ t, exec (.queCmdDrop src n) s = .next t ∧ (t.str n.val).reading = none ∧ (t.str n.val).gapNext = true ∧
      (∀ p ∈ (t.str n.val).pkts, p.pseq = q → p.isRead = true) ∧ bit (t.page pQUE).stat 2 = true) ∧
    ((s.str n.val).reading = none → exec (.queCmdDrop src n) s = .next s) ∧
    (∀ idx, idx = queRewindLo_IDX s + 2 ^ 32 * queRewindHi_IDX s →
      ((∃ p ∈ (s.str n.val).pkts, idx ≤ p.last) → ∃ t, exec (.queCmdRewind src n) s = .next t ∧ (t.str n.val).reading = none ∧
        (t.str n.val).pkts.length = (s.str n.val).pkts.length ∧
        (∀ k < (s.str n.val).pkts.length, (∀ j < k, ((s.str n.val).pkts[j]?.any (fun p => decide (idx ≤ p.last))) = false) →
          (s.str n.val).pkts[k]?.any (fun p => decide (idx ≤ p.last)) = true → ∀ j, k ≤ j → (t.str n.val).pkts[j]?.all (fun p => !p.isRead) = true)) ∧
      ((∀ p ∈ (s.str n.val).pkts, p.last < idx) → exec (.queCmdRewind src n) s = .next s)) ∧
    ((s.str n.val).run = false → exec (.queCmdFree src n) s = .next (s.setStr n.val { s.str n.val with region := none, pkts := [], reading := none, wrOfs := 0, gapNext := false })) ∧
    ((s.str n.val).run = true → ∃ t, exec (.queCmdFree src n) s = .next t ∧ t.store.queRejReason = 6 ∧ t.strs = s.strs ∧ bit (t.page pQUE).stat 1 = true)) ∧
  (∀ (s : State) (n : Fin 128) (o : OpenPkt), s.supply.held = false → (s.str n.val).openPkt = some o → o.fmt ≤ 3 → (s.str n.val).desc.ageMs ≠ 0 →
    o.opened + (s.str n.val).desc.ageMs * 1000000 ≤ s.clk → ∃ t, exec (.pktAgeExpiry n) s = .next t ∧ (t.str n.val).openPkt = none ∧ (t.str n.val).desc = (s.str n.val).desc ∧ (t.str n.val).run = (s.str n.val).run) ∧
  (∀ (s : State) (n : Fin 128), s.supply.held = false →
    (s.str n.val).openPkt = none ∨ (s.str n.val).desc.ageMs = 0 ∨ (∃ o, (s.str n.val).openPkt = some o ∧ (3 < o.fmt ∨ s.clk < o.opened + (s.str n.val).desc.ageMs * 1000000)) →
    exec (.pktAgeExpiry n) s = .next s)

/-- R284, R292, R293, R295: reading and partitioning the store. -/
def Obligations.StoreAccess : Prop :=  (∀ (s : State) (src : Src) (n : Nat), s.reaches 0x13118 → n = queSel_STREAM s →
    (let u := if (s.str n).reading = none then beginPkt n (s.str n).pkts.length s else s
     (s.str n).desc.consumer = 3 →
      (∀ q i p ws, (u.str n).reading = some (q, i) → (u.str n).pkts.find? (fun p => decide (p.pseq = q)) = some p → deliverPkt u n p = some ws →
        ∃ t, exec (.queRdRead src) s = .next t ∧ t.lastRead = [ws.getD i 0] ∧ t.dramMem = u.dramMem ∧ t.regs = u.regs ∧
          (i + 1 < ws.length → (t.str n).reading = some (q, i + 1) ∧ (t.str n).pkts = (u.str n).pkts) ∧
          (ws.length ≤ i + 1 → (t.str n).reading = none ∧ ∀ x ∈ (t.str n).pkts, x.pseq = q → x.isRead = true)) ∧
      ((u.str n).reading = none → exec (.queRdRead src) s = .next { u with lastRead := [0] })) ∧
    ((s.str n).desc.consumer ≠ 3 → exec (.queRdRead src) s = .next { s with lastRead := [0] })) ∧
  (∀ (s : State) (src : Src), s.reaches 0x1410C →
    ((∀ x ∈ s.strs, x.2.run = false ∧ x.2.region = none) → recKeys s = [] → storeLivePages_PAGES s + storeRecPages_PAGES s + storeLdgPages_PAGES s ≤ s.dram.cap →
      exec (.storePartCmdApply src) s = .next { s with store := { s.store with
        applied := true, live := storeLivePages_PAGES s, recPages := storeRecPages_PAGES s, ldg := storeLdgPages_PAGES s,
        lgLost := min (2 ^ 32 - 1) (s.store.lgLost + ledgerUnread s), lgRd := s.store.lgWr, lgOfs := 0, lgHeld := 0 } }) ∧
    (((∃ x ∈ s.strs, x.2.run = true ∨ x.2.region.isSome) ∨ recKeys s ≠ [] ∨ s.dram.cap < storeLivePages_PAGES s + storeRecPages_PAGES s + storeLdgPages_PAGES s) →
      ∃ t, exec (.storePartCmdApply src) s = .next t ∧ t.store = s.store ∧ t.dramMem = s.dramMem ∧ bit (t.page pSTORE).stat 4 = true)) ∧
  (∀ (s : State) (src : Src) (a : Nat), s.reaches 0x14128 → a = storeRdAddrLo_ADDR s * 4 + storeRdAddrHi_ADDR s * 2 ^ 32 →
    (a < s.dram.cap * 4096 → memOpen s = true → a / 4 * 4 ∉ s.dram.badU →
      ∃ t, exec (.storeRdDataRead src) s = .next t ∧ t.lastRead = [s.dramW a] ∧ t.dramMem = s.dramMem ∧
        storeRdAddrLo_ADDR t * 4 + storeRdAddrHi_ADDR t * 2 ^ 32 = (a + 4) % 2 ^ 34) ∧
    (a < s.dram.cap * 4096 → memOpen s = true → a / 4 * 4 ∈ s.dram.badU →
      ∃ t, exec (.storeRdDataRead src) s = .next t ∧ t.lastRead = [0] ∧ t.dramMem = s.dramMem ∧ bit (t.page pSTORE).stat 3 = true ∧
        storeRdAddrLo_ADDR t * 4 + storeRdAddrHi_ADDR t * 2 ^ 32 = (a + 4) % 2 ^ 34) ∧
    (a < s.dram.cap * 4096 → memOpen s = false → exec (.storeRdDataRead src) s = .next { s with lastRead := [] }) ∧
    (s.dram.cap * 4096 ≤ a → ∃ t, exec (.storeRdDataRead src) s = .next t ∧ t.lastRead = [0] ∧ t.dramMem = s.dramMem ∧ bit (t.page pSYS).stat 0 = true)) ∧
  (∀ (s : State) (src : Src) (l : Fin 8) (k : Fin 256) (r : RecSlot), s.reaches 0x1412C → s.recSlot k.val = some r →
    (r.closed = true → s.store.xfer = none → l.val < 2 →
      exec (.storeXfer src l k) s = .next (xferNext { s with store := { s.store with xfer := some (k.val, l.val, 0) } })) ∧
    (r.closed = false ∨ s.store.xfer.isSome ∨ 2 ≤ l.val → exec (.storeXfer src l k) s = .next s)) ∧
  (∀ (s : State) (src : Src) (l : Fin 8) (k : Fin 256), s.reaches 0x1412C → s.recSlot k.val = none → exec (.storeXfer src l k) s = .next s) ∧
  (∀ (s : State) (n : Fin 128), s.supply.held = false →
    ((s.str n.val).nextSec = none → exec (.ledgerSecondWrite n) s = .next s) ∧
    (∀ sec, (s.str n.val).nextSec = some sec → (s.str n.val).run = true →
      (secondDue s n.val sec = true → ∃ t, exec (.ledgerSecondWrite n) s = .next t ∧ (t.str n.val).nextSec = some (sec + 1) ∧
        (∀ a ∈ (t.str n.val).secs, a.sec ≠ sec) ∧ (secondDone s n.val sec = true → (t.str n.val).pkts = (s.str n.val).pkts)) ∧
      (secondDue s n.val sec = false → exec (.ledgerSecondWrite n) s = .next s)) ∧
    (∀ sec, (s.str n.val).nextSec = some sec → (s.str n.val).run = false → (∀ a ∈ (s.str n.val).secs, a.sec < sec) →
      (∀ u, (s.str n.val).stopAt = some u → secOf u < sec) →
      exec (.ledgerSecondWrite n) s = .next (s.setStr n.val { s.str n.val with nextSec := none })))

/-- R303 to R306, R309, R319: training. -/
def Obligations.DramTraining : Prop :=  (∀ (s : State) (src : Src), s.reaches 0x15104 →
    let rejected (r : Nat) : Prop := ∃ t, exec (.drCmdTrain src) s = .next t ∧ t.dram = { s.dram with rej := r } ∧ t.bgt = s.bgt ∧ bit (t.page pDRAM).stat 7 = true
    (s.dram.selfref = true → rejected 5) ∧
    (s.dram.selfref = false →
      ((∃ x ∈ s.strs, x.2.run = true ∨ x.2.region.isSome) ∨ (∃ x ∈ s.recs, x.2.isSome) ∨ dmaHolds s 18 = true → rejected 1) ∧
      (drBusy s (dmaHolds s 18) = false →
        (drCfg_DENSITY s = 3 → rejected 4) ∧
        (drCfg_DENSITY s ≠ 3 → modeGood s = false → rejected 2) ∧
        (drCfg_DENSITY s ≠ 3 → modeGood s = true → mapGood s = false → rejected 3) ∧
        (drCfg_DENSITY s ≠ 3 → modeGood s = true → mapGood s = true →
          (s.dram.asking = true ∨ s.dram.st = 1 → exec (.drCmdTrain src) s = .next s) ∧
          (s.dram.asking = false → s.dram.st ≠ 1 →
            ∃ t, exec (.drCmdTrain src) s = .next t ∧ t.dram = { s.dram with asking := true, retryAt := none, conf := (
                { rate := drCfg_RATE s, density := drCfg_DENSITY s, ranks := drCfg_RANKS s + 1, bg0 := drMapBg0_MASK s, bg1 := drMapBg1_MASK s,
                  ba0 := drMapBa0_MASK s, ba1 := drMapBa1_MASK s, refi := drTim4_tREFI s } : DrConf) } ∧
              t.bgt.queue = s.bgt.queue ++ [⟨6, 0, drLeave_MW s, some 40, s.st, none, false⟩] ∧ t.hdr = s.hdr ∧ t.regs = s.regs))))) ∧
  (∀ (s : State), s.supply.held = false →
    (∀ a, s.dram.retryAt = some a → a ≤ s.clk →
      ∃ t, exec .dramTrainRetry s = .next t ∧ t.dram = { s.dram with asking := true, retryAt := none } ∧
        t.bgt.queue = s.bgt.queue ++ [⟨6, 0, drLeave_MW s, some 40, s.st, none, false⟩]) ∧
    ((∀ a, s.dram.retryAt = some a → s.clk < a) → exec .dramTrainRetry s = .next s)) ∧
  (∀ (s : State) (f : DrFound), s.supply.held = false →
    (s.dram.st ≠ 1 → exec (.dramTrain f) s = .next s) ∧
    (s.dram.st = 1 → s.st < s.dram.trainAt + 40 * msU →
      ∃ t, exec (.dramTrain f) s = .next t ∧ t.dram.st = 1 ∧ t.dram.lanes.length = 5 ∧ t.bgt = s.bgt ∧ t.dramMem = s.dramMem ∧
        (∀ l < 5, (s.dram.trainAt + 13 * msU ≤ s.st → (t.dram.lanes.getD l {}).rdDly = (laneOf f (decide (drRanks s = 2)) l).rdDly ∧
            (t.dram.lanes.getD l {}).rdEye = (laneOf f (decide (drRanks s = 2)) l).rdEye) ∧
          (s.dram.trainAt + 29 * msU ≤ s.st → (t.dram.lanes.getD l {}).wrDly = (laneOf f (decide (drRanks s = 2)) l).wrDly ∧
            (t.dram.lanes.getD l {}).wrEye = (laneOf f (decide (drRanks s = 2)) l).wrEye) ∧
          (s.st < s.dram.trainAt + 13 * msU → t.dram.lanes.getD l {} = s.dram.lanes.getD l {})) ∧
        (s.dram.trainAt + 39 * msU ≤ s.st → drMode_VALUE t 6 = drMode_VALUE s 6 / 2 ^ 8 * 2 ^ 8 + f.vref % 2 ^ 6) ∧
        (s.st < s.dram.trainAt + 39 * msU → t.regs = s.regs)) ∧
    (s.dram.st = 1 → s.dram.trainAt + 40 * msU ≤ s.st →
      ∃ t, exec (.dramTrain f) s = .next t ∧ bgtHas 6 0 t = false ∧ t.dramMem = s.dramMem ∧
        (rankPass s f 0 = true → t.dram.st = 2 ∧ t.dram.cap = (if drRanks s = 2 ∧ rankPass s f 1 = true then 2 * rankPages s else rankPages s) ∧
          (t.dram.rank1Fail = true ↔ drRanks s = 2 ∧ rankPass s f 1 = false)) ∧
        (rankPass s f 0 = false → t.dram.st = 3 ∧ t.dram.cap = 0 ∧ bit (t.page pDRAM).stat 1 = true) ∧
        (rankPass s f 0 = true → (drRanks s = 2 → rankPass s f 1 = true) → bit (t.page pDRAM).stat 0 = true) ∧
        (rankPass s f 0 = true → drRanks s = 2 → rankPass s f 1 = false → bit (t.page pDRAM).stat 1 = true)))

/-- R307, R310, R313 to R315, R317, R318: upkeep of the memory. -/
def Obligations.DramUpkeep : Prop :=  (∀ (s : State) (src : Src), s.reaches 0x15104 →
    (memOpen s = true → exec (.drCmdTrack src) s = .next { s with dram := { s.dram with trackDue := true } }) ∧
    (memOpen s = false → exec (.drCmdTrack src) s = .next s)) ∧
  (∀ (s : State) (cs : List Nat), s.supply.held = false →
    let due := s.dram.trackDue = true ∨ (drTrain_TRACK_MS s ≠ 0 ∧ s.dram.lastTrack + drTrain_TRACK_MS s * 1000000 ≤ s.clk)
    (memOpen s = true → s.dram.panic = false → due →
      ∃ t, exec (.dramTrackRound cs) s = .next t ∧ t.dram.trackDue = false ∧ t.dram.lastTrack = s.clk ∧ t.dram.lanes.length = s.dram.lanes.length ∧
        t.dramMem = s.dramMem ∧
        ∀ (i : Nat) (x y : DrLane), s.dram.lanes[i]? = some x → t.dram.lanes[i]? = some y → y.rdEye = x.rdEye ∧ y.wrDly = x.wrDly ∧ y.rdDly ≤ x.rdDly + 1 ∧ x.rdDly ≤ y.rdDly + 1) ∧
    (memOpen s = false ∨ s.dram.panic = true ∨ ¬ due → exec (.dramTrackRound cs) s = .next s)) ∧
  (∀ (s : State), s.supply.held = false →
    (memOpen s = true → s.dram.lastZq + drTrain_ZQ_MS s * 1000000 ≤ s.clk → exec .dramZqcs s = .next { s with dram := { s.dram with lastZq := s.clk } }) ∧
    (memOpen s = false ∨ s.clk < s.dram.lastZq + drTrain_ZQ_MS s * 1000000 → exec .dramZqcs s = .next s)) ∧
  (∀ (s : State) (r : Fin 2), s.supply.held = false →
    let last := if r.val = 0 then s.dram.lastRef0 else s.dram.lastRef1
    let owed := if r.val = 0 then s.dram.post0 else s.dram.post1
    (memOpen s = true → r.val < drRanks s → last + refiNs s ≤ s.clk →
      ∃ t, exec (.dramRefresh r) s = .next t ∧ t.dramMem = s.dramMem ∧ t.dram.lanes = s.dram.lanes ∧ t.dram.wq = s.dram.wq ∧
        (if r.val = 0 then t.dram.lastRef0 else t.dram.lastRef1) = s.clk ∧
        (if r.val = 0 then t.dram.post0 else t.dram.post1) = (if s.dram.panic = true ∧ owed < 8 then owed + 1 else 0) ∧
        (if r.val = 0 then t.dram.post1 = s.dram.post1 else t.dram.post0 = s.dram.post0)) ∧
    (memOpen s = false ∨ drRanks s ≤ r.val ∨ s.clk < last + refiNs s → exec (.dramRefresh r) s = .next s)) ∧
  (∀ (s : State) (es : List (Nat × Bool)), s.supply.held = false →
    (memOpen s = true → drScrub_SCRUB_US s ≠ 0 → s.dram.lastScrub + drScrub_SCRUB_US s * 1000 ≤ s.clk → s.dram.panic = false → s.dram.wait = [] →
      ∃ t, exec (.dramScrub es) s = .next t ∧ t.dram.lastScrub = s.clk ∧ t.dramMem = s.dramMem ∧
        t.dram.scrubAddr = (if s.dram.scrubAddr + 32 < s.dram.cap * 4096 then s.dram.scrubAddr + 32 else 0) ∧
        ∀ x ∈ beats s.dram.scrubAddr, x ∉ t.dram.badU → x ∉ t.dram.badC) ∧
    (memOpen s = false ∨ drScrub_SCRUB_US s = 0 ∨ s.clk < s.dram.lastScrub + drScrub_SCRUB_US s * 1000 ∨ s.dram.panic = true ∨ s.dram.wait ≠ [] →
      exec (.dramScrub es) s = .next s)) ∧
  (∀ (s : State), s.supply.held = false →
    (memOpen s = true → s.dram.wait = [] → ∃ t, exec .dramWriteDrain s = .next t ∧ t.dram.wq = [] ∧ t.dram.p0 = 0 ∧ t.dram.panic = false) ∧
    (memOpen s = true → (∃ x ∈ s.dram.wait, x.write = false) → s.dram.wq.length < (wqMarks s).1 →
      ∃ t, exec .dramWriteDrain s = .next t ∧ t.dramMem = s.dramMem) ∧
    (memOpen s = false → exec .dramWriteDrain s = .next s)) ∧
  (∀ (s : State), s.supply.held = false →
    ((s.dom 18).toSr = true → memOpen s = true → s.dram.panic = false ∨ s.dram.p0 = 0 →
      ∃ t, exec .dramSrEnter s = .next t ∧ t.dram.selfref = true ∧ t.dram.wq = [] ∧ (t.dom 18).st = 3 ∧ t.dram.lanes = s.dram.lanes ∧ bit (t.page pDRAM).stat 6 = true) ∧
    ((s.dom 18).toSr = true → s.dram.selfref = false → s.dram.st ≠ 1 → s.dram.st ≠ 2 →
      ∃ t, exec .dramSrEnter s = .next t ∧ t.dram = { s.dram with selfref := true } ∧ (t.dom 18).st = 3 ∧ bit (t.page pDRAM).stat 6 = true) ∧
    ((s.dom 18).toSr = false ∨ s.dram.selfref = true ∨ s.dram.st = 1 ∨ (s.dram.st = 2 ∧ s.dram.panic = true ∧ s.dram.p0 ≠ 0) → exec .dramSrEnter s = .next s)) ∧
  (∀ (s : State) (cs : List Nat), s.supply.held = false →
    (s.dram.selfref = true → srExitWanted s = true → s.pwr.state ≠ 3 ∨ s.pwr.move.isSome →
      ∃ t, exec (.dramSrExit cs) s = .next t ∧ t.dram.selfref = false ∧ (t.dom 18).st = 0 ∧ bit (t.page pDRAM).stat 6 = true) ∧
    (s.dram.selfref = false ∨ srExitWanted s = false ∨ (s.pwr.state = 3 ∧ s.pwr.move = none) → exec (.dramSrExit cs) s = .next s))

/-- R304, R305, R310 to R313, R315, R316, R319: requests of the four ports. -/
def Obligations.DramRequests : Prop :=  ∀ (s : State) (p : Fin 4) (a : BitVec 34) (bs : List Byte) (m : Word) (es : List (Nat × Bool)), s.supply.held = false →
    let b := a.toNat / 32 * 32
    let u := noteErrs b es s
    (memOpen s = true → s.dram.wait = [] → s.dram.panic = false → p.val ≠ 0 ∨ s.dram.p0 = 0 →
      (s.dram.wq.length < 32 →
        ∃ t, exec (.dramPortRequest p true a bs m es) s = .next t ∧ t.dram.wq = s.dram.wq ++ [⟨p.val, true, b, bs, m.toNat⟩] ∧ t.dram.wait = [] ∧
          t.dram.p0 = s.dram.p0 ∧ t.dram.panic = false ∧ t.dramMem = s.dramMem ∧ t.regs = s.regs ∧ t.lastRead = s.lastRead) ∧
      (32 ≤ s.dram.wq.length → p.val ≠ 0 →
        ∃ t, exec (.dramPortRequest p true a bs m es) s = .next t ∧ t.dram.wq = s.dram.wq ∧ t.dram.wait = [⟨p.val, true, b, bs, m.toNat⟩] ∧ t.dramMem = s.dramMem) ∧
      (∃ t ws, exec (.dramPortRequest p false a bs m es) s = .next t ∧ t.dram.wq = s.dram.wq ∧ t.dram.wait = [] ∧ t.dramMem = s.dramMem ∧ t.regs = s.regs ∧
        t.lastRead = ws ++ [if wqCovers s b = false ∧ (∃ x ∈ beats b, x ∈ u.dram.badU) then 1 else 0] ∧ ws.length = 8 ∧
        ∀ i < 32, (ws.getD (i / 4) 0).toNat / 2 ^ (8 * (i % 4)) % 2 ^ 8 =
          (match (s.dram.wq.reverse).find? (fun (r : DrReq) => decide (r.addr = b) && r.mask.testBit i) with
            | some r => r.bytes.getD i 0 | none => s.dramB (b + i)).toNat)) ∧
    (memOpen s = true → s.dram.wait = [] → s.dram.panic = true → drPanic_PANIC_CLR s < s.dram.p0 → p.val ≠ 0 → s.dram.since + 1 < max 2 (drThrottle_THROTTLE s) → ∀ w,
      exec (.dramPortRequest p w a bs m es) s = .next { u with dram := { u.dram with wait := [⟨p.val, w, b, bs, m.toNat⟩] } }) ∧
    (memOpen s = false → s.dram.st ≠ 3 → ∀ w, ¬ (p.val = 0 ∧ w = true) → ∃ t, exec (.dramPortRequest p w a bs m es) s = .next t ∧
      t.dram = { s.dram with wait := s.dram.wait ++ [⟨p.val, w, b, bs, m.toNat⟩] } ∧ t.dramMem = s.dramMem ∧ t.lastRead = s.lastRead) ∧
    (memOpen s = false → p.val = 0 →
      (s.dram.p0 + 32 ≤ 65536 → ∃ t, exec (.dramPortRequest p true a bs m es) s = .next t ∧ t.dram.p0 = s.dram.p0 + 32 ∧
        t.dram.wait = s.dram.wait ++ [⟨0, true, b, bs, m.toNat⟩] ∧ t.dram.panic = (s.dram.panic || decide (drPanic_PANIC_LEVEL s ≤ s.dram.p0 + 32)) ∧
        t.dramMem = s.dramMem ∧ t.lastRead = s.lastRead) ∧
      (65536 < s.dram.p0 + 32 → ∃ t, exec (.dramPortRequest p true a bs m es) s = .next t ∧ t.dram.p0Ovf = true ∧ t.dram.wait = s.dram.wait ∧ t.dram.p0 = s.dram.p0 ∧
        t.dramMem = s.dramMem)) ∧
    (s.dram.st = 3 → ∀ w, ¬ (p.val = 0 ∧ w = true) → ∃ t, exec (.dramPortRequest p w a bs m es) s = .next t ∧ t.lastRead = List.replicate 8 0 ++ [1] ∧
      t.dramMem = s.dramMem ∧ t.dram.uncorr = satInc 16 s.dram.uncorr ∧ bit (t.page pDRAM).stat 5 = true)

/-- R320, R325 to R328, R331: a channel's CTL bits. -/
def Obligations.DmaCommands : Prop :=  ∀ (s : State) (src : Src) (c : Fin 16), s.reaches (dmaCtlAt c.val) →
    (let still (i : Instr) : Prop := ∃ t, exec i s = .next t ∧ t.dma = s.dma ∧ t.hdr = s.hdr ∧ t.dramMem = s.dramMem ∧ t.sram = s.sram
     (∀ r, dmaRej s c.val = some r → ∃ t, exec (.dmaCtlStart src c) s = .next t ∧ (t.dmaCh c.val).rej = r ∧ (t.dmaCh c.val).st = (s.dmaCh c.val).st ∧
       t.dramMem = s.dramMem ∧ t.sram = s.sram ∧ (t.dmaCh c.val).flags.testBit 4 = true) ∧
     (dmaRej s c.val = none → dmaCount_COUNT s c.val = 0 → ∃ t, exec (.dmaCtlStart src c) s = .next t ∧ (t.dmaCh c.val).st = 3 ∧ (t.dmaCh c.val).flags.testBit 0 = true ∧
       t.dramMem = s.dramMem ∧ t.sram = s.sram) ∧
     (dmaRej s c.val = none → dmaCount_COUNT s c.val ≠ 0 → ∃ t, exec (.dmaCtlStart src c) s = .next t ∧ (t.dmaCh c.val).st = 1 ∧
       (t.dmaCh c.val).rd = none ∧ (t.dmaCh c.val).out = [] ∧ (t.dmaCh c.val).causeP = false ∧ (t.dmaCh c.val).causeS = false ∧
       ((t.dmaCh c.val).desc = true ↔ dmaCtl_SRC_SPACE s c.val = dmaCtl_DST_SPACE s c.val ∧ dmaSrc s c.val < dmaDst s c.val ∧
         dmaDst s c.val < dmaSrc s c.val + dmaCount_COUNT s c.val) ∧ t.hdr = s.hdr ∧ t.dramMem = s.dramMem ∧ t.sram = s.sram) ∧
     ((s.dmaCh c.val).st = 1 → (s.dmaCh c.val).fin = none → dmaIdle (s.dmaCh c.val) = true →
       ∃ t, exec (.dmaCtlPause src c) s = .next t ∧ (t.dmaCh c.val).st = 2 ∧ (t.dmaCh c.val).causeS = true ∧ (t.dmaCh c.val).flags.testBit 5 = true) ∧
     ((s.dmaCh c.val).st = 1 → (s.dmaCh c.val).fin = none → dmaIdle (s.dmaCh c.val) = false →
       exec (.dmaCtlPause src c) s = .next (s.setDma c.val { s.dmaCh c.val with causeS := true })) ∧
     ((s.dmaCh c.val).st = 2 ∨ ((s.dmaCh c.val).st = 1 ∧ (s.dmaCh c.val).fin.isSome) → exec (.dmaCtlPause src c) s = .next s) ∧
     ((s.dmaCh c.val).st ≠ 1 → (s.dmaCh c.val).st ≠ 2 → still (.dmaCtlPause src c) ∧ still (.dmaCtlResume src c)) ∧
     ((s.dmaCh c.val).st = 2 → (s.dmaCh c.val).causeP = false ∨ dmaDomDown s c.val = false → ∃ t, exec (.dmaCtlResume src c) s = .next t ∧ (t.dmaCh c.val).st = 1 ∧
       (t.dmaCh c.val).causeS = false ∧ (t.dmaCh c.val).causeP = false ∧ (t.dmaCh c.val).flags.testBit 6 = true) ∧
     ((s.dmaCh c.val).st = 2 → (s.dmaCh c.val).causeP = true → dmaDomDown s c.val = true →
       exec (.dmaCtlResume src c) s = .next (s.setDma c.val { s.dmaCh c.val with causeS := false })) ∧
     ((s.dmaCh c.val).st = 1 → exec (.dmaCtlResume src c) s = .next s) ∧
     ((s.dmaCh c.val).st = 2 → ∃ t, exec (.dmaCtlAbort src c) s = .next t ∧ (t.dmaCh c.val).st = 4 ∧ (t.dmaCh c.val).causeS = false ∧
       (t.dmaCh c.val).causeP = false ∧ (t.dmaCh c.val).flags.testBit 1 = true) ∧
     ((s.dmaCh c.val).st = 0 ∨ (s.dmaCh c.val).st = 4 ∨ (s.dmaCh c.val).st = 5 ∨ ((s.dmaCh c.val).st = 3 ∧ (s.dmaCh c.val).doneAt ≠ some s.st) → still (.dmaCtlAbort src c)) ∧
     ((s.dmaCh c.val).st = 3 → (s.dmaCh c.val).doneAt = some s.st → ∃ t, exec (.dmaCtlAbort src c) s = .next t ∧ (t.dmaCh c.val).st = 3 ∧ (t.dmaCh c.val).late = true ∧
       (t.dmaCh c.val).flags.testBit 2 = true ∧ t.dramMem = s.dramMem ∧ t.sram = s.sram) ∧
     ((s.dmaCh c.val).st = 1 → (s.dmaCh c.val).fin = none → dmaIdle { s.dmaCh c.val with rd := none } = true →
       ∃ t, exec (.dmaCtlAbort src c) s = .next t ∧ (t.dmaCh c.val).st = 4 ∧ (t.dmaCh c.val).flags.testBit 1 = true) ∧
     ((s.dmaCh c.val).st = 1 → (s.dmaCh c.val).fin = none → dmaIdle { s.dmaCh c.val with rd := none } = false →
       exec (.dmaCtlAbort src c) s = .next (s.setDma c.val { s.dmaCh c.val with fin := some 0, rd := none })) ∧
     ((s.dmaCh c.val).st = 1 → (s.dmaCh c.val).fin.isSome → exec (.dmaCtlAbort src c) s = .next s))

/-- R313, R323, R324, R326, R329 to R331, R413: a transfer's own events. -/
def Obligations.DmaTransfers : Prop :=  (∀ (s : State) (c : Fin 16), s.supply.held = false →
    (dmaTurn s = some c.val → ∃ t r, exec (.dmaBurstRead c) s = .next t ∧ (t.dmaCh c.val).rd = some r ∧ t.dma.last = c.val ∧ r = dmaNext s c.val ∧
      (0 < r.len → r.src / 32 = (r.src + r.len - 1) / 32) ∧ t.dramMem = s.dramMem ∧ t.sram = s.sram) ∧
    (dmaTurn s ≠ some c.val → exec (.dmaBurstRead c) s = .next s)) ∧
  (∀ (s : State) (c : Fin 16) (bs : List Byte) (ok : Bool) (es : List (Nat × Bool)), s.supply.held = false →
    ((s.dmaCh c.val).rd = none → exec (.dmaReadComplete c bs ok es) s = .next s) ∧
    (∀ r, (s.dmaCh c.val).rd = some r → (s.dmaCh c.val).st = 1 → 0 < r.len →
      let issue (ws : List Byte) : Prop := ∃ t, exec (.dmaReadComplete c bs ok es) s = .next t ∧ (t.dmaCh c.val).rd = none ∧ (t.dmaCh c.val).st = 1 ∧
        (t.dmaCh c.val).out = (s.dmaCh c.val).out ++ dmaWrites (s.dmaCh c.val).desc (dmaW (dmaCtl_DST_W s c.val)) r.dst ws
      let ends (e : Nat) : Prop := (s.dmaCh c.val).out = [] → (s.dmaCh c.val).zlr = none → (s.dmaCh c.val).fin = none →
        ∃ t, exec (.dmaReadComplete c bs ok es) s = .next t ∧ (t.dmaCh c.val).st = 5 ∧ (t.dmaCh c.val).err = e ∧
        (t.dmaCh c.val).flags.testBit 3 = true ∧ dmaCount_COUNT t c.val = dmaCount_COUNT s c.val
      (dmaCtl_SRC_SPACE s c.val = 0 →
        ((∀ x ∈ s.tmr.bad, ¬ (x < r.src + r.len ∧ r.src < x + 4)) → issue ((List.range r.len).map (fun i => s.sramB (r.src + i)))) ∧
        ((∃ x ∈ s.tmr.bad, x < r.src + r.len ∧ r.src < x + 4) → ends 1)) ∧
      (dmaCtl_SRC_SPACE s c.val = 1 →
        (dmaPortOpen s = false → exec (.dmaReadComplete c bs ok es) s = .next s) ∧
        (dmaPortOpen s = true →
          let b := r.src / 32 * 32
          let bad := ∃ x ∈ beats b, x ∈ (noteErrs b es s).dram.badU
          (wqCovers s b = true ∨ ¬ bad → issue ((List.range r.len).map (fun i => readByte s b (r.src - b + i)))) ∧
          (wqCovers s b = false → bad → ends 1))) ∧
      (dmaCtl_SRC_SPACE s c.val = 2 ∨ dmaCtl_SRC_SPACE s c.val = 3 →
        (ok = true → issue (bs.take r.len ++ List.replicate (r.len - bs.length) 0)) ∧ (ok = false → ends 2)))) ∧
  (∀ (s : State) (c : Fin 16), s.supply.held = false →
    ((s.dmaCh c.val).out = [] → exec (.dmaWriteAck c) s = .next s) ∧
    (∀ (w : DmaWr) (ws : List DmaWr), (s.dmaCh c.val).out = w :: ws → w.bytes.length ≤ dmaCount_COUNT s c.val →
      let advances (t : State) : Prop := dmaCount_COUNT t c.val = dmaCount_COUNT s c.val - w.bytes.length ∧
        ((s.dmaCh c.val).desc = false → dmaSrc t c.val = (dmaSrc s c.val + w.bytes.length) % 2 ^ 64 ∧ dmaDst t c.val = (dmaDst s c.val + w.bytes.length) % 2 ^ 64) ∧
        ((s.dmaCh c.val).desc = true → dmaSrc t c.val = dmaSrc s c.val ∧ dmaDst t c.val = dmaDst s c.val) ∧
        (dmaCount_COUNT s c.val = w.bytes.length → (s.dmaCh c.val).fin = none → (t.dmaCh c.val).st = 3 ∧ (t.dmaCh c.val).flags.testBit 0 = true) ∧
        (w.bytes.length < dmaCount_COUNT s c.val → (t.dmaCh c.val).out = ws)
      (dmaCtl_DST_SPACE s c.val = 0 → w.dst + w.bytes.length ≤ 0x400000 ∨ 0x800000 ≤ w.dst →
        ∃ t, exec (.dmaWriteAck c) s = .next t ∧ advances t ∧ (∀ i < w.bytes.length, t.sramB (w.dst + i) = w.bytes.getD i 0) ∧
          (∀ a, a < w.dst ∨ w.dst + w.bytes.length ≤ a → t.sramB a = s.sramB a) ∧ t.dramMem = s.dramMem) ∧
      (dmaCtl_DST_SPACE s c.val = 1 →
        (dmaPortOpen s = true → s.dram.wq.length < 32 → ∃ t r, exec (.dmaWriteAck c) s = .next t ∧ advances t ∧ t.dram.wq = s.dram.wq ++ [r] ∧ r.write = true ∧
          r.addr = w.dst / 32 * 32 ∧ (∀ i < w.bytes.length, w.dst % 32 + i < 32 → r.mask.testBit (w.dst % 32 + i) = true ∧ r.bytes.getD (w.dst % 32 + i) 0 = w.bytes.getD i 0) ∧
          (∀ i < w.dst % 32, r.mask.testBit i = false) ∧ (∀ i, w.dst % 32 + w.bytes.length ≤ i → r.mask.testBit i = false) ∧ t.sram = s.sram ∧ t.dramMem = s.dramMem) ∧
        (dmaPortOpen s = false ∨ 32 ≤ s.dram.wq.length → exec (.dmaWriteAck c) s = .next s)) ∧
      (2 ≤ dmaCtl_DST_SPACE s c.val →
        ((s.dmaCh c.val).zlr = none → (s.dmaCh c.val).fin = none → ws = [] → dmaCount_COUNT s c.val = w.bytes.length →
          exec (.dmaWriteAck c) s = .next (s.setDma c.val { s.dmaCh c.val with zlr := some s.clk })) ∧
        ((s.dmaCh c.val).zlr.isSome ∨ (s.dmaCh c.val).fin.isSome ∨ ws ≠ [] ∨ w.bytes.length < dmaCount_COUNT s c.val →
          ∃ t, exec (.dmaWriteAck c) s = .next t ∧ advances t ∧ t.sram = s.sram ∧ t.dramMem = s.dramMem)))) ∧
  (∀ (s : State) (c : Fin 16) (n : Nat), s.supply.held = false →
    (∀ (r : DmaRd), (s.dmaCh c.val).st = 1 → (s.dmaCh c.val).rd = some r → dmaCtl_SRC_SPACE s c.val = 2 →
      max 1 (dmaTmo_US s) * 1000 ≤ n → r.at_ + n ≤ s.clk → (s.dmaCh c.val).out = [] → (s.dmaCh c.val).fin = none →
      ∃ t, exec (.dmaHostTimeout c n) s = .next t ∧ (t.dmaCh c.val).st = 5 ∧ (t.dmaCh c.val).err = 3 ∧ (t.dmaCh c.val).flags.testBit 3 = true) ∧
    ((s.dmaCh c.val).st ≠ 1 ∨ n < max 1 (dmaTmo_US s) * 1000 ∨ ((s.dmaCh c.val).rd = none ∧ (s.dmaCh c.val).zlr = none) → exec (.dmaHostTimeout c n) s = .next s)) ∧
  (∀ (s : State) (d : Fin 33), s.supply.held = false →
    (s.dma.reqs.find? (fun r => decide (r.dom = d.val)) = none ∨ dmaHolds s d.val = false → exec (.dmaPauseSlow d) s = .next s ∧ exec (.pwrDeniedBusy d) s = .next s) ∧
    (∀ (r : DmaPwr), s.dma.reqs.find? (fun r => decide (r.dom = d.val)) = some r → dmaHolds s d.val = true →
      (r.slow = false → r.at_ + 16000 ≤ s.clk → ∃ t, exec (.dmaPauseSlow d) s = .next t ∧
        ∀ c, c < 16 → (s.dmaCh c).st = 1 → dmaUses s c d.val = true → (t.dmaCh c).flags.testBit 7 = true ∧ (t.dmaCh c).st = 1) ∧
      (r.slow = true ∨ s.clk < r.at_ + 16000 → exec (.dmaPauseSlow d) s = .next s) ∧
      (s.clk < r.at_ + 100000 → exec (.pwrDeniedBusy d) s = .next s) ∧
      (r.at_ + 100000 ≤ s.clk →
        ((s.dom d.val).waiting.isSome ∨ s.pwr.move = none → exec (.pwrDeniedBusy d) s = .next (pwrDenied d.val s)) ∧
        ((s.dom d.val).waiting = none → s.pwr.move.isSome → exec (.pwrDeniedBusy d) s = .next (moveDeny s)) ∧
        ∃ t, exec (.pwrDeniedBusy d) s = .next t ∧ bit (t.page pPWR).stat 2 = true)))

/-- R333, R337 to R339, R347, R350 to R354: what software asks of a lane. -/
def Obligations.LaneControl : Prop :=  (∀ (s : State) (src : Src) (n : Fin 12) (v : Word), s.reaches ((0x20 + n.val) * 0x1000 + 0x100) →
    (fld v 9 8 = 3 → ∃ t, exec (.lnCfgWrite src n v) s = .next t ∧ (t.lane n.val).rej = 1 ∧ (t.lane n.val).st = (s.lane n.val).st ∧ t.regs = s.regs ∧
      bit (t.page (pLANE n.val)).stat 7 = true) ∧
    (fld v 9 8 ≠ 3 → 10 ≤ n.val → fld v 17 16 ≠ 0 → ∃ t, exec (.lnCfgWrite src n v) s = .next t ∧ (t.lane n.val).rej = 2 ∧ t.regs = s.regs ∧
      bit (t.page (pLANE n.val)).stat 7 = true) ∧
    (fld v 9 8 ≠ 3 → bit v 0 = false → n.val < 10 → ∃ t, exec (.lnCfgWrite src n v) s = .next t ∧ (t.lane n.val).st = 0 ∧ (t.lane n.val).asking = false ∧
      lnCfg_EN t n.val = 0 ∧ bgtHas 5 n.val t = false ∧ bgtAsking 5 n.val t = false) ∧
    (fld v 9 8 ≠ 3 → 10 ≤ n.val → fld v 17 16 = 0 → ∃ t, exec (.lnCfgWrite src n v) s = .next t ∧ t.rw (lnCfgAt n.val) = v &&& 0xF0333B01#32 ∧
      (t.lane n.val).rej = (s.lane n.val).rej ∧ (n.val = 10 → bit v 0 = false → t.pcie.up = false) ∧ (bit v 0 = true → t.lane n.val = s.lane n.val ∧ t.pcie = s.pcie)) ∧
    (fld v 9 8 ≠ 3 → bit v 0 = true → fld v 17 16 = 0 → n.val < 10 → lnCfg_EN s n.val = 0 → (s.dom (19 + n.val)).st ≠ 4 →
      (n.val < 2 → lnPrbs_GEN_EN s n.val = 0 ∧ lnPrbs_CHK_EN s n.val = 0) → (s.lane n.val).st = 0 →
      ∃ t, exec (.lnCfgWrite src n v) s = .next t ∧ (t.lane n.val).rate = fld v 9 8 ∧ (t.lane n.val).swing = min 10 (fld v 31 28) ∧
        (t.lane n.val).polTx = bit v 11 ∧ (t.lane n.val).polRx = bit v 12 ∧
        ((bit v 13 = false ∨ (s.lane n.val).upTaps = none ∨ 8 ≤ n.val) → ((t.lane n.val).pre, (t.lane n.val).post) = presetTaps s n.val (fld v 21 20)) ∧
        (∀ tp, bit v 13 = true → (s.lane n.val).upTaps = some tp → n.val < 8 → ((t.lane n.val).pre, (t.lane n.val).post) = tp) ∧
        (n.val < 8 → (t.lane n.val).st = 1 ∧ (t.lane n.val).asking = true ∧
          (⟨5, n.val, lnLeave_MW s n.val, some (lnLeave_MS s n.val), s.st, none, false⟩ : BgtReq) ∈ t.bgt.queue) ∧
        (8 ≤ n.val → (t.lane n.val).st = 2 ∧ bgtAsking 5 n.val t = false)) ∧
    (fld v 9 8 ≠ 3 → bit v 0 = true → n.val < 10 → (lnCfg_EN s n.val = 1 ∨ (s.dom (19 + n.val)).st = 4) →
      (fld v 17 16 = 0 → (n.val < 2 → lnPrbs_GEN_EN s n.val = 0 ∧ lnPrbs_CHK_EN s n.val = 0) → (s.lane n.val).st ≠ 6 →
        (8 ≤ n.val → (s.lane n.val).st ≠ 5 → (s.eth (n.val - 8)).link = false) →
        exec (.lnCfgWrite src n v) s = .next (s.setRw (lnCfgAt n.val) (v &&& 0xF0333B01#32))) ∧
      ((s.lane n.val).st = 0 → ∃ t, exec (.lnCfgWrite src n v) s = .next t ∧ t.lane n.val = s.lane n.val ∧ t.rw (lnCfgAt n.val) = v &&& 0xF0333B01#32) ∧
      (fld v 17 16 ≠ 0 → (s.lane n.val).st ≠ 0 → ∃ t, exec (.lnCfgWrite src n v) s = .next t ∧ (t.lane n.val).st = 6 ∧ lnCfg_LOOP t n.val = fld v 17 16) ∧
      (fld v 17 16 = 0 → (n.val < 2 → lnPrbs_GEN_EN s n.val = 0 ∧ lnPrbs_CHK_EN s n.val = 0) → (s.lane n.val).st = 6 →
        ∃ t, exec (.lnCfgWrite src n v) s = .next t ∧ (t.lane n.val).st = 3 ∧ (t.lane n.val).blk = false ∧ (t.lane n.val).relock = some s.clk ∧ (t.lane n.val).visor = none))) ∧
  (∀ (s : State) (src : Src) (n : Fin 12), s.reaches ((0x20 + n.val) * 0x1000 + 0x104) → n.val < 10 →
    (lnCfg_EN s n.val = 1 → (s.lane n.val).st ≠ 0 → (s.lane n.val).st ≠ 6 →
      ∃ t, exec (.lnCtlRetrain src n) s = .next t ∧ (t.lane n.val).retrain = true ∧
        (n.val < 8 → (t.lane n.val).st = 1 ∧ (t.lane n.val).asking = true ∧
          (⟨5, n.val, lnLeave_MW s n.val, some (lnLeave_MS s n.val), s.st, none, false⟩ : BgtReq) ∈ t.bgt.queue) ∧
        (8 ≤ n.val → (t.lane n.val).st = 2 ∧ bgtAsking 5 n.val t = false)) ∧
    ((s.lane n.val).st = 0 ∨ (s.lane n.val).st = 6 → ∃ t, exec (.lnCtlRetrain src n) s = .next t ∧ t.lane n.val = s.lane n.val ∧ t.bgt = s.bgt)) ∧
  (∀ (s : State) (n : Fin 12), s.supply.held = false →
    (∀ a, (s.lane n.val).retryAt = some a → a ≤ s.clk → (s.lane n.val).st = 1 →
      ∃ t, exec (.laneLeaveRetry n) s = .next t ∧ (t.lane n.val).asking = true ∧ (t.lane n.val).retryAt = none ∧
        (⟨5, n.val, lnLeave_MW s n.val, some (lnLeave_MS s n.val), s.st, none, false⟩ : BgtReq) ∈ t.bgt.queue) ∧
    (n.val < 8 → (s.lane n.val).st ≠ 1 ∨ (s.lane n.val).retryAt = none ∨ (∃ a, (s.lane n.val).retryAt = some a ∧ s.clk < a) →
      exec (.laneLeaveRetry n) s = .next s)) ∧
  (∀ (s : State) (src : Src) (n : Fin 12), s.reaches ((0x20 + n.val) * 0x1000 + 0x104) → n.val < 10 →
    (n.val < 8 → (s.lane n.val).st = 5 → (s.lane n.val).txSleep = false → ∃ t, exec (.lnCtlTxSleep src n true) s = .next t ∧ (t.lane n.val).txSleep = true ∧
      (t.lane n.val).st = 5 ∧ (t.lane n.val).pll = !(s.lane n.val).rxSleep ∧ lnCtl_TX_SLEEP t n.val = 1 ∧ bit (t.page (pLANE n.val)).stat 6 = true ∧
      WireOut.sleep n.val ∈ t.ring.wire) ∧
    (8 ≤ n.val ∨ (s.lane n.val).st ≠ 5 ∨ (s.lane n.val).txSleep = true → ∃ t, exec (.lnCtlTxSleep src n true) s = .next t ∧ t.lane n.val = s.lane n.val ∧
      lnCtl_TX_SLEEP t n.val = 1) ∧
    ((s.lane n.val).pmSleep = false ∨ (s.lane n.val).st ≠ 5 ∨ (s.lane n.val).txSleep = true → ∃ t, exec (.lnCtlTxSleep src n false) s = .next t ∧
      lnCtl_TX_SLEEP t n.val = 0 ∧ t.lane n.val = s.lane n.val)) ∧
  (∀ (s : State) (n : Fin 12), s.supply.held = false → n.val < 8 →
    ((s.lane n.val).txSleep = true → sleepWanted s n.val = false →
      ∃ t, exec (.laneTxWake n) s = .next t ∧ (t.lane n.val).txSleep = false ∧ (t.lane n.val).pll = true ∧
        256 * blockPs (s.lane n.val).rate ≤ ((t.lane n.val).txFrom - s.clk) * 1000 ∧ bit (t.page (pLANE n.val)).stat 6 = true) ∧
    ((s.lane n.val).txSleep = false ∨ sleepWanted s n.val = true → exec (.laneTxWake n) s = .next s))

/-- R334 to R337, R340 to R343, R350 to R352: a lane's bring-up and loss. -/
def Obligations.LaneTraining : Prop :=  (∀ (prev : BitVec 58) (pay : BitVec 64), descramble prev (scramble prev pay) = pay) ∧
  (∀ (s : State) (n : Fin 12), s.supply.held = false → (8 ≤ n.val → (s.lane n.val).st ≠ 5 → (s.eth (n.val - 8)).link = false) →
    ((s.lane n.val).st = 2 → exec (.lanePllLock n) s = .next (s.setLane n.val { s.lane n.val with st := 3, pll := true })) ∧
    ((s.lane n.val).st ≠ 2 → exec (.lanePllLock n) s = .next s) ∧
    (n.val < 8 → (s.lane n.val).st = 3 → (s.lane n.val).relock = none → ∃ t, exec (.laneBlockLock n) s = .next t ∧ (t.lane n.val).st = 4 ∧ (t.lane n.val).blk = true ∧
      (t.lane n.val).lockAt = s.clk ∧ (t.lane n.val).rxReady = false ∧ WireOut.train n.val (trainBody (t.lane n.val)) ∈ t.ring.wire) ∧
    (n.val = 8 ∨ n.val = 9 → (s.lane n.val).st = 3 → ∃ t, exec (.laneBlockLock n) s = .next t ∧ (t.lane n.val).st = 5 ∧ bit (t.page (pLANE n.val)).stat 0 = true) ∧
    (n.val < 8 → (s.lane n.val).st = 3 → (s.lane n.val).relock.isSome → ∃ t, exec (.laneBlockLock n) s = .next t ∧ (t.lane n.val).st = 5 ∧
      (t.lane n.val).pre = (s.lane n.val).pre ∧ (t.lane n.val).post = (s.lane n.val).post ∧ bit (t.page (pLANE n.val)).stat 0 = true) ∧
    ((s.lane n.val).st = 5 → ∃ t, exec (.laneBlockLock n) s = .next t ∧ t.lane n.val = { s.lane n.val with blk := true, cdr := true, wakeAt := none }) ∧
    ((s.lane n.val).st = 6 → exec (.laneBlockLock n) s = .next (s.setLane n.val { s.lane n.val with blk := true, cdr := true })) ∧
    ((s.lane n.val).st ≠ 3 → (s.lane n.val).st ≠ 5 → (s.lane n.val).st ≠ 6 → exec (.laneBlockLock n) s = .next s) ∧
    (n.val < 8 → (s.lane n.val).st = 4 → (s.lane n.val).lockAt + max 1 (lnTrain_TRAIN_TMO s n.val) * 1000000 ≤ s.clk →
      ∃ t, exec (.lnTrainTimeout n) s = .next t ∧ (t.lane n.val).st = 5 ∧ (t.lane n.val).trainTmo = true ∧ (t.lane n.val).pre = (s.lane n.val).pre ∧
        (t.lane n.val).post = (s.lane n.val).post ∧ bit (t.page (pLANE n.val)).stat 2 = true) ∧
    ((s.lane n.val).st ≠ 4 ∨ s.clk < (s.lane n.val).lockAt + max 1 (lnTrain_TRAIN_TMO s n.val) * 1000000 → exec (.lnTrainTimeout n) s = .next s) ∧
    (n.val < 8 → (s.lane n.val).st = 4 → (s.lane n.val).rxReady = false →
      exec (.rxConverged n) s = .next (wireOut (.train n.val (trainBody { s.lane n.val with rxReady := true, cvAt := s.clk, gotReady := 0 }))
        (s.setLane n.val { s.lane n.val with rxReady := true, cvAt := s.clk, gotReady := 0 }))) ∧
    ((s.lane n.val).st ≠ 4 ∨ (s.lane n.val).rxReady = true → exec (.rxConverged n) s = .next s) ∧
    (∀ bad,
      ((s.lane n.val).blk = true → (s.lane n.val).rxSleep = false → ∃ t, exec (.laneLockLoss n bad) s = .next t ∧ (t.lane n.val).blk = false ∧
        (t.lane n.val).badHdr = satU 16 ((s.lane n.val).badHdr + bad) ∧ (t.lane n.val).pre = (s.lane n.val).pre ∧ (t.lane n.val).post = (s.lane n.val).post ∧
        ((s.lane n.val).st = 5 → (t.lane n.val).st = 3 ∧ (t.lane n.val).lockLoss = satInc 16 (s.lane n.val).lockLoss ∧ (t.lane n.val).relock = some s.clk ∧
          bit (t.page (pLANE n.val)).stat 1 = true) ∧
        ((s.lane n.val).st = 4 → (t.lane n.val).st = 3 ∧ t.page (pLANE n.val) = s.page (pLANE n.val)) ∧
        ((s.lane n.val).st < 4 ∨ (s.lane n.val).st = 6 → (t.lane n.val).st = (s.lane n.val).st ∧ t.page (pLANE n.val) = s.page (pLANE n.val))) ∧
      ((s.lane n.val).blk = false ∨ (s.lane n.val).rxSleep = true → exec (.laneLockLoss n bad) s = .next s)) ∧
    (∀ a, n.val < 10 → (s.lane n.val).st = 3 → (s.lane n.val).relock = some a → a + max 1 (lnTrain_RELOCK_MS s n.val) * 1000000 ≤ s.clk →
      ∃ t, exec (.laneRelockExpiry n) s = .next t ∧ (8 ≤ n.val → (t.lane n.val).st = 2) ∧ (n.val < 8 → (t.lane n.val).st = 1 ∧ (t.lane n.val).asking = true ∧
        (⟨5, n.val, lnLeave_MW s n.val, some (lnLeave_MS s n.val), s.st, none, false⟩ : BgtReq) ∈ t.bgt.queue)) ∧
    (∀ a, (s.lane n.val).st = 5 → (s.lane n.val).relock = none → (s.lane n.val).wakeAt = some a → a + max 1 (lnTrain_RELOCK_MS s n.val) * 1000000 ≤ s.clk →
      ∃ t, exec (.laneRelockExpiry n) s = .next t ∧ (t.lane n.val).st = 3 ∧ (t.lane n.val).relock = some s.clk ∧
        (t.lane n.val).lockLoss = satInc 16 (s.lane n.val).lockLoss ∧ bit (t.page (pLANE n.val)).stat 1 = true) ∧
    ((∀ a, (s.lane n.val).relock = some a → (s.lane n.val).st ≠ 3 ∨ s.clk < a + max 1 (lnTrain_RELOCK_MS s n.val) * 1000000) →
      (∀ a, (s.lane n.val).relock = none → (s.lane n.val).wakeAt = some a → (s.lane n.val).st ≠ 5 ∨ s.clk < a + max 1 (lnTrain_RELOCK_MS s n.val) * 1000000) →
      exec (.laneRelockExpiry n) s = .next s)) ∧
  (∀ (s : State) (n : Fin 12) (b : LineBlk) (ask : Fin 32) (preset : Fin 4) (hdr : BitVec 2) (g : Nat → Nat), s.supply.held = false → 0 < s.clk → n.val < 8 →
    (s.lane n.val).blk = true → (s.lane n.val).rxSleep = false → hdr = (unpol (s.lane n.val).polRx b).hdr →
    (∀ i, g i = (payBytes (descramble (unpol (s.lane n.val).polRx b).prev (unpol (s.lane n.val).polRx b).bits)).getD i 0) →
    (hdr = 0#2 ∨ hdr = 3#2 ∨ (hdr = 2#2 ∧ 3 ≤ g 0 ∧ g 0 < 16) → exec (.trainBlockRx n b ask preset) s = .next (badHdrRx n.val s)) ∧
    (hdr = 1#2 → laneRxOk s n.val = false → exec (.trainBlockRx n b ask preset) s = .next (laneRxData n.val s)) ∧
    (hdr = 1#2 → laneRxOk s n.val = true → g 0 = 0x0B →
      exec (.trainBlockRx n b ask preset) s = .next (withLane n.val (keepAliveRx n.val (g 2 + 2 ^ 8 * g 3) ((g 4).testBit 0) ((g 4).testBit 1)) s)) ∧
    (hdr = 1#2 → laneRxOk s n.val = true → g 0 ≠ 0x0B → exec (.trainBlockRx n b ask preset) s = .next (badCtlRx n.val (laneRxData n.val s))) ∧
    (hdr = 2#2 → g 0 = 0x12 → exec (.trainBlockRx n b ask preset) s = .next (withLane n.val (ackRx n.val (g 1 + 2 ^ 8 * g 2) ((g 3).testBit 0)) s)) ∧
    (hdr = 2#2 → g 0 = 0x13 → exec (.trainBlockRx n b ask preset) s = .next (withLane n.val (resetRx n.val) s)) ∧
    (hdr = 2#2 → 0x14 ≤ g 0 → laneRxOk s n.val = true → exec (.trainBlockRx n b ask preset) s = .next (badCtlRx n.val s)) ∧
    (hdr = 2#2 → g 0 = 0 ∨ g 0 = 0x10 ∨ g 0 = 0x11 ∨ (0x14 ≤ g 0 ∧ laneRxOk s n.val = false) → exec (.trainBlockRx n b ask preset) s = .next s) ∧
    (hdr = 2#2 → g 0 = 2 → exec (.trainBlockRx n b ask preset) s = exec (.sleepBlockRx n) s) ∧
    (hdr = 2#2 → g 0 = 1 → (s.lane n.val).st ≠ 4 → (s.lane n.val).st ≠ 5 → exec (.trainBlockRx n b ask preset) s = .next s) ∧
    (hdr = 2#2 → g 0 = 1 → (s.lane n.val).st = 5 ∨ ((s.lane n.val).st = 4 ∧ (s.lane n.val).rxReady = false) → ∃ t, exec (.trainBlockRx n b ask preset) s = .next t ∧
      (t.lane n.val).st = (s.lane n.val).st ∧ (t.lane n.val).ack = g 3 ∧
      (g 3 = (s.lane n.val).ack → (t.lane n.val).pre = (s.lane n.val).pre ∧ (t.lane n.val).post = (s.lane n.val).post) ∧
      (g 3 ≠ (s.lane n.val).ack → (g 1).testBit 4 = true → ((t.lane n.val).pre, (t.lane n.val).post) = presetTaps s n.val (g 5 % 4)) ∧
      (g 3 ≠ (s.lane n.val).ack → (g 1).testBit 4 = false → (s.lane n.val).pre ≤ 8 → (s.lane n.val).post ≤ 16 →
        (t.lane n.val).pre = (if g 1 % 4 = 1 then min 8 ((s.lane n.val).pre + 1) else if g 1 % 4 = 2 then (s.lane n.val).pre - 1 else (s.lane n.val).pre) ∧
        (t.lane n.val).post = (if g 1 / 4 % 4 = 1 then min 16 ((s.lane n.val).post + 1) else if g 1 / 4 % 4 = 2 then (s.lane n.val).post - 1 else (s.lane n.val).post) ∧
        (g 1 % 4 = 1 ∧ (s.lane n.val).pre = 8 ∨ g 1 % 4 = 2 ∧ (s.lane n.val).pre = 0 → (t.lane n.val).stsPre = 2)) ∧
      ((s.lane n.val).ackAt = none → g 4 = (s.lane n.val).seq → (t.lane n.val).ackAt = some s.clk ∧ (t.lane n.val).req = 0 ∧ (t.lane n.val).seq = (s.lane n.val).seq) ∧
      ((s.lane n.val).ackAt = none → g 4 ≠ (s.lane n.val).seq → (t.lane n.val).seq = (s.lane n.val).seq ∧ (t.lane n.val).req = (s.lane n.val).req) ∧
      (∀ a, (s.lane n.val).st = 4 → (s.lane n.val).ackAt = some a → a + 50000 ≤ s.clk → ask.val ≠ 0 → (t.lane n.val).seq = ((s.lane n.val).seq + 1) % 256 ∧
        (t.lane n.val).req = ask.val ∧ (t.lane n.val).reqPreset = preset.val ∧ (t.lane n.val).ackAt = none)) ∧
    (hdr = 2#2 → g 0 = 1 → (s.lane n.val).st = 4 → (s.lane n.val).rxReady = true → (g 1).testBit 5 = true → 7 ≤ (s.lane n.val).gotReady →
      128 * blockPs (s.lane n.val).rate ≤ (s.clk - (s.lane n.val).cvAt) * 1000 → ∃ t, exec (.trainBlockRx n b ask preset) s = .next t ∧ (t.lane n.val).st = 5 ∧
        bgtHas 5 n.val t = false ∧ bit (t.page (pLANE n.val)).stat 0 = true) ∧
    (hdr = 2#2 → g 0 = 1 → (s.lane n.val).st = 4 → (s.lane n.val).rxReady = true → (g 1).testBit 5 = false ∨ (s.lane n.val).gotReady < 7 ∨
      (s.clk - (s.lane n.val).cvAt) * 1000 < 128 * blockPs (s.lane n.val).rate →
      ∃ t, exec (.trainBlockRx n b ask preset) s = .next t ∧ (t.lane n.val).st = 4 ∧ (t.lane n.val).gotReady = if (g 1).testBit 5 then (s.lane n.val).gotReady + 1 else 0)) ∧
  (∀ (s : State) (n : Fin 12) (b : LineBlk) (ask : Fin 32) (preset : Fin 4), s.supply.held = false → n.val < 8 →
    (s.lane n.val).blk = false ∨ (s.lane n.val).rxSleep = true → exec (.trainBlockRx n b ask preset) s = .next s)

/-- R344, R346, R348 to R351, R353, R354, R359: a lane's service. -/
def Obligations.LaneService : Prop :=  (∀ (s : State) (n : Fin 12), s.supply.held = false →
    (n.val < 8 → (s.lane n.val).st = 5 → (s.lane n.val).txSleep = false → (s.lane n.val).txFrom ≤ s.clk →
      32 * blockPs (s.lane n.val).rate ≤ (s.clk - (s.lane n.val).lastTx) * 1000 →
      ∃ t, exec (.keepaliveTx n) s = .next t ∧ (t.lane n.val).lastTx = s.clk ∧ (t.ulk n.val).kaCnt = ((s.ulk n.val).kaCnt + 1) % 2 ^ 16 ∧
        t.ring.wire = .keepAlive n.val (((s.ulk n.val).rxSeq + 2 ^ 16 - 1) % 2 ^ 16) (s.ulk n.val).busySent (s.ulk n.val).ackValid (((s.ulk n.val).kaCnt + 1) % 2 ^ 16) :: s.ring.wire) ∧
    (8 ≤ n.val ∨ (s.lane n.val).st ≠ 5 ∨ (s.lane n.val).txSleep = true ∨ s.clk < (s.lane n.val).txFrom ∨
      (s.clk - (s.lane n.val).lastTx) * 1000 < 32 * blockPs (s.lane n.val).rate → exec (.keepaliveTx n) s = .next s) ∧
    (n.val < 8 → (s.lane n.val).st = 5 → (s.lane n.val).frozen = false → 1024 * blockPs (s.lane n.val).rate ≤ (s.clk - (s.lane n.val).lastRx) * 1000 →
      exec (.laneAdaptFreeze n) s = .next (s.setLane n.val { s.lane n.val with frozen := true })) ∧
    (n.val < 8 → (s.lane n.val).st ≠ 5 ∨ (s.lane n.val).frozen = true ∨ (s.clk - (s.lane n.val).lastRx) * 1000 < 1024 * blockPs (s.lane n.val).rate →
      exec (.laneAdaptFreeze n) s = .next s) ∧
    (n.val < 8 → (s.lane n.val).st = 5 → (s.lane n.val).rxSleep = false → ∃ t, exec (.sleepBlockRx n) s = .next t ∧ (t.lane n.val).rxSleep = true ∧
      (t.lane n.val).frozen = true ∧ (t.lane n.val).st = 5 ∧ (t.lane n.val).blk = (s.lane n.val).blk ∧ (t.lane n.val).pll = !(s.lane n.val).txSleep ∧
      (t.lane n.val).visor = none ∧ ((s.lane n.val).visor.isSome → (t.lane n.val).visorAbort = true) ∧ (t.lane n.val).pre = (s.lane n.val).pre ∧
      (t.lane n.val).post = (s.lane n.val).post ∧ bit (t.page (pLANE n.val)).stat 6 = true) ∧
    (n.val < 8 → (s.lane n.val).st ≠ 5 ∨ (s.lane n.val).rxSleep = true → exec (.sleepBlockRx n) s = .next s) ∧
    (n.val < 8 → (s.lane n.val).st = 5 → (s.lane n.val).rxSleep = true → ∃ t, exec (.rxSignalDetect n) s = .next t ∧ (t.lane n.val).rxSleep = false ∧
      (t.lane n.val).frozen = false ∧ (t.lane n.val).st = 5 ∧ (t.lane n.val).wakeAt = some s.clk ∧ (t.lane n.val).pll = true ∧ bit (t.page (pLANE n.val)).stat 6 = true) ∧
    (n.val < 8 → (s.lane n.val).rxSleep = false → exec (.rxSignalDetect n) s = .next s)) ∧
  (∀ (s : State) (src : Src) (n : Fin 12) (v : Word), s.reaches ((0x20 + n.val) * 0x1000 + 0x140) →
    ((s.lane n.val).visor = none → laneState s n.val = 5 ∨ laneState s n.val = 6 → (s.lane n.val).rxSleep = false →
      ∃ t, exec (.lnVisorGo src n v) s = .next t ∧ (t.lane n.val).visor = some (s.clk, max 16 (min 44 (fld v 29 24))) ∧ (t.lane n.val).visorErr = 0 ∧
        (t.lane n.val).visorAbort = false ∧ (t.lane n.val).st = (s.lane n.val).st ∧ (t.lane n.val).frozen = (s.lane n.val).frozen) ∧
    ((s.lane n.val).visor = none → laneState s n.val < 5 ∨ (s.lane n.val).rxSleep = true → ∃ t, exec (.lnVisorGo src n v) s = .next t ∧
      (t.lane n.val).visor = none ∧ (t.lane n.val).rej = 5 ∧ bit (t.page (pLANE n.val)).stat 7 = true) ∧
    ((s.lane n.val).visor.isSome → ∃ t, exec (.lnVisorGo src n v) s = .next t ∧ t.lane n.val = s.lane n.val ∧ t.rw (lnVisorAt n.val) = v &&& 0x3FFF007F#32)) ∧
  (∀ (s : State) (n : Fin 12) (e : Nat), s.supply.held = false →
    (∀ a l, (s.lane n.val).visor = some (a, l) → 2 ^ l * 4000 ≤ (s.clk - a) * lineRate n.val (s.lane n.val).rate →
      ∃ t, exec (.lnVisorDone n e) s = .next t ∧ (t.lane n.val).visor = none ∧ (t.lane n.val).visorErr = min e (2 ^ l) ∧ (t.lane n.val).st = (s.lane n.val).st ∧
        (t.lane n.val).visorAbort = (s.lane n.val).visorAbort ∧ bit (t.page (pLANE n.val)).stat 4 = true) ∧
    ((8 ≤ n.val → (s.lane n.val).st ≠ 5 → (s.eth (n.val - 8)).link = false) →
      (∀ a l, (s.lane n.val).visor = some (a, l) → (s.clk - a) * lineRate n.val (s.lane n.val).rate < 2 ^ l * 4000) → exec (.lnVisorDone n e) s = .next s)) ∧
  (∀ (s : State) (n : Fin 12) (bits : BitVec 95) (e : Nat), s.supply.held = false → n.val < 8 →
    (n.val < 2 → lnPrbs_CHK_EN s n.val = 1 → (s.lane n.val).st = 6 → prbsFits (lnPrbs_PATTERN s n.val) (if (s.lane n.val).polRx then ~~~bits else bits) = true →
      exec (.prbsCheckerLock ⟨n, bits⟩) s = .next (s.setLane n.val { s.lane n.val with prbsLock := true })) ∧
    (2 ≤ n.val ∨ lnPrbs_CHK_EN s n.val = 0 ∨ (s.lane n.val).st ≠ 6 ∨ prbsFits (lnPrbs_PATTERN s n.val) (if (s.lane n.val).polRx then ~~~bits else bits) = false →
      exec (.prbsCheckerLock ⟨n, bits⟩) s = .next s) ∧
    ((s.lane n.val).prbsLock = true → ∃ t, exec (.prbsCheckerLoss n e) s = .next t ∧ (t.lane n.val).prbsLock = false ∧
      (t.lane n.val).prbsErr = satU 32 ((s.lane n.val).prbsErr + e) ∧ (t.lane n.val).st = (s.lane n.val).st ∧ bit (t.page (pLANE n.val)).stat 5 = true) ∧
    ((s.lane n.val).prbsLock = false → exec (.prbsCheckerLoss n e) s = .next s)) ∧
  (∀ (s : State) (src : Src) (n : Fin 12), s.reaches ((0x20 + n.val) * 0x1000 + 0x160) →
    (2 ≤ n.val → (∃ t, exec (.lnPrbsInjOne src n) s = .next t ∧ t.lane n.val = s.lane n.val ∧ t.regs = s.regs ∧ t.ring = s.ring) ∧
      (∃ t, exec (.lnPrbsInjBurst src n) s = .next t ∧ t.lane n.val = s.lane n.val ∧ t.regs = s.regs ∧ t.ring = s.ring)) ∧
    (n.val < 2 → lnPrbs_PATTERN s n.val ≠ 3 → bit (s.rw (lnPrbsAt n.val)) 8 = false → bit (s.rw (lnPrbsAt n.val)) 9 = false →
      ((s.lane n.val).st = 5 ∧ testWanted s n.val = false) ∨ ((s.lane n.val).st = 6 ∧ testWanted s n.val = true) →
      ((s.lane n.val).injEnd ≤ s.clk →
        (∃ t, exec (.lnPrbsInjOne src n) s = .next t ∧ (t.lane n.val).inj = (s.lane n.val).inj + 1 ∧ s.clk < (t.lane n.val).injEnd ∧
          t.ring.wire = .invert n.val 1 :: s.ring.wire ∧ (t.lane n.val).st = (s.lane n.val).st) ∧
        (∃ t, exec (.lnPrbsInjBurst src n) s = .next t ∧ (t.lane n.val).inj = (s.lane n.val).inj + max 1 (min 64 (lnPrbs_BURST_LEN s n.val)) ∧
          t.ring.wire = .invert n.val (max 1 (min 64 (lnPrbs_BURST_LEN s n.val))) :: s.ring.wire ∧ (t.lane n.val).st = (s.lane n.val).st)) ∧
      (s.clk < (s.lane n.val).injEnd →
        (∃ t, exec (.lnPrbsInjOne src n) s = .next t ∧ (t.lane n.val).inj = (s.lane n.val).inj ∧ (t.lane n.val).injEnd = (s.lane n.val).injEnd ∧ t.ring = s.ring) ∧
        (∃ t, exec (.lnPrbsInjBurst src n) s = .next t ∧ (t.lane n.val).inj = (s.lane n.val).inj ∧ (t.lane n.val).injEnd = (s.lane n.val).injEnd ∧ t.ring = s.ring))) ∧
    (n.val < 2 → lnPrbs_PATTERN s n.val ≠ 3 → (s.lane n.val).st < 5 → testWanted s n.val = false →
      (∃ t, exec (.lnPrbsInjOne src n) s = .next t ∧ (t.lane n.val).inj = (s.lane n.val).inj ∧ t.ring = s.ring) ∧
      (∃ t, exec (.lnPrbsInjBurst src n) s = .next t ∧ (t.lane n.val).inj = (s.lane n.val).inj ∧ t.ring = s.ring)))

/-- R388 to R394, R396 to R398: the Ethernet ports. -/
def Obligations.EthernetPorts : Prop :=  (∀ (s : State) (n : Fin 2) (u dn fl : Bool) (sp : Fin 4) (mid : Nat), s.supply.held = false →
    ∃ t l, exec (.ethLinkChange n u sp dn fl mid) s = .next t ∧
      l = (u && decide ((s.lane (8 + n.val)).st = 5) && decide (ethCfg_EN s n.val = 1) && !(fl && (ethNegotiates s n.val || sgmii s n.val)) &&
        (!ethNegotiates s n.val || dn)) ∧
      (t.eth n.val).link = l ∧ (t.eth n.val).anDone = (ethNegotiates s n.val && dn) ∧ (t.eth n.val).anFail = (fl && (ethNegotiates s n.val || sgmii s n.val)) ∧
      (t.eth n.val).speed = (if sgmii s n.val then min 2 sp.val else if (s.lane (8 + n.val)).rate = 1 then 3 else 2) ∧
      ((s.eth n.val).link ≠ l → bit (t.page (pETH n.val)).stat 0 = true) ∧ ((s.eth n.val).link = l → t.page (pETH n.val) = s.page (pETH n.val)) ∧
      ((s.eth n.val).link = false ∨ l = true ∨ mid ≠ 1 ∨ ringReady s n.val = false → t.sram = s.sram ∧ (t.eth n.val).txHead = (s.eth n.val).txHead) ∧
      ((s.eth n.val).link = true → l = false → mid = 1 → ringReady s n.val = true → (t.eth n.val).txHead = ((s.eth n.val).txHead + 1) % txSize s n.val ∧
        bit (t.page (pETH n.val)).stat 3 = true)) ∧
  (∀ (s : State) (src : Src) (n : Fin 2) (v : Word),
    (s.reaches ((0x19 + n.val) * 0x1000 + 0x118) → ∃ t, exec (.ethTxTailWrite src n v) s = .next t ∧ ethTxTail_TAIL t n.val = fld v 7 0 ∧ t.sram = s.sram ∧
      (t.eth n.val).txHead = (s.eth n.val).txHead ∧
      (fld v 7 0 % txSize s n.val ≠ (s.eth n.val).txHead % txSize s n.val →
        (t.eth n.val).txGiven = (fld v 7 0 % txSize s n.val + txSize s n.val - (s.eth n.val).txHead % txSize s n.val) % txSize s n.val) ∧
      (fld v 7 0 % txSize s n.val = (s.eth n.val).txHead % txSize s n.val →
        (t.eth n.val).txGiven = if bit (s.sramW (txDesc s n.val + 4)) 31 then txSize s n.val else 0)) ∧
    (s.reaches ((0x19 + n.val) * 0x1000 + 0x128) → ∃ t, exec (.ethRxTailWrite src n v) s = .next t ∧ ethRxTail_TAIL t n.val = fld v 7 0 ∧ t.sram = s.sram ∧
      (t.eth n.val).rxHead = (s.eth n.val).rxHead ∧
      (fld v 7 0 % rxSize s n.val ≠ (s.eth n.val).rxHead % rxSize s n.val →
        (t.eth n.val).rxGiven = (fld v 7 0 % rxSize s n.val + rxSize s n.val - (s.eth n.val).rxHead % rxSize s n.val) % rxSize s n.val) ∧
      (fld v 7 0 % rxSize s n.val = (s.eth n.val).rxHead % rxSize s n.val →
        (t.eth n.val).rxGiven = if bit (s.sramW (rxDesc s n.val + 4)) 31 then rxSize s n.val else 0))) ∧
  (∀ (s : State) (n : Fin 2) (f : List Byte) (fcs : Word) (ts : Nat), s.supply.held = false →
    (ethCfg_EN s n.val = 0 ∨ (s.eth n.val).link = false → exec (.ethFrameRx n f fcs ts) s = .next s) ∧
    (ethCfg_EN s n.val = 1 → (s.eth n.val).link = true →
      (fcs ≠ ethFcs f → ∃ t, exec (.ethFrameRx n f fcs ts) s = .next t ∧ (t.eth n.val).rxFcs = satInc 8 (s.eth n.val).rxFcs ∧ t.sram = s.sram ∧
        (t.eth n.val).pauseEnd = (s.eth n.val).pauseEnd ∧ bit (t.page (pETH n.val)).stat 3 = true) ∧
      (fcs = ethFcs f → f.length + 4 < 64 ∨ ethLimit s n.val f < f.length + 4 →
        ∃ t, exec (.ethFrameRx n f fcs ts) s = .next t ∧ (t.eth n.val).rxSize = satInc 8 (s.eth n.val).rxSize ∧ t.sram = s.sram ∧ bit (t.page (pETH n.val)).stat 3 = true) ∧
      (fcs = ethFcs f → 64 ≤ f.length + 4 → f.length + 4 ≤ ethLimit s n.val f →
        (isPause f = true → ethCfg_PAUSE_EN s n.val = 1 → ∃ t, exec (.ethFrameRx n f fcs ts) s = .next t ∧
          (t.eth n.val).pauseEnd = s.clk + fb16 f 16 * 512 * 1000 / ethMbps (s.eth n.val).speed ∧ (ethCfg_PROMISC s n.val = 0 → ethMine s n.val f = false → t.sram = s.sram)) ∧
        (isPause f = false ∨ ethCfg_PAUSE_EN s n.val = 0 → ethCfg_PROMISC s n.val = 0 → ethMine s n.val f = false → exec (.ethFrameRx n f fcs ts) s = .next s) ∧
        (ethCfg_PROMISC s n.val = 1 ∨ ethMine s n.val f = true →
          ((s.eth n.val).rxGiven = 0 ∨ bit (s.sramW (rxDesc s n.val + 4)) 31 = false ∨ ethRxCfg_RX_BUF s n.val < f.length →
            ∃ t, exec (.ethFrameRx n f fcs ts) s = .next t ∧ (t.eth n.val).rxNobuf = satInc 16 (s.eth n.val).rxNobuf ∧ t.sram = s.sram ∧
              (t.eth n.val).rxHead = (s.eth n.val).rxHead ∧ bit (t.page (pETH n.val)).stat 3 = true) ∧
          (∀ b a, b = fld (s.sramW (rxDesc s n.val)) 23 0 → a = rxDesc s n.val → (s.eth n.val).rxGiven ≠ 0 → bit (s.sramW (a + 4)) 31 = true →
            f.length ≤ ethRxCfg_RX_BUF s n.val → b + f.length ≤ 0x400000 → a + 32 ≤ 0x400000 → (b + f.length ≤ a ∨ a + 32 ≤ b) → a % 4 = 0 →
            ∃ t, exec (.ethFrameRx n f fcs ts) s = .next t ∧ (∀ i < f.length, t.sramB (b + i) = f.getD i 0) ∧ bit (t.sramW (a + 4)) 31 = false ∧
              fld (t.sramW (a + 4)) 13 0 = f.length % 2 ^ 14 ∧ (t.eth n.val).rxHead = ((s.eth n.val).rxHead + 1) % rxSize s n.val ∧
              bit (t.sramW (a + 4)) 29 = (ptpEvent f).isSome ∧ bit (t.sramW (a + 4)) 30 = (decide (2 ≤ ethCfg_RX_TS s n.val) || (decide (ethCfg_RX_TS s n.val = 1) && (ptpEvent f).isSome)) ∧
              (2 ≤ ethCfg_RX_TS s n.val → t.sramW (a + 8) = word (tsSec (rxStamp s n.val ts)) ∧ t.sramW (a + 16) = word (tsNs (rxStamp s n.val ts)) ∧
                t.sramW (a + 20) = word (rxStamp s n.val ts % 65536)) ∧
              (∀ x, (x < b ∨ b + f.length ≤ x) → (x < a + 4 ∨ a + 32 ≤ x) → t.sramB x = s.sramB x) ∧ bit (t.page (pETH n.val)).stat 1 = true))))) ∧
  (∀ (s : State) (n : Fin 2) (ts : Nat), s.supply.held = false →
    (ethCfg_EN s n.val = 0 ∨ (s.eth n.val).link = false ∨ s.clk < (s.eth n.val).pauseEnd ∨ (ringReady s n.val = false ∧ strReady s n.val = none) →
      exec (.ethFrameTx n ts) s = .next s) ∧
    (ethCfg_EN s n.val = 1 → (s.eth n.val).link = true → (s.eth n.val).pauseEnd ≤ s.clk →
      (ringReady s n.val = true → strReady s n.val = none ∨ bit (s.sramW (txDesc s n.val + 4)) 16 = true ∨ (s.eth n.val).strLast = true →
        ∃ t, exec (.ethFrameTx n ts) s = .next t ∧ (t.eth n.val).txHead = ((s.eth n.val).txHead + 1) % txSize s n.val ∧ (t.eth n.val).txGiven = (s.eth n.val).txGiven - 1 ∧
          (∀ len f g, len = fld (s.sramW (txDesc s n.val + 4)) 13 0 → f = sramBytes s (fld (s.sramW (txDesc s n.val)) 23 0) len →
            g = (if bit (s.sramW (txDesc s n.val + 4)) 17 then oneStep f (txStamp s n.val ts) else f) →
            (60 ≤ len → len + 4 ≤ ethLimit s n.val f → (t.eth n.val).sent = (g ++ (List.range 4).map (byteOf (ethFcs g))) :: (s.eth n.val).sent ∧ (t.eth n.val).strLast = false ∧
              (bit (s.sramW (txDesc s n.val + 4)) 16 = true → (s.eth n.val).tsq.length < 16 → (t.eth n.val).tsq = (s.eth n.val).tsq ++ [⟨ptpId f, (s.eth n.val).tsOvf, txStamp s n.val ts⟩] ∧
                (t.eth n.val).tsOvf = false ∧ bit (t.page (pETH n.val)).stat 2 = true) ∧
              (bit (s.sramW (txDesc s n.val + 4)) 16 = true → 16 ≤ (s.eth n.val).tsq.length → (t.eth n.val).tsq = (s.eth n.val).tsq ∧ (t.eth n.val).tsOvf = true ∧
                (t.eth n.val).tsDrop = satInc 16 (s.eth n.val).tsDrop ∧ bit (t.page (pETH n.val)).stat 3 = true)) ∧
            (len < 60 ∨ ethLimit s n.val f < len + 4 → (t.eth n.val).sent = (s.eth n.val).sent ∧ bit (t.page (pETH n.val)).stat 3 = true))) ∧
      (∀ k q r p ws, strReady s n.val = some k → ringReady s n.val = false ∨ (bit (s.sramW (txDesc s n.val + 4)) 16 = false ∧ (s.eth n.val).strLast = false) →
        (s.str k).reading = some (q, r) → (s.str k).pkts.find? (fun p => decide (p.pseq = q)) = some p → deliverPkt s k p = some ws →
        ∃ t f, exec (.ethFrameTx n ts) s = .next t ∧ (t.eth n.val).sent = f :: (s.eth n.val).sent ∧ (t.eth n.val).strLast = true ∧ (t.eth n.val).txHead = (s.eth n.val).txHead ∧
          (4 * ws.length ≤ ((match (s.eth n.val).cur with | some (_, _, i) => i | none => 0) + 1) * (if ethCfg_JUMBO s n.val = 1 then 8996 else 1496) →
            (t.eth n.val).cur = none ∧ (t.eth n.val).lastStr = k ∧ (t.str k).reading = none) ∧
          (((match (s.eth n.val).cur with | some (_, _, i) => i | none => 0) + 1) * (if ethCfg_JUMBO s n.val = 1 then 8996 else 1496) < 4 * ws.length →
            (t.eth n.val).cur = some (k, q, (match (s.eth n.val).cur with | some (_, _, i) => i | none => 0) + 1))))) ∧
  (∀ (s : State) (src : Src) (n : Fin 2), s.reaches ((0x19 + n.val) * 0x1000 + 0x140) →
    (∀ e q, (s.eth n.val).tsq = e :: q → ∃ t, exec (.ethTxtsW0Read src n) s = .next t ∧ (t.eth n.val).tsq = q ∧ (t.eth n.val).tsLat = e.t ∧
      t.lastRead = [word (2 ^ 31 + (if e.ovf then 2 ^ 30 else 0) + e.id)]) ∧
    ((s.eth n.val).tsq = [] → exec (.ethTxtsW0Read src n) s = .next { s with lastRead := [0] }))

/-- R401 to R409: voting and spare rotation. -/
def Obligations.Voting : Prop :=  (∀ (s : State) (out : Nat) (a b c d : Word), s.supply.held = false → s.tmr.copies.length = 4 →
    (s.pwr.state = 4 → exec (.tmrScrub ⟨a, b, c, d⟩) s = .next s ∧ exec (.tmrOutvote out ⟨a, b, c, d⟩) s = .next s) ∧
    (∀ w, copiesIn s 0 ≠ [] → (∀ i < 4, (s.copy i).st = 0 ∨ (s.copy i).st = 3 → held4 ⟨a, b, c, d⟩ i = w) →
      exec (.tmrScrub ⟨a, b, c, d⟩) s = .next s ∧ exec (.tmrOutvote out ⟨a, b, c, d⟩) s = .next s) ∧
    (s.pwr.state ≠ 4 →
      (∀ i w, i < 4 → (s.copy i).st = 0 → 2 < (copiesIn s 0).length → held4 ⟨a, b, c, d⟩ i ≠ w →
        (∀ k < 4, k ≠ i → (s.copy k).st = 0 ∨ (s.copy k).st = 3 → held4 ⟨a, b, c, d⟩ k = w) →
        exec (.tmrScrub ⟨a, b, c, d⟩) s = .next (s.setCopy i { s.copy i with scrub := satInc 16 (s.copy i).scrub }) ∧
        (∃ t, exec (.tmrOutvote out ⟨a, b, c, d⟩) s = .next t ∧ (t.copy i).st ≠ 0 ∧ (t.copy i).disagree = satInc 16 (s.copy i).disagree ∧
          (t.copy i).fail = (s.copy i).fail + 1 ∧ (t.copy i).faultAt = s.st ∧ bit (t.page pTMR).stat 0 = true ∧
          (∀ j r, s.tmr.load = some (j, r) → t.tmr.load = some (j, true)) ∧
          (∀ j l, s.tmr.load = none → (copiesIn s 0).length = 3 → copiesIn s 1 = j :: l → t.tmr.load = some (j, true)))) ∧
      (∀ i w, i < 4 → (s.copy i).st = 3 → copiesIn s 3 = [i] → 2 < (copiesIn s 0).length → held4 ⟨a, b, c, d⟩ i ≠ w →
        (∀ k < 4, (s.copy k).st = 0 → held4 ⟨a, b, c, d⟩ k = w) →
        (∃ t, exec (.tmrScrub ⟨a, b, c, d⟩) s = .next t ∧ (t.copy i).st = (if 3 ≤ (s.copy i).fail + 1 then 5 else 4) ∧ (t.copy i).fail = (s.copy i).fail + 1 ∧ t.tmr.load = none ∧
          ∀ k, k ≠ i → t.copy k = s.copy k) ∧ exec (.tmrOutvote out ⟨a, b, c, d⟩) s = exec (.tmrScrub ⟨a, b, c, d⟩) s) ∧
      ((∀ w, (copiesIn s 0).length < 2 * ((copiesIn s 0).filter (fun i => decide (held4 ⟨a, b, c, d⟩ i = w))).length → False) →
        (∃ t, exec (.tmrScrub ⟨a, b, c, d⟩) s = .next t ∧ t.pwr.state = 4) ∧ (∃ t, exec (.tmrOutvote out ⟨a, b, c, d⟩) s = .next t ∧ t.pwr.state = 4)))) ∧
  (∀ (s : State) (src : Src), s.reaches 0x4108 → s.tmr.copies.length = 4 →
    (∀ i r, copiesIn s 1 = i :: r → s.tmr.load = none →
      (∃ t, exec (.tmrCmdRotate src) s = .next t ∧ (t.copy i).st = 1 ∧ (t.copy i).since = s.clk ∧ t.tmr.load = some (i, false) ∧ t.hdr = s.hdr ∧
        ∀ k, k ≠ i → t.copy k = s.copy k) ∧
      (s.ns = 0 → s.sec % rotS s = 0 → ∃ t, exec .tmrRotation s = .next t ∧ (t.copy i).since = s.clk ∧ t.tmr.load = some (i, false) ∧ ∀ k, k ≠ i → t.copy k = s.copy k)) ∧
    (copiesIn s 1 = [] ∨ s.tmr.load.isSome → exec (.tmrCmdRotate src) s = .next s ∧ exec .tmrRotation s = .next s) ∧
    (s.ns ≠ 0 ∨ s.sec % rotS s ≠ 0 → exec .tmrRotation s = .next s) ∧
    (∀ i : Fin 4, ((s.copy i.val).st = 5 → ∃ t, exec (.tmrCmdRestore src i) s = .next t ∧ (t.copy i.val).st = 4 ∧ (t.copy i.val).fail = 0 ∧ (t.copy i.val).since = s.clk ∧
        t.tmr.level = levelNow { s with tmr := t.tmr } ∧ (∀ k, k ≠ i.val → t.copy k = s.copy k) ∧ (t.tmr.level ≠ s.tmr.level → bit (t.page pTMR).stat 2 = true)) ∧
      ((s.copy i.val).st ≠ 5 → exec (.tmrCmdRestore src i) s = .next s))) ∧
  (∀ (s : State) (i : Fin 4), s.supply.held = false → s.tmr.copies.length = 4 →
    ((s.copy i.val).st = 4 → (s.copy i.val).since + 200000 ≤ s.clk →
      (∃ t, exec (.tmrSelftestDone i true) s = .next t ∧ (t.copy i.val).st = 1 ∧ (t.copy i.val).tests = satInc 32 (s.copy i.val).tests ∧ (t.copy i.val).testAt = s.st ∧
        (3 ≤ (copiesIn s 0).length ∨ s.tmr.load.isSome → t.tmr.load = s.tmr.load) ∧
        ((copiesIn s 0).length < 3 → s.tmr.load = none → copiesIn s 1 = [] → t.tmr.load = some (i.val, true))) ∧
      ((s.copy i.val).fail < 2 → ∃ t, exec (.tmrSelftestDone i false) s = .next t ∧ (t.copy i.val).st = 4 ∧ (t.copy i.val).fail = (s.copy i.val).fail + 1 ∧
        (t.copy i.val).since = (s.copy i.val).since + rotS s * 1000000000) ∧
      (2 ≤ (s.copy i.val).fail → ∃ t, exec (.tmrSelftestDone i false) s = .next t ∧ (t.copy i.val).st = 5 ∧ bit (t.page pTMR).stat 1 = true)) ∧
    (∀ p, (s.copy i.val).st ≠ 4 ∨ s.clk < (s.copy i.val).since + 200000 → exec (.tmrSelftestDone i p) s = .next s))

/-- R407, R411 to R413: the PLLs and the SRAM scrubber. -/
def Obligations.ClocksAndSram : Prop :=  (∀ (s : State) (lock : Bool) (edges : List Int) (ph : Int), s.supply.held = false → s.pwr.move = none →
    (lock = false ∨ (4 ≤ edges.length ∧ ∀ e ∈ edges.drop (edges.length - 4), 200 < e.natAbs) →
      (s.tmr.pllSel = false → s.tmr.pllB = true → ∃ t, exec (.pllFail false ⟨lock, edges⟩ ph) s = .next t ∧ t.tmr.pllA = false ∧ t.tmr.pllSel = true ∧
        t.tmr.failovers = satInc 16 s.tmr.failovers ∧ t.tmr.pllPhase = unsgn 16 ph ∧ t.tmr.level = levelNow t ∧ bit (t.page pTMR).stat 3 = true) ∧
      (s.tmr.pllSel = true → s.tmr.pllA = true → ∃ t, exec (.pllFail true ⟨lock, edges⟩ ph) s = .next t ∧ t.tmr.pllB = false ∧ t.tmr.pllSel = false ∧
        t.tmr.failovers = satInc 16 s.tmr.failovers ∧ t.tmr.level = levelNow t ∧ bit (t.page pTMR).stat 3 = true) ∧
      (s.tmr.pllSel = true ∨ s.tmr.pllB = false → ∃ t, exec (.pllFail false ⟨lock, edges⟩ ph) s = .next t ∧ t.tmr.pllA = false ∧ t.tmr.pllSel = s.tmr.pllSel ∧
        t.tmr.failovers = s.tmr.failovers ∧ t.tmr.level = levelNow t) ∧
      (s.tmr.pllSel = false ∨ s.tmr.pllA = false → ∃ t, exec (.pllFail true ⟨lock, edges⟩ ph) s = .next t ∧ t.tmr.pllB = false ∧ t.tmr.pllSel = s.tmr.pllSel ∧
        t.tmr.failovers = s.tmr.failovers ∧ t.tmr.level = levelNow t)) ∧
    (lock = true → edges.length < 4 ∨ (∃ e ∈ edges.drop (edges.length - 4), e.natAbs ≤ 200) → ∀ b, ∃ t, exec (.pllFail b ⟨lock, edges⟩ ph) s = .next t ∧
      t.tmr.pllSel = s.tmr.pllSel ∧ t.tmr.failovers = s.tmr.failovers ∧ t.tmr.level = levelNow t ∧ t.tmr.pllPhase = unsgn 16 ph ∧
      (b = false → t.tmr.pllA = true ∧ ((∃ e ∈ edges, 50 < e.natAbs) → t.tmr.cleanSince = none) ∧
        ((∀ e ∈ edges, e.natAbs ≤ 50) → t.tmr.cleanSince = some (s.tmr.cleanSince.getD s.clk))) ∧
      (b = true → t.tmr.pllB = true ∧ t.tmr.cleanSince = s.tmr.cleanSince))) ∧
  (∀ (s : State) (ph : Int), s.supply.held = false →
    (∀ c, s.tmr.cleanSince = some c → s.tmr.pllSel = true → s.tmr.pllA = true → c + 10000000000 ≤ s.clk → tmrCfg_RETURN_HOLD s = 0 →
      ∃ t, exec (.pllReturn ph) s = .next t ∧ t.tmr.pllSel = false ∧ t.tmr.returns = satInc 16 s.tmr.returns ∧ t.tmr.failovers = s.tmr.failovers ∧ bit (t.page pTMR).stat 4 = true) ∧
    (tmrCfg_RETURN_HOLD s = 1 ∨ s.tmr.pllSel = false ∨ s.tmr.pllA = false ∨ s.tmr.cleanSince = none ∨ (∃ c, s.tmr.cleanSince = some c ∧ s.clk < c + 10000000000) →
      exec (.pllReturn ph) s = .next s)) ∧
  (∀ (s : State) (err : Fin 3), s.supply.held = false →
    ((s.clk - s.tmr.scrubClk) * 4194304 < scrubMs s * 1000000 → exec (.sramScrub err) s = .next s) ∧
    (scrubMs s * 1000000 ≤ (s.clk - s.tmr.scrubClk) * 4194304 →
      (4 * s.tmr.scrubAt ∉ s.tmr.bad →
        (err = 0 → exec (.sramScrub err) s = .next { s with tmr := { s.tmr with scrubAt := (s.tmr.scrubAt + 1) % 4194304, scrubClk := s.clk } }) ∧
        (err = 1 → exec (.sramScrub err) s = .next { s with tmr := { s.tmr with scrubAt := (s.tmr.scrubAt + 1) % 4194304, scrubClk := s.clk, corr := satInc 16 s.tmr.corr } })) ∧
      (4 * s.tmr.scrubAt < 0xA00000 → err = 2 ∨ 4 * s.tmr.scrubAt ∈ s.tmr.bad → ∃ t, exec (.sramScrub err) s = .next t ∧ 4 * s.tmr.scrubAt ∈ t.tmr.bad ∧
        t.tmr.uncorr = satInc 16 s.tmr.uncorr ∧ t.tmr.scrubAt = (s.tmr.scrubAt + 1) % 4194304 ∧ t.tmr.latched = true ∧
        (s.tmr.latched = false → t.tmr.eccAddr = 4 * s.tmr.scrubAt) ∧ (s.tmr.latched = true → t.tmr.eccAddr = s.tmr.eccAddr) ∧
        (4 * s.tmr.scrubAt < 0x400000 → t.sram = s.sram) ∧ (0x420000 ≤ 4 * s.tmr.scrubAt → 4 * s.tmr.scrubAt < 0x440000 → t.sramW (4 * s.tmr.scrubAt) = 0) ∧
        bit (t.page pTMR).stat 5 = true) ∧
      (0xA00000 ≤ 4 * s.tmr.scrubAt → err = 2 ∨ 4 * s.tmr.scrubAt ∈ s.tmr.bad → ∃ t, exec (.sramScrub err) s = .next t ∧
        t.tmr.uncorr = satInc 16 s.tmr.uncorr ∧ t.tmr.scrubAt = (s.tmr.scrubAt + 1) % 4194304 ∧ bit (t.page pTMR).stat 5 = true)))

/-- R417, R418, R420, R421, R424, R425, R427: hub states. -/
def Obligations.PowerStates : Prop :=  (∀ (s : State) (src : Src) (i : Instr) (k : Nat), s.reaches 0x2108 → (i, k) ∈ [(Instr.pwrCmdRun src, 0), (.pwrCmdTrim src, 1), (.pwrCmdVigil src, 2), (.pwrCmdDormant src, 3)] →
    (s.pwr.state = 4 → s.pwr.move = none → ∃ t, exec i s = .next t ∧ t.pwr.state = 4 ∧ t.pwr.rej = 7 ∧ bit (t.page pPWR).stat 3 = true) ∧
    (s.pwr.state ≠ 4 → s.pwr.move.isSome → k < 2 → ∃ t, exec i s = .next t ∧ bit (t.page pPWR).stat 3 = true) ∧
    (s.pwr.state < 2 → s.pwr.move = none → k < 2 → s.pwr.state ≠ k → ∃ t, exec i s = .next t ∧ t.pwr.state = k ∧ bit (t.page pPWR).stat 0 = true) ∧
    (s.pwr.state = k → s.pwr.move = none → exec i s = .next s) ∧
    (2 ≤ s.pwr.state → s.pwr.state < 4 → s.pwr.move = none → k < 2 → ∃ t, exec i s = .next t ∧
      t.pwr.move = some ⟨wakeTarget s, s.pwr.state, s.clk⟩ ∧ t.pwr.state = s.pwr.state ∧ bit (t.page pPWR).stat 4 = true) ∧
    (s.pwr.state ≠ 4 → 2 ≤ k → s.pwr.move.isSome → ∃ t, exec i s = .next t ∧ bit (t.page pPWR).stat 3 = true) ∧
    (s.pwr.state ≠ 4 → 2 ≤ k → s.pwr.state ≠ k → s.pwr.move = none → (∀ r, moveRej s k = some r → ∃ t, exec i s = .next t ∧ t.pwr.rej = r ∧
        t.pwr.state = s.pwr.state ∧ bit (t.page pPWR).stat 3 = true) ∧
      (moveRej s k = none → moveBarred s k = true → ∃ t, exec i s = .next t ∧ t.pwr.rej = 9 ∧ t.pwr.state = s.pwr.state ∧ bit (t.page pPWR).stat 2 = true ∧
        bit (t.page pPWR).stat 3 = true) ∧
      (moveRej s k = none → moveBarred s k = false → moveWaits s k = true → s.pwr.state < 2 → ∃ t, exec i s = .next t ∧
        bit (t.page pPWR).stat 5 = true ∧ t.pwr.state = s.pwr.state) ∧
      (moveRej s k = none → moveBarred s k = false → moveWaits s k = false →
        exec i s = .next { s with pwr := { s.pwr with move := some ⟨k, s.pwr.state, s.clk⟩ } }))) ∧
  (∀ (s : State), s.supply.held = false →
    (s.pwr.move = none → exec .pwrMoveDone s = .next s) ∧
    (∀ m, s.pwr.move = some m →
      (m.target = 2 ∨ m.target = 3 → moveBarred s m.target = false → moveWaits s m.target = false →
        ∃ t, exec .pwrMoveDone s = .next t ∧ t.pwr.state = m.target ∧ bit (t.page pPWR).stat 0 = true) ∧
      (m.target = 2 ∨ m.target = 3 → moveBarred s m.target = false → moveWaits s m.target = true → exec .pwrMoveDone s = .next s) ∧
      (m.target = 2 ∨ m.target = 3 → moveBarred s m.target = true → ∃ t, exec .pwrMoveDone s = .next t ∧ t.pwr.rej = 9 ∧ t.pwr.state = s.pwr.state ∧
        bit (t.page pPWR).stat 2 = true ∧ bit (t.page pPWR).stat 3 = true) ∧
      (m.target < 2 → m.began + (if m.old = 3 then 20000 else 2000) ≤ s.clk → (s.dram.st = 2 → s.dram.selfref = false) →
        ∃ t, exec .pwrMoveDone s = .next t ∧ t.pwr.state = m.target ∧ t.pwr.move = none ∧ bit (t.page pPWR).stat 0 = true) ∧
      (m.target < 2 → s.clk < m.began + (if m.old = 3 then 20000 else 2000) ∨ (s.dram.st = 2 ∧ s.dram.selfref = true) → exec .pwrMoveDone s = .next s))) ∧
  (∀ (s : State) (cw h0 : Bool), s.supply.held = false →
    ∃ t, exec (.pwrAutoChoice cw h0) s = .next t ∧ t.pwr.coreWait = cw ∧ t.pwr.hostL0 = h0 ∧
      (s.pwr.move = none → s.pwr.state = 0 → ∀ d, 1 ≤ d → d < 33 → domReq s d = 0 → (s.dom d).waiting = none → (s.dom d).st ≠ 0 → (s.dom d).waking = none → (s.dom d).toSr = false →
        (t.dom d).waking = some (s.clk + upLat d (s.dom d).st)) ∧
      (s.pwr.move = none → s.pwr.state = 4 → (∀ d, (s.dom d).waiting = none) → ∀ d, (t.dom d).st = (s.dom d).st ∧ (t.dom d).waking = (s.dom d).waking))

/-- R416 to R418: the domains. -/
def Obligations.PowerDomains : Prop :=  (∀ (s : State) (src : Src) (d : Fin 33) (r : Fin 4), s.reaches (0x2200 + 4 * d.val) →
    (d.val = 0 → exec (.pwrDomCtlWrite src d r) s = .next s) ∧
    (d.val ≠ 0 → r.val ≠ 2 → (s.dom d.val).waiting = none → exec (.pwrDomCtlWrite src d r) s = .next (s.setRw (pwrDomCtlAt d.val) (word r.val))) ∧
    (d.val ≠ 0 → r.val ≠ 2 → (s.dom d.val).waiting.isSome → ∃ t, exec (.pwrDomCtlWrite src d r) s = .next t ∧ (t.dom d.val).waiting = none ∧
      (t.dom d.val).st = (s.dom d.val).st ∧ t.regs = (s.setRw (pwrDomCtlAt d.val) (word r.val)).regs) ∧
    (d.val ≠ 0 → r.val = 2 → s.pwr.state = 4 ∨ (s.dom d.val).waiting.isSome → exec (.pwrDomCtlWrite src d r) s = .next s) ∧
    (d.val ≠ 0 → r.val = 2 → s.pwr.state ≠ 4 → (s.dom d.val).waiting = none →
      (((holders s d.val).loop || (holders s d.val).other) = true → ∃ t, exec (.pwrDomCtlWrite src d r) s = .next t ∧ t.regs = s.regs ∧
        (t.dom d.val).st = (s.dom d.val).st ∧ bit (t.page pPWR).stat 2 = true) ∧
      ((holders s d.val).any = false → ((s.dom d.val).st = 4 ∨ (d.val = 18 ∧ (s.dom d.val).st = 3)) →
        exec (.pwrDomCtlWrite src d r) s = .next (s.setRw (pwrDomCtlAt d.val) 2)) ∧
      (d.val ≠ 18 → (holders s d.val).any = false → (s.dom d.val).st ≠ 4 → ∃ t, exec (.pwrDomCtlWrite src d r) s = .next t ∧ (t.dom d.val).st = 4 ∧
        (t.dom d.val).waking = none) ∧
      (d.val = 18 → (holders s d.val).any = false → (s.dom d.val).st < 3 → ∃ t, exec (.pwrDomCtlWrite src d r) s = .next t ∧ (t.dom d.val).toSr = true ∧
        (t.dom d.val).st = (s.dom d.val).st) ∧
      (((holders s d.val).loop || (holders s d.val).other) = false → (holders s d.val).any = true → ∃ t, exec (.pwrDomCtlWrite src d r) s = .next t ∧
        (t.dom d.val).waiting = some (s.clk, 2) ∧ (t.dom d.val).st = (s.dom d.val).st ∧ t.regs = s.regs ∧ bit (t.page pPWR).stat 5 = true))) ∧
  (∀ (s : State) (d : Fin 33), s.supply.held = false →
    (∀ a x, (s.dom d.val).waiting = some (a, x) →
      (a + pwrWait_MS s * 1000000 ≤ s.clk → ∃ t, exec (.pwrWaitTimeout d) s = .next t ∧ (t.dom d.val).waiting = none ∧ (t.dom d.val).st = (s.dom d.val).st ∧
        bit (t.page pPWR).stat 2 = true) ∧
      (s.clk < a + pwrWait_MS s * 1000000 → exec (.pwrWaitTimeout d) s = .next s)) ∧
    ((s.dom d.val).waiting = none → s.pwr.move = none → exec (.pwrWaitTimeout d) s = .next s) ∧
    (∀ m, (s.dom d.val).waiting = none → s.pwr.move = some m →
      (2 ≤ m.target → moveWaits s m.target = true → m.began + pwrWait_MS s * 1000000 ≤ s.clk → ∃ t, exec (.pwrWaitTimeout d) s = .next t ∧ t.pwr.rej = 9 ∧
        t.pwr.state = s.pwr.state ∧ bit (t.page pPWR).stat 2 = true) ∧
      (m.target < 2 ∨ moveWaits s m.target = false ∨ s.clk < m.began + pwrWait_MS s * 1000000 → exec (.pwrWaitTimeout d) s = .next s))) ∧
  (∀ (s : State) (d : Fin 33), s.supply.held = false →
    (∀ a, (s.dom d.val).waking = some a → a ≤ s.clk → d.val ≠ 18 →
      ∃ t, exec (.pwrDomainUp d) s = .next t ∧ (t.dom d.val).st = (if d.val = 17 ∧ s.pwr.state = 2 then 1 else 0) ∧ (t.dom d.val).waking = none) ∧
    ((s.dom d.val).waking = none ∨ d.val = 18 ∨ (∃ a, (s.dom d.val).waking = some a ∧ s.clk < a) → exec (.pwrDomainUp d) s = .next s))

/-- R428 to R433: the budget governor. -/
def Obligations.Governor : Prop :=  (∀ (s : State) (k : Fin 8) (r mw : Nat) (d w : Option Nat), s.supply.held = false →
    (1 ≤ k.val → k.val ≤ 6 → bgtHas k.val r s = false → bgtAsking k.val r s = false →
      exec (.bgtRequest k r mw d w) s = .next { s with bgt := { s.bgt with queue := s.bgt.queue ++ [⟨k.val, r, mw, d, s.st, w, false⟩] } }) ∧
    (k.val = 0 ∨ k.val = 7 ∨ bgtHas k.val r s = true ∨ bgtAsking k.val r s = true → exec (.bgtRequest k r mw d w) s = .next s)) ∧
  (∀ (s : State), s.supply.held = false →
    (s.ns % 10000 ≠ 0 → exec .bgtTick s = .next s) ∧
    (s.ns % 10000 = 0 →
      (s.bgt.queue = [] → ∃ t, exec .bgtTick s = .next t ∧ t.bgt.grants = s.bgt.grants ∧ t.bgt.accNum ≤ s.bgt.accNum ∧ t.hdr = s.hdr) ∧
      (∀ r, s.bgt.queue = [r] → r.kind = 2 → r.arr + 30 * usU ≤ s.st →
        (bgtBar (bgtDecay s) r = none → bgtFits (bgtDecay s) r = true →
          ∃ t, exec .bgtTick s = .next t ∧ t.bgt.queue = [] ∧ t.bgt.grants = s.bgt.grants ++ [⟨2, r.req, r.mw, s.st, r.dur, false⟩] ∧
            bgtUsed t = bgtUsed s + r.mw ∧ bit (t.page pBGT).stat 0 = true ∧ bit (t.page pBGT).stat 5 = true) ∧
        (∀ c, bgtBar (bgtDecay s) r = some c → ∃ t, exec .bgtTick s = .next t ∧ t.bgt.queue = [] ∧ t.bgt.grants = s.bgt.grants ∧ t.bgt.outcome = 3 ∧ t.bgt.reason = c ∧
          t.bgt.refused = satInc 16 s.bgt.refused ∧ bit (t.page pBGT).stat 2 = true) ∧
        (bgtBar (bgtDecay s) r = none → bgtFits (bgtDecay s) r = false → ∃ t, exec .bgtTick s = .next t ∧ t.bgt.queue = [{ r with queued := true }] ∧
          t.bgt.grants = s.bgt.grants ∧ (r.queued = false → t.bgt.outcome = 2 ∧ bit (t.page pBGT).stat 1 = true))))) ∧
  (∀ (s : State) (k : Fin 8) (r d : Nat) (g : BgtGrant), s.supply.held = false → g ∈ s.bgt.grants → g.kind = k.val → k.val ≠ 1 → g.req = r → g.overrun = false →
    g.dur = some d → g.start + d * msU ≤ s.st →
    ∃ t, exec (.bgtOverrun k r) s = .next t ∧ bgtUsed t = bgtUsed s ∧ t.bgt.outcome = 4 ∧ bit (t.page pBGT).stat 3 = true ∧
      ∀ x ∈ t.bgt.grants, x.kind = k.val → x.req = r → ∀ e, x.dur = some e → x.start + e * msU ≤ s.st → x.overrun = true) ∧
  (∀ (s : State) (k : Fin 8) (r : Nat), s.supply.held = false →
    (∀ g ∈ s.bgt.grants, g.kind = k.val → g.req = r → k.val = 1 ∨ g.overrun = true ∨ (∀ d, g.dur = some d → s.st < g.start + d * msU)) → exec (.bgtOverrun k r) s = .next s) ∧
  (∀ (s : State) (src : Src), s.reaches 0x3120 →
    (bgtHas 2 0 s = false → bgtAsking 2 0 s = false → exec (.bgtCmdReserve src) s = .next { s with bgt := { s.bgt with
      queue := s.bgt.queue ++ [⟨2, 0, bgtExc_MA s * 5, none, s.st, none, false⟩] } }) ∧
    (bgtHas 2 0 s = true ∨ bgtAsking 2 0 s = true → exec (.bgtCmdReserve src) s = .next s) ∧
    (∃ t, exec (.bgtCmdRelease src) s = .next t ∧ bgtHas 2 0 t = false ∧ bgtAsking 2 0 t = false ∧
      (bgtHas 2 0 s = true → bit (t.page pBGT).stat 5 = true) ∧ (bgtHas 2 0 s = false → t.hdr = s.hdr)))

/-- R435 to R437, R440, R441, R453, R463: start-up and resets. -/
def Obligations.StartUp : Prop :=  (∀ (s : State) (src : Src), s.reaches 0x130 →
    (s.boot.go = true → exec (.sysStartGo src) s = .next s) ∧
    (s.boot.go = false → s.boot.step ≠ 7 → exec (.sysStartGo src) s = .next { s with boot := { s.boot with go := true } }) ∧
    (s.boot.go = false → s.boot.step = 7 → ∃ t, exec (.sysStartGo src) s = .next t ∧ t.boot = { s.boot with go := true, step := 8, goAt := s.clk })) ∧
  (∀ (s : State), s.supply.held = false →
    (s.boot.step = 8 → s.boot.done9 = false → s.boot.goAt + sysStartWait_LANE_MS s * 1000000 ≤ s.clk →
      ∃ t, exec .startLaneTimeout s = .next t ∧ t.boot.laneLate = true ∧ t.boot.done9 = true) ∧
    (s.boot.step ≠ 8 ∨ s.boot.done9 = true ∨ s.clk < s.boot.goAt + sysStartWait_LANE_MS s * 1000000 → exec .startLaneTimeout s = .next s) ∧
    (s.boot.step = 8 → s.boot.done10 = false → s.boot.goAt + sysStartWait_TIME_S s * 1000000000 ≤ s.clk →
      ∃ t, exec .startTimeTimeout s = .next t ∧ t.boot.timeLate = true ∧ t.boot.done10 = true) ∧
    (s.boot.step ≠ 8 ∨ s.boot.done10 = true ∨ s.clk < s.boot.goAt + sysStartWait_TIME_S s * 1000000000 → exec .startTimeTimeout s = .next s)) ∧
  (∀ (s : State) (src : Src), s.reaches 0x7100 →
    ∃ t, exec (.mgmtCtlReset src) s = .next t ∧ t.mgmt.st = 0 ∧ t.mgmt.bootEnd.isSome ∧ t.mgmt.mtimecmp = 0 ∧ t.mgmt.ie = List.replicate 8 0 ∧
      t.boot.cause = s.boot.cause ||| 8 ∧ t.att.meas = s.att.meas.take 1 ++ List.replicate 7 0 ∧ t.att.cnt = s.att.cnt.take 1 ++ List.replicate 7 0 ∧ t.sram = s.sram ∧
      t.ctxs = s.ctxs ∧ t.slices = s.slices) ∧
  (∀ (s : State), s.supply.held = false →
    (∃ t, exec .porN s = .next t ∧ t.boot.cause = 1 ∧ t.regs = State.reset.regs ∧ t.pending = s.pending ∧ t.sram = [] ∧ t.tmr = State.reset.tmr) ∧
    (∃ t, exec .rstN s = .next t ∧ t.boot.cause = s.boot.cause ||| 2 ∧ t.regs = State.reset.regs ∧ t.pending = s.pending ∧ t.sram = [] ∧
      t.tmr.failovers = s.tmr.failovers ∧ t.tmr.returns = s.tmr.returns ∧ t.tmr.copies.length = s.tmr.copies.length ∧
      ∀ (i : Nat) (x y : CopySt), s.tmr.copies[i]? = some x → t.tmr.copies[i]? = some y → (y.st = 5 ↔ x.st = 5) ∧ y.fail = x.fail ∧ y.disagree = x.disagree) ∧
    (∃ t, exec .vddCoreLow s = .next t ∧ t.supply.held = true ∧ t.boot.cause = 1 ∧ t.regs = State.reset.regs ∧ t.pending = s.pending) ∧
    exec .vddCoreInRange s = .next s) ∧
  (∀ (s : State) (src : Src), s.reaches 0x100 →
    ∃ t, exec (.sysReset src) s = .next t ∧ t.boot.cause = s.boot.cause ||| 4 ∧ t.regs = State.reset.regs ∧ t.pending = s.pending ∧ t.sram = [] ∧ t.tmr.failovers = s.tmr.failovers) ∧
  (∀ (s : State), s.supply.held = true → ∃ t, exec .vddCoreInRange s = .next t ∧ t.supply.held = false ∧ t.boot.cause = 1 ∧ t.regs = State.reset.regs)

/-- R409, R453, R464, R471: supplies and pins. -/
def Obligations.SuppliesAndPins : Prop :=  ∀ (s : State), s.supply.held = false →
    (s.supply.avddLow = false → ∃ t, exec .avddLow s = .next t ∧ t.supply.avddLow = true ∧ t.supply.dips = satInc 16 s.supply.dips ∧ ∀ m < 16, (t.mitt m).isUp = false) ∧
    (s.supply.avddLow = true → exec .avddLow s = .next s ∧ ∃ t, exec .avddLowClear s = .next t ∧ t.supply = { s.supply with avddLow := false } ∧
      ∀ m < 16, loopOn s m = true → (s.dom (1 + m)).st = 0 → (t.mitt m).isUp = true) ∧
    (s.supply.avddLow = false → exec .avddLowClear s = .next s) ∧
    (∀ b, exec (.excLow b) s = .next { s with supply := { s.supply with excLow := b } }) ∧
    (sysPpsOut_EN s = 1 → s.st % secU < 2 * nsU →
      ((sysPpsOut_GATE s = 0 ∨ (s.tb.holdActive = false ∧ s.pwr.state ≠ 4)) → exec .ppsOutPulse s = .next { s with supply := { s.supply with ppsHigh := true, ppsSec := s.sec } }) ∧
      (sysPpsOut_GATE s = 1 → s.tb.holdActive = true ∨ s.pwr.state = 4 → exec .ppsOutPulse s = .next s)) ∧
    (sysPpsOut_EN s = 0 ∨ 2 * nsU ≤ s.st % secU → exec .ppsOutPulse s = .next s) ∧
    (s.supply.ppsHigh = true → s.supply.ppsSec * secU + max 1 (min 999 (sysPpsOut_WIDTH_MS s)) * msU ≤ s.st ∨ s.st < s.supply.ppsSec * secU →
      exec .ppsOutPulseEnd s = .next { s with supply := { s.supply with ppsHigh := false } }) ∧
    (s.supply.ppsHigh = false ∨ (s.supply.ppsSec * secU ≤ s.st ∧ s.st < s.supply.ppsSec * secU + max 1 (min 999 (sysPpsOut_WIDTH_MS s)) * msU) →
      exec .ppsOutPulseEnd s = .next s) ∧
    (s.mgmt.mtimecmp ≤ (s.sec * 1000000000 + s.ns) % 2 ^ 64 → exec .mtimeCompare s = .next { s with mgmt := { s.mgmt with timer := true } }) ∧
    ((s.sec * 1000000000 + s.ns) % 2 ^ 64 < s.mgmt.mtimecmp → exec .mtimeCompare s = .next s)

/-- R442 to R445: attestation. -/
def Obligations.Attestation : Prop :=  (∀ (s : State) (src : Src) (i : Fin 8), s.reaches 0x5100 →
    (src ≠ Src.core → ∃ t, exec (.attCmdExtend src i) s = .next t ∧ t.att = { s.att with rej := 3 } ∧ bit (t.page pATT).stat 1 = true) ∧
    (i.val = 0 → ∃ t, exec (.attCmdExtend Src.core i) s = .next t ∧ t.att = { s.att with rej := 2 } ∧ bit (t.page pATT).stat 1 = true) ∧
    (i.val ≠ 0 → exec (.attCmdExtend Src.core i) s = .next { s with att := { s.att with
      meas := s.att.meas.set i.val (sha384 (digBytes (s.att.meas.getD i.val 0) ++ attDigest s)), cnt := s.att.cnt.set i.val ((s.att.cnt.getD i.val 0 + 1) % 2 ^ 32) } }) ∧
    (s.att.snap.isSome → ∃ t, exec (.attCmdQuote src) s = .next t ∧ t.att = { s.att with rej := 1 } ∧ bit (t.page pATT).stat 1 = true) ∧
    (s.att.snap = none → ∃ t q, exec (.attCmdQuote src) s = .next t ∧ t.att.snap = some q ∧ q.meas = s.att.meas ∧ q.cnt = s.att.cnt ∧ q.st = s.st ∧
      q.nonce = (List.range 8).map (fun k => s.rw (attNonceAt k)) ∧ t.att.quote = s.att.quote ∧ t.hdr = s.hdr)) ∧
  (∀ (s : State), s.supply.held = false → s.att.snap = none → exec .attQuoteDone s = .next s) ∧
  (∀ (s : State) (q : AttSnap), s.supply.held = false → s.att.snap = some q → q.meas.length = 8 → q.cnt.length = 8 → q.nonce.length = 8 →
    ∃ t, exec .attQuoteDone s = .next t ∧ t.att.snap = none ∧ t.att.quote.length = 172 ∧ (t.att.quote.drop 4).take 8 = q.nonce ∧ t.att.meas = s.att.meas ∧
      (s.att.changed = false → t.att.quote.take 148 = quoteBody s q (sha384 (confBytes s))) ∧
      t.att.quote.drop 148 = leWords (quoteSign ((t.att.quote.take 148).flatMap wordBytes)) ∧ bit (t.page pATT).stat 0 = true)

/-- R436, R446 to R449, R452: the host's ports. -/
def Obligations.HostPorts : Prop :=  (∀ (s : State) (w : Fin 3), s.supply.held = false →
    (lnCfg_EN s 10 = 1 → (s.dom 31).st ≠ 4 → s.pwr.state ≠ 3 → ∃ t, exec (.pcieLinkChange true w) s = .next t ∧ t.pcie.up = true ∧
      t.pcie.width = (if w.val = 2 ∧ lnCfg_EN s 11 = 1 then 2 else 1) ∧ (s.pcie.up = false → bit (t.page pPCIE).stat 0 = true)) ∧
    (lnCfg_EN s 10 = 0 ∨ (s.dom 31).st = 4 ∨ s.pwr.state = 3 → exec (.pcieLinkChange true w) s = .next s) ∧
    (s.pcie.up = true → ∃ t, exec (.pcieLinkChange false w) s = .next t ∧ t.pcie.up = false ∧ t.pcie.bme = s.pcie.bme ∧ t.regs = s.regs ∧ bit (t.page pPCIE).stat 1 = true) ∧
    (s.pcie.up = false → exec (.pcieLinkChange false w) s = .next s)) ∧
  (∀ (s : State) (k : Fin 3), s.supply.held = false →
    ∃ t, exec (.pcieHotReset k) s = .next t ∧ t.pcie.bme = false ∧ t.pcie.mem = false ∧ t.pcie.bar0 = 0 ∧ t.pcie.bar2 = 0 ∧ t.pcie.dstate = 0 ∧ t.msi.pba = [] ∧
      t.pcie.up = (s.pcie.up && decide (k.val ≠ 2)) ∧ t.sram = s.sram ∧ t.dramMem = s.dramMem ∧ (tcanon regReset s.regs = true → ∀ a, a / 0x1000 ≠ pPCIE → t.rw a = s.rw a) ∧
      (∀ a, a / 0x1000 = pPCIE → t.rw a = regReset a) ∧ bit (t.page pPCIE).stat 2 = true) ∧
  (∀ (s : State) (a : BitVec 12) (be : Fin 16) (v w : Word) (o : Nat), s.supply.held = false → o = a.toNat / 4 * 4 → w = beMerge (cfgWord s o) v be.val →
    (s.boot.step < 7 → ∀ wr, exec (.pcieConfigRequest wr a be v) s = .next { s with lastRead := [] }) ∧
    (7 ≤ s.boot.step → exec (.pcieConfigRequest false a be v) s = .next { s with lastRead := [cfgWord s o] } ∧
      (o = 0x04 → ∃ t, exec (.pcieConfigRequest true a be v) s = .next t ∧ t.pcie = { s.pcie with mem := bit w 1, bme := bit w 2 } ∧
        (s.pcie.bme ≠ bit w 2 → bit (t.page pPCIE).stat 3 = true)) ∧
      (o = 0x10 → exec (.pcieConfigRequest true a be v) s = .next { s with pcie := { s.pcie with bar0 := s.pcie.bar0 / 2 ^ 32 * 2 ^ 32 + w.toNat / 2 ^ 20 * 2 ^ 20 } }) ∧
      (o = 0x14 → exec (.pcieConfigRequest true a be v) s = .next { s with pcie := { s.pcie with bar0 := w.toNat * 2 ^ 32 + s.pcie.bar0 % 2 ^ 32 } }) ∧
      (o = 0x18 → exec (.pcieConfigRequest true a be v) s = .next { s with pcie := { s.pcie with bar2 := s.pcie.bar2 / 2 ^ 32 * 2 ^ 32 + w.toNat / 2 ^ 22 * 2 ^ 22 } }) ∧
      (o = 0x1C → exec (.pcieConfigRequest true a be v) s = .next { s with pcie := { s.pcie with bar2 := w.toNat * 2 ^ 32 + s.pcie.bar2 % 2 ^ 32 } }) ∧
      (o = capPM + 4 → ∃ t, exec (.pcieConfigRequest true a be v) s = .next t ∧
        t.pcie = { s.pcie with dstate := if fld w 1 0 = 0 then 0 else if fld w 1 0 = 3 then 3 else s.pcie.dstate } ∧
        (t.pcie.dstate ≠ s.pcie.dstate → bit (t.page pPCIE).stat 4 = true)) ∧
      (o = capEXP + 8 → bit w 15 = false → exec (.pcieConfigRequest true a be v) s = .next { s with pcie := { s.pcie with devCtl := w.toNat % 2 ^ 15 } }) ∧
      (o = capEXP + 8 → bit w 15 = true → ∃ t, exec (.pcieConfigRequest true a be v) s = .next t ∧ t.pcie.bme = false ∧ t.pcie.bar0 = 0 ∧ t.pcie.bar2 = 0 ∧
        t.pcie.up = s.pcie.up ∧ t.sram = s.sram ∧ bit (t.page pPCIE).stat 2 = true) ∧
      (o = capMSIX → exec (.pcieConfigRequest true a be v) s = .next { s with pcie := { s.pcie with msixCtl := fld w 31 30 } }) ∧
      (o ∉ [0x04, 0x10, 0x14, 0x18, 0x1C, capPM + 4, capEXP + 8, capMSIX] → exec (.pcieConfigRequest true a be v) s = .next s))) ∧
  (∀ (s : State) (src : Src) (v : Word) (bs : List Byte) (len : Nat), s.reaches 0x7110 → len = min 256 (fld v 8 0) →
    (s.mgmt.qEnd ≤ s.clk → ∃ t, exec (.qspiCmdGo src v bs) s = .next t ∧ s.clk < t.mgmt.qEnd ∧
      (bit v 30 = true → t.mgmt.qfifo = s.mgmt.qfifo.drop len ∧ ∃ o a, t.mgmt.qOut = (o, a, s.mgmt.qfifo.take len) :: s.mgmt.qOut) ∧
      (bit v 30 = false → t.mgmt.qfifo = (s.mgmt.qfifo ++ (bs ++ List.replicate (len - bs.length) 0).take len).take 256)) ∧
    (s.clk < s.mgmt.qEnd → ∃ t, exec (.qspiCmdGo src v bs) s = .next t ∧ t.mgmt = s.mgmt))

/-- R32, R450, R451: the serial management port. -/
def Obligations.SerialPort : Prop :=  (∀ (s : State) (op : Fin 256) (a : BitVec 24) (n : Fin 256) (crc good : Fin 65536), s.supply.held = false → good.val = crc16 (smpHead op.val a.toNat n.val) →
    (crc ≠ good → ∀ i ∈ [Instr.smpRead op a n crc, .smpFixedRead op a n crc, .smpStreamRead op a n crc],
      ∃ t, exec i s = .next t ∧ t.smp.crcErr = satInc 8 s.smp.crcErr ∧ t.smp.frames = satInc 16 s.smp.frames ∧ t.smp.out.headD 0 = 1 ∧
        t.lastRead = List.replicate (n.val + 1) 0 ∧ t.strs = s.strs ∧ t.regs = s.regs ∧ bit (t.page pSMP).stat 1 = true) ∧
    (op.val ≠ 1 → exec (.smpRead op a n good) s = .next (smpReply 4 (List.replicate (n.val + 1) 0) s)) ∧
    (op.val ≠ 3 → exec (.smpFixedRead op a n good) s = .next (smpReply 4 (List.replicate (n.val + 1) 0) s)) ∧
    (op.val ≠ 4 → exec (.smpStreamRead op a n good) s = .next (smpReply 4 (List.replicate (n.val + 1) 0) s)) ∧
    (op.val = 1 → ¬ (a.toNat / 4 * 4 + 4 * (n.val + 1) ≤ 0x100000) → ¬ (0x400000 ≤ a.toNat / 4 * 4 ∧ a.toNat / 4 * 4 + 4 * (n.val + 1) ≤ 0x800000) →
      exec (.smpRead op a n good) s = .next (smpReply 3 (List.replicate (n.val + 1) 0) s)) ∧
    (op.val = 3 → 0x100000 ≤ a.toNat / 4 * 4 → ¬ (0x400000 ≤ a.toNat / 4 * 4 ∧ a.toNat / 4 * 4 < 0x800000) →
      exec (.smpFixedRead op a n good) s = .next (smpReply 3 (List.replicate (n.val + 1) 0) s)) ∧
    (op.val = 1 → a.toNat / 4 * 4 + 4 * (n.val + 1) ≤ 0x100000 →
      ∃ t, exec (.smpRead op a n good) s = .next t ∧ t.lastRead.length = n.val + 1 ∧ t.lastRead.headD 0 = (busRead 2 (a.toNat / 4 * 4) s).lastRead.headD 0 ∧
        ((s.accessFault (a.toNat / 4 * 4)).isSome → t.smp.out.headD 0 = 2) ∧ (n.val = 0 → s.accessFault (a.toNat / 4 * 4) = none → t.smp.out.headD 1 = 0) ∧
        t.smp.frames = satInc 16 s.smp.frames) ∧
    (op.val = 1 → 0x400000 ≤ a.toNat / 4 * 4 → a.toNat / 4 * 4 + 4 * (n.val + 1) ≤ 0x800000 →
      exec (.smpRead op a n good) s = .next (smpReply 0 ((List.range (n.val + 1)).map (fun i => bar2Word s (a.toNat / 4 * 4 - 0x400000 + 4 * i))) s)) ∧
    (op.val = 3 → a.toNat / 4 * 4 < 0x100000 → ∃ t, exec (.smpFixedRead op a n good) s = .next t ∧ t.lastRead.length = n.val + 1 ∧
      t.lastRead.headD 0 = (busRead 2 (a.toNat / 4 * 4) s).lastRead.headD 0 ∧
      (1 ≤ n.val → t.lastRead.getD 1 0 = (busRead 2 (a.toNat / 4 * 4) (busRead 2 (a.toNat / 4 * 4) s)).lastRead.headD 0)) ∧
    (op.val = 3 → 0x400000 ≤ a.toNat / 4 * 4 → a.toNat / 4 * 4 < 0x800000 →
      exec (.smpFixedRead op a n good) s = .next (smpReply 0 (List.replicate (n.val + 1) (bar2Word s (a.toNat / 4 * 4 - 0x400000))) s)) ∧
    (op.val = 4 → (s.str (a.toNat % 128)).desc.consumer ≠ 3 →
      exec (.smpStreamRead op a n good) s = .next (smpReply 5 (List.replicate (n.val + 1) 0) s)) ∧
    (op.val = 4 → (s.str (a.toNat % 128)).desc.consumer = 3 → ∃ t, exec (.smpStreamRead op a n good) s = .next t ∧ t.lastRead = (takeWords (a.toNat % 128) (n.val + 1) s).1 ∧
      t.lastRead.length = n.val + 1 ∧ t.smp.out.headD 1 = (if (takeWords (a.toNat % 128) (n.val + 1) s).2.1 < n.val + 1 then 5 else 0)) ∧
    (∃ t, exec .smpFrameErr s = .next t ∧ t.smp = { s.smp with aborts := satInc 8 s.smp.aborts } ∧ t.regs = s.regs ∧ bit (t.page pSMP).stat 0 = true)) ∧
  (∀ (s : State) (op : Fin 256) (a : BitVec 24) (w : Word) (ws : List Word) (crc good : Fin 65536), s.supply.held = false → ws ≠ [] → ws.length ≤ 256 →
    good.val = crc16 (smpHead op.val a.toNat (ws.length - 1) ++ ws.flatMap beWord) →
    (op.val = 2 → a.toNat / 4 * 4 < 0x100000 → ws = [w] → exec (.smpWrite op a ws good) s = .next (smpAnswer [0, 255] [] (busWrite 2 (a.toNat / 4 * 4) w s))) ∧
    (∀ w2, op.val = 2 → a.toNat / 4 * 4 + 8 ≤ 0x100000 → ws = [w, w2] → exec (.smpWrite op a ws good) s = .next (smpAnswer [0, 255] []
      (busWrite 2 (a.toNat / 4 * 4 + 4) w2 (busWrite 2 (a.toNat / 4 * 4) w s)))) ∧
    (op.val = 2 → a.toNat / 4 * 4 + 4 * ws.length ≤ 0x100000 ∨ (0x400000 ≤ a.toNat / 4 * 4 ∧ a.toNat / 4 * 4 + 4 * ws.length ≤ 0x800000) →
      ∃ t, exec (.smpWrite op a ws good) s = .next t ∧ t.smp.out = [0, 255]) ∧
    (op.val = 2 → 0x400000 ≤ a.toNat / 4 * 4 → a.toNat / 4 * 4 + 4 * ws.length ≤ 0x800000 → bar2Cfg_TBL_APER s = 0 → ∃ t, exec (.smpWrite op a ws good) s = .next t ∧
      (∀ i < ws.length, t.sramW (a.toNat / 4 * 4 - 0x400000 + 4 * i) = ws.getD i 0) ∧ t.regs = s.regs ∧ t.dramMem = s.dramMem) ∧
    (op.val = 2 → 0x100000 < a.toNat / 4 * 4 + 4 * ws.length → ¬ (0x400000 ≤ a.toNat / 4 * 4 ∧ a.toNat / 4 * 4 + 4 * ws.length ≤ 0x800000) →
      exec (.smpWrite op a ws good) s = .next (smpAnswer [3, 252] [] s)) ∧
    (op.val ≠ 2 → exec (.smpWrite op a ws good) s = .next (smpAnswer [4, 251] [] s)) ∧
    (crc ≠ good → ∃ t, exec (.smpWrite op a ws crc) s = .next t ∧ t.smp.out = [1, 254] ∧ t.smp.crcErr = satInc 8 s.smp.crcErr ∧ t.regs = s.regs ∧ t.sram = s.sram ∧
      bit (t.page pSMP).stat 1 = true))

/-- R21, R32, R447: the host's memory window. -/
def Obligations.MemoryWindow : Prop :=  ∀ (s : State) (src : Src) (o : Nat) (bs : List Byte), s.supply.held = false →
    (256 < bs.length → exec (.bar2Write src o bs) s = .next s) ∧
    (bs.length ≤ 256 → o + bs.length ≤ 0x400000 → (src = Src.core ∨ bar2Cfg_TBL_APER s = 0 ∨ o + bs.length ≤ 0x380000) →
      ∃ t, exec (.bar2Write src o bs) s = .next t ∧ (∀ i < bs.length, t.sramB (o + i) = bs.getD i 0) ∧ (∀ a, a < o ∨ o + bs.length ≤ a → t.sramB a = s.sramB a) ∧
        t.dramMem = s.dramMem ∧ t.regs = s.regs ∧ t.hdr = s.hdr) ∧
    (src = Src.core → tblBase + 0x80000 < o + bs.length → exec (.bar2Write src o bs) s = .next s) ∧
    (src ≠ Src.core →
      (0x400000 < o + bs.length → exec (.bar2Write src o bs) s = .next s) ∧
      (bs.length ≤ 256 → bar2Cfg_TBL_APER s = 1 → o < 0x380000 → 0x380000 < o + bs.length → o + bs.length ≤ 0x400000 → (o + bs.length) % 4 ≠ 0 →
        ∃ t, exec (.bar2Write src o bs) s = .next t ∧ (∀ i, o + i < 0x380000 → t.sramB (o + i) = bs.getD i 0) ∧ (∀ a, a < o ∨ 0x380000 ≤ a → t.sramB a = s.sramB a) ∧
          t.regs = s.regs ∧ t.hdr = s.hdr) ∧
      (bs.length ≤ 256 → bar2Cfg_TBL_APER s = 1 → o < 0x380000 → 0x380000 < o + bs.length → o + bs.length ≤ 0x400000 →
        ∃ t, exec (.bar2Write src o bs) s = .next t ∧ (∀ i, o + i < 0x380000 → t.sramB (o + i) = bs.getD i 0) ∧
          (∀ a, a < o ∨ (0x380000 ≤ a ∧ a < 0x400000) → t.sramB a = s.sramB a) ∧ t.regs = s.regs) ∧
      (bs.length ≤ 256 → bar2Cfg_TBL_APER s = 1 → 0x380000 ≤ o → o + bs.length ≤ 0x400000 → (o % 4 ≠ 0 ∨ bs.length % 4 ≠ 0) → exec (.bar2Write src o bs) s = .next s) ∧
      (∀ w, bar2Cfg_TBL_APER s = 1 → 0x380000 ≤ o → o + 4 ≤ 0x400000 → o % 4 = 0 → bs = wsBytes [w] →
        exec (.bar2Write src o bs) s = .next (tblPuts (o - 0x380000) [w] s)))
end

