-- ==== Sys2Proof/Laws/Tbl.lean ====
section
/-! SUPPORT. Laws of sparse tables: what a read gives after a write, and that a write keeps the canonical form. -/

namespace Sys2Proof.Machine

variable {α : Type}

/-- A read of what is left above `k` at or below `k` gives the default. -/
theorem tget_tabove_le (d : Nat → α) (k j : Nat) (h : j ≤ k) : ∀ t : Tbl α, tget d (tabove k t) j = d j
  | [] => rfl
  | (i, v) :: t => by
    unfold tabove
    split
    · exact tget_tabove_le d k j h t
    · rename_i hi; simp [tget, show j < i by omega]

/-- A read above `k` does not see what was dropped at or below `k`. -/
theorem tget_tabove_gt (d : Nat → α) (k j : Nat) (h : k < j) : ∀ t : Tbl α, tget d (tabove k t) j = tget d t j
  | [] => rfl
  | (i, v) :: t => by
    unfold tabove
    split
    · rename_i hi
      rw [tget_tabove_gt d k j h t]
      simp [tget, show ¬ j < i by omega, show ¬ j = i by omega]
    · rfl

variable [DecidableEq α]

/-- A read of the key written gives the value written. -/
@[simp] theorem tget_tset_self (d : Nat → α) (k : Nat) (v : α) : ∀ t : Tbl α, tget d (tset d t k v) k = v
  | [] => by unfold tset; split <;> simp_all [tget]
  | (j, w) :: t => by
    unfold tset
    split
    · split <;> simp_all [tget]
    · split
      · rename_i h; subst h
        split
        · rename_i hv; rw [tget_tabove_le d k k (Nat.le_refl k) t, hv]
        · simp [tget]
      · simp only [tget, *, if_false]; exact tget_tset_self d k v t

/-- A write leaves every other key as it was. -/
theorem tget_tset_ne (d : Nat → α) (k i : Nat) (v : α) (h : i ≠ k) : ∀ t : Tbl α, tget d (tset d t k v) i = tget d t i
  | [] => by unfold tset; split <;> simp [tget]; omega
  | (j, w) :: t => by
    unfold tset
    split
    · split
      · rfl
      · simp only [tget]; split
        · simp [show i < j by omega]
        · simp
    · split
      · rename_i hk; subst hk
        split
        · rcases Nat.lt_or_ge i k with hl | hg
          · rw [tget_tabove_le d k i (by omega) t]; simp [tget, hl]
          · rw [tget_tabove_gt d k i (by omega) t]; simp [tget, show ¬ i < k by omega, h]
        · simp [tget, h]
      · simp only [tget]
        split
        · rfl
        · split
          · rfl
          · exact tget_tset_ne d k i v h t

/-- A read after a write, either way. -/
theorem tget_tset (d : Nat → α) (k i : Nat) (v : α) (t : Tbl α) : tget d (tset d t k v) i = if i = k then v else tget d t i := by
  split
  · rename_i h; subst h; exact tget_tset_self d i v t
  · rename_i h; exact tget_tset_ne d k i v h t

omit [DecidableEq α] in
/-- Nothing is dropped below the first key. -/
theorem tabove_cons (k j : Nat) (v : α) (t : Tbl α) (h : k < j) : tabove k ((j, v) :: t) = (j, v) :: t := by
  simp [tabove, show ¬ j ≤ k by omega]

/-- What is canonical above a bound is canonical above a lower one. -/
theorem tcanonFrom_le (d : Nat → α) (b b' : Nat) (h : b' ≤ b) : ∀ t : Tbl α, tcanonFrom d b t = true → tcanonFrom d b' t = true
  | [], _ => rfl
  | (j, v) :: t, hc => by
    simp only [tcanonFrom, Bool.and_eq_true, decide_eq_true_eq] at hc ⊢
    exact ⟨⟨by omega, hc.1.2⟩, hc.2⟩

/-- A table canonical above `k` loses nothing. -/
theorem tabove_canon (d : Nat → α) (k : Nat) : ∀ t : Tbl α, tcanonFrom d (k + 1) t = true → tabove k t = t
  | [], _ => rfl
  | (j, v) :: t, hc => by
    simp only [tcanonFrom, Bool.and_eq_true, decide_eq_true_eq] at hc
    exact tabove_cons k j v t (by omega)

/-- A write at or above the bound keeps the canonical form above it. -/
theorem tcanonFrom_tset (d : Nat → α) (k : Nat) (v : α) :
    ∀ (t : Tbl α) (b : Nat), b ≤ k → tcanonFrom d b t = true → tcanonFrom d b (tset d t k v) = true
  | [], b, hb, _ => by
    unfold tset; split
    · rfl
    · simp [tcanonFrom, *]
  | (j, w) :: t, b, hb, hc => by
    have hc' := hc
    simp only [tcanonFrom, Bool.and_eq_true, decide_eq_true_eq] at hc
    unfold tset
    split
    · split
      · exact hc'
      · simp only [tcanonFrom, Bool.and_eq_true, decide_eq_true_eq]; simp_all <;> omega
    · split
      · rename_i hk; subst hk
        split
        · rw [tabove_canon d k t hc.2]; exact tcanonFrom_le d (k + 1) b (by omega) t hc.2
        · simp [tcanonFrom, *]
      · simp [tcanonFrom, hc.1.1, hc.1.2, tcanonFrom_tset d k v t (j + 1) (by omega) hc.2]

/-- A write keeps the canonical form. -/
theorem tcanon_tset (d : Nat → α) (t : Tbl α) (k : Nat) (v : α) (h : tcanon d t = true) : tcanon d (tset d t k v) = true :=
  tcanonFrom_tset d k v t 0 (Nat.zero_le k) h

/-- Leaving entries out keeps the canonical form. -/
theorem tcanonFrom_filter (d : Nat → α) (p : Nat × α → Bool) : ∀ (t : Tbl α) (b : Nat), tcanonFrom d b t = true → tcanonFrom d b (t.filter p) = true
  | [], _, _ => rfl
  | (j, v) :: t, b, hc => by
    simp only [tcanonFrom, Bool.and_eq_true, decide_eq_true_eq] at hc
    simp only [List.filter_cons]
    split
    · simp [tcanonFrom, hc.1.1, hc.1.2, tcanonFrom_filter d p t (j + 1) hc.2]
    · exact tcanonFrom_le d (j + 1) b (by omega) _ (tcanonFrom_filter d p t (j + 1) hc.2)

end Sys2Proof.Machine
end

