-- ==== Sys2Proof/Laws/State.lean ====
section
/-! SUPPORT. Laws of the updates of the hub: per update, every field it leaves (one conjunction, which simp splits), what it stores,
and every unit's read after it. -/

namespace Sys2Proof.Machine

/-- `setRw` leaves every field but `regs`. -/
@[simp] theorem State.setRw_fields (s : State) (a : Nat) (v : Word) :
    (s.setRw a v).pending = s.pending ∧ (s.setRw a v).st = s.st ∧ (s.setRw a v).clk = s.clk ∧ (s.setRw a v).freeCtr = s.freeCtr ∧
    (s.setRw a v).hdr = s.hdr ∧ (s.setRw a v).locks = s.locks ∧ (s.setRw a v).bad = s.bad ∧ (s.setRw a v).lastRead = s.lastRead ∧
    (s.setRw a v).msi = s.msi ∧ (s.setRw a v).sram = s.sram ∧ (s.setRw a v).dramMem = s.dramMem ∧ (s.setRw a v).tb = s.tb ∧
    (s.setRw a v).ax = s.ax ∧ (s.setRw a v).grids = s.grids ∧ (s.setRw a v).gctl = s.gctl ∧ (s.setRw a v).sched = s.sched ∧
    (s.setRw a v).pwr = s.pwr ∧ (s.setRw a v).bgt = s.bgt ∧ (s.setRw a v).slices = s.slices ∧ (s.setRw a v).mitts = s.mitts ∧
    (s.setRw a v).ctxs = s.ctxs ∧ (s.setRw a v).tails = s.tails ∧ (s.setRw a v).feng = s.feng ∧ (s.setRw a v).align = s.align ∧
    (s.setRw a v).units = s.units ∧ (s.setRw a v).trig = s.trig ∧ (s.setRw a v).recs = s.recs ∧ (s.setRw a v).cmps = s.cmps ∧
    (s.setRw a v).cmpc = s.cmpc ∧ (s.setRw a v).strs = s.strs ∧ (s.setRw a v).store = s.store ∧ (s.setRw a v).ring = s.ring ∧
    (s.setRw a v).eths = s.eths ∧ (s.setRw a v).ulks = s.ulks ∧ (s.setRw a v).dram = s.dram ∧ (s.setRw a v).dma = s.dma ∧
    (s.setRw a v).lanes = s.lanes ∧ (s.setRw a v).tmr = s.tmr ∧ (s.setRw a v).pcie = s.pcie ∧ (s.setRw a v).boot = s.boot ∧
    (s.setRw a v).mgmt = s.mgmt ∧ (s.setRw a v).att = s.att ∧ (s.setRw a v).smp = s.smp ∧ (s.setRw a v).supply = s.supply ∧
    (s.setRw a v).otp = s.otp ∧ (s.setRw a v).cals = s.cals ∧ (s.setRw a v).calctl = s.calctl ∧ (s.setRw a v).loops = s.loops ∧
    (s.setRw a v).loopOld = s.loopOld ∧ (s.setRw a v).tiu = s.tiu ∧ (s.setRw a v).sats = s.sats := by and_intros <;> rfl

@[simp] theorem State.setRw_reads (s : State) (a : Nat) (v : Word) (m : Nat) :
    (s.setRw a v).page m = s.page m ∧ (s.setRw a v).lock m = s.lock m ∧ (s.setRw a v).dom m = s.dom m ∧
    (s.setRw a v).axis m = s.axis m ∧ (s.setRw a v).grid m = s.grid m ∧ (s.setRw a v).slice m = s.slice m ∧
    (s.setRw a v).mitt m = s.mitt m ∧ (s.setRw a v).ctx m = s.ctx m ∧ (s.setRw a v).trigUnit m = s.trigUnit m ∧
    (s.setRw a v).cmp m = s.cmp m ∧ (s.setRw a v).str m = s.str m ∧ (s.setRw a v).lane m = s.lane m ∧
    (s.setRw a v).ulk m = s.ulk m ∧ (s.setRw a v).eth m = s.eth m ∧ (s.setRw a v).dmaCh m = s.dmaCh m ∧
    (s.setRw a v).recSlot m = s.recSlot m ∧ (s.setRw a v).cal m = s.cal m ∧ (s.setRw a v).tch m = s.tch m ∧
    (s.setRw a v).loop m = s.loop m ∧ (s.setRw a v).sramB m = s.sramB m ∧ (s.setRw a v).dramB m = s.dramB m := by and_intros <;> rfl

@[simp] theorem State.rw_setRw (s : State) (a : Nat) (v : Word) (m : Nat) : (s.setRw a v).rw m = if m = a then v else s.rw m :=
  tget_tset regReset a m v _

/-- `setLane` leaves every field but `lanes`. -/
@[simp] theorem State.setLane_fields (s : State) (n : Nat) (v : LaneSt) :
    (s.setLane n v).pending = s.pending ∧ (s.setLane n v).st = s.st ∧ (s.setLane n v).clk = s.clk ∧
    (s.setLane n v).freeCtr = s.freeCtr ∧ (s.setLane n v).regs = s.regs ∧ (s.setLane n v).hdr = s.hdr ∧
    (s.setLane n v).locks = s.locks ∧ (s.setLane n v).bad = s.bad ∧ (s.setLane n v).lastRead = s.lastRead ∧
    (s.setLane n v).msi = s.msi ∧ (s.setLane n v).sram = s.sram ∧ (s.setLane n v).dramMem = s.dramMem ∧ (s.setLane n v).tb = s.tb ∧
    (s.setLane n v).ax = s.ax ∧ (s.setLane n v).grids = s.grids ∧ (s.setLane n v).gctl = s.gctl ∧ (s.setLane n v).sched = s.sched ∧
    (s.setLane n v).pwr = s.pwr ∧ (s.setLane n v).bgt = s.bgt ∧ (s.setLane n v).slices = s.slices ∧
    (s.setLane n v).mitts = s.mitts ∧ (s.setLane n v).ctxs = s.ctxs ∧ (s.setLane n v).tails = s.tails ∧
    (s.setLane n v).feng = s.feng ∧ (s.setLane n v).align = s.align ∧ (s.setLane n v).units = s.units ∧
    (s.setLane n v).trig = s.trig ∧ (s.setLane n v).recs = s.recs ∧ (s.setLane n v).cmps = s.cmps ∧ (s.setLane n v).cmpc = s.cmpc ∧
    (s.setLane n v).strs = s.strs ∧ (s.setLane n v).store = s.store ∧ (s.setLane n v).ring = s.ring ∧
    (s.setLane n v).eths = s.eths ∧ (s.setLane n v).ulks = s.ulks ∧ (s.setLane n v).dram = s.dram ∧ (s.setLane n v).dma = s.dma ∧
    (s.setLane n v).tmr = s.tmr ∧ (s.setLane n v).pcie = s.pcie ∧ (s.setLane n v).boot = s.boot ∧ (s.setLane n v).mgmt = s.mgmt ∧
    (s.setLane n v).att = s.att ∧ (s.setLane n v).smp = s.smp ∧ (s.setLane n v).supply = s.supply ∧ (s.setLane n v).otp = s.otp ∧
    (s.setLane n v).cals = s.cals ∧ (s.setLane n v).calctl = s.calctl ∧ (s.setLane n v).loops = s.loops ∧
    (s.setLane n v).loopOld = s.loopOld ∧ (s.setLane n v).tiu = s.tiu ∧ (s.setLane n v).sats = s.sats := by and_intros <;> rfl

@[simp] theorem State.setLane_reads (s : State) (n : Nat) (v : LaneSt) (m : Nat) :
    (s.setLane n v).rw m = s.rw m ∧ (s.setLane n v).page m = s.page m ∧ (s.setLane n v).lock m = s.lock m ∧
    (s.setLane n v).dom m = s.dom m ∧ (s.setLane n v).axis m = s.axis m ∧ (s.setLane n v).grid m = s.grid m ∧
    (s.setLane n v).slice m = s.slice m ∧ (s.setLane n v).mitt m = s.mitt m ∧ (s.setLane n v).ctx m = s.ctx m ∧
    (s.setLane n v).trigUnit m = s.trigUnit m ∧ (s.setLane n v).cmp m = s.cmp m ∧ (s.setLane n v).str m = s.str m ∧
    (s.setLane n v).ulk m = s.ulk m ∧ (s.setLane n v).eth m = s.eth m ∧ (s.setLane n v).dmaCh m = s.dmaCh m ∧
    (s.setLane n v).recSlot m = s.recSlot m ∧ (s.setLane n v).cal m = s.cal m ∧ (s.setLane n v).tch m = s.tch m ∧
    (s.setLane n v).loop m = s.loop m ∧ (s.setLane n v).sramB m = s.sramB m ∧ (s.setLane n v).dramB m = s.dramB m := by and_intros <;> rfl

@[simp] theorem State.lane_setLane (s : State) (n : Nat) (v : LaneSt) (m : Nat) : (s.setLane n v).lane m = if m = n then v else s.lane m :=
  tget_tset lane0 n m v _

/-- `setUlk` leaves every field but `ulks`. -/
@[simp] theorem State.setUlk_fields (s : State) (n : Nat) (v : UlkSt) :
    (s.setUlk n v).pending = s.pending ∧ (s.setUlk n v).st = s.st ∧ (s.setUlk n v).clk = s.clk ∧
    (s.setUlk n v).freeCtr = s.freeCtr ∧ (s.setUlk n v).regs = s.regs ∧ (s.setUlk n v).hdr = s.hdr ∧
    (s.setUlk n v).locks = s.locks ∧ (s.setUlk n v).bad = s.bad ∧ (s.setUlk n v).lastRead = s.lastRead ∧
    (s.setUlk n v).msi = s.msi ∧ (s.setUlk n v).sram = s.sram ∧ (s.setUlk n v).dramMem = s.dramMem ∧ (s.setUlk n v).tb = s.tb ∧
    (s.setUlk n v).ax = s.ax ∧ (s.setUlk n v).grids = s.grids ∧ (s.setUlk n v).gctl = s.gctl ∧ (s.setUlk n v).sched = s.sched ∧
    (s.setUlk n v).pwr = s.pwr ∧ (s.setUlk n v).bgt = s.bgt ∧ (s.setUlk n v).slices = s.slices ∧ (s.setUlk n v).mitts = s.mitts ∧
    (s.setUlk n v).ctxs = s.ctxs ∧ (s.setUlk n v).tails = s.tails ∧ (s.setUlk n v).feng = s.feng ∧ (s.setUlk n v).align = s.align ∧
    (s.setUlk n v).units = s.units ∧ (s.setUlk n v).trig = s.trig ∧ (s.setUlk n v).recs = s.recs ∧ (s.setUlk n v).cmps = s.cmps ∧
    (s.setUlk n v).cmpc = s.cmpc ∧ (s.setUlk n v).strs = s.strs ∧ (s.setUlk n v).store = s.store ∧ (s.setUlk n v).ring = s.ring ∧
    (s.setUlk n v).eths = s.eths ∧ (s.setUlk n v).dram = s.dram ∧ (s.setUlk n v).dma = s.dma ∧ (s.setUlk n v).lanes = s.lanes ∧
    (s.setUlk n v).tmr = s.tmr ∧ (s.setUlk n v).pcie = s.pcie ∧ (s.setUlk n v).boot = s.boot ∧ (s.setUlk n v).mgmt = s.mgmt ∧
    (s.setUlk n v).att = s.att ∧ (s.setUlk n v).smp = s.smp ∧ (s.setUlk n v).supply = s.supply ∧ (s.setUlk n v).otp = s.otp ∧
    (s.setUlk n v).cals = s.cals ∧ (s.setUlk n v).calctl = s.calctl ∧ (s.setUlk n v).loops = s.loops ∧
    (s.setUlk n v).loopOld = s.loopOld ∧ (s.setUlk n v).tiu = s.tiu ∧ (s.setUlk n v).sats = s.sats := by and_intros <;> rfl

@[simp] theorem State.setUlk_reads (s : State) (n : Nat) (v : UlkSt) (m : Nat) :
    (s.setUlk n v).rw m = s.rw m ∧ (s.setUlk n v).page m = s.page m ∧ (s.setUlk n v).lock m = s.lock m ∧
    (s.setUlk n v).dom m = s.dom m ∧ (s.setUlk n v).axis m = s.axis m ∧ (s.setUlk n v).grid m = s.grid m ∧
    (s.setUlk n v).slice m = s.slice m ∧ (s.setUlk n v).mitt m = s.mitt m ∧ (s.setUlk n v).ctx m = s.ctx m ∧
    (s.setUlk n v).trigUnit m = s.trigUnit m ∧ (s.setUlk n v).cmp m = s.cmp m ∧ (s.setUlk n v).str m = s.str m ∧
    (s.setUlk n v).lane m = s.lane m ∧ (s.setUlk n v).eth m = s.eth m ∧ (s.setUlk n v).dmaCh m = s.dmaCh m ∧
    (s.setUlk n v).recSlot m = s.recSlot m ∧ (s.setUlk n v).cal m = s.cal m ∧ (s.setUlk n v).tch m = s.tch m ∧
    (s.setUlk n v).loop m = s.loop m ∧ (s.setUlk n v).sramB m = s.sramB m ∧ (s.setUlk n v).dramB m = s.dramB m := by and_intros <;> rfl

@[simp] theorem State.ulk_setUlk (s : State) (n : Nat) (v : UlkSt) (m : Nat) : (s.setUlk n v).ulk m = if m = n then v else s.ulk m :=
  tget_tset ulk0 n m v _

/-- `setEth` leaves every field but `eths`. -/
@[simp] theorem State.setEth_fields (s : State) (n : Nat) (v : EthSt) :
    (s.setEth n v).pending = s.pending ∧ (s.setEth n v).st = s.st ∧ (s.setEth n v).clk = s.clk ∧
    (s.setEth n v).freeCtr = s.freeCtr ∧ (s.setEth n v).regs = s.regs ∧ (s.setEth n v).hdr = s.hdr ∧
    (s.setEth n v).locks = s.locks ∧ (s.setEth n v).bad = s.bad ∧ (s.setEth n v).lastRead = s.lastRead ∧
    (s.setEth n v).msi = s.msi ∧ (s.setEth n v).sram = s.sram ∧ (s.setEth n v).dramMem = s.dramMem ∧ (s.setEth n v).tb = s.tb ∧
    (s.setEth n v).ax = s.ax ∧ (s.setEth n v).grids = s.grids ∧ (s.setEth n v).gctl = s.gctl ∧ (s.setEth n v).sched = s.sched ∧
    (s.setEth n v).pwr = s.pwr ∧ (s.setEth n v).bgt = s.bgt ∧ (s.setEth n v).slices = s.slices ∧ (s.setEth n v).mitts = s.mitts ∧
    (s.setEth n v).ctxs = s.ctxs ∧ (s.setEth n v).tails = s.tails ∧ (s.setEth n v).feng = s.feng ∧ (s.setEth n v).align = s.align ∧
    (s.setEth n v).units = s.units ∧ (s.setEth n v).trig = s.trig ∧ (s.setEth n v).recs = s.recs ∧ (s.setEth n v).cmps = s.cmps ∧
    (s.setEth n v).cmpc = s.cmpc ∧ (s.setEth n v).strs = s.strs ∧ (s.setEth n v).store = s.store ∧ (s.setEth n v).ring = s.ring ∧
    (s.setEth n v).ulks = s.ulks ∧ (s.setEth n v).dram = s.dram ∧ (s.setEth n v).dma = s.dma ∧ (s.setEth n v).lanes = s.lanes ∧
    (s.setEth n v).tmr = s.tmr ∧ (s.setEth n v).pcie = s.pcie ∧ (s.setEth n v).boot = s.boot ∧ (s.setEth n v).mgmt = s.mgmt ∧
    (s.setEth n v).att = s.att ∧ (s.setEth n v).smp = s.smp ∧ (s.setEth n v).supply = s.supply ∧ (s.setEth n v).otp = s.otp ∧
    (s.setEth n v).cals = s.cals ∧ (s.setEth n v).calctl = s.calctl ∧ (s.setEth n v).loops = s.loops ∧
    (s.setEth n v).loopOld = s.loopOld ∧ (s.setEth n v).tiu = s.tiu ∧ (s.setEth n v).sats = s.sats := by and_intros <;> rfl

@[simp] theorem State.setEth_reads (s : State) (n : Nat) (v : EthSt) (m : Nat) :
    (s.setEth n v).rw m = s.rw m ∧ (s.setEth n v).page m = s.page m ∧ (s.setEth n v).lock m = s.lock m ∧
    (s.setEth n v).dom m = s.dom m ∧ (s.setEth n v).axis m = s.axis m ∧ (s.setEth n v).grid m = s.grid m ∧
    (s.setEth n v).slice m = s.slice m ∧ (s.setEth n v).mitt m = s.mitt m ∧ (s.setEth n v).ctx m = s.ctx m ∧
    (s.setEth n v).trigUnit m = s.trigUnit m ∧ (s.setEth n v).cmp m = s.cmp m ∧ (s.setEth n v).str m = s.str m ∧
    (s.setEth n v).lane m = s.lane m ∧ (s.setEth n v).ulk m = s.ulk m ∧ (s.setEth n v).dmaCh m = s.dmaCh m ∧
    (s.setEth n v).recSlot m = s.recSlot m ∧ (s.setEth n v).cal m = s.cal m ∧ (s.setEth n v).tch m = s.tch m ∧
    (s.setEth n v).loop m = s.loop m ∧ (s.setEth n v).sramB m = s.sramB m ∧ (s.setEth n v).dramB m = s.dramB m := by and_intros <;> rfl

@[simp] theorem State.eth_setEth (s : State) (n : Nat) (v : EthSt) (m : Nat) : (s.setEth n v).eth m = if m = n then v else s.eth m :=
  tget_tset eth0 n m v _

/-- `setDma` leaves every field but `dma`. -/
@[simp] theorem State.setDma_fields (s : State) (n : Nat) (v : DmaCh) :
    (s.setDma n v).pending = s.pending ∧ (s.setDma n v).st = s.st ∧ (s.setDma n v).clk = s.clk ∧
    (s.setDma n v).freeCtr = s.freeCtr ∧ (s.setDma n v).regs = s.regs ∧ (s.setDma n v).hdr = s.hdr ∧
    (s.setDma n v).locks = s.locks ∧ (s.setDma n v).bad = s.bad ∧ (s.setDma n v).lastRead = s.lastRead ∧
    (s.setDma n v).msi = s.msi ∧ (s.setDma n v).sram = s.sram ∧ (s.setDma n v).dramMem = s.dramMem ∧ (s.setDma n v).tb = s.tb ∧
    (s.setDma n v).ax = s.ax ∧ (s.setDma n v).grids = s.grids ∧ (s.setDma n v).gctl = s.gctl ∧ (s.setDma n v).sched = s.sched ∧
    (s.setDma n v).pwr = s.pwr ∧ (s.setDma n v).bgt = s.bgt ∧ (s.setDma n v).slices = s.slices ∧ (s.setDma n v).mitts = s.mitts ∧
    (s.setDma n v).ctxs = s.ctxs ∧ (s.setDma n v).tails = s.tails ∧ (s.setDma n v).feng = s.feng ∧ (s.setDma n v).align = s.align ∧
    (s.setDma n v).units = s.units ∧ (s.setDma n v).trig = s.trig ∧ (s.setDma n v).recs = s.recs ∧ (s.setDma n v).cmps = s.cmps ∧
    (s.setDma n v).cmpc = s.cmpc ∧ (s.setDma n v).strs = s.strs ∧ (s.setDma n v).store = s.store ∧ (s.setDma n v).ring = s.ring ∧
    (s.setDma n v).eths = s.eths ∧ (s.setDma n v).ulks = s.ulks ∧ (s.setDma n v).dram = s.dram ∧ (s.setDma n v).lanes = s.lanes ∧
    (s.setDma n v).tmr = s.tmr ∧ (s.setDma n v).pcie = s.pcie ∧ (s.setDma n v).boot = s.boot ∧ (s.setDma n v).mgmt = s.mgmt ∧
    (s.setDma n v).att = s.att ∧ (s.setDma n v).smp = s.smp ∧ (s.setDma n v).supply = s.supply ∧ (s.setDma n v).otp = s.otp ∧
    (s.setDma n v).cals = s.cals ∧ (s.setDma n v).calctl = s.calctl ∧ (s.setDma n v).loops = s.loops ∧
    (s.setDma n v).loopOld = s.loopOld ∧ (s.setDma n v).tiu = s.tiu ∧ (s.setDma n v).sats = s.sats := by and_intros <;> rfl

@[simp] theorem State.setDma_reads (s : State) (n : Nat) (v : DmaCh) (m : Nat) :
    (s.setDma n v).rw m = s.rw m ∧ (s.setDma n v).page m = s.page m ∧ (s.setDma n v).lock m = s.lock m ∧
    (s.setDma n v).dom m = s.dom m ∧ (s.setDma n v).axis m = s.axis m ∧ (s.setDma n v).grid m = s.grid m ∧
    (s.setDma n v).slice m = s.slice m ∧ (s.setDma n v).mitt m = s.mitt m ∧ (s.setDma n v).ctx m = s.ctx m ∧
    (s.setDma n v).trigUnit m = s.trigUnit m ∧ (s.setDma n v).cmp m = s.cmp m ∧ (s.setDma n v).str m = s.str m ∧
    (s.setDma n v).lane m = s.lane m ∧ (s.setDma n v).ulk m = s.ulk m ∧ (s.setDma n v).eth m = s.eth m ∧
    (s.setDma n v).recSlot m = s.recSlot m ∧ (s.setDma n v).cal m = s.cal m ∧ (s.setDma n v).tch m = s.tch m ∧
    (s.setDma n v).loop m = s.loop m ∧ (s.setDma n v).sramB m = s.sramB m ∧ (s.setDma n v).dramB m = s.dramB m := by and_intros <;> rfl

@[simp] theorem State.dmaCh_setDma (s : State) (n : Nat) (v : DmaCh) (m : Nat) : (s.setDma n v).dmaCh m = if m = n then v else s.dmaCh m :=
  tget_tset dma0 n m v _

/-- `setTch` leaves every field but `tiu`. -/
@[simp] theorem State.setTch_fields (s : State) (n : Nat) (v : TiuCh) :
    (s.setTch n v).pending = s.pending ∧ (s.setTch n v).st = s.st ∧ (s.setTch n v).clk = s.clk ∧
    (s.setTch n v).freeCtr = s.freeCtr ∧ (s.setTch n v).regs = s.regs ∧ (s.setTch n v).hdr = s.hdr ∧
    (s.setTch n v).locks = s.locks ∧ (s.setTch n v).bad = s.bad ∧ (s.setTch n v).lastRead = s.lastRead ∧
    (s.setTch n v).msi = s.msi ∧ (s.setTch n v).sram = s.sram ∧ (s.setTch n v).dramMem = s.dramMem ∧ (s.setTch n v).tb = s.tb ∧
    (s.setTch n v).ax = s.ax ∧ (s.setTch n v).grids = s.grids ∧ (s.setTch n v).gctl = s.gctl ∧ (s.setTch n v).sched = s.sched ∧
    (s.setTch n v).pwr = s.pwr ∧ (s.setTch n v).bgt = s.bgt ∧ (s.setTch n v).slices = s.slices ∧ (s.setTch n v).mitts = s.mitts ∧
    (s.setTch n v).ctxs = s.ctxs ∧ (s.setTch n v).tails = s.tails ∧ (s.setTch n v).feng = s.feng ∧ (s.setTch n v).align = s.align ∧
    (s.setTch n v).units = s.units ∧ (s.setTch n v).trig = s.trig ∧ (s.setTch n v).recs = s.recs ∧ (s.setTch n v).cmps = s.cmps ∧
    (s.setTch n v).cmpc = s.cmpc ∧ (s.setTch n v).strs = s.strs ∧ (s.setTch n v).store = s.store ∧ (s.setTch n v).ring = s.ring ∧
    (s.setTch n v).eths = s.eths ∧ (s.setTch n v).ulks = s.ulks ∧ (s.setTch n v).dram = s.dram ∧ (s.setTch n v).dma = s.dma ∧
    (s.setTch n v).lanes = s.lanes ∧ (s.setTch n v).tmr = s.tmr ∧ (s.setTch n v).pcie = s.pcie ∧ (s.setTch n v).boot = s.boot ∧
    (s.setTch n v).mgmt = s.mgmt ∧ (s.setTch n v).att = s.att ∧ (s.setTch n v).smp = s.smp ∧ (s.setTch n v).supply = s.supply ∧
    (s.setTch n v).otp = s.otp ∧ (s.setTch n v).cals = s.cals ∧ (s.setTch n v).calctl = s.calctl ∧ (s.setTch n v).loops = s.loops ∧
    (s.setTch n v).loopOld = s.loopOld ∧ (s.setTch n v).sats = s.sats := by and_intros <;> rfl

@[simp] theorem State.setTch_reads (s : State) (n : Nat) (v : TiuCh) (m : Nat) :
    (s.setTch n v).rw m = s.rw m ∧ (s.setTch n v).page m = s.page m ∧ (s.setTch n v).lock m = s.lock m ∧
    (s.setTch n v).dom m = s.dom m ∧ (s.setTch n v).axis m = s.axis m ∧ (s.setTch n v).grid m = s.grid m ∧
    (s.setTch n v).slice m = s.slice m ∧ (s.setTch n v).mitt m = s.mitt m ∧ (s.setTch n v).ctx m = s.ctx m ∧
    (s.setTch n v).trigUnit m = s.trigUnit m ∧ (s.setTch n v).cmp m = s.cmp m ∧ (s.setTch n v).str m = s.str m ∧
    (s.setTch n v).lane m = s.lane m ∧ (s.setTch n v).ulk m = s.ulk m ∧ (s.setTch n v).eth m = s.eth m ∧
    (s.setTch n v).dmaCh m = s.dmaCh m ∧ (s.setTch n v).recSlot m = s.recSlot m ∧ (s.setTch n v).cal m = s.cal m ∧
    (s.setTch n v).loop m = s.loop m ∧ (s.setTch n v).sramB m = s.sramB m ∧ (s.setTch n v).dramB m = s.dramB m := by and_intros <;> rfl

@[simp] theorem State.tch_setTch (s : State) (n : Nat) (v : TiuCh) (m : Nat) : (s.setTch n v).tch m = if m = n then v else s.tch m :=
  tget_tset tiu0 n m v _

/-- `setCal` leaves every field but `cals`. -/
@[simp] theorem State.setCal_fields (s : State) (n : Nat) (v : CalSl) :
    (s.setCal n v).pending = s.pending ∧ (s.setCal n v).st = s.st ∧ (s.setCal n v).clk = s.clk ∧
    (s.setCal n v).freeCtr = s.freeCtr ∧ (s.setCal n v).regs = s.regs ∧ (s.setCal n v).hdr = s.hdr ∧
    (s.setCal n v).locks = s.locks ∧ (s.setCal n v).bad = s.bad ∧ (s.setCal n v).lastRead = s.lastRead ∧
    (s.setCal n v).msi = s.msi ∧ (s.setCal n v).sram = s.sram ∧ (s.setCal n v).dramMem = s.dramMem ∧ (s.setCal n v).tb = s.tb ∧
    (s.setCal n v).ax = s.ax ∧ (s.setCal n v).grids = s.grids ∧ (s.setCal n v).gctl = s.gctl ∧ (s.setCal n v).sched = s.sched ∧
    (s.setCal n v).pwr = s.pwr ∧ (s.setCal n v).bgt = s.bgt ∧ (s.setCal n v).slices = s.slices ∧ (s.setCal n v).mitts = s.mitts ∧
    (s.setCal n v).ctxs = s.ctxs ∧ (s.setCal n v).tails = s.tails ∧ (s.setCal n v).feng = s.feng ∧ (s.setCal n v).align = s.align ∧
    (s.setCal n v).units = s.units ∧ (s.setCal n v).trig = s.trig ∧ (s.setCal n v).recs = s.recs ∧ (s.setCal n v).cmps = s.cmps ∧
    (s.setCal n v).cmpc = s.cmpc ∧ (s.setCal n v).strs = s.strs ∧ (s.setCal n v).store = s.store ∧ (s.setCal n v).ring = s.ring ∧
    (s.setCal n v).eths = s.eths ∧ (s.setCal n v).ulks = s.ulks ∧ (s.setCal n v).dram = s.dram ∧ (s.setCal n v).dma = s.dma ∧
    (s.setCal n v).lanes = s.lanes ∧ (s.setCal n v).tmr = s.tmr ∧ (s.setCal n v).pcie = s.pcie ∧ (s.setCal n v).boot = s.boot ∧
    (s.setCal n v).mgmt = s.mgmt ∧ (s.setCal n v).att = s.att ∧ (s.setCal n v).smp = s.smp ∧ (s.setCal n v).supply = s.supply ∧
    (s.setCal n v).otp = s.otp ∧ (s.setCal n v).calctl = s.calctl ∧ (s.setCal n v).loops = s.loops ∧
    (s.setCal n v).loopOld = s.loopOld ∧ (s.setCal n v).tiu = s.tiu ∧ (s.setCal n v).sats = s.sats := by and_intros <;> rfl

@[simp] theorem State.setCal_reads (s : State) (n : Nat) (v : CalSl) (m : Nat) :
    (s.setCal n v).rw m = s.rw m ∧ (s.setCal n v).page m = s.page m ∧ (s.setCal n v).lock m = s.lock m ∧
    (s.setCal n v).dom m = s.dom m ∧ (s.setCal n v).axis m = s.axis m ∧ (s.setCal n v).grid m = s.grid m ∧
    (s.setCal n v).slice m = s.slice m ∧ (s.setCal n v).mitt m = s.mitt m ∧ (s.setCal n v).ctx m = s.ctx m ∧
    (s.setCal n v).trigUnit m = s.trigUnit m ∧ (s.setCal n v).cmp m = s.cmp m ∧ (s.setCal n v).str m = s.str m ∧
    (s.setCal n v).lane m = s.lane m ∧ (s.setCal n v).ulk m = s.ulk m ∧ (s.setCal n v).eth m = s.eth m ∧
    (s.setCal n v).dmaCh m = s.dmaCh m ∧ (s.setCal n v).recSlot m = s.recSlot m ∧ (s.setCal n v).tch m = s.tch m ∧
    (s.setCal n v).loop m = s.loop m ∧ (s.setCal n v).sramB m = s.sramB m ∧ (s.setCal n v).dramB m = s.dramB m := by and_intros <;> rfl

@[simp] theorem State.cal_setCal (s : State) (n : Nat) (v : CalSl) (m : Nat) : (s.setCal n v).cal m = if m = n then v else s.cal m :=
  tget_tset cal0 n m v _

/-- `setLoop` leaves every field but `loops`. -/
@[simp] theorem State.setLoop_fields (s : State) (n : Nat) (v : LoopSt) :
    (s.setLoop n v).pending = s.pending ∧ (s.setLoop n v).st = s.st ∧ (s.setLoop n v).clk = s.clk ∧
    (s.setLoop n v).freeCtr = s.freeCtr ∧ (s.setLoop n v).regs = s.regs ∧ (s.setLoop n v).hdr = s.hdr ∧
    (s.setLoop n v).locks = s.locks ∧ (s.setLoop n v).bad = s.bad ∧ (s.setLoop n v).lastRead = s.lastRead ∧
    (s.setLoop n v).msi = s.msi ∧ (s.setLoop n v).sram = s.sram ∧ (s.setLoop n v).dramMem = s.dramMem ∧ (s.setLoop n v).tb = s.tb ∧
    (s.setLoop n v).ax = s.ax ∧ (s.setLoop n v).grids = s.grids ∧ (s.setLoop n v).gctl = s.gctl ∧ (s.setLoop n v).sched = s.sched ∧
    (s.setLoop n v).pwr = s.pwr ∧ (s.setLoop n v).bgt = s.bgt ∧ (s.setLoop n v).slices = s.slices ∧
    (s.setLoop n v).mitts = s.mitts ∧ (s.setLoop n v).ctxs = s.ctxs ∧ (s.setLoop n v).tails = s.tails ∧
    (s.setLoop n v).feng = s.feng ∧ (s.setLoop n v).align = s.align ∧ (s.setLoop n v).units = s.units ∧
    (s.setLoop n v).trig = s.trig ∧ (s.setLoop n v).recs = s.recs ∧ (s.setLoop n v).cmps = s.cmps ∧ (s.setLoop n v).cmpc = s.cmpc ∧
    (s.setLoop n v).strs = s.strs ∧ (s.setLoop n v).store = s.store ∧ (s.setLoop n v).ring = s.ring ∧
    (s.setLoop n v).eths = s.eths ∧ (s.setLoop n v).ulks = s.ulks ∧ (s.setLoop n v).dram = s.dram ∧ (s.setLoop n v).dma = s.dma ∧
    (s.setLoop n v).lanes = s.lanes ∧ (s.setLoop n v).tmr = s.tmr ∧ (s.setLoop n v).pcie = s.pcie ∧ (s.setLoop n v).boot = s.boot ∧
    (s.setLoop n v).mgmt = s.mgmt ∧ (s.setLoop n v).att = s.att ∧ (s.setLoop n v).smp = s.smp ∧ (s.setLoop n v).supply = s.supply ∧
    (s.setLoop n v).otp = s.otp ∧ (s.setLoop n v).cals = s.cals ∧ (s.setLoop n v).calctl = s.calctl ∧
    (s.setLoop n v).loopOld = s.loopOld ∧ (s.setLoop n v).tiu = s.tiu ∧ (s.setLoop n v).sats = s.sats := by and_intros <;> rfl

@[simp] theorem State.setLoop_reads (s : State) (n : Nat) (v : LoopSt) (m : Nat) :
    (s.setLoop n v).rw m = s.rw m ∧ (s.setLoop n v).page m = s.page m ∧ (s.setLoop n v).lock m = s.lock m ∧
    (s.setLoop n v).dom m = s.dom m ∧ (s.setLoop n v).axis m = s.axis m ∧ (s.setLoop n v).grid m = s.grid m ∧
    (s.setLoop n v).slice m = s.slice m ∧ (s.setLoop n v).mitt m = s.mitt m ∧ (s.setLoop n v).ctx m = s.ctx m ∧
    (s.setLoop n v).trigUnit m = s.trigUnit m ∧ (s.setLoop n v).cmp m = s.cmp m ∧ (s.setLoop n v).str m = s.str m ∧
    (s.setLoop n v).lane m = s.lane m ∧ (s.setLoop n v).ulk m = s.ulk m ∧ (s.setLoop n v).eth m = s.eth m ∧
    (s.setLoop n v).dmaCh m = s.dmaCh m ∧ (s.setLoop n v).recSlot m = s.recSlot m ∧ (s.setLoop n v).cal m = s.cal m ∧
    (s.setLoop n v).tch m = s.tch m ∧ (s.setLoop n v).sramB m = s.sramB m ∧ (s.setLoop n v).dramB m = s.dramB m := by and_intros <;> rfl

@[simp] theorem State.loop_setLoop (s : State) (n : Nat) (v : LoopSt) (m : Nat) : (s.setLoop n v).loop m = if m = n then v else s.loop m :=
  tget_tset loop0 n m v _

/-- `setPage` leaves every field but `hdr`. -/
@[simp] theorem State.setPage_fields (s : State) (p : Nat) (h : PageHdr) :
    (s.setPage p h).pending = s.pending ∧ (s.setPage p h).st = s.st ∧ (s.setPage p h).clk = s.clk ∧
    (s.setPage p h).freeCtr = s.freeCtr ∧ (s.setPage p h).regs = s.regs ∧ (s.setPage p h).locks = s.locks ∧
    (s.setPage p h).bad = s.bad ∧ (s.setPage p h).lastRead = s.lastRead ∧ (s.setPage p h).msi = s.msi ∧
    (s.setPage p h).sram = s.sram ∧ (s.setPage p h).dramMem = s.dramMem ∧ (s.setPage p h).tb = s.tb ∧ (s.setPage p h).ax = s.ax ∧
    (s.setPage p h).grids = s.grids ∧ (s.setPage p h).gctl = s.gctl ∧ (s.setPage p h).sched = s.sched ∧
    (s.setPage p h).pwr = s.pwr ∧ (s.setPage p h).bgt = s.bgt ∧ (s.setPage p h).slices = s.slices ∧
    (s.setPage p h).mitts = s.mitts ∧ (s.setPage p h).ctxs = s.ctxs ∧ (s.setPage p h).tails = s.tails ∧
    (s.setPage p h).feng = s.feng ∧ (s.setPage p h).align = s.align ∧ (s.setPage p h).units = s.units ∧
    (s.setPage p h).trig = s.trig ∧ (s.setPage p h).recs = s.recs ∧ (s.setPage p h).cmps = s.cmps ∧ (s.setPage p h).cmpc = s.cmpc ∧
    (s.setPage p h).strs = s.strs ∧ (s.setPage p h).store = s.store ∧ (s.setPage p h).ring = s.ring ∧
    (s.setPage p h).eths = s.eths ∧ (s.setPage p h).ulks = s.ulks ∧ (s.setPage p h).dram = s.dram ∧ (s.setPage p h).dma = s.dma ∧
    (s.setPage p h).lanes = s.lanes ∧ (s.setPage p h).tmr = s.tmr ∧ (s.setPage p h).pcie = s.pcie ∧ (s.setPage p h).boot = s.boot ∧
    (s.setPage p h).mgmt = s.mgmt ∧ (s.setPage p h).att = s.att ∧ (s.setPage p h).smp = s.smp ∧ (s.setPage p h).supply = s.supply ∧
    (s.setPage p h).otp = s.otp ∧ (s.setPage p h).cals = s.cals ∧ (s.setPage p h).calctl = s.calctl ∧
    (s.setPage p h).loops = s.loops ∧ (s.setPage p h).loopOld = s.loopOld ∧ (s.setPage p h).tiu = s.tiu ∧
    (s.setPage p h).sats = s.sats := by and_intros <;> rfl

@[simp] theorem State.setPage_reads (s : State) (p : Nat) (h : PageHdr) (m : Nat) :
    (s.setPage p h).rw m = s.rw m ∧ (s.setPage p h).lock m = s.lock m ∧ (s.setPage p h).dom m = s.dom m ∧
    (s.setPage p h).axis m = s.axis m ∧ (s.setPage p h).grid m = s.grid m ∧ (s.setPage p h).slice m = s.slice m ∧
    (s.setPage p h).mitt m = s.mitt m ∧ (s.setPage p h).ctx m = s.ctx m ∧ (s.setPage p h).trigUnit m = s.trigUnit m ∧
    (s.setPage p h).cmp m = s.cmp m ∧ (s.setPage p h).str m = s.str m ∧ (s.setPage p h).lane m = s.lane m ∧
    (s.setPage p h).ulk m = s.ulk m ∧ (s.setPage p h).eth m = s.eth m ∧ (s.setPage p h).dmaCh m = s.dmaCh m ∧
    (s.setPage p h).recSlot m = s.recSlot m ∧ (s.setPage p h).cal m = s.cal m ∧ (s.setPage p h).tch m = s.tch m ∧
    (s.setPage p h).loop m = s.loop m ∧ (s.setPage p h).sramB m = s.sramB m ∧ (s.setPage p h).dramB m = s.dramB m := by and_intros <;> rfl

@[simp] theorem State.page_setPage (s : State) (p : Nat) (h : PageHdr) (m : Nat) : (s.setPage p h).page m = if m = p then h else s.page m :=
  tget_tset hdr0 p m h _

/-- `setLock` leaves every field but `locks`. -/
@[simp] theorem State.setLock_fields (s : State) (p : Nat) (l : PageLock) :
    (s.setLock p l).pending = s.pending ∧ (s.setLock p l).st = s.st ∧ (s.setLock p l).clk = s.clk ∧
    (s.setLock p l).freeCtr = s.freeCtr ∧ (s.setLock p l).regs = s.regs ∧ (s.setLock p l).hdr = s.hdr ∧
    (s.setLock p l).bad = s.bad ∧ (s.setLock p l).lastRead = s.lastRead ∧ (s.setLock p l).msi = s.msi ∧
    (s.setLock p l).sram = s.sram ∧ (s.setLock p l).dramMem = s.dramMem ∧ (s.setLock p l).tb = s.tb ∧ (s.setLock p l).ax = s.ax ∧
    (s.setLock p l).grids = s.grids ∧ (s.setLock p l).gctl = s.gctl ∧ (s.setLock p l).sched = s.sched ∧
    (s.setLock p l).pwr = s.pwr ∧ (s.setLock p l).bgt = s.bgt ∧ (s.setLock p l).slices = s.slices ∧
    (s.setLock p l).mitts = s.mitts ∧ (s.setLock p l).ctxs = s.ctxs ∧ (s.setLock p l).tails = s.tails ∧
    (s.setLock p l).feng = s.feng ∧ (s.setLock p l).align = s.align ∧ (s.setLock p l).units = s.units ∧
    (s.setLock p l).trig = s.trig ∧ (s.setLock p l).recs = s.recs ∧ (s.setLock p l).cmps = s.cmps ∧ (s.setLock p l).cmpc = s.cmpc ∧
    (s.setLock p l).strs = s.strs ∧ (s.setLock p l).store = s.store ∧ (s.setLock p l).ring = s.ring ∧
    (s.setLock p l).eths = s.eths ∧ (s.setLock p l).ulks = s.ulks ∧ (s.setLock p l).dram = s.dram ∧ (s.setLock p l).dma = s.dma ∧
    (s.setLock p l).lanes = s.lanes ∧ (s.setLock p l).tmr = s.tmr ∧ (s.setLock p l).pcie = s.pcie ∧ (s.setLock p l).boot = s.boot ∧
    (s.setLock p l).mgmt = s.mgmt ∧ (s.setLock p l).att = s.att ∧ (s.setLock p l).smp = s.smp ∧ (s.setLock p l).supply = s.supply ∧
    (s.setLock p l).otp = s.otp ∧ (s.setLock p l).cals = s.cals ∧ (s.setLock p l).calctl = s.calctl ∧
    (s.setLock p l).loops = s.loops ∧ (s.setLock p l).loopOld = s.loopOld ∧ (s.setLock p l).tiu = s.tiu ∧
    (s.setLock p l).sats = s.sats := by and_intros <;> rfl

@[simp] theorem State.setLock_reads (s : State) (p : Nat) (l : PageLock) (m : Nat) :
    (s.setLock p l).rw m = s.rw m ∧ (s.setLock p l).page m = s.page m ∧ (s.setLock p l).dom m = s.dom m ∧
    (s.setLock p l).axis m = s.axis m ∧ (s.setLock p l).grid m = s.grid m ∧ (s.setLock p l).slice m = s.slice m ∧
    (s.setLock p l).mitt m = s.mitt m ∧ (s.setLock p l).ctx m = s.ctx m ∧ (s.setLock p l).trigUnit m = s.trigUnit m ∧
    (s.setLock p l).cmp m = s.cmp m ∧ (s.setLock p l).str m = s.str m ∧ (s.setLock p l).lane m = s.lane m ∧
    (s.setLock p l).ulk m = s.ulk m ∧ (s.setLock p l).eth m = s.eth m ∧ (s.setLock p l).dmaCh m = s.dmaCh m ∧
    (s.setLock p l).recSlot m = s.recSlot m ∧ (s.setLock p l).cal m = s.cal m ∧ (s.setLock p l).tch m = s.tch m ∧
    (s.setLock p l).loop m = s.loop m ∧ (s.setLock p l).sramB m = s.sramB m ∧ (s.setLock p l).dramB m = s.dramB m := by and_intros <;> rfl

@[simp] theorem State.lock_setLock (s : State) (p : Nat) (l : PageLock) (m : Nat) : (s.setLock p l).lock m = if m = p then l else s.lock m :=
  tget_tset lock0 p m l _

/-- `setDom` leaves every field but `pwr`. -/
@[simp] theorem State.setDom_fields (s : State) (d : Nat) (v : DomSt) :
    (s.setDom d v).pending = s.pending ∧ (s.setDom d v).st = s.st ∧ (s.setDom d v).clk = s.clk ∧
    (s.setDom d v).freeCtr = s.freeCtr ∧ (s.setDom d v).regs = s.regs ∧ (s.setDom d v).hdr = s.hdr ∧
    (s.setDom d v).locks = s.locks ∧ (s.setDom d v).bad = s.bad ∧ (s.setDom d v).lastRead = s.lastRead ∧
    (s.setDom d v).msi = s.msi ∧ (s.setDom d v).sram = s.sram ∧ (s.setDom d v).dramMem = s.dramMem ∧ (s.setDom d v).tb = s.tb ∧
    (s.setDom d v).ax = s.ax ∧ (s.setDom d v).grids = s.grids ∧ (s.setDom d v).gctl = s.gctl ∧ (s.setDom d v).sched = s.sched ∧
    (s.setDom d v).bgt = s.bgt ∧ (s.setDom d v).slices = s.slices ∧ (s.setDom d v).mitts = s.mitts ∧ (s.setDom d v).ctxs = s.ctxs ∧
    (s.setDom d v).tails = s.tails ∧ (s.setDom d v).feng = s.feng ∧ (s.setDom d v).align = s.align ∧
    (s.setDom d v).units = s.units ∧ (s.setDom d v).trig = s.trig ∧ (s.setDom d v).recs = s.recs ∧ (s.setDom d v).cmps = s.cmps ∧
    (s.setDom d v).cmpc = s.cmpc ∧ (s.setDom d v).strs = s.strs ∧ (s.setDom d v).store = s.store ∧ (s.setDom d v).ring = s.ring ∧
    (s.setDom d v).eths = s.eths ∧ (s.setDom d v).ulks = s.ulks ∧ (s.setDom d v).dram = s.dram ∧ (s.setDom d v).dma = s.dma ∧
    (s.setDom d v).lanes = s.lanes ∧ (s.setDom d v).tmr = s.tmr ∧ (s.setDom d v).pcie = s.pcie ∧ (s.setDom d v).boot = s.boot ∧
    (s.setDom d v).mgmt = s.mgmt ∧ (s.setDom d v).att = s.att ∧ (s.setDom d v).smp = s.smp ∧ (s.setDom d v).supply = s.supply ∧
    (s.setDom d v).otp = s.otp ∧ (s.setDom d v).cals = s.cals ∧ (s.setDom d v).calctl = s.calctl ∧ (s.setDom d v).loops = s.loops ∧
    (s.setDom d v).loopOld = s.loopOld ∧ (s.setDom d v).tiu = s.tiu ∧ (s.setDom d v).sats = s.sats := by and_intros <;> rfl

@[simp] theorem State.setDom_reads (s : State) (d : Nat) (v : DomSt) (m : Nat) :
    (s.setDom d v).rw m = s.rw m ∧ (s.setDom d v).page m = s.page m ∧ (s.setDom d v).lock m = s.lock m ∧
    (s.setDom d v).axis m = s.axis m ∧ (s.setDom d v).grid m = s.grid m ∧ (s.setDom d v).slice m = s.slice m ∧
    (s.setDom d v).mitt m = s.mitt m ∧ (s.setDom d v).ctx m = s.ctx m ∧ (s.setDom d v).trigUnit m = s.trigUnit m ∧
    (s.setDom d v).cmp m = s.cmp m ∧ (s.setDom d v).str m = s.str m ∧ (s.setDom d v).lane m = s.lane m ∧
    (s.setDom d v).ulk m = s.ulk m ∧ (s.setDom d v).eth m = s.eth m ∧ (s.setDom d v).dmaCh m = s.dmaCh m ∧
    (s.setDom d v).recSlot m = s.recSlot m ∧ (s.setDom d v).cal m = s.cal m ∧ (s.setDom d v).tch m = s.tch m ∧
    (s.setDom d v).loop m = s.loop m ∧ (s.setDom d v).sramB m = s.sramB m ∧ (s.setDom d v).dramB m = s.dramB m := by and_intros <;> rfl

@[simp] theorem State.dom_setDom (s : State) (d : Nat) (v : DomSt) (m : Nat) : (s.setDom d v).dom m = if m = d then v else s.dom m :=
  tget_tset dom0 d m v _

/-- `setAxis` leaves every field but `ax`. -/
@[simp] theorem State.setAxis_fields (s : State) (n : Nat) (v : AxSt) :
    (s.setAxis n v).pending = s.pending ∧ (s.setAxis n v).st = s.st ∧ (s.setAxis n v).clk = s.clk ∧
    (s.setAxis n v).freeCtr = s.freeCtr ∧ (s.setAxis n v).regs = s.regs ∧ (s.setAxis n v).hdr = s.hdr ∧
    (s.setAxis n v).locks = s.locks ∧ (s.setAxis n v).bad = s.bad ∧ (s.setAxis n v).lastRead = s.lastRead ∧
    (s.setAxis n v).msi = s.msi ∧ (s.setAxis n v).sram = s.sram ∧ (s.setAxis n v).dramMem = s.dramMem ∧ (s.setAxis n v).tb = s.tb ∧
    (s.setAxis n v).grids = s.grids ∧ (s.setAxis n v).gctl = s.gctl ∧ (s.setAxis n v).sched = s.sched ∧
    (s.setAxis n v).pwr = s.pwr ∧ (s.setAxis n v).bgt = s.bgt ∧ (s.setAxis n v).slices = s.slices ∧
    (s.setAxis n v).mitts = s.mitts ∧ (s.setAxis n v).ctxs = s.ctxs ∧ (s.setAxis n v).tails = s.tails ∧
    (s.setAxis n v).feng = s.feng ∧ (s.setAxis n v).align = s.align ∧ (s.setAxis n v).units = s.units ∧
    (s.setAxis n v).trig = s.trig ∧ (s.setAxis n v).recs = s.recs ∧ (s.setAxis n v).cmps = s.cmps ∧ (s.setAxis n v).cmpc = s.cmpc ∧
    (s.setAxis n v).strs = s.strs ∧ (s.setAxis n v).store = s.store ∧ (s.setAxis n v).ring = s.ring ∧
    (s.setAxis n v).eths = s.eths ∧ (s.setAxis n v).ulks = s.ulks ∧ (s.setAxis n v).dram = s.dram ∧ (s.setAxis n v).dma = s.dma ∧
    (s.setAxis n v).lanes = s.lanes ∧ (s.setAxis n v).tmr = s.tmr ∧ (s.setAxis n v).pcie = s.pcie ∧ (s.setAxis n v).boot = s.boot ∧
    (s.setAxis n v).mgmt = s.mgmt ∧ (s.setAxis n v).att = s.att ∧ (s.setAxis n v).smp = s.smp ∧ (s.setAxis n v).supply = s.supply ∧
    (s.setAxis n v).otp = s.otp ∧ (s.setAxis n v).cals = s.cals ∧ (s.setAxis n v).calctl = s.calctl ∧
    (s.setAxis n v).loops = s.loops ∧ (s.setAxis n v).loopOld = s.loopOld ∧ (s.setAxis n v).tiu = s.tiu ∧
    (s.setAxis n v).sats = s.sats := by and_intros <;> rfl

@[simp] theorem State.setAxis_reads (s : State) (n : Nat) (v : AxSt) (m : Nat) :
    (s.setAxis n v).rw m = s.rw m ∧ (s.setAxis n v).page m = s.page m ∧ (s.setAxis n v).lock m = s.lock m ∧
    (s.setAxis n v).dom m = s.dom m ∧ (s.setAxis n v).grid m = s.grid m ∧ (s.setAxis n v).slice m = s.slice m ∧
    (s.setAxis n v).mitt m = s.mitt m ∧ (s.setAxis n v).ctx m = s.ctx m ∧ (s.setAxis n v).trigUnit m = s.trigUnit m ∧
    (s.setAxis n v).cmp m = s.cmp m ∧ (s.setAxis n v).str m = s.str m ∧ (s.setAxis n v).lane m = s.lane m ∧
    (s.setAxis n v).ulk m = s.ulk m ∧ (s.setAxis n v).eth m = s.eth m ∧ (s.setAxis n v).dmaCh m = s.dmaCh m ∧
    (s.setAxis n v).recSlot m = s.recSlot m ∧ (s.setAxis n v).cal m = s.cal m ∧ (s.setAxis n v).tch m = s.tch m ∧
    (s.setAxis n v).loop m = s.loop m ∧ (s.setAxis n v).sramB m = s.sramB m ∧ (s.setAxis n v).dramB m = s.dramB m := by and_intros <;> rfl

@[simp] theorem State.axis_setAxis (s : State) (n : Nat) (v : AxSt) (m : Nat) : (s.setAxis n v).axis m = if m = n then v else s.axis m :=
  tget_tset ax0 n m v _

/-- `setGrid` leaves every field but `grids`. -/
@[simp] theorem State.setGrid_fields (s : State) (n : Nat) (v : GridSt) :
    (s.setGrid n v).pending = s.pending ∧ (s.setGrid n v).st = s.st ∧ (s.setGrid n v).clk = s.clk ∧
    (s.setGrid n v).freeCtr = s.freeCtr ∧ (s.setGrid n v).regs = s.regs ∧ (s.setGrid n v).hdr = s.hdr ∧
    (s.setGrid n v).locks = s.locks ∧ (s.setGrid n v).bad = s.bad ∧ (s.setGrid n v).lastRead = s.lastRead ∧
    (s.setGrid n v).msi = s.msi ∧ (s.setGrid n v).sram = s.sram ∧ (s.setGrid n v).dramMem = s.dramMem ∧ (s.setGrid n v).tb = s.tb ∧
    (s.setGrid n v).ax = s.ax ∧ (s.setGrid n v).gctl = s.gctl ∧ (s.setGrid n v).sched = s.sched ∧ (s.setGrid n v).pwr = s.pwr ∧
    (s.setGrid n v).bgt = s.bgt ∧ (s.setGrid n v).slices = s.slices ∧ (s.setGrid n v).mitts = s.mitts ∧
    (s.setGrid n v).ctxs = s.ctxs ∧ (s.setGrid n v).tails = s.tails ∧ (s.setGrid n v).feng = s.feng ∧
    (s.setGrid n v).align = s.align ∧ (s.setGrid n v).units = s.units ∧ (s.setGrid n v).trig = s.trig ∧
    (s.setGrid n v).recs = s.recs ∧ (s.setGrid n v).cmps = s.cmps ∧ (s.setGrid n v).cmpc = s.cmpc ∧ (s.setGrid n v).strs = s.strs ∧
    (s.setGrid n v).store = s.store ∧ (s.setGrid n v).ring = s.ring ∧ (s.setGrid n v).eths = s.eths ∧
    (s.setGrid n v).ulks = s.ulks ∧ (s.setGrid n v).dram = s.dram ∧ (s.setGrid n v).dma = s.dma ∧ (s.setGrid n v).lanes = s.lanes ∧
    (s.setGrid n v).tmr = s.tmr ∧ (s.setGrid n v).pcie = s.pcie ∧ (s.setGrid n v).boot = s.boot ∧ (s.setGrid n v).mgmt = s.mgmt ∧
    (s.setGrid n v).att = s.att ∧ (s.setGrid n v).smp = s.smp ∧ (s.setGrid n v).supply = s.supply ∧ (s.setGrid n v).otp = s.otp ∧
    (s.setGrid n v).cals = s.cals ∧ (s.setGrid n v).calctl = s.calctl ∧ (s.setGrid n v).loops = s.loops ∧
    (s.setGrid n v).loopOld = s.loopOld ∧ (s.setGrid n v).tiu = s.tiu ∧ (s.setGrid n v).sats = s.sats := by and_intros <;> rfl

@[simp] theorem State.setGrid_reads (s : State) (n : Nat) (v : GridSt) (m : Nat) :
    (s.setGrid n v).rw m = s.rw m ∧ (s.setGrid n v).page m = s.page m ∧ (s.setGrid n v).lock m = s.lock m ∧
    (s.setGrid n v).dom m = s.dom m ∧ (s.setGrid n v).axis m = s.axis m ∧ (s.setGrid n v).slice m = s.slice m ∧
    (s.setGrid n v).mitt m = s.mitt m ∧ (s.setGrid n v).ctx m = s.ctx m ∧ (s.setGrid n v).trigUnit m = s.trigUnit m ∧
    (s.setGrid n v).cmp m = s.cmp m ∧ (s.setGrid n v).str m = s.str m ∧ (s.setGrid n v).lane m = s.lane m ∧
    (s.setGrid n v).ulk m = s.ulk m ∧ (s.setGrid n v).eth m = s.eth m ∧ (s.setGrid n v).dmaCh m = s.dmaCh m ∧
    (s.setGrid n v).recSlot m = s.recSlot m ∧ (s.setGrid n v).cal m = s.cal m ∧ (s.setGrid n v).tch m = s.tch m ∧
    (s.setGrid n v).loop m = s.loop m ∧ (s.setGrid n v).sramB m = s.sramB m ∧ (s.setGrid n v).dramB m = s.dramB m := by and_intros <;> rfl

@[simp] theorem State.grid_setGrid (s : State) (n : Nat) (v : GridSt) (m : Nat) : (s.setGrid n v).grid m = if m = n then v else s.grid m :=
  tget_tset grid0 n m v _

/-- `setSlice` leaves every field but `slices`. -/
@[simp] theorem State.setSlice_fields (s : State) (n : Nat) (v : SliceSt) :
    (s.setSlice n v).pending = s.pending ∧ (s.setSlice n v).st = s.st ∧ (s.setSlice n v).clk = s.clk ∧
    (s.setSlice n v).freeCtr = s.freeCtr ∧ (s.setSlice n v).regs = s.regs ∧ (s.setSlice n v).hdr = s.hdr ∧
    (s.setSlice n v).locks = s.locks ∧ (s.setSlice n v).bad = s.bad ∧ (s.setSlice n v).lastRead = s.lastRead ∧
    (s.setSlice n v).msi = s.msi ∧ (s.setSlice n v).sram = s.sram ∧ (s.setSlice n v).dramMem = s.dramMem ∧
    (s.setSlice n v).tb = s.tb ∧ (s.setSlice n v).ax = s.ax ∧ (s.setSlice n v).grids = s.grids ∧ (s.setSlice n v).gctl = s.gctl ∧
    (s.setSlice n v).sched = s.sched ∧ (s.setSlice n v).pwr = s.pwr ∧ (s.setSlice n v).bgt = s.bgt ∧
    (s.setSlice n v).mitts = s.mitts ∧ (s.setSlice n v).ctxs = s.ctxs ∧ (s.setSlice n v).tails = s.tails ∧
    (s.setSlice n v).feng = s.feng ∧ (s.setSlice n v).align = s.align ∧ (s.setSlice n v).units = s.units ∧
    (s.setSlice n v).trig = s.trig ∧ (s.setSlice n v).recs = s.recs ∧ (s.setSlice n v).cmps = s.cmps ∧
    (s.setSlice n v).cmpc = s.cmpc ∧ (s.setSlice n v).strs = s.strs ∧ (s.setSlice n v).store = s.store ∧
    (s.setSlice n v).ring = s.ring ∧ (s.setSlice n v).eths = s.eths ∧ (s.setSlice n v).ulks = s.ulks ∧
    (s.setSlice n v).dram = s.dram ∧ (s.setSlice n v).dma = s.dma ∧ (s.setSlice n v).lanes = s.lanes ∧
    (s.setSlice n v).tmr = s.tmr ∧ (s.setSlice n v).pcie = s.pcie ∧ (s.setSlice n v).boot = s.boot ∧
    (s.setSlice n v).mgmt = s.mgmt ∧ (s.setSlice n v).att = s.att ∧ (s.setSlice n v).smp = s.smp ∧
    (s.setSlice n v).supply = s.supply ∧ (s.setSlice n v).otp = s.otp ∧ (s.setSlice n v).cals = s.cals ∧
    (s.setSlice n v).calctl = s.calctl ∧ (s.setSlice n v).loops = s.loops ∧ (s.setSlice n v).loopOld = s.loopOld ∧
    (s.setSlice n v).tiu = s.tiu ∧ (s.setSlice n v).sats = s.sats := by and_intros <;> rfl

@[simp] theorem State.setSlice_reads (s : State) (n : Nat) (v : SliceSt) (m : Nat) :
    (s.setSlice n v).rw m = s.rw m ∧ (s.setSlice n v).page m = s.page m ∧ (s.setSlice n v).lock m = s.lock m ∧
    (s.setSlice n v).dom m = s.dom m ∧ (s.setSlice n v).axis m = s.axis m ∧ (s.setSlice n v).grid m = s.grid m ∧
    (s.setSlice n v).mitt m = s.mitt m ∧ (s.setSlice n v).ctx m = s.ctx m ∧ (s.setSlice n v).trigUnit m = s.trigUnit m ∧
    (s.setSlice n v).cmp m = s.cmp m ∧ (s.setSlice n v).str m = s.str m ∧ (s.setSlice n v).lane m = s.lane m ∧
    (s.setSlice n v).ulk m = s.ulk m ∧ (s.setSlice n v).eth m = s.eth m ∧ (s.setSlice n v).dmaCh m = s.dmaCh m ∧
    (s.setSlice n v).recSlot m = s.recSlot m ∧ (s.setSlice n v).cal m = s.cal m ∧ (s.setSlice n v).tch m = s.tch m ∧
    (s.setSlice n v).loop m = s.loop m ∧ (s.setSlice n v).sramB m = s.sramB m ∧ (s.setSlice n v).dramB m = s.dramB m := by and_intros <;> rfl

@[simp] theorem State.slice_setSlice (s : State) (n : Nat) (v : SliceSt) (m : Nat) : (s.setSlice n v).slice m = if m = n then v else s.slice m :=
  tget_tset slice0 n m v _

/-- `setMitt` leaves every field but `mitts`. -/
@[simp] theorem State.setMitt_fields (s : State) (n : Nat) (v : MittSt) :
    (s.setMitt n v).pending = s.pending ∧ (s.setMitt n v).st = s.st ∧ (s.setMitt n v).clk = s.clk ∧
    (s.setMitt n v).freeCtr = s.freeCtr ∧ (s.setMitt n v).regs = s.regs ∧ (s.setMitt n v).hdr = s.hdr ∧
    (s.setMitt n v).locks = s.locks ∧ (s.setMitt n v).bad = s.bad ∧ (s.setMitt n v).lastRead = s.lastRead ∧
    (s.setMitt n v).msi = s.msi ∧ (s.setMitt n v).sram = s.sram ∧ (s.setMitt n v).dramMem = s.dramMem ∧ (s.setMitt n v).tb = s.tb ∧
    (s.setMitt n v).ax = s.ax ∧ (s.setMitt n v).grids = s.grids ∧ (s.setMitt n v).gctl = s.gctl ∧ (s.setMitt n v).sched = s.sched ∧
    (s.setMitt n v).pwr = s.pwr ∧ (s.setMitt n v).bgt = s.bgt ∧ (s.setMitt n v).slices = s.slices ∧ (s.setMitt n v).ctxs = s.ctxs ∧
    (s.setMitt n v).tails = s.tails ∧ (s.setMitt n v).feng = s.feng ∧ (s.setMitt n v).align = s.align ∧
    (s.setMitt n v).units = s.units ∧ (s.setMitt n v).trig = s.trig ∧ (s.setMitt n v).recs = s.recs ∧
    (s.setMitt n v).cmps = s.cmps ∧ (s.setMitt n v).cmpc = s.cmpc ∧ (s.setMitt n v).strs = s.strs ∧
    (s.setMitt n v).store = s.store ∧ (s.setMitt n v).ring = s.ring ∧ (s.setMitt n v).eths = s.eths ∧
    (s.setMitt n v).ulks = s.ulks ∧ (s.setMitt n v).dram = s.dram ∧ (s.setMitt n v).dma = s.dma ∧ (s.setMitt n v).lanes = s.lanes ∧
    (s.setMitt n v).tmr = s.tmr ∧ (s.setMitt n v).pcie = s.pcie ∧ (s.setMitt n v).boot = s.boot ∧ (s.setMitt n v).mgmt = s.mgmt ∧
    (s.setMitt n v).att = s.att ∧ (s.setMitt n v).smp = s.smp ∧ (s.setMitt n v).supply = s.supply ∧ (s.setMitt n v).otp = s.otp ∧
    (s.setMitt n v).cals = s.cals ∧ (s.setMitt n v).calctl = s.calctl ∧ (s.setMitt n v).loops = s.loops ∧
    (s.setMitt n v).loopOld = s.loopOld ∧ (s.setMitt n v).tiu = s.tiu ∧ (s.setMitt n v).sats = s.sats := by and_intros <;> rfl

@[simp] theorem State.setMitt_reads (s : State) (n : Nat) (v : MittSt) (m : Nat) :
    (s.setMitt n v).rw m = s.rw m ∧ (s.setMitt n v).page m = s.page m ∧ (s.setMitt n v).lock m = s.lock m ∧
    (s.setMitt n v).dom m = s.dom m ∧ (s.setMitt n v).axis m = s.axis m ∧ (s.setMitt n v).grid m = s.grid m ∧
    (s.setMitt n v).slice m = s.slice m ∧ (s.setMitt n v).ctx m = s.ctx m ∧ (s.setMitt n v).trigUnit m = s.trigUnit m ∧
    (s.setMitt n v).cmp m = s.cmp m ∧ (s.setMitt n v).str m = s.str m ∧ (s.setMitt n v).lane m = s.lane m ∧
    (s.setMitt n v).ulk m = s.ulk m ∧ (s.setMitt n v).eth m = s.eth m ∧ (s.setMitt n v).dmaCh m = s.dmaCh m ∧
    (s.setMitt n v).recSlot m = s.recSlot m ∧ (s.setMitt n v).cal m = s.cal m ∧ (s.setMitt n v).tch m = s.tch m ∧
    (s.setMitt n v).loop m = s.loop m ∧ (s.setMitt n v).sramB m = s.sramB m ∧ (s.setMitt n v).dramB m = s.dramB m := by and_intros <;> rfl

@[simp] theorem State.mitt_setMitt (s : State) (n : Nat) (v : MittSt) (m : Nat) : (s.setMitt n v).mitt m = if m = n then v else s.mitt m :=
  tget_tset mitt0 n m v _

/-- `setCtx` leaves every field but `ctxs`. -/
@[simp] theorem State.setCtx_fields (s : State) (n : Nat) (v : CtxSt) :
    (s.setCtx n v).pending = s.pending ∧ (s.setCtx n v).st = s.st ∧ (s.setCtx n v).clk = s.clk ∧
    (s.setCtx n v).freeCtr = s.freeCtr ∧ (s.setCtx n v).regs = s.regs ∧ (s.setCtx n v).hdr = s.hdr ∧
    (s.setCtx n v).locks = s.locks ∧ (s.setCtx n v).bad = s.bad ∧ (s.setCtx n v).lastRead = s.lastRead ∧
    (s.setCtx n v).msi = s.msi ∧ (s.setCtx n v).sram = s.sram ∧ (s.setCtx n v).dramMem = s.dramMem ∧ (s.setCtx n v).tb = s.tb ∧
    (s.setCtx n v).ax = s.ax ∧ (s.setCtx n v).grids = s.grids ∧ (s.setCtx n v).gctl = s.gctl ∧ (s.setCtx n v).sched = s.sched ∧
    (s.setCtx n v).pwr = s.pwr ∧ (s.setCtx n v).bgt = s.bgt ∧ (s.setCtx n v).slices = s.slices ∧ (s.setCtx n v).mitts = s.mitts ∧
    (s.setCtx n v).tails = s.tails ∧ (s.setCtx n v).feng = s.feng ∧ (s.setCtx n v).align = s.align ∧
    (s.setCtx n v).units = s.units ∧ (s.setCtx n v).trig = s.trig ∧ (s.setCtx n v).recs = s.recs ∧ (s.setCtx n v).cmps = s.cmps ∧
    (s.setCtx n v).cmpc = s.cmpc ∧ (s.setCtx n v).strs = s.strs ∧ (s.setCtx n v).store = s.store ∧ (s.setCtx n v).ring = s.ring ∧
    (s.setCtx n v).eths = s.eths ∧ (s.setCtx n v).ulks = s.ulks ∧ (s.setCtx n v).dram = s.dram ∧ (s.setCtx n v).dma = s.dma ∧
    (s.setCtx n v).lanes = s.lanes ∧ (s.setCtx n v).tmr = s.tmr ∧ (s.setCtx n v).pcie = s.pcie ∧ (s.setCtx n v).boot = s.boot ∧
    (s.setCtx n v).mgmt = s.mgmt ∧ (s.setCtx n v).att = s.att ∧ (s.setCtx n v).smp = s.smp ∧ (s.setCtx n v).supply = s.supply ∧
    (s.setCtx n v).otp = s.otp ∧ (s.setCtx n v).cals = s.cals ∧ (s.setCtx n v).calctl = s.calctl ∧ (s.setCtx n v).loops = s.loops ∧
    (s.setCtx n v).loopOld = s.loopOld ∧ (s.setCtx n v).tiu = s.tiu ∧ (s.setCtx n v).sats = s.sats := by and_intros <;> rfl

@[simp] theorem State.setCtx_reads (s : State) (n : Nat) (v : CtxSt) (m : Nat) :
    (s.setCtx n v).rw m = s.rw m ∧ (s.setCtx n v).page m = s.page m ∧ (s.setCtx n v).lock m = s.lock m ∧
    (s.setCtx n v).dom m = s.dom m ∧ (s.setCtx n v).axis m = s.axis m ∧ (s.setCtx n v).grid m = s.grid m ∧
    (s.setCtx n v).slice m = s.slice m ∧ (s.setCtx n v).mitt m = s.mitt m ∧ (s.setCtx n v).trigUnit m = s.trigUnit m ∧
    (s.setCtx n v).cmp m = s.cmp m ∧ (s.setCtx n v).str m = s.str m ∧ (s.setCtx n v).lane m = s.lane m ∧
    (s.setCtx n v).ulk m = s.ulk m ∧ (s.setCtx n v).eth m = s.eth m ∧ (s.setCtx n v).dmaCh m = s.dmaCh m ∧
    (s.setCtx n v).recSlot m = s.recSlot m ∧ (s.setCtx n v).cal m = s.cal m ∧ (s.setCtx n v).tch m = s.tch m ∧
    (s.setCtx n v).loop m = s.loop m ∧ (s.setCtx n v).sramB m = s.sramB m ∧ (s.setCtx n v).dramB m = s.dramB m := by and_intros <;> rfl

@[simp] theorem State.ctx_setCtx (s : State) (n : Nat) (v : CtxSt) (m : Nat) : (s.setCtx n v).ctx m = if m = n then v else s.ctx m :=
  tget_tset ctx0 n m v _

/-- `setUnit` leaves every field but `units`. -/
@[simp] theorem State.setUnit_fields (s : State) (n : Nat) (v : UnitSt) :
    (s.setUnit n v).pending = s.pending ∧ (s.setUnit n v).st = s.st ∧ (s.setUnit n v).clk = s.clk ∧
    (s.setUnit n v).freeCtr = s.freeCtr ∧ (s.setUnit n v).regs = s.regs ∧ (s.setUnit n v).hdr = s.hdr ∧
    (s.setUnit n v).locks = s.locks ∧ (s.setUnit n v).bad = s.bad ∧ (s.setUnit n v).lastRead = s.lastRead ∧
    (s.setUnit n v).msi = s.msi ∧ (s.setUnit n v).sram = s.sram ∧ (s.setUnit n v).dramMem = s.dramMem ∧ (s.setUnit n v).tb = s.tb ∧
    (s.setUnit n v).ax = s.ax ∧ (s.setUnit n v).grids = s.grids ∧ (s.setUnit n v).gctl = s.gctl ∧ (s.setUnit n v).sched = s.sched ∧
    (s.setUnit n v).pwr = s.pwr ∧ (s.setUnit n v).bgt = s.bgt ∧ (s.setUnit n v).slices = s.slices ∧
    (s.setUnit n v).mitts = s.mitts ∧ (s.setUnit n v).ctxs = s.ctxs ∧ (s.setUnit n v).tails = s.tails ∧
    (s.setUnit n v).feng = s.feng ∧ (s.setUnit n v).align = s.align ∧ (s.setUnit n v).trig = s.trig ∧
    (s.setUnit n v).recs = s.recs ∧ (s.setUnit n v).cmps = s.cmps ∧ (s.setUnit n v).cmpc = s.cmpc ∧ (s.setUnit n v).strs = s.strs ∧
    (s.setUnit n v).store = s.store ∧ (s.setUnit n v).ring = s.ring ∧ (s.setUnit n v).eths = s.eths ∧
    (s.setUnit n v).ulks = s.ulks ∧ (s.setUnit n v).dram = s.dram ∧ (s.setUnit n v).dma = s.dma ∧ (s.setUnit n v).lanes = s.lanes ∧
    (s.setUnit n v).tmr = s.tmr ∧ (s.setUnit n v).pcie = s.pcie ∧ (s.setUnit n v).boot = s.boot ∧ (s.setUnit n v).mgmt = s.mgmt ∧
    (s.setUnit n v).att = s.att ∧ (s.setUnit n v).smp = s.smp ∧ (s.setUnit n v).supply = s.supply ∧ (s.setUnit n v).otp = s.otp ∧
    (s.setUnit n v).cals = s.cals ∧ (s.setUnit n v).calctl = s.calctl ∧ (s.setUnit n v).loops = s.loops ∧
    (s.setUnit n v).loopOld = s.loopOld ∧ (s.setUnit n v).tiu = s.tiu ∧ (s.setUnit n v).sats = s.sats := by and_intros <;> rfl

@[simp] theorem State.setUnit_reads (s : State) (n : Nat) (v : UnitSt) (m : Nat) :
    (s.setUnit n v).rw m = s.rw m ∧ (s.setUnit n v).page m = s.page m ∧ (s.setUnit n v).lock m = s.lock m ∧
    (s.setUnit n v).dom m = s.dom m ∧ (s.setUnit n v).axis m = s.axis m ∧ (s.setUnit n v).grid m = s.grid m ∧
    (s.setUnit n v).slice m = s.slice m ∧ (s.setUnit n v).mitt m = s.mitt m ∧ (s.setUnit n v).ctx m = s.ctx m ∧
    (s.setUnit n v).cmp m = s.cmp m ∧ (s.setUnit n v).str m = s.str m ∧ (s.setUnit n v).lane m = s.lane m ∧
    (s.setUnit n v).ulk m = s.ulk m ∧ (s.setUnit n v).eth m = s.eth m ∧ (s.setUnit n v).dmaCh m = s.dmaCh m ∧
    (s.setUnit n v).recSlot m = s.recSlot m ∧ (s.setUnit n v).cal m = s.cal m ∧ (s.setUnit n v).tch m = s.tch m ∧
    (s.setUnit n v).loop m = s.loop m ∧ (s.setUnit n v).sramB m = s.sramB m ∧ (s.setUnit n v).dramB m = s.dramB m := by and_intros <;> rfl

@[simp] theorem State.trigUnit_setUnit (s : State) (n : Nat) (v : UnitSt) (m : Nat) : (s.setUnit n v).trigUnit m = if m = n then v else s.trigUnit m :=
  tget_tset unit0 n m v _

/-- `setCmp` leaves every field but `cmps`. -/
@[simp] theorem State.setCmp_fields (s : State) (n : Nat) (v : CmpSt) :
    (s.setCmp n v).pending = s.pending ∧ (s.setCmp n v).st = s.st ∧ (s.setCmp n v).clk = s.clk ∧
    (s.setCmp n v).freeCtr = s.freeCtr ∧ (s.setCmp n v).regs = s.regs ∧ (s.setCmp n v).hdr = s.hdr ∧
    (s.setCmp n v).locks = s.locks ∧ (s.setCmp n v).bad = s.bad ∧ (s.setCmp n v).lastRead = s.lastRead ∧
    (s.setCmp n v).msi = s.msi ∧ (s.setCmp n v).sram = s.sram ∧ (s.setCmp n v).dramMem = s.dramMem ∧ (s.setCmp n v).tb = s.tb ∧
    (s.setCmp n v).ax = s.ax ∧ (s.setCmp n v).grids = s.grids ∧ (s.setCmp n v).gctl = s.gctl ∧ (s.setCmp n v).sched = s.sched ∧
    (s.setCmp n v).pwr = s.pwr ∧ (s.setCmp n v).bgt = s.bgt ∧ (s.setCmp n v).slices = s.slices ∧ (s.setCmp n v).mitts = s.mitts ∧
    (s.setCmp n v).ctxs = s.ctxs ∧ (s.setCmp n v).tails = s.tails ∧ (s.setCmp n v).feng = s.feng ∧ (s.setCmp n v).align = s.align ∧
    (s.setCmp n v).units = s.units ∧ (s.setCmp n v).trig = s.trig ∧ (s.setCmp n v).recs = s.recs ∧ (s.setCmp n v).cmpc = s.cmpc ∧
    (s.setCmp n v).strs = s.strs ∧ (s.setCmp n v).store = s.store ∧ (s.setCmp n v).ring = s.ring ∧ (s.setCmp n v).eths = s.eths ∧
    (s.setCmp n v).ulks = s.ulks ∧ (s.setCmp n v).dram = s.dram ∧ (s.setCmp n v).dma = s.dma ∧ (s.setCmp n v).lanes = s.lanes ∧
    (s.setCmp n v).tmr = s.tmr ∧ (s.setCmp n v).pcie = s.pcie ∧ (s.setCmp n v).boot = s.boot ∧ (s.setCmp n v).mgmt = s.mgmt ∧
    (s.setCmp n v).att = s.att ∧ (s.setCmp n v).smp = s.smp ∧ (s.setCmp n v).supply = s.supply ∧ (s.setCmp n v).otp = s.otp ∧
    (s.setCmp n v).cals = s.cals ∧ (s.setCmp n v).calctl = s.calctl ∧ (s.setCmp n v).loops = s.loops ∧
    (s.setCmp n v).loopOld = s.loopOld ∧ (s.setCmp n v).tiu = s.tiu ∧ (s.setCmp n v).sats = s.sats := by and_intros <;> rfl

@[simp] theorem State.setCmp_reads (s : State) (n : Nat) (v : CmpSt) (m : Nat) :
    (s.setCmp n v).rw m = s.rw m ∧ (s.setCmp n v).page m = s.page m ∧ (s.setCmp n v).lock m = s.lock m ∧
    (s.setCmp n v).dom m = s.dom m ∧ (s.setCmp n v).axis m = s.axis m ∧ (s.setCmp n v).grid m = s.grid m ∧
    (s.setCmp n v).slice m = s.slice m ∧ (s.setCmp n v).mitt m = s.mitt m ∧ (s.setCmp n v).ctx m = s.ctx m ∧
    (s.setCmp n v).trigUnit m = s.trigUnit m ∧ (s.setCmp n v).str m = s.str m ∧ (s.setCmp n v).lane m = s.lane m ∧
    (s.setCmp n v).ulk m = s.ulk m ∧ (s.setCmp n v).eth m = s.eth m ∧ (s.setCmp n v).dmaCh m = s.dmaCh m ∧
    (s.setCmp n v).recSlot m = s.recSlot m ∧ (s.setCmp n v).cal m = s.cal m ∧ (s.setCmp n v).tch m = s.tch m ∧
    (s.setCmp n v).loop m = s.loop m ∧ (s.setCmp n v).sramB m = s.sramB m ∧ (s.setCmp n v).dramB m = s.dramB m := by and_intros <;> rfl

@[simp] theorem State.cmp_setCmp (s : State) (n : Nat) (v : CmpSt) (m : Nat) : (s.setCmp n v).cmp m = if m = n then v else s.cmp m :=
  tget_tset cmp0 n m v _

/-- `setStr` leaves every field but `strs`. -/
@[simp] theorem State.setStr_fields (s : State) (n : Nat) (v : StrSt) :
    (s.setStr n v).pending = s.pending ∧ (s.setStr n v).st = s.st ∧ (s.setStr n v).clk = s.clk ∧
    (s.setStr n v).freeCtr = s.freeCtr ∧ (s.setStr n v).regs = s.regs ∧ (s.setStr n v).hdr = s.hdr ∧
    (s.setStr n v).locks = s.locks ∧ (s.setStr n v).bad = s.bad ∧ (s.setStr n v).lastRead = s.lastRead ∧
    (s.setStr n v).msi = s.msi ∧ (s.setStr n v).sram = s.sram ∧ (s.setStr n v).dramMem = s.dramMem ∧ (s.setStr n v).tb = s.tb ∧
    (s.setStr n v).ax = s.ax ∧ (s.setStr n v).grids = s.grids ∧ (s.setStr n v).gctl = s.gctl ∧ (s.setStr n v).sched = s.sched ∧
    (s.setStr n v).pwr = s.pwr ∧ (s.setStr n v).bgt = s.bgt ∧ (s.setStr n v).slices = s.slices ∧ (s.setStr n v).mitts = s.mitts ∧
    (s.setStr n v).ctxs = s.ctxs ∧ (s.setStr n v).tails = s.tails ∧ (s.setStr n v).feng = s.feng ∧ (s.setStr n v).align = s.align ∧
    (s.setStr n v).units = s.units ∧ (s.setStr n v).trig = s.trig ∧ (s.setStr n v).recs = s.recs ∧ (s.setStr n v).cmps = s.cmps ∧
    (s.setStr n v).cmpc = s.cmpc ∧ (s.setStr n v).store = s.store ∧ (s.setStr n v).ring = s.ring ∧ (s.setStr n v).eths = s.eths ∧
    (s.setStr n v).ulks = s.ulks ∧ (s.setStr n v).dram = s.dram ∧ (s.setStr n v).dma = s.dma ∧ (s.setStr n v).lanes = s.lanes ∧
    (s.setStr n v).tmr = s.tmr ∧ (s.setStr n v).pcie = s.pcie ∧ (s.setStr n v).boot = s.boot ∧ (s.setStr n v).mgmt = s.mgmt ∧
    (s.setStr n v).att = s.att ∧ (s.setStr n v).smp = s.smp ∧ (s.setStr n v).supply = s.supply ∧ (s.setStr n v).otp = s.otp ∧
    (s.setStr n v).cals = s.cals ∧ (s.setStr n v).calctl = s.calctl ∧ (s.setStr n v).loops = s.loops ∧
    (s.setStr n v).loopOld = s.loopOld ∧ (s.setStr n v).tiu = s.tiu ∧ (s.setStr n v).sats = s.sats := by and_intros <;> rfl

@[simp] theorem State.setStr_reads (s : State) (n : Nat) (v : StrSt) (m : Nat) :
    (s.setStr n v).rw m = s.rw m ∧ (s.setStr n v).page m = s.page m ∧ (s.setStr n v).lock m = s.lock m ∧
    (s.setStr n v).dom m = s.dom m ∧ (s.setStr n v).axis m = s.axis m ∧ (s.setStr n v).grid m = s.grid m ∧
    (s.setStr n v).slice m = s.slice m ∧ (s.setStr n v).mitt m = s.mitt m ∧ (s.setStr n v).ctx m = s.ctx m ∧
    (s.setStr n v).trigUnit m = s.trigUnit m ∧ (s.setStr n v).cmp m = s.cmp m ∧ (s.setStr n v).lane m = s.lane m ∧
    (s.setStr n v).ulk m = s.ulk m ∧ (s.setStr n v).eth m = s.eth m ∧ (s.setStr n v).dmaCh m = s.dmaCh m ∧
    (s.setStr n v).recSlot m = s.recSlot m ∧ (s.setStr n v).cal m = s.cal m ∧ (s.setStr n v).tch m = s.tch m ∧
    (s.setStr n v).loop m = s.loop m ∧ (s.setStr n v).sramB m = s.sramB m ∧ (s.setStr n v).dramB m = s.dramB m := by and_intros <;> rfl

@[simp] theorem State.str_setStr (s : State) (n : Nat) (v : StrSt) (m : Nat) : (s.setStr n v).str m = if m = n then v else s.str m :=
  tget_tset str0 n m v _

/-- `setRec` leaves every field but `recs`. -/
@[simp] theorem State.setRec_fields (s : State) (n : Nat) (v : Option RecSlot) :
    (s.setRec n v).pending = s.pending ∧ (s.setRec n v).st = s.st ∧ (s.setRec n v).clk = s.clk ∧
    (s.setRec n v).freeCtr = s.freeCtr ∧ (s.setRec n v).regs = s.regs ∧ (s.setRec n v).hdr = s.hdr ∧
    (s.setRec n v).locks = s.locks ∧ (s.setRec n v).bad = s.bad ∧ (s.setRec n v).lastRead = s.lastRead ∧
    (s.setRec n v).msi = s.msi ∧ (s.setRec n v).sram = s.sram ∧ (s.setRec n v).dramMem = s.dramMem ∧ (s.setRec n v).tb = s.tb ∧
    (s.setRec n v).ax = s.ax ∧ (s.setRec n v).grids = s.grids ∧ (s.setRec n v).gctl = s.gctl ∧ (s.setRec n v).sched = s.sched ∧
    (s.setRec n v).pwr = s.pwr ∧ (s.setRec n v).bgt = s.bgt ∧ (s.setRec n v).slices = s.slices ∧ (s.setRec n v).mitts = s.mitts ∧
    (s.setRec n v).ctxs = s.ctxs ∧ (s.setRec n v).tails = s.tails ∧ (s.setRec n v).feng = s.feng ∧ (s.setRec n v).align = s.align ∧
    (s.setRec n v).units = s.units ∧ (s.setRec n v).trig = s.trig ∧ (s.setRec n v).cmps = s.cmps ∧ (s.setRec n v).cmpc = s.cmpc ∧
    (s.setRec n v).strs = s.strs ∧ (s.setRec n v).store = s.store ∧ (s.setRec n v).ring = s.ring ∧ (s.setRec n v).eths = s.eths ∧
    (s.setRec n v).ulks = s.ulks ∧ (s.setRec n v).dram = s.dram ∧ (s.setRec n v).dma = s.dma ∧ (s.setRec n v).lanes = s.lanes ∧
    (s.setRec n v).tmr = s.tmr ∧ (s.setRec n v).pcie = s.pcie ∧ (s.setRec n v).boot = s.boot ∧ (s.setRec n v).mgmt = s.mgmt ∧
    (s.setRec n v).att = s.att ∧ (s.setRec n v).smp = s.smp ∧ (s.setRec n v).supply = s.supply ∧ (s.setRec n v).otp = s.otp ∧
    (s.setRec n v).cals = s.cals ∧ (s.setRec n v).calctl = s.calctl ∧ (s.setRec n v).loops = s.loops ∧
    (s.setRec n v).loopOld = s.loopOld ∧ (s.setRec n v).tiu = s.tiu ∧ (s.setRec n v).sats = s.sats := by and_intros <;> rfl

@[simp] theorem State.setRec_reads (s : State) (n : Nat) (v : Option RecSlot) (m : Nat) :
    (s.setRec n v).rw m = s.rw m ∧ (s.setRec n v).page m = s.page m ∧ (s.setRec n v).lock m = s.lock m ∧
    (s.setRec n v).dom m = s.dom m ∧ (s.setRec n v).axis m = s.axis m ∧ (s.setRec n v).grid m = s.grid m ∧
    (s.setRec n v).slice m = s.slice m ∧ (s.setRec n v).mitt m = s.mitt m ∧ (s.setRec n v).ctx m = s.ctx m ∧
    (s.setRec n v).trigUnit m = s.trigUnit m ∧ (s.setRec n v).cmp m = s.cmp m ∧ (s.setRec n v).str m = s.str m ∧
    (s.setRec n v).lane m = s.lane m ∧ (s.setRec n v).ulk m = s.ulk m ∧ (s.setRec n v).eth m = s.eth m ∧
    (s.setRec n v).dmaCh m = s.dmaCh m ∧ (s.setRec n v).cal m = s.cal m ∧ (s.setRec n v).tch m = s.tch m ∧
    (s.setRec n v).loop m = s.loop m ∧ (s.setRec n v).sramB m = s.sramB m ∧ (s.setRec n v).dramB m = s.dramB m := by and_intros <;> rfl

@[simp] theorem State.recSlot_setRec (s : State) (n : Nat) (v : Option RecSlot) (m : Nat) : (s.setRec n v).recSlot m = if m = n then v else s.recSlot m :=
  tget_tset rec0 n m v _

/-- `answer` leaves every field but `lastRead`. -/
@[simp] theorem State.answer_fields (s : State) (w : Word) :
    (s.answer w).pending = s.pending ∧ (s.answer w).st = s.st ∧ (s.answer w).clk = s.clk ∧ (s.answer w).freeCtr = s.freeCtr ∧
    (s.answer w).regs = s.regs ∧ (s.answer w).hdr = s.hdr ∧ (s.answer w).locks = s.locks ∧ (s.answer w).bad = s.bad ∧
    (s.answer w).msi = s.msi ∧ (s.answer w).sram = s.sram ∧ (s.answer w).dramMem = s.dramMem ∧ (s.answer w).tb = s.tb ∧
    (s.answer w).ax = s.ax ∧ (s.answer w).grids = s.grids ∧ (s.answer w).gctl = s.gctl ∧ (s.answer w).sched = s.sched ∧
    (s.answer w).pwr = s.pwr ∧ (s.answer w).bgt = s.bgt ∧ (s.answer w).slices = s.slices ∧ (s.answer w).mitts = s.mitts ∧
    (s.answer w).ctxs = s.ctxs ∧ (s.answer w).tails = s.tails ∧ (s.answer w).feng = s.feng ∧ (s.answer w).align = s.align ∧
    (s.answer w).units = s.units ∧ (s.answer w).trig = s.trig ∧ (s.answer w).recs = s.recs ∧ (s.answer w).cmps = s.cmps ∧
    (s.answer w).cmpc = s.cmpc ∧ (s.answer w).strs = s.strs ∧ (s.answer w).store = s.store ∧ (s.answer w).ring = s.ring ∧
    (s.answer w).eths = s.eths ∧ (s.answer w).ulks = s.ulks ∧ (s.answer w).dram = s.dram ∧ (s.answer w).dma = s.dma ∧
    (s.answer w).lanes = s.lanes ∧ (s.answer w).tmr = s.tmr ∧ (s.answer w).pcie = s.pcie ∧ (s.answer w).boot = s.boot ∧
    (s.answer w).mgmt = s.mgmt ∧ (s.answer w).att = s.att ∧ (s.answer w).smp = s.smp ∧ (s.answer w).supply = s.supply ∧
    (s.answer w).otp = s.otp ∧ (s.answer w).cals = s.cals ∧ (s.answer w).calctl = s.calctl ∧ (s.answer w).loops = s.loops ∧
    (s.answer w).loopOld = s.loopOld ∧ (s.answer w).tiu = s.tiu ∧ (s.answer w).sats = s.sats := by and_intros <;> rfl

@[simp] theorem State.answer_reads (s : State) (w : Word) (m : Nat) :
    (s.answer w).rw m = s.rw m ∧ (s.answer w).page m = s.page m ∧ (s.answer w).lock m = s.lock m ∧ (s.answer w).dom m = s.dom m ∧
    (s.answer w).axis m = s.axis m ∧ (s.answer w).grid m = s.grid m ∧ (s.answer w).slice m = s.slice m ∧
    (s.answer w).mitt m = s.mitt m ∧ (s.answer w).ctx m = s.ctx m ∧ (s.answer w).trigUnit m = s.trigUnit m ∧
    (s.answer w).cmp m = s.cmp m ∧ (s.answer w).str m = s.str m ∧ (s.answer w).lane m = s.lane m ∧ (s.answer w).ulk m = s.ulk m ∧
    (s.answer w).eth m = s.eth m ∧ (s.answer w).dmaCh m = s.dmaCh m ∧ (s.answer w).recSlot m = s.recSlot m ∧
    (s.answer w).cal m = s.cal m ∧ (s.answer w).tch m = s.tch m ∧ (s.answer w).loop m = s.loop m ∧
    (s.answer w).sramB m = s.sramB m ∧ (s.answer w).dramB m = s.dramB m := by and_intros <;> rfl

/-- `setSramB` leaves every field but `sram`. -/
@[simp] theorem State.setSramB_fields (s : State) (a : Nat) (b : Byte) :
    (s.setSramB a b).pending = s.pending ∧ (s.setSramB a b).st = s.st ∧ (s.setSramB a b).clk = s.clk ∧
    (s.setSramB a b).freeCtr = s.freeCtr ∧ (s.setSramB a b).regs = s.regs ∧ (s.setSramB a b).hdr = s.hdr ∧
    (s.setSramB a b).locks = s.locks ∧ (s.setSramB a b).bad = s.bad ∧ (s.setSramB a b).lastRead = s.lastRead ∧
    (s.setSramB a b).msi = s.msi ∧ (s.setSramB a b).dramMem = s.dramMem ∧ (s.setSramB a b).tb = s.tb ∧ (s.setSramB a b).ax = s.ax ∧
    (s.setSramB a b).grids = s.grids ∧ (s.setSramB a b).gctl = s.gctl ∧ (s.setSramB a b).sched = s.sched ∧
    (s.setSramB a b).pwr = s.pwr ∧ (s.setSramB a b).bgt = s.bgt ∧ (s.setSramB a b).slices = s.slices ∧
    (s.setSramB a b).mitts = s.mitts ∧ (s.setSramB a b).ctxs = s.ctxs ∧ (s.setSramB a b).tails = s.tails ∧
    (s.setSramB a b).feng = s.feng ∧ (s.setSramB a b).align = s.align ∧ (s.setSramB a b).units = s.units ∧
    (s.setSramB a b).trig = s.trig ∧ (s.setSramB a b).recs = s.recs ∧ (s.setSramB a b).cmps = s.cmps ∧
    (s.setSramB a b).cmpc = s.cmpc ∧ (s.setSramB a b).strs = s.strs ∧ (s.setSramB a b).store = s.store ∧
    (s.setSramB a b).ring = s.ring ∧ (s.setSramB a b).eths = s.eths ∧ (s.setSramB a b).ulks = s.ulks ∧
    (s.setSramB a b).dram = s.dram ∧ (s.setSramB a b).dma = s.dma ∧ (s.setSramB a b).lanes = s.lanes ∧
    (s.setSramB a b).tmr = s.tmr ∧ (s.setSramB a b).pcie = s.pcie ∧ (s.setSramB a b).boot = s.boot ∧
    (s.setSramB a b).mgmt = s.mgmt ∧ (s.setSramB a b).att = s.att ∧ (s.setSramB a b).smp = s.smp ∧
    (s.setSramB a b).supply = s.supply ∧ (s.setSramB a b).otp = s.otp ∧ (s.setSramB a b).cals = s.cals ∧
    (s.setSramB a b).calctl = s.calctl ∧ (s.setSramB a b).loops = s.loops ∧ (s.setSramB a b).loopOld = s.loopOld ∧
    (s.setSramB a b).tiu = s.tiu ∧ (s.setSramB a b).sats = s.sats := by and_intros <;> rfl

@[simp] theorem State.setSramB_reads (s : State) (a : Nat) (b : Byte) (m : Nat) :
    (s.setSramB a b).rw m = s.rw m ∧ (s.setSramB a b).page m = s.page m ∧ (s.setSramB a b).lock m = s.lock m ∧
    (s.setSramB a b).dom m = s.dom m ∧ (s.setSramB a b).axis m = s.axis m ∧ (s.setSramB a b).grid m = s.grid m ∧
    (s.setSramB a b).slice m = s.slice m ∧ (s.setSramB a b).mitt m = s.mitt m ∧ (s.setSramB a b).ctx m = s.ctx m ∧
    (s.setSramB a b).trigUnit m = s.trigUnit m ∧ (s.setSramB a b).cmp m = s.cmp m ∧ (s.setSramB a b).str m = s.str m ∧
    (s.setSramB a b).lane m = s.lane m ∧ (s.setSramB a b).ulk m = s.ulk m ∧ (s.setSramB a b).eth m = s.eth m ∧
    (s.setSramB a b).dmaCh m = s.dmaCh m ∧ (s.setSramB a b).recSlot m = s.recSlot m ∧ (s.setSramB a b).cal m = s.cal m ∧
    (s.setSramB a b).tch m = s.tch m ∧ (s.setSramB a b).loop m = s.loop m ∧ (s.setSramB a b).dramB m = s.dramB m := by and_intros <;> rfl

@[simp] theorem State.sramB_setSramB (s : State) (a : Nat) (b : Byte) (m : Nat) : (s.setSramB a b).sramB m = if m = a then b else s.sramB m :=
  tget_tset sram0 a m b _

/-- `setDramB` leaves every field but `dramMem`. -/
@[simp] theorem State.setDramB_fields (s : State) (a : Nat) (b : Byte) :
    (s.setDramB a b).pending = s.pending ∧ (s.setDramB a b).st = s.st ∧ (s.setDramB a b).clk = s.clk ∧
    (s.setDramB a b).freeCtr = s.freeCtr ∧ (s.setDramB a b).regs = s.regs ∧ (s.setDramB a b).hdr = s.hdr ∧
    (s.setDramB a b).locks = s.locks ∧ (s.setDramB a b).bad = s.bad ∧ (s.setDramB a b).lastRead = s.lastRead ∧
    (s.setDramB a b).msi = s.msi ∧ (s.setDramB a b).sram = s.sram ∧ (s.setDramB a b).tb = s.tb ∧ (s.setDramB a b).ax = s.ax ∧
    (s.setDramB a b).grids = s.grids ∧ (s.setDramB a b).gctl = s.gctl ∧ (s.setDramB a b).sched = s.sched ∧
    (s.setDramB a b).pwr = s.pwr ∧ (s.setDramB a b).bgt = s.bgt ∧ (s.setDramB a b).slices = s.slices ∧
    (s.setDramB a b).mitts = s.mitts ∧ (s.setDramB a b).ctxs = s.ctxs ∧ (s.setDramB a b).tails = s.tails ∧
    (s.setDramB a b).feng = s.feng ∧ (s.setDramB a b).align = s.align ∧ (s.setDramB a b).units = s.units ∧
    (s.setDramB a b).trig = s.trig ∧ (s.setDramB a b).recs = s.recs ∧ (s.setDramB a b).cmps = s.cmps ∧
    (s.setDramB a b).cmpc = s.cmpc ∧ (s.setDramB a b).strs = s.strs ∧ (s.setDramB a b).store = s.store ∧
    (s.setDramB a b).ring = s.ring ∧ (s.setDramB a b).eths = s.eths ∧ (s.setDramB a b).ulks = s.ulks ∧
    (s.setDramB a b).dram = s.dram ∧ (s.setDramB a b).dma = s.dma ∧ (s.setDramB a b).lanes = s.lanes ∧
    (s.setDramB a b).tmr = s.tmr ∧ (s.setDramB a b).pcie = s.pcie ∧ (s.setDramB a b).boot = s.boot ∧
    (s.setDramB a b).mgmt = s.mgmt ∧ (s.setDramB a b).att = s.att ∧ (s.setDramB a b).smp = s.smp ∧
    (s.setDramB a b).supply = s.supply ∧ (s.setDramB a b).otp = s.otp ∧ (s.setDramB a b).cals = s.cals ∧
    (s.setDramB a b).calctl = s.calctl ∧ (s.setDramB a b).loops = s.loops ∧ (s.setDramB a b).loopOld = s.loopOld ∧
    (s.setDramB a b).tiu = s.tiu ∧ (s.setDramB a b).sats = s.sats := by and_intros <;> rfl

@[simp] theorem State.setDramB_reads (s : State) (a : Nat) (b : Byte) (m : Nat) :
    (s.setDramB a b).rw m = s.rw m ∧ (s.setDramB a b).page m = s.page m ∧ (s.setDramB a b).lock m = s.lock m ∧
    (s.setDramB a b).dom m = s.dom m ∧ (s.setDramB a b).axis m = s.axis m ∧ (s.setDramB a b).grid m = s.grid m ∧
    (s.setDramB a b).slice m = s.slice m ∧ (s.setDramB a b).mitt m = s.mitt m ∧ (s.setDramB a b).ctx m = s.ctx m ∧
    (s.setDramB a b).trigUnit m = s.trigUnit m ∧ (s.setDramB a b).cmp m = s.cmp m ∧ (s.setDramB a b).str m = s.str m ∧
    (s.setDramB a b).lane m = s.lane m ∧ (s.setDramB a b).ulk m = s.ulk m ∧ (s.setDramB a b).eth m = s.eth m ∧
    (s.setDramB a b).dmaCh m = s.dmaCh m ∧ (s.setDramB a b).recSlot m = s.recSlot m ∧ (s.setDramB a b).cal m = s.cal m ∧
    (s.setDramB a b).tch m = s.tch m ∧ (s.setDramB a b).loop m = s.loop m ∧ (s.setDramB a b).sramB m = s.sramB m := by and_intros <;> rfl

@[simp] theorem State.dramB_setDramB (s : State) (a : Nat) (b : Byte) (m : Nat) : (s.setDramB a b).dramB m = if m = a then b else s.dramB m :=
  tget_tset dram0 a m b _

@[simp] theorem State.setDom_pwr (s : State) (d : Nat) (v : DomSt) :
    (s.setDom d v).pwr.state = s.pwr.state ∧ (s.setDom d v).pwr.rej = s.pwr.rej ∧ (s.setDom d v).pwr.move = s.pwr.move ∧
    (s.setDom d v).pwr.hintOff = s.pwr.hintOff ∧ (s.setDom d v).pwr.coreWait = s.pwr.coreWait ∧
    (s.setDom d v).pwr.hostL0 = s.pwr.hostL0 := by and_intros <;> rfl

@[simp] theorem State.setDma_dma (s : State) (n : Nat) (v : DmaCh) :
    (s.setDma n v).dma.last = s.dma.last ∧ (s.setDma n v).dma.reqs = s.dma.reqs := by and_intros <;> rfl

@[simp] theorem State.setTch_tiu (s : State) (n : Nat) (v : TiuCh) :
    (s.setTch n v).tiu.ref10m = s.tiu.ref10m ∧ (s.setTch n v).tiu.pps = s.tiu.pps ∧ (s.setTch n v).tiu.refChg = s.tiu.refChg ∧
    (s.setTch n v).tiu.ppsChg = s.tiu.ppsChg ∧ (s.setTch n v).tiu.ppsBad = s.tiu.ppsBad ∧
    (s.setTch n v).tiu.ppsLast = s.tiu.ppsLast ∧ (s.setTch n v).tiu.ppsClk = s.tiu.ppsClk ∧
    (s.setTch n v).tiu.vwLast = s.tiu.vwLast ∧ (s.setTch n v).tiu.vwSlice = s.tiu.vwSlice ∧
    (s.setTch n v).tiu.refEdge = s.tiu.refEdge ∧ (s.setTch n v).tiu.refClk = s.tiu.refClk ∧
    (s.setTch n v).tiu.refGood = s.tiu.refGood ∧ (s.setTch n v).tiu.refBad = s.tiu.refBad ∧ (s.setTch n v).tiu.refN = s.tiu.refN ∧
    (s.setTch n v).tiu.refFrom = s.tiu.refFrom ∧ (s.setTch n v).tiu.rateErr = s.tiu.rateErr := by and_intros <;> rfl

/-- Marking a quote as changed changes the attestation state alone. -/
@[simp] theorem State.touch_fields (s : State) :
    s.touch.pending = s.pending ∧ s.touch.st = s.st ∧ s.touch.clk = s.clk ∧ s.touch.freeCtr = s.freeCtr ∧ s.touch.regs = s.regs ∧
    s.touch.hdr = s.hdr ∧ s.touch.locks = s.locks ∧ s.touch.bad = s.bad ∧ s.touch.lastRead = s.lastRead ∧ s.touch.msi = s.msi ∧
    s.touch.sram = s.sram ∧ s.touch.dramMem = s.dramMem ∧ s.touch.tb = s.tb ∧ s.touch.ax = s.ax ∧ s.touch.grids = s.grids ∧
    s.touch.gctl = s.gctl ∧ s.touch.sched = s.sched ∧ s.touch.pwr = s.pwr ∧ s.touch.bgt = s.bgt ∧ s.touch.slices = s.slices ∧
    s.touch.mitts = s.mitts ∧ s.touch.ctxs = s.ctxs ∧ s.touch.tails = s.tails ∧ s.touch.feng = s.feng ∧ s.touch.align = s.align ∧
    s.touch.units = s.units ∧ s.touch.trig = s.trig ∧ s.touch.recs = s.recs ∧ s.touch.cmps = s.cmps ∧ s.touch.cmpc = s.cmpc ∧
    s.touch.strs = s.strs ∧ s.touch.store = s.store ∧ s.touch.ring = s.ring ∧ s.touch.eths = s.eths ∧ s.touch.ulks = s.ulks ∧
    s.touch.dram = s.dram ∧ s.touch.dma = s.dma ∧ s.touch.lanes = s.lanes ∧ s.touch.tmr = s.tmr ∧ s.touch.pcie = s.pcie ∧
    s.touch.boot = s.boot ∧ s.touch.mgmt = s.mgmt ∧ s.touch.smp = s.smp ∧ s.touch.supply = s.supply ∧ s.touch.otp = s.otp ∧
    s.touch.cals = s.cals ∧ s.touch.calctl = s.calctl ∧ s.touch.loops = s.loops ∧ s.touch.loopOld = s.loopOld ∧
    s.touch.tiu = s.tiu ∧ s.touch.sats = s.sats := by
  unfold State.touch; split <;> and_intros <;> rfl

/-- Storing one field changes the stored registers alone. -/
@[simp] theorem State.setFld_fields (s : State) (a hi lo v : Nat) :
    (s.setFld a hi lo v).pending = s.pending ∧ (s.setFld a hi lo v).st = s.st ∧ (s.setFld a hi lo v).clk = s.clk ∧
    (s.setFld a hi lo v).freeCtr = s.freeCtr ∧ (s.setFld a hi lo v).hdr = s.hdr ∧ (s.setFld a hi lo v).locks = s.locks ∧
    (s.setFld a hi lo v).bad = s.bad ∧ (s.setFld a hi lo v).lastRead = s.lastRead ∧ (s.setFld a hi lo v).msi = s.msi ∧
    (s.setFld a hi lo v).sram = s.sram ∧ (s.setFld a hi lo v).dramMem = s.dramMem ∧ (s.setFld a hi lo v).tb = s.tb ∧
    (s.setFld a hi lo v).ax = s.ax ∧ (s.setFld a hi lo v).grids = s.grids ∧ (s.setFld a hi lo v).gctl = s.gctl ∧
    (s.setFld a hi lo v).sched = s.sched ∧ (s.setFld a hi lo v).pwr = s.pwr ∧ (s.setFld a hi lo v).bgt = s.bgt ∧
    (s.setFld a hi lo v).slices = s.slices ∧ (s.setFld a hi lo v).mitts = s.mitts ∧ (s.setFld a hi lo v).ctxs = s.ctxs ∧
    (s.setFld a hi lo v).tails = s.tails ∧ (s.setFld a hi lo v).feng = s.feng ∧ (s.setFld a hi lo v).align = s.align ∧
    (s.setFld a hi lo v).units = s.units ∧ (s.setFld a hi lo v).trig = s.trig ∧ (s.setFld a hi lo v).recs = s.recs ∧
    (s.setFld a hi lo v).cmps = s.cmps ∧ (s.setFld a hi lo v).cmpc = s.cmpc ∧ (s.setFld a hi lo v).strs = s.strs ∧
    (s.setFld a hi lo v).store = s.store ∧ (s.setFld a hi lo v).ring = s.ring ∧ (s.setFld a hi lo v).eths = s.eths ∧
    (s.setFld a hi lo v).ulks = s.ulks ∧ (s.setFld a hi lo v).dram = s.dram ∧ (s.setFld a hi lo v).dma = s.dma ∧
    (s.setFld a hi lo v).lanes = s.lanes ∧ (s.setFld a hi lo v).tmr = s.tmr ∧ (s.setFld a hi lo v).pcie = s.pcie ∧
    (s.setFld a hi lo v).boot = s.boot ∧ (s.setFld a hi lo v).mgmt = s.mgmt ∧ (s.setFld a hi lo v).att = s.att ∧
    (s.setFld a hi lo v).smp = s.smp ∧ (s.setFld a hi lo v).supply = s.supply ∧ (s.setFld a hi lo v).otp = s.otp ∧
    (s.setFld a hi lo v).cals = s.cals ∧ (s.setFld a hi lo v).calctl = s.calctl ∧ (s.setFld a hi lo v).loops = s.loops ∧
    (s.setFld a hi lo v).loopOld = s.loopOld ∧ (s.setFld a hi lo v).tiu = s.tiu ∧ (s.setFld a hi lo v).sats = s.sats := by
  simp [State.setFld]

/-- A healed word changes the scrubber state alone. -/
@[simp] theorem State.healSram_fields (s : State) (a : Nat) :
    (s.healSram a).pending = s.pending ∧ (s.healSram a).st = s.st ∧ (s.healSram a).clk = s.clk ∧
    (s.healSram a).freeCtr = s.freeCtr ∧ (s.healSram a).regs = s.regs ∧ (s.healSram a).hdr = s.hdr ∧
    (s.healSram a).locks = s.locks ∧ (s.healSram a).bad = s.bad ∧ (s.healSram a).lastRead = s.lastRead ∧
    (s.healSram a).msi = s.msi ∧ (s.healSram a).sram = s.sram ∧ (s.healSram a).dramMem = s.dramMem ∧ (s.healSram a).tb = s.tb ∧
    (s.healSram a).ax = s.ax ∧ (s.healSram a).grids = s.grids ∧ (s.healSram a).gctl = s.gctl ∧ (s.healSram a).sched = s.sched ∧
    (s.healSram a).pwr = s.pwr ∧ (s.healSram a).bgt = s.bgt ∧ (s.healSram a).slices = s.slices ∧ (s.healSram a).mitts = s.mitts ∧
    (s.healSram a).ctxs = s.ctxs ∧ (s.healSram a).tails = s.tails ∧ (s.healSram a).feng = s.feng ∧ (s.healSram a).align = s.align ∧
    (s.healSram a).units = s.units ∧ (s.healSram a).trig = s.trig ∧ (s.healSram a).recs = s.recs ∧ (s.healSram a).cmps = s.cmps ∧
    (s.healSram a).cmpc = s.cmpc ∧ (s.healSram a).strs = s.strs ∧ (s.healSram a).store = s.store ∧ (s.healSram a).ring = s.ring ∧
    (s.healSram a).eths = s.eths ∧ (s.healSram a).ulks = s.ulks ∧ (s.healSram a).dram = s.dram ∧ (s.healSram a).dma = s.dma ∧
    (s.healSram a).lanes = s.lanes ∧ (s.healSram a).pcie = s.pcie ∧ (s.healSram a).boot = s.boot ∧ (s.healSram a).mgmt = s.mgmt ∧
    (s.healSram a).att = s.att ∧ (s.healSram a).smp = s.smp ∧ (s.healSram a).supply = s.supply ∧ (s.healSram a).otp = s.otp ∧
    (s.healSram a).cals = s.cals ∧ (s.healSram a).calctl = s.calctl ∧ (s.healSram a).loops = s.loops ∧
    (s.healSram a).loopOld = s.loopOld ∧ (s.healSram a).tiu = s.tiu ∧ (s.healSram a).sats = s.sats := by
  and_intros <;> rfl

/-- A word write changes on-chip memory and the scrubber state alone. -/
@[simp] theorem State.setSramW_fields (s : State) (a : Nat) (w : Word) :
    (s.setSramW a w).pending = s.pending ∧ (s.setSramW a w).st = s.st ∧ (s.setSramW a w).clk = s.clk ∧
    (s.setSramW a w).freeCtr = s.freeCtr ∧ (s.setSramW a w).regs = s.regs ∧ (s.setSramW a w).hdr = s.hdr ∧
    (s.setSramW a w).locks = s.locks ∧ (s.setSramW a w).bad = s.bad ∧ (s.setSramW a w).lastRead = s.lastRead ∧
    (s.setSramW a w).msi = s.msi ∧ (s.setSramW a w).dramMem = s.dramMem ∧ (s.setSramW a w).tb = s.tb ∧ (s.setSramW a w).ax = s.ax ∧
    (s.setSramW a w).grids = s.grids ∧ (s.setSramW a w).gctl = s.gctl ∧ (s.setSramW a w).sched = s.sched ∧
    (s.setSramW a w).pwr = s.pwr ∧ (s.setSramW a w).bgt = s.bgt ∧ (s.setSramW a w).slices = s.slices ∧
    (s.setSramW a w).mitts = s.mitts ∧ (s.setSramW a w).ctxs = s.ctxs ∧ (s.setSramW a w).tails = s.tails ∧
    (s.setSramW a w).feng = s.feng ∧ (s.setSramW a w).align = s.align ∧ (s.setSramW a w).units = s.units ∧
    (s.setSramW a w).trig = s.trig ∧ (s.setSramW a w).recs = s.recs ∧ (s.setSramW a w).cmps = s.cmps ∧
    (s.setSramW a w).cmpc = s.cmpc ∧ (s.setSramW a w).strs = s.strs ∧ (s.setSramW a w).store = s.store ∧
    (s.setSramW a w).ring = s.ring ∧ (s.setSramW a w).eths = s.eths ∧ (s.setSramW a w).ulks = s.ulks ∧
    (s.setSramW a w).dram = s.dram ∧ (s.setSramW a w).dma = s.dma ∧ (s.setSramW a w).lanes = s.lanes ∧
    (s.setSramW a w).pcie = s.pcie ∧ (s.setSramW a w).boot = s.boot ∧ (s.setSramW a w).mgmt = s.mgmt ∧
    (s.setSramW a w).att = s.att ∧ (s.setSramW a w).smp = s.smp ∧ (s.setSramW a w).supply = s.supply ∧
    (s.setSramW a w).otp = s.otp ∧ (s.setSramW a w).cals = s.cals ∧ (s.setSramW a w).calctl = s.calctl ∧
    (s.setSramW a w).loops = s.loops ∧ (s.setSramW a w).loopOld = s.loopOld ∧ (s.setSramW a w).tiu = s.tiu ∧
    (s.setSramW a w).sats = s.sats := by
  simp [State.setSramW]

/-- A table word write changes on-chip memory, the scrubber and the attestation state alone. -/
@[simp] theorem State.setTblW_fields (s : State) (o : Nat) (w : Word) :
    (s.setTblW o w).pending = s.pending ∧ (s.setTblW o w).st = s.st ∧ (s.setTblW o w).clk = s.clk ∧
    (s.setTblW o w).freeCtr = s.freeCtr ∧ (s.setTblW o w).regs = s.regs ∧ (s.setTblW o w).hdr = s.hdr ∧
    (s.setTblW o w).locks = s.locks ∧ (s.setTblW o w).bad = s.bad ∧ (s.setTblW o w).lastRead = s.lastRead ∧
    (s.setTblW o w).msi = s.msi ∧ (s.setTblW o w).dramMem = s.dramMem ∧ (s.setTblW o w).tb = s.tb ∧ (s.setTblW o w).ax = s.ax ∧
    (s.setTblW o w).grids = s.grids ∧ (s.setTblW o w).gctl = s.gctl ∧ (s.setTblW o w).sched = s.sched ∧
    (s.setTblW o w).pwr = s.pwr ∧ (s.setTblW o w).bgt = s.bgt ∧ (s.setTblW o w).slices = s.slices ∧
    (s.setTblW o w).mitts = s.mitts ∧ (s.setTblW o w).ctxs = s.ctxs ∧ (s.setTblW o w).tails = s.tails ∧
    (s.setTblW o w).feng = s.feng ∧ (s.setTblW o w).align = s.align ∧ (s.setTblW o w).units = s.units ∧
    (s.setTblW o w).trig = s.trig ∧ (s.setTblW o w).recs = s.recs ∧ (s.setTblW o w).cmps = s.cmps ∧ (s.setTblW o w).cmpc = s.cmpc ∧
    (s.setTblW o w).strs = s.strs ∧ (s.setTblW o w).store = s.store ∧ (s.setTblW o w).ring = s.ring ∧
    (s.setTblW o w).eths = s.eths ∧ (s.setTblW o w).ulks = s.ulks ∧ (s.setTblW o w).dram = s.dram ∧ (s.setTblW o w).dma = s.dma ∧
    (s.setTblW o w).lanes = s.lanes ∧ (s.setTblW o w).pcie = s.pcie ∧ (s.setTblW o w).boot = s.boot ∧
    (s.setTblW o w).mgmt = s.mgmt ∧ (s.setTblW o w).smp = s.smp ∧ (s.setTblW o w).supply = s.supply ∧ (s.setTblW o w).otp = s.otp ∧
    (s.setTblW o w).cals = s.cals ∧ (s.setTblW o w).calctl = s.calctl ∧ (s.setTblW o w).loops = s.loops ∧
    (s.setTblW o w).loopOld = s.loopOld ∧ (s.setTblW o w).tiu = s.tiu ∧ (s.setTblW o w).sats = s.sats := by
  unfold State.setTblW; split <;> simp

@[simp] theorem State.touch_reads (s : State) (m : Nat) :
    s.touch.rw m = s.rw m ∧ s.touch.page m = s.page m ∧ s.touch.lock m = s.lock m ∧ s.touch.dom m = s.dom m ∧
    s.touch.axis m = s.axis m ∧ s.touch.grid m = s.grid m ∧ s.touch.slice m = s.slice m ∧ s.touch.mitt m = s.mitt m ∧
    s.touch.ctx m = s.ctx m ∧ s.touch.trigUnit m = s.trigUnit m ∧ s.touch.cmp m = s.cmp m ∧ s.touch.str m = s.str m ∧
    s.touch.lane m = s.lane m ∧ s.touch.ulk m = s.ulk m ∧ s.touch.eth m = s.eth m ∧ s.touch.dmaCh m = s.dmaCh m ∧
    s.touch.recSlot m = s.recSlot m ∧ s.touch.cal m = s.cal m ∧ s.touch.tch m = s.tch m ∧ s.touch.loop m = s.loop m ∧
    s.touch.sramB m = s.sramB m ∧ s.touch.dramB m = s.dramB m := by
  simp only [State.rw, State.page, State.lock, State.dom, State.axis, State.grid, State.slice, State.mitt, State.ctx, State.trigUnit, State.cmp, State.str, State.lane, State.ulk, State.eth, State.dmaCh, State.recSlot, State.cal, State.tch, State.loop, State.sramB, State.dramB, State.touch_fields]; simp

@[simp] theorem State.setFld_reads (s : State) (a hi lo v : Nat) (m : Nat) :
    (s.setFld a hi lo v).page m = s.page m ∧ (s.setFld a hi lo v).lock m = s.lock m ∧ (s.setFld a hi lo v).dom m = s.dom m ∧
    (s.setFld a hi lo v).axis m = s.axis m ∧ (s.setFld a hi lo v).grid m = s.grid m ∧ (s.setFld a hi lo v).slice m = s.slice m ∧
    (s.setFld a hi lo v).mitt m = s.mitt m ∧ (s.setFld a hi lo v).ctx m = s.ctx m ∧
    (s.setFld a hi lo v).trigUnit m = s.trigUnit m ∧ (s.setFld a hi lo v).cmp m = s.cmp m ∧ (s.setFld a hi lo v).str m = s.str m ∧
    (s.setFld a hi lo v).lane m = s.lane m ∧ (s.setFld a hi lo v).ulk m = s.ulk m ∧ (s.setFld a hi lo v).eth m = s.eth m ∧
    (s.setFld a hi lo v).dmaCh m = s.dmaCh m ∧ (s.setFld a hi lo v).recSlot m = s.recSlot m ∧
    (s.setFld a hi lo v).cal m = s.cal m ∧ (s.setFld a hi lo v).tch m = s.tch m ∧ (s.setFld a hi lo v).loop m = s.loop m ∧
    (s.setFld a hi lo v).sramB m = s.sramB m ∧ (s.setFld a hi lo v).dramB m = s.dramB m := by
  simp only [State.page, State.lock, State.dom, State.axis, State.grid, State.slice, State.mitt, State.ctx, State.trigUnit, State.cmp, State.str, State.lane, State.ulk, State.eth, State.dmaCh, State.recSlot, State.cal, State.tch, State.loop, State.sramB, State.dramB, State.setFld_fields]; simp

@[simp] theorem State.setSramW_reads (s : State) (a : Nat) (w : Word) (m : Nat) :
    (s.setSramW a w).rw m = s.rw m ∧ (s.setSramW a w).page m = s.page m ∧ (s.setSramW a w).lock m = s.lock m ∧
    (s.setSramW a w).dom m = s.dom m ∧ (s.setSramW a w).axis m = s.axis m ∧ (s.setSramW a w).grid m = s.grid m ∧
    (s.setSramW a w).slice m = s.slice m ∧ (s.setSramW a w).mitt m = s.mitt m ∧ (s.setSramW a w).ctx m = s.ctx m ∧
    (s.setSramW a w).trigUnit m = s.trigUnit m ∧ (s.setSramW a w).cmp m = s.cmp m ∧ (s.setSramW a w).str m = s.str m ∧
    (s.setSramW a w).lane m = s.lane m ∧ (s.setSramW a w).ulk m = s.ulk m ∧ (s.setSramW a w).eth m = s.eth m ∧
    (s.setSramW a w).dmaCh m = s.dmaCh m ∧ (s.setSramW a w).recSlot m = s.recSlot m ∧ (s.setSramW a w).cal m = s.cal m ∧
    (s.setSramW a w).tch m = s.tch m ∧ (s.setSramW a w).loop m = s.loop m ∧ (s.setSramW a w).dramB m = s.dramB m := by
  simp only [State.rw, State.page, State.lock, State.dom, State.axis, State.grid, State.slice, State.mitt, State.ctx, State.trigUnit, State.cmp, State.str, State.lane, State.ulk, State.eth, State.dmaCh, State.recSlot, State.cal, State.tch, State.loop, State.dramB, State.setSramW_fields]; simp

@[simp] theorem State.setTblW_reads (s : State) (o : Nat) (w : Word) (m : Nat) :
    (s.setTblW o w).rw m = s.rw m ∧ (s.setTblW o w).page m = s.page m ∧ (s.setTblW o w).lock m = s.lock m ∧
    (s.setTblW o w).dom m = s.dom m ∧ (s.setTblW o w).axis m = s.axis m ∧ (s.setTblW o w).grid m = s.grid m ∧
    (s.setTblW o w).slice m = s.slice m ∧ (s.setTblW o w).mitt m = s.mitt m ∧ (s.setTblW o w).ctx m = s.ctx m ∧
    (s.setTblW o w).trigUnit m = s.trigUnit m ∧ (s.setTblW o w).cmp m = s.cmp m ∧ (s.setTblW o w).str m = s.str m ∧
    (s.setTblW o w).lane m = s.lane m ∧ (s.setTblW o w).ulk m = s.ulk m ∧ (s.setTblW o w).eth m = s.eth m ∧
    (s.setTblW o w).dmaCh m = s.dmaCh m ∧ (s.setTblW o w).recSlot m = s.recSlot m ∧ (s.setTblW o w).cal m = s.cal m ∧
    (s.setTblW o w).tch m = s.tch m ∧ (s.setTblW o w).loop m = s.loop m ∧ (s.setTblW o w).dramB m = s.dramB m := by
  simp only [State.rw, State.page, State.lock, State.dom, State.axis, State.grid, State.slice, State.mitt, State.ctx, State.trigUnit, State.cmp, State.str, State.lane, State.ulk, State.eth, State.dmaCh, State.recSlot, State.cal, State.tch, State.loop, State.dramB, State.setTblW_fields]; simp

end Sys2Proof.Machine
end

