-- ==== Sys2Proof/Laws/Events.lean ====
section
/-! SUPPORT. Laws of the event fabric and of plain register writes: what raising an event, reporting a faulty access and storing a
register leave as they were. -/

namespace Sys2Proof.Machine

/-- Posting a message changes the MSI-X state alone. -/
@[simp] theorem postVec_fields (v : Nat) (s : State) :
    (postVec v s).pending = s.pending ∧ (postVec v s).st = s.st ∧ (postVec v s).clk = s.clk ∧ (postVec v s).freeCtr = s.freeCtr ∧
    (postVec v s).regs = s.regs ∧ (postVec v s).hdr = s.hdr ∧ (postVec v s).locks = s.locks ∧ (postVec v s).bad = s.bad ∧
    (postVec v s).lastRead = s.lastRead ∧ (postVec v s).sram = s.sram ∧ (postVec v s).dramMem = s.dramMem ∧
    (postVec v s).tb = s.tb ∧ (postVec v s).ax = s.ax ∧ (postVec v s).grids = s.grids ∧ (postVec v s).gctl = s.gctl ∧
    (postVec v s).sched = s.sched ∧ (postVec v s).pwr = s.pwr ∧ (postVec v s).bgt = s.bgt ∧ (postVec v s).slices = s.slices ∧
    (postVec v s).mitts = s.mitts ∧ (postVec v s).ctxs = s.ctxs ∧ (postVec v s).tails = s.tails ∧ (postVec v s).feng = s.feng ∧
    (postVec v s).align = s.align ∧ (postVec v s).units = s.units ∧ (postVec v s).trig = s.trig ∧ (postVec v s).recs = s.recs ∧
    (postVec v s).cmps = s.cmps ∧ (postVec v s).cmpc = s.cmpc ∧ (postVec v s).strs = s.strs ∧ (postVec v s).store = s.store ∧
    (postVec v s).ring = s.ring ∧ (postVec v s).eths = s.eths ∧ (postVec v s).ulks = s.ulks ∧ (postVec v s).dram = s.dram ∧
    (postVec v s).dma = s.dma ∧ (postVec v s).lanes = s.lanes ∧ (postVec v s).tmr = s.tmr ∧ (postVec v s).pcie = s.pcie ∧
    (postVec v s).boot = s.boot ∧ (postVec v s).mgmt = s.mgmt ∧ (postVec v s).att = s.att ∧ (postVec v s).smp = s.smp ∧
    (postVec v s).supply = s.supply ∧ (postVec v s).otp = s.otp ∧ (postVec v s).cals = s.cals ∧ (postVec v s).calctl = s.calctl ∧
    (postVec v s).loops = s.loops ∧ (postVec v s).loopOld = s.loopOld ∧ (postVec v s).tiu = s.tiu ∧ (postVec v s).sats = s.sats := by
  unfold postVec; split <;> and_intros <;> rfl

/-- Delivering a rise changes the MSI-X state alone. -/
@[simp] theorem msiRise_fields (n : Nat) (s0 s : State) :
    (msiRise n s0 s).pending = s.pending ∧ (msiRise n s0 s).st = s.st ∧ (msiRise n s0 s).clk = s.clk ∧
    (msiRise n s0 s).freeCtr = s.freeCtr ∧ (msiRise n s0 s).regs = s.regs ∧ (msiRise n s0 s).hdr = s.hdr ∧
    (msiRise n s0 s).locks = s.locks ∧ (msiRise n s0 s).bad = s.bad ∧ (msiRise n s0 s).lastRead = s.lastRead ∧
    (msiRise n s0 s).sram = s.sram ∧ (msiRise n s0 s).dramMem = s.dramMem ∧ (msiRise n s0 s).tb = s.tb ∧
    (msiRise n s0 s).ax = s.ax ∧ (msiRise n s0 s).grids = s.grids ∧ (msiRise n s0 s).gctl = s.gctl ∧
    (msiRise n s0 s).sched = s.sched ∧ (msiRise n s0 s).pwr = s.pwr ∧ (msiRise n s0 s).bgt = s.bgt ∧
    (msiRise n s0 s).slices = s.slices ∧ (msiRise n s0 s).mitts = s.mitts ∧ (msiRise n s0 s).ctxs = s.ctxs ∧
    (msiRise n s0 s).tails = s.tails ∧ (msiRise n s0 s).feng = s.feng ∧ (msiRise n s0 s).align = s.align ∧
    (msiRise n s0 s).units = s.units ∧ (msiRise n s0 s).trig = s.trig ∧ (msiRise n s0 s).recs = s.recs ∧
    (msiRise n s0 s).cmps = s.cmps ∧ (msiRise n s0 s).cmpc = s.cmpc ∧ (msiRise n s0 s).strs = s.strs ∧
    (msiRise n s0 s).store = s.store ∧ (msiRise n s0 s).ring = s.ring ∧ (msiRise n s0 s).eths = s.eths ∧
    (msiRise n s0 s).ulks = s.ulks ∧ (msiRise n s0 s).dram = s.dram ∧ (msiRise n s0 s).dma = s.dma ∧
    (msiRise n s0 s).lanes = s.lanes ∧ (msiRise n s0 s).tmr = s.tmr ∧ (msiRise n s0 s).pcie = s.pcie ∧
    (msiRise n s0 s).boot = s.boot ∧ (msiRise n s0 s).mgmt = s.mgmt ∧ (msiRise n s0 s).att = s.att ∧ (msiRise n s0 s).smp = s.smp ∧
    (msiRise n s0 s).supply = s.supply ∧ (msiRise n s0 s).otp = s.otp ∧ (msiRise n s0 s).cals = s.cals ∧
    (msiRise n s0 s).calctl = s.calctl ∧ (msiRise n s0 s).loops = s.loops ∧ (msiRise n s0 s).loopOld = s.loopOld ∧
    (msiRise n s0 s).tiu = s.tiu ∧ (msiRise n s0 s).sats = s.sats := by
  unfold msiRise; split <;> simp

/-- Latching an event changes its page header and the MSI-X state alone. -/
@[simp] theorem latch_fields (p b : Nat) (s : State) :
    (latch p b s).pending = s.pending ∧ (latch p b s).st = s.st ∧ (latch p b s).clk = s.clk ∧ (latch p b s).freeCtr = s.freeCtr ∧
    (latch p b s).regs = s.regs ∧ (latch p b s).locks = s.locks ∧ (latch p b s).bad = s.bad ∧ (latch p b s).lastRead = s.lastRead ∧
    (latch p b s).sram = s.sram ∧ (latch p b s).dramMem = s.dramMem ∧ (latch p b s).tb = s.tb ∧ (latch p b s).ax = s.ax ∧
    (latch p b s).grids = s.grids ∧ (latch p b s).gctl = s.gctl ∧ (latch p b s).sched = s.sched ∧ (latch p b s).pwr = s.pwr ∧
    (latch p b s).bgt = s.bgt ∧ (latch p b s).slices = s.slices ∧ (latch p b s).mitts = s.mitts ∧ (latch p b s).ctxs = s.ctxs ∧
    (latch p b s).tails = s.tails ∧ (latch p b s).feng = s.feng ∧ (latch p b s).align = s.align ∧ (latch p b s).units = s.units ∧
    (latch p b s).trig = s.trig ∧ (latch p b s).recs = s.recs ∧ (latch p b s).cmps = s.cmps ∧ (latch p b s).cmpc = s.cmpc ∧
    (latch p b s).strs = s.strs ∧ (latch p b s).store = s.store ∧ (latch p b s).ring = s.ring ∧ (latch p b s).eths = s.eths ∧
    (latch p b s).ulks = s.ulks ∧ (latch p b s).dram = s.dram ∧ (latch p b s).dma = s.dma ∧ (latch p b s).lanes = s.lanes ∧
    (latch p b s).tmr = s.tmr ∧ (latch p b s).pcie = s.pcie ∧ (latch p b s).boot = s.boot ∧ (latch p b s).mgmt = s.mgmt ∧
    (latch p b s).att = s.att ∧ (latch p b s).smp = s.smp ∧ (latch p b s).supply = s.supply ∧ (latch p b s).otp = s.otp ∧
    (latch p b s).cals = s.cals ∧ (latch p b s).calctl = s.calctl ∧ (latch p b s).loops = s.loops ∧
    (latch p b s).loopOld = s.loopOld ∧ (latch p b s).tiu = s.tiu ∧ (latch p b s).sats = s.sats := by
  unfold latch; cases evOf p b <;> simp

/-- A wake changes page headers, the MSI-X state and the power state alone. -/
@[simp] theorem wakeHub_fields (s : State) :
    (wakeHub s).pending = s.pending ∧ (wakeHub s).st = s.st ∧ (wakeHub s).clk = s.clk ∧ (wakeHub s).freeCtr = s.freeCtr ∧
    (wakeHub s).regs = s.regs ∧ (wakeHub s).locks = s.locks ∧ (wakeHub s).bad = s.bad ∧ (wakeHub s).lastRead = s.lastRead ∧
    (wakeHub s).sram = s.sram ∧ (wakeHub s).dramMem = s.dramMem ∧ (wakeHub s).tb = s.tb ∧ (wakeHub s).ax = s.ax ∧
    (wakeHub s).grids = s.grids ∧ (wakeHub s).gctl = s.gctl ∧ (wakeHub s).sched = s.sched ∧ (wakeHub s).bgt = s.bgt ∧
    (wakeHub s).slices = s.slices ∧ (wakeHub s).mitts = s.mitts ∧ (wakeHub s).ctxs = s.ctxs ∧ (wakeHub s).tails = s.tails ∧
    (wakeHub s).feng = s.feng ∧ (wakeHub s).align = s.align ∧ (wakeHub s).units = s.units ∧ (wakeHub s).trig = s.trig ∧
    (wakeHub s).recs = s.recs ∧ (wakeHub s).cmps = s.cmps ∧ (wakeHub s).cmpc = s.cmpc ∧ (wakeHub s).strs = s.strs ∧
    (wakeHub s).store = s.store ∧ (wakeHub s).ring = s.ring ∧ (wakeHub s).eths = s.eths ∧ (wakeHub s).ulks = s.ulks ∧
    (wakeHub s).dram = s.dram ∧ (wakeHub s).dma = s.dma ∧ (wakeHub s).lanes = s.lanes ∧ (wakeHub s).tmr = s.tmr ∧
    (wakeHub s).pcie = s.pcie ∧ (wakeHub s).boot = s.boot ∧ (wakeHub s).mgmt = s.mgmt ∧ (wakeHub s).att = s.att ∧
    (wakeHub s).smp = s.smp ∧ (wakeHub s).supply = s.supply ∧ (wakeHub s).otp = s.otp ∧ (wakeHub s).cals = s.cals ∧
    (wakeHub s).calctl = s.calctl ∧ (wakeHub s).loops = s.loops ∧ (wakeHub s).loopOld = s.loopOld ∧ (wakeHub s).tiu = s.tiu ∧
    (wakeHub s).sats = s.sats := by
  unfold wakeHub; cases s.pwr.move <;> dsimp only <;> split <;> simp

/-- Raising an event changes page headers, the MSI-X state and, as a wake, the power state alone. -/
@[simp] theorem raise_fields (p b : Nat) (s : State) :
    (raise p b s).pending = s.pending ∧ (raise p b s).st = s.st ∧ (raise p b s).clk = s.clk ∧ (raise p b s).freeCtr = s.freeCtr ∧
    (raise p b s).regs = s.regs ∧ (raise p b s).locks = s.locks ∧ (raise p b s).bad = s.bad ∧ (raise p b s).lastRead = s.lastRead ∧
    (raise p b s).sram = s.sram ∧ (raise p b s).dramMem = s.dramMem ∧ (raise p b s).tb = s.tb ∧ (raise p b s).ax = s.ax ∧
    (raise p b s).grids = s.grids ∧ (raise p b s).gctl = s.gctl ∧ (raise p b s).sched = s.sched ∧ (raise p b s).bgt = s.bgt ∧
    (raise p b s).slices = s.slices ∧ (raise p b s).mitts = s.mitts ∧ (raise p b s).ctxs = s.ctxs ∧ (raise p b s).tails = s.tails ∧
    (raise p b s).feng = s.feng ∧ (raise p b s).align = s.align ∧ (raise p b s).units = s.units ∧ (raise p b s).trig = s.trig ∧
    (raise p b s).recs = s.recs ∧ (raise p b s).cmps = s.cmps ∧ (raise p b s).cmpc = s.cmpc ∧ (raise p b s).strs = s.strs ∧
    (raise p b s).store = s.store ∧ (raise p b s).ring = s.ring ∧ (raise p b s).eths = s.eths ∧ (raise p b s).ulks = s.ulks ∧
    (raise p b s).dram = s.dram ∧ (raise p b s).dma = s.dma ∧ (raise p b s).lanes = s.lanes ∧ (raise p b s).tmr = s.tmr ∧
    (raise p b s).pcie = s.pcie ∧ (raise p b s).boot = s.boot ∧ (raise p b s).mgmt = s.mgmt ∧ (raise p b s).att = s.att ∧
    (raise p b s).smp = s.smp ∧ (raise p b s).supply = s.supply ∧ (raise p b s).otp = s.otp ∧ (raise p b s).cals = s.cals ∧
    (raise p b s).calctl = s.calctl ∧ (raise p b s).loops = s.loops ∧ (raise p b s).loopOld = s.loopOld ∧
    (raise p b s).tiu = s.tiu ∧ (raise p b s).sats = s.sats := by
  unfold raise; cases evOf p b <;> dsimp only <;> (try split) <;> simp

/-- Raising an event on a condition changes no more than raising it. -/
@[simp] theorem raiseIf_fields (c : Bool) (p b : Nat) (s : State) :
    (raiseIf c p b s).pending = s.pending ∧ (raiseIf c p b s).st = s.st ∧ (raiseIf c p b s).clk = s.clk ∧
    (raiseIf c p b s).freeCtr = s.freeCtr ∧ (raiseIf c p b s).regs = s.regs ∧ (raiseIf c p b s).locks = s.locks ∧
    (raiseIf c p b s).bad = s.bad ∧ (raiseIf c p b s).lastRead = s.lastRead ∧ (raiseIf c p b s).sram = s.sram ∧
    (raiseIf c p b s).dramMem = s.dramMem ∧ (raiseIf c p b s).tb = s.tb ∧ (raiseIf c p b s).ax = s.ax ∧
    (raiseIf c p b s).grids = s.grids ∧ (raiseIf c p b s).gctl = s.gctl ∧ (raiseIf c p b s).sched = s.sched ∧
    (raiseIf c p b s).bgt = s.bgt ∧ (raiseIf c p b s).slices = s.slices ∧ (raiseIf c p b s).mitts = s.mitts ∧
    (raiseIf c p b s).ctxs = s.ctxs ∧ (raiseIf c p b s).tails = s.tails ∧ (raiseIf c p b s).feng = s.feng ∧
    (raiseIf c p b s).align = s.align ∧ (raiseIf c p b s).units = s.units ∧ (raiseIf c p b s).trig = s.trig ∧
    (raiseIf c p b s).recs = s.recs ∧ (raiseIf c p b s).cmps = s.cmps ∧ (raiseIf c p b s).cmpc = s.cmpc ∧
    (raiseIf c p b s).strs = s.strs ∧ (raiseIf c p b s).store = s.store ∧ (raiseIf c p b s).ring = s.ring ∧
    (raiseIf c p b s).eths = s.eths ∧ (raiseIf c p b s).ulks = s.ulks ∧ (raiseIf c p b s).dram = s.dram ∧
    (raiseIf c p b s).dma = s.dma ∧ (raiseIf c p b s).lanes = s.lanes ∧ (raiseIf c p b s).tmr = s.tmr ∧
    (raiseIf c p b s).pcie = s.pcie ∧ (raiseIf c p b s).boot = s.boot ∧ (raiseIf c p b s).mgmt = s.mgmt ∧
    (raiseIf c p b s).att = s.att ∧ (raiseIf c p b s).smp = s.smp ∧ (raiseIf c p b s).supply = s.supply ∧
    (raiseIf c p b s).otp = s.otp ∧ (raiseIf c p b s).cals = s.cals ∧ (raiseIf c p b s).calctl = s.calctl ∧
    (raiseIf c p b s).loops = s.loops ∧ (raiseIf c p b s).loopOld = s.loopOld ∧ (raiseIf c p b s).tiu = s.tiu ∧
    (raiseIf c p b s).sats = s.sats := by
  unfold raiseIf; split <;> simp

/-- A condition's level changes no more than raising its event. -/
@[simp] theorem setRaw_fields (p b : Nat) (on : Bool) (s : State) :
    (setRaw p b on s).pending = s.pending ∧ (setRaw p b on s).st = s.st ∧ (setRaw p b on s).clk = s.clk ∧
    (setRaw p b on s).freeCtr = s.freeCtr ∧ (setRaw p b on s).regs = s.regs ∧ (setRaw p b on s).locks = s.locks ∧
    (setRaw p b on s).bad = s.bad ∧ (setRaw p b on s).lastRead = s.lastRead ∧ (setRaw p b on s).sram = s.sram ∧
    (setRaw p b on s).dramMem = s.dramMem ∧ (setRaw p b on s).tb = s.tb ∧ (setRaw p b on s).ax = s.ax ∧
    (setRaw p b on s).grids = s.grids ∧ (setRaw p b on s).gctl = s.gctl ∧ (setRaw p b on s).sched = s.sched ∧
    (setRaw p b on s).bgt = s.bgt ∧ (setRaw p b on s).slices = s.slices ∧ (setRaw p b on s).mitts = s.mitts ∧
    (setRaw p b on s).ctxs = s.ctxs ∧ (setRaw p b on s).tails = s.tails ∧ (setRaw p b on s).feng = s.feng ∧
    (setRaw p b on s).align = s.align ∧ (setRaw p b on s).units = s.units ∧ (setRaw p b on s).trig = s.trig ∧
    (setRaw p b on s).recs = s.recs ∧ (setRaw p b on s).cmps = s.cmps ∧ (setRaw p b on s).cmpc = s.cmpc ∧
    (setRaw p b on s).strs = s.strs ∧ (setRaw p b on s).store = s.store ∧ (setRaw p b on s).ring = s.ring ∧
    (setRaw p b on s).eths = s.eths ∧ (setRaw p b on s).ulks = s.ulks ∧ (setRaw p b on s).dram = s.dram ∧
    (setRaw p b on s).dma = s.dma ∧ (setRaw p b on s).lanes = s.lanes ∧ (setRaw p b on s).tmr = s.tmr ∧
    (setRaw p b on s).pcie = s.pcie ∧ (setRaw p b on s).boot = s.boot ∧ (setRaw p b on s).mgmt = s.mgmt ∧
    (setRaw p b on s).att = s.att ∧ (setRaw p b on s).smp = s.smp ∧ (setRaw p b on s).supply = s.supply ∧
    (setRaw p b on s).otp = s.otp ∧ (setRaw p b on s).cals = s.cals ∧ (setRaw p b on s).calctl = s.calctl ∧
    (setRaw p b on s).loops = s.loops ∧ (setRaw p b on s).loopOld = s.loopOld ∧ (setRaw p b on s).tiu = s.tiu ∧
    (setRaw p b on s).sats = s.sats := by
  simp [setRaw]

/-- A faulty access changes BADACC and what raising BAD_ACCESS changes. -/
@[simp] theorem badAccess_fields (src a : Nat) (wr : Bool) (cause : Nat) (s : State) :
    (badAccess src a wr cause s).pending = s.pending ∧ (badAccess src a wr cause s).st = s.st ∧
    (badAccess src a wr cause s).clk = s.clk ∧ (badAccess src a wr cause s).freeCtr = s.freeCtr ∧
    (badAccess src a wr cause s).regs = s.regs ∧ (badAccess src a wr cause s).locks = s.locks ∧
    (badAccess src a wr cause s).lastRead = s.lastRead ∧ (badAccess src a wr cause s).sram = s.sram ∧
    (badAccess src a wr cause s).dramMem = s.dramMem ∧ (badAccess src a wr cause s).tb = s.tb ∧
    (badAccess src a wr cause s).ax = s.ax ∧ (badAccess src a wr cause s).grids = s.grids ∧
    (badAccess src a wr cause s).gctl = s.gctl ∧ (badAccess src a wr cause s).sched = s.sched ∧
    (badAccess src a wr cause s).bgt = s.bgt ∧ (badAccess src a wr cause s).slices = s.slices ∧
    (badAccess src a wr cause s).mitts = s.mitts ∧ (badAccess src a wr cause s).ctxs = s.ctxs ∧
    (badAccess src a wr cause s).tails = s.tails ∧ (badAccess src a wr cause s).feng = s.feng ∧
    (badAccess src a wr cause s).align = s.align ∧ (badAccess src a wr cause s).units = s.units ∧
    (badAccess src a wr cause s).trig = s.trig ∧ (badAccess src a wr cause s).recs = s.recs ∧
    (badAccess src a wr cause s).cmps = s.cmps ∧ (badAccess src a wr cause s).cmpc = s.cmpc ∧
    (badAccess src a wr cause s).strs = s.strs ∧ (badAccess src a wr cause s).store = s.store ∧
    (badAccess src a wr cause s).ring = s.ring ∧ (badAccess src a wr cause s).eths = s.eths ∧
    (badAccess src a wr cause s).ulks = s.ulks ∧ (badAccess src a wr cause s).dram = s.dram ∧
    (badAccess src a wr cause s).dma = s.dma ∧ (badAccess src a wr cause s).lanes = s.lanes ∧
    (badAccess src a wr cause s).tmr = s.tmr ∧ (badAccess src a wr cause s).pcie = s.pcie ∧
    (badAccess src a wr cause s).boot = s.boot ∧ (badAccess src a wr cause s).mgmt = s.mgmt ∧
    (badAccess src a wr cause s).att = s.att ∧ (badAccess src a wr cause s).smp = s.smp ∧
    (badAccess src a wr cause s).supply = s.supply ∧ (badAccess src a wr cause s).otp = s.otp ∧
    (badAccess src a wr cause s).cals = s.cals ∧ (badAccess src a wr cause s).calctl = s.calctl ∧
    (badAccess src a wr cause s).loops = s.loops ∧ (badAccess src a wr cause s).loopOld = s.loopOld ∧
    (badAccess src a wr cause s).tiu = s.tiu ∧ (badAccess src a wr cause s).sats = s.sats := by
  unfold badAccess; dsimp only; split <;> simp

/-- A locked write changes no more than a faulty access. -/
@[simp] theorem lockedWrite_fields (src a : Nat) (s : State) :
    (lockedWrite src a s).pending = s.pending ∧ (lockedWrite src a s).st = s.st ∧ (lockedWrite src a s).clk = s.clk ∧
    (lockedWrite src a s).freeCtr = s.freeCtr ∧ (lockedWrite src a s).regs = s.regs ∧ (lockedWrite src a s).locks = s.locks ∧
    (lockedWrite src a s).lastRead = s.lastRead ∧ (lockedWrite src a s).sram = s.sram ∧ (lockedWrite src a s).dramMem = s.dramMem ∧
    (lockedWrite src a s).tb = s.tb ∧ (lockedWrite src a s).ax = s.ax ∧ (lockedWrite src a s).grids = s.grids ∧
    (lockedWrite src a s).gctl = s.gctl ∧ (lockedWrite src a s).sched = s.sched ∧ (lockedWrite src a s).bgt = s.bgt ∧
    (lockedWrite src a s).slices = s.slices ∧ (lockedWrite src a s).mitts = s.mitts ∧ (lockedWrite src a s).ctxs = s.ctxs ∧
    (lockedWrite src a s).tails = s.tails ∧ (lockedWrite src a s).feng = s.feng ∧ (lockedWrite src a s).align = s.align ∧
    (lockedWrite src a s).units = s.units ∧ (lockedWrite src a s).trig = s.trig ∧ (lockedWrite src a s).recs = s.recs ∧
    (lockedWrite src a s).cmps = s.cmps ∧ (lockedWrite src a s).cmpc = s.cmpc ∧ (lockedWrite src a s).strs = s.strs ∧
    (lockedWrite src a s).store = s.store ∧ (lockedWrite src a s).ring = s.ring ∧ (lockedWrite src a s).eths = s.eths ∧
    (lockedWrite src a s).ulks = s.ulks ∧ (lockedWrite src a s).dram = s.dram ∧ (lockedWrite src a s).dma = s.dma ∧
    (lockedWrite src a s).lanes = s.lanes ∧ (lockedWrite src a s).tmr = s.tmr ∧ (lockedWrite src a s).pcie = s.pcie ∧
    (lockedWrite src a s).boot = s.boot ∧ (lockedWrite src a s).mgmt = s.mgmt ∧ (lockedWrite src a s).att = s.att ∧
    (lockedWrite src a s).smp = s.smp ∧ (lockedWrite src a s).supply = s.supply ∧ (lockedWrite src a s).otp = s.otp ∧
    (lockedWrite src a s).cals = s.cals ∧ (lockedWrite src a s).calctl = s.calctl ∧ (lockedWrite src a s).loops = s.loops ∧
    (lockedWrite src a s).loopOld = s.loopOld ∧ (lockedWrite src a s).tiu = s.tiu ∧ (lockedWrite src a s).sats = s.sats := by
  simp [lockedWrite]

/-- A plain register write changes the stored registers and, where it is locked, what reporting it changes. -/
@[simp] theorem storeReg_fields (src a : Nat) (v : Word) (s : State) :
    (storeReg src a v s).pending = s.pending ∧ (storeReg src a v s).st = s.st ∧ (storeReg src a v s).clk = s.clk ∧
    (storeReg src a v s).freeCtr = s.freeCtr ∧ (storeReg src a v s).locks = s.locks ∧ (storeReg src a v s).lastRead = s.lastRead ∧
    (storeReg src a v s).sram = s.sram ∧ (storeReg src a v s).dramMem = s.dramMem ∧ (storeReg src a v s).tb = s.tb ∧
    (storeReg src a v s).ax = s.ax ∧ (storeReg src a v s).grids = s.grids ∧ (storeReg src a v s).gctl = s.gctl ∧
    (storeReg src a v s).sched = s.sched ∧ (storeReg src a v s).bgt = s.bgt ∧ (storeReg src a v s).slices = s.slices ∧
    (storeReg src a v s).mitts = s.mitts ∧ (storeReg src a v s).ctxs = s.ctxs ∧ (storeReg src a v s).tails = s.tails ∧
    (storeReg src a v s).feng = s.feng ∧ (storeReg src a v s).align = s.align ∧ (storeReg src a v s).units = s.units ∧
    (storeReg src a v s).trig = s.trig ∧ (storeReg src a v s).recs = s.recs ∧ (storeReg src a v s).cmps = s.cmps ∧
    (storeReg src a v s).cmpc = s.cmpc ∧ (storeReg src a v s).strs = s.strs ∧ (storeReg src a v s).store = s.store ∧
    (storeReg src a v s).ring = s.ring ∧ (storeReg src a v s).eths = s.eths ∧ (storeReg src a v s).ulks = s.ulks ∧
    (storeReg src a v s).dram = s.dram ∧ (storeReg src a v s).dma = s.dma ∧ (storeReg src a v s).lanes = s.lanes ∧
    (storeReg src a v s).tmr = s.tmr ∧ (storeReg src a v s).pcie = s.pcie ∧ (storeReg src a v s).boot = s.boot ∧
    (storeReg src a v s).mgmt = s.mgmt ∧ (storeReg src a v s).att = s.att ∧ (storeReg src a v s).smp = s.smp ∧
    (storeReg src a v s).supply = s.supply ∧ (storeReg src a v s).otp = s.otp ∧ (storeReg src a v s).cals = s.cals ∧
    (storeReg src a v s).calctl = s.calctl ∧ (storeReg src a v s).loops = s.loops ∧ (storeReg src a v s).loopOld = s.loopOld ∧
    (storeReg src a v s).tiu = s.tiu ∧ (storeReg src a v s).sats = s.sats := by
  unfold storeReg; cases findReg (a / 0x1000) (a % 0x1000) <;> dsimp only <;> (try split) <;> simp

/-- An unlocked write leaves the register's stored bits as written, the bits it has not stored as they were. -/
theorem storeReg_unlocked (src a : Nat) (v : Word) (s : State) (r : RegDef) (h : findReg (a / 0x1000) (a % 0x1000) = some r)
    (hl : (s.lock (a / 0x1000)).locked = false) : storeReg src a v s = s.setRw a (mergeWord r false (s.rw a) v) := by
  simp [storeReg, h, hl]

/-- A write to a sound address runs its effect. -/
theorem onWrite_sound (src a : Nat) (f : State → State) (s : State) (h : s.accessFault a = none) : onWrite src a f s = f s := by
  simp [onWrite, h]

/-- A write to a faulty address is ignored and reported. -/
theorem onWrite_faulty (src a c : Nat) (f : State → State) (s : State) (h : s.accessFault a = some c) :
    onWrite src a f s = badAccess src a true c s := by simp [onWrite, h]

/-- A read of a sound address runs. -/
theorem onRead_sound (src a : Nat) (f : State → State) (s : State) (h : s.accessFault a = none) : onRead src a f s = f s := by
  simp [onRead, h]

/-- A read of a faulty address gives 0 and is reported. -/
theorem onRead_faulty (src a c : Nat) (f : State → State) (s : State) (h : s.accessFault a = some c) :
    onRead src a f s = (badAccess src a false c s).answer 0 := by simp [onRead, h]

end Sys2Proof.Machine
end

