-- ==== Sys2Proof/Laws/Raise.lean ====
section
/-! SUPPORT. Laws of the event fabric seen through the reads of one unit: raising an event changes no unit, and of a page only latched
event bits, which it adds. -/

namespace Sys2Proof.Machine

/-- No unit changes. -/
@[simp] theorem raise_reads (p b : Nat) (s : State) (m : Nat) :
    (raise p b s).rw m = s.rw m ∧ (raise p b s).lock m = s.lock m ∧ (raise p b s).axis m = s.axis m ∧
    (raise p b s).grid m = s.grid m ∧ (raise p b s).slice m = s.slice m ∧ (raise p b s).mitt m = s.mitt m ∧
    (raise p b s).ctx m = s.ctx m ∧ (raise p b s).trigUnit m = s.trigUnit m ∧ (raise p b s).cmp m = s.cmp m ∧
    (raise p b s).str m = s.str m ∧ (raise p b s).lane m = s.lane m ∧ (raise p b s).ulk m = s.ulk m ∧
    (raise p b s).eth m = s.eth m ∧ (raise p b s).dmaCh m = s.dmaCh m ∧ (raise p b s).recSlot m = s.recSlot m ∧
    (raise p b s).cal m = s.cal m ∧ (raise p b s).tch m = s.tch m ∧ (raise p b s).loop m = s.loop m ∧
    (raise p b s).sramB m = s.sramB m ∧ (raise p b s).dramB m = s.dramB m := by
  simp only [State.rw, State.lock, State.axis, State.grid, State.slice, State.mitt, State.ctx, State.trigUnit, State.cmp, State.str, State.lane, State.ulk, State.eth,
    State.dmaCh, State.recSlot, State.cal, State.tch, State.loop, State.sramB, State.dramB, raise_fields]; simp

/-- No unit changes. -/
@[simp] theorem raiseIf_reads (c : Bool) (p b : Nat) (s : State) (m : Nat) :
    (raiseIf c p b s).rw m = s.rw m ∧ (raiseIf c p b s).lock m = s.lock m ∧ (raiseIf c p b s).axis m = s.axis m ∧
    (raiseIf c p b s).grid m = s.grid m ∧ (raiseIf c p b s).slice m = s.slice m ∧ (raiseIf c p b s).mitt m = s.mitt m ∧
    (raiseIf c p b s).ctx m = s.ctx m ∧ (raiseIf c p b s).trigUnit m = s.trigUnit m ∧ (raiseIf c p b s).cmp m = s.cmp m ∧
    (raiseIf c p b s).str m = s.str m ∧ (raiseIf c p b s).lane m = s.lane m ∧ (raiseIf c p b s).ulk m = s.ulk m ∧
    (raiseIf c p b s).eth m = s.eth m ∧ (raiseIf c p b s).dmaCh m = s.dmaCh m ∧ (raiseIf c p b s).recSlot m = s.recSlot m ∧
    (raiseIf c p b s).cal m = s.cal m ∧ (raiseIf c p b s).tch m = s.tch m ∧ (raiseIf c p b s).loop m = s.loop m ∧
    (raiseIf c p b s).sramB m = s.sramB m ∧ (raiseIf c p b s).dramB m = s.dramB m := by
  simp only [State.rw, State.lock, State.axis, State.grid, State.slice, State.mitt, State.ctx, State.trigUnit, State.cmp, State.str, State.lane, State.ulk, State.eth,
    State.dmaCh, State.recSlot, State.cal, State.tch, State.loop, State.sramB, State.dramB, raiseIf_fields]; simp

/-- No unit changes. -/
@[simp] theorem setRaw_reads (p b : Nat) (on : Bool) (s : State) (m : Nat) :
    (setRaw p b on s).rw m = s.rw m ∧ (setRaw p b on s).lock m = s.lock m ∧ (setRaw p b on s).axis m = s.axis m ∧
    (setRaw p b on s).grid m = s.grid m ∧ (setRaw p b on s).slice m = s.slice m ∧ (setRaw p b on s).mitt m = s.mitt m ∧
    (setRaw p b on s).ctx m = s.ctx m ∧ (setRaw p b on s).trigUnit m = s.trigUnit m ∧ (setRaw p b on s).cmp m = s.cmp m ∧
    (setRaw p b on s).str m = s.str m ∧ (setRaw p b on s).lane m = s.lane m ∧ (setRaw p b on s).ulk m = s.ulk m ∧
    (setRaw p b on s).eth m = s.eth m ∧ (setRaw p b on s).dmaCh m = s.dmaCh m ∧ (setRaw p b on s).recSlot m = s.recSlot m ∧
    (setRaw p b on s).cal m = s.cal m ∧ (setRaw p b on s).tch m = s.tch m ∧ (setRaw p b on s).loop m = s.loop m ∧
    (setRaw p b on s).sramB m = s.sramB m ∧ (setRaw p b on s).dramB m = s.dramB m := by
  simp only [State.rw, State.lock, State.axis, State.grid, State.slice, State.mitt, State.ctx, State.trigUnit, State.cmp, State.str, State.lane, State.ulk, State.eth,
    State.dmaCh, State.recSlot, State.cal, State.tch, State.loop, State.sramB, State.dramB, setRaw_fields]; simp

/-- No unit changes. -/
@[simp] theorem badAccess_reads (src a : Nat) (wr : Bool) (cause : Nat) (s : State) (m : Nat) :
    (badAccess src a wr cause s).rw m = s.rw m ∧ (badAccess src a wr cause s).lock m = s.lock m ∧
    (badAccess src a wr cause s).axis m = s.axis m ∧ (badAccess src a wr cause s).grid m = s.grid m ∧
    (badAccess src a wr cause s).slice m = s.slice m ∧ (badAccess src a wr cause s).mitt m = s.mitt m ∧
    (badAccess src a wr cause s).ctx m = s.ctx m ∧ (badAccess src a wr cause s).trigUnit m = s.trigUnit m ∧
    (badAccess src a wr cause s).cmp m = s.cmp m ∧ (badAccess src a wr cause s).str m = s.str m ∧
    (badAccess src a wr cause s).lane m = s.lane m ∧ (badAccess src a wr cause s).ulk m = s.ulk m ∧
    (badAccess src a wr cause s).eth m = s.eth m ∧ (badAccess src a wr cause s).dmaCh m = s.dmaCh m ∧
    (badAccess src a wr cause s).recSlot m = s.recSlot m ∧ (badAccess src a wr cause s).cal m = s.cal m ∧
    (badAccess src a wr cause s).tch m = s.tch m ∧ (badAccess src a wr cause s).loop m = s.loop m ∧
    (badAccess src a wr cause s).sramB m = s.sramB m ∧ (badAccess src a wr cause s).dramB m = s.dramB m := by
  simp only [State.rw, State.lock, State.axis, State.grid, State.slice, State.mitt, State.ctx, State.trigUnit, State.cmp, State.str, State.lane, State.ulk, State.eth,
    State.dmaCh, State.recSlot, State.cal, State.tch, State.loop, State.sramB, State.dramB, badAccess_fields]; simp

/-- No unit changes. -/
@[simp] theorem lockedWrite_reads (src a : Nat) (s : State) (m : Nat) :
    (lockedWrite src a s).rw m = s.rw m ∧ (lockedWrite src a s).lock m = s.lock m ∧ (lockedWrite src a s).axis m = s.axis m ∧
    (lockedWrite src a s).grid m = s.grid m ∧ (lockedWrite src a s).slice m = s.slice m ∧ (lockedWrite src a s).mitt m = s.mitt m ∧
    (lockedWrite src a s).ctx m = s.ctx m ∧ (lockedWrite src a s).trigUnit m = s.trigUnit m ∧
    (lockedWrite src a s).cmp m = s.cmp m ∧ (lockedWrite src a s).str m = s.str m ∧ (lockedWrite src a s).lane m = s.lane m ∧
    (lockedWrite src a s).ulk m = s.ulk m ∧ (lockedWrite src a s).eth m = s.eth m ∧ (lockedWrite src a s).dmaCh m = s.dmaCh m ∧
    (lockedWrite src a s).recSlot m = s.recSlot m ∧ (lockedWrite src a s).cal m = s.cal m ∧ (lockedWrite src a s).tch m = s.tch m ∧
    (lockedWrite src a s).loop m = s.loop m ∧ (lockedWrite src a s).sramB m = s.sramB m ∧
    (lockedWrite src a s).dramB m = s.dramB m := by
  simp only [State.rw, State.lock, State.axis, State.grid, State.slice, State.mitt, State.ctx, State.trigUnit, State.cmp, State.str, State.lane, State.ulk, State.eth,
    State.dmaCh, State.recSlot, State.cal, State.tch, State.loop, State.sramB, State.dramB, lockedWrite_fields]; simp

/-- No unit changes. -/
@[simp] theorem storeReg_reads (src a : Nat) (v : Word) (s : State) (m : Nat) :
    (storeReg src a v s).lock m = s.lock m ∧ (storeReg src a v s).axis m = s.axis m ∧ (storeReg src a v s).grid m = s.grid m ∧
    (storeReg src a v s).slice m = s.slice m ∧ (storeReg src a v s).mitt m = s.mitt m ∧ (storeReg src a v s).ctx m = s.ctx m ∧
    (storeReg src a v s).trigUnit m = s.trigUnit m ∧ (storeReg src a v s).cmp m = s.cmp m ∧ (storeReg src a v s).str m = s.str m ∧
    (storeReg src a v s).lane m = s.lane m ∧ (storeReg src a v s).ulk m = s.ulk m ∧ (storeReg src a v s).eth m = s.eth m ∧
    (storeReg src a v s).dmaCh m = s.dmaCh m ∧ (storeReg src a v s).recSlot m = s.recSlot m ∧
    (storeReg src a v s).cal m = s.cal m ∧ (storeReg src a v s).tch m = s.tch m ∧ (storeReg src a v s).loop m = s.loop m ∧
    (storeReg src a v s).sramB m = s.sramB m ∧ (storeReg src a v s).dramB m = s.dramB m := by
  simp only [State.lock, State.axis, State.grid, State.slice, State.mitt, State.ctx, State.trigUnit, State.cmp, State.str, State.lane, State.ulk, State.eth,
    State.dmaCh, State.recSlot, State.cal, State.tch, State.loop, State.sramB, State.dramB, storeReg_fields]; simp

/-- Posting a message, delivering a rise: no page changes. -/
@[simp] theorem postVec_page (v : Nat) (s : State) (q : Nat) : (postVec v s).page q = s.page q := by simp [State.page]
@[simp] theorem msiRise_page (n : Nat) (s0 s : State) (q : Nat) : (msiRise n s0 s).page q = s.page q := by simp [State.page]

/-- Latching an event sets its bit in its page's EVT_STAT and changes no other page. -/
theorem latch_page (p b : Nat) (s : State) (q : Nat) :
    (latch p b s).page q = if q = p then { s.page p with stat := (s.page p).stat ||| word (2 ^ b) } else s.page q := by
  unfold latch; cases evOf p b <;> simp


/-- Latching an event leaves all of a page but EVT_STAT. -/
@[simp] theorem latch_page_keep (p b : Nat) (s : State) (q : Nat) :
    ((latch p b s).page q).en = (s.page q).en ∧ ((latch p b s).page q).raw = (s.page q).raw ∧ ((latch p b s).page q).pageEn = (s.page q).pageEn ∧
    ((latch p b s).page q).blkCtl = (s.page q).blkCtl ∧ ((latch p b s).page q).rstEnd = (s.page q).rstEnd := by
  rw [latch_page]; split <;> simp_all

/-- A power state stored leaves every page. -/
@[simp] theorem page_setPwr (s : State) (x : PwrSt) (q : Nat) : State.page { s with pwr := x } q = s.page q := rfl

/-- A wake leaves all of a page but EVT_STAT. -/
@[simp] theorem wakeHub_page_keep (s : State) (q : Nat) :
    ((wakeHub s).page q).en = (s.page q).en ∧ ((wakeHub s).page q).raw = (s.page q).raw ∧ ((wakeHub s).page q).pageEn = (s.page q).pageEn ∧
    ((wakeHub s).page q).blkCtl = (s.page q).blkCtl ∧ ((wakeHub s).page q).rstEnd = (s.page q).rstEnd := by
  unfold wakeHub; cases s.pwr.move <;> dsimp only <;> split <;> simp

/-- Raising an event leaves all of a page but EVT_STAT. -/
@[simp] theorem raise_page_keep (p b : Nat) (s : State) (q : Nat) :
    ((raise p b s).page q).en = (s.page q).en ∧ ((raise p b s).page q).raw = (s.page q).raw ∧ ((raise p b s).page q).pageEn = (s.page q).pageEn ∧
    ((raise p b s).page q).blkCtl = (s.page q).blkCtl ∧ ((raise p b s).page q).rstEnd = (s.page q).rstEnd := by
  unfold raise; cases evOf p b <;> dsimp only <;> (try split) <;> simp

/-- Raising an event on a condition leaves all of a page but EVT_STAT. -/
@[simp] theorem raiseIf_page_keep (c : Bool) (p b : Nat) (s : State) (q : Nat) :
    ((raiseIf c p b s).page q).en = (s.page q).en ∧ ((raiseIf c p b s).page q).raw = (s.page q).raw ∧ ((raiseIf c p b s).page q).pageEn = (s.page q).pageEn ∧
    ((raiseIf c p b s).page q).blkCtl = (s.page q).blkCtl ∧ ((raiseIf c p b s).page q).rstEnd = (s.page q).rstEnd := by
  unfold raiseIf; split <;> simp

/-- Words as bits: a bit stays under an or, and an or sets its bit. -/
theorem bit_or_left (w v : Word) (i : Nat) (h : bit w i = true) : bit (w ||| v) i = true := by
  simp only [bit] at *; simp_all
theorem bit_or_pow (w : Word) (i : Nat) (h : i < 32) : bit (w ||| word (2 ^ i)) i = true := by
  have hb : (2 ^ i) % 2 ^ 32 = 2 ^ i := Nat.mod_eq_of_lt (Nat.pow_lt_pow_right (by omega) h)
  have hw : (word (2 ^ i)).toNat = 2 ^ i := by simp only [word, BitVec.toNat_ofNat]; exact hb
  have ht : (2 ^ i).testBit i = true := Nat.testBit_two_pow_self
  simp only [bit, BitVec.toNat_or, Nat.testBit_or, hw, ht, Bool.or_true]

/-- Latched bits stay latched when another event is latched. -/
theorem latch_stat_mono (p b : Nat) (s : State) (q i : Nat) (h : bit (s.page q).stat i = true) : bit ((latch p b s).page q).stat i = true := by
  rw [latch_page]; split
  · subst q; exact bit_or_left _ _ _ h
  · exact h
/-- What a wake can be: nothing, or a power move and the events it raises. -/
theorem wakeHub_cases (s : State) :
    wakeHub s = s ∨ (∃ x, wakeHub s = latch pPWR 3 (latch pPWR 4 { s with pwr := x })) ∨ ∃ x, wakeHub s = latch pPWR 4 { s with pwr := x } := by
  unfold wakeHub
  cases s.pwr.move with
  | some m => dsimp only; split; exact .inr (.inl ⟨_, rfl⟩); exact .inl rfl
  | none => dsimp only; split; exact .inr (.inr ⟨_, rfl⟩); exact .inl rfl
/-- What raising an event is: latching it, and where it wakes the hub, that. -/
theorem raise_cases (p b : Nat) (s : State) : raise p b s = latch p b s ∨ raise p b s = wakeHub (latch p b s) := by
  unfold raise
  cases evOf p b with
  | some n => dsimp only; split; exact .inr rfl; exact .inl rfl
  | none => exact .inl rfl
/-- Latched bits stay latched in a wake. -/
theorem wakeHub_stat_mono (s : State) (q i : Nat) (h : bit (s.page q).stat i = true) : bit ((wakeHub s).page q).stat i = true := by
  obtain e | ⟨x, e⟩ | ⟨x, e⟩ := wakeHub_cases s <;> rw [e]
  · exact h
  · exact latch_stat_mono pPWR 3 _ q i (latch_stat_mono pPWR 4 _ q i h)
  · exact latch_stat_mono pPWR 4 _ q i h
/-- Latched bits stay latched when another event is raised. -/
theorem raise_stat_mono (p b : Nat) (s : State) (q i : Nat) (h : bit (s.page q).stat i = true) : bit ((raise p b s).page q).stat i = true := by
  obtain e | e := raise_cases p b s <;> rw [e]
  · exact latch_stat_mono p b s q i h
  · exact wakeHub_stat_mono _ q i (latch_stat_mono p b s q i h)
/-- Latching an event latches its bit. -/
theorem latch_latched (p b : Nat) (s : State) (h : b < 32) : bit ((latch p b s).page p).stat b = true := by
  rw [latch_page, if_pos rfl]; exact bit_or_pow _ _ h
/-- Raising an event latches its bit. -/
theorem raise_latched (p b : Nat) (s : State) (h : b < 32) : bit ((raise p b s).page p).stat b = true := by
  obtain e | e := raise_cases p b s <;> rw [e]
  · exact latch_latched p b s h
  · exact wakeHub_stat_mono _ p b (latch_latched p b s h)

end Sys2Proof.Machine
end

