-- ==== Sys2Proof/Laws/Bus.lean ====
section
/-! SUPPORT. Laws of a command's run: what `act` answers, what a step does with the queue, and where a register write or read goes. -/

namespace Sys2Proof.Machine

/-- A command acts while no reset is held. -/
theorem act_live {f : State → State} {s : State} (h : s.supply.held = false) : act f s = .next (f s) := by simp [act, h]
/-- A held hub takes no command's effect. -/
theorem act_held {f : State → State} {s : State} (h : s.supply.held = true) : act f s = .next s := by simp [act, h]

/-- With no command waiting a timebase clock edge passes. -/
theorem step_empty {s : State} (h : s.pending = []) : step s = .next (idleTick s) := by simp [step, h]
/-- The command at the front runs on the queue's rest. -/
theorem step_front {s : State} {c : Instr} {rest : List Instr} (h : s.pending = c :: rest) : step s = exec c { s with pending := rest } := by
  simp [step, h]

/-- A sound write to a block register has the register's effect. -/
theorem busWrite_reg (src a : Nat) (v : Word) (s : State) (h : s.accessFault a = none) (ho : 0x100 ≤ a % 0x1000) :
    busWrite src a v s = regEffect src a v s := by
  simp [busWrite, onWrite_sound _ _ _ _ h, show ¬ a % 0x1000 < 0x100 by omega]

/-- A write to a header register of a used page has the header register's effect. -/
theorem busWrite_hdr (src a : Nat) (v : Word) (s : State) (h : s.accessFault a = none) (ho : a % 0x1000 < 0x100) :
    busWrite src a v s = hdrWrite src (a / 0x1000) (a % 0x1000) v s := by
  simp [busWrite, onWrite_sound _ _ _ _ h, ho]

/-- A sound read has the register's read effect. -/
theorem busRead_reg (src a : Nat) (s : State) (h : s.accessFault a = none) : busRead src a s = readEffect src a s := by
  simp [busRead, onRead_sound _ _ _ _ h]

/-- Headers of used pages always answer (R26). -/
theorem accessFault_hdr (s : State) (p o : Nat) (hp : (blockOf p).isSome) (hp2 : p < 0x100) (ho : headerOff o = true) (hlt : o < 0x100) :
    s.accessFault (p * 0x1000 + o) = none := by
  have e1 : (p * 0x1000 + o) / 0x1000 = p := by omega
  have e2 : (p * 0x1000 + o) % 0x1000 = o := by omega
  have hn : ¬ (0x100 ≤ p ∨ blockOf p = none) := by
    intro hc; rcases hc with hc | hc
    · omega
    · simp [hc] at hp
  simp only [State.accessFault, e1, e2, ho, if_neg hn, if_true]

end Sys2Proof.Machine
end

