-- ==== Sys2Proof/Laws/Fields.lean ====
section
/-! SUPPORT. Laws of register fields: a field reads back as stored, and storing one leaves the fields above and below it. -/

namespace Sys2Proof.Machine

/-- The number a word holds when one field of it is replaced. -/
theorem setFld_bound (n lo w v : Nat) (hn : n < 2 ^ 32) (hw : lo + w ≤ 32) :
    n - (n >>> lo % 2 ^ w) <<< lo + (v % 2 ^ w) <<< lo = (2 ^ w * (n / 2 ^ lo / 2 ^ w) + v % 2 ^ w) * 2 ^ lo + n % 2 ^ lo ∧
    (2 ^ w * (n / 2 ^ lo / 2 ^ w) + v % 2 ^ w) * 2 ^ lo + n % 2 ^ lo < 2 ^ 32 := by
  have hL : 0 < 2 ^ lo := Nat.pow_pos (by omega)
  have hW : 0 < 2 ^ w := Nat.pow_pos (by omega)
  obtain ⟨k, hk⟩ : ∃ k, 32 = lo + w + k := ⟨32 - lo - w, by omega⟩
  have hK : 2 ^ 32 = 2 ^ w * 2 ^ lo * 2 ^ k := by rw [← Nat.pow_add, ← Nat.pow_add]; congr 1; omega
  rw [Nat.shiftRight_eq_div_pow, Nat.shiftLeft_eq, Nat.shiftLeft_eq]
  have h1 := Nat.div_add_mod n (2 ^ lo)
  have h2 := Nat.div_add_mod (n / 2 ^ lo) (2 ^ w)
  have hv := Nat.mod_lt v hW
  have hl := Nat.mod_lt n hL
  generalize n / 2 ^ lo / 2 ^ w = Q at *
  generalize (n / 2 ^ lo) % 2 ^ w = f at *
  generalize n % 2 ^ lo = l at *
  generalize v % 2 ^ w = v' at *
  rw [← h2] at h1
  rw [hK] at hn ⊢
  generalize 2 ^ w = W at *
  generalize 2 ^ lo = L at *
  generalize 2 ^ k = K at *
  have e : n = (W * Q + f) * L + l := by rw [← h1, Nat.mul_comm L]
  have hQ : Q < K := by
    apply Nat.lt_of_not_le; intro hc
    have : W * L * K ≤ W * L * Q := Nat.mul_le_mul_left _ hc
    have e2 : (W * Q + f) * L = W * L * Q + f * L := by rw [Nat.add_mul, Nat.mul_right_comm]
    omega
  constructor
  · rw [e, Nat.add_mul, Nat.add_mul]; omega
  · have : W * L * (Q + 1) ≤ W * L * K := Nat.mul_le_mul_left _ hQ
    have e3 : W * L * (Q + 1) = W * Q * L + W * L := by rw [Nat.mul_add, Nat.mul_one, Nat.mul_right_comm]
    have e4 : (v' + 1) * L ≤ W * L := Nat.mul_le_mul_right _ hv
    rw [Nat.add_mul] at e4 ⊢
    omega

/-- A field reads back as stored, cut to its width. -/
theorem fld_setFld (s : State) (a hi lo v : Nat) (h1 : lo ≤ hi) (h2 : hi < 32) : fld ((s.setFld a hi lo v).rw a) hi lo = v % 2 ^ (hi + 1 - lo) := by
  have hL : 0 < 2 ^ lo := Nat.pow_pos (by omega)
  obtain ⟨e, b⟩ := setFld_bound (s.rw a).toNat lo (hi + 1 - lo) v (s.rw a).isLt (by omega)
  simp only [State.setFld, State.rw_setRw, if_true, fld, nfld, word, BitVec.toNat_ofNat]
  rw [e, Nat.mod_eq_of_lt b, Nat.shiftRight_eq_div_pow, Nat.add_comm, Nat.add_mul_div_right _ _ hL, Nat.div_eq_of_lt (Nat.mod_lt _ hL), Nat.zero_add,
    Nat.mul_add_mod, Nat.mod_mod]

/-- Storing a field of one register leaves every other register. -/
theorem rw_setFld_ne (s : State) (a b hi lo v : Nat) (h : b ≠ a) : (s.setFld a hi lo v).rw b = s.rw b := by simp [State.setFld, h]

/-- A bit of a field. -/
theorem testBit_nfld (n hi lo i : Nat) : (nfld n hi lo).testBit i = (decide (i < hi + 1 - lo) && n.testBit (lo + i)) := by
  simp [nfld, Nat.testBit_mod_two_pow, Nat.testBit_shiftRight]

/-- A field a merge's mask covers reads as written. -/
theorem fld_merge_in (m old v : Word) (hi lo : Nat) (h : ∀ i, i < hi + 1 - lo → m.getLsbD (lo + i) = true) :
    fld ((old &&& ~~~m) ||| (v &&& m)) hi lo = fld v hi lo := by
  apply Nat.eq_of_testBit_eq
  intro i
  simp only [fld, testBit_nfld]
  by_cases hi' : i < hi + 1 - lo
  · have hm := h i hi'
    have h32 : lo + i < 32 := BitVec.lt_of_getLsbD hm
    simp only [← BitVec.getLsbD.eq_1, BitVec.getLsbD_or, BitVec.getLsbD_and, BitVec.getLsbD_not, hm]
    simp
  · simp [hi']

/-- A field a merge's mask leaves out stays. -/
theorem fld_merge_out (m old v : Word) (hi lo : Nat) (h : ∀ i, i < hi + 1 - lo → m.getLsbD (lo + i) = false) :
    fld ((old &&& ~~~m) ||| (v &&& m)) hi lo = fld old hi lo := by
  apply Nat.eq_of_testBit_eq
  intro i
  simp only [fld, testBit_nfld]
  by_cases hi' : i < hi + 1 - lo
  · have hm := h i hi'
    simp only [← BitVec.getLsbD.eq_1, BitVec.getLsbD_or, BitVec.getLsbD_and, BitVec.getLsbD_not, hm]
    by_cases hx : lo + i < 32
    · simp [hx]
    · simp [BitVec.getLsbD_of_ge old (lo + i) (by omega)]
  · simp [hi']

end Sys2Proof.Machine
end

