-- ==== Sys2Proof/Laws/Memory.lean ====
section
/-! SUPPORT. Laws of the memories: every byte and word write keeps the canonical form, and changes no byte but its own. -/

namespace Sys2Proof.Machine

/-- The memories after reset are in canonical form. -/
theorem reset_memOk : State.reset.memOk := ⟨rfl, rfl⟩

/-- Equal memories are equally canonical. -/
theorem memOk_of_eq {s t : State} (h1 : t.sram = s.sram) (h2 : t.dramMem = s.dramMem) (h : s.memOk) : t.memOk := by
  unfold State.memOk at *; rw [h1, h2]; exact h

theorem setSramB_memOk (s : State) (a : Nat) (b : Byte) (h : s.memOk) : (s.setSramB a b).memOk :=
  ⟨tcanon_tset sram0 s.sram a b h.1, h.2⟩

theorem setDramB_memOk (s : State) (a : Nat) (b : Byte) (h : s.memOk) : (s.setDramB a b).memOk :=
  ⟨h.1, tcanon_tset dram0 s.dramMem a b h.2⟩

theorem healSram_memOk (s : State) (a : Nat) (h : s.memOk) : (s.healSram a).memOk := h
theorem healBeat_memOk (s : State) (a : Nat) (h : s.memOk) : (s.healBeat a).memOk := h

theorem setSramW_memOk (s : State) (a : Nat) (w : Word) (h : s.memOk) : (s.setSramW a w).memOk := by
  unfold State.setSramW
  apply healSram_memOk; apply setSramB_memOk; apply setSramB_memOk; apply setSramB_memOk; apply setSramB_memOk; exact h

theorem setDramW_memOk (s : State) (a : Nat) (w : Word) (h : s.memOk) : (s.setDramW a w).memOk := by
  unfold State.setDramW
  apply healBeat_memOk; apply setDramB_memOk; apply setDramB_memOk; apply setDramB_memOk; apply setDramB_memOk; exact h

/-- What each step of a fold keeps, the fold keeps. -/
theorem foldl_keeps {α β : Type} (P : β → Prop) (f : β → α → β) (hf : ∀ b x, P b → P (f b x)) : ∀ (l : List α) (b : β), P b → P (l.foldl f b)
  | [], _, h => h
  | x :: l, b, h => foldl_keeps P f hf l (f b x) (hf b x h)

/-- Words written to external memory keep the canonical form. -/
theorem setDramWs_memOk (s : State) (a : Nat) (ws : List Word) (h : s.memOk) : (s.setDramWs a ws).memOk :=
  foldl_keeps State.memOk _ (fun t _ ht => setDramW_memOk t _ _ ht) _ s h

theorem touch_memOk (s : State) (h : s.memOk) : s.touch.memOk := by
  unfold State.touch; split
  · exact h
  · exact h

theorem setTblW_memOk (s : State) (o : Nat) (w : Word) (h : s.memOk) : (s.setTblW o w).memOk := by
  unfold State.setTblW; split
  · exact touch_memOk _ (setSramW_memOk _ _ _ h)
  · exact setSramW_memOk _ _ _ h

/-- A word write to on-chip memory changes its four bytes alone. -/
theorem setSramW_other (s : State) (a m : Nat) (w : Word) (h : m < a ∨ a + 4 ≤ m) : (s.setSramW a w).sramB m = s.sramB m := by
  have e : ∀ x : State, (x.healSram a).sramB m = x.sramB m := fun _ => rfl
  simp only [State.setSramW, e, State.sramB_setSramB]
  simp only [show m ≠ a + 3 by omega, show m ≠ a + 2 by omega, show m ≠ a + 1 by omega, show m ≠ a by omega, if_false]

/-- A word write to external memory changes its four bytes alone. -/
theorem setDramW_other (s : State) (a m : Nat) (w : Word) (h : m < a ∨ a + 4 ≤ m) : (s.setDramW a w).dramB m = s.dramB m := by
  have e : ∀ x : State, (x.healBeat a).dramB m = x.dramB m := fun _ => rfl
  simp only [State.setDramW, e, State.dramB_setDramB]
  simp only [show m ≠ a + 3 by omega, show m ≠ a + 2 by omega, show m ≠ a + 1 by omega, show m ≠ a by omega, if_false]

/-- A word is its four bytes. -/
theorem leWord_bytes (w : Word) : leWord (byteOf w 0) (byteOf w 1) (byteOf w 2) (byteOf w 3) = w := by
  apply BitVec.eq_of_toNat_eq
  have hw := w.isLt
  simp [leWord, byteOf, word, BitVec.toNat_ofNat, Nat.shiftRight_eq_div_pow]
  omega

/-- A read after a write of the same word of on-chip memory gives the word written. -/
@[simp] theorem sramW_setSramW (s : State) (a : Nat) (w : Word) : (s.setSramW a w).sramW a = w := by
  have e : ∀ (x : State) (m : Nat), (x.healSram a).sramB m = x.sramB m := fun _ _ => rfl
  simp [State.sramW, State.setSramW, e, leWord_bytes]

/-- A read after a write of the same word of external memory gives the word written. -/
@[simp] theorem dramW_setDramW (s : State) (a : Nat) (w : Word) : (s.setDramW a w).dramW a = w := by
  have e : ∀ (x : State) (m : Nat), (x.healBeat a).dramB m = x.dramB m := fun _ _ => rfl
  simp [State.dramW, State.setDramW, e, leWord_bytes]

end Sys2Proof.Machine
end

