-- ==== Sys2Proof/WellFormed.lean ====
section
/-! DEFINITION. Which commands the outside world can send: bounds the spec gives that the operands' types do not carry. -/

namespace Sys2Proof

/-- A link frame as received: SEQ in 16 bits, an outcome of R360. -/
def UlkRx.ok (r : UlkRx) : Bool := decide (r.seq < 2 ^ 16) && decide (r.err ∈ [0, 3, 4]) && decide (r.src < 256)

/-- A ring frame's routing within its fields (R356, R359). -/
def RingHdr.ok (h : RingHdr) : Bool := decide (h.dst < 256) && decide (h.src < 256) && decide (h.ttl < 256) && decide (h.eseq < 2 ^ 16)

/-- A payload whose length the field LEN can say (R356). -/
def payloadOk (n : Nat) : Bool := decide (n < 4096)

/-- Whether a command is one the outside world can send. -/
def Instr.wellFormed : Instr → Bool
  | .bar2Write _ _ bytes => decide (1 ≤ bytes.length ∧ bytes.length ≤ 256)
  | .smpWrite _ _ data _ => decide (1 ≤ data.length ∧ data.length ≤ 256)
  | .timeFrameRx _ rx body _ => rx.ok && payloadOk (4 * body.length)
  | .satSampleFrameRx _ rx body => rx.ok && payloadOk (4 * body.length)
  | .descriptionRx _ rx body => rx.ok && payloadOk (4 * body.length)
  | .replayReqRx _ rx _ => rx.ok
  | .tapReqRx _ rx _ => rx.ok
  | .fireFrameRx _ rx hdr body => rx.ok && hdr.ok && payloadOk (4 * body.length)
  | .armFrameRx _ rx hdr _ => rx.ok && hdr.ok
  | .sampleFrameRx _ rx hdr payload => rx.ok && hdr.ok && payloadOk payload.length
  | .recordFrameRx _ rx hdr payload => rx.ok && hdr.ok && payloadOk payload.length
  | .noteFrameRx _ rx hdr payload => rx.ok && hdr.ok && payloadOk payload.length
  | .mgmtReadRx _ rx hdr _ _ => rx.ok && hdr.ok
  | .mgmtWriteRx _ rx hdr _ _ _ => rx.ok && hdr.ok
  | .mgmtResponseRx _ rx hdr body => rx.ok && hdr.ok && payloadOk (4 * body.length)
  | .ulkAckRx _ seq _ => decide (seq < 2 ^ 16)
  | .keepaliveRx _ seq _ _ => decide (seq < 2 ^ 16)
  | .dramTrain found => decide (found.rd.length = 10 ∧ found.wr.length = 10)
  | .dramPortRequest _ _ _ bytes _ _ => decide (bytes.length = 32)
  | .qspiCmdGo _ _ back => decide (back.length ≤ 256)
  | _ => true

end Sys2Proof
end

