-- ==== Sys2Proof/Tests/Slice0.lean ====
section
/-! SUPPORT. The model's own tests: what well-formedness refuses, single steps on small states, and for every statement with hypotheses
states and operands that meet them, clause by clause. -/

namespace Sys2Proof.Tests

set_option Elab.async false

open Sys2Proof Sys2Proof.Machine

/-! ### Well-formedness -/

theorem test_wf_bar2Write : Instr.wellFormed (.bar2Write .pcie 0 []) = false ∧ Instr.wellFormed (.bar2Write .pcie 0 (List.replicate 257 0)) = false ∧
    Instr.wellFormed (.bar2Write .pcie 0 [0]) = true := by decide +kernel
theorem test_wf_smpWrite : Instr.wellFormed (.smpWrite 2 0 [] 0) = false ∧ Instr.wellFormed (.smpWrite 2 0 (List.replicate 257 0) 0) = false ∧
    Instr.wellFormed (.smpWrite 2 0 (List.replicate 256 0) 0) = true := by decide +kernel
theorem test_wf_rx : (⟨65536, 0, 0, 0⟩ : UlkRx).ok = false ∧ (⟨65535, 2, 0, 0⟩ : UlkRx).ok = false ∧ (⟨0, 0, 256, 0⟩ : UlkRx).ok = false ∧
    (⟨65535, 4, 255, 0⟩ : UlkRx).ok = true := by decide
theorem test_wf_hdr : (⟨256, 0, 0, false, 0⟩ : RingHdr).ok = false ∧ (⟨0, 256, 0, false, 0⟩ : RingHdr).ok = false ∧ (⟨0, 0, 256, false, 0⟩ : RingHdr).ok = false ∧
    (⟨0, 0, 0, false, 65536⟩ : RingHdr).ok = false ∧ (⟨255, 255, 255, true, 65535⟩ : RingHdr).ok = true := by decide
theorem test_wf_payload : payloadOk 4096 = false ∧ payloadOk 4095 = true := by decide
theorem test_wf_replay : Instr.wellFormed (.replayReqRx 0 ⟨0, 5, 0, 0⟩ 0) = false ∧ Instr.wellFormed (.tapReqRx 0 ⟨65536, 0, 0, 0⟩ 0) = false := by decide
theorem test_wf_ack : Instr.wellFormed (.ulkAckRx 0 65536 false) = false ∧ Instr.wellFormed (.keepaliveRx 0 65536 false true) = false ∧
    Instr.wellFormed (.keepaliveRx 0 65535 false true) = true := by decide
theorem test_wf_train : Instr.wellFormed (.dramTrain ⟨[], [], true, true, 0⟩) = false := by decide
theorem test_wf_port : Instr.wellFormed (.dramPortRequest 0 false 0 [] 0 []) = false := by decide
theorem test_wf_qspi : Instr.wellFormed (.qspiCmdGo .core 0 (List.replicate 257 0)) = false := by decide +kernel
theorem test_wf_fire : Instr.wellFormed (.fireFrameRx 0 ⟨0, 0, 0, 0⟩ ⟨256, 0, 0, false, 0⟩ []) = false ∧
    Instr.wellFormed (.timeFrameRx 0 ⟨0, 0, 0, 0⟩ (List.replicate 1024 0) 0) = false := by decide +kernel

/-! ### States -/

/-- The reset state, whose registers a test sets. -/
abbrev z : State := State.reset
/-- The reset state at an instant and an edge count. -/
def zAt (st clk : Nat) : State := { z with st := st, clk := clk }
/-- The reset state with one register set. -/
def zRw (a : Nat) (v : Word) : State := z.setRw a v
/-- The hub held in reset. -/
def zHeld : State := { z with supply := { z.supply with held := true } }
/-- The reset state with a latched event. -/
def zStat (p : Nat) (v : Word) : State := z.setPage p { stat := v }

/-! ### Witnesses: the machine, the buses, the event fabric -/

theorem wit_StepRunsFront : ({ z with pending := [.ppsLost] } : State).pending = .ppsLost :: [] ∧ z.pending = [] := by decide
theorem test_step_front : ({ z with pending := [.ppsLost, .ref10mLost] } : State).pending = .ppsLost :: [.ref10mLost] := by decide
theorem wit_SupplyDip : z.supply.held = false ∧ zHeld.supply.held = true ∧ Instr.porN ≠ .vddCoreInRange := by decide
theorem wit_BudgetRule_tick : (zAt (10 * usU) 5000).supply.held = false ∧ (zAt (10 * usU) 5000).ns % 10000 = 0 := by decide
theorem wit_BudgetRule_used : z.reaches 0x3110 ∧ bgtUsed z < 2 ^ 16 := by decide +kernel
theorem wit_BudgetRule_toobig :
    let r : BgtReq := ⟨5, 0, 65536, some 1, 0, none, true⟩
    let s := { zAt (30 * usU) 15000 with bgt := { z.bgt with queue := [r] } }
    s.supply.held = false ∧ s.ns % 10000 = 0 ∧ s.bgt.queue = [r] ∧ r.arr + 30 * usU ≤ s.st ∧ s.pwr.state ≠ 3 ∧ s.pwr.state ≠ 4 ∧
      ¬ (s.pwr.state = 2 ∧ (r.kind = 5 ∨ r.kind = 6)) ∧ (r.queued = true → s.st < r.arr + bgtWait s r) ∧ bgtBudget_MW s < r.mw := by decide +kernel
theorem wit_AccessFaults_cause :
    z.accessFault 0xFFFFC = some 1 ∧ z.accessFault 0x0FC = some 2 ∧ (z.setDom 17 { st := 4 }).accessFault 0xD100 = some 3 ∧
      (z.setPage 0xD { rstEnd := some 0 }).accessFault 0xD100 = some 4 := by decide +kernel
theorem wit_AccessFaults_latched : bit (z.page pSYS).stat 0 = false ∧ bit ((zStat pSYS 1).page pSYS).stat 0 = true := by decide
theorem wit_AccessFaults_write : (0x000FFFFC#32).toNat % 4 = 0 ∧ (0x000FFFFC#32).toNat < 0x100000 ∧ (14 : Fin 16) ≠ 15 := by decide
theorem wit_AccessFaults_pages : (0x100 ≤ 0x100000 / 0x1000 ∨ blockOf (0x100000 / 0x1000) = none) ∧
    (0x0 / 0x1000 < 0x100 ∧ (blockOf (0x0 / 0x1000)).isSome ∧ headerOff (0x0 % 0x1000) = true) ∧
    (0x100 / 0x1000 < 0x100 ∧ (blockOf (0x100 / 0x1000)).isSome ∧ headerOff (0x100 % 0x1000) = false ∧ 0x100 ≤ 0x100 % 0x1000 ∧
      (findReg (0x100 / 0x1000) (0x100 % 0x1000 / 4 * 4)).isSome) := by decide +kernel
theorem wit_AccessFaults_core : (0xF0000200#32).toNat = 0xF0000200 + 4 * (0 : Fin 8).val ∧ (0xF000021C#32).toNat = 0xF0000200 + 4 * (7 : Fin 8).val ∧ (0xF0000008#32).toNat = 0xF0000008 ∧
    (0xF000000C#32).toNat = 0xF000000C ∧ (0xEFFFFFFF#32).toNat < 0xF0000000 ∧ (0x100000#32).toNat % 4 = 0 ∧ 0x100000 ≤ (0x100000#32).toNat ∧ (0x102#32).toNat % 4 ≠ 0 ∧ Src.smp ≠ Src.core := by decide
theorem wit_HeldHubFrozen : { zHeld with pending := [.porN] }.frozen ∧ ∃ t, step { zHeld with pending := [.porN] } = .next t := ⟨by decide, _, rfl⟩
theorem wit_HubUpkeepFrame : ∃ t, exec (.excLow true) z = .next t := ⟨_, rfl⟩
theorem wit_CanonicalMemory : z.memOk ∧ (∃ t, exec (.bar2Write .pcie 0x3FFFFF [7]) z = .next t) ∧ ∃ t, exec (.tblDataAccess .pcie false 0) z = .next t :=
  ⟨by decide, ⟨_, rfl⟩, ⟨_, rfl⟩⟩
theorem wit_RegisterWritePlain : ∃ r, z.reaches (0x3100#32).toNat ∧ (0x3100#32).toNat % 4 = 0 ∧ 0x100 ≤ (0x3100#32).toNat % 0x1000 ∧ findReg 3 0x100 = some r ∧
    (z.lock 3).locked = false ∧ ∀ t, regEffect Src.pcie.code (0x3100#32).toNat 5 t = storeReg Src.pcie.code (0x3100#32).toNat 5 t :=
  ⟨_, by decide +kernel, by decide, by decide, rfl, by decide, fun _ => rfl⟩
theorem wit_PageLockWrite : z.supply.held = false ∧ (blockOf 0xFF).isSome = false ∧ (blockOf 2).isSome ∧ ((z.setLock 2 ⟨true, true⟩).lock 2).sticky = true ∧
    fld 0xFFFFFFFF#32 31 16 ≠ 0x4C4B ∧ (z.lock 2).sticky = false ∧
    (0x4C4B0003#32, (⟨true, true⟩ : PageLock)) ∈ [(0x4C4B0000#32, (⟨false, false⟩ : PageLock)), (0x4C4B0001#32, ⟨true, false⟩), (0x4C4B0002#32, ⟨true, true⟩), (0x4C4B0003#32, ⟨true, true⟩)] := by
  decide +kernel
theorem wit_EventLatches : z.supply.held = false ∧ (blockOf 0xBF).isSome := by decide +kernel
theorem wit_PageReset_begin : z.supply.held = false ∧ (blockOf 13).isSome ∧ noPageReset 13 = false ∧ (z.lock 13).locked = false ∧ (z.page 13).rstEnd = none := by decide +kernel
theorem wit_PageReset_end : ((z.setPage 13 { rstEnd := some 0 }).page 13).rstEnd.isSome := by decide
theorem wit_TblDataAccess : z.reaches 0x124 ∧ 0 = 4 * fld (z.rw 0x120) 18 2 ∧ (z.ctx (0 / 0x80)).pend = none := by decide +kernel
theorem wit_TblDataAccess_reserved : (zRw 0x120 0x0007FFFC).reaches 0x124 ∧ 0x7FFFC = 4 * fld ((zRw 0x120 0x0007FFFC).rw 0x120) 18 2 ∧ 0x58000 ≤ 0x7FFFC := by decide +kernel
theorem wit_TblDataAccess_head : (zRw 0x120 0x20000).reaches 0x124 ∧ headOpen (zRw 0x120 0x20000) 0 0 0 = true ∧ poolActive (zRw 0x120 0x20400) 0 = false := by decide +kernel
theorem wit_CommitQueue_accept : z.reaches 0xD100 ∧ (z.ctx 1023).pend = none ∧ ((z.setCtx 1023 { z.ctx 1023 with pend := some 0 }).ctx 1023).pend.isSome := by decide +kernel
theorem wit_CommitQueue_pop : { z with feng := { z.feng with done := [⟨1, false, 5⟩] } }.reaches 0xD104 := by decide +kernel
theorem wit_MsiCommands : z.reaches 0x1144 ∧ z.vecLevel 31 = false ∧ z.reaches (0x1880C + 0x10 * 31) ∧ z.vecMasked 31 = true ∧ 31 ∉ z.msi.pba ∧
    31 ∈ ({ z with msi := { z.msi with pba := [31] } } : State).msi.pba := by decide +kernel
theorem wit_MsiCommands_level :
    let s := (((z.setRw 0x1400 0x00003F00).setRw 0x189FC 0).setPage 0 { stat := 1, en := 1 })
    s.reaches 0x1144 ∧ s.vecLevel 31 = true ∧ s.vecMasked 31 = false := by decide +kernel

theorem wit_PageReset_path :
    let s := (z.setGrid 63 { run := true }).setCtx 9 { z.ctx 9 with desc := 0x00003F01 :: (z.ctx 9).desc.drop 1 }
    s.ctxRuns 9 = true ∧ pathCtxs s 13 = [9] ∧ (s.page 13).rstEnd = none ∧ pathCtxs z 13 = [] ∧ ¬ (13 = pLOOP ∧ s.pwr.state = 4) := by decide +kernel
theorem wit_PageReset_bgt : (z.lock pBGT).locked = false ∧ (z.page pBGT).rstEnd = none ∧ pathCtxs z pBGT = [] := by decide +kernel
theorem wit_PageReset_loop : let s : State := { z with pwr := { z.pwr with state := 4 } }
    s.supply.held = false ∧ (s.lock pLOOP).locked = false ∧ (s.page pLOOP).rstEnd = none ∧ s.pwr.state = 4 := by decide +kernel
theorem wit_PageReset_none : blockOf 0xFF = none ∧ noPageReset 8 = true ∧ (blockOf 8).isSome ∧ ((z.setPage 13 { rstEnd := some 0 }).page 13).rstEnd.isSome ∧
    ((z.setLock 13 ⟨true, false⟩).lock 13).locked = true := by decide +kernel
/-- A page in reset with one context, which produced nothing, on its path. -/
def zRst (p : Nat) : State := z.setPage p { rstEnd := some 0, rstCtx := [9] }
theorem wit_PageReset_ended : ∀ p ∈ [2, 0x80, 0xBF, pCAL, pSTORE], ((zRst p).page p).rstEnd.isSome ∧ (∀ c ∈ ((zRst p).page p).rstCtx, (zRst p).madeCount c = 0) ∧
    ((zRst p).page p).rstCtx = [9] ∧ (p = 2 → p ≠ pFENG ∧ stopsInput p = false ∧ p ≠ pCAL ∧ p ≠ pSTORE) ∧ (0x80 ≤ p → stopsInput p = true) := by decide +kernel
/-! ### Witnesses: commits, time, axes, grids -/

/-- A pending commit of context 5, with its descriptor words as reset leaves them or with one bad word. -/
def zCommit (w0 : Word) : State := (z.setTblW 0x280 w0).setCtx 5 { z.ctx 5 with pend := some 0 }
theorem wit_CommitQueue_judged : (zCommit 0).supply.held = false ∧ safePoint (zCommit 0) 5 = some none ∧ commitRej (zCommit 0) 5 ((zCommit 0).shadow 5) = none := by decide +kernel
theorem wit_CommitQueue_rejected : safePoint (zCommit 0xFFFFFFFF) 5 = some none ∧ (commitRej (zCommit 0xFFFFFFFF) 5 ((zCommit 0xFFFFFFFF).shadow 5)).isSome := by decide +kernel
theorem wit_TimeReads : z.reaches 0x8110 ∧ z.reaches 0x815C ∧ (z.lock pTBASE).locked = false ∧ z.reaches 0x8154 ∧ ptpOfsAtNs_VALID z = 0 ∧ z.tb.lastStep = none := by decide +kernel
theorem wit_TimeReads_pps : z.tb.srcAct ≠ 3 ∧ z.tiu.ppsLast = none ∧
    ({ z with tiu := { z.tiu with ppsLast := some 5 } } : State).tiu.ppsLast = some 5 ∧ 5 < 128001280006 ∧ 1280000 < tsDist (128001280006 - 5) 128000000000 := by decide +kernel
theorem wit_TimeReads_ptp : ptpOfsAtNs_VALID (zRw 0x815C 0x80000001) = 1 ∧ (zRw 0x815C 0x80000001).reaches 0x8154 ∧
    ((zRw 0x815C 0x80000001).st : Int) < ptpInstant (zRw 0x815C 0x80000001) := by decide +kernel
/-- A hub that lost its source PPS, with PTP as the alternate, which delivers or not. -/
def zLost (ptp : Option Nat) : State := { zRw 0x8100 0x00000023 with tb := { z.tb with srcAct := 3, seen2 := ptp } }
theorem wit_TimeSources_alt : (zLost (some 0)).tb.srcAct ≠ 0 ∧ tbDelivers (zLost (some 0)) (zLost (some 0)).tb.srcAct = false ∧ (zLost (some 0)).tb.holdover = false ∧
    (zLost (some 0)).tb.srcAct = tbSel (zLost (some 0)) ∧ tbAlt (zLost (some 0)) ≠ (zLost (some 0)).tb.srcAct ∧ tbDelivers (zLost (some 0)) (tbAlt (zLost (some 0))) = true := by decide +kernel
theorem wit_TimeSources_hold : tbDelivers (zLost none) (zLost none).tb.srcAct = false ∧ tbDelivers (zLost none) (tbAlt (zLost none)) = false ∧
    ¬ ((zLost none).tb.srcAct = 1 ∧ (zLost none).ring.crown = true ∧ tbAlt (zLost none) = 0) := by decide +kernel
theorem wit_TimeSources_back :
    let s : State := { zRw 0x8100 0x00000023 with clk := 10000000000, tb := { z.tb with srcAct := 2, seen3 := some 10000000000, retSince := some 0 } }
    s.tb.retSince = some 0 ∧ s.tb.srcAct ≠ tbSel s ∧ tbDelivers s (tbSel s) = true ∧ 0 + 10000000000 ≤ s.clk := by decide +kernel
theorem wit_TimeSources_limit :
    let s : State := { z with tb := { z.tb with holdover := true, hoErr := 2 ^ 48 * 10 ^ 9 } }
    s.tb.holdover = true ∧ s.tb.recovering = false ∧ s.tb.holdActive = false ∧ holdLimit_LIMIT s * (2 * 10 ^ 27 * 2 ^ 48) < hoEstNum s (s.clk - s.tb.hoStart) ∧ s.reaches 0x8100 := by
  decide +kernel
theorem wit_TimeSteps : z.reaches 0x8168 ∧ z.tb.step = none ∧ anyGridRuns z = false ∧ anyGridRuns (z.setGrid 63 { run := true }) = true ∧ (z.setGrid 63 { run := true }).reaches 0x8168 := by decide +kernel
theorem wit_TimeSteps_done : ({ z with tb := { z.tb with step := some ⟨true, 5⟩ } } : State).tb.step = some ⟨true, 5⟩ := by decide
theorem wit_TimeSteps_leap : leapCfg_ARM ((zRw 0x8174 0x80000025)) = 1 ∧ leapSecLo_SEC z + 2 ^ 32 * leapSecHi_SEC z ≤ z.sec := by decide +kernel
/-- Axis 3 enabled, with its Z input homing by spreading. -/
def zAx (cfg : Word) : State := { zRw (axCfgAt 3) cfg with clk := 1000000000 }
theorem wit_AxisCommands_enable : z.reaches (axCfgAt 3) ∧ (z.lock pAXIS).locked = false ∧ axCfg_EN z 3 = 0 ∧ bit 0x1#32 0 = true := by decide +kernel
theorem wit_AxisCommands_count : axCfg_EN (zAx 1) 3 = 1 ∧ ((true ≠ ((zAx 1).axis 3).a) ↔ false = ((zAx 1).axis 3).b) ∧ true ≠ ((zAx 1).axis 3).a ∧ true ≠ ((zAx 1).axis 3).b := by decide +kernel
theorem wit_AxisCommands_idle : axCfg_EN (zAx 1) 3 = 1 ∧ ((zAx 1).axis 3).idle = false ∧ ((zAx 1).axis 3).lastClk + max 1 (axIdleTime_IDLE (zAx 1) 3) * 1000000 ≤ (zAx 1).clk := by decide +kernel
theorem wit_AxisCommands_z : ∀ d ∈ [(0 : Int), 2 ^ 46],
    let s := (zAx 5).setAxis 3 { pos := d }
    axCfg_EN s 3 = 1 ∧ axCfg_Z_EN s 3 = 1 ∧ (s.axis 3).reversed = false ∧ (s.axis 3).fwd = true ∧ axCfg_Z_HOME s 3 = 0 ∧
      d = sgn 48 (unsgn 48 ((s.axis 3).pos - ((axZAngle_ZANG s 3 * 2 ^ 16 : Nat) : Int))) ∧ (d = 0 → d.natAbs ≤ 2 * (axInc s 3).natAbs) ∧
      (d ≠ 0 → 2 * (axInc s 3).natAbs < d.natAbs) := by decide +kernel
/-- Grid 63's descriptor: time axis, the shortest period of 15 625 ns, indices 0 to `stop`. -/
def zGrid (stop : Word) : State := (z.setTblW 0x50FD8 0x00003D09).setTblW 0x50FE4 stop
theorem wit_GridCommands_start : z.reaches 0xA300 ∧ ((zGrid 9).grid 63).run = false ∧ (zGrid 9).accessFault 0xA300 = none ∧ gridRej (zGrid 9) 63 usU = none ∧ gridRej z 63 usU = some 1 := by
  decide +kernel
theorem wit_GridCommands_stop :
    let s := z.setGrid 63 { run := true, period := 15625 * 2 ^ 32, next := 1, stopIdx := 9 }
    let q : Nat → GridSt := fun n => { s.grid 63 with next := n, stopAt := some (min (s.st + usU) ((s.grid 63).stopAt.getD (s.st + usU))) }
    s.reaches 0xA300 ∧ (s.grid 63).run = true ∧ gridPast (s.setGrid 63 (q 1)) (q 1) = true ∧ gridPast (s.setGrid 63 (q 0)) (q 0) = false := by decide +kernel
theorem wit_GridCommands_instant : ∀ n ∈ [8, 9],
    let s := { z.setGrid 63 { run := true, period := 15625 * 2 ^ 32, next := n, stopIdx := 9 } with st := msU }
    (s.grid 63).run = true ∧ (s.grid 63).axis = 0 ∧ (s.grid 63).stopAt = none ∧
      ((s.grid 63).origin + ((s.grid 63).next * (s.grid 63).period : Nat) : Int).toNat * 2 ^ 16 ≤ s.st := by decide +kernel

theorem wit_TimeReads_edges : z.supply.held = false ∧ z.tb.srcAct ≠ 3 ∧ (5 : Nat) < 128000000006 ∧ tsDist (128000000006 - 5) 128000000000 ≤ 1280000 ∧
    ({ z with tiu := { z.tiu with ppsLast := some 5, pps := true } } : State).tiu.pps = true := by decide +kernel
theorem wit_TimeReads_back :
    let s : State := { zRw 0x815C 0x80000001 with st := secU + nsU }
    ptpOfsAtNs_VALID s = 1 ∧ s.reaches 0x8154 ∧ ptpInstant s ≤ (s.st : Int) ∧ (s.st : Int) ≤ ptpInstant s + secU ∧ s.tb.lastStep = none ∧
      ptpInstant { s with st := 2 * secU } + secU < ((2 * secU + nsU + 1 : Nat) : Int) ∧ ptpInstant s < ((secU + 1 : Nat) : Int) := by decide +kernel
theorem wit_TimeSources_none : tbDelivers (zLost (some 0)) 2 = true ∧ z.tb.srcAct = 0 ∧
    ({ zRw 0x8100 0x1 with tb := { z.tb with srcAct := 1 }, ring := { z.ring with crown := true } } : State).ring.crown = true ∧ tbSel (zRw 0x8100 0x1) = 1 ∧ tbAlt (zRw 0x8100 0x1) = 0 := by
  decide +kernel
theorem wit_TimeSources_select : z.tb.holdover = false ∧ tbSel (storeReg 0 0x8100 0x00000023 z) = 3 ∧ tbAlt (storeReg 0 0x8100 0x00000023 z) = 2 ∧
    (let s : State := { z with tb := { z.tb with seen3 := some 0 } }
     tbSel (storeReg 0 0x8100 3 s) ≠ tbSel s ∧ s.tb.srcAct ≠ tbSel (storeReg 0 0x8100 3 s) ∧ tbSel (storeReg 0 0x8100 3 s) ≠ 0 ∧ tbSel (storeReg 0 0x8100 3 s) ≠ 1 ∧
       tbDelivers (storeReg 0 0x8100 3 s) (tbSel (storeReg 0 0x8100 3 s)) = true) := by decide +kernel
theorem wit_TimeSources_free :
    let s : State := { zRw 0x8100 0x00000023 with tb := { z.tb with holdover := true, holdActive := true, srcAct := 3 } }
    s.tb.holdover = true ∧ tbSel (storeReg 0 0x8100 0 s) = 0 ∧ tbAlt (storeReg 0 0x8100 0 s) = 0 ∧ tbSel (storeReg 0 0x8100 3 s) = tbSel s ∧ s.tb.recovering = false ∧ s.ring.crown = false := by
  decide +kernel
/-- Context 5 running on time grid 63, whose index 0 stands at ST 2 µs, with a commit accepted at ST 0. -/
def zRunC (w0 : Word) : State :=
  { ((zCommit w0).setCtx 5 { z.ctx 5 with pend := some 0, desc := word (1 + 256 * 63) :: (z.ctx 5).desc.drop 1 }).setGrid 63 { run := true, origin := 2000 * 2 ^ 32, period := 15625 * 2 ^ 32, stopIdx := 99 } with st := 3 * usU }
theorem wit_CommitQueue_index : safePoint (zRunC (word (256 * 63))) 5 = some (some (0, 2 * usU)) ∧ commitsBefore (zRunC (word (256 * 63))) 5 = [] ∧
    commitRej (zRunC (word (256 * 63))) 5 ((zRunC (word (256 * 63))).shadow 5) = none ∧
    (commitRej (zRunC 0xFFFFFFFF) 5 ((zRunC 0xFFFFFFFF).shadow 5)).isSome ∧ safePoint (zRunC 0xFFFFFFFF) 5 = some (some (0, 2 * usU)) := by decide +kernel
theorem wit_CommitQueue_idle : dEN ((zCommit 0).shadow 5) = false ∧ dEN ((zCommit 0).ctx 5).desc = false ∧ (zCommit 0).slicesNaming 5 = [] ∧ (zCommit 0).owes 5 = false ∧
    streamsOf ((zCommit 0).shadow 5) = streamsOf ((zCommit 0).ctx 5).desc ∧ dCCEN ((zCommit 0).shadow 5) = dCCEN ((zCommit 0).ctx 5).desc ∧ commitsBefore (zCommit 0) 5 = [] := by decide +kernel
theorem wit_CommitQueue_full : ∀ n ∈ [31, 32], ({ zCommit 0 with feng := { z.feng with done := List.replicate n ⟨1, false, 5⟩ } } : State).feng.done.length = n := by decide
theorem wit_AxisCommands_filter : 4 < axCfg_FILT (zAx 0x05000001) 3 ∧ axCfg_FILT (zAx 0x05000001) 3 ≤ 5 ∧ axCfg_EN (zAx 0x05000000) 3 = 0 ∧ axCfg_FILT (zAx 0x05000000) 3 ≤ 5 := by decide +kernel
theorem wit_AxisCommands_noz : axCfg_Z_EN (zAx 1) 3 = 0 ∧ axCfg_EN (zAx 4) 3 = 0 ∧ (((zAx 5).setAxis 3 { reversed := true }).axis 3).reversed = true ∧
    (((zAx 5).setAxis 3 { fwd := false }).axis 3).fwd = false ∧ (((zAx 0xD).setAxis 3 { zseen := true }).axis 3).zseen = true := by decide +kernel
/-- Grid 63 on axis 4, running from index 0 at 2^-16 of its units, with the axis past `p`. -/
def zAng (p : Int) : State :=
  { (zAx 1).setAxis 3 { pos := p, max := p, edges := [⟨2 * secU, p, false⟩, ⟨secU, 0, false⟩] } with st := 3 * secU, grids := [(63, { run := true, axis := 4, origin := 5, period := 2 ^ 16, stopIdx := 9 })] }
theorem wit_GridCommands_angle : ((zAng (2 ^ 26)).grid 63).run = true ∧ ((zAng (2 ^ 26)).grid 63).stopAt = none ∧ (gridDue (zAng (2 ^ 26)) ((zAng (2 ^ 26)).grid 63)).isSome ∧
    gridDue (zAng 7) ((zAng 7).grid 63) = none ∧ (z.grid 63).run = false := by decide +kernel
theorem wit_GridCommands_again : (z.setGrid 63 { run := true }).reaches 0xA300 ∧ gridStopped ((z.setGrid 63 { run := true }).grid 63) 0 = false := by decide +kernel
/-! ### Witnesses: the schedule and the slices -/

/-- Schedule entry 4 095 of action `a` and ARG `arg` on object 0, due at ST 5 µs, with RUN 1. -/
def zEnt (a arg : Nat) : State :=
  { zRw 0x9100 1 with st := 5 * usU, clk := 5000, sched := { z.sched with ents := [(4095, some ⟨⟨word (0x80000000 + a * 2 ^ 23 + arg * 2 ^ 12), 0, 5000, 0⟩, 5 * usU, none, false, none, none, false⟩)] } }
/-- That entry as the engine holds it. -/
def eEnt (a arg : Nat) : SchEnt := ⟨⟨word (0x80000000 + a * 2 ^ 23 + arg * 2 ^ 12), 0, 5000, 0⟩, 5 * usU, none, false, none, none, false⟩
/-- The same hub with slice 0 in a vibrating-wire sequence on channel 15. -/
def zVw (a : Nat) : State := { zEnt a 0 with tiu := { z.tiu with chans := [(15, { vw := some ⟨0, 1, true, 0, []⟩ })] } }
theorem wit_ScheduleActions : ∀ a ∈ [1, 5, 7, 8, 9, 10, 11, 12, 13, 14], (zEnt a 0).entReady a 4095 (eEnt a 0) := by decide +kernel
theorem wit_ScheduleActions_mux : (zEnt 6 8).entReady 6 4095 (eEnt 6 8) ∧ (zEnt 6 0).entReady 6 4095 (eEnt 6 0) := by decide +kernel
theorem wit_ScheduleActions_loop : (zEnt 1 1).entReady 1 4095 (eEnt 1 1) ∧ schARG (eEnt 1 1).content % 2 = 1 ∧ schARG (eEnt 1 0).content % 2 = 0 := by decide +kernel
theorem wit_ScheduleActions_exc : ∀ a ∈ [2, 3, 4], (zEnt a 0).entReady a 4095 (eEnt a 0) ∧ vwHolds (zEnt a 0) (schTARGET (eEnt a 0).content) = false ∧
    (zVw a).entReady a 4095 (eEnt a 0) ∧ vwHolds (zVw a) (schTARGET (eEnt a 0).content) = true := by decide +kernel
theorem wit_ScheduleControl_stopped : schedCtl_RUN ((zEnt 2 0).setRw 0x9100 0) = 0 ∧ ((zEnt 2 0).setRw 0x9100 0).ent 4095 = some (eEnt 2 0) ∧ entDue (zEnt 2 0) (eEnt 2 0) = true ∧
    schPeriod (eEnt 2 0).content = 0 ∧ schPeriod ⟨0x81000000, 0, 5000, 1⟩ + schPeriod ⟨0x81000000, 1, 5000, 1⟩ + schPeriod ⟨0x81000000, 0, 1, 0x10000⟩ ≠ 0 := by decide +kernel
/-- That entry with a reserved action. -/
theorem wit_ScheduleControl_bad :
    let e : SchEnt := ⟨⟨0x81000040, 0, 5000, 0⟩, 5 * usU, none, false, none, none, false⟩
    let s : State := { zEnt 2 0 with sched := { z.sched with ents := [(4095, some e)] } }
    s.ent 4095 = some e ∧ schACTION e.content = 2 ∧ entDue s e = true ∧ schedCtl_RUN s ≠ 0 ∧ (entRecent s).length < 128 ∧ entBlocked s 4095 e = false ∧ entBad s 4095 e.content = true := by
  decide +kernel
theorem wit_ScheduleControl_write : (zRw 0x9100 1).reaches 0x9100 ∧ ((zRw 0x9100 1).lock pSCHED).locked = false ∧ schedCtl_RUN (zRw 0x9100 1) ≠ 0 := by decide +kernel
theorem wit_ScheduleControl_next : (zAt 0 1000).sched.nextClk + 1000 ≤ (zAt 0 1000).clk := by decide
/-- Slice 63 on, with its set as reset leaves it but EN. -/
def zSl : State := ((z.setSlice 63 { app := { cfg := 0x00010701 } }).setCal 63 { upOff := false })
theorem wit_SliceSets_apply : z.reaches ((0x80 + 63) * 0x1000 + 0x108) := by decide +kernel
/-- Slice 63 with an APPLY accepted at ST 0 and SL_PAIRS `v`. -/
def zApply (v : Word) : State := { (zSl.setSlice 63 { zSl.slice 63 with applyAt := some 0 }).setRw (slPairsAt 63) v with st := msU }
theorem wit_SliceSets_effect : ((zApply 0x00101010).slice 63).applyAt = some 0 ∧ ((zApply 0x00101010).cal 63).running = false ∧
    (convAt (zApply 0x00101010) 63 (if (zApply 0x00101010).sliceOff 63 then 0 else 0 + usU)).isSome ∧
    setConflict (zApply 0x00101010) 63 ((zApply 0x00101010).pendSet 63) = false ∧ setBad (zApply 0x00101010) 63 ((zApply 0x00101010).pendSet 63) = false := by decide +kernel
theorem wit_SliceSets_refused : (convAt (zApply 0x70) 63 (if (zApply 0x70).sliceOff 63 then 0 else 0 + usU)).isSome ∧ setBad (zApply 0x70) 63 ((zApply 0x70).pendSet 63) = true := by decide +kernel
theorem wit_SliceSets_mitten : z.reaches ((0x40 + 15) * 0x1000 + 0x108) ∧ z.align.run = false ∧ fld (z.mittPend 15).a 12 8 < 24 ∧ fld (z.mittPend 15).b 12 8 < 24 ∧
    fld (z.mittPend 15).t 20 16 < 24 ∧ hasDup (allClaims z 15 (z.mittPend 15) none) = false := by decide +kernel
theorem wit_SliceSets_claims :
    let s := (z.setRw (mtSrcAAt 15) 0x00010000).setRw (mtSrcBAt 15) 0x00010000
    hasDup (allClaims s 15 (s.mittPend 15) none) = true ∧ s.reaches ((0x40 + 15) * 0x1000 + 0x108) := by decide +kernel
theorem wit_SliceSets_source : bit (((z.setMitt 15 { app := { a := 0x10000, b := 0x10000 } }).mitt 15).app.a) 16 = true := by decide
/-- Slice 63 with its generator on. -/
def zExc (e : ExcSt) : State := { zSl.setSlice 63 { zSl.slice 63 with app := { cfg := 0x00010701, exc := 0x00900001 }, exc := e } with st := 2 * secU, clk := 1000 }
theorem wit_Excitation_change : ((zExc { pend := some .off }).slice 63).exc.pend = some .off ∧ (zExc { pend := some .off }).sliceOff 63 = false ∧
    (convAt (zExc { pend := some .off }) 63 ((zExc { pend := some .off }).slice 63).exc.pendAt).isSome := by decide +kernel
theorem wit_Excitation_pulse :
    let s := zExc { on := true, offPend := true, onAt := 2 * secU - 20 * usU, segAt := 0 }
    (s.slice 63).exc.on = true ∧ (s.slice 63).exc.offPend = true ∧ (s.slice 63).exc.onAt + 20 * usU ≤ s.st ∧
      (s.slice 63).exc.segAt + max 20 (min 1000000 (fld (s.slice 63).app.maxw 19 0)) * usU ≤ s.st ∧ eMODE (excSel (s.slice 63)) = 1 := by decide +kernel
theorem wit_Excitation_rearm : z.reaches ((0x80 + 63) * 0x1000 + 0x190) := by decide +kernel

theorem wit_SliceSets_early : ((zApply 0x00101010).slice 62).applyAt = none ∧
    (({ zApply 0x00101010 with st := 0 } : State).slice 63).applyAt = some 0 ∧
    convAt { zApply 0x00101010 with st := 0 } 63 (if ({ zApply 0x00101010 with st := 0 } : State).sliceOff 63 then 0 else 0 + usU) = none ∧
    ((zSl.setCal 63 { running := true })).calibrating 63 = true := by decide +kernel
theorem wit_SliceSets_measure : let s : State := { z with align := { z.align with run := true, measuring := 0x8000 } }
    s.reaches ((0x40 + 15) * 0x1000 + 0x108) ∧ s.align.run = true ∧ s.align.measuring.testBit 15 = true ∧ s.align.measuring.testBit 14 = false ∧
      24 ≤ fld ((z.setRw (mtSrcAAt 15) 0x00011800).mittPend 15).a 12 8 ∧ 24 ≤ fld ((z.setRw (mtSrcBAt 15) 0x00011800).mittPend 15).b 12 8 ∧
      bit (z.mitt 15).app.a 16 = false := by decide +kernel
theorem wit_Excitation_off : ((zExc {}).slice 63).exc.pend = none ∧ ((zExc {}).slice 63).exc.on = false ∧
    (let s := (zExc { pend := some .off }).setCal 63 { upOff := true }
     (s.slice 63).exc.pend.isSome ∧ s.sliceOff 63 = true) ∧
    (let s := zExc { on := true, offPend := true, onAt := 2 * secU - 20 * usU + 1 }
     (s.slice 63).exc.on = true ∧ s.st < (s.slice 63).exc.onAt + 20 * usU ∧ ((zExc { on := true }).slice 63).exc.offPend = false) := by decide +kernel
theorem wit_Excitation_decides :
    let s := zExc { on := true, segAt := 0, onAt := secU - 20 * usU, offPend := true }
    let t := zExc { on := true, segAt := 0, pend := some (.on true) }
    0 + max 20 (min 1000000 (fld (s.slice 63).app.maxw 19 0)) * usU ≤ s.st ∧ excDecides t 63 (0 + max 20 (min 1000000 (fld (t.slice 63).app.maxw 19 0)) * usU) = false ∧
      excDecides (zExc { on := true, offPend := true, onAt := 5 * usU }) 63 (25 * usU) = true ∧ eMODE (excDrv (s.slice 63)) = 1 ∧ (t.slice 63).exc.on = true := by decide +kernel
theorem wit_Excitation_wire :
    let s : State := { zSl with tiu := { z.tiu with chans := [(15, { vw := some ⟨63, 3, true, 0, []⟩ })] } }
    vwHolds s 63 = true ∧ (s.slice 63).exc.on = false ∧ vwHolds zSl 63 = false := by decide +kernel
/-! ### Witnesses: conversions, calibration, outputs, triggers -/

/-- Slice 63 on, serving context 7 in slot 0, in FIR or single-cycle mode, waiting to settle or converting. -/
def zConv (w0 : Word) (x : SliceSt) : State :=
  { (zSl.setSlice 63 { x with app := { cfg := 0x00010701, slotCtx := 0x80000007 :: List.replicate 7 0 } }).setCtx 7 { z.ctx 7 with desc := w0 :: (z.ctx 7).desc.drop 1 } with st := secU, clk := 500000000 }
theorem wit_Conversions_settle : ((zConv 1 { waitEnd := some 5 }).slice 63).waitEnd = some 5 ∧ 5 ≤ (zConv 1 { waitEnd := some 5 }).st ∧
    slotCtx ((zConv 1 { waitEnd := some 5 }).slice 63) = some 7 ∧ dMODE ((zConv 1 { waitEnd := some 5 }).ctx 7).desc = false ∧
    ((zConv 1 { waitEnd := some 5 }).slice 63).slotDiff = true ∧ dMODE ((zConv 3 { waitEnd := some 5 }).ctx 7).desc = true := by decide +kernel
theorem wit_Conversions_decimator : (zConv 1 {}).sliceOff 63 = false ∧ 100 * (zConv 1 {}).sliceDec 63 * modCyc * 2 ^ 16 ≤ (zConv 1 {}).st ∧
    scCOMB ((zConv 1 {}).slice ((zConv 1 {}).pairEven 63)).app ((zConv 1 {}).slice ((zConv 1 {}).pairEven 63)).slot = 0 := by decide +kernel
theorem wit_Conversions_single : ((zConv 3 { conv := some (0, none) }).slice 63).conv = some (0, none) ∧ ((zConv 3 { conv := some (0, none) }).slice 63).therm = none ∧
    (0 + 4 * (max 2 (dSCK ((zConv 3 {}).ctx 7).desc) - 1) * modCyc) * 2 ^ 16 ≤ (zConv 3 {}).st ∧ scCOMB ((zConv 3 {}).slice 63).app ((zConv 3 {}).slice 63).slot = 0 ∧
    aAREN ((zConv 3 {}).slice 63).app = false ∧
    (setSlots ((zConv 3 {}).slice 63).app).all (fun j => !(decide (j = ((zConv 3 {}).slice 63).slot + 1) && decide (scCOMB ((zConv 3 {}).slice 63).app j ≠ 0))) = true := by decide +kernel
theorem wit_Conversions_overload : (zConv 1 {}).sliceOff 63 = false ∧ ((zConv 1 {}).slice 63).ovlNow = false ∧ ((zConv 1 { ovlNow := true }).slice 63).ovlNow = true := by decide +kernel

/-- Slice 60's calibration state at ST 7 200 s, with automatic recalibration on. -/
def zCal (x : CalSl) : State := { (z.setCal 60 x).setRw calCfgAt ((z.rw calCfgAt) ||| 1) with st := 7200 * secU, clk := 600000000000 }
theorem wit_Calibration_temp : ((zCal {}).dom (1 + 15)).st ≠ 4 ∧ ((zCal {}).cal 60).dueAt = none ∧ ((zCal {}).cal 60).running = false ∧ ((zCal {}).cal 60).retryAt = none ∧
    ((zCal {}).cal 60).fault = false ∧ calCfg_AUTO_EN (zCal {}) = 1 ∧ calThresh (zCal {}) < calDiff ((zCal {}).setMitt 15 { (zCal {}).mitt 15 with temp := 8500 }) 60 := by decide +kernel
theorem wit_Calibration_otp : z.reaches 0x6108 ∧ otpAddr_ADDR (z.setRw otpAddrAt 0x27FC) = 0x9FF ∧ (z.setRw otpAddrAt 0x27FC).reaches 0x6108 := by decide +kernel
theorem wit_Calibration_age : calMaxAge_AGE ((zCal {}).setRw calMaxAgeAt 2) = 2 ∧ ((zCal {}).cal 60).sec + 3600 * 2 ≤ (zCal {}).sec ∧ ((zCal {}).dom (1 + 60 / 4)).st ≠ 4 := by decide +kernel
theorem wit_Calibration_retry : ((zCal { retryAt := some 600000000000 }).cal 60).retryAt = some 600000000000 ∧ 600000000000 ≤ (zCal {}).clk := by decide +kernel
theorem wit_Calibration_defer : ((zCal { dueAt := some 0 }).cal 60).dueAt = some 0 ∧ 0 + 600000000000 ≤ (zCal {}).clk ∧ ((zCal { dueAt := some 0 }).cal 60).expired = false := by decide +kernel
theorem wit_Calibration_force : z.reaches 0xC114 ∧ z.reaches 0xC110 ∧ bit 0x80000000#32 31 = true ∧ (z.cal 63).running = false := by decide +kernel
theorem wit_Calibration_settled : (z.dom (1 + 15)).st ≠ 4 ∧ ((zAt 0 200000000).mitt 15).upAt + 200000000 ≤ (zAt 0 200000000).clk := by decide +kernel
theorem wit_Calibration_start : ((zCal { t0 := some (7200 * secU) }).cal 60).t0 = some (7200 * secU) ∧ 7200 * secU ≤ (zCal {}).st ∧ ((zCal { t0 := some (7200 * secU) }).cal 60).running = false := by decide +kernel
theorem wit_Calibration_end : ((zCal { t0 := some 0, running := true }).cal 60).t0 = some 0 ∧ ((zCal { t0 := some 0, running := true }).cal 60).running = true ∧
    max (0 + 24 * msU) (((calStep7 60 (0 + 23 * msU) (zCal { t0 := some 0, running := true })).slice 60).waitEnd.getD 0) ≤ (zCal {}).st := by decide +kernel
theorem wit_Calibration_good : calGood 2048 2048 600 (-100) = true ∧ calGood 2048 2048 601 0 = false := by decide

/-- Context 1 023 enabled with KIND `k`, its grid 63 running with index 0 produced. -/
def zOut (k : Nat) : State :=
  ((z.setCtx 1023 { z.ctx 1023 with desc := word (1 + 16 * k + 256 * 63) :: (z.ctx 1023).desc.drop 1, nextK := some 0 })).setGrid 63 { run := true, made := [⟨0, 0, false, none, none⟩] }
theorem wit_OutputsAndSkew_output : (zOut 0).tails.find? (fun t => decide (t.ctx = 1023)) = none ∧ nextInst (zOut 0) 1023 = some ⟨0, 0, false, none, none⟩ ∧
    dEN (descFor ((zOut 0).ctx 1023) 0) = true ∧ (ctxValue 1023 (descFor ((zOut 0).ctx 1023) 0) ⟨0, 0, false, none, none⟩ (zOut 0)).isSome ∧ dKIND ((zOut 0).ctx 1023).desc ≠ 2 := by decide +kernel
theorem wit_OutputsAndSkew_detector :
    let s := { zOut 2 with pwr := { z.pwr with state := 4 } }
    nextInst s 1023 = some ⟨0, 0, false, none, none⟩ ∧ dKIND (s.ctx 1023).desc = 2 ∧ (ctxValue 1023 (descFor (s.ctx 1023) 0) ⟨0, 0, false, none, none⟩ s).isSome := by decide +kernel
theorem wit_OutputsAndSkew_skew : z.reaches 0xE100 ∧ z.align.run = false ∧ skewSkips z (skewCfg_REF_MITT z) = false := by decide +kernel
/-- A hub whose slice 0 serves the running context 1 023. -/
theorem wit_OutputsAndSkew_refused :
    let s := ((zOut 0).setSlice 0 { app := { cfg := 0x00010701, slotCtx := 0x800003FF :: List.replicate 7 0 } }).setRw skewMaskAt 0xFFFF
    s.reaches 0xE100 ∧ s.align.run = false ∧ (skewMask_MASK s).testBit (skewCfg_REF_MITT s) = true ∧ skewSkips s (skewCfg_REF_MITT s) = true ∧ skewCfg_REF_MITT s < 16 := by decide +kernel

/-- Trigger unit 31 with one EVENT slot and context 3 as its member, in a record partition of 64 pages. -/
def zTrig : State :=
  let s := z.setCtx 3 { z.ctx 3 with desc := (((z.ctx 3).desc.set 0 1).set 15 0x80000000).set 8 0x80000000 }
  { (s.setTblW 0x51F80 0x01000000).setTblW 0x51FA0 0x9C000000 with store := { z.store with recPages := 64, applied := true } }
theorem wit_TriggerCommands_arm : zTrig.reaches 0x10100 ∧ (zTrig.trigUnit 31).armed = false ∧ (zTrig.trigUnit 31).opened = none ∧ uRING (zTrig.unitDesc 31) = false ∧
    armRej zTrig 31 true = none ∧ armRej z 31 true = some 5 ∧ uRING (z.unitDesc 31) = false := by decide +kernel
/-- A hub with unit 31 armed, and with or without an open record. -/
def zArmed (o : Option OpenRec) : State :=
  { z.setUnit 31 { armed := true, opened := o, desc := zTrig.unitDesc 31, slots := List.replicate 8 {}, slotNo := 255 } with st := 10 * secU, clk := 5 }
/-- An open record of second 0. -/
def oRec : OpenRec := ⟨0, 0x10, 0, 0, false, 0, none, false, false, false, 0, [], 255, false, 2, none⟩
theorem wit_TriggerCommands_armed : (zArmed none).reaches 0x10100 ∧ ((zArmed none).trigUnit 31).armed = true ∧ uRING ((zArmed none).trigUnit 31).desc = false ∧
    ((zArmed none).trigUnit 31).opened = none := by decide +kernel
theorem wit_TriggerCommands_open : (zArmed (some oRec)).reaches 0x10100 ∧ ((zArmed (some oRec)).trigUnit 31).opened = some oRec ∧
    commitPoint (zArmed (some oRec)) oRec.mems = some 0 ∧ 0 < (zArmed (some oRec)).st + usU ∧ (zArmed (some oRec)).st + usU ≠ oRec.t := by decide +kernel
theorem wit_TriggerCommands_silence :
    let s := (zArmed none).setUnit 31 { (zArmed none).trigUnit 31 with desc := ((zArmed none).trigUnit 31).desc.set 29 0x84000000 }
    (s.trigUnit 31).armed = true ∧ (s.trigUnit 31).slots[7]? = some ({} : SlotSt) ∧ slEN (s.trigUnit 31).desc 7 = true ∧ slCtx (s.trigUnit 31).desc 7 = true ∧
      ({} : SlotSt).silent = false ∧ ({} : SlotSt).lastAt + secU ≤ s.st := by decide +kernel
theorem wit_TriggerCommands_free : ∀ c ∈ [true, false], (z.setRec 255 (some ⟨!c, c, 31, 0, [(0, 1)], 64⟩)).reaches 0x11124 ∧
    (z.setRec 255 (some ⟨!c, c, 31, 0, [(0, 1)], 64⟩)).recSlot 255 = some ⟨!c, c, 31, 0, [(0, 1)], 64⟩ := by decide +kernel
theorem wit_TriggerDecisions_decide :
    let s := (zArmed none).setUnit 31 { (zArmed none).trigUnit 31 with meets := [⟨secU, 0, true⟩] }
    nextMeet (s.trigUnit 31) = some secU ∧ decidable (s.trigUnit 31) secU = true ∧ uK (s.trigUnit 31).desc ≤ bitCount (countedAt (s.trigUnit 31) secU) ∧ (s.trigUnit 31).opened = none := by decide +kernel
theorem wit_TriggerDecisions_merge :
    let s := (zArmed none).setUnit 31 { (zArmed none).trigUnit 31 with mergeEnd := some secU, cands := [⟨0, 0, 1, 0, false⟩] }
    (s.trigUnit 31).mergeEnd = some secU ∧ secU ≤ s.st ∧ (s.trigUnit 31).cands = [⟨0, 0, 1, 0, false⟩] := by decide +kernel
theorem wit_TriggerDecisions_maxdur :
    let s := (zArmed (some oRec)).setUnit 31 { (zArmed (some oRec)).trigUnit 31 with desc := ((zArmed none).trigUnit 31).desc.map (fun _ => 0x00020002#32) }
    (s.trigUnit 31).opened = some oRec ∧ uMAXDUR (s.trigUnit 31).desc ≠ 0 ∧ oRec.t + uMAXDUR (s.trigUnit 31).desc * secU ≤ s.st := by decide +kernel

theorem wit_Conversions_wait : ((zConv 1 {}).slice 63).waitEnd = none ∧ ((zConv 1 { waitEnd := some (secU + 1) }).slice 63).waitEnd = some (secU + 1) ∧
    (zConv 1 { waitEnd := some (secU + 1) }).st < secU + 1 ∧ (zConv 1 {}).sliceSc 63 = false ∧ (zConv 1 {}).calibrating 63 = false ∧
    (zConv 1 {}).st < 10 ^ 9 * (zConv 1 {}).sliceDec 63 * modCyc * 2 ^ 16 := by decide +kernel
theorem wit_Conversions_off :
    let s := (zConv 3 { conv := some (0, none) }).setCal 63 { upOff := true }
    s.sliceOff 63 = true ∧ (s.slice 63).conv = some (0, none) ∧ slotCtx (s.slice 63) = some 7 ∧ (s.slice 63).therm = none ∧ feedsNext (s.slice 63).app (s.slice 63).slot = false ∧
      (zConv 3 { conv := some (0, none) }).sliceOff 63 = false ∧
      (zConv 3 { conv := some (10 ^ 20, none) }).st < (10 ^ 20 + 4 * (max 2 (dSCK ((zConv 3 {}).ctx 7).desc) - 1) * modCyc) * 2 ^ 16 := by decide +kernel
theorem wit_Calibration_none :
    ((zCal {}).cal 60).retryAt = none ∧ ((zCal { retryAt := some 600000000001 }).cal 60).retryAt = some 600000000001 ∧ (zCal {}).clk < 600000000001 ∧ calCfg_AUTO_EN (z.setRw calCfgAt 0) = 0 ∧
      ((z.setDom 16 { st := 4 }).dom (1 + 15)).st = 4 ∧ (z.mitt 15).upAt + 200000000 > z.clk := by decide +kernel
theorem wit_Calibration_gap :
    let s := zCal { retryAt := some 0, gapEnd := some (7300 * secU) }
    (s.cal 60).retryAt = some 0 ∧ (s.cal 60).gapEnd.isSome ∧ needsGap ((zCal { upOff := false, retryAt := some 0, gapEnd := some 0 }).setRw calCfgAt 1) 60 = true := by decide +kernel
theorem wit_Calibration_expired :
    let s := ((zCal { dueAt := some 0 }).setSlice 60 { app := { cfg := 0x00010701, slotCtx := 0x80000005 :: List.replicate 7 0 } }).setUnit 31 { opened := some { oRec with mems := [⟨5, 0, 1, 0, 0, 63, 0, 0, [], some 0, false, []⟩] } }
    (s.cal 60).dueAt = some 0 ∧ 0 + 600000000000 ≤ s.clk ∧ (s.cal 60).expired = false ∧ calTaken (s.cal 60) = false ∧ (s.cal 60).forced = false ∧ calAffected s 60 = true ∧
      calAffected (zCal { dueAt := some 0 }) 60 = false := by decide +kernel
/-- Slice 60 in recalibration from ST 0, after `o` outputs. -/
def zRun (o : Nat) : State := zCal { t0 := some 0, running := true, outs := o, acc := 3, gain := 2048 + 2 ^ 11, ofs := 2048 + 2 ^ 11 }
theorem wit_CalibrationRun_outputs : ∀ q ∈ [14, 80, 94, 160, 184], ((zRun (q - 1)).cal 60).t0 = some 0 ∧ (zRun (q - 1)).calibrating 60 = true ∧ (zRun (q - 1)).sliceOff 60 = true ∧
    q * 256 * modCyc * 2 ^ 16 ≤ (zRun (q - 1)).st ∧ q = q - 0 / (256 * modCyc * 2 ^ 16) ∧ q = ((zRun (q - 1)).cal 60).outs + 1 ∧
    ((9 ≤ q ∧ q ≤ 80 ∧ (q - 9) % 6 = 5) ∨ (89 ≤ q ∧ q ≤ 160 ∧ (q - 89) % 6 = 5) ∨ q = 184) := by decide +kernel
theorem wit_CalibrationRun_end : ∀ g ∈ [true, false],
    let s := zCal { t0 := some 0, running := true, verdict := some g, t1 := 24 * msU }
    (s.cal 60).t0 = some 0 ∧ (s.cal 60).running = true ∧ 0 + 24 * msU ≤ s.st ∧ (s.cal 60).verdict = some g ∧ (s.cal 60).t1 ≤ s.st ∧ (s.cal 60).forced = false ∧
      ({ s with st := 24 * msU - 1 } : State).st < ((s.cal 60)).t1 := by decide +kernel
theorem wit_CalibrationRun_start : (zCal { t0 := some (7200 * secU + 1) }).st < 7200 * secU + 1 ∧ ((zCal { t0 := some 0, running := true }).cal 60).running = true ∧ ((zCal {}).cal 60).t0 = none := by
  decide +kernel
theorem wit_OutputsAndSkew_none : nextInst z 1023 = none ∧ dKIND (z.ctx 1023).desc ≠ 2 ∧ z.tails.find? (fun t => decide (t.ctx = 1023)) = none ∧
    nextInst ((zOut 2).setGrid 63 { run := true, made := [] }) 1023 = none ∧ dKIND ((zOut 2).ctx 1023).desc = 2 := by decide +kernel
/-- A hub whose context 1 023 has a run behind it that owes one output. -/
def zTail : State := { zOut 0 with tails := [⟨1023, (zOut 0).ctx 1023, (zOut 0).grid 63⟩] }
theorem wit_OutputsAndSkew_tail : zTail.tails.find? (fun t => decide (t.ctx = 1023)) = some ⟨1023, (zOut 0).ctx 1023, (zOut 0).grid 63⟩ ∧ dKIND ((zOut 0).ctx 1023).desc ≠ 2 := by decide +kernel
theorem wit_OutputsAndSkew_busy : ({ z with align := { z.align with run := true } } : State).align.run = true ∧ ({ z with align := { z.align with run := true } } : State).reaches 0xE100 ∧
    (skewMask_MASK (z.setRw skewMaskAt 0)).testBit (skewCfg_REF_MITT (z.setRw skewMaskAt 0)) = false := by decide +kernel
/-- Unit 31 of RING_ID 5 as a ring unit on the crown. -/
def zRing (x : UnitSt) : State :=
  let d := (z.unitDesc 31).set 0 0xC1000005
  { (zTrig.setTblW 0x51F80 0xC1000005).setUnit 31 { x with desc := d, slots := List.replicate 8 {} } with ring := { z.ring with crown := true }, st := 10 * secU }
theorem wit_TriggerCommands_ring : (zRing {}).reaches 0x10100 ∧ uRING ((zRing {}).unitDesc 31) = true ∧ (zRing {}).ring.crown = true ∧ ((zRing {}).trigUnit 31).opened = none ∧
    uRING ((zRing { armed := true }).trigUnit 31).desc = true ∧ ((zRing { armed := true }).trigUnit 31).armed = true := by decide +kernel
theorem wit_TriggerCommands_disarm :
    let m : RecMem := ⟨3, 0, 1, 0, 0, 63, 0, 0, [], none, false, []⟩
    let s := ((zArmed none).setUnit 31 { (zArmed none).trigUnit 31 with members := [m] }).setRec 255 (some ⟨false, false, 31, 0, [(0, 1)], 0⟩)
    (s.trigUnit 31).armed = true ∧ (s.trigUnit 31).members ≠ [] ∧ ((zArmed none).trigUnit 31).members = [] ∧ (zTrig.trigUnit 31).armed = false ∧ s.reaches 0x10100 := by decide +kernel
theorem wit_TriggerCommands_fire : (zTrig.trigUnit 31).opened = none ∧ (zTrig.trigUnit 31).armed = false ∧ armRej zTrig 31 false = none ∧ (armRej z 31 false).isSome ∧ z.reaches 0x10100 ∧
    (z.trigUnit 31).opened = none := by decide +kernel
theorem wit_TriggerCommands_stop :
    let m : RecMem := ⟨3, 0, 2 ^ 20, 0, 0, 63, 0, 0, [], some 0, false, []⟩
    let s := fun (f : Option (Nat × Nat)) => (zArmed (some { oRec with mems := [m], full := f })).setGrid 63 { run := true, axis := 1, period := 2 ^ 16, stopIdx := 2 ^ 30 }
    commitPoint (s none) [m] = none ∧ (∀ f ∈ [(0, 0)], f.1 < (s (some f)).st + usU) ∧ (s none).st + usU ≠ oRec.t ∧ (s none).st + usU ≤ 10 * secU + usU := by decide +kernel
theorem wit_TriggerCommands_heard :
    let s := (zArmed none).setUnit 31 { (zArmed none).trigUnit 31 with slots := List.replicate 8 { lastAt := 9 * secU + 1 } }
    (s.trigUnit 31).slots[7]? = some { lastAt := 9 * secU + 1 } ∧ s.st < 9 * secU + 1 + secU ∧ (z.trigUnit 31).armed = false ∧ slCtx ((zArmed none).trigUnit 31).desc 0 = false ∧
      (z.trigUnit 31).slots[0]? = none := by decide +kernel
theorem wit_TriggerDecisions_none : nextMeet (z.trigUnit 31) = none ∧ (z.trigUnit 31).mergeEnd = none ∧ (z.trigUnit 31).cands = [] ∧ (z.trigUnit 31).opened = none ∧
    (let s := (zArmed none).setUnit 31 { (zArmed none).trigUnit 31 with meets := [⟨secU, 0, true⟩], desc := ((zArmed none).trigUnit 31).desc.set 8 0x84000000 }
     nextMeet (s.trigUnit 31) = some secU ∧ decidable (s.trigUnit 31) secU = false) := by decide +kernel
theorem wit_TriggerDecisions_few :
    let s := (zArmed none).setUnit 31 { (zArmed none).trigUnit 31 with meets := [⟨secU, 0, true⟩], desc := ((zArmed none).trigUnit 31).desc.set 0 0x02000000 }
    (s.trigUnit 31).armed = true ∧ nextMeet (s.trigUnit 31) = some secU ∧ decidable (s.trigUnit 31) secU = true ∧ bitCount (countedAt (s.trigUnit 31) secU) < uK (s.trigUnit 31).desc := by decide +kernel
theorem wit_TriggerDecisions_ring :
    let s := zRing { armed := true, meets := [⟨secU, 7, true⟩] }
    (s.trigUnit 31).armed = true ∧ nextMeet (s.trigUnit 31) = some secU ∧ decidable (s.trigUnit 31) secU = true ∧ uK (s.trigUnit 31).desc ≤ bitCount (countedAt (s.trigUnit 31) secU) ∧
      (s.trigUnit 31).opened = none ∧ uRING (s.trigUnit 31).desc = true := by decide +kernel
theorem wit_TriggerDecisions_opened : ∀ t ∈ [0, secU],
    let s := (zArmed (some oRec)).setUnit 31 { (zArmed (some oRec)).trigUnit 31 with meets := [⟨t, 0, true⟩] }
    (s.trigUnit 31).armed = true ∧ nextMeet (s.trigUnit 31) = some t ∧ decidable (s.trigUnit 31) t = true ∧ uK (s.trigUnit 31).desc ≤ bitCount (countedAt (s.trigUnit 31) t) ∧
      (s.trigUnit 31).opened = some oRec ∧ (t = 0 → oRec.t = t ∧ oRec.reason = 0x10) ∧ (t ≠ 0 → oRec.t ≠ t) := by decide +kernel
theorem wit_TriggerDecisions_early : ((zRing { mergeEnd := some (10 * secU + 1) }).trigUnit 31).mergeEnd = some (10 * secU + 1) ∧ (zRing {}).st < 10 * secU + 1 ∧
    oRec.maxdur ≠ 0 ∧ ({ zArmed (some oRec) with st := 2 * secU - 1 } : State).st < oRec.t + oRec.maxdur * secU ∧ oRec.t + oRec.maxdur * secU ≤ (zArmed (some oRec)).st := by decide +kernel
theorem wit_RecordFree_none : z.reaches 0x11124 ∧ z.recSlot 255 = none := by decide +kernel
/-! ### Witnesses: links, the time interval unit, wire sequences -/

/-- Link `n` up on a lane in UP, with its layer's state. -/
def zLink (n : Nat) (x : UlkSt) : State :=
  { (z.setLane n { st := 5, blk := true, cdr := true, pll := true }).setUlk n { x with up := true } with st := secU, clk := 500000000 }
/-- The arrival of a sound frame. -/
def rxFor (seq : Nat) (g : UlkFrame) : UlkRx := ⟨seq, 0, g.src, frameCrc seq g⟩
/-- A ring frame of kind `k` from hub 5 to hub `d`. -/
def gFrame (k d : Nat) (p : List Byte) : UlkFrame := ⟨k, d, 5, 31, false, 1, p, false, none, none⟩
theorem wit_FramesTaken : ∀ w : List Word, w ∈ [[], [0x50000000]] →
    (zLink 7 {}).hears 7 (rxFor 0 (linkRx 8 ⟨0, 0, 3, 0⟩ w)) (linkRx 8 ⟨0, 0, 3, 0⟩ w) ∧
      (zLink 7 { rxSeq := 65535 }).hears 7 (rxFor 65535 (linkRx 1 ⟨0, 0, 3, 0⟩ w)) (linkRx 1 ⟨0, 0, 3, 0⟩ w) ∧ (zLink 1 {}).hears 1 (rxFor 0 (linkRx 4 ⟨0, 0, 3, 0⟩ w)) (linkRx 4 ⟨0, 0, 3, 0⟩ w) := by decide +kernel
theorem wit_FramesTaken_spur : fld 0x50000000#32 31 28 = 5 ∧ ([0x00000000#32, 0, 0, 0, 0, 7] : List Word).length = 5 + (fld 0 8 0 + 1) * (fld 0 22 16 + 1) := by decide
theorem wit_FramesTaken_ring : fwdRoom (zLink 1 {}) 1 ⟨0, 5, 31, false, 1⟩ ⟨6, 0, 5, 31, false, 1, wsBytes [0, 0], false, none, none⟩ = true ∧ (0 : Nat) = ringAddr (zLink 1 {}) ∧
    isDup (zLink 1 {}) ⟨0, 5, 31, false, 1⟩ = false ∧ rxqRoom (zLink 1 {}) 1 2048 = true ∧ forMe (zLink 1 {}) ⟨255, 5, 31, false, 1⟩ = true := by decide +kernel
theorem wit_FramesTaken_ringFrames : ∀ k ∈ [1, 2, 3, 5, 6, 8], (zLink 1 {}).hears 1 (rxFor 0 (gFrame k 0 [1, 2, 3, 4])) (gFrame k 0 [1, 2, 3, 4]) ∧
    fwdRoom (zLink 1 {}) 1 ⟨9, 5, 31, false, 1⟩ (gFrame k 9 [1, 2, 3, 4]) = true ∧ (zLink 1 {}).hears 1 (rxFor 0 (gFrame k 9 [])) (gFrame k 9 []) := by decide +kernel
theorem wit_FramesTaken_mgmt : (zLink 1 {}).hears 1 (rxFor 0 (gFrame 8 0 (wsBytes [0x10000007, 0x4, 0]))) (gFrame 8 0 (wsBytes [0x10000007, 0x4, 0])) ∧
    (zLink 1 {}).hears 1 (rxFor 0 (gFrame 8 0 (wsBytes [0x20000007, 0x100, 9]))) (gFrame 8 0 (wsBytes [0x20000007, 0x100, 9])) ∧
    (zLink 7 {}).hears 7 (rxFor 0 (linkRx 9 ⟨0, 0, 3, 0⟩ [5])) (linkRx 9 ⟨0, 0, 3, 0⟩ [5]) ∧ (zLink 7 {}).hears 7 (rxFor 0 (linkRx 10 ⟨0, 0, 3, 0⟩ [5])) (linkRx 10 ⟨0, 0, 3, 0⟩ [5]) := by decide +kernel
theorem wit_FramesRefused : ((zLink 0 {}).ulk 0).up = true ∧ laneRxOk (zLink 0 {}) 0 = true ∧ rxFault (rxFor 0 (gFrame 1 0 [])) (gFrame 1 0 [1]) = 1 ∧
    rxFault ⟨0, 2, 5, 0⟩ (gFrame 1 0 []) = 2 ∧ (rxFor 1 (gFrame 1 0 [])).seq % 2 ^ 16 ≠ ((zLink 0 {}).ulk 0).rxSeq := by decide +kernel
theorem wit_FramesRefused_busy : ∀ k ∈ [1, 2, 3], let s := (zLink 0 { rxqWr := 4088 }).setRw (ulkRxqSizeAt 0) 1
    rxqRoom s 0 0 = false ∧ (0 : Nat) = ringAddr s ∧ isDup s ⟨0, 5, 31, false, 1⟩ = false ∧ rxFault (rxFor 0 (gFrame k 0 [])) (gFrame k 0 []) = 0 ∧ (s.ulk 0).up = true ∧ laneRxOk s 0 = true ∧
      (s.ulk 0).rxSeq = 0 := by decide +kernel
theorem wit_FramesRefused_down : (z.ulk 0).up = false ∧ laneRxOk { z with ulks := [(0, { up := true })] } 0 = false := by decide +kernel
theorem wit_LinkRegisters_tap : (zLink 7 {}).reaches ((0x30 + 7) * 0x1000 + 0x134) ∧ ((zLink 7 {}).ulk 7).up = true := by decide +kernel
theorem wit_LinkRegisters_mailbox : z.reaches 0x30230 ∧ z.ring.mbBusy = false ∧ fld 0x17800000#32 29 28 = 1 ∧ bit 0x17800000#32 23 = true ∧ fld 0x17800000#32 26 24 = 7 ∧
    fld 0x20000000#32 29 28 = 2 ∧ bit 0x20000000#32 23 = false := by decide +kernel
theorem wit_LinkRegisters_enable : (zLink 7 {}).reaches ((0x30 + 7) * 0x1000 + 0x140 + 4 * 3) ∧ satEn_EN (zLink 7 {}) 7 3 ≠ (0x80000000#32).toNat ∧ ((zLink 7 {}).ulk 7).schedT < (zLink 7 {}).st + 10 * msU := by
  decide +kernel
theorem wit_LinkRegisters_queue : (zLink 7 { busySent := true }).reaches ((0x30 + 7) * 0x1000 + 0x12C) ∧ ((zLink 7 { busySent := true }).ulk 7).busySent = true ∧ ((zLink 7 {}).ulk 7).busySent = false := by
  decide +kernel
theorem wit_LinkRegisters_idle : (z.ulk 7).up = false ∧ z.reaches 0x30230 ∧ fld 0x30000000#32 29 28 = 3 ∧ fld 0x00000000#32 29 28 = 0 ∧
    bit 0x10800000#32 23 = true ∧ fld 0x10800000#32 26 24 < 2 ∧ ({ z with ring := { z.ring with mbBusy := true } } : State).ring.mbBusy = true ∧
    satEn_EN (zLink 7 {}) 7 3 = (0#32).toNat := by decide +kernel
theorem wit_LinkRegisters_refused : (let s := zLink 7 { busySent := true, refused := some (gFrame 1 0 [1]) }
      (s.ulk 7).refused = some (gFrame 1 0 [1]) ∧ (s.ulk 7).busySent = true ∧ frameRoom (s.setRw (ulkRxqRdAt 7) (0 &&& 0xFFFFF#32)) 7 (gFrame 1 0 [1]) = true) ∧
    (let s := (zLink 7 { busySent := true, rxqWr := 4088, refused := some (gFrame 1 0 [1]) }).setRw (ulkRxqSizeAt 7) 1
     (s.ulk 7).refused = some (gFrame 1 0 [1]) ∧ frameRoom (s.setRw (ulkRxqRdAt 7) (0 &&& 0xFFFFF#32)) 7 (gFrame 1 0 [1]) = false) := by decide +kernel
/-- A frame of the link. -/
def zFrame (t : Nat) : UlkFrame := ⟨t, 0, 0, 31, false, 0, [], true, none, none⟩
theorem wit_LinkControl_reset : ulkCfg_EN ((zLink 7 {}).setRw (ulkCfgAt 7) 1) 7 ≠ 0 ∧ laneRxOk (zLink 7 {}) 7 = true ∧ ((zLink 7 {}).ulk 7).unacked = [] ∧
    ((zLink 7 { unacked := [(0, zFrame 1)] }).ulk 7).unacked ≠ [] := by decide +kernel
theorem wit_LinkControl_timers :
    ((zLink 7 { unacked := [(0, zFrame 3)] }).ulk 7).farBusy = false ∧ ((zLink 7 { unacked := [(0, zFrame 3)] }).ulk 7).lastAdv + ackTmoNs (zLink 7 {}) 7 ≤ (zLink 7 {}).clk ∧
      ((zLink 7 { replay := 1 }).ulk 7).replay ≠ 0 ∧ ((zLink 7 { replay := 1 }).ulk 7).replayAt + 40000 ≤ (zLink 7 {}).clk ∧
      ((zLink 7 { unacked := [(0, zFrame 3)] }).ulk 7).replay = 0 ∧ ((zLink 7 { unacked := [(0, zFrame 3)] }).ulk 7).unacked.any (fun y => decide (y.2.ftype = 1 ∨ y.2.ftype = 3)) = true ∧
      max ((zLink 7 {}).ulk 7).lastAct ((zLink 7 {}).ulk 7).lastAdv + upperNs (zLink 7 {}) 7 ≤ (zLink 7 {}).clk := by decide +kernel
theorem wit_LinkControl_wrap : ((zLink 1 { wrapped := true }).ulk 1).wrapped = true ∧ ((zLink 1 { wrapped := true }).ulk 1).hold = none ∧
    ((zLink 1 {}).ulk 1).upSince + ringTime_UNWRAP_MS (zLink 1 {}) 0 * 1000000 ≤ ({ zLink 1 {} with clk := 100000000000 } : State).clk ∧
    ((zLink 1 { wrapped := true, hold := some 500000000 }).ulk 1).hold = some 500000000 ∧ 500000000 ≤ (zLink 1 {}).clk := by decide +kernel
/-- A hub whose mailbox waits for an answer over a spur or the ring. -/
def zMb (sp : Option Nat) : State := { zLink 7 { adv := some ⟨0, 0, 0, 0, 0⟩, sat := true } with ring := { z.ring with mbBusy := true, mbSpur := sp } }
theorem wit_LinkControl_answer : (zMb (some 7)).ring.mbSpur = some 7 ∧ ((zMb (some 7)).ulk 7).replay = 0 ∧
    max (zMb (some 7)).ring.mbAt ((zMb (some 7)).ulk 7).lastAct + upperNs (zMb (some 7)) 7 ≤ (zMb (some 7)).clk ∧
    ((zMb none).ulk (mbTrunk (zMb none))).replay = 0 ∧ max (zMb none).ring.mbAt ((zMb none).ulk (mbTrunk (zMb none))).lastAct + upperNs (zMb none) (mbTrunk (zMb none)) ≤ (zMb none).clk := by decide +kernel
theorem wit_LinkControl_advert : ((zMb none).ulk 7).adv = some ⟨0, 0, 0, 0, 0⟩ ∧ 0 + 3 * timeIntNs (zMb none) < (zMb none).clk ∧ ((zMb none).ulk 7).timeAt + timeIntNs (zMb none) ≤ (zMb none).clk := by
  decide +kernel
theorem wit_LinkControl_time : mayStart (zLink 7 {}) 7 (linkFrame 4 (wsBytes (timeWords (crownUpdate (zLink 7 {})) 7)) (zLink 7 {})) = true := by decide +kernel
theorem wit_LinkControl_silence :
    let y : SatChan := ⟨767, 256, 0, 0, 0, 0, 0, 0, 0, 1, 0, false⟩
    let s := { (zMb none).setRw (satEnAt 7 3) 0x80000000 with sats := [y] }
    s.sats.find? (fun y => decide (y.chan = 128 * (7 - 2) + 127)) = some y ∧ (s.ulk 7).sat = true ∧ satOn s 7 127 = true ∧ y.lost = false ∧
      max y.lastRx (s.ulk 7).lastAct + y.maxlat * 1000 + upperNs s 7 ≤ s.clk := by decide +kernel
theorem wit_LinkControl_down : laneRxOk z 7 = false ∧ ((zLink 7 {}).ulk 6).up = false ∧ laneRxOk (z.setLane 7 { st := 5, blk := true, cdr := true, pll := true }) 7 = true ∧
    ulkCfg_EN (z.setRw (ulkCfgAt 7) 1) 7 ≠ 0 ∧ (z.ulk 7).up = false ∧ ulkCfg_EN (z.setRw (ulkCfgAt 7) 0) 7 = 0 := by decide +kernel
theorem wit_LinkControl_early : ((zLink 7 {}).ulk 7).unacked = [] ∧ ((zLink 7 {}).ulk 7).replay = 0 ∧ ((zLink 7 {}).ulk 7).wrapped = false ∧ (zMb none).ring.mbSpur ≠ some 7 ∧
    ((zLink 7 {}).ulk 7).descAt = none ∧ ((zLink 7 { descAt := some 0 }).ulk 7).descAt = some 0 ∧ max 0 ((zLink 7 {}).ulk 7).lastAct + upperNs (zLink 7 {}) 7 ≤ (zLink 7 {}).clk ∧
    ((zLink 7 {}).ulk 7).adv = none ∧ z.sats.find? (fun y => decide (y.chan = 128 * (7 - 2) + 5)) = none ∧ z.ring.mbBusy = false ∧
    mayStart z 7 (linkFrame 4 (wsBytes (timeWords (crownUpdate z) 7)) z) = false := by decide +kernel
theorem wit_LinkControl_spare :
    let y : SatChan := ⟨767, 256, 0, 0, 0, 0, 0, 0, 0, 1, 500000000, false⟩
    let s := { (zMb none).setRw (satEnAt 7 3) 0x80000000 with sats := [y] }
    s.sats.find? (fun y => decide (y.chan = 128 * (7 - 2) + 127)) = some y ∧ s.clk < max y.lastRx (s.ulk 7).lastAct + y.maxlat * 1000 + upperNs s 7 := by decide +kernel
theorem wit_TiuCommands_edge : tiIn_SLOPE z 7 = 0 ∧ tiIn_SLOPE (z.setRw (tiInAt 7) 0x1000) 7 = 1 ∧ tiIn_SLOPE (z.setRw (tiInAt 7) 0x2000) 7 = 2 := by decide +kernel
/-- TIU channel 15 in mode 2 with a waiting start. -/
def zTiu (cfg tmo : Word) (x : TiuCh) : State :=
  { (((z.setRw (tiCfgAt 15) cfg).setRw (tiTmoAt 15) tmo).setTch 15 x) with st := 2000000 * secU, clk := 10 }
theorem wit_TiuCommands_start : tiMode (zTiu 2 1 {}) 15 = 2 ∧ tiSigned (zTiu 2 1 {}) 15 = false ∧ ((zTiu 2 1 { start := some 0 }).tch 15).start = some 0 ∧
    tiTmo_TMO (zTiu 2 1 {}) 15 ≠ 0 ∧ (0 + tiTmo (zTiu 2 1 {}) 15) * tsU ≤ (zTiu 2 1 {}).st ∧ tiTmo_TMO (zTiu 2 0 {}) 15 = 0 ∧ (0 + 2 ^ 47) * tsU ≤ (zTiu 2 0 {}).st := by decide +kernel
theorem wit_TiuCommands_result : (zTiu 2 0 { queue := [[1, 2, 3, 4]] }).reaches (0xB210 + 0x40 * 15) ∧ ((zTiu 2 0 { queue := [[1, 2, 3, 4]] }).tch 15).queue = [1, 2, 3, 4] :: [] ∧
    ((zTiu 2 0 {}).tch 15).queue = [] ∧ z.reaches (tiCfgAt 15) := by decide +kernel
theorem wit_TiuCommands_pps : z.tiu.ref10m = false ∧ ({ z with tiu := { z.tiu with ref10m := true, pps := true }, clk := 1200000000 } : State).tiu.pps = true ∧
    z.tiu.ppsClk + 1200000000 ≤ (zAt 0 1200000000).clk := by decide
/-- Channel 15's wire sequence on slice 63 in phase `p`. -/
def zSeq (p : Nat) (g : Bool) (xs : List Nat) : State := { zSl.setTch 15 { vw := some ⟨63, p, g, 0, xs⟩ } with st := 2000000 * secU, clk := 10 }
theorem wit_WireSequence_drive : ((zSeq 0 true []).tch 15).vw = some ⟨63, 0, true, 0, []⟩ ∧ ((zSeq 0 true []).slice 63).exc.lockout = false ∧ (zSeq 0 true []).sliceOff 63 = false ∧
    0 + vwLeave_WAIT (zSeq 0 false []) 15 * msU ≤ (zSeq 0 false []).st ∧ 0 + vwDriveLen ((zSeq 1 true []).slice 63) ≤ (zSeq 1 true []).st := by decide +kernel
theorem wit_WireSequence_listen : 0 + vwCfg_QUIET (zSeq 2 true []) 15 * 100 * usU ≤ (zSeq 2 true []).st ∧ 0 + max 1 (min 1000 (vwCfg_WIN (zSeq 3 true []) 15)) * msU ≤ (zSeq 3 true []).st ∧
    ∀ k ∈ (zSeq 4 true []).ctxKeys, ¬ (dKIND ((zSeq 4 true []).ctx k).desc = 3 ∧ dSOURCE ((zSeq 4 true []).ctx k).desc = 15) := by decide +kernel

theorem wit_TiuCommands_sources : ¬ (tiIn_SLOPE z 7 = 2 ∨ (tiIn_SLOPE z 7 = 1 ∧ false = false) ∨ ((tiIn_SLOPE z 7 = 0 ∨ tiIn_SLOPE z 7 = 3) ∧ false = true)) ∧
    (11 : Fin 128).val < 12 ∧ ¬ ((12 : Fin 128).val < 12 ∨ (0x14 ≤ (12 : Fin 128).val ∧ (12 : Fin 128).val < 0x30)) ∧ (0x14 ≤ (0x14 : Fin 128).val ∧ (0x2F : Fin 128).val < 0x30) ∧
    ¬ (0x14 ≤ (0x13 : Fin 128).val) := by decide +kernel
theorem wit_TiuCommands_early : tiMode z 15 ≠ 2 ∧ ((zTiu 2 1 { start := some (2 ^ 60) }).tch 15).start = some (2 ^ 60) ∧ (zTiu 2 1 {}).st < (2 ^ 60 + tiTmo (zTiu 2 1 {}) 15) * tsU ∧
    (zTiu 2 0 {}).st < (2 ^ 60 + 2 ^ 47) * tsU ∧ tiSigned (zTiu 2 1 {}) 15 = false := by decide +kernel
theorem wit_TiuCommands_window : ∀ b ∈ [[], [1000 + 2], [1000 - 3]], let s := zTiu 10 1 { starts := [1000], stops := b }
    tiMode s 15 = 2 ∧ tiSigned s 15 = true ∧ (s.tch 15).starts = 1000 :: [] ∧ (1000 + tiTmo s 15) * tsU < s.st ∧ nearStop 1000 (tiTmo s 15) (s.tch 15).stops = b.head? ∧
      (b = [1000 + 2] → tsDist 1000 (1000 + 2) ≤ 2) ∧ (b = [1000 - 3] → 2 < tsDist 1000 (1000 - 3)) := by decide +kernel
theorem wit_TiuCommands_refs : ({ z with tiu := { z.tiu with ref10m := true } } : State).tiu.ref10m = true ∧ z.tiu.pps = false ∧
    (let s : State := { zAt 0 1200000000 with tiu := { z.tiu with pps := true } }; s.tiu.pps = true ∧ s.tiu.ppsClk + 1200000000 ≤ s.clk) := by decide +kernel
theorem wit_WireSequence_failed :
    let l := (zSeq 0 true []).setSlice 63 { (zSeq 0 true []).slice 63 with exc := { lockout := true } }
    let o := fun p => ((zSeq p true []).setCal 63 { upOff := true })
    (l.slice 63).exc.lockout = true ∧ (l.tch 15).vw = some ⟨63, 0, true, 0, []⟩ ∧
      (∀ p ∈ [0, 1, 2, 3], (o p).sliceOff 63 = true ∧ ((o p).slice 63).exc.lockout = false ∧ ((o p).tch 15).vw = some ⟨63, p, true, 0, []⟩) ∧ (z.tch 15).vw = none := by decide +kernel
theorem wit_WireSequence_early : ∀ p ∈ [0, 1, 2, 3], let s : State := { zSeq p false [] with st := 0 }
    (s.tch 15).vw = some ⟨63, p, false, 0, []⟩ ∧ (p = 0 → s.st < 0 + vwLeave_WAIT s 15 * msU) ∧ (p = 1 → s.st < 0 + vwDriveLen (s.slice 63)) ∧
      (p = 2 → s.st < 0 + vwCfg_QUIET s 15 * 100 * usU) ∧ (p = 3 → ¬ (0 + max 1 (min 1000 (vwCfg_WIN s 15)) * msU ≤ s.st ∨ 4096 ≤ ([] : List Nat).length)) := by decide +kernel
theorem wit_WireSequence_fit : ((zSeq 4 true [900, 700, 500, 300]).tch 15).vw = some ⟨63, 4, true, 0, [900, 700, 500, 300]⟩ ∧ 4096 ≤ (List.replicate 4096 5).length := by decide +kernel
/-! ### Witnesses: loops, compression, streams, the store -/

/-- Slice 63 on in FIR mode, tapped by loop 15. -/
def zLoop (x : LoopSt) : State :=
  { ((zSl.setLoop 15 { x with w0 := 0x0010013F }).setTblW 0x52F00 0x0010013F) with st := secU, clk := 500000000 }
theorem wit_LoopRequests_bar : z.reaches (0xF100 + 0x40 * 15) ∧ loopBar z 15 3 = some 2 ∧ loopBar z 15 4 = none ∧ (z.loop 15).mode = 0 := by decide +kernel
theorem wit_LoopRequests_free : (zLoop {}).reaches (0xF100 + 0x40 * 15) ∧ loopBar (zLoop {}) 15 3 = none ∧ ((zLoop { mode := 3 }).loop 15).mode ≠ 0 ∧
    loopBar (zLoop { mode := 3 }) 15 4 = none ∧ loopBar (zLoop { mode := 3 }) 15 1 = none := by decide +kernel
theorem wit_LoopCycles : ∀ m ∈ [1, 2, 3, 4], ((zLoop { mode := m, ready := [⟨[⟨0, 0, false, false, false, 0⟩], []⟩] }).loop 15).ready = ⟨[⟨0, 0, false, false, false, 0⟩], []⟩ :: [] ∧
    ((zLoop { mode := m }).loop 15).req = none ∧ ((zLoop { mode := m }).loop 15).tapHold = false ∧ fdMin (zLoop { mode := m }) 15 ≤ fdMax (zLoop { mode := m }) 15 := by decide +kernel
theorem wit_LoopCycles_lost : ((zLoop { mode := 3 }).loop 15).mode ≠ 0 ∧ ((zLoop { mode := 3 }).loop 15).safe = false ∧
    ((zLoop { mode := 3 }).loop 15).lastTap + 4 * (zLoop { mode := 3 }).sliceDec (lpSLICE (lw0 (zLoop { mode := 3 }) 15)) * 15625 / 32 ≤ (zLoop { mode := 3 }).clk := by decide +kernel
theorem wit_LoopCycles_leave : (⟨1, 15, 5, 0, some 1000, false⟩ : BgtGrant) ∈ ({ zLoop {} with bgt := { z.bgt with grants := [⟨1, 15, 5, 0, some 1000, false⟩] } } : State).bgt.grants ∧
    0 + 1000 * msU ≤ (zLoop {}).st := by decide
theorem wit_Compression_cfg : z.reaches 0x12104 ∧ 0 = cmpSel_STREAM z ∧ bit 0x80000000#32 31 = true ∧ (z.cmp 0).cfg.en = false ∧ (z.members 0).length ≤ 4 ∧ bit 0x7FFFFFFF#32 31 = false := by decide +kernel
/-- Five enabled contexts that deliver to stream 0. -/
theorem wit_Compression_members :
    let s := [1, 2, 3, 4, 5].foldl (fun a c => State.setCtx a c { a.ctx c with desc := ((a.ctx c).desc.set 0 1).set 8 0x80000000 }) z
    4 < (s.members 0).length ∧ s.reaches 0x12104 := by decide +kernel
/-- Stream 127's compressor. -/
def zCmp (x : CmpSt) : State := { z.setCmp 127 x with clk := 5000000 }
/-- A block of 64 with one whole index. -/
def zBlk : CmpBlk := ⟨64, [1], 0, 0, [0], 0, false, true, false, [[5]], 0, [[(0, 0)]]⟩
theorem wit_Compression_flush : (zCmp { blk := some zBlk }).reaches 0x12130 ∧ ((zCmp { blk := some zBlk }).cmp 127).blk = some zBlk ∧ ((zCmp { blk := some zBlk }).cmp 127).ready = false ∧
    cmpWhole zBlk ≠ 0 ∧ ((zCmp {}).cmp 127).blk = none ∧ ((zCmp {}).cmp 127).waiting = false ∧ ((zCmp { waiting := true }).cmp 127).waiting = true ∧
    ((zCmp { suspended := true }).cmp 127).suspended = true ∧ ((zCmp {}).cmp 127).suspended = false := by decide +kernel
theorem wit_Compression_age : ((zCmp { blk := some zBlk, cfg := { flushMs := 5 } }).cmp 127).cfg.flushMs ≠ 0 ∧ zBlk.born + 5 * 1000000 ≤ (zCmp {}).clk := by decide +kernel
theorem wit_Compression_broken : z.cmpc.window.getD 15 0 ≠ crcWords (z.cmpc.window.take 15) ∨ fld (z.cmpc.window.getD 0 0) 31 28 ≠ 1 := by decide +kernel
/-- A window whose CRC holds, for a stream of one member. -/
theorem wit_Compression_window :
    let w : List Word := 0x10000000 :: List.replicate 14 0
    let s := { (zCmp { suspended := true }).setCtx 1 { z.ctx 1 with desc := ((z.ctx 1).desc.set 0 1).set 8 0x807F0000 } with cmpc := { z.cmpc with window := w ++ [crcWords w] } }
    s.cmpc.window.getD 15 0 = crcWords (s.cmpc.window.take 15) ∧ fld (s.cmpc.window.getD 0 0) 31 28 = 1 ∧ fld (s.cmpc.window.getD 0 0) 25 24 + 1 = (s.members 127).length := by decide +kernel
theorem wit_Compression_room : ((zCmp { inq := [⟨1, 0, 0, 0, 0, false⟩] }).cmp 127).inq = ⟨1, 0, 0, 0, 0, false⟩ :: [] ∧ ([] : List Nat) = membersAt ((zCmp {}).str 127) 0 ∧
    strRoom (zCmp {}) 127 < 32 + 4 * max 64 (min 4096 ((zCmp {}).cmp 127).cfg.blk) * 0 ∧
    32 + 4 * max 64 (min 4096 ((zCmp {}).cmp 127).cfg.blk) * 0 ≤ strRoom ((zCmp {}).setStr 127 { region := some (0, 64) }) 127 ∧ ((zCmp {}).cmp 127).flushWait = none ∧
    ((zCmp {}).cmp 127).lostK = [] ∧ ((zCmp { blk := some zBlk, ready := true }).cmp 127).ready = true := by decide +kernel
/-- A partitioned store, whose streams are idle or run. -/
def zStore (x : StrSt) : State := { z.setStr 127 x with store := { z.store with applied := true, live := 8192 }, dram := { z.dram with st := 2, cap := 16384 }, clk := 1000000000 }
/-- A closed packet of one word. -/
def zPkt : Pkt := ⟨0, 36, 0, 0, 0, 0, 1, 1, 0, 0, 0, none, false, false, false, []⟩
theorem wit_StreamControl_start : (zStore {}).reaches 0x13120 ∧ strRej (zStore {}) 127 = none ∧ strRej z 127 = some 5 := by decide +kernel
theorem wit_StreamControl_stop : ((zStore { run := true }).str 127).run = true ∧ ((zStore { run := true }).str 127).stopAt = none ∧ ((zStore {}).str 127).run = false := by decide +kernel
theorem wit_StreamControl_read : ((zStore { pkts := [zPkt], reading := some (0, 3) }).str 127).reading = some (0, 3) ∧ ((zStore {}).str 127).reading = none ∧
    (∃ p ∈ ((zStore { pkts := [zPkt] }).str 127).pkts, queRewindLo_IDX (zStore {}) + 2 ^ 32 * queRewindHi_IDX (zStore {}) ≤ p.last) ∧
    ∀ p ∈ ((zStore { pkts := [zPkt] }).str 127).pkts, p.last < queRewindLo_IDX ((zStore {}).setRw queRewindLoAt 1) := by decide +kernel
theorem wit_StreamControl_age :
    let o : OpenPkt := ⟨0, 0, 0, 1, 0, [1], 0, [5], [], 0, 0, 0⟩
    ((zStore { openPkt := some o }).str 127).openPkt = some o ∧ o.fmt ≤ 3 ∧ ((zStore {}).str 127).desc.ageMs ≠ 0 ∧ o.opened + ((zStore {}).str 127).desc.ageMs * 1000000 ≤ (zStore {}).clk := by
  decide +kernel
/-- Stream 127 selected for QUE_RD, on consumer 3. -/
def zRead : State := (zStore { pkts := [zPkt], reading := some (0, 0), region := some (0, 64), desc := { consumer := 3 } }).setRw queSelAt 127
theorem wit_StoreAccess_head : zRead.reaches 0x13118 ∧ 127 = queSel_STREAM zRead ∧ (zRead.str 127).desc.consumer = 3 ∧ (zRead.str 127).reading = some (0, 0) ∧
    (zRead.str 127).pkts.find? (fun p => decide (p.pseq = 0)) = some zPkt ∧ (deliverPkt zRead 127 zPkt).isSome ∧ (z.str (queSel_STREAM z)).desc.consumer ≠ 3 := by decide +kernel
theorem wit_StoreAccess_part : (zStore {}).reaches 0x1410C ∧ recKeys (zStore {}) = [] ∧ (∀ x ∈ (zStore {}).strs, x.2.run = false ∧ x.2.region = none) ∧
    storeLivePages_PAGES (zStore {}) + storeRecPages_PAGES (zStore {}) + storeLdgPages_PAGES (zStore {}) ≤ (zStore {}).dram.cap ∧
    (∃ x ∈ (zStore { run := true }).strs, x.2.run = true) := by decide +kernel
theorem wit_StoreAccess_word : (zStore {}).reaches 0x14128 ∧ 0 = storeRdAddrLo_ADDR (zStore {}) * 4 + storeRdAddrHi_ADDR (zStore {}) * 2 ^ 32 ∧ 0 < (zStore {}).dram.cap * 4096 ∧
    memOpen (zStore {}) = true ∧ z.dram.cap * 4096 ≤ 0 := by decide +kernel
theorem wit_StoreAccess_record : (z.setRec 255 (some ⟨false, true, 31, 0, [(0, 1)], 64⟩)).reaches 0x1412C ∧ z.store.xfer = none := by decide +kernel
theorem wit_StoreAccess_ledger : ((zStore { run := true, nextSec := some 0, memSets := [(0, [])] }).str 127).nextSec = some 0 ∧ ((zStore { run := true, nextSec := some 0 }).str 127).run = true ∧
    secondDue (zStore { run := true, memSets := [(0, [3])], memSec := [(3, 1)] }) 127 0 = true := by decide +kernel

theorem wit_LoopRequests_off : loopBar (zLoop {}) 15 0 = none ∧ loopBar (zLoop {}) 15 3 = none ∧ (loopBar z 15 3).isSome ∧ loopBar (zLoop {}) 15 2 = none ∧ ((zLoop {}).loop 15).mode = 0 := by decide +kernel
/-- Loop 15 with a whole group of one tap value, and a request that waits. -/
def zGroup (m : Nat) (r : Option Nat) (st : Bool) : State := zLoop { mode := m, req := r, ready := [⟨[⟨0, 0, false, false, st, secU⟩], []⟩] }
theorem wit_LoopCycles_due : ∀ m ∈ [0, 1, 2, 3, 4], loopDue ((zGroup 3 (some m) false).loop 15) secU false = true ∧ loopBar (zGroup 3 (some m) false) 15 m = none ∧
    (m ≠ 0 ∧ m ≠ 4 → loopBar (({ zGroup 0 (some m) false with pwr := { z.pwr with state := 2 } } : State)) 15 m = some 6) ∧ ((zGroup 3 (some m) false).loop 15).req = some m := by decide +kernel
theorem wit_LoopCycles_stale : ∀ m ∈ [0, 1, 2, 3, 4], loopDue ((zGroup m none true).loop 15) secU true = false ∧ ((zGroup m none true).loop 15).tapHold = false ∧
    ((zGroup m none true).loop 15).mode = m ∧ (z.loop 15).ready = [] ∧ fdMin (zGroup m none false) 15 ≤ fdMax (zGroup m none false) 15 := by decide +kernel
theorem wit_LoopCycles_kept : (z.loop 15).mode = 0 ∧ ((zLoop { mode := 4, safe := true }).loop 15).safe = true ∧ (zLoop { lastTap := 500000000 }).clk <
    500000000 + 4 * (zLoop {}).sliceDec (lpSLICE (lw0 (zLoop {}) 15)) * 15625 / 32 ∧ (zLoop {}).st < 0 + 1001 * msU ∧ z.bgt.grants = [] := by decide +kernel
/-- Two contexts of different grids that deliver to stream 0. -/
theorem wit_Compression_grids :
    let s := [1, 2].foldl (fun a c => State.setCtx a c { a.ctx c with desc := ((a.ctx c).desc.set 0 (word (1 + 256 * c))).set 8 0x80000000 }) z
    (∃ c ∈ s.members 0, dGRID (s.ctx c).desc ≠ dGRID (s.ctx ((s.members 0).headD 0)).desc) ∧ (s.members 0).length ≤ 4 ∧ s.reaches 0x12104 ∧ 0 = cmpSel_STREAM s := by decide +kernel
theorem wit_Compression_still : bit 0x00400005#32 31 = (z.cmp 0).cfg.en ∧ cmpWhole { zBlk with words := [[]] } = 0 ∧ ((zCmp { blk := some zBlk, ready := true }).cmp 127).ready = true ∧
    ((zCmp { blk := some zBlk }).cmp 127).cfg.flushMs = 0 ∧ (zCmp {}).clk < zBlk.born + 6 * 1000000 := by decide +kernel
theorem wit_Compression_idle : ((zCmp {}).cmp 127).inq = [] ∧ ((zCmp { blk := some zBlk }).cmp 127).blk.isSome ∧ ((zCmp { suspended := true }).cmp 127).suspended = true ∧
    ((zCmp {}).cmp 127).blk = none ∧ ((zCmp { blk := some zBlk }).cmp 127).ready = false := by decide +kernel
theorem wit_StreamControl_idle : ((zStore { run := true, stopAt := some 5 }).str 127).stopAt.isSome ∧ ((zStore {}).str 127).openPkt = none ∧ ((zStore { desc := { ageMs := 0 } }).str 127).desc.ageMs = 0 ∧
    (3 < ({ (⟨0, 0, 0, 1, 0, [1], 0, [5], [], 0, 0, 0⟩ : OpenPkt) with fmt := 4 }).fmt) ∧ (zStore {}).clk < 1000000000 + ((zStore {}).str 127).desc.ageMs * 1000000 := by decide +kernel
theorem wit_StoreAccess_next : ((beginPkt 127 1 (zRead.setStr 127 { zRead.str 127 with reading := none })).str 127).reading = some (0, 0) ∧
    ((beginPkt 127 0 (zRead.setStr 127 { zRead.str 127 with reading := none, pkts := [] })).str 127).reading = none := by decide +kernel
theorem wit_StoreAccess_bad : (0 : Nat) / 4 * 4 ∈ ({ zStore {} with dram := { (zStore {}).dram with badU := [0] } } : State).dram.badU ∧ (0 : Nat) / 4 * 4 ∉ (zStore {}).dram.badU ∧
    memOpen { zStore {} with dram := { (zStore {}).dram with st := 1 } } = false ∧ (zStore {}).dram.cap < storeLivePages_PAGES ((zStore {}).setRw storeLivePagesAt 16385) ∧
    recKeys ((zStore {}).setRec 3 (some ⟨false, true, 31, 0, [(0, 1)], 64⟩)) ≠ [] ∧ z.recSlot 255 = none := by decide +kernel
theorem wit_StoreAccess_ended : ((zStore { nextSec := some 2, stopAt := some 7 }).str 127).nextSec = some 2 ∧ ((zStore { nextSec := some 2, stopAt := some 7 }).str 127).run = false ∧ secOf 7 < 2 ∧
    secondDone (zStore { run := true, memSets := [(0, [3])], memSec := [(3, 1)] }) 127 0 = true ∧ secondDue (zStore { run := true, memSets := [(0, [3])] }) 127 0 = false ∧
    ((zStore {}).str 127).nextSec = none := by decide +kernel
/-! ### Witnesses: memory, the block mover, lanes, Ethernet -/

/-- External memory in a state, beside its reset registers. -/
def zDram (d : DramSt) : State := { z with dram := d, st := secU, clk := 1000000000 }
theorem wit_DramTraining_refused : (zDram { selfref := true }).reaches 0x15104 ∧ (zDram { selfref := true }).dram.selfref = true ∧ (zDram {}).dram.selfref = false ∧
    (∃ x ∈ ((zDram {}).setStr 3 { run := true }).strs, x.2.run = true ∨ x.2.region.isSome) ∧ drBusy (zDram {}) (dmaHolds (zDram {}) 18) = false ∧ drCfg_DENSITY (zDram {}) ≠ 3 := by decide +kernel
theorem wit_DramTraining_mode : modeGood ((zDram {}).setRw (drModeAt 0) 0) = false ∨ modeGood (zDram {}) = false := by decide +kernel
theorem wit_DramTraining_retry : (zDram { retryAt := some 1000000000 }).dram.retryAt = some 1000000000 ∧ 1000000000 ≤ (zDram {}).clk := by decide
/-- A training that finds every window `w` long. -/
def zFound (w : Nat) : DrFound := ⟨List.replicate 10 (0, w), List.replicate 10 (0, w), true, true, 0⟩
theorem wit_DramTraining_done : (zDram { st := 1 }).dram.st = 1 ∧ 0 + 40 * msU ≤ (zDram {}).st ∧ rankPass (zDram { st := 1 }) (zFound 200) 0 = true ∧
    rankPass (zDram { st := 1 }) (zFound 0) 0 = false ∧ rankPass (zDram { st := 1 }) { zFound 200 with pat1 := false } 1 = false := by decide +kernel
theorem wit_DramUpkeep : (zDram { st := 2 }).reaches 0x15104 ∧ memOpen (zDram { st := 2 }) = true ∧ (zDram { st := 2 }).dram.panic = false ∧ (zDram { st := 2, trackDue := true }).dram.trackDue = true ∧
    (zDram { st := 2 }).dram.lastZq + drTrain_ZQ_MS (zDram {}) * 1000000 ≤ (zDram {}).clk ∧ drScrub_SCRUB_US ((zDram {}).setRw drScrubAt 1) ≠ 0 ∧ (zDram { st := 2 }).dram.wait = [] := by decide +kernel
theorem wit_DramUpkeep_refresh : ∀ n ∈ [0, 7, 8], (zDram { st := 2, panic := true, post1 := n }).dram.panic = true ∧ (zDram { st := 2, panic := true, post1 := n }).dram.post1 ≤ 8 := by decide
theorem wit_DramUpkeep_sr : ((zDram { st := 2 }).setDom 18 { toSr := true }).dom 18 = { toSr := true } ∧ memOpen ((zDram { st := 2 }).setDom 18 { toSr := true }) = true ∧
    srExitWanted ((zDram { st := 2, selfref := true }).setDom 18 { waking := some 0 }) = true ∧ (zDram { st := 2, selfref := true }).pwr.state ≠ 3 := by decide +kernel
theorem wit_DramRequests : memOpen (zDram { st := 2 }) = true ∧ (zDram { st := 2 }).dram.wq.length < 32 ∧ (∀ x ∈ beats 0x3FFFFFFE0, x ∉ (zDram { st := 2 }).dram.badU ∧ x ∉ (zDram { st := 2 }).dram.badC) ∧
    memOpen (zDram { st := 3 }) = false ∧ memOpen (zDram {}) = false := by decide +kernel
/-- Channel 15 of the block mover, from host memory to SRAM. -/
def zDma (x : DmaCh) : State := { ((z.setDma 15 x).setRw (dmaCtlAt 15) (z.rw (dmaCtlAt 15) ||| 0x00002000#32)) with clk := 1000000000, pcie := { z.pcie with up := true, bme := true } }
theorem wit_DmaCommands_start : z.reaches (dmaCtlAt 15) ∧ (dmaRej z 15 = none ∧ dmaCount_COUNT z 15 = 0) ∧ (dmaRej (z.setDma 15 { st := 1 }) 15 = some 1) ∧
    dmaRej (z.setRw (dmaCountAt 15) 64) 15 = none ∧ dmaCount_COUNT (z.setRw (dmaCountAt 15) 64) 15 ≠ 0 := by decide +kernel
theorem wit_DmaCommands_states : ((z.setDma 15 { st := 1 }).dmaCh 15).fin = none ∧ dmaIdle ((z.setDma 15 { st := 1 }).dmaCh 15) = true ∧
    dmaIdle ((z.setDma 15 { st := 1, rd := some ⟨0, 1, 0, 0⟩ }).dmaCh 15) = false ∧ dmaIdle { (z.setDma 15 { st := 1, rd := some ⟨0, 1, 0, 0⟩ }).dmaCh 15 with rd := none } = true ∧
    ((z.setDma 15 { st := 2 }).dmaCh 15).causeP = false ∧ (z.setDma 15 { st := 2 }).reaches (dmaCtlAt 15) := by decide +kernel
theorem wit_DmaTransfers_turn : dmaTurn ((z.setDma 15 { st := 1 }).setRw (dmaCountAt 15) 64) = some 15 ∧ dmaTurn z ≠ some 15 := by decide +kernel
theorem wit_DmaTransfers_read :
    let s := (zDma { st := 1, rd := some ⟨0, 32, 0, 0⟩ }).setRw (dmaCtlAt 15) 0x2000
    (s.dmaCh 15).rd = some ⟨0, 32, 0, 0⟩ ∧ (s.dmaCh 15).st = 1 ∧ (s.dmaCh 15).out = [] ∧ (s.dmaCh 15).fin = none ∧ dmaCtl_SRC_SPACE s 15 = 2 ∧
      max 1 (dmaTmo_US s) * 1000 ≤ 1000000000 ∧ 0 + 1000000000 ≤ s.clk := by decide +kernel
theorem wit_DmaTransfers_ack :
    let s := (z.setDma 15 { st := 1, out := [⟨0x3FFFE0, List.replicate 32 7⟩] }).setRw (dmaCountAt 15) 32
    (s.dmaCh 15).out = ⟨0x3FFFE0, List.replicate 32 7⟩ :: [] ∧ dmaCtl_DST_SPACE s 15 = 0 ∧ 0x3FFFE0 + 32 ≤ 0x400000 ∧ (s.dmaCh 15).fin = none ∧ (s.dmaCh 15).desc = false ∧
      32 ≤ dmaCount_COUNT s 15 := by decide +kernel
theorem wit_DmaTransfers_power :
    let s := { (z.setDma 15 { st := 1 }).setDom 17 { waiting := some (0, 2) } with dma := { (z.setDma 15 { st := 1 }).dma with reqs := [⟨17, 0, false⟩] }, clk := 100000 }
    s.dma.reqs.find? (fun r => decide (r.dom = 17)) = some ⟨17, 0, false⟩ ∧ dmaHolds s 17 = true ∧ 0 + 16000 ≤ s.clk ∧ 0 + 100000 ≤ s.clk ∧ (s.dom 17).waiting.isSome ∧ dmaUses s 15 17 = true := by
  decide +kernel
/-- Memory whose mode registers match its timing. -/
def zGood (d : DramSt) : State := ((zDram d).setRw (drModeAt 0) 2100).setRw (drModeAt 2) 24
theorem wit_DramTraining_order : modeGood (zGood {}) = true ∧ mapGood (zGood {}) = true ∧ drBusy (zGood {}) (dmaHolds (zGood {}) 18) = false ∧ drCfg_DENSITY (zGood {}) ≠ 3 ∧ (zGood {}).reaches 0x15104 ∧
    (zGood {}).dram.asking = false ∧ (zGood {}).dram.st ≠ 1 ∧ (zGood { asking := true }).dram.asking = true ∧ (zGood { st := 1 }).dram.st = 1 ∧
    mapGood ((zGood {}).setRw drMapBg0At 0x81) = false ∧ modeGood ((zGood {}).setRw drMapBg0At 0x81) = true ∧ modeGood (zDram {}) = false ∧ drBusy (zDram {}) (dmaHolds (zDram {}) 18) = false ∧
    drCfg_DENSITY ((zDram {}).setRw drCfgAt 0x30) = 3 ∧ drBusy ((zDram {}).setRw drCfgAt 0x30) (dmaHolds ((zDram {}).setRw drCfgAt 0x30) 18) = false := by decide +kernel
theorem wit_DramTraining_busy : (∃ x ∈ ((zDram {}).setRec 3 (some ⟨false, true, 0, 0, [], 0⟩)).recs, x.2.isSome) ∧ dmaHolds (((zDram {}).setDma 15 { st := 1 }).setRw (dmaCtlAt 15) 0x1000) 18 = true := by
  decide +kernel
theorem wit_DramTraining_early : (∀ a, (zDram {}).dram.retryAt = some a → (zDram {}).clk < a) ∧ (zDram { retryAt := some 1000000001 }).clk < 1000000001 ∧ (zDram {}).dram.st ≠ 1 := by decide
theorem wit_DramTraining_steps : ∀ ms ∈ [12, 13, 29, 39], let s := zDram { st := 1, trainAt := secU - ms * msU }
    s.dram.st = 1 ∧ s.st < s.dram.trainAt + 40 * msU ∧ s.dram.trainAt + ms * msU ≤ s.st := by
  decide
theorem wit_DramTraining_rank1 : let s := zDram { st := 1 }
    drRanks s = 2 ∧ rankPass s { zFound 200 with pat1 := false } 0 = true ∧ rankPass s { zFound 200 with pat1 := false } 1 = false ∧ rankPass s (zFound 200) 1 = true := by decide +kernel
theorem wit_DramUpkeep_not : memOpen (zDram {}) = false ∧ memOpen (zDram { st := 2, selfref := true }) = false ∧ (zDram { st := 2, panic := true }).dram.panic = true ∧
    ¬ ((zDram { st := 2, lastTrack := 1000000000 }).dram.trackDue = true ∨ (drTrain_TRACK_MS (zDram {}) ≠ 0 ∧ 1000000000 + drTrain_TRACK_MS (zDram {}) * 1000000 ≤ (zDram {}).clk)) ∧
    (zDram { lastZq := 1000000000 }).clk < 1000000000 + drTrain_ZQ_MS (zDram {}) * 1000000 ∧ drScrub_SCRUB_US ((zDram {}).setRw drScrubAt 0) = 0 ∧
    (zDram {}).clk < 1000000000 + drScrub_SCRUB_US ((zDram {}).setRw drScrubAt 1) * 1000 ∧ (zDram { wait := [⟨1, false, 0, [], 0⟩] }).dram.wait ≠ [] := by decide +kernel
theorem wit_DramUpkeep_due : (∀ r < 2, r < drRanks (zDram { st := 2 })) ∧ drRanks (zDram { conf := { ranks := 1 } }) ≤ 1 ∧ 0 + refiNs (zDram { st := 2 }) ≤ (zDram {}).clk ∧
    (zDram {}).clk < 1000000000 + refiNs (zDram { st := 2 }) ∧ (drTrain_TRACK_MS (zDram {}) ≠ 0 ∧ 0 + drTrain_TRACK_MS (zDram {}) * 1000000 ≤ (zDram {}).clk) ∧
    (zDram { lanes := [{ rdDly := 255 }] }).dram.lanes[0]? = some { rdDly := 255 } := by decide +kernel
theorem wit_DramUpkeep_drain : let s := zDram { st := 2, wait := [⟨1, false, 0, [], 0⟩], wq := List.replicate 23 ⟨1, true, 0, [], 0⟩ }
    memOpen s = true ∧ (∃ x ∈ s.dram.wait, x.write = false) ∧ s.dram.wq.length < (wqMarks s).1 := by decide +kernel
theorem wit_DramUpkeep_refresh_states : (zDram { st := 3 }).dram.st ≠ 1 ∧ (zDram { st := 3 }).dram.st ≠ 2 ∧ ((zDram { st := 3 }).setDom 18 { toSr := true }).dom 18 = { toSr := true } ∧ (z.dom 18).toSr = false ∧
    ((zDram { st := 2, panic := true, p0 := 32 }).dram.st = 2 ∧ (zDram { st := 2, panic := true, p0 := 32 }).dram.panic = true ∧ (zDram { st := 2, panic := true, p0 := 32 }).dram.p0 ≠ 0) ∧
    srExitWanted (zDram { selfref := true }) = false ∧ ({ zDram { selfref := true } with pwr := { state := 3, move := some ⟨0, 3, 0⟩ } } : State).pwr.move.isSome := by decide +kernel
theorem wit_DramRequests_full : let q : List DrReq := List.replicate 32 ⟨1, true, 0, [], 0⟩
    let s := zDram { st := 2, wq := q }
    32 ≤ s.dram.wq.length ∧ memOpen s = true ∧ s.dram.wait = [] ∧ s.dram.panic = false ∧ (3 : Fin 4).val ≠ 0 := by decide +kernel
theorem wit_DramRequests_read : let s := zDram { st := 2, wq := [⟨1, true, 0x3FFFFFFE0, List.replicate 32 9, 0x80000001⟩], badU := [0x3FFFFFFE0] }
    wqCovers s 0x3FFFFFFE0 = false ∧ (∃ x ∈ beats 0x3FFFFFFE0, x ∈ (noteErrs 0x3FFFFFFE0 [] s).dram.badU) ∧ readByte s 0x3FFFFFFE0 31 = 9 ∧ readByte s 0x3FFFFFFE0 1 = 0 := by decide +kernel
theorem wit_DramRequests_panic : let s := zDram { st := 2, panic := true, p0 := 65536 }
    memOpen s = true ∧ s.dram.panic = true ∧ drPanic_PANIC_CLR s < s.dram.p0 ∧ s.dram.since + 1 < max 2 (drThrottle_THROTTLE s) := by decide +kernel
theorem wit_DramRequests_closed : memOpen (zDram { p0 := 65504 }) = false ∧ (zDram { p0 := 65504 }).dram.p0 + 32 ≤ 65536 ∧ 65536 < (zDram { p0 := 65505 }).dram.p0 + 32 ∧ (zDram {}).dram.st ≠ 3 ∧
    (zDram { st := 3 }).dram.st = 3 ∧ ¬ ((0 : Fin 4).val = 0 ∧ false = true) := by decide +kernel
theorem wit_DmaCommands_all : (∀ st ∈ [1, 2], ∀ fin ∈ [none, some 0], ((z.setDma 15 { st := st, fin := fin }).dmaCh 15).st = st ∧ ((z.setDma 15 { st := st, fin := fin }).dmaCh 15).fin = fin ∧
      (z.setDma 15 { st := st, fin := fin }).reaches (dmaCtlAt 15)) ∧
    dmaIdle { (z.setDma 15 { st := 1, out := [⟨0, [7]⟩] }).dmaCh 15 with rd := none } = false ∧ ((z.setDma 15 { st := 3, doneAt := some 0 }).dmaCh 15).doneAt = some z.st ∧
    ((z.setDma 15 { st := 3, doneAt := some 5 }).dmaCh 15).doneAt ≠ some z.st ∧ (z.dmaCh 15).st = 0 := by decide +kernel
theorem wit_DmaCommands_power : let s := ((z.setDma 15 { st := 2, causeP := true }).setRw (dmaCtlAt 15) 0x2000).setDom 31 { st := 3 }
    (s.dmaCh 15).causeP = true ∧ dmaDomDown s 15 = true ∧ s.reaches (dmaCtlAt 15) ∧ dmaDomDown (z.setDma 15 { st := 2, causeP := true }) 15 = false := by decide +kernel
theorem wit_DmaTransfers_sram : let s := zDma { st := 1, rd := some ⟨0x3FFFE0, 32, 0, 0⟩ }
    dmaCtl_SRC_SPACE (z.setDma 15 { st := 1, rd := some ⟨0x3FFFE0, 32, 0, 0⟩ }) 15 = 0 ∧ (∀ x ∈ s.tmr.bad, ¬ (x < 0x3FFFE0 + 32 ∧ 0x3FFFE0 < x + 4)) ∧
      (∃ x ∈ ({ s with tmr := { s.tmr with bad := [0x3FFFFC] } } : State).tmr.bad, x < 0x3FFFE0 + 32 ∧ 0x3FFFE0 < x + 4) ∧ (s.dmaCh 15).zlr = none ∧ (z.dmaCh 15).rd = none := by decide +kernel
theorem wit_DmaTransfers_dram :
    let s := { (z.setDma 15 { st := 1, rd := some ⟨0x1010, 16, 0, 0⟩ }).setRw (dmaCtlAt 15) 0x1000 with dram := { z.dram with st := 2, badU := [0x101C] } }
    dmaCtl_SRC_SPACE s 15 = 1 ∧ dmaPortOpen s = true ∧ wqCovers s 0x1000 = false ∧ (∃ x ∈ beats 0x1000, x ∈ (noteErrs 0x1000 [] s).dram.badU) ∧ dmaPortOpen z = false ∧
      ¬ (∃ x ∈ beats 0x1000, x ∈ (noteErrs 0x1000 [] z).dram.badU) := by decide +kernel
theorem wit_DmaTransfers_out : let w : DmaWr := ⟨0x9FFFE0, List.replicate 32 7⟩
    let s := (z.setDma 15 { st := 1, out := [w, w] }).setRw (dmaCountAt 15) 64
    (s.dmaCh 15).out = w :: [w] ∧ 32 < dmaCount_COUNT s 15 ∧ 0x800000 ≤ w.dst ∧ (z.dmaCh 15).out = [] ∧ ((z.setDma 15 { desc := true }).dmaCh 15).desc = true := by decide +kernel
theorem wit_DmaTransfers_write : let w : DmaWr := ⟨0x1010, List.replicate 16 7⟩
    let s := { ((z.setDma 15 { st := 1, out := [w] }).setRw (dmaCountAt 15) 16).setRw (dmaCtlAt 15) 0x4000 with dram := { z.dram with st := 2 } }
    let h := ((z.setDma 15 { st := 1, out := [w] }).setRw (dmaCountAt 15) 16).setRw (dmaCtlAt 15) 0x8000
    dmaCtl_DST_SPACE s 15 = 1 ∧ dmaPortOpen s = true ∧ s.dram.wq.length < 32 ∧ dmaCtl_DST_SPACE h 15 = 2 ∧ (h.dmaCh 15).zlr = none ∧ (h.dmaCh 15).fin = none ∧ dmaCount_COUNT h 15 = 16 ∧
      ((h.setDma 15 { st := 1, out := [w], zlr := some 0 }).dmaCh 15).zlr.isSome ∧ ((h.setDma 15 { st := 1, out := [w], fin := some 0 }).dmaCh 15).fin.isSome := by decide +kernel
theorem wit_DmaTransfers_not : 999 < max 1 (dmaTmo_US z) * 1000 ∧ (z.dmaCh 15).st ≠ 1 ∧ z.dma.reqs.find? (fun r => decide (r.dom = 17)) = none ∧ dmaHolds z 17 = false ∧ (99999 : Nat) < 0 + 100000 ∧
    (15999 : Nat) < 0 + 16000 ∧ z.pwr.move = none ∧ ({ z with pwr := { z.pwr with move := some ⟨3, 0, 0⟩ } } : State).pwr.move.isSome ∧ (z.dom 17).waiting = none := by decide +kernel
/-- Lane `n` in a state. -/
def zLane (n : Nat) (x : LaneSt) : State := { z.setLane n x with clk := 5000000000 }
theorem wit_LaneControl_cfg : z.reaches ((0x20 + 11) * 0x1000 + 0x100) ∧ z.reaches ((0x20 + 9) * 0x1000 + 0x100) ∧ z.reaches ((0x20 + 7) * 0x1000 + 0x100) ∧ fld 0x300#32 9 8 = 3 ∧
    fld 0xF0002001#32 9 8 ≠ 3 ∧ bit 0xF0002001#32 0 = true ∧ fld 0xF0002001#32 17 16 = 0 ∧ lnCfg_EN z 7 = 0 ∧ (z.dom (19 + 7)).st ≠ 4 ∧ (z.lane 7).st = 0 := by decide +kernel
theorem wit_LaneControl_retrain : ∀ st ∈ [3, 4], ((zLane 7 { st := st }).setRw (lnCfgAt 7) 1).reaches ((0x20 + 7) * 0x1000 + 0x104) ∧
    lnCfg_EN ((zLane 7 { st := st }).setRw (lnCfgAt 7) 1) 7 = 1 ∧ (((zLane 7 { st := st }).setRw (lnCfgAt 7) 1).lane 7).st = st := by decide +kernel
theorem wit_LaneControl_sleep : ((zLane 7 { st := 5 }).lane 7).txSleep = false ∧ (zLane 7 { st := 5 }).reaches ((0x20 + 7) * 0x1000 + 0x104) ∧
    ((zLane 7 { st := 5, txSleep := true }).lane 7).txSleep = true ∧ sleepWanted (zLane 7 { st := 5, txSleep := true }) 7 = false ∧
    ((zLane 7 { st := 1, retryAt := some 0 }).lane 7).retryAt = some 0 := by decide +kernel
theorem wit_LaneTraining : ((zLane 7 { st := 3 }).lane 7).relock = none ∧ ((zLane 7 { st := 3, relock := some 0 }).lane 7).relock.isSome ∧
    0 + max 1 (lnTrain_RELOCK_MS (zLane 7 {}) 7) * 1000000 ≤ (zLane 7 {}).clk ∧ ((zLane 7 { st := 4 }).lane 7).lockAt + max 1 (lnTrain_TRAIN_TMO (zLane 7 {}) 7) * 1000000 ≤ (zLane 7 {}).clk ∧
    ((zLane 7 { st := 4 }).lane 7).rxReady = false ∧ ((zLane 7 { st := 5, blk := true }).lane 7).blk = true ∧ ((zLane 9 { st := 3 }).lane 9).st = 3 := by decide +kernel
theorem wit_LaneTraining_block : (1 : Nat).testBit 4 = false ∧ 255 % 256 ≠ ((zLane 7 { st := 4, post := 16, pre := 8 }).lane 7).ack ∧ ((zLane 7 { st := 4, post := 16, pre := 8 }).lane 7).pre ≤ 8 ∧
    ((zLane 7 { st := 4, post := 16, pre := 8 }).lane 7).post ≤ 16 := by decide +kernel
theorem wit_LaneService : ((zLane 7 { st := 5 }).lane 7).txFrom ≤ (zLane 7 {}).clk ∧ 32 * blockPs ((zLane 7 { st := 5 }).lane 7).rate ≤ ((zLane 7 {}).clk - ((zLane 7 { st := 5 }).lane 7).lastTx) * 1000 ∧
    1024 * blockPs ((zLane 7 { st := 5 }).lane 7).rate ≤ ((zLane 7 {}).clk - ((zLane 7 { st := 5 }).lane 7).lastRx) * 1000 ∧ ((zLane 7 { st := 5 }).lane 7).frozen = false ∧
    ((zLane 7 { st := 5 }).lane 7).visor = none ∧ ((zLane 7 { st := 5, rxSleep := true }).lane 7).rxSleep = true := by decide +kernel
theorem wit_LaneService_visor : (zLane 9 { st := 6 }).reaches ((0x20 + 9) * 0x1000 + 0x140) ∧ ((zLane 9 { st := 6 }).lane 9).visor = none ∧ ((zLane 9 { st := 4 }).lane 9).st < 5 ∧
    2 ^ 16 * 4000 ≤ ((zLane 9 {}).clk - 0) * lineRate 9 ((zLane 9 { visor := some (0, 16) }).lane 9).rate := by decide +kernel
theorem wit_LaneService_prbs : lnPrbs_CHK_EN ((zLane 1 { st := 6 }).setRw (lnPrbsAt 1) 0xFFFFFFFF) 1 = 1 ∧ ((zLane 1 { prbsLock := true }).lane 1).prbsLock = true ∧
    (zLane 1 { st := 5 }).reaches ((0x20 + 1) * 0x1000 + 0x160) ∧ lnPrbs_PATTERN (zLane 1 { st := 5 }) 1 ≠ 3 ∧ bit ((zLane 1 { st := 5 }).rw (lnPrbsAt 1)) 8 = false ∧
    bit ((zLane 1 { st := 5 }).rw (lnPrbsAt 1)) 9 = false ∧ lnCfg_LOOP (zLane 1 { st := 5 }) 1 = 0 ∧ lnPrbs_GEN_EN (zLane 1 { st := 5 }) 1 = 0 ∧
    ((zLane 1 { st := 5 }).lane 1).injEnd ≤ (zLane 1 {}).clk ∧ (zLane 1 {}).clk < ((zLane 1 { st := 5, injEnd := 6000000000 }).lane 1).injEnd := by decide +kernel
/-- Lane `n` of an enabled LN_CFG in a state. -/
def zLnOn (n : Nat) (x : LaneSt) : State := (zLane n x).setRw (lnCfgAt n) 1
theorem wit_LaneControl_rate : fld 0x10000#32 9 8 ≠ 3 ∧ fld 0x10000#32 17 16 ≠ 0 ∧ bit 0x10000#32 0 = false ∧ fld 0xF0333A00#32 9 8 ≠ 3 ∧ fld 0#32 17 16 = 0 ∧ bit 0#32 0 = false := by decide
theorem wit_LaneControl_keep : ∀ n ∈ [1, 7, 9], lnCfg_EN (zLnOn n { st := 5 }) n = 1 ∧ lnPrbs_GEN_EN (zLnOn n {}) 1 = 0 ∧ lnPrbs_CHK_EN (zLnOn n {}) 1 = 0 ∧ ((zLnOn n { st := 5 }).lane n).st ≠ 6 ∧
    ((zLnOn n {}).lane n).st = 0 ∧ ((zLnOn n { st := 6 }).lane n).st = 6 ∧ ((z.setDom (19 + n) { st := 4 }).dom (19 + n)).st = 4 ∧
    (zLnOn n { st := 5 }).reaches ((0x20 + n) * 0x1000 + 0x100) ∧ fld 0x20001#32 17 16 ≠ 0 ∧ (z.eth 1).link = false := by decide +kernel
theorem wit_LaneControl_taps : ((zLane 7 { upTaps := some (3, 4) }).lane 7).upTaps = some (3, 4) ∧ (z.lane 7).upTaps = none ∧ bit 0x2001#32 13 = true ∧ bit 0x0001#32 13 = false := by decide
theorem wit_LaneControl_off : ∀ st ∈ [0, 6], ((zLane 9 { st := st }).lane 9).st = st ∧ (zLane 9 { st := st }).reaches ((0x20 + 9) * 0x1000 + 0x104) := by decide +kernel
theorem wit_LaneControl_retry : ((zLane 7 { st := 1, retryAt := some 5000000000 }).lane 7).retryAt = some 5000000000 ∧ (5000000000 : Nat) ≤ (zLane 7 {}).clk ∧
    (zLane 7 {}).clk < 5000000001 ∧ (z.lane 7).retryAt = none ∧ (z.lane 7).st ≠ 1 := by decide
theorem wit_LaneControl_wake : sleepWanted (zLane 7 { pmSleep := true }) 7 = true ∧ ((zLane 7 { st := 5, pmSleep := true }).lane 7).pmSleep = true ∧ ((zLane 7 { st := 5 }).lane 7).pmSleep = false ∧
    ((zLane 7 { st := 5 }).lane 7).txSleep = false := by decide +kernel
theorem wit_LaneTraining_steps : (∀ st ∈ [2, 3, 4, 5, 6], ((zLane 9 { st := st }).lane 9).st = st ∧ ((zLane 9 { st := st }).eth 1).link = false) ∧
    (zLane 7 {}).clk < ((zLane 7 { st := 4, lockAt := 5000000000 }).lane 7).lockAt + max 1 (lnTrain_TRAIN_TMO (zLane 7 {}) 7) * 1000000 ∧ ((zLane 7 { rxReady := true }).lane 7).rxReady = true ∧
    ((zLane 7 { blk := true, rxSleep := true }).lane 7).rxSleep = true ∧ ((zLane 7 {}).lane 7).blk = false := by decide +kernel
theorem wit_LaneTraining_relock : ((zLane 9 { st := 3, relock := some 0 }).lane 9).relock = some 0 ∧ 0 + max 1 (lnTrain_RELOCK_MS (zLane 9 {}) 9) * 1000000 ≤ (zLane 9 {}).clk ∧
    (((zLane 7 { st := 5, wakeAt := some 0 }).lane 7).wakeAt = some 0 ∧ ((zLane 7 { st := 5, wakeAt := some 0 }).lane 7).relock = none) ∧
    ((z.lane 7).relock = none ∧ (z.lane 7).wakeAt = none) ∧ ((zLane 7 { st := 5, relock := some 0 }).lane 7).st ≠ 3 := by decide +kernel
/-- A block as the line brings it: its header and its payload, scrambled after zeros. -/
def zBlock (h : BitVec 2) (pay : BitVec 64) : LineBlk := ⟨h, scramble 0 pay, 0⟩
/-- Byte `i` of its payload. -/
def zByte (pay : BitVec 64) (i : Nat) : Nat := (payBytes (descramble (unpol false (zBlock 2 pay)).prev (unpol false (zBlock 2 pay)).bits)).getD i 0
theorem wit_LaneTraining_heads : (zBlock 0 0).hdr = 0#2 ∧ (zBlock 3 0).hdr = 3#2 ∧ (unpol true (zBlock 1 0)).hdr = 2#2 ∧ laneRxOk (zLane 7 { st := 5, blk := true }) 7 = true ∧
    laneRxOk (zLane 7 { st := 4, blk := true }) 7 = false ∧ [3, 15, 0x0B, 0x12, 0x13, 0x14, 0xFF, 0, 0x10, 0x11, 2, 1].map (fun b => zByte (BitVec.ofNat 64 b) 0) = [3, 15, 0x0B, 0x12, 0x13, 0x14, 0xFF, 0, 0x10, 0x11, 2, 1] := by
  decide +kernel
theorem wit_LaneTraining_tap : let pay : BitVec 64 := 0x09000501
    let s := zLane 7 { st := 4, blk := true, pre := 8, post := 16, ackAt := none }
    zByte pay 0 = 1 ∧ zByte pay 1 = 5 ∧ zByte pay 3 = 9 ∧ zByte pay 4 = 0 ∧ (s.lane 7).ack ≠ 9 ∧ (zByte pay 1).testBit 4 = false ∧ (s.lane 7).pre = 8 ∧ zByte pay 1 % 4 = 1 ∧ zByte pay 1 / 4 % 4 = 1 ∧
      (s.lane 7).ackAt = none ∧ zByte pay 4 = (s.lane 7).seq ∧ 0 < s.clk ∧ (s.lane 7).rxReady = false ∧ ((zLane 7 { st := 4, ackAt := some 0 }).lane 7).ackAt = some 0 ∧ 0 + 50000 ≤ s.clk ∧
      ((31 : Fin 32).val ≠ 0) ∧ zByte pay 4 ≠ ((zLane 7 { seq := 255 }).lane 7).seq := by decide +kernel
theorem wit_LaneTraining_up : let pay : BitVec 64 := 0x2001
    let s := zLane 7 { st := 4, blk := true, rxReady := true, gotReady := 7 }
    zByte pay 0 = 1 ∧ (zByte pay 1).testBit 5 = true ∧ 7 ≤ (s.lane 7).gotReady ∧ 128 * blockPs (s.lane 7).rate ≤ (s.clk - (s.lane 7).cvAt) * 1000 ∧ ((zLane 7 { gotReady := 6 }).lane 7).gotReady < 7 ∧
      (zByte 0x0001 1).testBit 5 = false ∧ (s.clk - ((zLane 7 { cvAt := 5000000000 }).lane 7).cvAt) * 1000 < 128 * blockPs (s.lane 7).rate ∧ (zByte 0x1001 1).testBit 4 = true := by decide +kernel
theorem wit_LaneService_not : (∀ st ∈ [4, 6], ((zLane 7 { st := st }).lane 7).st ≠ 5) ∧ (zLane 7 {}).clk < ((zLane 7 { txFrom := 5000000001 }).lane 7).txFrom ∧
    ((zLane 7 {}).clk - ((zLane 7 { lastTx := 5000000000 }).lane 7).lastTx) * 1000 < 32 * blockPs ((zLane 7 {}).lane 7).rate ∧
    ((zLane 7 {}).clk - ((zLane 7 { lastRx := 5000000000 }).lane 7).lastRx) * 1000 < 1024 * blockPs ((zLane 7 {}).lane 7).rate ∧ ((zLane 7 { frozen := true }).lane 7).frozen = true ∧
    ((zLane 7 { visor := some (0, 16) }).lane 7).visor.isSome := by decide +kernel
theorem wit_LaneService_scan : laneState (zLane 9 { st := 5 }) 9 = 5 ∧ laneState (zLane 9 { st := 6 }) 9 = 6 ∧ laneState (zLane 9 { st := 4 }) 9 < 5 ∧ laneState z 11 < 5 ∧
    ((zLane 9 {}).clk - 5000000000) * lineRate 9 ((zLane 9 {}).lane 9).rate < 2 ^ 44 * 4000 := by decide +kernel
theorem wit_LaneService_fits : (∀ p < 4, prbsFits p 0 = true) ∧ prbsFits 2 (1#95 <<< 94) = false ∧ ((zLane 1 {}).lane 1).prbsLock = false ∧ lnPrbs_CHK_EN (zLane 1 {}) 1 = 0 := by decide +kernel
theorem wit_LaneService_inject : let s := (zLane 1 { st := 6 }).setRw (lnCfgAt 1) 0x10000
    (testWanted s 1 = true ∧ (s.lane 1).st = 6) ∧ testWanted (zLane 1 { st := 5 }) 1 = false ∧ ((zLane 1 { st := 4 }).lane 1).st < 5 ∧ bit (s.rw (lnPrbsAt 1)) 8 = false ∧ bit (s.rw (lnPrbsAt 1)) 9 = false ∧
      lnPrbs_PATTERN s 1 ≠ 3 ∧ (zLane 11 {}).reaches ((0x20 + 11) * 0x1000 + 0x160) ∧ s.reaches ((0x20 + 1) * 0x1000 + 0x160) := by decide +kernel
/-- Ethernet port 1 enabled and linked. -/
def zEth (x : EthSt) : State := (z.setEth 1 { x with link := true }).setRw (ethCfgAt 1) ((z.rw (ethCfgAt 1) ||| 1) &&& 0x1#32)
theorem wit_EthernetPorts_link : (z.eth 1).link = false ∧ z.reaches ((0x19 + 1) * 0x1000 + 0x118) ∧ z.reaches ((0x19 + 1) * 0x1000 + 0x128) ∧
    255 % txSize z 1 ≠ (z.eth 1).txHead % txSize z 1 ∧ 255 % rxSize z 1 ≠ (z.eth 1).rxHead % rxSize z 1 := by decide +kernel
/-- A broadcast frame of 60 bytes. -/
def zBcast : List Byte := List.replicate 6 255 ++ List.replicate 54 0
theorem wit_EthernetPorts_rx : ethCfg_EN (zEth {}) 1 = 1 ∧ ((zEth {}).eth 1).link = true ∧ 64 ≤ zBcast.length + 4 ∧ zBcast.length + 4 ≤ ethLimit (zEth {}) 1 zBcast ∧ isPause zBcast = false ∧
    ethMine (zEth {}) 1 zBcast = true ∧ ethMine (zEth {}) 1 (List.replicate 60 2) = false ∧ ethCfg_PROMISC (zEth {}) 1 = 0 ∧ ((zEth {}).eth 1).rxGiven = 0 ∧
    ([] : List Byte).length + 4 < 64 := by decide +kernel
/-- Ethernet port 1 with one receive and one transmit descriptor at the window's end, both given to the hub. -/
def zEthRing : State :=
  ((((zEth { rxGiven := 1, txGiven := 1 }).setRw (ethRxBaseAt 1) 0x003FFFE0).setRw (ethTxBaseAt 1) 0x003FFFE0).setRw (ethRxCfgAt 1) 0x08000000).setSramW 0x3FFFE4 0x80000040
theorem wit_EthernetPorts_store : (zEthRing.eth 1).rxGiven ≠ 0 ∧ 60 ≤ ethRxCfg_RX_BUF zEthRing 1 ∧ rxDesc zEthRing 1 = 0x3FFFE0 ∧ bit (zEthRing.sramW (0x3FFFE0 + 4)) 31 = true ∧
    fld (zEthRing.sramW (rxDesc zEthRing 1)) 23 0 + 60 ≤ 0x3FFFE0 ∧ 0x3FFFE0 + 32 ≤ 0x400000 ∧ ethCfg_RX_TS zEthRing 1 = 0 ∧ 0x3FFFE0 % 4 = 0 := by decide +kernel
theorem wit_EthernetPorts_tx : ethCfg_EN zEthRing 1 = 1 ∧ (zEthRing.eth 1).pauseEnd ≤ zEthRing.clk ∧ ringReady zEthRing 1 = true ∧ strReady zEthRing 1 = none := by decide +kernel
theorem wit_EthernetPorts_stamps : z.reaches ((0x19 + 1) * 0x1000 + 0x140) ∧ (z.eth 1).tsq = [] ∧ ((zEth { tsq := [⟨3, true, 9⟩] }).eth 1).tsq = ⟨3, true, 9⟩ :: [] := by decide +kernel

theorem wit_EthernetPorts_fall : let s := zEthRing
    (s.eth 1).link = true ∧ (1 : Nat) = 1 ∧ ringReady s 1 = true ∧ ethNegotiates s 1 = false ∧ sgmii (s.setLane 9 { rate := 2 }) 1 = true ∧ ethNegotiates (z.setLane 9 { rate := 0 }) 1 = true ∧ ringReady z 1 = false ∧
      ((z.setLane 9 { st := 5 }).lane (8 + 1)).st = 5 := by decide +kernel
theorem wit_EthernetPorts_tail : fld 0#32 7 0 % txSize z 1 = (z.eth 1).txHead % txSize z 1 ∧ bit (z.sramW (txDesc z 1 + 4)) 31 = false ∧ bit (zEthRing.sramW (txDesc zEthRing 1 + 4)) 31 = true ∧
    bit (zEthRing.sramW (rxDesc zEthRing 1 + 4)) 31 = true := by decide +kernel
/-- A PAUSE frame asking for 65535 quanta. -/
def zPause : List Byte := [1, 0x80, 0xC2, 0, 0, 1] ++ List.replicate 6 0 ++ [0x88, 8, 0, 1, 255, 255] ++ List.replicate 42 0
theorem wit_EthernetPorts_pause : isPause zPause = true ∧ zPause.length = 60 ∧ zPause.length + 4 ≤ ethLimit z 1 zPause ∧ ethCfg_PAUSE_EN ((zEth {}).setRw (ethCfgAt 1) 0xFFFFFFFF) 1 = 1 ∧
    ethMine (zEth {}) 1 zPause = false ∧ ethCfg_PAUSE_EN (zEth {}) 1 = 0 ∧ ethCfg_PROMISC ((zEth {}).setRw (ethCfgAt 1) 0xFFFFFFFF) 1 = 1 := by decide +kernel
theorem wit_EthernetPorts_frames : ethCfg_EN ((z.setRw (ethCfgAt 1) 0)) 1 = 0 ∧ 0 ≠ ethFcs zBcast ∧ ethLimit (zEth {}) 1 (List.replicate 1515 0) < (List.replicate 1515 (0 : Byte)).length + 4 ∧
    bit (z.sramW (rxDesc z 1 + 4)) 31 = false ∧ ethRxCfg_RX_BUF (zEthRing.setRw (ethRxCfgAt 1) 0) 1 < 60 := by decide +kernel
/-- A PTP Sync in an Ethernet frame. -/
def zSync : List Byte := List.replicate 6 255 ++ List.replicate 6 0 ++ [0x88, 0xF7, 0x10, 0x12] ++ List.replicate 44 0
theorem wit_EthernetPorts_sync : (ptpEvent zSync).isSome ∧ ptpEvent zBcast = none ∧ 2 ≤ ethCfg_RX_TS ((zEth {}).setRw (ethCfgAt 1) 0xFFFFFFFF) 1 := by decide +kernel
theorem wit_EthernetPorts_send : let s := (zEthRing.setSramW 0x3FFFE4 0x8003003C)
    ringReady s 1 = true ∧ bit (s.sramW (txDesc s 1 + 4)) 16 = true ∧ bit (s.sramW (txDesc s 1 + 4)) 17 = true ∧ 60 ≤ fld (s.sramW (txDesc s 1 + 4)) 13 0 ∧ (s.eth 1).tsq.length < 16 ∧
      16 ≤ ((zEth { tsq := List.replicate 16 ⟨0, false, 0⟩ }).eth 1).tsq.length ∧ fld (zEthRing.sramW (txDesc zEthRing 1 + 4)) 13 0 + 4 ≤ 1518 ∧
      s.clk < ((zEth { pauseEnd := 1 }).eth 1).pauseEnd ∧ fld ((s.setSramW 0x3FFFE4 0x8000003B).sramW (txDesc s 1 + 4)) 13 0 < 60 := by decide +kernel
/-- A stream whose consumer is Ethernet port 1, its one packet begun. -/
def zEthStr : State :=
  { (zEth {}).setStr 127 { run := true, desc := { consumer := 2, dest := 1 }, reading := some (0, 0), region := some (0, 64), pkts := [⟨0, 36, 0, 0, 0, 0, 1, 1, 0, 0, 0, none, false, false, false, []⟩] }
    with dram := { z.dram with st := 2, cap := 16384 } }
theorem wit_EthernetPorts_stream : strReady zEthStr 1 = some 127 ∧ ringReady zEthStr 1 = false ∧ (zEthStr.str 127).reading = some (0, 0) ∧ ((zEthStr.str 127).pkts.find? (fun p => decide (p.pseq = 0))).isSome ∧
    (deliverPkt zEthStr 127 ⟨0, 36, 0, 0, 0, 0, 1, 1, 0, 0, 0, none, false, false, false, []⟩).isSome ∧ 4 * 36 ≤ (0 + 1) * 1496 ∧ ethCfg_JUMBO zEthStr 1 = 0 ∧
    strReady (zEthStr.setEth 1 { zEthStr.eth 1 with cur := some (127, 0, 1) }) 1 = some 127 := by decide +kernel
/-! ### Witnesses: voting, power, start-up, the host's ports -/

/-- The four copies in given states, copy 3 with its failures. -/
def zTmr (sts : List Nat) (f : Nat) : State :=
  { z with tmr := { z.tmr with copies := (sts.zip [0, 0, 0, f]).map (fun x => { st := x.1, fail := x.2 }) }, clk := 200000 }
theorem wit_Voting : z.pwr.state ≠ 4 ∧ (z.copy 0).st = 0 ∧ z.tmr.copies.length = 4 ∧ 2 < (copiesIn z 0).length ∧ (copiesIn (zTmr [0, 0, 5, 5] 0) 0).length ≤ 2 ∧ ((zTmr [0, 0, 5, 5] 0).copy 0).st = 0 := by
  decide +kernel
theorem wit_Voting_rotate : z.reaches 0x4108 ∧ copiesIn z 1 = 3 :: [] ∧ z.tmr.load = none ∧ z.ns = 0 ∧ z.sec % rotS z = 0 ∧ copiesIn (zTmr [0, 0, 0, 5] 0) 1 = [] ∧
    ((zTmr [0, 0, 0, 5] 0).copy 3).st = 5 ∧ (z.copy 3).st ≠ 5 := by decide +kernel
theorem wit_Voting_selftest : ((zTmr [0, 0, 0, 4] 2).copy 3).st = 4 ∧ ((zTmr [0, 0, 0, 4] 2).copy 3).since + 200000 ≤ (zTmr [0, 0, 0, 4] 2).clk ∧ 3 ≤ (copiesIn (zTmr [0, 0, 0, 4] 2) 0).length ∧
    2 ≤ ((zTmr [0, 0, 0, 4] 2).copy 3).fail ∧ ((zTmr [0, 0, 0, 4] 1).copy 3).fail < 2 := by decide +kernel
theorem wit_ClocksAndSram_pll : z.pwr.move = none ∧ z.tmr.pllSel = false ∧ z.tmr.pllB = true ∧
    ({ z with tmr := { z.tmr with cleanSince := some 0, pllSel := true } } : State).tmr.cleanSince = some 0 ∧ 0 + 10000000000 ≤ (zAt 0 10000000000).clk ∧ tmrCfg_RETURN_HOLD z = 0 ∧
    tmrCfg_RETURN_HOLD (z.setRw tmrCfgAt 0xFFFFFFFF) = 1 := by decide +kernel
theorem wit_ClocksAndSram_scrub : scrubMs z * 1000000 ≤ ((zAt 0 1000000).clk - z.tmr.scrubClk) * 4194304 ∧ 4 * z.tmr.scrubAt ∉ z.tmr.bad ∧ 4 * z.tmr.scrubAt < 0x400000 := by decide +kernel
/-- The power manager in a state. -/
def zPwr (p : PwrSt) : State := { z with pwr := p, clk := 1000000000 }
theorem wit_PowerStates_now : z.reaches 0x2108 ∧ (zPwr { state := 4 }).pwr.move = none ∧ (zPwr { state := 4 }).reaches 0x2108 ∧ (zPwr { move := some ⟨2, 0, 0⟩ }).pwr.move.isSome ∧
    (zPwr { state := 1 }).pwr.state < 2 ∧ (zPwr { state := 1 }).pwr.state ≠ 0 ∧ (zPwr { state := 3 }).reaches 0x2108 := by decide +kernel
theorem wit_PowerStates_move : moveRej z 2 = none ∧ moveBarred z 2 = false ∧ moveWaits z 2 = false ∧ moveRej z 3 = none ∧ moveBarred z 3 = false ∧
    (moveRej (z.setLoop 0 { mode := 3 }) 3).isSome := by decide +kernel
theorem wit_PowerStates_done : (zPwr { move := some ⟨3, 0, 0⟩ }).pwr.move = some ⟨3, 0, 0⟩ ∧ moveBarred (zPwr { move := some ⟨3, 0, 0⟩ }) 3 = false ∧
    moveWaits (zPwr { move := some ⟨3, 0, 0⟩ }) 3 = false ∧ 0 + 20000 ≤ (zPwr {}).clk ∧ (zPwr { state := 3, move := some ⟨0, 3, 0⟩ }).dram.selfref = false := by decide +kernel
theorem wit_PowerStates_choice : domReq (z.setRw (pwrDomCtlAt 16) 0) 16 = 0 ∧ ((z.setDom 16 { st := 4 }).dom 16).waiting = none ∧ ((z.setDom 16 { st := 4 }).dom 16).st ≠ 0 ∧
    ((z.setDom 16 { st := 4 }).dom 16).waking = none ∧ ((z.setDom 16 { st := 4 }).dom 16).toSr = false := by decide +kernel
theorem wit_PowerDomains_req : z.reaches (0x2200 + 4 * 32) ∧ (z.dom 32).waiting = none ∧ ((holders z 32).loop || (holders z 32).other) = true ∧ (holders z 16).any = false := by decide +kernel
theorem wit_PowerDomains_wait :
    let s := (z.setDma 15 { st := 1 }).setRw (dmaCtlAt 15) 0x2000
    ((holders s 31).loop || (holders s 31).other) = false ∧ (holders s 31).any = true ∧ s.reaches (0x2200 + 4 * 31) := by decide +kernel
theorem wit_PowerDomains_end : ((z.setDom 32 { waiting := some (0, 2) }).dom 32).waiting = some (0, 2) ∧ 0 + pwrWait_MS z * 1000000 ≤ (zAt 0 70000000000).clk ∧
    ((z.setDom 17 { waking := some 0 }).dom 17).waking = some 0 := by decide +kernel
theorem wit_Governor_ask : bgtHas 6 0 z = false ∧ bgtAsking 6 0 z = false ∧ bgtHas 1 5 { z with bgt := { z.bgt with grants := [⟨1, 5, 0, 0, none, false⟩] } } = true ∧ z.reaches 0x3120 := by decide +kernel
theorem wit_Governor_tick :
    let r : BgtReq := ⟨2, 0, 100, none, 0, none, false⟩
    let s := { zAt (30 * usU) 15000 with bgt := { z.bgt with queue := [r] } }
    s.ns % 10000 = 0 ∧ s.bgt.queue = [r] ∧ r.arr + 30 * usU ≤ s.st ∧ bgtBar (bgtDecay s) r = none ∧ bgtFits (bgtDecay s) r = true ∧ z.bgt.queue = [] := by decide +kernel
theorem wit_Governor_overrun : (⟨4, 63, 5, 0, some 1, false⟩ : BgtGrant) ∈ ({ zAt msU 0 with bgt := { z.bgt with grants := [⟨4, 63, 5, 0, some 1, false⟩] } } : State).bgt.grants ∧ 0 + 1 * msU ≤ (zAt msU 0).st := by
  decide
/-- Start-up in a step. -/
def zBoot (b : BootSt) : State := { z with boot := b, clk := 70000000000000 }
theorem wit_StartUp_go : (zBoot { go := true }).reaches 0x130 ∧ z.boot.go = false ∧ z.boot.step ≠ 7 ∧ (zBoot { step := 7 }).reaches 0x130 := by decide +kernel
theorem wit_StartUp_late : (zBoot { step := 8 }).boot.done9 = false ∧ 0 + sysStartWait_LANE_MS (zBoot {}) * 1000000 ≤ (zBoot {}).clk ∧ 0 + sysStartWait_TIME_S (zBoot {}) * 1000000000 ≤ (zBoot {}).clk := by decide +kernel
theorem wit_StartUp_reset : z.reaches 0x7100 ∧ z.reaches 0x100 ∧ zHeld.supply.held = true := by decide +kernel
theorem wit_SuppliesAndPins : z.supply.avddLow = false ∧ sysPpsOut_EN (z.setRw sysPpsOutAt 0xFFFFFFFF) = 1 ∧ z.st % secU < 2 * nsU ∧ sysPpsOut_GATE (z.setRw sysPpsOutAt 1) = 0 ∧
    sysPpsOut_GATE (z.setRw sysPpsOutAt 0xFFFFFFFF) = 1 ∧ 0 * secU + max 1 (min 999 (sysPpsOut_WIDTH_MS z)) * msU ≤ (zAt secU 5).st ∧
    z.mgmt.mtimecmp ≤ (z.sec * 1000000000 + z.ns) % 2 ^ 64 := by decide +kernel
/-- What a quote has snapshot. -/
def zSnap : AttSnap := ⟨List.replicate 8 0, List.replicate 8 0, List.replicate 8 0, 0, 0⟩
theorem wit_Attestation : z.reaches 0x5100 ∧ Src.pcie ≠ Src.core ∧ z.att.snap = none ∧ zSnap.meas.length = 8 ∧ zSnap.cnt.length = 8 ∧ zSnap.nonce.length = 8 := by decide +kernel
theorem wit_HostPorts_link : lnCfg_EN (z.setRw (lnCfgAt 10) 1) 10 = 1 ∧ lnCfg_EN (z.setRw (lnCfgAt 10) 0) 10 = 0 ∧ (z.dom 31).st ≠ 4 ∧ z.pwr.state ≠ 3 := by decide +kernel
theorem wit_HostPorts_config : z.mgmt.st ≠ 1 ∧ z.mgmt.st ≠ 3 ∧ ({ z with mgmt := { z.mgmt with st := 3 } } : State).mgmt.st = 3 ∧ (15 : Fin 16).val = 15 := by decide
theorem wit_HostPorts_flash : z.reaches 0x7110 ∧ 256 = min 256 (fld 0x1FF#32 8 0) ∧ z.mgmt.qEnd ≤ z.clk ∧ bit 0x40000000#32 30 = true ∧ bit 0x3FFFFFFF#32 30 = false ∧
    z.clk < ({ z with mgmt := { z.mgmt with qEnd := 1 } } : State).mgmt.qEnd := by decide +kernel
theorem wit_SerialPort : (0x0FFFFC#24).toNat / 4 * 4 < 0x100000 ∧ (0x400000#24).toNat / 4 * 4 = 0x400000 ∧ (0x7FFFFF#24).toNat / 4 * 4 < 0x800000 ∧
    ¬ ((0xFFFFFF#24).toNat / 4 * 4 + 4 * (0 + 1) ≤ 0x100000) ∧ ¬ (0x400000 ≤ (0xFFFFFF#24).toNat / 4 * 4 ∧ (0xFFFFFF#24).toNat / 4 * 4 + 4 * (0 + 1) ≤ 0x800000) ∧
    (z.str ((0x00007F#24).toNat % 128)).desc.consumer ≠ 3 := by decide +kernel
theorem wit_MemoryWindow : Src.smp ≠ Src.core ∧ (List.replicate 256 (0 : Byte)).length ≤ 256 ∧ 0x37FF00 + 256 ≤ 0x400000 ∧ 0x37FF00 < 0x380000 ∧ 0x400000 < 0x3FFFFF + 2 ∧
    bar2Cfg_TBL_APER z = 1 ∧ 0x380000 ≤ 0x3FFFFF ∧ (0x3FFFFF % 4 ≠ 0 ∨ 1 % 4 ≠ 0) := by decide +kernel

theorem wit_Voting_agree : copiesIn z 0 ≠ [] ∧ (∀ i < 4, held4 ⟨7, 7, 7, 7⟩ i = 7) ∧ held4 ⟨7, 7, 9, 7⟩ 2 ≠ 7 ∧ (∀ k < 4, k ≠ 2 → held4 ⟨7, 7, 9, 7⟩ k = 7) ∧ z.tmr.load = none ∧ (copiesIn z 0).length = 3 ∧ copiesIn z 1 = 3 :: [] ∧
    ({ z with tmr := { z.tmr with load := some (3, false) } } : State).tmr.load = some (3, false) := by decide +kernel
theorem wit_Voting_probation : let s := zTmr [0, 0, 0, 3] 2
    (s.copy 3).st = 3 ∧ copiesIn s 3 = [3] ∧ 2 < (copiesIn s 0).length ∧ held4 ⟨7, 7, 7, 9⟩ 3 ≠ 7 ∧ (∀ k < 4, (s.copy k).st = 0 → held4 ⟨7, 7, 7, 9⟩ k = 7) ∧ 3 ≤ (s.copy 3).fail + 1 := by decide +kernel
theorem wit_Voting_none : let s := zTmr [0, 0, 5, 5] 0
    s.pwr.state ≠ 4 ∧ (∀ i ∈ copiesIn s 0, ¬ (copiesIn s 0).length < 2 * ((copiesIn s 0).filter (fun j => decide (held4 ⟨1, 2, 3, 4⟩ j = held4 ⟨1, 2, 3, 4⟩ i))).length) ∧ copiesIn s 0 = [0, 1] := by decide +kernel
theorem wit_Voting_not : (z.copy 3).st ≠ 4 ∧ (zAt 0 199999).clk < 0 + 200000 ∧ (zAt 5000000000000000 9).ns ≠ 0 ∧ ({ z with tmr := { z.tmr with load := some (3, false) } } : State).tmr.load.isSome ∧
    (copiesIn (zTmr [0, 0, 5, 4] 0) 0).length < 3 ∧ copiesIn (zTmr [0, 0, 5, 4] 0) 1 = [] ∧ (zTmr [0, 0, 5, 4] 0).tmr.load = none := by decide +kernel
theorem wit_ClocksAndSram_lock : (∀ e ∈ ([201, -201, 400, -400] : List Int).drop 0, 200 < e.natAbs) ∧ (∃ e ∈ ([201, -201, 200, -400] : List Int).drop 0, e.natAbs ≤ 200) ∧
    ([300, 300, 300] : List Int).length < 4 ∧ (∃ e ∈ ([51] : List Int), 50 < e.natAbs) ∧ (∀ e ∈ ([50, -50] : List Int), e.natAbs ≤ 50) ∧
    ({ z with tmr := { z.tmr with pllSel := true, pllB := false } } : State).tmr.pllA = true := by decide
theorem wit_ClocksAndSram_return : (zAt 0 9999999999).clk < 0 + 10000000000 ∧ z.tmr.cleanSince = none ∧ z.tmr.pllSel = false ∧ ({ z with tmr := { z.tmr with pllA := false } } : State).tmr.pllA = false := by decide
theorem wit_ClocksAndSram_words : (zAt 0 1).clk * 4194304 < scrubMs z * 1000000 ∧
    (∀ a ∈ [0x3FFFFC, 0x420000, 0x43FFFC, 0xA00000, 0xFFFFFC], a ∈ ({ z with tmr := { z.tmr with bad := [a], scrubAt := a / 4 } } : State).tmr.bad ∧ 4 * (a / 4) = a) ∧ z.tmr.latched = false := by decide +kernel
theorem wit_PowerStates_wake : ∀ st ∈ [2, 3], 2 ≤ (zPwr { state := st }).pwr.state ∧ (zPwr { state := st }).pwr.move = none ∧ (zPwr { state := st }).reaches 0x2108 ∧ (zPwr { state := st }).pwr.state = st := by decide +kernel
theorem wit_PowerStates_held : let s : State := { z with dram := { z.dram with p0 := 32 } }
    let w : State := { z with dram := { z.dram with p0 := 32, panic := true } }
    moveRej s 2 = none ∧ moveBarred s 2 = true ∧ moveRej w 2 = none ∧ moveBarred w 2 = false ∧ moveWaits w 2 = true ∧ w.pwr.state < 2 := by decide +kernel
theorem wit_PowerStates_on : let s := zPwr { move := some ⟨2, 0, 0⟩ }
    let w : State := { s with dram := { s.dram with p0 := 32, panic := true } }
    let l := zPwr { state := 3, move := some ⟨0, 3, 999980001⟩ }
    moveBarred w 2 = false ∧ moveWaits w 2 = true ∧ moveBarred { s with dram := { s.dram with p0 := 32 } } 2 = true ∧ l.clk < 999980001 + 20000 ∧
      (({ l with dram := { l.dram with st := 2, selfref := true } } : State).dram.st = 2) ∧ s.pwr.move = some ⟨2, 0, 0⟩ ∧ z.pwr.move = none := by decide +kernel
theorem wit_PowerStates_safe : ∀ d < 33, ((zPwr { state := 4 }).dom d).waiting = none := by decide +kernel
theorem wit_PowerDomains_ctl : (z.dom 31).st ≠ 4 ∧ (holders (z.setDom 18 { st := 3 }) 18).any = false ∧ (holders z 18).any = false ∧ (z.dom 18).st < 3 ∧ ((z.setDom 16 { st := 4 }).dom 16).st = 4 ∧
    ((z.setDom 32 { waiting := some (0, 2) }).dom 32).waiting.isSome ∧ (z.setDom 32 { waiting := some (0, 2) }).reaches (0x2200 + 4 * 32) ∧ (holders (z.setLoop 0 { mode := 1 }) 17).loop = true ∧
    z.reaches 0x2200 := by decide +kernel
theorem wit_PowerDomains_not : (zAt 0 (pwrWait_MS z * 1000000 - 1)).clk < 0 + pwrWait_MS z * 1000000 ∧ (z.dom 5).waiting = none ∧ z.pwr.move = none ∧ (z.dom 5).waking = none ∧
    ((zAt 0 5).setDom 17 { waking := some 6 }).clk < 6 := by decide +kernel
theorem wit_PowerDomains_move : let s : State := { zPwr { move := some ⟨2, 0, 0⟩ } with clk := 70000000000, dram := { z.dram with p0 := 32, panic := true } }
    (s.dom 5).waiting = none ∧ moveWaits s 2 = true ∧ 0 + pwrWait_MS s * 1000000 ≤ s.clk ∧ s.pwr.move = some ⟨2, 0, 0⟩ ∧ moveWaits (zPwr {}) 2 = false := by decide +kernel
theorem wit_Governor_bars : let r : BgtReq := ⟨2, 0, 100, none, 0, none, false⟩
    let s := { zAt (30 * usU) 15000 with bgt := { z.bgt with queue := [{ r with mw := 70000 }] } }
    let f := { zAt (30 * usU) 15000 with bgt := { z.bgt with queue := [r], grants := [⟨4, 0, bgtBudget_MW z, 0, none, false⟩] } }
    (bgtBar (bgtDecay s) { r with mw := 70000 }).isSome ∧ bgtBar (bgtDecay f) r = none ∧ bgtFits (bgtDecay f) r = false ∧ (zAt (5 * usU) 0).ns % 10000 ≠ 0 ∧ s.ns % 10000 = 0 := by decide +kernel
theorem wit_Governor_not : bgtHas 2 0 { z with bgt := { z.bgt with grants := [⟨2, 0, 5, 0, none, false⟩] } } = true ∧ bgtAsking 2 0 { z with bgt := { z.bgt with queue := [⟨2, 0, 5, none, 0, none, false⟩] } } = true ∧
    (zAt (msU - 1) 0).st < 0 + 1 * msU ∧ (⟨4, 63, 5, 0, some 1, true⟩ : BgtGrant).overrun = true ∧ bgtHas 2 0 z = false ∧ bgtAsking 2 0 z = false := by decide +kernel
theorem wit_StartUp_not : (zBoot {}).boot.step ≠ 8 ∧ (zBoot { step := 8, done9 := true, done10 := true }).boot.done9 = true ∧ (zBoot { step := 8, done10 := true }).boot.done10 = true ∧
    (zBoot { step := 8, goAt := 70000000000000 }).clk < 70000000000000 + sysStartWait_LANE_MS z * 1000000 ∧ 70000000000000 < 70000000000000 + sysStartWait_TIME_S z * 1000000000 ∧ (zBoot { step := 8 }).boot.step = 8 := by
  decide +kernel
theorem wit_StartUp_copies : z.tmr.copies[3]? = some { st := 1 } ∧ (zTmr [0, 0, 0, 5] 3).tmr.copies[3]? = some { st := 5, fail := 3 } := by decide
theorem wit_SuppliesAndPins_low : let s : State := { z with supply := { z.supply with avddLow := true } }
    s.supply.avddLow = true ∧ loopOn (s.setLoop 15 { mode := 1 }) (lpSLICE (lw0 z 15) / 4) = true ∧ (s.dom 1).st = 0 := by decide +kernel
theorem wit_SuppliesAndPins_pulse : let s : State := { z.setRw sysPpsOutAt 0xFFFFFFFF with tb := { z.tb with holdActive := true } }
    s.tb.holdActive = true ∧ sysPpsOut_EN (z.setRw sysPpsOutAt 0) = 0 ∧ 2 * nsU ≤ (zAt (2 * nsU) 0).st % secU ∧ z.supply.ppsHigh = false ∧
      ({ zAt secU 0 with supply := { z.supply with ppsHigh := true, ppsSec := 1 } } : State).st < 1 * secU + max 1 (min 999 (sysPpsOut_WIDTH_MS z)) * msU ∧ z.st < 1 * secU ∧
      (z.sec * 1000000000 + z.ns) % 2 ^ 64 < ({ z with mgmt := { z.mgmt with mtimecmp := 1 } } : State).mgmt.mtimecmp := by decide +kernel
theorem wit_Attestation_quote : ({ z with att := { z.att with snap := some zSnap } } : State).att.snap.isSome ∧ z.att.changed = false ∧ ((7 : Fin 8).val ≠ 0) ∧ z.att.meas.length = 8 := by decide
theorem wit_HostPorts_up : ({ z with pcie := { z.pcie with up := true } } : State).pcie.up = true ∧ z.pcie.up = false ∧ lnCfg_EN (z.setRw (lnCfgAt 11) 1) 11 = 1 ∧ (z.setDom 31 { st := 4 }).dom 31 = { st := 4 } ∧
    tcanon regReset z.regs = true := by decide +kernel
theorem wit_HostPorts_words : (∀ o ∈ [0x04, 0x10, 0x14, 0x18, 0x1C, capPM + 4, capEXP + 8, capMSIX, 0xFFC], (BitVec.ofNat 12 (o + 3)).toNat / 4 * 4 = o) ∧ (zBoot { step := 6 }).boot.step < 7 ∧ 7 ≤ (zBoot { step := 7 }).boot.step ∧
    bit (beMerge (cfgWord z (capEXP + 8)) 0x8000 15) 15 = true ∧ bit (beMerge (cfgWord z (capEXP + 8)) 0x7FFF 15) 15 = false ∧ z.pcie.bme ≠ bit (beMerge (cfgWord z 4) 4 1) 2 := by decide +kernel
theorem wit_SerialPort_crc : (∀ op ∈ [1, 3, 4], crc16 (smpHead op 0x0FFFFC 255) < 65536) ∧ crc16 (smpHead 2 0x400000 0 ++ ([0xFFFFFFFF] : List Word).flatMap beWord) < 65536 ∧
    (0x00007F#24).toNat % 128 = 127 ∧ ((z.setStr 127 { desc := { consumer := 3 } }).str 127).desc.consumer = 3 := by decide +kernel
theorem wit_SerialPort_range : (0x0FFFFC#24).toNat / 4 * 4 + 4 * (0 + 1) ≤ 0x100000 ∧ (0x7FFFFC#24).toNat / 4 * 4 + 4 * (0 + 1) ≤ 0x800000 ∧ 0x100000 ≤ (0x100000#24).toNat / 4 * 4 ∧
    ¬ (0x400000 ≤ (0x100000#24).toNat / 4 * 4 ∧ (0x100000#24).toNat / 4 * 4 < 0x800000) ∧ 0x100000 < (0x0FFFFC#24).toNat / 4 * 4 + 4 * 2 ∧ (0x0FFFF8#24).toNat / 4 * 4 + 8 ≤ 0x100000 ∧
    (z.accessFault 0xFFFFC).isSome ∧ z.accessFault 0x100 = none ∧ bar2Cfg_TBL_APER (z.setRw bar2CfgAt 0) = 0 := by decide +kernel
theorem wit_MemoryWindow_cross : bar2Cfg_TBL_APER (z.setRw bar2CfgAt 0) = 0 ∧ 0x37FFF0 < 0x380000 ∧ 0x380000 < 0x37FFF0 + 32 ∧ 0x37FFF0 + 33 ≤ 0x400000 ∧ (0x37FFF0 + 33) % 4 ≠ 0 ∧ tblBase + 0x80000 < 0x47FFF1 + 16 ∧
    0x3FFFFC % 4 = 0 ∧ wsBytes [0xFFFFFFFF#32] = [255, 255, 255, 255] ∧ 256 < (List.replicate 257 (0 : Byte)).length := by decide +kernel
/-- SHA-384 of "abc" (FIPS 180-4): its first and last words. -/
theorem test_sha384_abc : (sha384 [0x61, 0x62, 0x63]).toNat / 2 ^ 320 = 0xCB00753F45A35E8B ∧ (sha384 [0x61, 0x62, 0x63]).toNat % 2 ^ 64 = 0x58BAECA134C825A7 := by decide +kernel
/-- The check values of the three CRCs over the nine bytes "123456789", as their standards list them. -/
theorem test_crc_checks : let b := (List.range 9).map (0x31 + ·)
    crc32 b = 0xCBF43926 ∧ crc32c b = 0xE3069283 ∧ crc16 b = 0x29B1 := by decide +kernel
/-! ### The spec's worked examples, and single steps -/

/-- The crack meter's block of R274's example: header and body. -/
theorem test_block_example :
    let o := codeBlock ⟨1024, [512], 7, 0, [1], 36000, true, true, false, [[0x0003E800, 0x0003EB00, 0x0003E900, 0x0003EC00]], 0, [[]]⟩ 0 true [{}]
    o.words.take 7 = [0xC1500000, 0x00010004, 0x00008CA0, 0, 1, 0, 3] ∧ o.words.drop 8 = [0xFFFFFF00, 0x007D0060, 0x61800000] ∧
      (stateWords 1 1 36004 o.mems).take 6 = [0x10000001, 0x00008CA4, 0, 0x0003EC00, 0x0003E906, 0x0003EBE2] := by decide +kernel
/-- The event example of R42: INT_N_2, vector 5 and the core. -/
theorem test_route_example : let v : Word := 0x00012506
    bit v 2 = true ∧ fld v 1 0 = 2 ∧ bit v 13 = true ∧ fld v 12 8 = 5 ∧ bit v 16 = true := by decide
/-- The stepping of R2. -/
theorem test_page_ver : fld (viewReg z 0x004) 7 0 = 0xB0 := by decide +kernel
/-- A keyed write of 2 locks the page sticky (R28). -/
theorem test_lock_sticky : ∃ t, exec (.pageLockWrite .pcie 2 0x4C4B0002) z = .next t ∧ t.lock 2 = ⟨true, true⟩ := ⟨_, rfl, by decide +kernel⟩
/-- A read of ST_SEC_LO latches the seconds (R44). -/
theorem test_st_read : ∃ t, exec (.stSecLoRead .pcie) (zAt (7 * secU + 5) 9) = .next t ∧ t.lastRead = [7] ∧ t.tb.latSec = 7 := ⟨_, rfl, by decide +kernel, by decide +kernel⟩
/-- A command waiting behind another stays (the queue is first in, first out). -/
theorem test_queue_order : ∃ t, step { z with pending := [.excLow true, .ppsLost] } = .next t ∧ t.pending = [.ppsLost] ∧ t.supply.excLow = true := ⟨_, rfl, rfl, rfl⟩
/-- A BAR_2 byte lands at its SRAM address; writing 0 back leaves nothing listed. -/
theorem test_bar2_byte : ∃ t, exec (.bar2Write .pcie 0x100 [0x5A]) z = .next t ∧ t.sram = [(0x100, 0x5A)] := ⟨_, rfl, by decide +kernel⟩
theorem test_bar2_clear : ∃ t, exec (.bar2Write .pcie 0x100 [0]) { z with sram := [(0x100, 0x5A)] } = .next t ∧ t.sram = [] := ⟨_, rfl, by decide +kernel⟩
/-- The power-up copies of R435: A, B and C seated, D spare. -/
theorem test_reset_copies : (List.range 4).map (fun i => (z.copy i).st) = [0, 0, 0, 1] := by decide
theorem test_reset_memory : z.memOk := by decide

end Sys2Proof.Tests
end

section
/-! SUPPORT. One step of the machine: it always answers a next state (R9, R26). -/

namespace Sys2Proof.Machine

/-- Settles O1: the two laws of a step, one for a waiting command and one for an empty queue. -/
theorem stepRunsFront : Obligations.StepRunsFront :=
  ⟨fun _ _ _ => step_front, fun _ => step_empty⟩

/-- Every arm of the dispatch runs its effect by `act`, or answers a next state itself: it unfolds to `.next`. -/
theorem exec_next (c : Instr) (s : State) : ∃ t, exec c s = .next t := by
  cases c <;> exact ⟨_, rfl⟩

/-- Settles O6: with a command waiting the step is its `exec`, and on an empty queue it is the tick. -/
theorem everyStepGoesOn : Obligations.EveryStepGoesOn := by
  intro s
  cases h : s.pending with
  | nil => exact ⟨_, step_empty h⟩
  | cons c rest =>
    obtain ⟨t, ht⟩ := exec_next c { s with pending := rest }
    exact ⟨t, (step_front h).trans ht⟩

end Sys2Proof.Machine
end

section
/-! SUPPORT. Writes to the tables and to on-chip memory (R32, R33): what every table write keeps, which bytes a window write stores, and
the canonical form of both memories after either. -/

namespace Sys2Proof.Machine

/-! ### What a table write keeps -/

/-- A property of the memories and registers alone that storing a table word keeps. -/
structure TableInv (P : State → Prop) : Prop where
  store : ∀ s o w, P s → P (s.setTblW o w)
  same : ∀ {s t : State}, P s → t.sram = s.sram → t.dramMem = s.dramMem → t.regs = s.regs → P t

section
variable {P : State → Prop} (hP : TableInv P)
include hP

theorem raise_tableInv (p b : Nat) {s : State} (h : P s) : P (raise p b s) := hP.same h (by simp) (by simp) (by simp)

theorem setEnt_tableInv (n : Nat) (e : Option SchEnt) {s : State} (h : P s) : P (s.setEnt n e) := hP.same h rfl rfl rfl

theorem schSpend_tableInv (n : Nat) {s : State} (h : P s) : P (schSpend n s) := setEnt_tableInv hP n none (hP.store _ _ _ h)

theorem schNote_tableInv (n b : Nat) {s : State} (h : P s) : P (schNote n b s) := raise_tableInv hP _ b (hP.same h rfl rfl rfl)

theorem schArm_tableInv (n : Nat) (lo : Int) (late : Nat) {s : State} (h : P s) : P (schArm n lo late s) := by
  unfold schArm
  dsimp only
  split
  · exact setEnt_tableInv hP n none h
  split
  · exact schNote_tableInv hP n 5 (schSpend_tableInv hP n h)
  split
  · exact setEnt_tableInv hP n none h
  generalize (if decide (schAXIS (schWords s n) ≠ 0) = true then _ else lo) = low
  split
  · split
    · exact schNote_tableInv hP n late (schSpend_tableInv hP n h)
    · exact setEnt_tableInv hP n _ h
  · exact setEnt_tableInv hP n _ h

theorem schedWrite_tableInv (n : Nat) {s : State} (h : P s) : P (schedWrite n s) := by
  unfold schedWrite
  dsimp only
  split
  · split
    · exact setEnt_tableInv hP n _ h
    · exact schArm_tableInv hP n _ 0 h
  · exact schArm_tableInv hP n _ 0 h

theorem loopNote_tableInv (o : Nat) {s : State} (h : P s) : P (loopNote o s) := by
  unfold loopNote
  split
  · exact hP.same h rfl rfl rfl
  · exact h

theorem tblPut_tableInv (o : Nat) (v : Word) {s : State} (h : P s) : P (tblPut o v s) := by
  unfold tblPut
  dsimp only
  split
  · exact h
  split
  · split
    · exact raise_tableInv hP _ _ h
    · exact hP.store _ _ _ h
  split
  · split
    · exact hP.store _ _ _ h
    · exact raise_tableInv hP _ _ h
  split
  · split
    · exact raise_tableInv hP _ _ h
    · exact hP.store _ _ _ h
  · exact hP.store _ _ _ (loopNote_tableInv hP o h)

/-- Whatever the tables' rules make of it, an access of whole words keeps what one stored word keeps. -/
theorem tblPuts_tableInv (o : Nat) (vs : List Word) {s : State} (h : P s) : P (tblPuts o vs s) :=
  foldl_keeps P _ (fun _ n => schedWrite_tableInv hP n) _ _
    (foldl_keeps P _ (fun _ (x : Nat × Word) => tblPut_tableInv hP x.1 x.2) _ s h)

theorem tblBytes_tableInv (o : Nat) (bs : List Byte) {s : State} (h : P s) : P (tblBytes o bs s) := by
  unfold tblBytes
  split
  · exact tblPuts_tableInv hP o _ h
  · exact h

end

/-- The canonical form of the memories is such a property. -/
theorem memOk_tableInv : TableInv State.memOk := ⟨setTblW_memOk, fun h h1 h2 _ => memOk_of_eq h1 h2 h⟩

/-- `t` has the registers of `s`, and its on-chip memory below the table region. -/
def State.belowTables (s t : State) : Prop := t.regs = s.regs ∧ ∀ m < tblBase, t.sramB m = s.sramB m

/-- A table word lies in the table region. -/
theorem setTblW_sramB_below (s : State) (o m : Nat) (w : Word) (h : m < tblBase) : (s.setTblW o w).sramB m = s.sramB m := by
  unfold State.setTblW
  split <;> simp [setSramW_other _ _ _ w (show m < tblBase + o ∨ tblBase + o + 4 ≤ m by omega)]

/-- What lies outside the table region is such a property too. -/
theorem belowTables_tableInv (s : State) : TableInv s.belowTables where
  store t o w := fun ⟨hr, hm⟩ => ⟨by simpa using hr, fun m h => (setTblW_sramB_below t o m w h).trans (hm m h)⟩
  same := by
    intro t u ⟨hr, hm⟩ h1 _ h3
    refine ⟨h3.trans hr, fun m h => ?_⟩
    rw [← hm m h]
    simp only [State.sramB, h1]

/-! ### Bytes outside the tables -/

/-- Bytes stored one after another from an address on: the store of `plainPut`. -/
def putBytes (a : Nat) (bs : List Byte) (s : State) : State := ((List.range bs.length).zip bs).foldl (fun t x => t.setSramB (a + x.1) x.2) s

/-- The whole words of a range of `n` bytes are no longer uncorrectable: what follows the store in `plainPut`. -/
def healWords (a n : Nat) (s : State) : State :=
  (List.range ((a + n - (a + 3) / 4 * 4) / 4)).foldl (fun t i => t.healSram ((a + 3) / 4 * 4 + 4 * i)) s

theorem plainPut_eq (a : Nat) (bs : List Byte) (s : State) : plainPut a bs s = healWords a bs.length (putBytes a bs s) := rfl

@[simp] theorem putBytes_nil (a : Nat) (s : State) : putBytes a [] s = s := rfl

theorem putBytes_cons (a : Nat) (b : Byte) (bs : List Byte) (s : State) : putBytes a (b :: bs) s = putBytes (a + 1) bs (s.setSramB a b) := by
  simp only [putBytes, List.length_cons, List.range_succ_eq_map, List.zip_cons_cons, List.foldl_cons, List.zip_map_left, List.foldl_map]
  congr 1
  funext t x
  simp [show a + (x.1 + 1) = a + 1 + x.1 by omega]

/-- Each byte lands at its address, and no other byte changes. -/
theorem putBytes_sramB (bs : List Byte) : ∀ (a m : Nat) (s : State),
    (putBytes a bs s).sramB m = if a ≤ m ∧ m < a + bs.length then bs.getD (m - a) 0 else s.sramB m := by
  induction bs with
  | nil => intro a m s; simp [show ¬ (a ≤ m ∧ m < a) by omega]
  | cons b bs ih =>
    intro a m s
    rw [putBytes_cons, ih, State.sramB_setSramB, List.length_cons]
    rcases Nat.lt_trichotomy m a with h | rfl | h
    · rw [if_neg (by omega), if_neg (by omega), if_neg (by omega)]
    · rw [if_neg (by omega), if_pos rfl, if_pos (by omega), Nat.sub_self, List.getD_cons_zero]
    · obtain ⟨k, rfl⟩ : ∃ k, m = a + 1 + k := ⟨m - (a + 1), by omega⟩
      rw [if_neg (show a + 1 + k ≠ a by omega), show a + 1 + k - a = k + 1 by omega, List.getD_cons_succ, Nat.add_sub_cancel_left]
      by_cases hk : k < bs.length
      · rw [if_pos (by omega), if_pos (by omega)]
      · rw [if_neg (by omega), if_neg (by omega)]

/-- `t` has the registers, pages and external memory of `s`. -/
def State.besideSram (s t : State) : Prop := t.regs = s.regs ∧ t.hdr = s.hdr ∧ t.dramMem = s.dramMem

theorem putBytes_besideSram (a : Nat) (bs : List Byte) (s : State) : s.besideSram (putBytes a bs s) :=
  foldl_keeps s.besideSram _ (fun t x h => by simpa [State.besideSram] using h) _ s ⟨rfl, rfl, rfl⟩

/-- Healing words changes the scrubber's notes alone. -/
theorem healWords_same (a n : Nat) (s : State) : (healWords a n s).sram = s.sram ∧ s.besideSram (healWords a n s) :=
  foldl_keeps (fun t => t.sram = s.sram ∧ s.besideSram t) _ (fun t x h => by simpa [State.besideSram] using h) _ s ⟨rfl, rfl, rfl, rfl⟩

theorem plainPut_sramB (a m : Nat) (bs : List Byte) (s : State) :
    (plainPut a bs s).sramB m = if a ≤ m ∧ m < a + bs.length then bs.getD (m - a) 0 else s.sramB m := by
  rw [← putBytes_sramB, plainPut_eq]
  simp only [State.sramB, (healWords_same a bs.length _).1]

theorem plainPut_besideSram (a : Nat) (bs : List Byte) (s : State) : s.besideSram (plainPut a bs s) := by
  obtain ⟨hr, hh, hd⟩ := putBytes_besideSram a bs s
  obtain ⟨-, hr', hh', hd'⟩ := healWords_same a bs.length (putBytes a bs s)
  exact ⟨hr'.trans hr, hh'.trans hh, hd'.trans hd⟩

@[simp] theorem plainPut_nil (a : Nat) (s : State) : plainPut a [] s = s := by
  simp [plainPut, show (a - (a + 3) / 4 * 4) / 4 = 0 by omega]

theorem plainPut_memOk (a : Nat) (bs : List Byte) {s : State} (h : s.memOk) : (plainPut a bs s).memOk := by
  have hput : (putBytes a bs s).memOk := foldl_keeps State.memOk _ (fun t x => setSramB_memOk t _ _) _ s h
  obtain ⟨hs, -, -, hd⟩ := healWords_same a bs.length (putBytes a bs s)
  exact memOk_of_eq hs hd hput

/-! ### Bytes that go by where they lie -/

/-- Bytes that are no whole aligned words are not taken by a table (log entry 93). -/
theorem tblBytes_ragged (o : Nat) (bs : List Byte) (s : State) (h : o % 4 ≠ 0 ∨ bs.length % 4 ≠ 0) : tblBytes o bs s = s := by
  simp [tblBytes, show ¬ (o % 4 = 0 ∧ bs.length % 4 = 0) by omega]

@[simp] theorem tblBytes_nil (o : Nat) (s : State) : tblBytes o [] s = s := by
  unfold tblBytes
  split <;> rfl

/-- One aligned word goes to its table as that word. -/
theorem tblBytes_word (o : Nat) (w : Word) (s : State) (h : o % 4 = 0) : tblBytes o (wsBytes [w]) s = tblPuts o [w] s := by
  have hb : wsBytes [w] = [byteOf w 0, byteOf w 1, byteOf w 2, byteOf w 3] := rfl
  simp [tblBytes, hb, h, leWord_bytes]

theorem sramPut_below (a : Nat) (bs : List Byte) (s : State) (h : a + bs.length ≤ tblBase) : sramPut a bs s = plainPut a bs s := by
  simp [sramPut, List.take_of_length_le (show bs.length ≤ tblBase - a by omega), List.drop_of_length_le (show bs.length ≤ tblBase - a by omega)]

theorem sramPut_table (o : Nat) (bs : List Byte) (s : State) (h : o + bs.length ≤ 0x80000) : sramPut (tblBase + o) bs s = tblBytes o bs s := by
  have hn : bs.length ≤ tblBase + 0x80000 - (tblBase + o) := by omega
  simp [sramPut, List.take_of_length_le hn, List.drop_of_length_le hn]

theorem sramPut_memOk (a : Nat) (bs : List Byte) {s : State} (h : s.memOk) : (sramPut a bs s).memOk :=
  plainPut_memOk _ _ (tblBytes_tableInv memOk_tableInv _ _ (plainPut_memOk _ _ h))

/-! ### The host's window -/

@[simp] theorem Src.code_eq_three (src : Src) : src.code = 3 ↔ src = Src.core := by cases src <;> decide

/-- What a window write can be: nothing, one store, or with the aperture open a store below it and one into the tables. -/
theorem bar2Write_cases (src o : Nat) (bs : List Byte) (s : State) :
    bar2Write src o bs s = s ∨ bar2Write src o bs s = sramPut o bs s ∨
    bar2Write src o bs s = sramPut (tblBase + (max o 0x380000 - 0x380000)) (bs.drop (0x380000 - o)) (sramPut o (bs.take (0x380000 - o)) s) := by
  unfold bar2Write
  split
  · exact .inl rfl
  split
  · split
    · exact .inr (.inl rfl)
    · exact .inl rfl
  split
  · exact .inl rfl
  split
  · exact .inr (.inr rfl)
  · exact .inr (.inl rfl)

theorem bar2Write_memOk (src o : Nat) (bs : List Byte) {s : State} (h : s.memOk) : (bar2Write src o bs s).memOk := by
  obtain e | e | e := bar2Write_cases src o bs s <;> rw [e]
  · exact h
  · exact sramPut_memOk o bs h
  · exact sramPut_memOk _ _ (sramPut_memOk o _ h)

/-- What stays outside the table aperture is stored as plain bytes. -/
theorem bar2Write_plain (src o : Nat) (bs : List Byte) (s : State) (hl : bs.length ≤ 256) (he : o + bs.length ≤ 0x400000)
    (ha : src = 3 ∨ bar2Cfg_TBL_APER s = 0 ∨ o + bs.length ≤ 0x380000) : bar2Write src o bs s = plainPut o bs s := by
  have hput : sramPut o bs s = plainPut o bs s := sramPut_below o bs s he
  unfold bar2Write
  rw [if_neg (by omega)]
  split
  · rw [if_pos (by unfold tblBase; omega), hput]
  rw [if_neg (by omega)]
  split
  · have hx : bs.length ≤ 0x380000 - o := by omega
    simp only [List.take_of_length_le hx, List.drop_of_length_le hx, hput]
    rw [show max o 0x380000 - 0x380000 = 0 by omega, sramPut_table 0 [] _ (by simp), tblBytes_nil]
  · exact hput

/-- With the aperture open, what lies below it is stored as plain bytes and what lies in it goes to the tables. -/
theorem bar2Write_aperture (src o : Nat) (bs : List Byte) (s : State) (hs : src ≠ 3) (hl : bs.length ≤ 256) (ha : bar2Cfg_TBL_APER s = 1)
    (he : o + bs.length ≤ 0x400000) :
    bar2Write src o bs s = tblBytes (max o 0x380000 - 0x380000) (bs.drop (0x380000 - o)) (plainPut o (bs.take (0x380000 - o)) s) := by
  have htake : (bs.take (0x380000 - o)).length = min (0x380000 - o) bs.length := List.length_take
  have hdrop : (bs.drop (0x380000 - o)).length = bs.length - (0x380000 - o) := List.length_drop
  unfold bar2Write
  rw [if_neg (by omega), if_neg hs, if_neg (by omega), if_pos ha, sramPut_table _ _ _ (by omega), sramPut_below _ _ _ (by unfold tblBase; omega)]

/-! ### TBL_DATA -/

/-- A write of TBL_DATA is a bad access or a table write (R26, R33). -/
theorem busWrite_tblData (src : Nat) (v : Word) (s : State) :
    (∃ c, busWrite src tblDataAt v s = badAccess src tblDataAt true c s) ∨ busWrite src tblDataAt v s = tblWrite v s := by
  cases hf : s.accessFault tblDataAt with
  | some c => exact .inl ⟨c, onWrite_faulty src tblDataAt c _ s hf⟩
  | none => exact .inr ((busWrite_reg src tblDataAt v s hf (by decide)).trans rfl)

/-- A read of TBL_DATA is a bad access that answers 0, or a table read (R26, R33). -/
theorem busRead_tblData (src : Nat) (s : State) :
    (∃ c, busRead src tblDataAt s = (badAccess src tblDataAt false c s).answer 0) ∨ busRead src tblDataAt s = tblRead s := by
  cases hf : s.accessFault tblDataAt with
  | some c => exact .inl ⟨c, onRead_faulty src tblDataAt c _ s hf⟩
  | none => exact .inr ((busRead_reg src tblDataAt s hf).trans (by simp [readEffect]))

theorem tblWrite_memOk (v : Word) {s : State} (h : s.memOk) : (tblWrite v s).memOk :=
  memOk_of_eq (by simp [tblWrite, tblAdvance]) (by simp [tblWrite, tblAdvance]) (tblPuts_tableInv memOk_tableInv (4 * tblAddr_ADDR s) [v] h)

theorem tblRead_memOk {s : State} (h : s.memOk) : (tblRead s).memOk :=
  memOk_of_eq (by simp [tblRead, tblAdvance]) (by simp [tblRead, tblAdvance]) h

/-- An access through TBL_DATA keeps the canonical form. -/
theorem tblDataAccess_memOk (src : Nat) (wr : Bool) (v : Word) {s : State} (h : s.memOk) :
    (if wr then busWrite src tblDataAt v else busRead src tblDataAt) s |>.memOk := by
  cases wr with
  | true =>
    obtain ⟨c, e⟩ | e := busWrite_tblData src v s
    · exact memOk_of_eq (by simp [e]) (by simp [e]) h
    · simpa [e] using tblWrite_memOk v h
  | false =>
    obtain ⟨c, e⟩ | e := busRead_tblData src s
    · exact memOk_of_eq (by simp [e]) (by simp [e]) h
    · simpa [e] using tblRead_memOk h

/-! ### The statements -/

/-- What an effect keeps, the command that runs it by `act` keeps: a held hub keeps everything. -/
theorem act_keeps {P : State → Prop} {f : State → State} {s t : State} (hf : P (f s)) (h : P s) (e : act f s = .next t) : P t := by
  cases hs : s.supply.held with
  | true => rw [act_held hs] at e; cases e; exact h
  | false => rw [act_live hs] at e; cases e; exact hf

/-- Settles O9: each of the two commands is an `act` of an effect that keeps the form. -/
theorem canonicalMemory : Obligations.CanonicalMemory := by
  intro s t src h
  exact ⟨fun o bs => act_keeps (bar2Write_memOk src.code o bs h) h, fun wr v => act_keeps (tblDataAccess_memOk src.code wr v h) h⟩

section
variable {s : State} {src : Src} {o : Nat} {bs : List Byte} (hs : s.supply.held = false)
include hs

theorem exec_bar2Write : exec (.bar2Write src o bs) s = .next (bar2Write src.code o bs s) := act_live hs

/-- Outside the table aperture a window write stores its bytes and nothing else. -/
theorem exec_bar2Write_plain (hl : bs.length ≤ 256) (he : o + bs.length ≤ 0x400000)
    (ha : src = Src.core ∨ bar2Cfg_TBL_APER s = 0 ∨ o + bs.length ≤ 0x380000) :
    ∃ t, exec (.bar2Write src o bs) s = .next t ∧ (∀ i < bs.length, t.sramB (o + i) = bs.getD i 0) ∧
      (∀ a, a < o ∨ o + bs.length ≤ a → t.sramB a = s.sramB a) ∧ t.dramMem = s.dramMem ∧ t.regs = s.regs ∧ t.hdr = s.hdr := by
  obtain ⟨hr, hh, hd⟩ := plainPut_besideSram o bs s
  refine ⟨plainPut o bs s, ?_, fun i hi => ?_, fun a h => ?_, hd, hr, hh⟩
  · rw [exec_bar2Write hs, bar2Write_plain _ o bs s hl he (by simpa using ha)]
  · simp [plainPut_sramB, hi]
  · rw [plainPut_sramB, if_neg (by omega)]

/-- With the aperture open, the parts of a write from outside the core below it and in it. -/
theorem exec_bar2Write_aperture (hsrc : src ≠ Src.core) (hl : bs.length ≤ 256) (ha : bar2Cfg_TBL_APER s = 1) (he : o + bs.length ≤ 0x400000) :
    exec (.bar2Write src o bs) s =
      .next (tblBytes (max o 0x380000 - 0x380000) (bs.drop (0x380000 - o)) (plainPut o (bs.take (0x380000 - o)) s)) := by
  rw [exec_bar2Write hs, bar2Write_aperture _ o bs s (by simpa using hsrc) hl ha he]

/-- A write from the aperture's first byte on goes to the tables whole. -/
theorem exec_bar2Write_inside (hsrc : src ≠ Src.core) (hl : bs.length ≤ 256) (ha : bar2Cfg_TBL_APER s = 1) (ho : 0x380000 ≤ o) (he : o + bs.length ≤ 0x400000) :
    exec (.bar2Write src o bs) s = .next (tblBytes (o - 0x380000) bs s) := by
  rw [exec_bar2Write_aperture hs hsrc hl ha he, show 0x380000 - o = 0 by omega, show max o 0x380000 = o by omega]
  simp

end

/-- The part of a write that lies below a bound is stored there, and nothing else is. -/
theorem plainPut_take_sramB (o e : Nat) (bs : List Byte) (s : State) (ho : o < e) (he : e < o + bs.length) :
    (∀ i, o + i < e → (plainPut o (bs.take (e - o)) s).sramB (o + i) = bs.getD i 0) ∧
    (∀ a, a < o ∨ e ≤ a → (plainPut o (bs.take (e - o)) s).sramB a = s.sramB a) := by
  have hlen : o + (bs.take (e - o)).length = e := by rw [List.length_take]; omega
  refine ⟨fun i hi => ?_, fun a h => ?_⟩
  · rw [plainPut_sramB, hlen, if_pos (by omega), Nat.add_sub_cancel_left]
    simp [List.getD_eq_getElem?_getD, show i < e - o by omega]
  · rw [plainPut_sramB, hlen, if_neg (by omega)]

/-- Settles O60: `bar2Write`'s cases by where the bytes lie. -/
theorem memoryWindow : Obligations.MemoryWindow := by
  intro s src o bs hs
  have hx := exec_bar2Write (src := src) (o := o) (bs := bs) hs
  refine ⟨fun hl => ?_, fun hl he ha => exec_bar2Write_plain hs hl he ha, fun hsrc he => ?_, fun hsrc => ⟨fun he => ?_, ?_, ?_, ?_, ?_⟩⟩
  · rw [hx, bar2Write, if_pos hl]
  · subst hsrc
    rw [hx, bar2Write, if_pos (by decide : Src.core.code = 3), if_neg (Nat.not_le.2 he), ite_self]
  · rw [hx, bar2Write, if_neg (mt (Src.code_eq_three src).1 hsrc), if_pos he, ite_self]
  · intro hl ha ho hb he hrag
    obtain ⟨hin, hout⟩ := plainPut_take_sramB o 0x380000 bs s ho hb
    obtain ⟨hr, hh, -⟩ := plainPut_besideSram o (bs.take (0x380000 - o)) s
    refine ⟨_, exec_bar2Write_aperture hs hsrc hl ha he, ?_⟩
    rw [tblBytes_ragged _ _ _ (.inr (by rw [List.length_drop]; omega))]
    exact ⟨hin, hout, hr, hh⟩
  · intro hl ha ho hb he
    obtain ⟨hin, hout⟩ := plainPut_take_sramB o 0x380000 bs s ho hb
    obtain ⟨hr, -, -⟩ := plainPut_besideSram o (bs.take (0x380000 - o)) s
    obtain ⟨hr', hbelow⟩ := tblBytes_tableInv (belowTables_tableInv (plainPut o (bs.take (0x380000 - o)) s))
      (max o 0x380000 - 0x380000) (bs.drop (0x380000 - o)) ⟨rfl, fun _ _ => rfl⟩
    refine ⟨_, exec_bar2Write_aperture hs hsrc hl ha he, fun i hi => ?_, fun a h => ?_, hr'.trans hr⟩
    · rw [hbelow _ (by unfold tblBase; omega), hin i hi]
    · rw [hbelow _ (by unfold tblBase; omega), hout a (by omega)]
  · intro hl ha ho he hrag
    rw [exec_bar2Write_inside hs hsrc hl ha ho he, tblBytes_ragged _ _ _ (by omega)]
  · intro w ha ho he h4 hbs
    have hlen : bs.length = 4 := by rw [hbs]; rfl
    rw [exec_bar2Write_inside hs hsrc (by omega) ha ho (by omega), hbs, tblBytes_word _ w s (by omega)]

end Sys2Proof.Machine
end

section
/-! SUPPORT. The upkeep of memory, lanes, clocks, pins and the governor: what each of its commands leaves as it was (R9). -/

namespace Sys2Proof.Machine

/-! ### `pathKept`, update by update -/

@[simp] theorem State.pathKept_refl (s : State) : s.pathKept s := by and_intros <;> rfl

theorem State.pathKept_trans {s t u : State} (h : s.pathKept t) (h' : t.pathKept u) : s.pathKept u := by
  unfold State.pathKept at *
  simp_all only [and_self]

section
variable (s t : State)

@[simp] theorem pathKept_raise (p b : Nat) : s.pathKept (raise p b t) ↔ s.pathKept t := by simp [State.pathKept]
@[simp] theorem pathKept_raiseIf (c : Bool) (p b : Nat) : s.pathKept (raiseIf c p b t) ↔ s.pathKept t := by simp [State.pathKept]
@[simp] theorem pathKept_badAccess (src a c : Nat) (wr : Bool) : s.pathKept (badAccess src a wr c t) ↔ s.pathKept t := by simp [State.pathKept]
@[simp] theorem pathKept_setLane (n : Nat) (v : LaneSt) : s.pathKept (t.setLane n v) ↔ s.pathKept t := by simp [State.pathKept]
@[simp] theorem pathKept_setEth (n : Nat) (v : EthSt) : s.pathKept (t.setEth n v) ↔ s.pathKept t := by simp [State.pathKept]
@[simp] theorem pathKept_setDma (n : Nat) (v : DmaCh) : s.pathKept (t.setDma n v) ↔ s.pathKept t := by simp [State.pathKept]
@[simp] theorem pathKept_bgt (x : BgtSt) : s.pathKept { t with bgt := x } ↔ s.pathKept t := Iff.rfl
@[simp] theorem pathKept_dram (x : DramSt) : s.pathKept { t with dram := x } ↔ s.pathKept t := Iff.rfl
@[simp] theorem pathKept_dma (x : DmaSt) : s.pathKept { t with dma := x } ↔ s.pathKept t := Iff.rfl
@[simp] theorem pathKept_tmr (x : TmrSt) : s.pathKept { t with tmr := x } ↔ s.pathKept t := Iff.rfl
@[simp] theorem pathKept_mgmt (x : MgmtSt) : s.pathKept { t with mgmt := x } ↔ s.pathKept t := Iff.rfl
@[simp] theorem pathKept_smp (x : SmpSt) : s.pathKept { t with smp := x } ↔ s.pathKept t := Iff.rfl
@[simp] theorem pathKept_supply (x : SupplySt) : s.pathKept { t with supply := x } ↔ s.pathKept t := Iff.rfl
@[simp] theorem pathKept_ring (x : RingSt) : s.pathKept { t with ring := x } ↔ s.pathKept t := Iff.rfl
@[simp] theorem pathKept_freeCtr (k : Nat) : s.pathKept { t with freeCtr := k } ↔ s.pathKept t := Iff.rfl
end

theorem pathKept_ite {s t u : State} (c : Prop) [Decidable c] (ht : s.pathKept t) (hu : s.pathKept u) : s.pathKept (if c then t else u) := by
  split
  · exact ht
  · exact hu

/-- An effect that leaves the measuring path, the registers and the memories alone. -/
def KeepsPath (f : State → State) : Prop := ∀ s : State, s.pathKept (f s)

/-! ### The governor (R428 to R433) -/

@[simp] theorem pathKept_bgtAsk (s t : State) (kind req mw : Nat) (dur wait : Option Nat) : s.pathKept (bgtAsk kind req mw dur wait t) ↔ s.pathKept t :=
  Iff.rfl

theorem bgtRequest_keepsPath (kind req mw : Nat) (dur wait : Option Nat) : KeepsPath (bgtRequest kind req mw dur wait) := by
  intro s
  unfold bgtRequest
  split <;> simp

theorem bgtOverrun_keepsPath (kind req : Nat) : KeepsPath (bgtOverrun kind req) := by
  intro s
  unfold bgtOverrun
  dsimp only
  split <;> simp [bgtLast]

theorem bgtReserve_keepsPath : KeepsPath bgtReserve := by
  intro s
  unfold bgtReserve
  split <;> simp

theorem bgtReleaseExc_keepsPath : KeepsPath bgtReleaseExc := by
  intro s
  simp [bgtReleaseExc, bgtDrop, bgtRelease, bgtWithdraw]

/-- A write of BGT_CMD is a bad access, RESERVE, RELEASE or nothing; none of them stores the word written (R433). -/
theorem bgtCmd_keepsPath (src : Nat) (v : Word) : KeepsPath (busWrite src 0x3120 v) := by
  intro s
  cases hf : s.accessFault 0x3120 with
  | some c => simp [busWrite, onWrite_faulty _ _ c _ s hf]
  | none =>
    have hw : busWrite src 0x3120 v s = (if fld v 1 0 = 1 then bgtReserve s else if fld v 1 0 = 2 then bgtReleaseExc s else s) :=
      (busWrite_reg src 0x3120 v s hf (by decide)).trans rfl
    rw [hw]
    split
    · exact bgtReserve_keepsPath s
    split
    · exact bgtReleaseExc_keepsPath s
    · exact s.pathKept_refl

/-! ### Pins, the core's timer, the serial port (R450, R453, R464, R471) -/

theorem excSupply_keepsPath (low : Bool) : KeepsPath (excSupply low) := fun s => s.pathKept_refl

theorem ppsRise_keepsPath : KeepsPath ppsRise := by
  intro s
  unfold ppsRise
  split <;> simp

theorem ppsFall_keepsPath : KeepsPath ppsFall := by
  intro s
  unfold ppsFall
  split <;> simp

theorem mtimeHit_keepsPath : KeepsPath mtimeHit := by
  intro s
  unfold mtimeHit
  split <;> simp

theorem smpAbort_keepsPath : KeepsPath smpAbort := by
  intro s
  simp [smpAbort]

/-! ### Clocks and voting (R403, R411, R412) -/

@[simp] theorem pathKept_pllMove (s t : State) (ev : Nat) : s.pathKept (pllMove ev t) ↔ s.pathKept t := by simp [pllMove]

@[simp] theorem pathKept_levelSync (s t : State) : s.pathKept (levelSync t) ↔ s.pathKept t := by
  unfold levelSync
  split <;> simp

theorem pllFail_keepsPath (b lock : Bool) (edges : List Int) (ps : Int) : KeepsPath (pllFail b lock edges ps) := by
  intro s
  unfold pllFail
  dsimp only
  rw [pathKept_levelSync]
  exact pathKept_ite _ (by simp) (by simp)

theorem pllReturn_keepsPath (ps : Int) : KeepsPath (pllReturn ps) := by
  intro s
  unfold pllReturn
  dsimp only
  split
  · split <;> simp
  · exact s.pathKept_refl

theorem rotBegin_keepsPath : KeepsPath rotBegin := by
  intro s
  unfold rotBegin
  split
  · split <;> simp [copyLoad, State.setCopy]
  · exact s.pathKept_refl

theorem rotation_keepsPath : KeepsPath rotation := by
  intro s
  unfold rotation
  split
  · exact rotBegin_keepsPath s
  · exact s.pathKept_refl

/-! ### External memory (R304, R307, R314, R316, R317) and the block mover (R323) -/

theorem drRetry_keepsPath : KeepsPath drRetry := by
  intro s
  unfold drRetry
  split
  · split <;> simp [drAsk]
  · exact s.pathKept_refl

theorem drTrack_keepsPath (cs : List Nat) : KeepsPath (drTrack cs) := by
  intro s
  unfold drTrack
  dsimp only
  split <;> simp

theorem drZqcs_keepsPath : KeepsPath drZqcs := by
  intro s
  unfold drZqcs
  split <;> simp

theorem drRefresh_keepsPath (rank : Nat) : KeepsPath (drRefresh rank) := by
  intro s
  unfold drRefresh
  exact pathKept_ite _ (by simp) s.pathKept_refl

@[simp] theorem pathKept_eccRead (s t : State) (a : Nat) : s.pathKept (eccRead a t) ↔ s.pathKept t := by
  unfold eccRead
  split
  · simp [eccUncorr]
  split <;> simp [eccCorr]

theorem noteErrs_keepsPath (a : Nat) (errs : List (Nat × Bool)) : KeepsPath (noteErrs a errs) := by
  intro s
  refine foldl_keeps s.pathKept _ (fun t e h => ?_) errs s s.pathKept_refl
  exact h

theorem drScrub_keepsPath (errs : List (Nat × Bool)) : KeepsPath (drScrub errs) := by
  intro s
  unfold drScrub
  dsimp only
  split
  · rw [pathKept_dram]
    refine foldl_keeps s.pathKept _ (fun t x h => ?_) _ _ (noteErrs_keepsPath _ errs s)
    split <;> simp [h]
  · exact s.pathKept_refl

theorem dmaBurst_keepsPath (c : Nat) : KeepsPath (dmaBurst c) := by
  intro s
  unfold dmaBurst
  split <;> simp [dmaPortAsk]

/-! ### The lanes (R335 to R351) -/

/-- A MAC's link change touches the MAC and its events alone. -/
theorem ethLink_keepsPath (n : Nat) (up : Bool) (speed : Nat) (anDone anFail : Bool) : KeepsPath (ethLink n up speed anDone anFail 0) := by
  intro s
  unfold ethLink
  dsimp only
  split <;> simp

/-- An effect on lane `n` that leaves the path alone and the lane as far UP as it was. -/
def LaneUpkeep (n : Nat) (f : State → State) : Prop := ∀ s : State, s.pathKept (f s) ∧ (((f s).lane n).st = 5 ↔ (s.lane n).st = 5)

/-- A lane that neither enters nor leaves UP leaves its link layer where it is: only a MAC's link may fall. -/
theorem withLane_keepsPath {n : Nat} {f : State → State} (hf : LaneUpkeep n f) : KeepsPath (withLane n f) := by
  intro s
  obtain ⟨hpath, hup⟩ := hf s
  unfold withLane laneSync
  split
  · split
    · exact State.pathKept_trans hpath (ethLink_keepsPath _ _ _ _ _ _)
    · exact hpath
  · rw [if_neg fun h => h.2 (hup.2 h.1), if_neg fun h => h.1 (hup.1 h.2)]
    exact hpath

section
variable (s t : State) (n : Nat)

@[simp] theorem pathKept_wireOut (w : WireOut) : s.pathKept (wireOut w t) ↔ s.pathKept t := Iff.rfl
@[simp] theorem pathKept_laneRaise (b : Nat) : s.pathKept (laneRaise n b t) ↔ s.pathKept t := by simp [laneRaise]
@[simp] theorem lane_wireOut (w : WireOut) (m : Nat) : (wireOut w t).lane m = t.lane m := rfl
@[simp] theorem lane_bgtAsk (kind req mw : Nat) (dur wait : Option Nat) (m : Nat) : (bgtAsk kind req mw dur wait t).lane m = t.lane m := rfl
@[simp] theorem lane_laneRaise (b m : Nat) : (laneRaise n b t).lane m = t.lane m := by simp [laneRaise]

@[simp] theorem pathKept_visorStop : s.pathKept (visorStop n t) ↔ s.pathKept t := by
  unfold visorStop
  dsimp only
  split <;> simp [State.free]

@[simp] theorem visorStop_lane_st : ((visorStop n t).lane n).st = (t.lane n).st := by
  unfold visorStop
  dsimp only
  split <;> simp

@[simp] theorem pathKept_trainOut (old : LaneSt) : s.pathKept (trainOut n old t) ↔ s.pathKept t := by
  unfold trainOut
  split <;> simp

@[simp] theorem lane_trainOut (old : LaneSt) (m : Nat) : (trainOut n old t).lane m = t.lane m := by
  unfold trainOut
  split <;> simp
end

theorem lanePll_upkeep (n : Nat) : LaneUpkeep n (lanePll n) := by
  intro s
  unfold lanePll
  split <;> simp [*]

theorem laneConverged_upkeep (n : Nat) : LaneUpkeep n (laneConverged n) := by
  intro s
  unfold laneConverged
  split <;> simp

theorem laneRetry_upkeep (n : Nat) : LaneUpkeep n (laneRetry n) := by
  intro s
  unfold laneRetry
  split
  · split <;> simp [laneAsk, *]
  · simp

theorem laneTxWake_upkeep (n : Nat) : LaneUpkeep n (laneTxWake n) := by
  intro s
  unfold laneTxWake
  dsimp only
  split <;> simp

theorem laneFreeze_upkeep (n : Nat) : LaneUpkeep n (laneFreeze n) := by
  intro s
  unfold laneFreeze
  dsimp only
  split <;> simp

theorem laneRxSleep_upkeep (n : Nat) : LaneUpkeep n (laneRxSleep n) := by
  intro s
  unfold laneRxSleep
  dsimp only
  split <;> simp

theorem laneSignal_upkeep (n : Nat) : LaneUpkeep n (laneSignal n) := by
  intro s
  unfold laneSignal
  dsimp only
  split <;> simp

theorem lnVisorDone_upkeep (n errs : Nat) : LaneUpkeep n (lnVisorDone n errs) := by
  intro s
  unfold lnVisorDone
  dsimp only
  split
  · split <;> simp
  · simp

theorem prbsLock_upkeep (n : Nat) (bits : BitVec 95) : LaneUpkeep n (prbsLock n bits) := by
  intro s
  unfold prbsLock
  generalize (if (s.lane n).polRx = true then ~~~bits else bits) = x
  split <;> simp

theorem prbsLoss_upkeep (n errs : Nat) : LaneUpkeep n (prbsLoss n errs) := by
  intro s
  unfold prbsLoss
  dsimp only
  split <;> simp

/-! ### The statement -/

/-- A command whose effect keeps the path keeps it, in a held hub too. -/
theorem next_pathKept {f : State → State} (hf : KeepsPath f) {s t : State} (e : act f s = .next t) : s.pathKept t :=
  act_keeps (hf s) s.pathKept_refl e

/-- Settles O8: each command listed is an `act` of an effect that keeps the path. -/
theorem hubUpkeepFrame : Obligations.HubUpkeepFrame := by
  intro k ch r mw errs d w b e phs ph bits cs rank es n src c hc s t h
  simp only [List.mem_cons, List.not_mem_nil, or_false] at hc
  rcases hc with rfl | rfl | rfl | rfl | rfl | rfl | rfl | rfl | rfl | rfl | rfl | rfl | rfl | rfl | rfl | rfl | rfl | rfl | rfl | rfl |
    rfl | rfl | rfl | rfl | rfl | rfl | rfl | rfl
  · exact next_pathKept (bgtRequest_keepsPath k r mw d w) h
  · exact next_pathKept (bgtOverrun_keepsPath k r) h
  · exact next_pathKept (bgtCmd_keepsPath src.code 1) h
  · exact next_pathKept (bgtCmd_keepsPath src.code 2) h
  · exact next_pathKept (excSupply_keepsPath b) h
  · exact next_pathKept ppsRise_keepsPath h
  · exact next_pathKept ppsFall_keepsPath h
  · exact next_pathKept mtimeHit_keepsPath h
  · exact next_pathKept smpAbort_keepsPath h
  · exact next_pathKept (pllFail_keepsPath b e phs ph) h
  · exact next_pathKept (pllReturn_keepsPath ph) h
  · exact next_pathKept rotation_keepsPath h
  · exact next_pathKept drRetry_keepsPath h
  · exact next_pathKept (drTrack_keepsPath cs) h
  · exact next_pathKept drZqcs_keepsPath h
  · exact next_pathKept (drRefresh_keepsPath rank) h
  · exact next_pathKept (drScrub_keepsPath es) h
  · exact next_pathKept (dmaBurst_keepsPath ch) h
  · exact next_pathKept (withLane_keepsPath (lanePll_upkeep n)) h
  · exact next_pathKept (withLane_keepsPath (laneConverged_upkeep n)) h
  · exact next_pathKept (withLane_keepsPath (laneRetry_upkeep n)) h
  · exact next_pathKept (withLane_keepsPath (laneTxWake_upkeep n)) h
  · exact next_pathKept (withLane_keepsPath (laneFreeze_upkeep n)) h
  · exact next_pathKept (withLane_keepsPath (laneRxSleep_upkeep n)) h
  · exact next_pathKept (withLane_keepsPath (laneSignal_upkeep n)) h
  · exact next_pathKept (withLane_keepsPath (lnVisorDone_upkeep n errs)) h
  · exact next_pathKept (withLane_keepsPath (prbsLock_upkeep n bits)) h
  · exact next_pathKept (withLane_keepsPath (prbsLoss_upkeep n errs)) h

end Sys2Proof.Machine
end

section
/-! SUPPORT. The register file (R25 to R31, R41): plain writes, PAGE_LOCK, the event latches and the message vectors. -/

namespace Sys2Proof.Machine

/-! ### Where a write goes -/

/-- A write to a header register of a used page has that register's effect, whatever holds the page's own registers (R26, R27). -/
theorem busWrite_usedHdr (src o : Nat) (v : Word) (s : State) (p : Fin 256) (hp : (blockOf p.val).isSome) (ho : headerOff o = true) (hlt : o < 0x100) :
    busWrite src (p.val * 0x1000 + o) v s = hdrWrite src p.val o v s := by
  rw [busWrite_hdr src _ v s (accessFault_hdr s p.val o hp p.isLt ho hlt) (by omega), show (p.val * 0x1000 + o) / 0x1000 = p.val by omega,
    show (p.val * 0x1000 + o) % 0x1000 = o by omega]

/-- A register with no LK bits is stored alike on a locked and an unlocked page. -/
theorem storeReg_noLk (src a : Nat) (v : Word) (s : State) (r : RegDef) (h : findReg (a / 0x1000) (a % 0x1000) = some r) (hlk : r.lk = 0) :
    storeReg src a v s = s.setRw a (mergeWord r false (s.rw a) v) := by
  simp [storeReg, h, mergeWord, changesLk, hlk, word]

/-! ### The reset state -/

/-- Settles O2: every field of the reset state is its default. -/
theorem resetState : Obligations.ResetState :=
  ⟨fun _ => rfl, reset_memOk, rfl, rfl, rfl, fun _ => ⟨rfl, rfl, rfl⟩, fun _ => rfl, fun _ => rfl, rfl, rfl, rfl, rfl⟩

/-! ### Plain writes -/

/-- A whole aligned write below the end of BAR_0 goes to the bus (R25). -/
theorem anyWrite_bus (src a : Nat) (v : Word) (s : State) (h4 : a % 4 = 0) (hlt : a < 0x100000) : anyWrite src a 15 v s = busWrite src a v s := by
  unfold anyWrite
  rw [if_neg (by omega), if_neg (by omega)]

/-- Settles O10: such a write is `storeReg` on an unlocked page, one stored word. -/
theorem registerWritePlain : Obligations.RegisterWritePlain := by
  intro s src a v r hreach h4 hlt hoff hr hl heff
  obtain ⟨hlive, hsound⟩ := hreach
  have hrun : anyWrite src.code a.toNat 15 v s = s.setRw a.toNat (mergeWord r false (s.rw a.toNat) v) := by
    rw [anyWrite_bus _ _ v s h4 hlt, busWrite_reg _ _ v s hsound hoff, heff, storeReg_unlocked _ _ v s r hr hl]
  refine ⟨_, (act_live hlive).trans (congrArg _ hrun), by simp [mergeWord], fun b hb => by simp [hb], ?_⟩
  simp

/-! ### PAGE_LOCK (R28) -/

theorem exec_pageLockWrite {s : State} {src : Src} {p : Fin 256} {v : Word} (hs : s.supply.held = false) (hp : (blockOf p.val).isSome) :
    exec (.pageLockWrite src p v) s = .next (lockWrite p.val v s) :=
  (act_live hs).trans (congrArg _ (busWrite_usedHdr src.code 0x030 v s p hp rfl (by decide)))

/-- With the key and without STICKY the two low bits spell the lock. -/
theorem lockWrite_keyed (p : Nat) (v : Word) (s : State) (hkey : fld v 31 16 = 0x4C4B) (hst : (s.lock p).sticky = false) :
    lockWrite p v s = (s.setLock p ⟨bit v 0 || bit v 1, bit v 1⟩).touch := by
  simp [lockWrite, hkey, hst]

/-- Settles O11: a keyed write stores the lock its low bits spell, and nothing else. -/
theorem pageLockWrite : Obligations.PageLockWrite := by
  intro s src p v hs hp
  rw [exec_pageLockWrite hs hp]
  refine ⟨fun h => ?_, fun hst l hl => ?_⟩
  · rw [lockWrite, if_pos h.symm]
  · obtain ⟨hkey, rfl⟩ : fld v 31 16 = 0x4C4B ∧ (⟨bit v 0 || bit v 1, bit v 1⟩ : PageLock) = l := by
      simp only [List.mem_cons, Prod.mk.injEq, List.not_mem_nil, or_false] at hl
      obtain ⟨rfl, rfl⟩ | ⟨rfl, rfl⟩ | ⟨rfl, rfl⟩ | ⟨rfl, rfl⟩ := hl <;> decide
    rw [lockWrite_keyed p.val v s hkey hst]
    exact ⟨_, rfl, by simp, fun q hq => by simp [hq], by simp⟩

/-! ### The event latches (R29) -/

section
variable {s : State} {src : Src} {p : Fin 256} {v : Word} (hs : s.supply.held = false) (hp : (blockOf p.val).isSome)
include hs hp

theorem exec_evtStatClear : exec (.evtStatClear src p v) s = .next (evtClear p.val v s) :=
  (act_live hs).trans (congrArg _ (busWrite_usedHdr src.code 0x024 v s p hp rfl (by decide)))

theorem exec_evtForce : exec (.evtForce src p v) s = .next (evtForce p.val v s) :=
  (act_live hs).trans (congrArg _ (busWrite_usedHdr src.code 0x02C v s p hp rfl (by decide)))

end

/-- One bit of an EVT_FORCE write: the step of `evtForce`'s fold. -/
def forceBit (p : Nat) (m : Word) (s : State) (b : Nat) : State := if bit m b then raise p b s else s

theorem evtForce_eq (p : Nat) (v : Word) (s : State) : evtForce p v s = (List.range 32).foldl (forceBit p (v &&& nevMask p)) s := rfl

/-- What every raised event keeps, forcing any events of a page keeps. -/
theorem foldl_forceBit_keeps (P : State → Prop) (p : Nat) (m : Word) (hP : ∀ b s, P s → P (raise p b s)) (bs : List Nat) {s : State} (h : P s) :
    P (bs.foldl (forceBit p m) s) := by
  refine foldl_keeps P _ (fun t b ht => ?_) bs s h
  unfold forceBit
  split
  · exact hP b t ht
  · exact ht

/-- A bit that stands in EVT_STAT still stands after events are forced. -/
theorem forceBits_mono (p : Nat) (m : Word) (q i : Nat) (bs : List Nat) {s : State} (h : bit (s.page q).stat i = true) :
    bit ((bs.foldl (forceBit p m) s).page q).stat i = true :=
  foldl_forceBit_keeps (fun t => bit (t.page q).stat i = true) p m (fun b t => raise_stat_mono p b t q i) bs h

/-- A forced event stands in EVT_STAT: it is latched at its turn, and the turns after it clear nothing. -/
theorem evtForce_latches (p : Nat) (v : Word) (s : State) (b : Nat) (hb : b < 32) (hv : bit (v &&& nevMask p) b = true) :
    bit ((evtForce p v s).page p).stat b = true := by
  obtain ⟨before, after, hl⟩ := List.append_of_mem (List.mem_range.2 hb)
  rw [evtForce_eq, hl, List.foldl_append, List.foldl_cons]
  refine forceBits_mono p _ p b after ?_
  rw [forceBit, if_pos hv]
  exact raise_latched p b _ hb

/-- Settles O12: a clear is one stored header; a force is a fold of raised events. -/
theorem eventLatches : Obligations.EventLatches := by
  refine ⟨fun s src p v hs hp => ?_, fun s src p v hs hp => ?_⟩
  · exact ⟨_, exec_evtStatClear hs hp, by simp [evtClear], by simp [evtClear], by simp [evtClear], fun q hq => by simp [evtClear, hq], by simp [evtClear]⟩
  · refine ⟨_, exec_evtForce hs hp, evtForce_latches p.val v s, fun q b => forceBits_mono p.val _ q b _, ?_⟩
    exact foldl_forceBit_keeps (fun t => t.regs = s.regs ∧ t.locks = s.locks ∧ t.sram = s.sram ∧ t.dramMem = s.dramMem) p.val _
      (fun b t ht => by simpa using ht) _ ⟨rfl, rfl, rfl, rfl⟩

/-! ### Message vectors (R41) -/

/-- A vector's number fits MSI_EOI's field. -/
theorem fld_word_vec (v : Fin 32) : fld (word v.val) 4 0 = v.val := by revert v; decide

theorem exec_msiEoi {s : State} {src : Src} {v : Fin 32} (h : s.reaches 0x1144) : exec (.msiEoi src v) s = .next (msiEoi v.val s) := by
  refine (act_live h.1).trans (congrArg _ ((busWrite_reg src.code 0x1144 _ s h.2 (by decide)).trans ?_))
  change msiEoi (fld (word v.val) 4 0) s = _
  rw [fld_word_vec]

/-- Posting: a message of an unmasked vector, the pending bit of a masked one. -/
theorem postVec_unmasked {v : Nat} {s : State} (h : s.vecMasked v = false) : postVec v s = { s with msi := { s.msi with posted := v :: s.msi.posted } } := by
  simp [postVec, h]

theorem postVec_masked {v : Nat} {s : State} (h : s.vecMasked v = true) :
    postVec v s = { s with msi := { s.msi with pba := if v ∈ s.msi.pba then s.msi.pba else v :: s.msi.pba } } := by
  simp [postVec, h]

/-- The row of the vector control words of the MSI-X table (R447). -/
def vecCtlRow : RegDef := ⟨0x80C, 32, 0x10, 1, 0x1, 0, 0, 0, 0x1⟩

theorem findReg_vecCtl (v : Fin 32) : findReg ((0x1880C + 0x10 * v.val) / 0x1000) ((0x1880C + 0x10 * v.val) % 0x1000) = some vecCtlRow := by
  revert v; decide

/-- The store of an unmasking: bit 0 of the vector's control word goes to 0. -/
def State.unmask (s : State) (v : Nat) : State := s.setRw (0x1880C + 0x10 * v) (s.rw (0x1880C + 0x10 * v) &&& ~~~1#32)

theorem unmask_vecMasked (s : State) (v : Nat) : (s.unmask v).vecMasked v = false := by
  simp [State.unmask, State.vecMasked, bit]

theorem storeReg_vecCtl (src : Nat) (v : Fin 32) (s : State) : storeReg src (0x1880C + 0x10 * v.val) 0 s = s.unmask v.val := by
  rw [storeReg_noLk src _ 0 s vecCtlRow (findReg_vecCtl v) rfl]
  simp [State.unmask, mergeWord, vecCtlRow, word]

/-- A write of 0 to a vector control word is an unmasking. -/
theorem exec_msixUnmask {s : State} {src : Src} {v : Fin 32} (h : s.reaches (0x1880C + 0x10 * v.val)) :
    exec (.msixUnmask src v) s = .next (msixCtl src.code v.val 0 s) := by
  have hpage : (0x1880C + 0x10 * v.val) / 0x1000 = 0x18 := by omega
  have hoff : (0x1880C + 0x10 * v.val) % 0x1000 = 0x80C + 0x10 * v.val := by omega
  refine (act_live h.1).trans (congrArg _ ((busWrite_reg src.code _ 0 s h.2 (by omega)).trans ?_))
  simp only [regEffect, hpage, hoff]
  change wPCIE src.code (0x80C + 0x10 * v.val) 0 s = _
  rw [wPCIE, if_pos (by omega), show (0x80C + 0x10 * v.val - 0x800) / 0x10 = v.val by omega]

/-- The pending bit of a vector goes to 0. -/
def State.dropPending (s : State) (v : Nat) : State := { s with msi := { s.msi with pba := s.msi.pba.filter (fun x => decide (x ≠ v)) } }

/-- What an EOI of an unmasked vector does: a message where the level is high. -/
theorem msiEoi_unmasked {v : Nat} {s : State} (h : s.vecMasked v = false) :
    msiEoi v s = { s with msi := { s.msi with posted := if s.vecLevel v then v :: s.msi.posted else s.msi.posted } } := by
  unfold msiEoi
  split
  · exact postVec_unmasked h
  · rfl

/-- The fabric's levels do not go by the registers of the PCIE page. -/
theorem evLevel_setRw (s : State) (a : Nat) (w : Word) (n : Nat) (ha : a ≠ 0x30224) : (s.setRw a w).evLevel n = s.evLevel n := by
  simp [State.evLevel, State.evBit, State.pageAny, Ne.symm ha]

/-- A vector's level goes by the routes and the fabric, neither of which an unmasking touches. -/
theorem unmask_vecLevel (s : State) (v : Fin 32) : (s.unmask v.val).vecLevel v.val = s.vecLevel v.val := by
  rw [Bool.eq_iff_iff]
  simp only [State.vecLevel, List.any_eq_true]
  refine exists_congr fun n => and_congr_right fun hn => ?_
  have hne : 0x1400 + 4 * n ≠ 0x1880C + 0x10 * v.val := by have := List.mem_range.1 hn; omega
  simp only [State.unmask, evLevel_setRw _ _ _ n (show 0x1880C + 0x10 * v.val ≠ 0x30224 by omega), State.route, State.rw_setRw, if_neg hne]
  exact Iff.rfl

/-- What a write of 0 does: where it unmasks a vector whose message is pending, the pending bit goes and the level is served as at an EOI;
otherwise the control word alone changes. -/
theorem msixCtl_unmask (src : Nat) (v : Fin 32) (s : State) :
    msixCtl src v.val 0 s =
      if s.vecMasked v.val = true ∧ v.val ∈ s.msi.pba then msiEoi v.val ((s.unmask v.val).dropPending v.val) else s.unmask v.val := by
  simp only [msixCtl, storeReg_vecCtl, unmask_vecMasked, Bool.not_false, Bool.and_true, Bool.and_eq_true, decide_eq_true_eq]
  rfl

/-- An unmasking leaves every other register, the pages and the message state. -/
theorem unmask_frame (s : State) (v : Nat) :
    (s.unmask v).msi = s.msi ∧ (s.unmask v).hdr = s.hdr ∧ ∀ a, a ≠ 0x1880C + 0x10 * v → (s.unmask v).rw a = s.rw a :=
  ⟨rfl, rfl, fun a ha => by simp [State.unmask, ha]⟩

/-- Settles O16: an EOI posts by the level alone; an unmasking is one stored word and, where a message was pending, the service of its level. -/
theorem msiCommands : Obligations.MsiCommands := by
  refine ⟨fun s src v h => ?_, fun s src v h => ?_⟩
  · rw [exec_msiEoi h, msiEoi]
    refine ⟨fun hl => by simp [hl], fun hl hm => by rw [if_pos hl, postVec_unmasked hm], fun hl hm hp => ?_, fun hl hm hp => ?_⟩
    · rw [if_pos hl, postVec_masked hm, if_neg hp]
    · rw [if_pos hl, postVec_masked hm, if_pos hp]
  · obtain ⟨hmsi, hhdr, hrw⟩ := unmask_frame s v.val
    have hm := unmask_vecMasked s v.val
    rw [exec_msixUnmask h, msixCtl_unmask]
    refine ⟨fun h0 => ?_, fun h1 => ?_⟩
    · exact ⟨_, by rw [if_neg (by simp [h0])], hm, hmsi, hhdr, hrw⟩
    by_cases hp : v.val ∈ s.msi.pba
    · rw [if_pos ⟨h1, hp⟩, msiEoi_unmasked (s := (s.unmask v.val).dropPending v.val) hm]
      refine ⟨_, rfl, hm, hhdr, hrw, fun hn => absurd hp hn, fun _ => ⟨rfl, ?_⟩⟩
      rw [← unmask_vecLevel s v]
      rfl
    · exact ⟨_, by rw [if_neg (fun hc => hp hc.2)], hm, hhdr, hrw, fun _ => hmsi, fun hc => absurd hc hp⟩

end Sys2Proof.Machine
end

section
/-! SUPPORT. The windowed table access (R33): what an access through TBL_DATA answers, stores and moves. -/

namespace Sys2Proof.Machine

/-! ### Table words -/

/-- A table word goes by on-chip memory alone. -/
theorem tblW_congr {s t : State} (h : t.sram = s.sram) (o : Nat) : t.tblW o = s.tblW o := by
  simp only [State.tblW, State.sramW, State.sramB, h]

/-- A table word reads back as stored. -/
@[simp] theorem tblW_setTblW (s : State) (o : Nat) (w : Word) : (s.setTblW o w).tblW o = w := by
  unfold State.setTblW
  split
  · exact (tblW_congr (by simp) o).trans (sramW_setSramW s _ w)
  · exact sramW_setSramW s _ w

/-- Storing a table word leaves the words beside it. -/
theorem tblW_setTblW_ne (s : State) (o o' : Nat) (w : Word) (h : o + 4 ≤ o' ∨ o' + 4 ≤ o) : (s.setTblW o' w).tblW o = s.tblW o := by
  have hb : ∀ m, tblBase + o ≤ m → m < tblBase + o + 4 → (s.setTblW o' w).sramB m = s.sramB m := by
    intro m h1 h2
    unfold State.setTblW
    split <;> simp [setSramW_other s (tblBase + o') m w (by omega)]
  simp only [State.tblW, State.sramW]
  rw [hb _ (by omega) (by omega), hb _ (by omega) (by omega), hb _ (by omega) (by omega), hb _ (by omega) (by omega)]

/-! ### Schedule entries (R67, R68, R71) -/

/-- Arming an entry leaves on-chip memory, or sets the entry SPENT there. -/
theorem schArm_sram (n : Nat) (lo : Int) (late : Nat) (s : State) :
    (schArm n lo late s).sram = s.sram ∨ (schArm n lo late s).sram = (schSpend n s).sram := by
  have hent : ∀ e, (s.setEnt n e).sram = s.sram := fun _ => rfl
  have hnote : ∀ b, (schNote n b (schSpend n s)).sram = (schSpend n s).sram := fun b => by simp [schNote]
  unfold schArm
  dsimp only
  split
  · exact .inl (hent _)
  split
  · exact .inr (hnote 5)
  split
  · exact .inl (hent _)
  generalize (if decide (schAXIS (schWords s n) ≠ 0) = true then _ else lo) = low
  split
  · split
    · exact .inr (hnote late)
    · exact .inl (hent _)
  · exact .inl (hent _)

theorem schedWrite_sram (n : Nat) (s : State) : (schedWrite n s).sram = s.sram ∨ (schedWrite n s).sram = (schSpend n s).sram := by
  unfold schedWrite
  dsimp only
  split
  · split
    · exact .inl rfl
    · exact schArm_sram n _ 0 s
  · exact schArm_sram n _ 0 s

/-- A spent entry has SPENT set in its word 0, and its other words as they were. -/
theorem schSpend_tblW (n o : Nat) (s : State) (h4 : o % 4 = 0) :
    (schSpend n s).tblW o = if o = 0x40000 + 16 * n then s.tblW o ||| 0x40000000#32 else s.tblW o := by
  change (s.setTblW (0x40000 + 16 * n) (s.tblW (0x40000 + 16 * n) ||| 0x40000000#32)).tblW o = _
  split
  · next h => rw [h, tblW_setTblW]
  · exact tblW_setTblW_ne s o _ _ (by omega)

/-! ### One word written -/

/-- One word written is put, and the schedule entry it belongs to is written as a whole. -/
theorem tblPuts_single (o : Nat) (v : Word) (s : State) :
    tblPuts o [v] s = match schOf o with | some n => schedWrite n (tblPut o v s) | none => tblPut o v s := by
  unfold tblPuts
  cases h : schOf o <;> simp [h, List.eraseDups_cons]

/-- The reserved part takes no word (R33). -/
theorem tblPuts_reserved (o : Nat) (v : Word) (s : State) (h : 0x58000 ≤ o) : tblPuts o [v] s = s := by
  rw [tblPuts_single, show schOf o = none from if_neg (by omega)]
  exact if_pos h

/-- A put word that no rule refuses leaves its merged value (R32, R36, R136). -/
theorem tblPut_tblW (o : Nat) (v : Word) (s : State) (h : o < 0x58000) (hctx : o < 0x20000 → (s.ctx (o / 0x80)).pend = none)
    (hhead : 0x20000 ≤ o → o < 0x20400 → headOpen s ((o - 0x20000) / 0x20) (o % 0x20 / 4) (s.tblMerge o v) = true)
    (hpool : 0x20400 ≤ o → o < 0x40000 → poolActive s ((o - 0x20400) / 4) = false) : (tblPut o v s).tblW o = s.tblMerge o v := by
  unfold tblPut
  dsimp only
  rw [if_neg (by omega)]
  split
  · next h1 => simp [hctx h1]
  split
  · next h1 h2 => simp [hhead (by omega) h2]
  split
  · next h1 h2 h3 => simp [hpool (by omega) h3]
  · exact tblW_setTblW _ o _

/-- A written word that no rule refuses holds its merged value, or as word 0 of a schedule entry also SPENT. -/
theorem tblPuts_tblW (o : Nat) (v : Word) (s : State) (h4 : o % 4 = 0) (hput : (tblPut o v s).tblW o = s.tblMerge o v) :
    (tblPuts o [v] s).tblW o = s.tblMerge o v ∨
      (0x40000 ≤ o ∧ o < 0x50000 ∧ o % 16 = 0 ∧ (tblPuts o [v] s).tblW o = s.tblMerge o v ||| 0x40000000#32) := by
  rw [tblPuts_single]
  by_cases hs : 0x40000 ≤ o ∧ o < 0x50000
  · rw [show schOf o = some ((o - 0x40000) / 16) from if_pos hs]
    obtain e | e := schedWrite_sram ((o - 0x40000) / 16) (tblPut o v s)
    · exact .inl ((tblW_congr e o).trans hput)
    · have hw := (tblW_congr e o).trans (schSpend_tblW _ o _ h4)
      rw [hput] at hw
      split at hw
      · next ho => exact .inr ⟨hs.1, hs.2, by omega, hw⟩
      · exact .inl hw
  · rw [show schOf o = none from if_neg hs]
    exact .inl hput

/-! ### TBL_ADDR and TBL_DATA -/

/-- TBL_ADDR moves on by one word, wrapping. -/
theorem tblAdvance_addr (s : State) : fld ((tblAdvance s).rw 0x120) 18 2 = (fld (s.rw 0x120) 18 2 + 1) % 2 ^ 17 := by
  rw [tblAdvance, show (0x120 : Nat) = tblAddrAt from rfl, fld_setFld _ _ _ _ _ (by decide) (by decide)]
  exact Nat.mod_mod _ _

/-- TBL_ADDR moves on in its register alone. -/
@[simp] theorem tblAdvance_sram (s : State) : (tblAdvance s).sram = s.sram := by simp [tblAdvance]

section
variable {s : State} {src : Src} {v : Word} (h : s.reaches 0x124)
include h

theorem exec_tblDataRead : exec (.tblDataAccess src false v) s = .next (tblRead s) :=
  (act_live h.1).trans (congrArg _ (busRead_reg src.code 0x124 s h.2))

theorem exec_tblDataWrite : exec (.tblDataAccess src true v) s = .next (tblWrite v s) :=
  (act_live h.1).trans (congrArg _ (busWrite_reg src.code 0x124 v s h.2 (by decide)))

end

/-- A read answers the word at TBL_ADDR, 0 in the reserved part. -/
theorem viewReg_tblData (s : State) : viewReg s tblDataAt = if 4 * tblAddr_ADDR s < 0x58000 then s.tblW (4 * tblAddr_ADDR s) else 0 := by
  rw [Nat.mul_comm 4]
  rfl

/-- Settles O14: a read and a write both move TBL_ADDR on; a write puts one word, and a schedule entry's word 0 may be SPENT after it. -/
theorem tblDataAccess : Obligations.TblDataAccess := by
  intro s src v o h ho
  have hadv : (o / 4 + 1) % 2 ^ 17 = (fld (s.rw 0x120) 18 2 + 1) % 2 ^ 17 := by omega
  have hA : o = 4 * tblAddr_ADDR s := ho
  refine ⟨⟨_, exec_tblDataRead h, ?_, ?_, tblAdvance_sram s⟩, ⟨_, exec_tblDataWrite h, ?_, fun hr => ?_, fun hlt hctx hhead hpool => ?_⟩⟩
  · rw [hA, ← viewReg_tblData]
    rfl
  · exact (tblAdvance_addr s).trans hadv.symm
  · obtain ⟨hregs, -⟩ := tblPuts_tableInv (belowTables_tableInv s) o [v] ⟨rfl, fun _ _ => rfl⟩
    rw [hadv, tblWrite, ← hA, tblAdvance_addr]
    simp only [State.rw, hregs]
  · rw [tblWrite, ← hA, tblPuts_reserved o v s hr, tblAdvance_sram]
  · rw [tblWrite, ← hA, tblW_congr (tblAdvance_sram _)]
    exact tblPuts_tblW o v s (by omega) (tblPut_tblW o v s hlt hctx hhead hpool)

end Sys2Proof.Machine
end

section
/-! SUPPORT. Page resets (R30, R31): what PAGE_RST hands to the block's own reset, where it does nothing, and how a page reset ends. -/

namespace Sys2Proof.Machine

/-! ### PAGE_CTL as PAGE_RST is written -/

/-- The word PAGE_RST is written with has it set. -/
theorem bit_or_two (w : Word) : bit (w ||| 2#32) 1 = true := bit_or_pow w 1 (by decide)

/-- The header a write of PAGE_CTL leaves: PAGE_EN and BLK_CTL as written. -/
def ctlHdr (h : PageHdr) (v : Word) : PageHdr := { h with pageEn := bit v 0, blkCtl := fld v 31 8 }

section
variable {s : State} {src : Src} {p : Fin 256} (hs : s.supply.held = false)
include hs

theorem exec_pageRst (hp : (blockOf p.val).isSome) : exec (.pageRst src p) s = .next (pageCtlWrite src.code p.val (pageRstWord s p.val) s) := by
  have hbus := busWrite_usedHdr src.code 0x010 (pageRstWord s p.val) s p hp rfl (by decide)
  rw [hdrWrite, if_pos rfl] at hbus
  change execPageRst src p s = _
  rw [← hbus]
  exact act_live hs

/-- On an unlocked page PAGE_CTL is stored, and on a page that has a page reset it begins. -/
theorem exec_pageRst_unlocked (hp : (blockOf p.val).isSome) (hl : (s.lock p.val).locked = false) :
    exec (.pageRst src p) s = .next (
      if noPageReset p.val then s.setPage p.val (ctlHdr (s.page p.val) (pageRstWord s p.val))
      else pageReset p.val (s.setPage p.val (ctlHdr (s.page p.val) (pageRstWord s p.val)))) := by
  rw [exec_pageRst hs hp, pageCtlWrite]
  simp only [hl, Bool.false_eq_true, if_false, pageRstWord, bit_or_two, Bool.true_and, ctlHdr]
  cases noPageReset p.val <;> rfl

end

/-! ### The beginning -/

/-- What a filter leaves out of a table reads as its default. -/
theorem tget_filter_none {α : Type} (d : Nat → α) (q : Nat × α → Bool) (k : Nat) : ∀ t : Tbl α, (∀ v, q (k, v) = false) → tget d (t.filter q) k = d k
  | [], _ => rfl
  | (j, v) :: t, h => by
    rw [List.filter_cons]
    split
    · next hj =>
      have hne : k ≠ j := by rintro rfl; simp [h] at hj
      simp only [tget, hne, if_false, tget_filter_none d q k t h, ite_self]
    · exact tget_filter_none d q k t h

/-- A cleared page's registers read their reset values (R30). -/
theorem rw_clearRegs (p a : Nat) (s : State) (h : a / 0x1000 = p) : (clearRegs p s).rw a = regReset a :=
  tget_filter_none regReset _ a s.regs (fun _ => by simp [h])

/-- The state a page reset hands to the block's own reset: the page's registers, latched events and header at their reset values, EVT_EN kept. -/
def rstBegin (p : Nat) (cs : List Nat) (f : State) : State :=
  (clearRegs p f).setPage p { en := (f.page p).en, rstEnd := some (f.clk + 2000), rstCtx := cs }

theorem pageReset_begins {p : Nat} {s : State} (hn : noPageReset p = false) (hr : (s.page p).rstEnd = none) (hl : ¬(p = pLOOP ∧ s.pwr.state = 4)) :
    pageReset p s = blockReset p (rstBegin p (pathCtxs s p) (flushOutputs (pathCtxs s p) s)) := by
  rw [pageReset, if_neg (by simp [hn, hr, hl])]
  rfl

theorem pageReset_not {p : Nat} {s : State} (h : noPageReset p = true ∨ (s.page p).rstEnd.isSome ∨ (p = pLOOP ∧ s.pwr.state = 4)) : pageReset p s = s :=
  if_pos h

@[simp] theorem flushOutputs_nil (s : State) : flushOutputs [] s = s := rfl

/-- A fold whose every step leaves the state where it begins leaves it. -/
theorem foldl_same {α : Type} (f : State → α → State) (s : State) : ∀ l : List α, (∀ x ∈ l, f s x = s) → l.foldl f s = s
  | [], _ => rfl
  | x :: l, h => by
    rw [List.foldl_cons, h x List.mem_cons_self]
    exact foldl_same f s l fun y hy => h y (List.mem_cons_of_mem x hy)

/-- One context's turn in `flushOutputs`: an output for every index its grids hold. -/
def flushCtx (s : State) (c : Nat) : State := (List.range (s.madeCount c)).foldl (fun t _ => ctxOutput c t) s

theorem flushCtx_none {s : State} {c : Nat} (h : s.madeCount c = 0) : flushCtx s c = s := by
  rw [flushCtx, h]
  rfl

/-- Contexts none of whose grids holds an index have nothing to deliver. -/
theorem flushOutputs_none (cs : List Nat) (s : State) (h : ∀ c ∈ cs, s.madeCount c = 0) : flushOutputs cs s = s := by
  have hall : ∀ q, (cs.filter q).foldl flushCtx s = s := fun q => foldl_same flushCtx s _ fun c hc => flushCtx_none (h c (List.mem_filter.1 hc).1)
  exact (congrArg (List.foldl flushCtx · _) (hall _)).trans (hall _)

/-! ### The end -/

theorem exec_pageResetEnd {s : State} {p : Fin 256} (hs : s.supply.held = false) : exec (.pageResetEnd p) s = .next (pageResetEnd p.val s) := act_live hs

/-- With no output fallen due, a page reset's end clears RST_BUSY and does what the page's block needs. -/
theorem pageResetEnd_quiet {p : Nat} {s : State} (h : (s.page p).rstEnd.isSome) (hq : ∀ c ∈ (s.page p).rstCtx, s.madeCount c = 0) :
    pageResetEnd p s =
      let u := s.setPage p { s.page p with rstEnd := none, rstCtx := [] }
      if p = pFENG then fengResume u
      else if stopsInput p then (s.page p).rstCtx.foldl (fun a c => settleEvent c a.st 0 false 0 a) u
      else if p = pCAL then calServe u else if p = pSTORE then ledgerDue u else u := by
  rw [pageResetEnd, if_pos h]
  dsimp only
  rw [flushOutputs_none _ s hq]

/-- FENG's reset stops no input. -/
theorem stopsInput_ne {p : Nat} (h : stopsInput p = true) : p ≠ pFENG := by rintro rfl; exact absurd h (by decide)

/-! ### PAGE_RST, case by case -/

/-- What the block's own reset is given (R30). -/
theorem rstBegin_spec (p : Nat) (cs : List Nat) (f : State) :
    (rstBegin p cs f).page p = { en := (f.page p).en, rstEnd := some (f.clk + 2000), rstCtx := cs } ∧
    (∀ a, a / 0x1000 = p → (rstBegin p cs f).rw a = regReset a) ∧
    (rstBegin p cs f).regs = f.regs.filter (fun x => decide (x.1 / 0x1000 ≠ p)) ∧
    (∀ q, q ≠ p → (rstBegin p cs f).page q = f.page q) ∧ { rstBegin p cs f with regs := f.regs, hdr := f.hdr } = f :=
  ⟨by simp [rstBegin], fun a ha => rw_clearRegs p a f ha, rfl, fun q hq => by rw [rstBegin, State.page_setPage, if_neg hq]; rfl, rfl⟩

/-- With no context on the page's path nothing else of the hub changes. -/
theorem rstBegin_quiet (p : Nat) (v : Word) (s : State) :
    let u := rstBegin p [] (s.setPage p (ctlHdr (s.page p) v))
    u.page p = { en := (s.page p).en, rstEnd := some (s.clk + 2000) } ∧ (∀ q, q ≠ p → u.page q = s.page q) ∧ { u with regs := s.regs, hdr := s.hdr } = s := by
  obtain ⟨hpage, -, -, hother, -⟩ := rstBegin_spec p [] (s.setPage p (ctlHdr (s.page p) v))
  exact ⟨hpage.trans (by simp [ctlHdr]), fun q hq => (hother q hq).trans (by simp [hq]), rfl⟩

/-- The contexts on a page's path do not go by the page headers. -/
theorem pathCtxs_setPage (s : State) (q p : Nat) (h : PageHdr) : pathCtxs (s.setPage q h) p = pathCtxs s p := rfl

section
variable {s : State} {src : Src} {p : Fin 256} (hs : s.supply.held = false)
include hs

/-- A page reset begins on an unlocked page outside one; `ctlHdr` is the header PAGE_CTL's own store leaves. -/
theorem exec_pageRst_begins (hp : (blockOf p.val).isSome) (hn : noPageReset p.val = false) (hl : (s.lock p.val).locked = false)
    (hr : (s.page p.val).rstEnd = none) (hsafe : ¬(p.val = pLOOP ∧ s.pwr.state = 4)) (s1 : State)
    (h1 : s1 = s.setPage p.val (ctlHdr (s.page p.val) (pageRstWord s p.val))) :
    exec (.pageRst src p) s = .next (blockReset p.val (rstBegin p.val (pathCtxs s1 p.val) (flushOutputs (pathCtxs s1 p.val) s1))) := by
  subst h1
  rw [exec_pageRst_unlocked hs hp hl, hn, if_neg (by decide)]
  exact congrArg _ (pageReset_begins hn (by simpa [ctlHdr] using hr) hsafe)

/-- Without a page reset to begin, an unlocked page stores PAGE_CTL's fields alone. -/
theorem exec_pageRst_none (hp : (blockOf p.val).isSome) (hl : (s.lock p.val).locked = false)
    (h : noPageReset p.val = true ∨ (s.page p.val).rstEnd.isSome ∨ (p.val = pLOOP ∧ s.pwr.state = 4)) :
    exec (.pageRst src p) s = .next (s.setPage p.val (ctlHdr (s.page p.val) (pageRstWord s p.val))) := by
  rw [exec_pageRst_unlocked hs hp hl, pageReset_not (by simpa [ctlHdr] using h), ite_self]

/-- On a locked page PAGE_RST is refused; without a page reset to refuse, what its write leaves of PAGE_CTL may still be (R26). -/
theorem exec_pageRst_locked (hp : (blockOf p.val).isSome) (hl : (s.lock p.val).locked = true) :
    exec (.pageRst src p) s = .next (lockedWrite src.code (p.val * 0x1000 + 0x010) s) ∨
      noPageReset p.val = true ∧ exec (.pageRst src p) s = .next s := by
  rw [exec_pageRst hs hp, pageCtlWrite]
  dsimp only
  rw [if_pos hl]
  split
  · exact .inl rfl
  · next h =>
    cases hn : noPageReset p.val with
    | true => exact .inr ⟨rfl, rfl⟩
    | false => exact absurd (by rw [hn, pageRstWord, bit_or_two]; rfl) h

/-- On an unused page it is a bad access (R26). -/
theorem exec_pageRst_unused (hp : blockOf p.val = none) : exec (.pageRst src p) s = .next (badAccess src.code (p.val * 0x1000 + 0x010) true 1 s) := by
  have hf : s.accessFault (p.val * 0x1000 + 0x010) = some 1 := by
    simp only [State.accessFault, show (p.val * 0x1000 + 0x010) / 0x1000 = p.val by omega, hp, or_true, if_true]
  have hbus : busWrite src.code (p.val * 0x1000 + 0x010) (pageRstWord s p.val) s = badAccess src.code (p.val * 0x1000 + 0x010) true 1 s :=
    onWrite_faulty _ _ 1 _ s hf
  change execPageRst src p s = _
  rw [← hbus]
  exact act_live hs

end

/-- A bad access latches BAD_ACCESS, a locked write LOCKED_WRITE. -/
theorem badAccess_latched (src a c : Nat) (wr : Bool) (s : State) : bit ((badAccess src a wr c s).page pSYS).stat 0 = true :=
  raise_latched pSYS 0 _ (by decide)

theorem lockedWrite_latched (src a : Nat) (s : State) : bit ((lockedWrite src a s).page pSYS).stat 1 = true :=
  raise_latched pSYS 1 _ (by decide)

/-- Reporting a locked write ends no page reset and begins none. -/
theorem lockedWrite_rstEnd (src a q : Nat) (s : State) : ((lockedWrite src a s).page q).rstEnd = (s.page q).rstEnd := by
  simp only [lockedWrite, badAccess, raise_page_keep]
  split <;> rfl

/-! ### The statement -/

/-- BGT's registers after their page's reset (R434). -/
theorem bgt_reset_registers (t : State) (h : ∀ a, a / 0x1000 = pBGT → t.rw a = regReset a) :
    bgtBudget_MW t = 600 ∧ bgtStep_STEP t = 10 ∧ bgtSupply_MV t = 12000 ∧ bgtMaxwait_MS t = 1000 ∧ bgtExc_MA t = 0 := by
  simp only [bgtBudget_MW, bgtStep_STEP, bgtSupply_MV, bgtMaxwait_MS, bgtExc_MA]
  rw [h _ rfl, h _ rfl, h _ rfl, h _ rfl, h _ rfl]
  decide

end Sys2Proof.Machine

namespace Sys2Proof
open Machine

/-- Settles O13: a page reset begins as `rstBegin`, is nothing but PAGE_CTL's own store where none can begin, is refused under a lock, and ends as
`pageResetEnd_quiet` says. -/
theorem pageReset : Obligations.PageReset := by
  refine ⟨fun s src p hs hp hn hl hr hsafe => ?_, fun s src hs hl hr hcs => ?_, fun s src hs hl hr hsafe => ?_,
    fun s src p hs => ⟨fun hp => ?_, fun hp hl h => ?_, fun hp hl => ?_⟩, fun s p hs => ⟨fun h => ?_, fun h hq => ?_⟩⟩
  · obtain ⟨s1, h1⟩ : ∃ s1, s1 = s.setPage p.val (ctlHdr (s.page p.val) (pageRstWord s p.val)) := ⟨_, rfl⟩
    have e1 : { s with hdr := s1.hdr } = s1 := by rw [h1]; rfl
    obtain ⟨hpage, hrw, hregs, hother, hrest⟩ := rstBegin_spec p.val (pathCtxs s1 p.val) (flushOutputs (pathCtxs s1 p.val) s1)
    refine ⟨s1.hdr, rstBegin p.val (pathCtxs s1 p.val) (flushOutputs (pathCtxs s1 p.val) s1), ?_⟩
    rw [e1]
    refine ⟨fun q hq => by simp [h1, hq], by simp [h1, ctlHdr], exec_pageRst_begins hs hp hn hl hr hsafe s1 h1, hpage, hrw, hregs, hother, hrest, fun hcs => ?_⟩
    rw [hcs, flushOutputs_nil, h1]
    exact rstBegin_quiet p.val _ s
  · refine ⟨_, exec_pageRst_begins hs rfl rfl hl hr (by rintro ⟨h, -⟩; exact absurd h (by decide)) _ rfl, ?_⟩
    rw [pathCtxs_setPage, hcs, flushOutputs_nil]
    obtain ⟨-, hrw, -⟩ := rstBegin_spec pBGT [] (s.setPage pBGT (ctlHdr (s.page pBGT) (pageRstWord s pBGT)))
    obtain ⟨hbud, hstep, hsup, hwait, hexc⟩ := bgt_reset_registers _ hrw
    exact ⟨rfl, rfl, rfl, rfl, rfl, rfl, rfl, hbud, hstep, hsup, hwait, hexc, rfl, rfl, rfl, rfl⟩
  · exact ⟨_, exec_pageRst_none hs rfl hl (.inr (.inr ⟨rfl, hsafe⟩)), rfl, rfl, by simp [ctlHdr, hr]⟩
  · exact ⟨_, exec_pageRst_unused hs hp, by simp, by simp, badAccess_latched _ _ _ _ s⟩
  · exact ⟨_, exec_pageRst_none hs hp hl (h.imp_right .inl), rfl, rfl, by simp [ctlHdr]⟩
  · obtain e | ⟨hn, e⟩ := exec_pageRst_locked (src := src) hs hp hl
    · exact ⟨_, e, by simp, by simp, lockedWrite_rstEnd _ _ _ s, fun _ => lockedWrite_latched _ _ s, by simp, by simp⟩
    · exact ⟨_, e, rfl, rfl, rfl, fun hc => by simp [hn] at hc, rfl, rfl⟩
  · rw [exec_pageResetEnd hs, pageResetEnd, if_neg (by simp [h])]
  · rw [exec_pageResetEnd hs, pageResetEnd_quiet h hq]
    refine ⟨fun hf hi hc hst => by simp [hf, hi, hc, hst], fun c hi hc => by simp [stopsInput_ne hi, hi, hc], fun hc => ?_, fun hst => ?_⟩
    · simp [hc, show stopsInput pCAL = false by decide, show pCAL ≠ pFENG by decide]
    · simp [hst, show stopsInput pSTORE = false by decide, show pSTORE ≠ pFENG by decide, show pSTORE ≠ pCAL by decide]

end Sys2Proof
end

section
/-! SUPPORT. The serial management port (R450, R451): what its frames answer, read and write. -/

namespace Sys2Proof.Machine

/-! ### What reads leave of the port's own state -/

@[simp] theorem setDramWs_smp (s : State) (a : Nat) (ws : List Word) : (s.setDramWs a ws).smp = s.smp :=
  foldl_keeps (fun t => t.smp = s.smp) _ (fun t x ht => by simpa [State.setDramW, State.healBeat] using ht) _ s rfl

@[simp] theorem ledgerRing_smp (e : List Word) (s : State) : (ledgerRing e s).smp = s.smp := by
  unfold ledgerRing
  dsimp only
  split <;> simp

@[simp] theorem ledgerNow_smp (body : List Word) (s : State) : (ledgerNow body s).smp = s.smp := by
  unfold ledgerNow
  dsimp only
  split
  · split <;> simp
  · simp

@[simp] theorem rangeEntry_smp (n reason first last words nmem : Nat) (s : State) : (rangeEntry n reason first last words nmem s).smp = s.smp := by
  unfold rangeEntry ledgerPut
  split
  · rfl
  · simp [ledgerSignal]

@[simp] theorem eccRead_smp (a : Nat) (s : State) : (eccRead a s).smp = s.smp := by
  unfold eccRead
  split
  · simp [eccUncorr]
  split
  · simp [eccCorr]
  · rfl

@[simp] theorem p1Ask_smp (s : State) : (p1Ask s).smp = s.smp := by
  unfold p1Ask
  split <;> simp

@[simp] theorem memRange_smp (n : Nat) (p : Pkt) (s : State) : (memRange n p s).smp = s.smp := by simp [memRange]

@[simp] theorem modPkt_smp (n q : Nat) (f : Pkt → Pkt) (s : State) : (modPkt n q f s).smp = s.smp := by simp [modPkt]

/-- Reading a packet's beats, and ledgering one that is damaged, leave the port. -/
theorem readBeats_smp (n : Nat) (p : Pkt) (as : List Nat) (dam : Bool) (s : State) :
    (if dam then memRange n p (as.foldl (fun a x => eccRead x a) s) else as.foldl (fun a x => eccRead x a) s).smp = s.smp := by
  have h : (as.foldl (fun a x => eccRead x a) s).smp = s.smp :=
    foldl_keeps (fun t => t.smp = s.smp) _ (fun t x ht => (eccRead_smp x t).trans ht) as s rfl
  split
  · exact (memRange_smp n p _).trans h
  · exact h

@[simp] theorem beginPkt_smp (n : Nat) : ∀ (f : Nat) (s : State), (beginPkt n f s).smp = s.smp
  | 0, _ => rfl
  | f + 1, s => by
    unfold beginPkt
    split
    · rfl
    split
    · exact p1Ask_smp s
    · dsimp only
      split
      · rw [beginPkt_smp n f]
        simp [readBeats_smp]
      · simp [readBeats_smp]

@[simp] theorem takeWord_smp (n : Nat) (s : State) : (takeWord n s).2.smp = s.smp := by
  have h : (if (s.str n).reading.isNone then beginPkt n ((s.str n).pkts.length) s else s).smp = s.smp := by split <;> simp
  unfold takeWord
  dsimp only
  generalize (if (s.str n).reading.isNone then beginPkt n ((s.str n).pkts.length) s else s) = s1 at h
  split
  · exact h
  split
  · exact h
  split
  · exact h
  · dsimp only
    split <;> simp [h]

theorem rdData_smp (src : Nat) (s : State) : (rdData src s).smp = s.smp := by
  unfold rdData
  dsimp only
  split
  · simp [rdAdvance]
  split
  · split <;> simp [rdAdvance, eccUncorr]
  · rfl

@[simp] theorem tiRead_smp (c : Nat) (s : State) : (tiRead c s).smp = s.smp := by
  unfold tiRead
  dsimp only
  split <;> rfl

@[simp] theorem commitPop_smp (s : State) : (commitPop s).smp = s.smp := by
  unfold commitPop
  split <;> rfl

@[simp] theorem queRead_smp (s : State) : (queRead s).smp = s.smp := by
  unfold queRead
  dsimp only
  split <;> simp

@[simp] theorem txtsRead_smp (n : Nat) (s : State) : (txtsRead n s).smp = s.smp := by
  unfold txtsRead
  dsimp only
  split <;> simp

/-- A choice of two effects leaves what both leave. -/
theorem ite_smp {c : Prop} [Decidable c] {s t u : State} (ht : t.smp = s.smp) (hu : u.smp = s.smp) : (if c then t else u).smp = s.smp := by
  split
  · exact ht
  · exact hu

/-- A sound read, whatever it changes, leaves the port. -/
theorem readEffect_smp (src a : Nat) (s : State) : (readEffect src a s).smp = s.smp := by
  have htbl : (tblRead s).smp = s.smp := by simp [tblRead, tblAdvance]
  have hotp : (otpDataRead s).smp = s.smp := by simp [otpDataRead]
  exact ite_smp htbl <| ite_smp (commitPop_smp s) <| ite_smp rfl <| ite_smp rfl <| ite_smp rfl <| ite_smp hotp <| ite_smp rfl <|
    ite_smp (tiRead_smp _ s) <| ite_smp rfl <| ite_smp rfl <| ite_smp rfl <| ite_smp (queRead_smp s) <| ite_smp (rdData_smp src s) <|
    ite_smp rfl <| ite_smp (txtsRead_smp _ s) <| ite_smp rfl <| ite_smp rfl rfl

/-- A read, sound or not, leaves the port. -/
@[simp] theorem busRead_smp (src a : Nat) (s : State) : (busRead src a s).smp = s.smp := by
  unfold busRead
  cases h : s.accessFault a with
  | some c => simp [onRead_faulty _ _ _ _ s h]
  | none => rw [onRead_sound _ _ _ s h, readEffect_smp]

/-! ### Words read -/

/-- A word below BAR_0's end is read on the bus. -/
theorem smpWord_bus {a : Nat} (h : a < 0x100000) (s : State) :
    smpWord a s = ((busRead 2 a s).lastRead.headD 0, (s.accessFault a).isSome, busRead 2 a s) := if_pos h

/-- A word above it is read in the memory window, which changes nothing. -/
theorem smpWord_window {a : Nat} (h : 0x100000 ≤ a) (s : State) : smpWord a s = (bar2Word s (a - 0x400000), false, s) := if_neg (by omega)

theorem smpWords_length (step : Nat) : ∀ (k a : Nat) (s : State), (smpWords a step k s).1.length = k
  | 0, _, _ => rfl
  | k + 1, a, _ => congrArg (· + 1) (smpWords_length step k (a + step) _)

theorem smpWord_smp (a : Nat) (s : State) : (smpWord a s).2.2.smp = s.smp := by
  by_cases h : a < 0x100000
  · simp [smpWord_bus h]
  · simp [smpWord_window (Nat.le_of_not_lt h)]

theorem smpWords_smp (step : Nat) : ∀ (k a : Nat) (s : State), (smpWords a step k s).2.2.smp = s.smp
  | 0, _, _ => rfl
  | k + 1, a, s => (smpWords_smp step k (a + step) _).trans (smpWord_smp a s)

/-- Words of the memory window: each as it stands, `step` bytes apart. -/
theorem smpWords_window (step : Nat) (s : State) : ∀ (k a : Nat), 0x400000 ≤ a →
    smpWords a step k s = ((List.range k).map (fun i => bar2Word s (a - 0x400000 + step * i)), false, s)
  | 0, _, _ => rfl
  | k + 1, a, h => by
    have ih := smpWords_window step s k (a + step) (by omega)
    have hoff : ∀ i, a + step - 0x400000 + step * i = a - 0x400000 + step * (i + 1) := fun i => by rw [Nat.mul_add]; omega
    rw [smpWords, smpWord_window (by omega)]
    dsimp only
    rw [ih, List.range_succ_eq_map, List.map_cons, List.map_map, Nat.mul_zero, Nat.add_zero, Bool.false_or]
    simp only [hoff, Function.comp_def]

/-- One word of the memory window, read again and again. -/
theorem smpWords_window_same (s : State) (a : Nat) (h : 0x400000 ≤ a) : ∀ k, smpWords a 0 k s = (List.replicate k (bar2Word s (a - 0x400000)), false, s)
  | 0 => rfl
  | k + 1 => by
    have ih := smpWords_window_same s a h k
    rw [smpWords, smpWord_window (by omega)]
    dsimp only
    rw [Nat.add_zero, ih, Bool.false_or, List.replicate_succ]

/-! ### Responses -/

/-- What the end of a frame leaves: everything but the port's count, its response and the answer. -/
theorem smpReply_answer (status : Nat) (ws : List Word) (s : State) :
    (smpReply status ws s).lastRead = ws ∧ (smpReply status ws s).smp.out.headD 0 = status ∧ (smpReply status ws s).smp.out.headD 1 = status ∧
    (smpReply status ws s).smp.frames = satInc 16 s.smp.frames ∧ (smpReply status ws s).smp.crcErr = s.smp.crcErr := ⟨rfl, rfl, rfl, rfl, rfl⟩

theorem smpCrc_spec (s : State) :
    (smpCrc s).smp = { s.smp with crcErr := satInc 8 s.smp.crcErr } ∧ (smpCrc s).strs = s.strs ∧ (smpCrc s).regs = s.regs ∧ (smpCrc s).sram = s.sram ∧
    bit ((smpCrc s).page pSMP).stat 1 = true :=
  ⟨by simp [smpCrc], by simp [smpCrc], by simp [smpCrc], by simp [smpCrc], raise_latched pSMP 1 _ (by decide)⟩

/-! ### Read frames -/

section
variable {good op addr a nm1 crc : Nat} {s : State}

theorem smpRead_crc (h : crc ≠ crc16 (smpHead op addr nm1)) : smpRead good op addr nm1 crc s = smpReply 1 (List.replicate (nm1 + 1) 0) (smpCrc s) := if_pos h

variable (hcrc : crc = crc16 (smpHead op addr nm1))
include hcrc

theorem smpRead_op (h : op ≠ good) : smpRead good op addr nm1 crc s = smpReply 4 (List.replicate (nm1 + 1) 0) s := by
  rw [smpRead]
  dsimp only
  rw [if_neg (not_not_intro hcrc), if_pos h]

theorem smpRead_range (h : op = good) (ha : addr % 2 ^ 24 / 4 * 4 = a) (hr : smpRange a (if good = 3 then 1 else nm1 + 1) = false) :
    smpRead good op addr nm1 crc s = smpReply 3 (List.replicate (nm1 + 1) 0) s := by
  rw [smpRead]
  dsimp only
  rw [if_neg (not_not_intro hcrc), if_neg (not_not_intro h), ha, hr]
  rfl

theorem smpRead_sound (h : op = good) (ha : addr % 2 ^ 24 / 4 * 4 = a) (hr : smpRange a (if good = 3 then 1 else nm1 + 1) = true) :
    smpRead good op addr nm1 crc s =
      let r := smpWords a (if good = 3 then 0 else 4) (nm1 + 1) s
      smpReply (if r.2.1 then 2 else 0) r.1 r.2.2 := by
  rw [smpRead]
  dsimp only
  rw [if_neg (not_not_intro hcrc), if_neg (not_not_intro h), ha, hr]
  rfl

end

/-- Where `n` words lie in what the port reaches. -/
theorem smpRange_iff (a n : Nat) : smpRange a n = true ↔ a + 4 * n ≤ 0x100000 ∨ 0x400000 ≤ a ∧ a + 4 * n ≤ 0x800000 := by
  simp [smpRange]

/-- The first of several words read on the bus, and the rest after it. -/
theorem smpWords_bus {a : Nat} (h : a < 0x100000) (step k : Nat) (s : State) :
    smpWords a step (k + 1) s =
      let q := smpWords (a + step) step k (busRead 2 a s)
      ((busRead 2 a s).lastRead.headD 0 :: q.1, (s.accessFault a).isSome || q.2.1, q.2.2) := by
  rw [smpWords, smpWord_bus h]

/-! ### Stream frames -/

section
variable {op addr nm1 crc : Nat} {s : State}

theorem smpStream_crc (h : crc ≠ crc16 (smpHead op addr nm1)) : smpStream op addr nm1 crc s = smpReply 1 (List.replicate (nm1 + 1) 0) (smpCrc s) := if_pos h

variable (hcrc : crc = crc16 (smpHead op addr nm1))
include hcrc

theorem smpStream_op (h : op ≠ 4) : smpStream op addr nm1 crc s = smpReply 4 (List.replicate (nm1 + 1) 0) s := by
  rw [smpStream]
  dsimp only
  rw [if_neg (not_not_intro hcrc), if_pos h]

theorem smpStream_taken (h : op = 4) (hc : (s.str (addr % 128)).desc.consumer ≠ 3) :
    smpStream op addr nm1 crc s = smpReply 5 (List.replicate (nm1 + 1) 0) s := by
  rw [smpStream]
  dsimp only
  rw [if_neg (not_not_intro hcrc), if_neg (not_not_intro h), if_pos hc]

theorem smpStream_sound (h : op = 4) (hc : (s.str (addr % 128)).desc.consumer = 3) :
    smpStream op addr nm1 crc s =
      let r := takeWords (addr % 128) (nm1 + 1) s
      smpReply (if r.2.1 < nm1 + 1 then 5 else 0) r.1 r.2.2 := by
  rw [smpStream]
  dsimp only
  rw [if_neg (not_not_intro hcrc), if_neg (not_not_intro h), if_neg (not_not_intro hc)]

end

theorem takeWords_length (n : Nat) : ∀ (k : Nat) (s : State), (takeWords n k s).1.length = k
  | 0, _ => rfl
  | k + 1, _ => congrArg (· + 1) (takeWords_length n k _)

/-! ### Write frames -/

section
variable {op addr a crc : Nat} {ws : List Word} {s : State}

theorem smpWrite_crc (h : crc ≠ crc16 (smpHead op addr (ws.length - 1) ++ ws.flatMap beWord)) :
    smpWrite op addr ws crc s = smpAnswer [1, 254] [] (smpCrc s) := if_pos h

variable (hcrc : crc = crc16 (smpHead op addr (ws.length - 1) ++ ws.flatMap beWord))
include hcrc

theorem smpWrite_op (h : op ≠ 2) : smpWrite op addr ws crc s = smpAnswer [4, 251] [] s := by
  rw [smpWrite]
  dsimp only
  rw [if_neg (not_not_intro hcrc), if_pos h]

theorem smpWrite_range (h : op = 2) (ha : addr % 2 ^ 24 / 4 * 4 = a) (hr : smpRange a ws.length = false) :
    smpWrite op addr ws crc s = smpAnswer [3, 252] [] s := by
  rw [smpWrite]
  dsimp only
  rw [if_neg (not_not_intro hcrc), if_neg (not_not_intro h), ha, hr, if_pos (.inr (.inr rfl))]

theorem smpWrite_sound (h : op = 2) (ha : addr % 2 ^ 24 / 4 * 4 = a) (hne : ws ≠ []) (hlen : ws.length ≤ 256) (hr : smpRange a ws.length = true) :
    smpWrite op addr ws crc s = smpAnswer [0, 255] [] (smpPut a ws s) := by
  rw [smpWrite]
  dsimp only
  rw [if_neg (not_not_intro hcrc), if_neg (not_not_intro h), ha, hr, if_neg (by simp [hne, hlen])]

end

/-- Words written below BAR_0's end go to the bus, in order (R450). -/
theorem smpPut_bus_one {a : Nat} (h : a < 0x100000) (w : Word) (s : State) : smpPut a [w] s = busWrite 2 a w s := if_pos h

theorem smpPut_bus_two {a : Nat} (h : a < 0x100000) (w w2 : Word) (s : State) : smpPut a [w, w2] s = busWrite 2 (a + 4) w2 (busWrite 2 a w s) := if_pos h

/-- Words written to the memory window one after another from an offset on: the fold of `smpPut` above BAR_0's end. -/
def putWords (o : Nat) (ws : List Word) (s : State) : State := ((List.range ws.length).zip ws).foldl (fun t x => bar2Write 2 (o + 4 * x.1) (wsBytes [x.2]) t) s

theorem smpPut_window {a : Nat} (h : 0x100000 ≤ a) (ws : List Word) (s : State) : smpPut a ws s = putWords (a - 0x400000) ws s := if_neg (by omega)

theorem putWords_cons (o : Nat) (w : Word) (ws : List Word) (s : State) :
    putWords o (w :: ws) s = putWords (o + 4) ws (bar2Write 2 o (wsBytes [w]) s) := by
  simp only [putWords, List.length_cons, List.range_succ_eq_map, List.zip_cons_cons, List.foldl_cons, List.zip_map_left, List.foldl_map]
  congr 1
  funext t x
  simp [show o + 4 * (x.1 + 1) = o + 4 + 4 * x.1 by omega]

/-- A whole word stored as plain bytes reads back. -/
theorem plainPut_sramW (o : Nat) (w : Word) (s : State) : (plainPut o (wsBytes [w]) s).sramW o = w := by
  have hb : wsBytes [w] = [byteOf w 0, byteOf w 1, byteOf w 2, byteOf w 3] := rfl
  simp [State.sramW, plainPut_sramB, hb, leWord_bytes]

/-- A word goes by its bytes. -/
theorem sramW_congr_below {s t : State} {o : Nat} (h : ∀ m < o + 4, t.sramB m = s.sramB m) : t.sramW o = s.sramW o := by
  simp only [State.sramW]
  rw [h o (by omega), h (o + 1) (by omega), h (o + 2) (by omega), h (o + 3) (by omega)]

/-- With the aperture shut, words written to the window land in on-chip memory and nowhere else. -/
theorem putWords_stores : ∀ (ws : List Word) (o : Nat) (s : State), bar2Cfg_TBL_APER s = 0 → o + 4 * ws.length ≤ 0x400000 →
    (∀ i < ws.length, (putWords o ws s).sramW (o + 4 * i) = ws.getD i 0) ∧ (∀ m < o, (putWords o ws s).sramB m = s.sramB m) ∧
      s.besideSram (putWords o ws s) := by
  intro ws
  induction ws with
  | nil => intro o s _ _; exact ⟨fun i hi => absurd hi (Nat.not_lt_zero i), fun _ _ => rfl, rfl, rfl, rfl⟩
  | cons w ws ih =>
    intro o s haper hfit
    rw [List.length_cons] at hfit
    have hput : bar2Write 2 o (wsBytes [w]) s = plainPut o (wsBytes [w]) s :=
      bar2Write_plain 2 o _ s (show 4 ≤ 256 by decide) (show o + 4 ≤ 0x400000 by omega) (.inr (.inl haper))
    obtain ⟨hregs, hhdr, hdram⟩ := plainPut_besideSram o (wsBytes [w]) s
    obtain ⟨hw, hbelow, hr, hh, hd⟩ := ih (o + 4) (plainPut o (wsBytes [w]) s) (by rw [bar2Cfg_TBL_APER, State.rw, hregs]; exact haper) (by omega)
    rw [putWords_cons, hput]
    refine ⟨fun i hi => ?_, fun m hm => ?_, hr.trans hregs, hh.trans hhdr, hd.trans hdram⟩
    · cases i with
      | zero =>
        exact (sramW_congr_below hbelow).trans (plainPut_sramW o w s)
      | succ i =>
        rw [List.getD_cons_succ, show o + 4 * (i + 1) = o + 4 + 4 * i by omega]
        exact hw i (Nat.lt_of_succ_lt_succ hi)
    · rw [hbelow m (by omega), plainPut_sramB, if_neg (by omega)]

/-! ### The statement -/

section
variable {s : State} (hs : s.supply.held = false) (op : Fin 256) (a : BitVec 24) (n : Fin 256) (crc : Fin 65536)
include hs

theorem exec_smpRead : exec (.smpRead op a n crc) s = .next (smpRead 1 op.val a.toNat n.val crc.val s) := act_live hs
theorem exec_smpFixedRead : exec (.smpFixedRead op a n crc) s = .next (smpRead 3 op.val a.toNat n.val crc.val s) := act_live hs
theorem exec_smpStreamRead : exec (.smpStreamRead op a n crc) s = .next (smpStream op.val a.toNat n.val crc.val s) := act_live hs
theorem exec_smpWrite (ws : List Word) : exec (.smpWrite op a ws crc) s = .next (smpWrite op.val a.toNat ws crc.val s) := act_live hs
theorem exec_smpFrameErr : exec .smpFrameErr s = .next (smpAbort s) := act_live hs

end

/-- A read frame whose CRC does not check answers zeros with status CRC, and is counted. -/
theorem smpReply_crc (ws : List Word) (s : State) :
    let t := smpReply 1 ws (smpCrc s)
    t.smp.crcErr = satInc 8 s.smp.crcErr ∧ t.smp.frames = satInc 16 s.smp.frames ∧ t.smp.out.headD 0 = 1 ∧ t.lastRead = ws ∧ t.strs = s.strs ∧
      t.regs = s.regs ∧ bit (t.page pSMP).stat 1 = true := by
  obtain ⟨hsmp, hstr, hregs, -, hev⟩ := smpCrc_spec s
  obtain ⟨hread, hout, -, hframes, hcrc⟩ := smpReply_answer 1 ws (smpCrc s)
  rw [hsmp] at hframes hcrc
  exact ⟨hcrc, hframes, hout, hread, hstr, hregs, hev⟩

/-- READ and FIXED READ on the bus: the answer's length, its first words, and the status (R26, R450). -/
theorem smpWords_reply {b : Nat} (h : b < 0x100000) (step k : Nat) (s : State) :
    let r := smpWords b step (k + 1) s
    let t := smpReply (if r.2.1 then 2 else 0) r.1 r.2.2
    t.lastRead.length = k + 1 ∧ t.lastRead.headD 0 = (busRead 2 b s).lastRead.headD 0 ∧ ((s.accessFault b).isSome → t.smp.out.headD 0 = 2) ∧
      (k = 0 → s.accessFault b = none → t.smp.out.headD 1 = 0) ∧ t.smp.frames = satInc 16 s.smp.frames := by
  intro r t
  obtain ⟨hread, hout, hout1, hframes, -⟩ := smpReply_answer (if r.2.1 then 2 else 0) r.1 r.2.2
  have hr : r = _ := smpWords_bus h step k s
  refine ⟨?_, ?_, fun hf => ?_, fun hk hf => ?_, ?_⟩
  · rw [hread]; exact smpWords_length step (k + 1) b s
  · rw [hread, hr]; rfl
  · rw [hout, hr]; simp [hf]
  · subst hk; rw [hout1, hr]; simp [hf, smpWords]
  · rw [hframes, smpWords_smp]

/-- The second word of a FIXED READ is the same address read again. -/
theorem smpWords_again {b : Nat} (h : b < 0x100000) (k : Nat) (hk : 1 ≤ k) (s : State) :
    (smpWords b 0 (k + 1) s).1.getD 1 0 = (busRead 2 b (busRead 2 b s)).lastRead.headD 0 := by
  obtain ⟨k, rfl⟩ := Nat.exists_eq_add_of_le' hk
  rw [smpWords_bus h, Nat.add_zero, smpWords_bus h]
  rfl

/-- STREAM READ of the port's own stream: the words taken, and SHORT where the head held fewer. -/
theorem takeWords_reply (i k : Nat) (s : State) :
    let r := takeWords i k s
    let t := smpReply (if r.2.1 < k then 5 else 0) r.1 r.2.2
    t.lastRead = r.1 ∧ t.lastRead.length = k ∧ t.smp.out.headD 1 = (if r.2.1 < k then 5 else 0) :=
  ⟨rfl, takeWords_length i k s, rfl⟩

/-- Settles O59: each frame is judged by its CRC, its operation, then its range or consumer; what is sound runs word by word. -/
theorem serialPort : Obligations.SerialPort := by
  refine ⟨fun s op a n crc good hs hgood => ?_, fun s op a w ws crc good hs hne hlen hgood => ?_⟩
  · have ha : a.toNat % 2 ^ 24 / 4 * 4 = a.toNat / 4 * 4 := by rw [Nat.mod_eq_of_lt a.isLt]
    have h4 : a.toNat / 4 * 4 % 4 = 0 := Nat.mul_mod_left _ 4
    generalize a.toNat / 4 * 4 = b at ha h4
    refine ⟨fun hc i hi => ?_, fun hop => ?_, fun hop => ?_, fun hop => ?_, fun hop h1 h2 => ?_, fun hop h1 h2 => ?_, fun hop h => ?_, fun hop h1 h2 => ?_,
      fun hop h => ?_, fun hop h1 h2 => ?_, fun hop hcons => ?_, fun hop hcons => ?_, ?_⟩
    · have hbad : crc.val ≠ crc16 (smpHead op.val a.toNat n.val) := hgood ▸ Fin.val_ne_of_ne hc
      simp only [List.mem_cons, List.not_mem_nil, or_false] at hi
      obtain rfl | rfl | rfl := hi
      · exact ⟨_, by rw [exec_smpRead hs, smpRead_crc hbad], smpReply_crc _ s⟩
      · exact ⟨_, by rw [exec_smpFixedRead hs, smpRead_crc hbad], smpReply_crc _ s⟩
      · exact ⟨_, by rw [exec_smpStreamRead hs, smpStream_crc hbad], smpReply_crc _ s⟩
    · rw [exec_smpRead hs, smpRead_op hgood hop]
    · rw [exec_smpFixedRead hs, smpRead_op hgood hop]
    · rw [exec_smpStreamRead hs, smpStream_op hgood hop]
    · have hr : smpRange b (n.val + 1) = false := Bool.eq_false_iff.2 (by rw [Ne, smpRange_iff]; omega)
      rw [exec_smpRead hs, smpRead_range hgood hop ha hr]
    · have hr : smpRange b 1 = false := Bool.eq_false_iff.2 (by rw [Ne, smpRange_iff]; omega)
      rw [exec_smpFixedRead hs, smpRead_range hgood hop ha hr]
    · have hr : smpRange b (n.val + 1) = true := (smpRange_iff b _).2 (.inl h)
      exact ⟨_, by rw [exec_smpRead hs, smpRead_sound hgood hop ha hr]; rfl, smpWords_reply (by omega) 4 n.val s⟩
    · have hr : smpRange b (n.val + 1) = true := (smpRange_iff b _).2 (.inr ⟨h1, h2⟩)
      have hw : smpWords b (if (1 : Nat) = 3 then 0 else 4) (n.val + 1) s = _ := smpWords_window 4 s (n.val + 1) b h1
      rw [exec_smpRead hs, smpRead_sound hgood hop ha hr, hw]
      simp only [Bool.false_eq_true, if_false]
    · have hr : smpRange b 1 = true := (smpRange_iff b _).2 (by omega)
      obtain ⟨hl, hhead, -⟩ := smpWords_reply (by omega) 0 n.val s
      exact ⟨_, by rw [exec_smpFixedRead hs, smpRead_sound hgood hop ha hr]; rfl, hl, hhead, fun hn => smpWords_again h n.val hn s⟩
    · have hr : smpRange b 1 = true := (smpRange_iff b _).2 (by omega)
      have hw : smpWords b (if (3 : Nat) = 3 then 0 else 4) (n.val + 1) s = _ := smpWords_window_same s b h1 (n.val + 1)
      rw [exec_smpFixedRead hs, smpRead_sound hgood hop ha hr, hw]
      simp only [Bool.false_eq_true, if_false]
    · rw [exec_smpStreamRead hs, smpStream_taken hgood hop hcons]
    · exact ⟨_, by rw [exec_smpStreamRead hs, smpStream_sound hgood hop hcons], takeWords_reply _ _ s⟩
    · exact ⟨_, exec_smpFrameErr hs, by simp [smpAbort], by simp [smpAbort], raise_latched pSMP 0 _ (by decide)⟩
  · have ha : a.toNat % 2 ^ 24 / 4 * 4 = a.toNat / 4 * 4 := by rw [Nat.mod_eq_of_lt a.isLt]
    have h4 : a.toNat / 4 * 4 % 4 = 0 := Nat.mul_mod_left _ 4
    generalize a.toNat / 4 * 4 = b at ha h4
    refine ⟨fun hop h hws => ?_, fun w2 hop h hws => ?_, fun hop h => ?_, fun hop h1 h2 haper => ?_, fun hop h1 h2 => ?_, fun hop => ?_, fun hc => ?_⟩
    · subst hws
      rw [exec_smpWrite hs, smpWrite_sound hgood hop ha hne hlen ((smpRange_iff b _).2 (.inl (by simp; omega))), smpPut_bus_one h]
    · subst hws
      rw [exec_smpWrite hs, smpWrite_sound hgood hop ha hne hlen ((smpRange_iff b _).2 (.inl (by simp; omega))), smpPut_bus_two (by omega)]
    · exact ⟨_, by rw [exec_smpWrite hs, smpWrite_sound hgood hop ha hne hlen ((smpRange_iff b _).2 h)], rfl⟩
    · refine ⟨_, by rw [exec_smpWrite hs, smpWrite_sound hgood hop ha hne hlen ((smpRange_iff b _).2 (.inr ⟨h1, h2⟩)), smpPut_window (by omega)], ?_⟩
      obtain ⟨hw, -, hregs, -, hdram⟩ := putWords_stores ws (b - 0x400000) s haper (by omega)
      exact ⟨hw, hregs, hdram⟩
    · have hr : smpRange b ws.length = false := Bool.eq_false_iff.2 (by rw [Ne, smpRange_iff]; omega)
      rw [exec_smpWrite hs, smpWrite_range hgood hop ha hr]
    · rw [exec_smpWrite hs, smpWrite_op hgood hop]
    · obtain ⟨hsmp, -, hregs, hsram, hev⟩ := smpCrc_spec s
      have hbad : crc.val ≠ crc16 (smpHead op.val a.toNat (ws.length - 1) ++ ws.flatMap beWord) := hgood ▸ Fin.val_ne_of_ne hc
      exact ⟨smpAnswer [1, 254] [] (smpCrc s), by rw [exec_smpWrite hs, smpWrite_crc hbad], rfl, congrArg SmpSt.crcErr hsmp, hregs, hsram, hev⟩

end Sys2Proof.Machine
end

section
/-! SUPPORT. Structure time read and measured: ST_SEC_LO, the pulses of PPS_IN and the offsets of PTP (R44, R194, R399, R400). -/

namespace Sys2Proof.Machine

/-- A register write that reaches its block runs that register's effect. -/
theorem act_busWrite {s : State} {a : Nat} (src : Nat) (v : Word) (h : s.reaches a) (ho : 0x100 ≤ a % 0x1000) :
    act (busWrite src a v) s = .next (regEffect src a v s) :=
  (act_live h.1).trans (congrArg _ (busWrite_reg src a v s h.2 ho))

/-- A field of one bit is that bit. -/
theorem fld_bit (w : Word) (b : Nat) : fld w b b = (bit w b).toNat := by
  simp [fld, nfld, bit, Nat.toNat_testBit, Nat.shiftRight_eq_div_pow]

/-- Bits set outside a field leave it. -/
theorem fld_or_out (w m : Word) (hi lo : Nat) (h : ∀ i, i < hi + 1 - lo → m.getLsbD (lo + i) = false) : fld (w ||| m) hi lo = fld w hi lo := by
  apply Nat.eq_of_testBit_eq
  intro i
  simp only [fld, testBit_nfld, BitVec.toNat_or, Nat.testBit_or]
  by_cases hi' : i < hi + 1 - lo
  · rw [show m.toNat.testBit (lo + i) = false from h i hi', Bool.or_false]
  · simp [hi']

/-! ### Pulses per second (R194) -/

section
variable {s : State} {t : Nat}

theorem exec_ppsInEdge {co : Nat} {fi : Fin 128} (hs : s.supply.held = false) :
    exec (.ppsInEdge ⟨co, fi⟩) s = .next (ppsEdge (stamp s co fi.val) s) :=
  act_live (f := fun s => ppsEdge (stamp s co fi.val) s) hs

/-- The first pulse has no predecessor to be judged by: it is kept and taken by the TIU. -/
theorem ppsEdge_first (hsrc : s.tb.srcAct ≠ 3) (hlast : s.tiu.ppsLast = none) :
    ppsEdge t s = tiuEdge 0x10 t { s with tiu := { s.tiu with ppsLast := some t, ppsClk := s.clk } } := by
  simp [ppsEdge, hsrc, hlast]

/-- A pulse too far from 1 s after its predecessor counts in PPS_BAD and is not measured. -/
theorem ppsEdge_bad {l : Nat} (hsrc : s.tb.srcAct ≠ 3) (hlast : s.tiu.ppsLast = some l) (hfar : 1280000 < tsDist (t - l) 128000000000) :
    ppsEdge t s = tiuEdge 0x10 t { s with tiu := { s.tiu with ppsLast := some t, ppsClk := s.clk, ppsBad := satInc 16 s.tiu.ppsBad } } := by
  simp [ppsEdge, hsrc, hlast, Nat.not_le.2 hfar]

/-- The distance of a timestamp from the nearest whole second. -/
def secondError (t : Nat) : Int :=
  if 2 * (t % 128000000000) < 128000000000 then ((t % 128000000000 : Nat) : Int) else ((t % 128000000000 : Nat) : Int) - 128000000000

/-- A sound pulse of a PPS that is present is measured, and shows the source in use delivering. -/
theorem ppsEdge_good {l : Nat} (hpps : s.tiu.pps = true) (hlast : s.tiu.ppsLast = some l) (hlt : l < t) (hnear : tsDist (t - l) 128000000000 ≤ 1280000) :
    ppsEdge t s = tiuEdge 0x10 t (tbMeasure 3 (secondError t * tsU * 1000)
      { s with tiu := { s.tiu with ppsLast := some t, ppsClk := s.clk }, tb := if s.tb.srcAct = 3 then { s.tb with seen3 := some s.clk } else s.tb }) := by
  by_cases hsrc : s.tb.srcAct = 3 <;> simp [ppsEdge, hpps, hlast, hlt, hnear, hsrc, secondError, tbSetSeen]

end

/-! ### PTP offsets (R399, R400) -/

/-- What counts a PTP measurement given to the servo: accepted where PTP is the source in use, discarded otherwise. -/
def ptpCounted (m : State) : State :=
  if m.tb.srcAct = 2 then { m with tb := { m.tb with ptpAccept := satInc 16 m.tb.ptpAccept } }
  else { m with tb := { m.tb with ptpDiscard := satInc 16 m.tb.ptpDiscard } }

section
variable {s : State} {v : Word}

/-- A measurement whose instant is to come, over 1 s back or before the last step is dropped; VALID is consumed. -/
theorem ptpOfsHi_absent (hv : ptpOfsAtNs_VALID s = 1)
    (h : (s.st : Int) < ptpInstant s ∨ ptpInstant s + secU < (s.st : Int) ∨ ∃ l, s.tb.lastStep = some l ∧ ptpInstant s < (l : Int)) :
    ptpOfsHi v s = { s.setFld ptpOfsAtNsAt 31 31 0 with tb := { s.tb with ptpDiscard := satInc 16 s.tb.ptpDiscard } } := by
  obtain h | h | ⟨l, hl, h⟩ := h
  · simp [ptpOfsHi, hv, Int.not_le.2 h]
  · simp [ptpOfsHi, hv, Int.not_le.2 h]
  · simp [ptpOfsHi, hv, hl, Int.not_le.2 h]

/-- One whose instant lies in the last second and not before a step is measured with the correction since; VALID is consumed. -/
theorem ptpOfsHi_instant (hv : ptpOfsAtNs_VALID s = 1) (hle : ptpInstant s ≤ (s.st : Int)) (hge : (s.st : Int) ≤ ptpInstant s + secU)
    (hstep : ∀ l, s.tb.lastStep = some l → (l : Int) ≤ ptpInstant s) :
    ptpOfsHi v s = ptpCounted (tbMeasure 2 (sgn 64 (s.tb.ptpLo.toNat + 2 ^ 32 * v.toNat) * psE + corrSince s (ptpInstant s).toNat) (s.setFld ptpOfsAtNsAt 31 31 0)) := by
  cases hl : s.tb.lastStep with
  | none => simp [ptpOfsHi, ptpCounted, hv, hle, hge, hl]
  | some l => simp [ptpOfsHi, ptpCounted, hv, hle, hge, hl, hstep l hl]

/-- One with no instant, no step having passed, is measured as it is. -/
theorem ptpOfsHi_plain (hv : ptpOfsAtNs_VALID s = 0) (hstep : s.tb.lastStep = none) :
    ptpOfsHi v s = ptpCounted (tbMeasure 2 (sgn 64 (s.tb.ptpLo.toNat + 2 ^ 32 * v.toNat) * psE) s) := by
  have hnow : (s.st : Int) ≤ s.st + secU := by omega
  simp [ptpOfsHi, ptpCounted, hv, hstep, hnow]

end

/-! ### The statement of the reads and measurements -/

section
variable {s : State} {src : Src} {v : Word}

theorem exec_stSecLoRead (h : s.reaches 0x8110) : exec (.stSecLoRead src) s = .next (stRead s) :=
  (act_live h.1).trans (congrArg _ (busRead_reg src.code 0x8110 s h.2))

theorem exec_ptpOfsAtNsWrite (h : s.reaches 0x815C) : exec (.ptpOfsAtNsWrite src v) s = .next (ptpAtNs src.code v s) :=
  act_busWrite src.code v h (by decide)

theorem exec_ptpOfsHiWrite (h : s.reaches 0x8154) : exec (.ptpOfsHiWrite src v) s = .next (ptpOfsHi v s) :=
  act_busWrite src.code v h (by decide)

/-- The row of PTP_OFS_AT_NS (R399). -/
def ptpAtNsRow : RegDef := ⟨0x15C, 1, 0x0, 1, 0xBFFFFFFF, 0x0, 0x0, 0x0, 0x0⟩

/-- On an unlocked page the write stores one word. -/
theorem ptpAtNs_unlocked (hl : (s.lock pTBASE).locked = false) (n : Nat) :
    ptpAtNs n v s = s.setRw ptpOfsAtNsAt (mergeWord ptpAtNsRow false (s.rw ptpOfsAtNsAt) (v ||| word (2 ^ 31))) :=
  storeReg_unlocked n ptpOfsAtNsAt _ s ptpAtNsRow (by decide) hl

theorem ptpAtNs_valid (hl : (s.lock pTBASE).locked = false) (n : Nat) : ptpOfsAtNs_VALID (ptpAtNs n v s) = 1 := by
  rw [ptpAtNs_unlocked hl, ptpOfsAtNs_VALID, State.rw_setRw, if_pos rfl, mergeWord, fld_merge_in _ _ _ 31 31 (by decide), fld_bit,
    bit_or_pow v 31 (by decide)]
  rfl

theorem ptpAtNs_ns (hl : (s.lock pTBASE).locked = false) (n : Nat) : ptpOfsAtNs_NS (ptpAtNs n v s) = fld v 29 0 := by
  rw [ptpAtNs_unlocked hl, ptpOfsAtNs_NS, State.rw_setRw, if_pos rfl, mergeWord, fld_merge_in _ _ _ 29 0 (by decide), fld_or_out v _ 29 0 (by decide)]

end

/-- Settles O17: a read latches ST; a pulse is judged by its predecessor; a PTP offset is judged by its instant. -/
theorem timeReadsAndMeasures : Obligations.TimeReadsAndMeasures := by
  refine ⟨fun s src h => ?_, fun s co ts fi e hs hts he => ?_, fun s src v h hl => ?_, fun s src v h => ?_⟩
  · exact ⟨_, exec_stSecLoRead h, rfl, rfl, rfl, rfl, rfl, rfl, rfl⟩
  · subst hts he
    rw [exec_ppsInEdge hs]
    exact ⟨fun hsrc hlast => by rw [ppsEdge_first hsrc hlast], fun l hsrc hlast _ hfar => by rw [ppsEdge_bad hsrc hlast hfar],
      fun l hpps hlast hlt hnear => congrArg _ (ppsEdge_good hpps hlast hlt hnear)⟩
  · exact ⟨_, exec_ptpOfsAtNsWrite h, ptpAtNs_valid hl _, ptpAtNs_ns hl _, by simp [ptpAtNs], by simp [ptpAtNs]⟩
  · rw [exec_ptpOfsHiWrite h]
    refine ⟨fun hv hout => ⟨_, congrArg _ (ptpOfsHi_absent hv hout), ?_, rfl, rfl⟩,
      fun hv hle hge hstep => congrArg _ (ptpOfsHi_instant hv hle hge hstep), fun hv hstep => congrArg _ (ptpOfsHi_plain hv hstep)⟩
    exact fld_setFld s ptpOfsAtNsAt 31 31 0 (by decide) (by decide)

end Sys2Proof.Machine
end

section
/-! SUPPORT. The sources of structure time: what a loss, a return, a long holdover and a write of TB_CTL make of the one in use (R46, R51, R52, R485). -/

namespace Sys2Proof.Machine

/-! ### What the servo's operations leave of the timebase (R43, R48, R50, R52) -/

@[simp] theorem tbSetFreq_tb (f : Int) (s : State) : (tbSetFreq f s).tb = { s.tb with freq := clampI (-freqMax) freqMax f } := by simp [tbSetFreq]

@[simp] theorem tbSetFreq_frame (f : Int) (s : State) : (tbSetFreq f s).st = s.st ∧ (tbSetFreq f s).regs = s.regs := by simp [tbSetFreq]

/-- LOCKED is 0 after it, whether it stood or not. -/
@[simp] theorem tbUnlock_tb (s : State) : (tbUnlock s).tb = { s.tb with locked := false } := by
  unfold tbUnlock
  split
  · simp
  · next h => rw [← Bool.eq_false_iff.2 h]

@[simp] theorem tbUnlock_frame (s : State) : (tbUnlock s).st = s.st ∧ (tbUnlock s).regs = s.regs := by
  unfold tbUnlock
  split <;> simp

theorem tbUnlock_stat_mono (s : State) (q i : Nat) (h : bit (s.page q).stat i = true) : bit ((tbUnlock s).page q).stat i = true := by
  unfold tbUnlock
  split
  · exact raise_stat_mono pTBASE 9 _ q i h
  · exact h

/-- HOLD_ACTIVE is 0 after it, whether it stood or not; the source and FREQ stay. -/
theorem tbHoldOff_spec (s : State) : (tbHoldOff s).tb.holdActive = false ∧ (tbHoldOff s).tb.holdover = s.tb.holdover ∧
    (tbHoldOff s).tb.srcAct = s.tb.srcAct ∧ (tbHoldOff s).tb.freq = s.tb.freq ∧ (tbHoldOff s).regs = s.regs ∧ (tbHoldOff s).st = s.st := by
  unfold tbHoldOff
  split
  · and_intros <;> rfl
  · next h => exact ⟨Bool.eq_false_iff.2 h, rfl, rfl, rfl, rfl, rfl⟩

/-- In holdover the correction is 0 and HO_EST counts on from the last error; where the timebase was not in holdover TB_HOLDOVER is latched (R51). -/
theorem tbFreeze_spec (s : State) (h : s.tb.holdover = false) :
    (tbFreeze s).tb.holdover = true ∧ (tbFreeze s).tb.hoStart = s.clk ∧ (tbFreeze s).tb.hoErr = s.tb.err.natAbs ∧ (tbFreeze s).tb.corr = 0 ∧
      (tbFreeze s).st = s.st ∧ (tbFreeze s).regs = s.regs ∧ bit ((tbFreeze s).page pTBASE).stat 1 = true := by
  refine ⟨?_, ?_, ?_, ?_, ?_, ?_, ?_⟩
  case refine_7 =>
    refine tbUnlock_stat_mono _ pTBASE 1 ?_
    rw [h]
    exact raise_latched pTBASE 1 _ (by decide)
  all_goals simp [tbFreeze, tbSetCorr]

/-- Holdover ends without a source: the timebase runs free with FREQ as it is (R45, R485). -/
theorem tbFree_spec (s : State) : (tbFree s).tb.holdover = false ∧ (tbFree s).tb.holdActive = false ∧ (tbFree s).tb.srcAct = 0 ∧
    (tbFree s).tb.freq = s.tb.freq ∧ (tbFree s).regs = s.regs ∧ (tbFree s).st = s.st ∧ bit ((tbFree s).page pTBASE).stat 3 = true := by
  obtain ⟨hact, hhold, hsrc, hfreq, hregs, hst⟩ :=
    tbHoldOff_spec (tbAcquire 0 { s with tb := { s.tb with holdover := false, recovering := false, retSince := none } })
  simp only [tbFree, raise_fields]
  exact ⟨hhold, hact, hsrc, hfreq, hregs, hst, raise_latched pTBASE 3 _ (by decide)⟩

/-! ### A source lost (R46, R51) -/

/-- Source 0, free run, delivers no measurements. -/
theorem tbDelivers_zero (s : State) : tbDelivers s 0 = false := by simp [tbDelivers, tbSeen]

section
variable {s : State}

theorem tbLost_none (h : s.tb.srcAct = 0 ∨ tbDelivers s s.tb.srcAct = true) : tbLost s = s := if_pos (h.imp_right .inl)

variable (hsrc : s.tb.srcAct ≠ 0) (hdel : tbDelivers s s.tb.srcAct = false) (hho : s.tb.holdover = false)
include hsrc hdel hho

/-- Out of holdover a lost source gives way to the alternate, to free run on a crown, or to holdover. -/
theorem tbLost_cases : tbLost s =
    if s.tb.srcAct = tbSel s ∧ tbAlt s ≠ s.tb.srcAct ∧ tbDelivers s (tbAlt s) = true then
      raise pTBASE 4 (tbAcquire (tbAlt s) { s with tb := { s.tb with retSince := none } })
    else if s.tb.srcAct = 1 ∧ s.ring.crown = true ∧ tbAlt s = 0 then tbAcquire 0 s
    else tbFreeze s := by
  simp [tbLost, hsrc, hdel, hho]

end

section
variable {s : State}

theorem exec_tbSourceLost (hs : s.supply.held = false) : exec .tbSourceLost s = .next (tbLost s) := act_live hs
theorem exec_tbSrcReturn (hs : s.supply.held = false) : exec .tbSrcReturn s = .next (tbReturn s) := act_live hs
theorem exec_tbHoldOn (hs : s.supply.held = false) : exec .tbHoldOn s = .next (tbHoldCheck s) := act_live hs
theorem exec_tbCtlWrite {src : Src} {v : Word} (h : s.reaches 0x8100) : exec (.tbCtlWrite src v) s = .next (tbCtlWrite src.code v s) :=
  act_busWrite src.code v h (by decide)

/-- SRC_SEL back for 10 s is taken back (R46). -/
theorem tbReturn_back {r : Nat} (hr : s.tb.retSince = some r) (hsel : s.tb.srcAct ≠ tbSel s) (hdel : tbDelivers s (tbSel s) = true)
    (hlong : r + 10000000000 ≤ s.clk) : tbReturn s = raise pTBASE 4 (tbAcquire (tbSel s) { s with tb := { s.tb with retSince := none } }) := by
  simp [tbReturn, hr, hsel, hdel, State.passed, hlong]

/-- Past HOLD_LIMIT in holdover HOLD_ACTIVE rises at the present ST (R52). -/
theorem tbHoldCheck_past (hho : s.tb.holdover = true) (hrec : s.tb.recovering = false) (hact : s.tb.holdActive = false)
    (hpast : holdLimit_LIMIT s * (2 * 10 ^ 27 * 2 ^ 48) < hoEstNum s (s.clk - s.tb.hoStart)) :
    tbHoldCheck s = raise pTBASE 2 { s with tb := { s.tb with holdActive := true, holds := (s.st, none) :: holdsKept s } } := by
  rw [tbHoldCheck, if_pos ⟨hho, by rw [hrec]; rfl, hpast⟩, tbHoldOn, hact]
  rfl

end

/-! ### TB_CTL (R485) -/

section
variable {s u : State} (htb : u.tb = s.tb)
include htb

theorem tbReselect_same (hho : s.tb.holdover = false) (hsel : tbSel u = tbSel s) (halt : tbAlt u = tbAlt s) : tbReselect s u = u := by
  simp [tbReselect, htb, hho, hsel, halt]

/-- A newly named SRC_SEL that delivers is acquired at once. -/
theorem tbReselect_new (hho : s.tb.holdover = false) (hsel : tbSel u ≠ tbSel s) (hact : s.tb.srcAct ≠ tbSel u) (h0 : tbSel u ≠ 0) (h1 : tbSel u ≠ 1)
    (hdel : tbDelivers u (tbSel u) = true) : tbReselect s u = tbAcquire (tbSel u) { u with tb := { s.tb with retSince := none } } := by
  simp [tbReselect, htb, hho, hsel.symm, hact, h0, h1, hdel]

theorem tbReselect_free (hho : s.tb.holdover = true) (hsel : tbSel u = 0) (halt : tbAlt u = 0) : tbReselect s u = tbFree u := by
  simp [tbReselect, htb, hho, hsel, halt]

/-- In holdover, with a source still named and none recovering, nothing more happens off the crown. -/
theorem tbReselect_holdover (hho : s.tb.holdover = true) (hany : tbSel u ≠ 0 ∨ tbAlt u ≠ 0) (hsel : tbSel u = tbSel s) (hrec : s.tb.recovering = false)
    (hcrown : u.ring.crown = false) : tbReselect s u = u := by
  have hnone : ¬(tbSel s = 0 ∧ tbAlt u = 0) := fun ⟨h0, ha⟩ => hany.elim (· (hsel.trans h0)) (· ha)
  simp [tbReselect, tbCrown, htb, hho, hsel, hnone, hrec, hcrown]

end

/-- Settles O18: each command by the cases of the loss, the return, the limit and the reselection. -/
theorem timeSources : Obligations.TimeSources := by
  refine ⟨fun s hs hsrc hdel hho => ?_, fun s hs h => ?_, fun s r hs hr hsel hdel hlong => ?_, fun s hs hho hrec hact hpast => ?_, fun s u src v h hu => ?_⟩
  · have hlost := tbLost_cases hsrc hdel hho
    rw [exec_tbSourceLost hs]
    refine ⟨fun hsel halt hadel => ?_, fun h1 hcrown halt hsel => ?_, fun hnoalt hnocrown => ?_⟩
    · rw [hlost, if_pos ⟨hsel, halt, hadel⟩]
      exact ⟨_, rfl, by simp [tbAcquire], by simp [tbAcquire], by simp [tbAcquire], raise_latched pTBASE 4 _ (by decide)⟩
    · rw [hlost, if_neg (by simp [halt, tbDelivers_zero]), if_pos ⟨h1, hcrown, halt⟩]
      exact ⟨_, rfl, rfl, hho, rfl, rfl⟩
    · have halone : ¬(s.tb.srcAct = tbSel s ∧ tbAlt s ≠ s.tb.srcAct ∧ tbDelivers s (tbAlt s) = true) := by
        rintro ⟨ha, hb, hc⟩
        obtain h | h | h := hnoalt
        · exact h ha
        · exact hb h
        · exact Bool.false_ne_true (h.symm.trans hc)
      rw [hlost, if_neg halone, if_neg hnocrown]
      exact ⟨_, rfl, tbFreeze_spec s hho⟩
  · rw [exec_tbSourceLost hs, tbLost_none h]
  · rw [exec_tbSrcReturn hs, tbReturn_back hr hsel hdel hlong]
    exact ⟨_, rfl, by simp [tbAcquire], by simp [tbAcquire], by simp [tbAcquire], raise_latched pTBASE 4 _ (by decide)⟩
  · rw [exec_tbHoldOn hs, tbHoldCheck_past hho hrec hact hpast]
    exact ⟨_, rfl, by simp, by simp, by simp, by simp, raise_latched pTBASE 2 _ (by decide)⟩
  · have htb : u.tb = s.tb := by simp [hu]
    have hring : u.ring = s.ring := by simp [hu]
    have hst : u.st = s.st := by simp [hu]
    rw [exec_tbCtlWrite h, tbCtlWrite, show storeReg src.code tbCtlAt v s = u from hu.symm]
    refine ⟨fun hho hsel halt => by rw [tbReselect_same htb hho hsel halt], fun hho hsel hact h0 h1 hdel => ?_, fun hho hsel halt => ?_,
      fun hho hany hsel hrec hcrown => by rw [tbReselect_holdover htb hho hany hsel hrec (hring ▸ hcrown)]⟩
    · rw [tbReselect_new htb hho hsel hact h0 h1 hdel]
      rfl
    · obtain ⟨hh, ha, hz, hf, hr, ht, hb⟩ := tbFree_spec u
      exact ⟨_, by rw [tbReselect_free htb hho hsel halt], hh, ha, hz, hf.trans (congrArg _ htb), hr, ht.trans hst, hb⟩

end Sys2Proof.Machine
end

section
/-! SUPPORT. Steps of structure time and the leap second (R49, R54). -/

namespace Sys2Proof.Machine

section
variable {s : State}

/-- GO alone, or with ABS, carries ABS in its bit 1. -/
theorem exec_stepCmdGo {src : Src} {ab : Bool} (h : s.reaches 0x8168) : exec (.stepCmdGo src ab) s = .next (stepGo ab s) := by
  cases ab
  · exact act_busWrite src.code 1#32 h (by decide)
  · exact act_busWrite src.code 3#32 h (by decide)

theorem exec_tbStepDone (hs : s.supply.held = false) : exec .tbStepDone s = .next (stepDone s) := act_live hs
theorem exec_tbLeap (hs : s.supply.held = false) : exec .tbLeap s = .next (tbLeap s) := act_live hs

/-- STEP_CMD.ABS as written. -/
def State.stepAbs (s : State) (ab : Bool) : State := s.setFld stepCmdAt 1 1 (if ab then 1 else 0)

theorem stepAbs_abs (s : State) (ab : Bool) : fld ((s.stepAbs ab).rw 0x8168) 1 1 = if ab then 1 else 0 := by
  rw [State.stepAbs, show (0x8168 : Nat) = stepCmdAt from rfl, fld_setFld _ _ _ _ _ (by decide) (by decide)]
  cases ab <;> rfl

theorem stepGo_refused {ab : Bool} (h : s.tb.step.isSome ∨ anyGridRuns s = true) : stepGo ab s = raise pTBASE 6 (s.stepAbs ab) :=
  if_pos (Bool.or_eq_true _ _ ▸ h)

/-- The amount, or the value, of STEP_LO and STEP_HI. -/
def stepAsked (s : State) (ab : Bool) : StepReq :=
  ⟨ab, if ab then (((stepLo_STEP s + 2 ^ 32 * stepHi_STEP s) * nsU : Nat) : Int) else sgn 64 (stepLo_STEP s + 2 ^ 32 * stepHi_STEP s) * nsU⟩

theorem stepGo_asked {ab : Bool} (hstep : s.tb.step = none) (hgrid : anyGridRuns s = false) :
    stepGo ab s = { s.stepAbs ab with tb := { s.tb with step := some (stepAsked s ab) } } :=
  if_neg (by simp [hstep, hgrid])

theorem stepDone_pending {r : StepReq} (h : s.tb.step = some r) :
    stepDone s = schedSkip (tiuStep (((stepApply r s).st : Int) - s.st) (stepApply r s)) := by
  simp only [stepDone, h]

theorem stepDone_none (h : s.tb.step = none) : stepDone s = s := by
  simp only [stepDone, h]

/-- The step moves ST whole, ends the request and reports it; FREQ, the edge count, contexts, slices, grids and registers stay. -/
theorem stepApply_spec (r : StepReq) (s : State) :
    (stepApply r s).st = (if r.abs then r.amt else (s.st : Int) + r.amt).toNat ∧ (stepApply r s).tb.step = none ∧ (stepApply r s).tb.freq = s.tb.freq ∧
      (stepApply r s).clk = s.clk ∧ (stepApply r s).ctxs = s.ctxs ∧ (stepApply r s).slices = s.slices ∧ (stepApply r s).grids = s.grids ∧
      (stepApply r s).regs = s.regs ∧ bit ((stepApply r s).page pTBASE).stat 5 = true := by
  refine ⟨?_, ?_, ?_, ?_, ?_, ?_, ?_, ?_, raise_latched pTBASE 5 _ (by decide)⟩ <;> simp [stepApply]

/-- At LEAP_SEC with ARM set TAI_UTC takes NEW, ARM clears, and TB_LEAP is raised. -/
theorem tbLeap_now (harm : leapCfg_ARM s = 1) (hsec : leapSecLo_SEC s + 2 ^ 32 * leapSecHi_SEC s ≤ s.sec) :
    tbLeap s = raise pTBASE 8 ((s.setFld utcOffsetAt 15 0 (leapCfg_NEW s)).setFld leapCfgAt 31 31 0) := if_pos ⟨harm, hsec⟩

theorem leapCfg_NEW_lt (s : State) : leapCfg_NEW s < 2 ^ 16 := Nat.mod_lt _ (by decide)

end

/-- Settles O19: a request is refused or pends; a pending one is applied; a leap second is two fields stored. -/
theorem timeSteps : Obligations.TimeSteps := by
  refine ⟨fun s src ab h => ?_, fun s r hs hr => ?_, fun s hs hr => ?_, fun s hs harm hsec => ?_⟩
  · rw [exec_stepCmdGo h]
    refine ⟨fun hbusy => ?_, fun hstep hgrid => ?_⟩
    · rw [stepGo_refused hbusy]
      exact ⟨_, rfl, by simp [State.stepAbs], by simp [State.stepAbs], by rw [(raise_reads _ _ _ _).1, stepAbs_abs], raise_latched pTBASE 6 _ (by decide)⟩
    · rw [stepGo_asked hstep hgrid]
      exact ⟨_, rfl, rfl, stepAbs_abs s ab, rfl, rfl⟩
  · exact ⟨stepApply r s, by rw [exec_tbStepDone hs, stepDone_pending hr], stepApply_spec r s⟩
  · rw [exec_tbStepDone hs, stepDone_none hr]
  · rw [exec_tbLeap hs, tbLeap_now harm hsec]
    refine ⟨_, rfl, ?_, ?_, by simp, by simp, fun a h1 h2 => ?_, raise_latched pTBASE 8 _ (by decide)⟩
    · rw [(raise_reads _ _ _ _).1, rw_setFld_ne _ _ _ _ _ _ (by decide), show (0x8170 : Nat) = utcOffsetAt from rfl, fld_setFld _ _ _ _ _ (by decide) (by decide)]
      exact Nat.mod_eq_of_lt (leapCfg_NEW_lt s)
    · rw [leapCfg_ARM, (raise_reads _ _ _ _).1]
      exact fld_setFld _ leapCfgAt 31 31 0 (by decide) (by decide)
    · rw [(raise_reads _ _ _ _).1, rw_setFld_ne _ _ _ _ _ _ h2, rw_setFld_ne _ utcOffsetAt _ _ _ _ h1]

end Sys2Proof.Machine
end

section
/-! SUPPORT. The angle axes: enabling one, its counted edges, its idling and its Z edges (R55, R56, R60, R61). -/

namespace Sys2Proof.Machine

/-! ### Enabling (R56) -/

/-- The row of the axes' AX_CFG. -/
def axCfgRow : RegDef := ⟨0x100, 4, 0x40, 1, 0xFFFF000F, 0x0, 0x0, 0x0, 0x80F0000⟩

theorem findReg_axCfg (n : Fin 4) : findReg (axCfgAt n.val / 0x1000) (axCfgAt n.val % 0x1000) = some axCfgRow := by revert n; decide

theorem axCfgAt_page (n : Fin 4) : axCfgAt n.val / 0x1000 = pAXIS := by revert n; decide
theorem axCfgAt_off (n : Fin 4) : axCfgAt n.val % 0x1000 = 0x100 + 0x40 * n.val := by revert n; decide

theorem exec_axCfgEnable {s : State} {src : Src} {n : Fin 4} {v : Word} (h : s.reaches (axCfgAt n.val)) :
    exec (.axCfgEnable src n v) s = .next (axCfgWrite src.code n.val v s) := by
  refine (act_busWrite src.code v h (by rw [axCfgAt_off]; omega)).trans (congrArg _ ?_)
  simp only [regEffect, axCfgAt_page, axCfgAt_off]
  change wAXIS src.code (0x100 + 0x40 * n.val) v s = _
  rw [wAXIS, if_pos (by omega), show (0x100 + 0x40 * n.val - 0x100) / 0x40 = n.val by omega]

/-- The hub with AX_CFG of axis `n` stored. -/
def State.axCfgStored (s : State) (n : Nat) (v : Word) : State := s.setRw (axCfgAt n) (mergeWord axCfgRow false (s.rw (axCfgAt n)) v)

theorem axCfgStored_EN (s : State) (n : Nat) (v : Word) : axCfg_EN (s.axCfgStored n v) n = (bit v 0).toNat := by
  rw [State.axCfgStored, axCfg_EN, State.rw_setRw, if_pos rfl, mergeWord, fld_merge_in _ _ _ 0 0 (by decide), fld_bit]

/-- Axis `n` as a rise of EN leaves it. -/
def axEnabled (s : State) (n : Nat) : AxSt :=
  let p := sgn 64 (axPresetLo_PRE s n + 2 ^ 32 * axPresetHi_PRE s n) * 2 ^ 16
  { s.axis n with pos := p, max := p, idle := false, reversed := false, overspeed := false, zseen := false, spread := 0, spreadN := 0, edges := [],
                  lastClk := s.clk, spans := [], interp := p, stepMax := p }

theorem axCfgWrite_rise {s : State} {n : Fin 4} {v : Word} (src : Nat) (hl : (s.lock pAXIS).locked = false) (hen : axCfg_EN s n.val = 0) (hv : bit v 0 = true) :
    axCfgWrite src n.val v s = (s.axCfgStored n.val v).setAxis n.val (axEnabled s n.val) := by
  have hstore : storeReg src (axCfgAt n.val) v s = s.axCfgStored n.val v :=
    storeReg_unlocked src _ v s axCfgRow (findReg_axCfg n) (by rw [axCfgAt_page]; exact hl)
  have hrise : axCfg_EN (s.axCfgStored n.val v) n.val = 1 := by rw [axCfgStored_EN, hv]; rfl
  unfold axCfgWrite
  rw [hstore]
  exact if_pos ⟨hen, hrise⟩

/-! ### Counted edges (R55, R59, R61, R62) -/

theorem raise_axis (p b : Nat) (s : State) (m : Nat) : (raise p b s).axis m = s.axis m := by simp

/-- A move changes an axis's position, high-water mark and reversal, marks grids and may raise AX_REVERSED; all else stays. -/
theorem axMove_spec (n t : Nat) (p : Int) (s : State) : ∃ y : AxSt, (∀ m, (axMove n t p s).axis m = (s.setAxis n y).axis m) ∧
    (axMove n t p s).st = s.st ∧ (axMove n t p s).regs = s.regs ∧ (axMove n t p s).sram = s.sram ∧
    y.pos = p ∧ y.a = (s.axis n).a ∧ y.b = (s.axis n).b ∧ y.idle = (s.axis n).idle ∧ y.lastClk = (s.axis n).lastClk ∧ y.edges = (s.axis n).edges := by
  unfold axMove
  dsimp only
  split
  · split <;> exact ⟨_, fun _ => rfl, rfl, rfl, rfl, rfl, rfl, rfl, rfl, rfl, rfl⟩
  split
  · split
    · exact ⟨_, fun _ => rfl, rfl, rfl, rfl, rfl, rfl, rfl, rfl, rfl, rfl⟩
    · exact ⟨_, raise_axis pAXIS 1 _, by simp, by simp, by simp, rfl, rfl, rfl, rfl, rfl, rfl⟩
  · exact ⟨_, fun _ => rfl, rfl, rfl, rfl, rfl, rfl, rfl, rfl, rfl, rfl⟩

section
variable {s : State} {n : Nat} {a b : Bool} {held t : Nat}

/-- The position after one counted edge: one AX_INC by the phase and INVERT, and the share of a Z correction. -/
def axCountPos (s : State) (n : Nat) (a b : Bool) : Int :=
  wrapPos ((s.axis n).pos +
    (if decide (quadNext (s.axis n).a (s.axis n).b = (a, b)) != decide (axCfg_INVERT s n = 1) then axInc s n else -(axInc s n)) + spreadStep (s.axis n))

theorem axEdge_filtered (h : held < axCfg_FILT s n) : axEdge n a b held t s = s := if_pos h

/-- With EN 0 the levels alone are followed. -/
theorem axEdge_disabled (hheld : axCfg_FILT s n ≤ held) (hen : axCfg_EN s n = 0) :
    axEdge n a b held t s = s.setAxis n { s.axis n with a := a, b := b } := by
  simp [axEdge, Nat.not_lt.2 hheld, hen]

/-- Both levels changed at once count nothing. -/
theorem axEdge_both (hheld : axCfg_FILT s n ≤ held) (hen : axCfg_EN s n = 1) (ha : a ≠ (s.axis n).a) (hb : b ≠ (s.axis n).b) :
    axEdge n a b held t s = raise pAXIS 4 (s.setAxis n { s.axis n with a := a, b := b }) := by
  simp [axEdge, Nat.not_lt.2 hheld, hen, ha, hb]

/-- One level changed moves the axis by a count and keeps the edge. -/
theorem axEdge_counted (hheld : axCfg_FILT s n ≤ held) (hen : axCfg_EN s n = 1) (hone : a ≠ (s.axis n).a ↔ b = (s.axis n).b) :
    ∃ (fast : Bool) (y : AxSt), axEdge n a b held t s = raiseIf fast pAXIS 3 (axMove n t (axCountPos s n a b) (s.setAxis n y)) ∧
      y.a = a ∧ y.b = b ∧ y.idle = false ∧ y.lastClk = s.clk ∧ y.edges.head?.map (·.t) = some t := by
  have hsome : ¬(axCfg_EN s n = 0 ∨ a = (s.axis n).a ∧ b = (s.axis n).b) := by
    rintro (h0 | ⟨ha, hb⟩)
    · omega
    · exact hone.2 hb ha
  have hnot : ¬(a ≠ (s.axis n).a ∧ b ≠ (s.axis n).b) := fun ⟨ha, hb⟩ => hb (hone.1 ha)
  unfold axEdge
  dsimp only
  rw [if_neg (Nat.not_lt.2 hheld), if_neg hsome, if_neg hnot]
  exact ⟨_, _, rfl, rfl, rfl, rfl, rfl, rfl⟩

/-- What is counted is a change of one level, held long enough, on an enabled axis. -/
theorem axCounts_iff : axCounts s n a b held = true ↔ axCfg_FILT s n ≤ held ∧ axCfg_EN s n = 1 ∧ (a ≠ (s.axis n).a ↔ b = (s.axis n).b) := by
  simp only [axCounts, Bool.and_eq_true, decide_eq_true_eq, and_assoc]
  generalize (s.axis n).a = xa, (s.axis n).b = xb
  refine and_congr_right fun _ => and_congr_right fun _ => ?_
  revert a b xa xb
  decide

/-- A change that is filtered, on a disabled axis or of both levels is no edge for the TIU. -/
theorem axisEdge_uncounted {co : Nat} {fi : Fin 128} (h : ¬(axCfg_FILT s n ≤ held ∧ axCfg_EN s n = 1 ∧ (a ≠ (s.axis n).a ↔ b = (s.axis n).b))) :
    axisEdge n a b held co fi.val s = axEdge n a b held (stamp s co fi.val * tsU) s :=
  if_neg (mt axCounts_iff.1 h)

theorem axisEdge_counted {co : Nat} {fi : Fin 128} (hheld : axCfg_FILT s n ≤ held) (hen : axCfg_EN s n = 1) (hone : a ≠ (s.axis n).a ↔ b = (s.axis n).b) :
    axisEdge n a b held co fi.val s = tiuEdge (0x08 + n) (stamp s co fi.val) (axEdge n a b held (stamp s co fi.val * tsU) s) :=
  if_pos (axCounts_iff.2 ⟨hheld, hen, hone⟩)

theorem exec_axisCountEdge {n : Fin 4} {co : Nat} {fi : Fin 128} (hs : s.supply.held = false) :
    exec (.axisCountEdge n a b ⟨held, ⟨co, fi⟩⟩) s = .next (axisEdge n.val a b held co fi.val s) :=
  act_live (f := fun s => axisEdge n.val a b held co fi.val s) hs

/-- What one counted edge leaves. -/
theorem axEdge_counted_spec (hheld : axCfg_FILT s n ≤ held) (hen : axCfg_EN s n = 1) (hone : a ≠ (s.axis n).a ↔ b = (s.axis n).b) :
    let u := axEdge n a b held t s
    (u.axis n).a = a ∧ (u.axis n).b = b ∧ (u.axis n).idle = false ∧ (u.axis n).lastClk = s.clk ∧ (u.axis n).pos = axCountPos s n a b ∧
      (u.axis n).edges.head?.map (·.t) = some t ∧ (∀ m, m ≠ n → u.axis m = s.axis m) ∧ u.st = s.st ∧ u.regs = s.regs ∧ u.sram = s.sram := by
  obtain ⟨fast, y, he, hya, hyb, hyi, hyc, hye⟩ := axEdge_counted (t := t) hheld hen hone
  obtain ⟨z, hz, hst, hregs, hsram, hp, ha, hb, hi, hc, hedges⟩ := axMove_spec n t (axCountPos s n a b) (s.setAxis n y)
  simp only [he, raiseIf_reads, raiseIf_fields, hz, hst, hregs, hsram, State.axis_setAxis, State.setAxis_fields, if_true] at *
  exact ⟨ha.trans hya, hb.trans hyb, hi.trans hyi, hc.trans hyc, hp, by rw [hedges, hye], fun m hm => by simp [hm], trivial, trivial, trivial⟩

end

/-! ### Idling and Z edges (R60, R61) -/

section
variable {s : State} {n : Nat}

theorem exec_axIdle {n : Fin 4} (hs : s.supply.held = false) : exec (.axIdle n) s = .next (axIdle n.val s) := act_live hs

theorem exec_encZEdge {n : Fin 4} {co : Nat} {fi : Fin 128} (hs : s.supply.held = false) :
    exec (.encZEdge ⟨n, ⟨co, fi⟩⟩) s = .next (tiuEdge (0x0C + n.val) (stamp s co fi.val) (axZ n.val s)) :=
  act_live (f := fun s => axisZ n.val co fi.val s) hs

theorem axIdle_now (hen : axCfg_EN s n = 1) (hidle : (s.axis n).idle = false) (hlong : (s.axis n).lastClk + max 1 (axIdleTime_IDLE s n) * 1000000 ≤ s.clk) :
    axIdle n s = raise pAXIS 0 (s.setAxis n { s.axis n with idle := true, spans := spanOpen s.st (s.axis n).spans }) := by
  simp [axIdle, hen, hidle, State.passed, hlong]

/-- A Z edge of an axis that is off, does not use Z, is reversed or last moved back changes nothing of it. -/
theorem axZ_ignored (h : axCfg_EN s n = 0 ∨ axCfg_Z_EN s n = 0 ∨ (s.axis n).reversed = true ∨ (s.axis n).fwd = false) : axZ n s = s :=
  if_pos (by simpa using h)

/-- How far the position is from AX_Z_ANGLE, modulo 2^48. -/
def axZDiff (s : State) (n : Nat) : Int := sgn 48 (unsgn 48 ((s.axis n).pos - ((axZAngle_ZANG s n * 2 ^ 16 : Nat) : Int)))

/-- The hub with a forward Z edge of axis `n` noted, `cnt` counts off. -/
def State.axZNoted (s : State) (n : Nat) (cnt : Int) : State := s.setAxis n { s.axis n with zseen := true, zerr := cnt }

/-- A forward Z edge that does not home is noted; a difference of at most 2 counts is spread over the next 64, more is reported. -/
theorem axZ_forward (hen : axCfg_EN s n = 1) (hz : axCfg_Z_EN s n = 1) (hrev : (s.axis n).reversed = false) (hfwd : (s.axis n).fwd = true)
    (hhome : axCfg_Z_HOME s n = 0 ∨ (s.axis n).zseen = true) : ∃ cnt, axZ n s =
      if (axZDiff s n).natAbs ≤ 2 * (axInc s n).natAbs then
        (s.axZNoted n cnt).setAxis n { (s.axZNoted n cnt).axis n with spread := -axZDiff s n, spreadN := 64 }
      else raise pAXIS 2 (s.axZNoted n cnt) := by
  have hused : ¬(axCfg_EN s n = 0 ∨ axCfg_Z_EN s n = 0 ∨ (s.axis n).reversed = true ∨ (!(s.axis n).fwd) = true) := by simp [hen, hz, hrev, hfwd]
  have hnohome : ¬(axCfg_Z_HOME s n = 1 ∧ (!(s.axis n).zseen) = true ∧ (!(s.grids.any (fun g => g.2.run && decide (g.2.axis = n + 1)))) = true) := by
    rintro ⟨h1, h2, -⟩
    obtain h | h := hhome <;> simp [h] at h1 h2
  unfold axZ
  dsimp only
  rw [if_neg hused, if_neg hnohome]
  exact ⟨_, rfl⟩

end

/-- Settles O20: the rise of EN, the cases of a change of levels, idling, and the cases of a Z edge. -/
theorem axisCommands : Obligations.AxisCommands := by
  refine ⟨fun s src n v h hl hen hv => ?_, fun s n a b held co fi hs => ?_, fun s n hs hen hidle hlong => ?_, fun s n co fi hs h => ?_,
    fun s n d co fi hs hen hz hrev hfwd hhome hd => ?_⟩
  · rw [exec_axCfgEnable h, axCfgWrite_rise _ hl hen hv]
    exact ⟨_, rfl, by simp [axEnabled], by simp [axEnabled], by simp [axEnabled], by simp [axEnabled], by simp [axEnabled],
      (axCfgStored_EN s n.val v).trans (by rw [hv]; rfl)⟩
  · rw [exec_axisCountEdge hs]
    refine ⟨fun hshort => ?_, fun hheld hen => ?_, fun hheld hen hone => ?_, fun hheld hen ha hb => ?_⟩
    · rw [axisEdge_uncounted (by omega), axEdge_filtered hshort]
    · rw [axisEdge_uncounted (by omega), axEdge_disabled hheld hen]
      exact ⟨_, rfl, by simp, by simp, by simp⟩
    · rw [axisEdge_counted hheld hen hone]
      exact ⟨_, rfl, axEdge_counted_spec hheld hen hone⟩
    · rw [axisEdge_uncounted (fun ⟨_, _, hone⟩ => hb (hone.1 ha)), axEdge_both hheld hen ha hb]
      exact ⟨_, rfl, by simp, by simp, raise_latched pAXIS 4 _ (by decide)⟩
  · rw [exec_axIdle hs, axIdle_now hen hidle hlong]
    exact ⟨_, rfl, by simp, by simp, by simp, raise_latched pAXIS 0 _ (by decide)⟩
  · rw [exec_encZEdge hs, axZ_ignored h]
  · obtain ⟨cnt, he⟩ := axZ_forward hen hz hrev hfwd hhome
    replace hd : d = axZDiff s n.val := hd
    rw [exec_encZEdge hs, he, ← hd]
    refine ⟨fun hnear => ?_, fun hfar => ?_⟩
    · rw [if_pos hnear]
      exact ⟨_, rfl, by simp, by simp, by simp [State.axZNoted], by simp [State.axZNoted]⟩
    · rw [if_neg (Nat.not_le.2 hfar)]
      exact ⟨_, rfl, by simp [State.axZNoted], by simp [State.axZNoted], by simp [State.axZNoted], raise_latched pAXIS 2 _ (by decide)⟩

end Sys2Proof.Machine
end

section
/-! SUPPORT. The grid generators: starting and refusing a grid, stopping it, and its indices (R63 to R66). -/

namespace Sys2Proof.Machine

/-! ### GRID_CMD (R64 to R66) -/

/-- The fields of the word that starts a grid: OP 1, the grid and AT_SEC. -/
theorem gridStartWord (g : Fin 64) (at_ : Bool) : let v := word (2 ^ 16 + (if at_ then 2 ^ 8 else 0) + g.val)
    fld v 17 16 = 1 ∧ fld v 5 0 = g.val ∧ bit v 8 = at_ := by
  revert g at_
  decide

/-- The fields of the word that stops a grid: OP 2 and the grid. -/
theorem gridStopWord (g : Fin 64) : let v := word (2 ^ 17 + g.val)
    fld v 17 16 = 2 ∧ fld v 5 0 = g.val := by
  revert g
  decide

/-- A write of GRID_CMD goes by its OP. -/
theorem regEffect_gridCmd (src : Nat) (v : Word) (s : State) : regEffect src 0xA300 v s =
    if fld v 17 16 = 1 then gridCmdStart (fld v 5 0) (bit v 8) s else if fld v 17 16 = 2 then gridCmdStop (fld v 5 0) s else s := rfl

section
variable {s : State} {src : Src} {g : Fin 64}

theorem exec_gridCmdStart {at_ : Bool} (h : s.reaches 0xA300) : exec (.gridCmdStart src g at_) s = .next (gridCmdStart g.val at_ s) := by
  obtain ⟨hop, hg, hat⟩ := gridStartWord g at_
  refine (act_busWrite src.code _ h (by decide)).trans (congrArg _ ?_)
  rw [regEffect_gridCmd, hop, hg, hat]
  rfl

theorem exec_gridCmdStop (h : s.reaches 0xA300) : exec (.gridCmdStop src g) s = .next (gridCmdStop g.val s) := by
  obtain ⟨hop, hg⟩ := gridStopWord g
  refine (act_busWrite src.code _ h (by decide)).trans (congrArg _ ?_)
  rw [regEffect_gridCmd, hop, hg]
  rfl

theorem exec_gridInstant (hs : s.supply.held = false) : exec (.gridInstant g) s = .next (gridTick g.val s) := act_live hs

end

/-! ### Starting (R64, R65) -/

section
variable {s : State} {g t start : Nat}

theorem gridStart_running (hrun : (s.grid g).run = true) (hstop : gridStopped (s.grid g) start = false) : gridStart g t start s = s := by
  simp [gridStart, hrun, hstop]

variable (hrun : (s.grid g).run = false)
include hrun

/-- A refusal leaves its reason and the grid in GRID_REJ (R64). -/
theorem gridStart_refused {r : Nat} (hrej : gridRej s g t = some r) : gridStart g t start s = raise pAXIS 7 { s with gctl := ⟨r, g⟩ } := by
  simp [gridStart, hrun, hrej]

/-- The generator as a start leaves it: its descriptor as read, standing at its first index. -/
def startedGrid (s : State) (g t : Nat) : GridSt :=
  let d := gridRead s g
  let k := gridFirst s d t
  { s.grid g with
    run := true, axis := d.axis, origin := d.origin, period := d.period, startIdx := k, stopIdx := d.stop
    next := k, stopAt := none, noteDue := false, made := [] }

/-- A start that is not refused sheds what the grid's contexts still owe, sets the generator running and starts the contexts. -/
theorem gridStart_taken (hrej : gridRej s g t = none) : ∃ u : State, gridStart g t start s =
    raise pAXIS 5 (startGridCtxs g start (gridFirst s (gridRead s g) t) (u.setGrid g (startedGrid s g t))) := by
  simp only [gridStart, hrun, Bool.false_and, Bool.false_eq_true, if_false, hrej]
  exact ⟨_, rfl⟩

end

/-! ### The end of a grid (R66, R139) -/

/-- Ending fades changes contexts alone. -/
theorem endFades_keeps (g : Nat) (s : State) : (endFades g s).grids = s.grids ∧ (endFades g s).hdr = s.hdr :=
  foldl_keeps (fun t => t.grids = s.grids ∧ t.hdr = s.hdr) _ (fun t c h => by simpa [endFade] using h) _ s ⟨rfl, rfl⟩

/-- A grid that ends stands still where it is, and GRID_STOPPED is latched. -/
theorem gridEnd_spec (g : Nat) (s : State) : (gridEnd g s).grid g = { s.grid g with run := false, stopAt := none } ∧
    bit ((gridEnd g s).page pAXIS).stat 6 = true := by
  obtain ⟨hgrids, hhdr⟩ := endFades_keeps g (raise pAXIS 6 (s.setGrid g { s.grid g with run := false, stopAt := none }))
  constructor
  · rw [gridEnd, State.grid, hgrids, ← State.grid]
    simp
  · rw [gridEnd, State.page, hhdr]
    exact raise_latched pAXIS 6 _ (by decide)

/-- The bound a stop at `t` puts on a grid: the earlier of it and one accepted before. -/
def stopBound (q : GridSt) (t : Nat) : GridSt := { q with stopAt := some (min t (q.stopAt.getD t)) }

/-- A stop bounds a running grid, and ends it where no index is left before the bound. -/
theorem gridStop_running {s : State} {g : Nat} (t : Nat) (hrun : (s.grid g).run = true) : gridStop g t s =
    if gridPast (s.setGrid g (stopBound (s.grid g) t)) (stopBound (s.grid g) t) then gridEnd g (s.setGrid g (stopBound (s.grid g) t))
    else s.setGrid g (stopBound (s.grid g) t) := by
  simp [gridStop, stopBound, hrun]

/-! ### Indices (R63, R66) -/

section
variable {s : State} {g : Nat}

/-- Without an accepted stop nothing is past one. -/
theorem gridPast_unbounded {q : GridSt} (h : q.stopAt = none) : gridPast s q = false := by
  unfold gridPast
  rw [h]

theorem gridTick_stopped (hrun : (s.grid g).run = false) : gridTick g s = s := by simp [gridTick, hrun]

theorem gridTick_waiting (hstop : (s.grid g).stopAt = none) (hdue : gridDue s (s.grid g) = none) : gridTick g s = s := by
  simp [gridTick, gridPast_unbounded hstop, hdue]

/-- The generator with the index it stands at produced at `t`. -/
def producedGrid (s : State) (g t : Nat) (un : Bool) : GridSt :=
  { s.grid g with made := gridMake s (s.grid g) t un :: (s.grid g).made.take 4095, next := (s.grid g).next + 1, noteDue := false }

/-- A due index is produced, and the grid ends after its last. -/
theorem gridTick_due {t : Nat} {un : Bool} (hrun : (s.grid g).run = true) (hstop : (s.grid g).stopAt = none) (hdue : gridDue s (s.grid g) = some (t, un)) :
    gridTick g s = if (s.grid g).next = (s.grid g).stopIdx then gridEnd g (s.setGrid g (producedGrid s g t un)) else s.setGrid g (producedGrid s g t un) := by
  simp [gridTick, hrun, gridPast_unbounded, hstop, hdue, producedGrid]

/-- What a due index leaves of the generator: the index made, the next one standing, and running unless it was the last. -/
theorem gridTick_made {t : Nat} {un : Bool} (hrun : (s.grid g).run = true) (hstop : (s.grid g).stopAt = none) (hdue : gridDue s (s.grid g) = some (t, un)) :
    ((gridTick g s).grid g).next = (s.grid g).next + 1 ∧ ((gridTick g s).grid g).made = gridMake s (s.grid g) t un :: (s.grid g).made.take 4095 ∧
      (((gridTick g s).grid g).run = false ↔ (s.grid g).next = (s.grid g).stopIdx) := by
  rw [gridTick_due hrun hstop hdue]
  split
  · next hlast => simp [(gridEnd_spec g _).1, producedGrid, hlast]
  · next hlast => simp [producedGrid, hrun, hlast]

/-- The instant of a time grid's next index. -/
def nextInstant (q : GridSt) : Nat := (q.origin + (q.next * q.period : Nat)).toNat * 2 ^ 16

theorem gridDue_time {q : GridSt} (haxis : q.axis = 0) (hcome : nextInstant q ≤ s.st) : gridDue s q = some (nextInstant q, false) := by
  unfold gridDue
  rw [if_pos haxis]
  exact if_pos hcome

end

/-- Settles O21: a start is ignored, refused or taken; a stop bounds or ends; a due index is produced. -/
theorem gridCommands : Obligations.GridCommands := by
  refine ⟨fun s src g at_ a h ha => ?_, fun s src g q h hrun hq => ?_, fun s g hs hrun haxis hstop hcome => ?_,
    fun s g t0 un hs hrun hstop hdue => ?_, fun s g hs h => ?_⟩
  · rw [exec_gridCmdStart h, show gridCmdStart g.val at_ s = gridStart g.val a s.st s by rw [ha]; rfl]
    refine ⟨fun hrun hstop => by rw [gridStart_running hrun hstop], fun hrun r hrej => ?_, fun hrun hrej => ?_⟩
    · rw [gridStart_refused hrun hrej]
      exact ⟨_, rfl, by simp, by simp, by simp, raise_latched pAXIS 7 _ (by decide)⟩
    · obtain ⟨u, hu⟩ := gridStart_taken (start := s.st) hrun hrej
      have hgrid : (u.setGrid g.val (startedGrid s g.val a)).grid g.val = startedGrid s g.val a := by simp
      refine ⟨u.setGrid g.val (startedGrid s g.val a), by rw [hu], ?_⟩
      rw [hgrid]
      exact ⟨rfl, rfl, rfl, rfl, rfl, rfl, rfl⟩
  · replace hq : q = stopBound (s.grid g.val) (s.st + usU) := hq
    rw [exec_gridCmdStop h, gridCmdStop, gridStop_running _ hrun, ← hq]
    refine ⟨fun hleft => by rw [if_neg (Bool.eq_false_iff.1 hleft)], fun hpast => ?_⟩
    obtain ⟨hgrid, hbit⟩ := gridEnd_spec g.val (s.setGrid g.val q)
    rw [if_pos hpast]
    refine ⟨_, rfl, by rw [hgrid], ?_, hbit⟩
    rw [hgrid, State.grid_setGrid, if_pos rfl, hq]
    rfl
  · obtain ⟨hnext, hmade, hend⟩ := gridTick_made hrun hstop (gridDue_time haxis hcome)
    exact ⟨_, _, exec_gridInstant hs, hnext, hmade, rfl, rfl, hend⟩
  · obtain ⟨hnext, hmade, -⟩ := gridTick_made hrun hstop hdue
    exact ⟨_, _, exec_gridInstant hs, hnext, hmade, rfl, rfl, rfl⟩
  · rw [exec_gridInstant hs]
    obtain hrun | ⟨hstop, hdue⟩ := h
    · rw [gridTick_stopped hrun]
    · rw [gridTick_waiting hstop hdue]

end Sys2Proof.Machine
end

section
/-! SUPPORT. Slice and mitten sets: their requests, the boundary that applies or refuses one whole, and the legacy sources (R85, R86, R92, R93). -/

namespace Sys2Proof.Machine

/-! ### Registers of slice and mitten pages -/

/-- A write to a slice's page goes to that slice. -/
theorem regEffect_slice (src o : Nat) (v : Word) (s : State) (n : Fin 64) (ho : o < 0x1000) :
    regEffect src ((0x80 + n.val) * 0x1000 + o) v s = wSLICE src n.val o v s := by
  have hblock : blockOf (0x80 + n.val) = some 0x80 := by revert n; decide
  rw [regEffect, show ((0x80 + n.val) * 0x1000 + o) / 0x1000 = 0x80 + n.val by omega, show ((0x80 + n.val) * 0x1000 + o) % 0x1000 = o by omega, hblock]
  exact congrArg (wSLICE src · o v s) (Nat.add_sub_cancel_left _ _)

/-- A write to a mitten's page goes to that mitten. -/
theorem regEffect_mitten (src o : Nat) (v : Word) (s : State) (m : Fin 16) (ho : o < 0x1000) :
    regEffect src ((0x40 + m.val) * 0x1000 + o) v s = wMITT src m.val o v s := by
  have hblock : blockOf (0x40 + m.val) = some 0x40 := by revert m; decide
  rw [regEffect, show ((0x40 + m.val) * 0x1000 + o) / 0x1000 = 0x40 + m.val by omega, show ((0x40 + m.val) * 0x1000 + o) % 0x1000 = o by omega, hblock]
  exact congrArg (wMITT src · o v s) (Nat.add_sub_cancel_left _ _)

section
variable {s : State} {src : Src}

theorem exec_slCmdApply {n : Fin 64} (h : s.reaches ((0x80 + n.val) * 0x1000 + 0x108)) : exec (.slCmdApply src n) s = .next (slApply n.val s) :=
  (act_busWrite src.code 1 h (by omega)).trans (congrArg _ (regEffect_slice src.code 0x108 1 s n (by decide)))

theorem exec_mtCmdApply {m : Fin 16} (h : s.reaches ((0x40 + m.val) * 0x1000 + 0x108)) : exec (.mtCmdApply src m) s = .next (mtApply m.val s) :=
  (act_busWrite src.code 1 h (by omega)).trans (congrArg _ (regEffect_mitten src.code 0x108 1 s m (by decide)))

theorem exec_mtCmdSwap {m : Fin 16} (h : s.reaches ((0x40 + m.val) * 0x1000 + 0x108)) : exec (.mtCmdSwap src m) s = .next (mittSwap m.val s) :=
  (act_busWrite src.code 2 h (by omega)).trans (congrArg _ (regEffect_mitten src.code 0x108 2 s m (by decide)))

theorem exec_slApplyTakeEffect {n : Fin 64} (hs : s.supply.held = false) : exec (.slApplyTakeEffect n) s = .next (slApplyNow n.val s) := act_live hs

theorem exec_mtSrcCompliance {m : Fin 16} {b : Bool} (hs : s.supply.held = false) : exec (.mtSrcCompliance m b) s = .next (mtCompl m.val b s) := act_live hs

end

/-! ### A slice set at its boundary (R85, R86) -/

/-- Latched bits stay latched when an event may be raised. -/
theorem raiseIf_stat_mono (c : Bool) (p b : Nat) (s : State) (q i : Nat) (h : bit (s.page q).stat i = true) : bit ((raiseIf c p b s).page q).stat i = true := by
  cases c with
  | true => exact raise_stat_mono p b s q i h
  | false => exact h

/-- An event raised where its condition holds is latched. -/
theorem raiseIf_latched {c : Bool} (p b : Nat) (s : State) (hb : b < 32) (hc : c = true) : bit ((raiseIf c p b s).page p).stat b = true := by
  subst hc
  exact raise_latched p b s hb

section
variable {s : State} {n a t : Nat}

theorem slApplyNow_boundary (ha : (s.slice n).applyAt = some a) (hcal : s.calibrating n = false)
    (ht : convAt s n (if s.sliceOff n then a else a + usU) = some t) : slApplyNow n s = applySlice n t s := by
  simp [slApplyNow, ha, hcal, ht]

/-- Without a request, in a recalibration and before the boundary nothing is applied. -/
theorem slApplyNow_waiting (h : (s.slice n).applyAt = none ∨ s.calibrating n = true ∨
    ∃ a, (s.slice n).applyAt = some a ∧ convAt s n (if s.sliceOff n then a else a + usU) = none) : slApplyNow n s = s := by
  unfold slApplyNow
  cases ha : (s.slice n).applyAt with
  | none => rfl
  | some a =>
    obtain hnone | hcal | ⟨b, hb, hearly⟩ := h
    · simp [ha] at hnone
    · exact if_pos hcal
    · obtain rfl : a = b := by simpa [ha] using hb
      simp [hearly]

theorem applySlice_sound (hconf : setConflict s n (s.pendSet n) = false) (hbad : setBad s n (s.pendSet n) = false) :
    applySlice n t s = applySet n t (s.pendSet n) s := by
  simp [applySlice, hconf, hbad]

/-- The slice with its request refused: the applied set stays. -/
def State.applyRefused (s : State) (n : Nat) : State := s.setSlice n { s.slice n with applyRej := true, applyAt := none }

theorem applySlice_refused (h : setConflict s n (s.pendSet n) = true ∨ setBad s n (s.pendSet n) = true) : applySlice n t s =
    raiseIf (setBad s n (s.pendSet n)) (pSLICE n) 6 (raiseIf (setConflict s n (s.pendSet n)) (pMITT (n / 4)) 0 (s.applyRefused n)) :=
  if_pos (by simpa using h)

end

/-! ### A mitten's set and its sources (R85, R86, R92) -/

section
variable {s : State} {m : Nat}

theorem mtApply_now (h : s.align.run = false ∨ s.align.measuring.testBit m = false) : mtApply m s = applyMitt m s :=
  if_neg fun hc => by simp only [Bool.and_eq_true] at hc; simp [hc] at h

theorem mtApply_waits (hrun : s.align.run = true) (hm : s.align.measuring.testBit m = true) :
    mtApply m s = s.setMitt m { s.mitt m with waitApply := true } :=
  if_pos (by simp [hrun, hm])

/-- A mitten set that names existing pins and claims none twice is applied. -/
theorem applyMitt_sound (ha : fld (s.mittPend m).a 12 8 < 24) (hb : fld (s.mittPend m).b 12 8 < 24) (ht : fld (s.mittPend m).t 20 16 < 24)
    (hdup : hasDup (allClaims s m (s.mittPend m) none) = false) : applyMitt m s =
      raise (pMITT m) 2 (s.setMitt m { s.mitt m with app := s.mittPend m, waitApply := false, aCompl := false, bCompl := false }) := by
  simp [applyMitt, hdup, Nat.not_le.2 ha, Nat.not_le.2 hb, Nat.not_le.2 ht]

theorem applyMitt_refused (h : 24 ≤ fld (s.mittPend m).a 12 8 ∨ 24 ≤ fld (s.mittPend m).b 12 8 ∨ 24 ≤ fld (s.mittPend m).t 20 16 ∨
    hasDup (allClaims s m (s.mittPend m) none) = true) : applyMitt m s = raise (pMITT m) 0 (s.setMitt m { s.mitt m with waitApply := false }) :=
  if_pos (by simpa [or_assoc] using h)

theorem mtCompl_disabled {b : Bool} (h : bit (if b then (s.mitt m).app.b else (s.mitt m).app.a) 16 = false) : mtCompl m b s = s :=
  if_neg (by simp [h])

theorem mtCompl_enabled {b : Bool} (h : bit (if b then (s.mitt m).app.b else (s.mitt m).app.a) 16 = true) : mtCompl m b s =
    raise (pMITT m) 1 (s.setMitt m (if b then { s.mitt m with bCompl := true } else { s.mitt m with aCompl := true })) :=
  if_pos h

end

/-- Settles O24: a request, the boundary's two outcomes and its waiting, a mitten's two outcomes, and its sources. -/
theorem sliceSets : Obligations.SliceSets := by
  refine ⟨fun s src n h => exec_slCmdApply h, fun s n a t hs ha hcal ht => ?_, fun s n hs h => ?_, fun s src m h => ?_, fun s m b hs h => ?_,
    fun s m b hs h => ?_⟩
  · rw [exec_slApplyTakeEffect hs, slApplyNow_boundary ha hcal ht]
    refine ⟨fun hconf hbad => by rw [applySlice_sound hconf hbad], fun href => ?_⟩
    rw [applySlice_refused href]
    refine ⟨_, rfl, by simp [State.applyRefused], raiseIf_latched _ 6 _ (by decide), fun k hk => by simp [State.applyRefused, hk],
      by simp [State.applyRefused], by simp [State.applyRefused], by simp [State.applyRefused], fun hconf => ?_⟩
    exact raiseIf_stat_mono _ _ _ _ _ _ (raiseIf_latched _ 0 _ (by decide) hconf)
  · rw [exec_slApplyTakeEffect hs, slApplyNow_waiting h]
  · rw [exec_mtCmdApply h]
    refine ⟨exec_mtCmdSwap h, fun hnow => ?_, fun hrun hm => by rw [mtApply_waits hrun hm]⟩
    rw [mtApply_now hnow]
    refine ⟨fun ⟨ha, hb, ht, hdup⟩ => ?_, fun href => ?_⟩
    · rw [applyMitt_sound ha hb ht hdup]
      exact ⟨_, rfl, by simp, by simp, raise_latched _ 2 _ (by decide), by simp, by simp, by simp⟩
    · rw [applyMitt_refused href]
      exact ⟨_, rfl, by simp, raise_latched _ 0 _ (by decide), by simp, by simp, by simp⟩
  · rw [exec_mtSrcCompliance hs, mtCompl_enabled h]
    refine ⟨_, rfl, ?_, ?_, raise_latched _ 1 _ (by decide), by simp, by simp, by simp⟩ <;> cases b <;> simp
  · rw [exec_mtSrcCompliance hs, mtCompl_disabled h]

end Sys2Proof.Machine
end

section
/-! SUPPORT. Pulsed excitation: changes at the conversion boundary, the bounds of a pulse, current trips and their lockout (R88 to R90). -/

namespace Sys2Proof.Machine

/-! ### Settling events and restarts leave the generator -/

/-- A slice goes by the table of slices alone. -/
theorem slice_congr {s t : State} (h : t.slices = s.slices) (n : Nat) : t.slice n = s.slice n := by
  simp only [State.slice, h]

/-- What keeps the slices keeps them in every run of a context. -/
theorem onRuns_slices {p : List Word → Bool} {c : Nat} {f : State → State} (hf : ∀ a, (f a).slices = a.slices) (s : State) :
    (onRuns p c f s).slices = s.slices := by
  unfold onRuns
  dsimp only
  split
  · exact hf _
  · rfl

/-- A settling event concerns contexts alone. -/
@[simp] theorem settleEvent_slices (c t cyc : Nat) (stale : Bool) (path : Nat) (s : State) : (settleEvent c t cyc stale path s).slices = s.slices := by
  refine onRuns_slices (fun a => ?_) s
  unfold settleRun
  dsimp only
  split
  · simp
  · rfl

@[simp] theorem scDiscard_slices (s : State) : (scDiscard s).slices = s.slices := by simp [scDiscard]

/-- A restart is nothing without a running conversion; else it discards the conversion, and the slot waits again. -/
theorem scRestart_cases (n t cyc : Nat) (s : State) : scRestart n t cyc s = s ∨ ∃ o, scRestart n t cyc s =
    scDiscard (s.setSlice n { s.slice n with conv := none, redo := o, waitEnd := some (t + cyc * modCyc * 2 ^ 16) }) := by
  unfold scRestart
  dsimp only
  split
  · exact .inl rfl
  · exact .inr ⟨_, rfl⟩

@[simp] theorem scRestart_exc (n t cyc : Nat) (s : State) : ((scRestart n t cyc s).slice n).exc = (s.slice n).exc := by
  obtain e | ⟨o, e⟩ := scRestart_cases n t cyc s <;> rw [e]
  rw [slice_congr (scDiscard_slices _), State.slice_setSlice, if_pos rfl]

/-- What an excitation change does to the slot's context leaves the generator. -/
@[simp] theorem excSettles_exc (n t : Nat) (isOn : Bool) (s : State) : ((excSettles n t isOn s).slice n).exc = (s.slice n).exc := by
  unfold excSettles
  dsimp only
  split
  · rfl
  next c _ =>
  have hevent : ∀ cyc, (settleEvent c t cyc false 0 s).slice n = s.slice n := fun cyc => slice_congr (settleEvent_slices ..) n
  split
  · split
    · exact scRestart_exc ..
    · rfl
  split
  · cases isOn
    · rfl
    · rw [if_pos rfl]
      split <;> simp [hevent]
  · rw [hevent]

/-! ### Switching off and cutting off -/

section
variable {s : State} {n t : Nat}

theorem excOffAt_off (hon : (s.slice n).exc.on = true) : ((excOffAt n t s).slice n).exc.on = false := by
  simp [excOffAt, hon]

/-- A cut switches the generator off. -/
theorem excCut_off (cause : Nat) (hon : (s.slice n).exc.on = true) : ((excCut n t cause s).slice n).exc.on = false := by
  unfold excCut
  dsimp only
  rw [if_pos hon]
  split
  · rw [slice_congr (onRuns_slices (fun a => by simp) _)]
    exact excOffAt_off hon
  · exact excOffAt_off hon

/-! ### A change at the conversion boundary (R88) -/

theorem excNow_none (hp : (s.slice n).exc.pend = none) : excNow n s = s := by
  unfold excNow
  dsimp only
  rw [hp]

/-- The slice with its pending change taken. -/
def State.excTaken (s : State) (n : Nat) : State := s.setSlice n { s.slice n with exc := { (s.slice n).exc with pend := none } }

theorem excNow_sliceOff (hp : (s.slice n).exc.pend.isSome) (hoff : s.sliceOff n = true) : excNow n s = s.excTaken n := by
  obtain ⟨c, hc⟩ := Option.isSome_iff_exists.1 hp
  simp [excNow, hc, hoff, State.excTaken]

theorem excNow_boundary {c : ExcChg} (hp : (s.slice n).exc.pend = some c) (hoff : s.sliceOff n = false)
    (ht : convAt s n (s.slice n).exc.pendAt = some t) : excNow n s = excApply n t c (s.excTaken n) := by
  simp [excNow, hp, hoff, ht, State.excTaken]

/-! ### The bounds of a pulse (R89) -/

theorem excMinEnd_now (hon : (s.slice n).exc.on = true) (hpend : (s.slice n).exc.offPend = true) (ht : (s.slice n).exc.onAt + 20 * usU ≤ s.st) :
    excMinEnd n s = excOffAt n ((s.slice n).exc.onAt + 20 * usU) s :=
  if_pos ⟨hon, hpend, ht⟩

theorem excMinEnd_not (h : (s.slice n).exc.on = false ∨ (s.slice n).exc.offPend = false ∨ s.st < (s.slice n).exc.onAt + 20 * usU) :
    excMinEnd n s = s :=
  if_neg fun ⟨hon, hpend, ht⟩ => by simp [hon, hpend, Nat.not_lt.2 ht] at h

theorem excMaxw_now (hon : (s.slice n).exc.on = true) (ht : segEnd (s.slice n) ≤ s.st) (hd : excDecides s n (segEnd (s.slice n)) = false) :
    excMaxw n s = raise (pSLICE n) 3 (excCut n (segEnd (s.slice n)) 1 s) :=
  if_pos ⟨hon, ht, by simp [hd]⟩

theorem excMaxw_not (h : (s.slice n).exc.on = false ∨ s.st < segEnd (s.slice n) ∨ excDecides s n (segEnd (s.slice n)) = true) : excMaxw n s = s :=
  if_neg fun ⟨hon, ht, hd⟩ => by
    obtain h | h | h := h
    · simp [hon] at h
    · exact absurd ht (Nat.not_le.2 h)
    · simp [h] at hd

/-! ### Current trips and REARM (R90) -/

/-- The slice locked out after a current trip, `p` what still pends. -/
def State.lockedOut (s : State) (n : Nat) (p : Option ExcChg) : State :=
  s.setSlice n { s.slice n with exc := { (s.slice n).exc with lockout := true, ilim := true, pend := p } }

/-- A trip of a voltage generator that drives. -/
theorem excIlim_volts (hon : (s.slice n).exc.on = true) (hm : eMODE (excDrv (s.slice n)) = 1) :
    excIlim n s = raise (pSLICE n) 1 ((excCut n s.st 2 s).lockedOut n none) :=
  if_pos ⟨hon, hm⟩

/-- A trip of a vibrating-wire sequence that holds the generator. -/
theorem excIlim_wire (h : (s.slice n).exc.on = false ∨ eMODE (excDrv (s.slice n)) ≠ 1) (hw : vwHolds s n = true) :
    excIlim n s = raise (pSLICE n) 1 ((vwSafety n s).lockedOut n ((vwSafety n s).slice n).exc.pend) := by
  unfold excIlim
  dsimp only
  rw [if_neg (by rintro ⟨hon, hm⟩; simp [hon, hm] at h), if_pos hw]
  rfl

theorem excIlim_not (h : (s.slice n).exc.on = false ∨ eMODE (excDrv (s.slice n)) ≠ 1) (hw : vwHolds s n = false) : excIlim n s = s := by
  unfold excIlim
  dsimp only
  rw [if_neg (by rintro ⟨hon, hm⟩; simp [hon, hm] at h), if_neg (by simp [hw])]

end

section
variable {s : State} {n : Fin 64}

theorem exec_excCtlRearm {src : Src} (h : s.reaches ((0x80 + n.val) * 0x1000 + 0x190)) : exec (.excCtlRearm src n) s = .next (excRearm n.val s) :=
  (act_busWrite src.code 1 h (by omega)).trans (congrArg _ (regEffect_slice src.code 0x190 1 s n (by decide)))

variable (hs : s.supply.held = false)
include hs

theorem exec_excChangeApply : exec (.excChangeApply n) s = .next (excNow n.val s) := act_live hs
theorem exec_excMinPulseEnd : exec (.excMinPulseEnd n) s = .next (excMinEnd n.val s) := act_live hs
theorem exec_excMaxwExpiry : exec (.excMaxwExpiry n) s = .next (excMaxw n.val s) := act_live hs
theorem exec_excIlimTrip : exec (.excIlimTrip n) s = .next (excIlim n.val s) := act_live hs

end

/-- Settles O25: a change at its boundary, the ends of a pulse, a trip with and without a driving generator, and REARM. -/
theorem excitation : Obligations.Excitation := by
  refine ⟨fun s n c t hs hp hoff ht => ?_, fun s n hs => ?_, fun s n hs => ?_, fun s src n h => ?_⟩
  · rw [exec_excChangeApply hs, excNow_boundary hp hoff ht]
    rfl
  · rw [exec_excChangeApply hs, exec_excMinPulseEnd hs]
    refine ⟨fun hp => by rw [excNow_none hp], fun hp hoff => ?_, fun hon hpend ht => by rw [excMinEnd_now hon hpend ht], fun h => by rw [excMinEnd_not h]⟩
    rw [excNow_sliceOff hp hoff]
    rfl
  · rw [exec_excMaxwExpiry hs, exec_excIlimTrip hs]
    refine ⟨fun hon ht hd => ?_, fun h => by rw [excMaxw_not h], fun hon hm => ?_, fun hidle => ⟨fun hholds => ?_, fun hfree => ?_⟩⟩
    · rw [excMaxw_now hon ht hd]
      refine ⟨_, rfl, by simp [segEnd], raise_latched _ 3 _ (by decide), ?_⟩
      simpa using excCut_off 1 hon
    · rw [excIlim_volts hon hm]
      exact ⟨_, rfl, by simp [State.lockedOut], by simp [State.lockedOut], by simpa [State.lockedOut] using excCut_off 2 hon, raise_latched _ 1 _ (by decide)⟩
    · rw [excIlim_wire hidle hholds]
      exact ⟨_, rfl, by simp [State.lockedOut], by simp [State.lockedOut], by simp [State.lockedOut], raise_latched _ 1 _ (by decide)⟩
    · rw [excIlim_not hidle hfree]
  · rw [exec_excCtlRearm h]
    exact ⟨_, rfl, by simp [excRearm], by simp [excRearm], by simp [excRearm], fun m hm => by simp [excRearm, hm], by simp [excRearm]⟩

end Sys2Proof.Machine
end

section
/-! SUPPORT. Conversions: the end of a slot's wait, decimator outputs, single-cycle conversions, the overload comparator (R83, R97, R108, R147). -/

namespace Sys2Proof.Machine

section
variable {s : State} {n : Fin 64} (hs : s.supply.held = false)
include hs

theorem exec_slotSettleEnd : exec (.slotSettleEnd n) s = .next (settleEnd n.val s) := act_live hs
theorem exec_decimatorOutput {j : Nat} {ls : List (Fin 5)} {sv : Option VoltIn} :
    exec (.decimatorOutput n j ls sv) s = .next (decimated n.val j (convSrc ls sv) s) := act_live hs
theorem exec_scConversionDone {ls : List (Fin 5)} {sv : Option VoltIn} :
    exec (.scConversionDone n ls sv) s = .next (scEnded n.val (convSrc ls sv) s) := act_live hs
theorem exec_ovlComparatorRise : exec (.ovlComparatorRise n) s = .next (ovlRise n.val s) := act_live hs
theorem exec_ovlComparatorFall : exec (.ovlComparatorFall n) s = .next (ovlFall n.val s) := act_live hs

end

section
variable {s : State} {n : Nat}

/-! ### The end of a slot's wait (R83) -/

/-- The slice with its slot's wait over. -/
def State.waitOver (s : State) (n : Nat) : State := s.setSlice n { s.slice n with waitEnd := none }

theorem settleEnd_waiting (h : (s.slice n).waitEnd = none ∨ ∃ w, (s.slice n).waitEnd = some w ∧ s.st < w) : settleEnd n s = s := by
  unfold settleEnd
  dsimp only
  obtain hw | ⟨w, hw, hlt⟩ := h
  · rw [hw]
  · simp [hw, hlt]

section
variable {w c : Nat} (hw : (s.slice n).waitEnd = some w) (hle : w ≤ s.st) (hc : slotCtx (s.slice n) = some c)
include hw hle hc

theorem settleEnd_single (hm : dMODE (s.ctx c).desc = true) : settleEnd n s = (s.waitOver n).setSlice n
    { (s.waitOver n).slice n with conv := some (edgeAt w, (s.slice n).redo), fired := (s.slice n).ovlNow } := by
  simp [settleEnd, hw, hc, hm, Nat.not_lt.2 hle, State.waitOver]

theorem settleEnd_filter (hm : dMODE (s.ctx c).desc = false) (hd : (s.slice n).slotDiff = true) :
    settleEnd n s = settleEvent c w 0 false 0 (s.waitOver n) := by
  simp [settleEnd, hw, hc, hm, hd, Nat.not_lt.2 hle, State.waitOver]

end

/-! ### Decimator outputs (R97, R108) -/

section
variable {j : Nat} {src : ConvSrc} (hoff : s.sliceOff n = false) (hsc : s.sliceSc n = false) (hcal : s.calibrating n = false)
include hoff hsc

theorem decimated_early (h : s.st < j * s.sliceDec n * modCyc * 2 ^ 16) : decimated n j src s = s := by
  unfold decimated
  simp only [hoff, hsc, Bool.or_self, Bool.false_eq_true, if_false]
  exact if_pos h

include hcal

theorem decimated_due (h : j * s.sliceDec n * modCyc * 2 ^ 16 ≤ s.st) : decimated n j src s =
    loopTap n j (thermEnd n (decOutput n j (convCode s n 5 (s.sliceDec n) src).1 (convCode s n 5 (s.sliceDec n) src).2 s)) := by
  unfold decimated
  simp only [hoff, hsc, hcal, Bool.or_self, Bool.false_and, Bool.false_eq_true, if_false]
  exact if_neg (Nat.not_lt.2 h)

end

/-- An output of a slot that combines nothing: corrected, noted in the fast tap and passed to the slot's contexts. -/
theorem decOutput_plain {j : Nat} (raw : Int) (clamped : Bool) (h : scCOMB (s.slice (s.pairEven n)).app (s.slice (s.pairEven n)).slot = 0) :
    ∃ x marks ovl, decOutput n j raw clamped s = feedContexts n j (correct s n raw clamped) marks (s.cal n).running (s.setSlice n x) ∧
      x.tap = tapNext (s.slice n).tap (correct s n raw clamped) clamped ovl (s.cal n).running ∧ x.app = (s.slice n).app ∧ x.exc = (s.slice n).exc := by
  unfold decOutput
  dsimp only
  simp only [h, if_true]
  exact ⟨_, _, _, rfl, rfl, rfl, rfl⟩

/-! ### Single-cycle conversions (R147) -/

/-- The instant at which the window of a conversion begun at edge `e` has ended. -/
def windowEnd (e kc : Nat) : Nat := (e + 4 * (kc - 1) * modCyc) * 2 ^ 16

/-- Without a thermistor slot to end, a conversion's end is all. -/
theorem scEnded_noTherm {src : ConvSrc} (ht : (s.slice n).therm = none) : scEnded n src s = scDone n src s := by
  simp [scEnded, ht]

section
variable {e c : Nat} {o : Option Int} {src : ConvSrc} (hconv : (s.slice n).conv = some (e, o)) (hc : slotCtx (s.slice n) = some c)
include hconv hc

theorem scDone_not (h : s.sliceOff n = true ∨ s.st < windowEnd e (max 2 (dSCK (s.ctx c).desc))) : scDone n src s = s := by
  unfold scDone
  simp only [hconv, hc]
  exact if_pos h.symm

/-- A conversion of a slot with neither autorange nor a combination delivers its corrected code. -/
theorem scDone_plain (hoff : s.sliceOff n = false) (hend : windowEnd e (max 2 (dSCK (s.ctx c).desc)) ≤ s.st)
    (hcomb : scCOMB (s.slice n).app (s.slice n).slot = 0) (har : aAREN (s.slice n).app = false)
    (hfeeds : feedsNext (s.slice n).app (s.slice n).slot = false) :
    ∃ x cv, scDone n src s = scNext n e (max 2 (dSCK (s.ctx c).desc)) false (scDeliver c cv (s.setSlice n x)) ∧
      cv.v = correct s n (convCode s n 4 (max 2 (dSCK (s.ctx c).desc)) src).1 (convCode s n 4 (max 2 (dSCK (s.ctx c).desc)) src).2 ∧
      cv.c = s.scInst (s.ctx c).desc n e ∧ x.conv = none ∧ x.redo = none ∧ x.app = (s.slice n).app := by
  unfold scDone
  simp only [hconv, hc, hcomb, har, hfeeds, if_true, Bool.false_and, Bool.false_eq_true, if_false]
  rw [if_neg fun h => h.elim (Nat.not_lt.2 hend) (by simp [hoff])]
  exact ⟨_, _, rfl, rfl, rfl, rfl, rfl, rfl⟩

end

/-! ### The overload comparator (R97, R98) -/

theorem ovlRise_now (hoff : s.sliceOff n = false) (hnow : (s.slice n).ovlNow = false) : ovlRise n s = raise (pSLICE n) 0
    (s.setSlice n { s.slice n with ovlNow := true, fired := true, slotOvl := true, ovlCnt := satInc 32 (s.slice n).ovlCnt }) :=
  if_neg (by simp [hoff, hnow])

theorem ovlRise_not (h : s.sliceOff n = true ∨ (s.slice n).ovlNow = true) : ovlRise n s = s := if_pos h

theorem ovlFall_now (h : (s.slice n).ovlNow = true) : ovlFall n s = s.setSlice n { s.slice n with ovlNow := false, ovlEnd := s.st + 40 * usU } :=
  if_pos h

theorem ovlFall_not (h : (s.slice n).ovlNow = false) : ovlFall n s = s := if_neg (by simp [h])

end

/-- Settles O26: the end of a wait by the context's mode, a decimator output, a single-cycle conversion, and the comparator's two edges. -/
theorem conversions : Obligations.Conversions := by
  refine ⟨fun s n w c hs hw hle hc => ?_, fun s n hs h => ?_, fun s n j ls sv hs hoff hsc hcal => ?_, fun s n e c o ls sv hs hconv hc ht => ?_,
    fun s n hs => ?_⟩
  · rw [exec_slotSettleEnd hs]
    refine ⟨fun hm => ?_, fun hm hd => ?_⟩
    · rw [settleEnd_single hw hle hc hm]
      exact ⟨_, rfl, by simp [State.waitOver], by simp, by simp, by simp [State.waitOver], fun m hm => by simp [State.waitOver, hm]⟩
    · rw [settleEnd_filter hw hle hc hm hd]
      rfl
  · rw [exec_slotSettleEnd hs, settleEnd_waiting h]
  · rw [exec_decimatorOutput hs]
    refine ⟨fun hearly => by rw [decimated_early hoff hsc hearly], fun hdue hcomb => ?_⟩
    obtain ⟨x, marks, ovl, he, hx⟩ := decOutput_plain (j := j) (convCode s n.val 5 (s.sliceDec n.val) (convSrc ls sv)).1
      (convCode s n.val 5 (s.sliceDec n.val) (convSrc ls sv)).2 hcomb
    rw [decimated_due hoff hsc hcal hdue, he]
    exact ⟨x, marks, ovl, rfl, hx⟩
  · rw [exec_scConversionDone hs, scEnded_noTherm ht]
    refine ⟨fun h => by rw [scDone_not hconv hc h], fun hoff hend hcomb har hfeeds => ?_⟩
    obtain ⟨x, cv, he, hx⟩ := scDone_plain (src := convSrc ls sv) hconv hc hoff hend hcomb har hfeeds
    rw [he]
    exact ⟨x, cv, rfl, hx⟩
  · rw [exec_ovlComparatorRise hs, exec_ovlComparatorFall hs]
    refine ⟨fun hoff hnow => ?_, fun h => by rw [ovlRise_not h], fun h => by rw [ovlFall_not h], fun h => by rw [ovlFall_now h]⟩
    rw [ovlRise_now hoff hnow]
    exact ⟨_, rfl, by simp, by simp, by simp, by simp, raise_latched _ 0 _ (by decide), by simp, fun m hm => by simp [hm]⟩

end Sys2Proof.Machine
end

section
/-! SUPPORT. The calibration supervisor: what makes slices due, and OTP_DATA (R96, R111, R113 to R116). -/

namespace Sys2Proof.Machine

section
variable {s : State} {src : Src}

theorem exec_otpDataRead (h : s.reaches 0x6108) : exec (.otpDataRead src) s = .next (otpDataRead s) :=
  (act_live h.1).trans (congrArg _ (busRead_reg src.code 0x6108 s h.2))

theorem exec_calForce {hi : Bool} {v : Word} (h : s.reaches (if hi then 0xC114 else 0xC110)) : exec (.calForce src hi v) s = .next (calForce hi v s) := by
  cases hi with
  | true => exact act_busWrite src.code v h (by decide)
  | false => exact act_busWrite src.code v h (by decide)

variable {n : Fin 64} {m : Fin 16} (hs : s.supply.held = false)
include hs

theorem exec_mtTempUpdate {temp : Int} : exec (.mtTempUpdate m temp) s = .next (mittTemp m.val temp s) := act_live hs
theorem exec_calMaxAgeExpiry : exec (.calMaxAgeExpiry n) s = .next (calAge n.val s) := act_live hs
theorem exec_calRetry : exec (.calRetry n) s = .next (calRetry n.val s) := act_live hs
theorem exec_calDeferExpired : exec (.calDeferExpired n) s = .next (calServe (calExpire n.val s)) :=
  act_live (f := fun s => calServe (calExpire n.val s)) hs
theorem exec_mittReferenceSettled : exec (.mittReferenceSettled m) s = .next (mittSettled m.val s) := act_live hs

end

/-! ### One slice's calibration state at a time -/

/-- `f` changes the calibration state of slice `idx i` alone at its turn `i`, by `g`, while `P` holds, which it keeps. -/
structure CalEach (P : State → Prop) (f : State → Nat → State) (idx : Nat → Nat) (g : Nat → CalSl → CalSl) : Prop where
  inj : ∀ {i j}, idx i = idx j → i = j
  keeps : ∀ {a} i, P a → P (f a i)
  own : ∀ {a} i, P a → (f a i).cal (idx i) = g (idx i) (a.cal (idx i))
  other : ∀ {a} i k, k ≠ idx i → (f a i).cal k = a.cal k

section
variable {P : State → Prop} {f : State → Nat → State} {idx : Nat → Nat} {g : Nat → CalSl → CalSl} (h : CalEach P f idx g)
include h

/-- A slice whose turn does not come keeps its state. -/
theorem CalEach.foldl_other (k : Nat) (l : List Nat) (a : State) (hk : ∀ i ∈ l, k ≠ idx i) : (l.foldl f a).cal k = a.cal k := by
  induction l generalizing a with
  | nil => rfl
  | cons i l ih => exact (ih (f a i) fun j hj => hk j (List.mem_cons_of_mem i hj)).trans (h.other i k (hk i List.mem_cons_self))

/-- A slice whose turn comes once is changed once. -/
theorem CalEach.foldl_own (l : List Nat) (a : State) (hl : l.Nodup) (ha : P a) (i : Nat) (hi : i ∈ l) :
    (l.foldl f a).cal (idx i) = g (idx i) (a.cal (idx i)) := by
  induction l generalizing a with
  | nil => exact absurd hi List.not_mem_nil
  | cons j l ih =>
    obtain ⟨hj, hl⟩ := List.nodup_cons.1 hl
    rw [List.foldl_cons]
    obtain rfl | hi := List.mem_cons.1 hi
    · rw [h.foldl_other (idx i) l _ fun k hk he => hj (h.inj he ▸ hk), h.own i ha]
    · rw [ih (f a j) hl (h.keeps j ha) hi, h.other j (idx i) fun he => hj (h.inj he ▸ hi)]

theorem CalEach.foldl_keeps (l : List Nat) {a : State} (ha : P a) : P (l.foldl f a) :=
  Machine.foldl_keeps P f (fun _ i => h.keeps i) l a ha

end

/-! ### A temperature update (R96, R113) -/

/-- What becoming due at edge `clk` leaves of a slice: nothing changes where it is due already, runs, waits after a failure or is given up. -/
def CalSl.due (c : CalSl) (clk : Nat) : CalSl :=
  if c.dueAt.isSome || (c.running && c.verdict != some true) || c.retryAt.isSome || c.fault then c else { c with dueAt := some clk, expired := false }

/-- Becoming due changes the slice's calibration state alone. -/
theorem calDue_eq (n : Nat) (s : State) : calDue n s = s ∨ calDue n s = s.setCal n { s.cal n with dueAt := some s.clk, expired := false } := by
  unfold calDue
  dsimp only
  split
  · exact .inl rfl
  · exact .inr rfl

theorem calDue_cal_own (n : Nat) (s : State) : (calDue n s).cal n = (s.cal n).due s.clk := by
  unfold calDue CalSl.due
  dsimp only
  split <;> simp

theorem calDue_cal_other {n k : Nat} (h : k ≠ n) (s : State) : (calDue n s).cal k = s.cal k := by
  obtain e | e := calDue_eq n s <;> simp [e, h]

/-- The slice with a temperature noted for the recalibration that has not stored its own yet. -/
def CalSl.noteTemp (c : CalSl) (t : Int) (st : Nat) : CalSl :=
  match c.t0 with
  | some t0 => if c.running && decide (st ≤ t0 + 10 * msU) then { c with calTemp := t } else c
  | none => c

/-- Only the temperature of a running recalibration is noted. -/
theorem CalSl.noteTemp_eq (c : CalSl) (t : Int) (st : Nat) : ∃ x, c.noteTemp t st = { c with calTemp := x } := by
  unfold noteTemp
  split
  · split
    · exact ⟨t, rfl⟩
    · exact ⟨c.calTemp, rfl⟩
  · exact ⟨c.calTemp, rfl⟩

/-- One slice's turn in a temperature update: the step of `mittTemp`'s fold. -/
def tempTurn (m : Nat) (t : Int) (a : State) (i : Nat) : State :=
  let a1 := a.setCal (4 * m + i) ((a.cal (4 * m + i)).noteTemp t a.st)
  if calCfg_AUTO_EN a = 1 ∧ calThresh a < calDiff a1 (4 * m + i) then calDue (4 * m + i) a1 else a1

theorem mittTemp_off {m : Nat} {t : Int} {s : State} (h : (s.dom (1 + m)).st = 4) : mittTemp m t s = s := if_pos h

theorem mittTemp_up {m : Nat} {t : Int} {s : State} (h : (s.dom (1 + m)).st ≠ 4) :
    mittTemp m t s = (List.range 4).foldl (tempTurn m t) (s.setMitt m { s.mitt m with temp := t }) := if_neg h

/-- The registers, the mittens and the time of `u`. -/
def State.seenAs (u a : State) : Prop := a.regs = u.regs ∧ a.mitts = u.mitts ∧ a.st = u.st ∧ a.clk = u.clk

/-- The drift of slice `k` in state `c` exceeds CAL_THRESH under AUTO_EN. -/
def calDrifted (s : State) (k : Nat) (c : CalSl) : Bool :=
  decide (calCfg_AUTO_EN s = 1) && decide (calThresh s < ((s.mitt (k / 4)).temp - c.temp).natAbs)

theorem calDrifted_congr {u a : State} (h : u.seenAs a) (k : Nat) (c : CalSl) : calDrifted a k c = calDrifted u k c := by
  obtain ⟨hregs, hmitts, -, -⟩ := h
  have hrw : ∀ r, a.rw r = u.rw r := fun r => by simp only [State.rw, hregs]
  have hauto : calCfg_AUTO_EN a = calCfg_AUTO_EN u := congrArg (fld · 0 0) (hrw calCfgAt)
  have hthresh : calThresh a = calThresh u := congrArg (fun w => max 5 (min 800 (fld w 9 0))) (hrw calThreshAt)
  have hmitt : a.mitt (k / 4) = u.mitt (k / 4) := by simp only [State.mitt, hmitts]
  rw [calDrifted, hauto, hthresh, hmitt]
  rfl

/-- What a temperature `t` taken in state `u` leaves of slice `k`. -/
def CalSl.afterTemp (u : State) (t : Int) (k : Nat) (c : CalSl) : CalSl :=
  if calDrifted u k c then (c.noteTemp t u.st).due u.clk else c.noteTemp t u.st

/-- A turn is the slice's note, and by its drift also its becoming due. -/
theorem tempTurn_cases (m : Nat) (t : Int) (a : State) (i : Nat) :
    let a1 := a.setCal (4 * m + i) ((a.cal (4 * m + i)).noteTemp t a.st)
    tempTurn m t a i = if calDrifted a (4 * m + i) (a.cal (4 * m + i)) then calDue (4 * m + i) a1 else a1 := by
  obtain ⟨x, hx⟩ := (a.cal (4 * m + i)).noteTemp_eq t a.st
  simp [tempTurn, calDrifted, calDiff, hx]

/-- An update of MT_TEMP goes slice by slice. -/
theorem tempTurn_each (u : State) (m : Nat) (t : Int) : CalEach u.seenAs (tempTurn m t) (4 * m + ·) (CalSl.afterTemp u t) where
  inj h := by simpa using h
  keeps {a} i h := by
    rw [tempTurn_cases]
    split
    · obtain e | e := calDue_eq (4 * m + i) (a.setCal (4 * m + i) ((a.cal (4 * m + i)).noteTemp t a.st)) <;> simpa [e, State.seenAs] using h
    · simpa [State.seenAs] using h
  own {a} i h := by
    obtain ⟨-, -, hst, hclk⟩ := id h
    rw [tempTurn_cases, calDrifted_congr h, CalSl.afterTemp, ← hst, ← hclk]
    split
    · simp [calDue_cal_own]
    · simp
  other {a} i k hk := by
    rw [tempTurn_cases]
    split
    · rw [calDue_cal_other hk]
      simp [hk]
    · simp [hk]

/-- A slice that is not due, runs nothing and waits for nothing becomes due by its drift alone. -/
theorem afterTemp_dueAt {u : State} {t : Int} {k : Nat} {c : CalSl} (hdue : c.dueAt = none) (hrun : c.running = false) (hretry : c.retryAt = none)
    (hfault : c.fault = false) : (c.afterTemp u t k).dueAt = if calDrifted u k c then some u.clk else none := by
  obtain ⟨x, hx⟩ := c.noteTemp_eq t u.st
  unfold CalSl.afterTemp
  split <;> simp [hx, CalSl.due, hdue, hrun, hretry, hfault]

/-- What a temperature update leaves. -/
theorem mittTemp_spec {m : Nat} {t : Int} {s u : State} (h : (s.dom (1 + m)).st ≠ 4) (hu : u = s.setMitt m { s.mitt m with temp := t }) :
    u.seenAs (mittTemp m t s) ∧ (∀ k, k / 4 ≠ m → (mittTemp m t s).cal k = s.cal k) ∧
      ∀ k, k / 4 = m → (mittTemp m t s).cal k = (s.cal k).afterTemp u t k := by
  have heach := tempTurn_each u m t
  have hcal : ∀ k, u.cal k = s.cal k := fun k => by simp [hu]
  rw [mittTemp_up h, ← hu]
  refine ⟨heach.foldl_keeps _ ⟨rfl, rfl, rfl, rfl⟩, fun k hk => ?_, fun k hk => ?_⟩
  · rw [heach.foldl_other k _ _ fun i hi => by have := List.mem_range.1 hi; omega, hcal]
  · have hown := heach.foldl_own (List.range 4) u List.nodup_range ⟨rfl, rfl, rfl, rfl⟩ (k % 4) (List.mem_range.2 (Nat.mod_lt k (by decide)))
    rwa [hcal, show 4 * m + k % 4 = k by omega] at hown

/-! ### OTP_DATA (R111) -/

/-- A read answers the word at OTP_ADDR, 0 before the load and beyond the region, and moves OTP_ADDR on. -/
theorem otpDataRead_spec (s : State) :
    (otpDataRead s).lastRead = [if s.otp.loaded = true ∧ otpAddr_ADDR s ≤ 0x9FF then s.otpWord (4 * otpAddr_ADDR s) else 0] ∧
      otpAddr_ADDR (otpDataRead s) = (if 0x9FF ≤ otpAddr_ADDR s then 0 else otpAddr_ADDR s + 1) ∧ (otpDataRead s).otp = s.otp := by
  refine ⟨?_, ?_, by simp [otpDataRead]⟩
  · change [_] = [_]
    have hiff : (!s.otp.loaded || decide (0x27FC < 4 * otpAddr_ADDR s)) = true ↔ ¬(s.otp.loaded = true ∧ otpAddr_ADDR s ≤ 0x9FF) := by
      cases s.otp.loaded with
      | false => exact ⟨fun _ hc => Bool.noConfusion hc.1, fun _ => rfl⟩
      | true =>
        rw [Bool.not_true, Bool.false_or, decide_eq_true_eq]
        exact ⟨fun hlt hc => absurd hc.2 (by omega), fun hc => Nat.lt_of_not_le fun hle => hc ⟨rfl, by omega⟩⟩
    simp only [hiff, ite_not]
  · change fld ((s.setFld otpAddrAt 13 2 _).rw otpAddrAt) 13 2 = _
    rw [fld_setFld _ _ _ _ _ (by decide) (by decide)]
    split <;> split <;> omega

/-! ### Age, retry, deferral and power-up (R113, R114, R116) -/

section
variable {s : State} {n : Nat}

theorem calAge_not (h : calCfg_AUTO_EN s = 0 ∨ calMaxAge_AGE s = 0 ∨ s.sec < (s.cal n).sec + 3600 * calMaxAge_AGE s ∨ (s.dom (1 + n / 4)).st = 4) :
    calAge n s = s :=
  if_neg (by omega)

theorem calRetry_not (h : (s.cal n).retryAt = none ∨ ∃ r, (s.cal n).retryAt = some r ∧ s.clk < r) : calRetry n s = s := by
  unfold calRetry
  dsimp only
  obtain h | ⟨r, h, hlt⟩ := h
  · rw [h]
  · rw [h]
    exact if_neg (Nat.not_le.2 hlt)

/-- The slice whose wait after a refusal or a failure is over. -/
def State.retried (s : State) (n : Nat) : State :=
  s.setCal n { s.cal n with retryAt := none, gapEnd := none, dueAt := some ((s.cal n).dueAt.getD s.clk) }

/-- A wait that is over makes the slice due; one that asked in a CAL_SLOT gap asks in it again. -/
theorem calRetry_now {r : Nat} (h : (s.cal n).retryAt = some r) (hle : r ≤ s.clk) : calRetry n s = calServe
    (if (s.cal n).gapEnd.isSome && needsGap s n then calServeGo [n] (s.cal n).gapEnd 1 (calDefer n (s.retried n)) else s.retried n) := by
  simp only [calRetry, h, if_pos hle]
  rfl

/-- The units of the trigger engine note STALE; nothing else changes. -/
theorem markStale_keeps (cs : List Nat) (s : State) : (markStale cs s).cals = s.cals ∧ (markStale cs s).regs = s.regs :=
  foldl_keeps (fun t => t.cals = s.cals ∧ t.regs = s.regs) _ (fun t u h => by simpa using h) _ s ⟨rfl, rfl⟩

/-- An event of a slice changes no slice. -/
@[simp] theorem calRaise_keeps (b : Nat) : (calRaise n b s).cals = s.cals ∧ (calRaise n b s).regs = s.regs ∧ (calRaise n b s).slices = s.slices := by
  simp [calRaise]

/-- A slice's calibration state goes by the table of them alone. -/
theorem cal_congr {s t : State} (h : t.cals = s.cals) (k : Nat) : t.cal k = s.cal k := by
  simp only [State.cal, h]

@[simp] theorem calRaise_cal (b k : Nat) : (calRaise n b s).cal k = s.cal k := cal_congr (calRaise_keeps b).1 k

theorem calRaise_latched (b : Nat) (hb : b < 32) : bit ((calRaise n b s).page pCAL).stat b = true := raise_latched pCAL b _ hb

/-- The end of a deferral is noted in its own two fields. -/
theorem undefer_eq (s : State) (c : CalSl) : ∃ d, undefer s c = { c with deferAt := none, deferSec := d } := by
  unfold undefer
  split
  · exact ⟨_, rfl⟩
  next h => exact ⟨c.deferSec, by rw [← h]⟩

theorem undefer_congr {s t : State} (h : t.clk = s.clk) (c : CalSl) : undefer t c = undefer s c := by
  unfold undefer
  rw [h]

section
variable {d : Nat} (hd : (s.cal n).dueAt = some d)
include hd

/-- 600 s after becoming due a slice that an open record still holds back proceeds. -/
theorem calExpire_now (hlate : d + 600000000000 ≤ s.clk) (he : (s.cal n).expired = false) (ht : calTaken (s.cal n) = false)
    (hf : (s.cal n).forced = false) (ha : calAffected s n = true) : calExpire n s =
      calRaise n 4 (markStale (calAffects s n) (s.setCal n { undefer s (s.cal n) with expired := true })) := by
  simp [calExpire, hd, he, ht, hf, ha, State.passed, hlate]

/-- A deferral that expires ends, is noted and reported; the slice stays due, and the others stay as they are. -/
theorem calExpire_spec (hlate : d + 600000000000 ≤ s.clk) (he : (s.cal n).expired = false) (ht : calTaken (s.cal n) = false)
    (hf : (s.cal n).forced = false) (ha : calAffected s n = true) : let u := calExpire n s
    (u.cal n).expired = true ∧ (u.cal n).deferAt = none ∧ (u.cal n).dueAt = some d ∧ (∀ m, m ≠ n → u.cal m = s.cal m) ∧ u.regs = s.regs ∧
      bit (u.page pCAL).stat 4 = true := by
  obtain ⟨x, hx⟩ := undefer_eq s (s.cal n)
  obtain ⟨hcals, hregs⟩ := markStale_keeps (calAffects s n) (s.setCal n { undefer s (s.cal n) with expired := true })
  have hcal : ∀ m, (calExpire n s).cal m = if m = n then { undefer s (s.cal n) with expired := true } else s.cal m := fun m => by
    rw [calExpire_now hd hlate he ht hf ha, calRaise_cal, cal_congr hcals, State.cal_setCal]
  have hown := (hcal n).trans (if_pos rfl)
  refine ⟨by rw [hown], by rw [hown, hx], by rw [hown, hx]; exact hd, fun m hm => (hcal m).trans (if_neg hm), ?_, ?_⟩
  · rw [calExpire_now hd hlate he ht hf ha]
    simpa using hregs
  · rw [calExpire_now hd hlate he ht hf ha]
    exact calRaise_latched 4 (by decide)

theorem calExpire_not (h : s.clk < d + 600000000000 ∨ (s.cal n).expired = true ∨ calTaken (s.cal n) = true ∨ (s.cal n).forced = true ∨
    calAffected s n = false) : calExpire n s = s := by
  simp only [calExpire, hd]
  refine if_neg fun hc => ?_
  simp only [State.passed, Bool.and_eq_true, decide_eq_true_eq, Bool.not_eq_true'] at hc
  obtain ⟨⟨⟨⟨hlate, he⟩, ht⟩, hf⟩, ha⟩ := hc
  simp [he, ht, hf, ha, Nat.not_lt.2 hlate] at h

end

end

/-- What the settling of its mitten's reference leaves of a slice. -/
def CalSl.settle (_ : Nat) (c : CalSl) : CalSl := { c with settled := true }

/-- One slice's turn as its mitten's reference has settled: the step of `mittSettled`'s fold. -/
def settleTurn (m : Nat) (a : State) (i : Nat) : State := a.setCal (4 * m + i) { a.cal (4 * m + i) with settled := true }

theorem settleTurn_each (m : Nat) : CalEach (fun _ => True) (settleTurn m) (4 * m + ·) CalSl.settle where
  inj h := by simpa using h
  keeps _ h := h
  own i _ := by simp [settleTurn, CalSl.settle]
  other i k hk := by simp [settleTurn, hk]

/-- The slices of a mitten with its reference settled. -/
def settledSlices (m : Nat) (s : State) : State := (List.range 4).foldl (settleTurn m) s

theorem settledSlices_own {m i : Nat} (s : State) (hi : i < 4) : (settledSlices m s).cal (4 * m + i) = { s.cal (4 * m + i) with settled := true } :=
  (settleTurn_each m).foldl_own _ s List.nodup_range trivial i (List.mem_range.2 hi)

theorem settledSlices_other {m k : Nat} (s : State) (hk : k / 4 ≠ m) : (settledSlices m s).cal k = s.cal k :=
  (settleTurn_each m).foldl_other k _ s fun i hi => by have := List.mem_range.1 hi; omega

theorem mittSettled_now {m : Nat} {s : State} (hdom : (s.dom (1 + m)).st ≠ 4) (ht : (s.mitt m).upAt + 200000000 ≤ s.clk) :
    mittSettled m s = calServe (settledSlices m s) :=
  if_pos ⟨hdom, decide_eq_true ht⟩

theorem mittSettled_not {m : Nat} {s : State} (h : (s.dom (1 + m)).st = 4 ∨ s.clk < (s.mitt m).upAt + 200000000) : mittSettled m s = s :=
  if_neg fun ⟨hdom, ht⟩ => h.elim hdom (Nat.not_lt.2 (of_decide_eq_true ht))

/-! ### CAL_FORCE (R113, R118, R121) -/

/-- What CAL_FORCE leaves of a slice at the time of `u`. -/
def CalSl.force (u : State) (_ : Nat) (c : CalSl) : CalSl :=
  let c1 := { undefer u c with forced := true, retryAt := none }
  if c.running || c.dueAt.isSome then c1 else { c1 with dueAt := some u.clk, expired := false }

/-- A forced slice waits for nothing, and unless it runs is due. -/
theorem CalSl.force_spec (u : State) (k : Nat) (c : CalSl) : (c.force u k).forced = true ∧ (c.force u k).retryAt = none ∧
    (c.running = false → (c.force u k).dueAt = some (c.dueAt.getD u.clk)) := by
  obtain ⟨d, hd⟩ := undefer_eq u c
  unfold CalSl.force
  rw [hd]
  cases c.dueAt <;> cases c.running <;> simp

/-- One slice's turn in a write of CAL_FORCE: the step of `calForce`'s fold, `off` the first slice of the register. -/
def forceTurn (off : Nat) (a : State) (i : Nat) : State := calForceOne (i + off) a

theorem forceTurn_each (u : State) (off : Nat) : CalEach (fun a => a.clk = u.clk) (forceTurn off) (· + off) (CalSl.force u) where
  inj h := by simpa using h
  keeps i h := by simpa [forceTurn, calForceOne] using h
  own i h := by simp [forceTurn, calForceOne, CalSl.force, undefer_congr h, h]
  other i k hk := by simp [forceTurn, calForceOne, hk]

/-- The slices as a write of `v` to CAL_FORCE_LO or CAL_FORCE_HI leaves them. -/
def forcedSlices (hi : Bool) (v : Word) (s : State) : State :=
  ((List.range 32).filter (fun i => bit v i)).foldl (forceTurn (if hi then 32 else 0)) s

theorem calForce_eq (hi : Bool) (v : Word) (s : State) : calForce hi v s = calServe (forcedSlices hi v s) := rfl

section
variable (hi : Bool) (v : Word) (s : State)

theorem forcedSlices_set {i : Nat} (hlt : i < 32) (hb : bit v i = true) :
    (forcedSlices hi v s).cal (i + if hi then 32 else 0) = (s.cal (i + if hi then 32 else 0)).force s (i + if hi then 32 else 0) :=
  (forceTurn_each s (if hi then 32 else 0)).foldl_own _ s (List.nodup_range.filter _) rfl i (List.mem_filter.2 ⟨List.mem_range.2 hlt, hb⟩)

theorem forcedSlices_clear {i : Nat} (hb : bit v i = false) : (forcedSlices hi v s).cal (i + if hi then 32 else 0) = s.cal (i + if hi then 32 else 0) := by
  refine (forceTurn_each s (if hi then 32 else 0)).foldl_other _ _ s fun k hk he => ?_
  obtain rfl : i = k := Nat.add_right_cancel he
  simp [hb] at hk

/-- The slices of the other register stay. -/
theorem forcedSlices_other {k : Nat} (hk : k / 32 ≠ if hi then 1 else 0) : (forcedSlices hi v s).cal k = s.cal k := by
  refine (forceTurn_each s (if hi then 32 else 0)).foldl_other k _ s fun i hmem => ?_
  have hlt := List.mem_range.1 (List.mem_filter.1 hmem).1
  cases hi with
  | true => rw [if_pos rfl] at hk ⊢; omega
  | false => rw [if_neg (by decide)] at hk ⊢; omega

end

end Sys2Proof.Machine
end

section
/-! SUPPORT. A recalibration: its start, the outputs that its trials and residuals take, its judgement and its end (R117, R118, R120, R121). -/

namespace Sys2Proof.Machine

section
variable {s : State} {n : Fin 64} (hs : s.supply.held = false)
include hs

theorem exec_calStart : exec (.calStart n) s = .next (calStart n.val s) := act_live hs
theorem exec_calEnd {a b c d : Int} : exec (.calEnd n a b c d) s = .next (calEnd n.val (calSaid a b c d) s) := act_live hs

end

section
variable {s : State} {n : Nat}

/-! ### The start (R117, step 1) -/

/-- A slice whose recalibration begins at temperature `temp`, with its present codes kept aside. -/
def CalSl.begun (c : CalSl) (temp : Int) : CalSl :=
  { c with running := true, outs := 0, acc := 0, verdict := none, oldOfs := c.ofs, oldGain := c.gain, calTemp := temp, forced := false }

section
variable {t0 : Nat} (h0 : (s.cal n).t0 = some t0)
include h0

theorem calStart_now (ht : t0 ≤ s.st) (hrun : (s.cal n).running = false) : ∃ d, calStart n s =
    calRaise n 0 (s.setCal n { (s.cal n).begun (s.mitt (n / 4)).temp with deferAt := none, deferSec := d }) := by
  obtain ⟨d, hd⟩ := undefer_eq s (s.cal n)
  refine ⟨d, ?_⟩
  simp only [calStart, h0, hd, CalSl.begun]
  rw [if_pos ⟨ht, by simp [hrun]⟩]

theorem calStart_not (h : s.st < t0 ∨ (s.cal n).running = true) : calStart n s = s := by
  simp only [calStart, h0]
  refine if_neg fun ⟨ht, hrun⟩ => ?_
  simp only [Bool.not_eq_true'] at hrun
  simp [hrun, Nat.not_lt.2 ht] at h

end

/-! ### Outputs of the trials and residuals (R117) -/

/-- The corrected code of output `q`, by what the modulator took. -/
def calCode (s : State) (n q : Nat) (src : ConvSrc) : Int :=
  let g := calGain q
  let y := match src with
    | .samples ls => sincCode 5 256 ls
    | .volts vin _ => convFormula (2 ^ g) ((if g = 0 then ((5 * voltU / 4 : Nat) : Int) else 0) + vin) none
  let z := clampI (-(2 ^ 23 - 1)) (2 ^ 23 - 1) y
  correctAt s n g z (decide (y ≠ z))

/-- A recalibrating slice that delivers nothing feeds its recalibration alone. -/
theorem decimated_calibrating {j : Nat} {src : ConvSrc} (hcal : s.calibrating n = true) (hoff : s.sliceOff n = true)
    (h : j * 256 * modCyc * 2 ^ 16 ≤ s.st) : decimated n j src s = calFeed n j src s := by
  unfold decimated
  simp only [hoff, hcal, Bool.true_or, if_true, Nat.mul_mod_left, decide_true, Bool.and_true, Nat.mul_div_cancel _ (show 0 < 256 by decide)]
  exact if_neg (Nat.not_lt.2 h)

/-- The next output that the recalibration waits for is taken as it comes. -/
theorem calFeed_next {j q t0 : Nat} {src : ConvSrc} (h0 : (s.cal n).t0 = some t0) (hq : q = j - t0 / (256 * modCyc * 2 ^ 16)) (hnext : q = (s.cal n).outs + 1)
    (hle : q ≤ 184) : calFeed n j src s = calOut n q (calCode s n q src) s := by
  unfold calFeed
  simp only [h0, Option.getD_some, ← hq]
  rw [if_neg (by omega), show q - 1 - (s.cal n).outs = 0 by omega]
  rfl

section
variable {q : Nat} {y : Int}

/-- The sum of a trial or residual after its last output, both or all eight of which count. -/
theorem calSum_counts {c : CalSl} {lo m : Nat} (h : lo ≤ m) : calSum c lo m y = c.acc + y := if_neg (Nat.not_lt.2 h)

theorem calOut_offset (h9 : 9 ≤ q) (h80 : q ≤ 80) (h6 : (q - 9) % 6 = 5) : calOut n q y s = s.setCal n { s.cal n with
    outs := q, acc := 0, ofs := calTrial (decide (0 ≤ (s.cal n).acc + y)) (s.cal n).ofs (11 - (q - 9) / 6) } := by
  unfold calOut
  simp only [h6]
  rw [if_neg (by omega), if_neg (by omega), if_pos h80, if_neg (by decide), calSum_counts (by decide)]

theorem calOut_gain (h89 : 89 ≤ q) (h160 : q ≤ 160) (h6 : (q - 89) % 6 = 5) : calOut n q y s = s.setCal n { s.cal n with
    outs := q, acc := 0, gain := calTrial (decide ((s.cal n).acc + y ≤ 2 * (s.cal n).target)) (s.cal n).gain (11 - (q - 89) / 6) } := by
  unfold calOut
  simp only [h6]
  rw [if_neg (by omega), if_neg (by omega), if_neg (by omega), if_neg (by omega), if_neg (by omega), if_pos h160, if_neg (by decide), calSum_counts (by decide)]

/-- The last output of the offset residual brings step 7. -/
theorem calOut_last {t0 : Nat} (h0 : (s.cal n).t0 = some t0) : calOut n 184 y s =
    calJudge n t0 (s.setCal n { s.cal n with outs := 184, acc := 0, ofsRes := ofsResid ((s.cal n).acc + y) }) := by
  have ht : (s.cal n).t0.getD 0 = t0 := by rw [h0]; rfl
  rw [← ht]
  rfl

end

/-! ### The judgement of step 7 (R117, R118) -/

/-- When a recalibration from `t0` ends, `s1` the state after step 7's apply and slot start. -/
def calEndAt (s1 : State) (n t0 : Nat) : Nat := max (t0 + 24 * msU) (calWait s1 n (t0 + 23 * msU))

section
variable {t0 : Nat} {s1 : State} (h1 : s1 = calStep7 n (t0 + 23 * msU) s)
include h1

/-- A good result is kept; what it stores may make the slice due again. -/
theorem calJudge_good (hg : calGood (s1.cal n).ofs (s1.cal n).gain (s1.cal n).ofsRes (s1.cal n).gainRes = true) :
    ∃ d, (calJudge n t0 s).cal n = { calKept (s1.cal n) (calEndAt s1 n t0) with dueAt := d } := by
  unfold calJudge
  simp only [← h1, hg, if_true]
  split
  · exact ⟨some s1.clk, by simp [calEndAt]⟩
  · exact ⟨none, by simp [calEndAt, calKept]⟩

theorem calJudge_bad (hg : calGood (s1.cal n).ofs (s1.cal n).gain (s1.cal n).ofsRes (s1.cal n).gainRes = false) :
    (calJudge n t0 s).cal n = calFailed (s1.cal n) (calEndAt s1 n t0) := by
  unfold calJudge
  simp only [← h1, hg]
  simp [calEndAt]

end

/-! ### The end (R117 to R120) -/

/-- What the end of a recalibration judged `good` leaves of a slice, at edge `clk` with RETRY_S of `ns`. -/
def CalSl.ended (c : CalSl) (good : Bool) (clk ns : Nat) : CalSl :=
  let c1 := { c with running := false, t0 := none, verdict := none, upOff := c.upOff && !good, retryAt := if good || c.fault then none else some (clk + ns) }
  if c.forced then { c1 with dueAt := some clk, retryAt := none } else c1

/-- The slice runs no more, keeps its codes and its count, and unless forced waits after a failure. -/
theorem CalSl.ended_spec (c : CalSl) (good : Bool) (clk ns : Nat) : let x := c.ended good clk ns
    x.running = false ∧ x.t0 = none ∧ x.ofs = c.ofs ∧ x.gain = c.gain ∧ x.count = c.count ∧ x.fault = c.fault ∧ x.upOff = (c.upOff && !good) ∧
      (c.forced = false → x.retryAt = if good = true ∨ c.fault = true then none else some (clk + ns)) := by
  unfold CalSl.ended
  cases hf : c.forced <;> simp

theorem calEnd_not {said : Nat → Int} (h : (s.cal n).t0 = none ∨ (s.cal n).running = false ∨ ∃ t0, (s.cal n).t0 = some t0 ∧ s.st < t0 + 24 * msU) :
    calEnd n said s = s := by
  unfold calEnd
  dsimp only
  cases h0 : (s.cal n).t0 with
  | none => rfl
  | some t0 =>
    refine if_pos ?_
    simpa [h0] using h

section
variable {said : Nat → Int} {t0 : Nat} {good : Bool} (h0 : (s.cal n).t0 = some t0) (hrun : (s.cal n).running = true)
  (hend : t0 + 24 * msU ≤ s.st) (hv : (s.cal n).verdict = some good)
include h0 hrun hend hv

theorem calEnd_early (h : s.st < (s.cal n).t1) : calEnd n said s = s := by
  simp only [calEnd, h0, hrun, hv]
  simp [Nat.not_lt.2 hend, h]

/-- At t1 the slice runs no more, the judgement is reported, the contexts' settling events begin, and the due slices are served. -/
theorem calEnd_now (h : (s.cal n).t1 ≤ s.st) : calEnd n said s = calServe (settleEnd n (calRaise n (if good then 1 else 2)
    (calStaleEvents n (s.cal n).t1 (bgtRelease 4 n (s.setCal n ((s.cal n).ended good s.clk (calRetryNs s))))))) := by
  have hgood : (some good == some true) = good := by cases good <;> rfl
  simp only [calEnd, h0, hrun, hv, Option.isNone_some, Bool.false_eq_true, if_false, hgood]
  rw [if_neg (by simpa using hend)]
  exact if_neg (Nat.not_lt.2 h)

end

end

/-! ### The statement -/

/-- Settles O27: each cause of a slice becoming due and its absence, OTP_DATA, and a recalibration from its start through its outputs and its judgement
to its end. -/
theorem calibration : Obligations.Calibration := by
  refine ⟨⟨fun s m temp hs => ?_, fun s src h => ?_, fun s n hs => ⟨?_, fun h => ?_, fun r hr hle => ?_, fun d hd => ?_⟩, fun s src hi v h => ?_, fun s m hs => ?_⟩,
    fun s n t0 hs h0 => ?_, fun s n j t0 q ls sv hs h0 hcal hoff hdue hq hnext => ?_, fun s n t0 => ?_, fun s n a b c d hs => ?_⟩
  · rw [exec_mtTempUpdate hs]
    refine ⟨fun hdown => by rw [mittTemp_off hdown], fun hup => ?_⟩
    obtain ⟨⟨hregs, hmitts, -, -⟩, hother, hown⟩ := mittTemp_spec (t := temp) hup rfl
    refine ⟨_, rfl, ?_, by simpa using hregs, hother, fun k hk hdue hrun hretry hfault => ?_⟩
    · rw [State.mitt, hmitts, ← State.mitt]
      simp
    · rw [hown k hk, afterTemp_dueAt hdue hrun hretry hfault]
      simp [calDrifted, calDiff, calCfg_AUTO_EN, calThresh, calThresh_THRESH]
  · rw [exec_otpDataRead h]
    exact ⟨_, rfl, otpDataRead_spec s⟩
  · rw [exec_calMaxAgeExpiry hs]
    exact ⟨fun h => congrArg _ (if_pos h), fun h => by rw [calAge_not h]⟩
  · rw [exec_calRetry hs, calRetry_not h]
  · rw [exec_calRetry hs, calRetry_now hr hle]
    refine ⟨fun h => ?_, fun hgap hneeds => by rw [if_pos (by simp [hgap, hneeds])]; rfl⟩
    rw [if_neg (by obtain h | h := h <;> simp [h])]
    rfl
  · rw [exec_calDeferExpired hs]
    exact ⟨fun hlate he ht hf ha => ⟨_, rfl, calExpire_spec hd hlate he ht hf ha⟩, fun h => by rw [calExpire_not hd h]⟩
  · rw [exec_calForce h, calForce_eq]
    refine ⟨_, rfl, fun k hk => forcedSlices_other hi v s hk, fun i hlt => ⟨fun hb => ?_, fun hb => forcedSlices_clear hi v s hb⟩⟩
    rw [forcedSlices_set hi v s hlt hb]
    exact CalSl.force_spec s _ _
  · rw [exec_mittReferenceSettled hs]
    refine ⟨fun hup ht => ?_, fun h => by rw [mittSettled_not h]⟩
    rw [mittSettled_now hup ht]
    exact ⟨_, rfl, fun i hi => settledSlices_own s hi, fun k hk => settledSlices_other s hk⟩
  · rw [exec_calStart hs]
    refine ⟨fun ht hrun => ?_, fun h => by rw [calStart_not h0 h]⟩
    obtain ⟨d, hd⟩ := calStart_now h0 ht hrun
    rw [hd]
    refine ⟨_, rfl, ?_⟩
    simp only [calRaise_cal, calRaise_keeps, State.cal_setCal, if_true, State.setCal_fields]
    exact ⟨rfl, rfl, rfl, rfl, rfl, rfl, rfl, rfl, rfl, calRaise_latched 0 (by decide), fun m hm => if_neg hm, trivial, trivial⟩
  · have hfeed : q ≤ 184 → exec (.decimatorOutput n j ls sv) s = .next (calOut n.val q (calCode s n.val q (convSrc ls sv)) s) := fun hle => by
      rw [exec_decimatorOutput hs, decimated_calibrating hcal hoff hdue, calFeed_next h0 hq hnext hle]
    refine ⟨fun h9 h80 h6 => ?_, fun h89 h160 h6 => ?_, fun hlast => ?_⟩
    · rw [hfeed (by omega), calOut_offset h9 h80 h6]
      rfl
    · rw [hfeed (by omega), calOut_gain h89 h160 h6]
      rfl
    · rw [hfeed (by omega)]
      subst hlast
      rw [calOut_last h0]
      rfl
  · intro s1 c x
    obtain hg | hg := Bool.eq_false_or_eq_true (calGood c.ofs c.gain c.ofsRes c.gainRes)
    · obtain ⟨d, hd⟩ := calJudge_good (s1 := s1) rfl hg
      have hx : x = { calKept c (calEndAt s1 n t0) with dueAt := d } := hd
      rw [hx]
      exact ⟨rfl, rfl, rfl, fun _ => ⟨rfl, rfl, rfl, rfl, rfl, rfl, rfl, rfl⟩, fun h => by simp [hg] at h⟩
    · have hx : x = calFailed c (calEndAt s1 n t0) := calJudge_bad rfl hg
      rw [hx]
      exact ⟨rfl, rfl, rfl, fun h => by simp [hg] at h, fun _ => ⟨rfl, rfl, rfl, rfl, rfl, rfl, rfl, rfl, rfl⟩⟩
  · rw [exec_calEnd hs]
    refine ⟨fun h => by rw [calEnd_not h], fun t0 good h0 hrun hend hv => ⟨fun h => by rw [calEnd_early h0 hrun hend hv h], fun h => ?_⟩⟩
    rw [calEnd_now h0 hrun hend hv h]
    have hcal : (s.setCal n.val ((s.cal n.val).ended good s.clk (calRetryNs s))).cal n.val = (s.cal n.val).ended good s.clk (calRetryNs s) := by simp
    refine ⟨_, rfl, by rw [hcal], ?_⟩
    rw [hcal]
    exact CalSl.ended_spec _ good s.clk (calRetryNs s)

end Sys2Proof.Machine
end

section
/-! SUPPORT. The time interval unit: the edges its sources yield, starts that wait for a stop, the queue of results, a write of TI_CFG, and
the presence of REF10M and PPS_IN (R178, R182, R188, R189, R192 to R194). -/

namespace Sys2Proof.Machine

/-! ### Edges (R178, R182) -/

section
variable {s : State} {x t : Nat} {r : Bool}

theorem tiIn_SLOPE_lt (s : State) (i : Nat) : tiIn_SLOPE s i < 4 := Nat.mod_lt _ (by decide)

/-- An input yields the edges its SLOPE selects, an axis, a boundary or an event line both, every other source the rising ones. -/
theorem takesEdge_iff : takesEdge s x r = true ↔
    if x < 8 then tiIn_SLOPE s x = 2 ∨ (tiIn_SLOPE s x = 1 ∧ r = false) ∨ ((tiIn_SLOPE s x = 0 ∨ tiIn_SLOPE s x = 3) ∧ r = true)
    else x < 12 ∨ (0x14 ≤ x ∧ x < 0x30) ∨ r = true := by
  unfold takesEdge
  split
  · have hlt := tiIn_SLOPE_lt s x
    generalize tiIn_SLOPE s x = k at hlt
    revert k r
    decide
  · split <;> next h => simp [← or_assoc, h]

theorem tiEdge_untaken (h : takesEdge s x r ≠ true) : tiEdge x t r s = s := if_pos (by simpa using h)

/-- A taken edge of PPS_IN or REF10M is judged, and every taken edge goes to the channels. -/
theorem tiEdge_taken (h : takesEdge s x r = true) :
    tiEdge x t r s = if x = 0x10 then ppsEdge t s else if x = 0x11 then tiuEdge x t (refEdgeAt t s) else tiuEdge x t s :=
  if_neg (by simp [h])

end

/-! ### Starts that wait for a stop (R188, R189) -/

section
variable {s : State} {c a : Nat}

section
variable (hm : tiMode s c = 2) (hu : tiSigned s c = false) (ha : (s.tch c).start = some a)
include hm hu ha

/-- TMO after an unsigned start: a TMO result, and the channel is disarmed. -/
theorem tiTimeout_now (htmo : tiTmo_TMO s c ≠ 0) (hend : (a + tiTmo s c) * tsU ≤ s.st) :
    tiTimeout c s = raise pTIU 1 (tiResult c (2 ^ 27) 1 0 0 0 a (s.setTch c { s.tch c with start := none })) := by
  simp only [tiTimeout, ha]
  exact if_pos ⟨hm, by simp [hu], htmo, hend⟩

/-- 2^40 ns after an unsigned start under TMO 0: an OVF result, and the channel is disarmed. -/
theorem tiOvf_now (htmo : tiTmo_TMO s c = 0) (hend : (a + 2 ^ 47) * tsU ≤ s.st) :
    tiOvf c s = raise pTIU 2 (tiResult c (2 ^ 30) 1 (2 ^ 32 - 1) (2 ^ 15 - 1) 0 a (s.setTch c { s.tch c with start := none })) := by
  simp only [tiOvf, ha]
  exact if_pos ⟨hm, by simp [hu], htmo, hend⟩

end

/-- The end of an unsigned start, `len` steps after it under a condition `p` of TMO, has not come. -/
theorem startEnd_not {len : Nat} {p : Prop} (ha : (s.tch c).start = some a) (h : tiMode s c ≠ 2 ∨ tiSigned s c = true ∨ ¬p ∨
    ∀ a, (s.tch c).start = some a → s.st < (a + len) * tsU) : ¬(tiMode s c = 2 ∧ (!tiSigned s c) = true ∧ p ∧ (a + len) * tsU ≤ s.st) := by
  rintro ⟨hm, hu, hp, hend⟩
  obtain h | h | h | h := h
  · exact h hm
  · simp [h] at hu
  · exact h hp
  · exact absurd hend (Nat.not_le.2 (h a ha))

theorem tiTimeout_not (h : tiMode s c ≠ 2 ∨ tiSigned s c = true ∨ tiTmo_TMO s c = 0 ∨
    ∀ a, (s.tch c).start = some a → s.st < (a + tiTmo s c) * tsU) : tiTimeout c s = s := by
  unfold tiTimeout
  dsimp only
  split
  next a ha => exact if_neg (startEnd_not ha (by rwa [Decidable.not_not]))
  next => rfl

theorem tiOvf_not (h : tiMode s c ≠ 2 ∨ tiSigned s c = true ∨ tiTmo_TMO s c ≠ 0 ∨
    ∀ a, (s.tch c).start = some a → s.st < (a + 2 ^ 47) * tsU) : tiOvf c s = s := by
  unfold tiOvf
  dsimp only
  split
  next a ha => exact if_neg (startEnd_not ha h)
  next => rfl

/-- The hub with the oldest start of channel `c` matched to stop `b`, `r` the starts left. -/
def State.matched (s : State) (c : Nat) (r : List Nat) (b : Nat) : State :=
  s.setTch c { s.tch c with starts := r, stops := (s.tch c).stops.erase b }

section
variable {r : List Nat} (hm : tiMode s c = 2) (hsg : tiSigned s c = true) (ha : (s.tch c).starts = a :: r) (hend : (a + tiTmo s c) * tsU < s.st)
include hm hsg ha hend

/-- A window that closes without a stop in it: a TMO result. -/
theorem tiWindow_empty (hn : nearStop a (tiTmo s c) (s.tch c).stops = none) : tiWindow c s =
    pruneStops c (s.st / tsU) (tiResult c (2 ^ 27) 1 0 0 0 a (s.setTch c { s.tch c with starts := r })) := by
  simp only [tiWindow, ha, hn]
  exact if_pos ⟨hm, hsg, hend⟩

/-- A window that closes takes its nearest stop: SAME within 2 units, else their distance. -/
theorem tiWindow_stop {b : Nat} (hn : nearStop a (tiTmo s c) (s.tch c).stops = some b) : tiWindow c s = pruneStops c (s.st / tsU)
    (if tsDist a b ≤ 2 then tiResult c (2 ^ 29) 1 0 0 0 a (s.matched c r b)
      else tiSpan c (if b < a then 2 ^ 28 else 0) 1 (tsDist a b) 0 a (s.matched c r b)) := by
  simp only [tiWindow, ha, hn]
  exact if_pos ⟨hm, hsg, hend⟩

end

theorem tiWindow_not (h : tiMode s c ≠ 2 ∨ tiSigned s c = false ∨ ∀ a r, (s.tch c).starts = a :: r → s.st ≤ (a + tiTmo s c) * tsU) :
    tiWindow c s = s := by
  unfold tiWindow
  dsimp only
  split
  next a r ha =>
    refine if_neg fun ⟨hm, hsg, hend⟩ => ?_
    obtain h | h | h := h
    · exact h hm
    · simp [h] at hsg
    · exact absurd hend (Nat.not_lt.2 (h a r ha))
  next => rfl

end

/-! ### Results and TI_CFG (R192) -/

section
variable {s : State} {c : Nat}

theorem tiRead_oldest {e : List Word} {q : List (List Word)} (h : (s.tch c).queue = e :: q) :
    tiRead c s = (s.setTch c { s.tch c with queue := q, lat := e.drop 1 }).answer (e.getD 0 0) := by
  simp only [tiRead, h]

theorem tiRead_empty (h : (s.tch c).queue = []) : tiRead c s = s.answer 0 := by
  simp only [tiRead, h]

/-- A write of TI_CFG drops what its channel waited with, counts the stops among it as early, and keeps the results. -/
theorem tiCfgWrite_tch (src c : Nat) (v : Word) (s : State) : (tiCfgWrite src c v s).tch c =
    { s.tch c with
      start := none, held := none, starts := [], stops := [], win := none, lastA := none, lastB := none,
      early := satU 16 ((s.tch c).early + ((s.tch c).stops.length + if (s.tch c).held.isSome then 1 else 0)) } := by
  simp [tiCfgWrite]

end

/-- A read of a channel's TI_RES_W0 is a read of its result queue. -/
theorem readEffect_tiRes (src : Nat) (c : Fin 16) (s : State) : readEffect src (0xB210 + 0x40 * c.val) s = tiRead c.val s := by
  have hc := c.isLt
  have hp : (0xB210 + 0x40 * c.val) / 0x1000 = 0xB := by omega
  have ho : (0xB210 + 0x40 * c.val) % 0x1000 = 0x210 + 0x40 * c.val := by omega
  have hn : (0x210 + 0x40 * c.val - 0x200) / 0x40 = c.val := by omega
  have hax {q : Prop} : ¬(0xB = pAXIS ∧ q) := fun h => absurd h.1 (by decide)
  unfold readEffect
  simp only [hp, ho]
  rw [if_neg (by unfold tblDataAt; omega), if_neg (by omega), if_neg (by omega), if_neg hax, if_neg hax, if_neg (by omega), if_neg (by omega),
    if_pos ⟨rfl, by omega, by omega⟩, hn]

/-! ### Reference presence (R193, R194) -/

section
variable {s : State}

theorem refBack_present (h : s.tiu.ref10m = true) : refBack s = s := if_pos h
theorem refBack_absent (h : s.tiu.ref10m = false) :
    refBack s = raise pTIU 5 { s with tiu := { s.tiu with ref10m := true, refChg := true, ppsChg := false } } := if_neg (by simp [h])

theorem refLost_present (h : s.tiu.ref10m = true) :
    refLost s = raise pTIU 4 { s with tiu := { s.tiu with ref10m := false, refChg := true, ppsChg := false } } := if_pos h
theorem refLost_absent (h : s.tiu.ref10m = false) : refLost s = s := if_neg (by simp [h])

theorem ppsLost_now (h : s.tiu.pps = true) (ht : s.tiu.ppsClk + 1200000000 ≤ s.clk) :
    ppsLost s = raise pTIU 4 { s with tiu := { s.tiu with pps := false, refChg := false, ppsChg := true } } :=
  if_pos ⟨h, by simp [State.passed, ht]⟩

theorem ppsLost_not (h : s.tiu.pps = false ∨ s.clk < s.tiu.ppsClk + 1200000000) : ppsLost s = s :=
  if_neg fun ⟨hp, ht⟩ => by
    obtain h | h := h
    · simp [h] at hp
    · simp [State.passed, Nat.not_le.2 h] at ht

end

/-! ### The statement -/

section
variable {s : State} {src : Src} {c : Fin 16}

theorem exec_tiResW0Read (h : s.reaches (0xB210 + 0x40 * c.val)) : exec (.tiResW0Read src c) s = .next (tiRead c.val s) :=
  (act_live h.1).trans (congrArg _ ((busRead_reg src.code _ s h.2).trans (readEffect_tiRes src.code c s)))

theorem tiCfgAt_page (c : Fin 16) : tiCfgAt c.val / 0x1000 = pTIU := by revert c; decide
theorem tiCfgAt_off (c : Fin 16) : tiCfgAt c.val % 0x1000 = 0x200 + 0x40 * c.val := by revert c; decide

theorem exec_tiCfgWrite {v : Word} (h : s.reaches (tiCfgAt c.val)) : exec (.tiCfgWrite src c v) s = .next (tiCfgWrite src.code c.val v s) := by
  refine (act_busWrite src.code v h (by rw [tiCfgAt_off]; omega)).trans (congrArg _ ?_)
  simp only [regEffect, tiCfgAt_page, tiCfgAt_off]
  change wTIU src.code (0x200 + 0x40 * c.val) v s = _
  rw [wTIU, if_pos (by omega), show (0x200 + 0x40 * c.val - 0x200) / 0x40 = c.val by omega]

variable (hs : s.supply.held = false)
include hs

theorem exec_tiEdge {x : Fin 128} {co : Nat} {fi : Fin 128} {r : Bool} :
    exec (.tiEdge x ⟨co, fi⟩ r) s = .next (tiEdge x.val (stamp s co fi.val) r s) :=
  act_live (f := fun s => tiEdge x.val (stamp s co fi.val) r s) hs
theorem exec_tiuTimeout : exec (.tiuTimeout c) s = .next (tiTimeout c.val s) := act_live hs
theorem exec_tiuOvf : exec (.tiuOvf c) s = .next (tiOvf c.val s) := act_live hs
theorem exec_tiuWindowClose : exec (.tiuWindowClose c) s = .next (tiWindow c.val s) := act_live hs
theorem exec_ref10mPresent : exec .ref10mPresent s = .next (refBack s) := act_live hs
theorem exec_ref10mLost : exec .ref10mLost s = .next (refLost s) := act_live hs
theorem exec_ppsLost : exec .ppsLost s = .next (ppsLost s) := act_live hs

end

/-- Settles O34: an edge by whether its source yields it, a waiting start by its end, the result queue and TI_CFG by their registers, presence by
what it was. -/
theorem tiuCommands : Obligations.TiuCommands := by
  refine ⟨fun s x co fi r hs => ?_, fun s c hs => ?_, fun s src c h => ?_, fun s src c v h => ?_, fun s hs => ?_⟩
  · intro t takes
    have htakes : takesEdge s x.val r = true ↔ takes := takesEdge_iff
    rw [exec_tiEdge hs]
    refine ⟨fun hno => by rw [tiEdge_untaken (mt htakes.1 hno)], fun hyes => ?_⟩
    rw [tiEdge_taken (htakes.2 hyes)]
    refine ⟨fun hpps => by rw [if_pos hpps], fun href => ?_, fun hpps href => by rw [if_neg hpps, if_neg href]⟩
    rw [href]
    rfl
  · rw [exec_tiuTimeout hs, exec_tiuOvf hs, exec_tiuWindowClose hs]
    refine ⟨fun a hm hu ha => ⟨fun htmo hend => by rw [tiTimeout_now hm hu ha htmo hend], fun htmo hend => by rw [tiOvf_now hm hu ha htmo hend]⟩,
      fun h => by rw [tiTimeout_not h], fun h => by rw [tiOvf_not h],
      fun a r hm hsg ha hend => ⟨fun hn => by rw [tiWindow_empty hm hsg ha hend hn], fun b hn => ?_⟩, fun h => by rw [tiWindow_not h]⟩
    rw [tiWindow_stop hm hsg ha hend hn]
    exact ⟨fun hfar => by rw [if_neg (Nat.not_le.2 hfar)]; rfl, fun hsame => by rw [if_pos hsame]; rfl⟩
  · rw [exec_tiResW0Read h]
    refine ⟨fun e q hq => ?_, fun hq => ?_⟩
    · rw [tiRead_oldest hq]
      exact ⟨_, rfl, rfl, by simp, by simp⟩
    · rw [tiRead_empty hq]
      exact ⟨_, rfl, rfl, rfl⟩
  · refine ⟨_, exec_tiCfgWrite h, ?_⟩
    rw [tiCfgWrite_tch]
    exact ⟨rfl, rfl, rfl, rfl, rfl, rfl⟩
  · rw [exec_ref10mPresent hs, exec_ref10mLost hs, exec_ppsLost hs]
    refine ⟨fun h => ?_, fun h => ?_, fun h ht => ?_, fun h => by rw [ppsLost_not h]⟩
    · rw [refLost_absent h, refBack_absent h]
      exact ⟨rfl, _, rfl, by simp, raise_latched pTIU 5 _ (by decide)⟩
    · rw [refBack_present h, refLost_present h]
      exact ⟨rfl, _, rfl, by simp, raise_latched pTIU 4 _ (by decide)⟩
    · rw [ppsLost_now h ht]
      exact ⟨_, rfl, by simp, raise_latched pTIU 4 _ (by decide)⟩

end Sys2Proof.Machine
end

section
/-! SUPPORT. The vibrating-wire sequence: what starts and ends its drive and its listening, what fails it, and its fit (R195 to R200). -/

namespace Sys2Proof.Machine

/-! ### From the grant to the end of listening (R195, R196) -/

section
variable {s : State} {c : Nat} {v : VwSt} (hv : (s.tch c).vw = some v)
include hv

/-- On its grant a sequence drives, unless its slice is locked out or off. -/
theorem vwDriveStart_granted (h0 : v.phase = 0) (hg : v.granted = true) : vwDriveStart c s =
    if (s.slice v.slice).exc.lockout then vwFailed c v.slice 5 s
    else if s.sliceOff v.slice then vwFailed c v.slice 6 s
    else s.setTch c { s.tch c with vw := some { v with phase := 1, at_ := s.st } } := by
  simp only [vwDriveStart, hv]
  exact if_pos ⟨h0, hg⟩

theorem vwDriveStart_not (h : v.phase ≠ 0 ∨ v.granted = false) : vwDriveStart c s = s := by
  simp only [vwDriveStart, hv]
  exact if_neg fun ⟨h0, hg⟩ => by simp [h0, hg] at h

theorem vwLeaveTimeout_now (h0 : v.phase = 0) (hg : v.granted = false) (ht : v.at_ + vwLeave_WAIT s c * msU ≤ s.st) :
    vwLeaveTimeout c s = vwFailed c v.slice 4 s := by
  simp only [vwLeaveTimeout, hv]
  exact if_pos ⟨h0, by simp [hg], ht⟩

theorem vwLeaveTimeout_not (h : v.phase ≠ 0 ∨ v.granted = true ∨ s.st < v.at_ + vwLeave_WAIT s c * msU) : vwLeaveTimeout c s = s := by
  simp only [vwLeaveTimeout, hv]
  refine if_neg fun ⟨h0, hg, ht⟩ => ?_
  obtain h | h | h := h
  · exact h h0
  · simp [h] at hg
  · exact absurd ht (Nat.not_le.2 h)

theorem vwDriveEnd_now (h1 : v.phase = 1) (ht : v.at_ + vwDriveLen (s.slice v.slice) ≤ s.st) : vwDriveEnd c s =
    if s.sliceOff v.slice then vwFailed c v.slice 6 s
    else bgtRelease 3 v.slice (s.setTch c { s.tch c with vw := some { v with phase := 2, at_ := v.at_ + vwDriveLen (s.slice v.slice) } }) := by
  simp only [vwDriveEnd, hv]
  exact if_pos ⟨h1, ht⟩

theorem vwDriveEnd_not (h : v.phase ≠ 1 ∨ s.st < v.at_ + vwDriveLen (s.slice v.slice)) : vwDriveEnd c s = s := by
  simp only [vwDriveEnd, hv]
  exact if_neg fun ⟨h1, ht⟩ => h.elim (· h1) (Nat.not_lt.2 ht)

theorem vwListenStart_now (h2 : v.phase = 2) (ht : v.at_ + vwCfg_QUIET s c * 100 * usU ≤ s.st) : vwListenStart c s =
    if s.sliceOff v.slice then vwFailed c v.slice 6 s
    else s.setTch c { s.tch c with vw := some { v with phase := 3, at_ := v.at_ + vwCfg_QUIET s c * 100 * usU, xs := [] } } := by
  simp only [vwListenStart, hv]
  exact if_pos ⟨h2, ht⟩

theorem vwListenStart_not (h : v.phase ≠ 2 ∨ s.st < v.at_ + vwCfg_QUIET s c * 100 * usU) : vwListenStart c s = s := by
  simp only [vwListenStart, hv]
  exact if_neg fun ⟨h2, ht⟩ => h.elim (· h2) (Nat.not_lt.2 ht)

/-- The end of listening: WIN ms have passed, or the 4 096th crossing was taken. -/
theorem vwListenEnd_now (h3 : v.phase = 3) (he : v.at_ + max 1 (min 1000 (vwCfg_WIN s c)) * msU ≤ s.st ∨ 4096 ≤ v.xs.length) : vwListenEnd c s =
    if s.sliceOff v.slice then vwFailed c v.slice 6 s
    else thermStart c v.slice (s.setTch c { s.tch c with vw := some { v with phase := 4, at_ := s.st } }) := by
  simp only [vwListenEnd, hv]
  exact if_pos ⟨h3, he⟩

theorem vwListenEnd_not (h : v.phase ≠ 3 ∨ ¬(v.at_ + max 1 (min 1000 (vwCfg_WIN s c)) * msU ≤ s.st ∨ 4096 ≤ v.xs.length)) : vwListenEnd c s = s := by
  simp only [vwListenEnd, hv]
  exact if_neg fun ⟨h3, he⟩ => h.elim (· h3) (· he)

end

/-! ### The fit (R197 to R200) -/

@[simp] theorem tiResult_ctxs (c flags kind v1 v2 aux ref : Nat) (s : State) : (tiResult c flags kind v1 v2 aux ref s).ctxs = s.ctxs := by
  unfold tiResult
  dsimp only
  split <;> simp

@[simp] theorem vwOutcome_ctxs (n reason : Nat) (s : State) : (vwOutcome n reason s).ctxs = s.ctxs := by simp [vwOutcome]

/-- The contexts of KIND 3 on channel `c`. -/
def vwReaders (s : State) (c : Nat) : List Nat := s.ctxKeys.filter (fun k => decide (dKIND (s.ctx k).desc = 3) && decide (dSOURCE (s.ctx k).desc = c))

/-- Which contexts read a channel goes by the contexts alone. -/
theorem vwReaders_congr {s t : State} (h : t.ctxs = s.ctxs) (c : Nat) : vwReaders t c = vwReaders s c := by
  unfold vwReaders State.ctxKeys State.ctx
  rw [h]

/-- The hub with the fit of sequence `v` queued as a result, its channel free and its outcome recorded. -/
def vwFitted (c : Nat) (v : VwSt) (s : State) : State :=
  let f := vwFit (vwUsed (vwCfg_SKIP s c) v)
  let r := vwReason s c f
  vwOutcome v.slice r (tiResult c 0 3 (satU 32 (vwFreq f (2 ^ 19))) (if f.n < 2 then 0 else satU 15 (sqrtNear (vwRes2 f).1 (vwRes2 f).2))
    (r * 2 ^ 24 + f.n % 2 ^ 13) (vwInst (vwCfg_SKIP s c) v / 2 ^ 25) (s.setTch c { s.tch c with vw := none }))

/-- The conversion a context takes of a fit: the frequency in mHz at the sequence's instant. -/
def vwConv (s : State) (c : Nat) (v : VwSt) : ScConv :=
  let f := vwFit (vwUsed (vwCfg_SKIP s c) v)
  let inst := Int.ofNat (vwInst (vwCfg_SKIP s c) v)
  { c := inst, orig := inst, v := Int.ofNat (vwFreq f 1000), tags := 0, restarted := false, failed := decide (vwReason s c f ≠ 0) }

@[simp] theorem vwFitted_ctxs (c : Nat) (v : VwSt) (s : State) : (vwFitted c v s).ctxs = s.ctxs := by simp [vwFitted]

section
variable {s : State} {c : Nat} {v : VwSt} (hv : (s.tch c).vw = some v)
include hv

theorem vwFitDone_not (h : v.phase ≠ 4) : vwFitDone c s = s := by
  simp only [vwFitDone, hv]
  exact if_pos h

/-- Queueing a fit leaves the contexts, so those that read the channel are the ones from before it. -/
theorem vwFitDone_now (h4 : v.phase = 4) :
    vwFitDone c s = (vwReaders s c).foldl (fun a k => scDeliver k (vwConv s c v) a) (vwFitted c v s) := by
  rw [← vwReaders_congr (vwFitted_ctxs c v s) c]
  simp only [vwFitDone, hv]
  exact if_neg (not_not_intro h4)

end

/-! ### The statement -/

section
variable {s : State} {c : Fin 16} (hs : s.supply.held = false)
include hs

theorem exec_vwDriveStart : exec (.vwDriveStart c) s = .next (vwDriveStart c.val s) := act_live hs
theorem exec_vwLeaveTimeout : exec (.vwLeaveTimeout c) s = .next (vwLeaveTimeout c.val s) := act_live hs
theorem exec_vwDriveEnd : exec (.vwDriveEnd c) s = .next (vwDriveEnd c.val s) := act_live hs
theorem exec_vwListenStart : exec (.vwListenStart c) s = .next (vwListenStart c.val s) := act_live hs
theorem exec_vwListenEnd : exec (.vwListenEnd c) s = .next (vwListenEnd c.val s) := act_live hs
theorem exec_vwFitDone : exec (.vwFitDone c) s = .next (vwFitDone c.val s) := act_live hs

end

/-- A channel without a sequence takes none of the sequence's commands. -/
theorem vwCommands_none {s : State} {c : Nat} (h : (s.tch c).vw = none) :
    vwDriveStart c s = s ∧ vwLeaveTimeout c s = s ∧ vwDriveEnd c s = s ∧ vwListenStart c s = s ∧ vwListenEnd c s = s ∧ vwFitDone c s = s := by
  simp only [vwDriveStart, vwLeaveTimeout, vwDriveEnd, vwListenStart, vwListenEnd, vwFitDone, h, and_self]

/-- Settles O35: each command of a sequence in its phase, by its slice, and out of it; and on a channel without one. -/
theorem wireSequence : Obligations.WireSequence := by
  refine ⟨fun s c v hs hv => ?_, fun s c hs h => ?_⟩
  · rw [exec_vwDriveStart hs, exec_vwLeaveTimeout hs, exec_vwDriveEnd hs, exec_vwListenStart hs, exec_vwListenEnd hs, exec_vwFitDone hs]
    refine ⟨fun h0 hg => ?_, fun h => by rw [vwDriveStart_not hv h], fun h0 hg ht => by rw [vwLeaveTimeout_now hv h0 hg ht],
      fun h => by rw [vwLeaveTimeout_not hv h], ⟨fun h1 ht hon => ?_, fun h1 ht hoff => ?_, fun h => by rw [vwDriveEnd_not hv h]⟩,
      ⟨fun h2 ht hon => ?_, fun h2 ht hoff => ?_, fun h => by rw [vwListenStart_not hv h]⟩,
      ⟨fun h3 he hon => ?_, fun h3 he hoff => ?_, fun h => by rw [vwListenEnd_not hv h]⟩,
      fun h => by rw [vwFitDone_not hv h], fun h4 => congrArg _ (vwFitDone_now hv h4)⟩
    · rw [vwDriveStart_granted hv h0 hg]
      exact ⟨fun hlock => by rw [if_pos hlock], fun hlock hoff => by rw [if_neg (by simp [hlock]), if_pos hoff],
        fun hlock hon => by rw [if_neg (by simp [hlock]), if_neg (by simp [hon])]⟩
    · rw [vwDriveEnd_now hv h1 ht, if_neg (by simp [hon])]
    · rw [vwDriveEnd_now hv h1 ht, if_pos hoff]
    · rw [vwListenStart_now hv h2 ht, if_neg (by simp [hon])]
    · rw [vwListenStart_now hv h2 ht, if_pos hoff]
    · rw [vwListenEnd_now hv h3 he, if_neg (by simp [hon])]
    · rw [vwListenEnd_now hv h3 he, if_pos hoff]
  · obtain ⟨hstart, hleave, hend, hlisten, hlistened, hfit⟩ := vwCommands_none h
    rw [exec_vwDriveStart hs, exec_vwLeaveTimeout hs, exec_vwDriveEnd hs, exec_vwListenStart hs, exec_vwListenEnd hs, exec_vwFitDone hs,
      hstart, hleave, hend, hlisten, hlistened, hfit]
    exact ⟨rfl, rfl, rfl, rfl, rfl, rfl⟩

end Sys2Proof.Machine
end

section
/-! SUPPORT. Force-feedback loops: which reads of the hub go by which of its parts, and that what a loop passes to its contexts leaves every
loop and register (R202 to R225). -/

namespace Sys2Proof.Machine

/-! ### What the reads of a loop go by -/

section
variable {s t : State}

theorem loop_congr (h : t.loops = s.loops) (n : Nat) : t.loop n = s.loop n := by simp only [State.loop, h]

theorem fdSafe_congr (h : t.regs = s.regs) (n : Nat) : fdSafe t n = fdSafe s n := by
  simp only [fdSafe, fdSafe_CODE, State.rw, h]

theorem fdMin_congr (h : t.regs = s.regs) (n : Nat) : fdMin t n = fdMin s n := by
  simp only [fdMin, fdMin_CODE, State.rw, h]

theorem fdMax_congr (h : t.regs = s.regs) (n : Nat) : fdMax t n = fdMax s n := by
  simp only [fdMax, fdMax_CODE, State.rw, h]

/-- The limits of the driver code are registers. -/
theorem clampFd_congr (h : t.regs = s.regs) (n : Nat) (y : Int) : clampFd t n y = clampFd s n y := by
  unfold clampFd
  rw [fdMin_congr h, fdMax_congr h]

/-- OUT_RATE is a word of the cycle's snapshot. -/
theorem outRate_congr {n : Nat} (h : (t.loop n).snap = (s.loop n).snap) (y ystar : Int) : outRate t n y ystar = outRate s n y ystar := by
  have hlv : lv t n 8 = lv s n 8 := by simp only [lv, State.snapW, h]
  unfold outRate
  rw [hlv]

/-- What bars a request goes by no more of its loop than the mode and word 0. -/
theorem loopBar_setLoop {n : Nat} {v : LoopSt} (hmode : v.mode = (s.loop n).mode) (hw0 : v.w0 = (s.loop n).w0) (m : Nat) :
    loopBar (s.setLoop n v) n m = loopBar s n m := by
  have hw : lw0 (s.setLoop n v) n = lw0 s n := by
    simp only [lw0, State.loop_setLoop, if_pos, hmode, hw0]
    rfl
  unfold loopBar
  simp only [hw, State.loop_setLoop, if_pos, hmode]
  rfl

end

/-- In OFF the driver is at FD_SAFE. -/
theorem fdNow_off {s : State} {n : Nat} (h : (s.loop n).mode = 0) : fdNow s n = fdSafe s n := if_pos (.inr (.inl h))

/-! ### The output between its limits (R205, steps 11 and 12) -/

section
variable {s : State} {n : Nat} (hlim : fdMin s n ≤ fdMax s n)
include hlim

theorem clampFd_mem (z : Int) : fdMin s n ≤ (clampFd s n z).1 ∧ (clampFd s n z).1 ≤ fdMax s n := by
  unfold clampFd
  split
  · exact ⟨hlim, Int.le_refl _⟩
  split
  · exact ⟨Int.le_refl _, hlim⟩
  · omega

/-- A step towards a clamped target stays between the code before it and the limits. -/
theorem outRate_clampFd_mem (y z : Int) :
    min y (fdMin s n) ≤ outRate s n y (clampFd s n z).1 ∧ outRate s n y (clampFd s n z).1 ≤ max y (fdMax s n) := by
  obtain ⟨hlo, hhi⟩ := clampFd_mem hlim z
  unfold outRate clampI
  dsimp only
  generalize fld (lv s n 8) 19 0 = r
  split
  · omega
  · split
    · omega
    split <;> omega

end

/-- Without OUT_RATE the output is the target. -/
theorem outRate_zero {s : State} {n : Nat} (h : fld (lv s n 8) 19 0 = 0) (y z : Int) : outRate s n y z = z := by simp [outRate, h]

/-! ### What a loop passes to its contexts (R215, R220, R224) -/

/-- An effect that leaves every loop and every register as it was. -/
def KeepsLoops (f : State → State) : Prop := ∀ s, (f s).loops = s.loops ∧ (f s).regs = s.regs

theorem KeepsLoops.foldl {α : Type} {f : State → α → State} (hf : ∀ x, KeepsLoops (f · x)) (l : List α) : KeepsLoops (l.foldl f) := fun s =>
  foldl_keeps (fun t => t.loops = s.loops ∧ t.regs = s.regs) f (fun b x hb => ⟨(hf x b).1.trans hb.1, (hf x b).2.trans hb.2⟩) l s ⟨rfl, rfl⟩

theorem KeepsLoops.onRuns {f : State → State} (hf : KeepsLoops f) (p : List Word → Bool) (c : Nat) : KeepsLoops (onRuns p c f) := by
  intro s
  unfold Machine.onRuns
  dsimp only
  split
  · exact hf _
  · exact ⟨rfl, rfl⟩

@[simp] theorem countSats_loops (k : Nat) (s : State) : (countSats k s).loops = s.loops ∧ (countSats k s).regs = s.regs := by
  unfold countSats
  split <;> simp

@[simp] theorem fadeNext_loops (c : Nat) (low : Bool) (s : State) :
    (fadeNext c low s).loops = s.loops ∧ (fadeNext c low s).regs = s.regs := by
  unfold fadeNext
  split
  · exact ⟨rfl, rfl⟩
  split
  · simp
  dsimp only
  split <;> simp

theorem pushInput_keepsLoops (c : Nat) (low : Bool) (x : Smp) : KeepsLoops (pushInput c low x) := by
  intro s
  unfold pushInput
  dsimp only
  split
  · generalize chainRun _ _ _ _ _ _ = r
    cases r.ran <;> simp
  · exact ⟨rfl, rfl⟩

theorem settleRun_keepsLoops (c t cyc : Nat) (stale : Bool) (path : Nat) : KeepsLoops (settleRun c t cyc stale path) := by
  intro s
  unfold settleRun
  dsimp only
  split <;> simp

theorem loopSettles_keepsLoops (n : Nat) : KeepsLoops (loopSettles n) := fun s =>
  KeepsLoops.foldl (fun c => (settleRun_keepsLoops c s.st 0 false 0).onRuns _ c) (loopCtxs s n) s

theorem loopPublish_keepsLoops (n j mD mI : Nat) (held : Bool) : KeepsLoops (loopPublish n j mD mI held) := fun s => by
  refine KeepsLoops.foldl (fun c => KeepsLoops.onRuns (fun b => ?_) _ c) (loopCtxs s n) s
  split
  · exact pushInput_keepsLoops c false _ b
  split
  · exact pushInput_keepsLoops c false _ b
  · exact pushInput_keepsLoops c false _ b

end Sys2Proof.Machine
end

section
/-! SUPPORT. Force-feedback loops: what events, the laws of a cycle and a change of mode leave of a loop (R205, R208, R213 to R216). -/

namespace Sys2Proof.Machine

/-! ### Events -/

/-- From `s` to `t`, loop `n` raised events and its slew may have begun or ended: no event raised before is lost, and nothing else of the loop
nor any register changed. -/
structure LoopEvents (n : Nat) (s t : State) : Prop where
  regs : t.regs = s.regs
  loop : t.loop n = { s.loop n with flags := (t.loop n).flags, slew := (t.loop n).slew }
  flags : ∀ b, (s.loop n).flags.testBit b = true → (t.loop n).flags.testBit b = true

@[simp] theorem lraise_fields (n b : Nat) (s : State) :
    (lraise n b s).regs = s.regs ∧ (lraise n b s).bgt = s.bgt ∧ (lraise n b s).dramMem = s.dramMem := by
  unfold lraise
  dsimp only
  split <;> simp

/-- Raising an event sets its flag, which may stand already, and changes no other loop. -/
theorem lraise_loop (n b : Nat) (s : State) (k : Nat) :
    (lraise n b s).loop k = if k = n then { s.loop n with flags := (s.loop n).flags ||| 2 ^ b } else s.loop k := by
  unfold lraise
  dsimp only
  split
  next h =>
    have hflags : (s.loop n).flags ||| 2 ^ b = (s.loop n).flags := by
      refine Nat.eq_of_testBit_eq fun i => ?_
      rw [Nat.testBit_or, Nat.testBit_two_pow]
      by_cases hi : b = i
      · simp [← hi, h]
      · simp [hi]
    rw [hflags]
    split
    next hk => rw [hk]
    · rfl
  · simp

theorem lraise_flag (n b : Nat) (s : State) : ((lraise n b s).loop n).flags.testBit b = true := by
  rw [lraise_loop, if_pos rfl]
  simp [Nat.testBit_two_pow_self]

/-- A flag that rises latches its event on the page. -/
theorem lraise_latched {n b : Nat} {s : State} (h : (s.loop n).flags.testBit b = false) (hb : b < 32) :
    bit ((lraise n b s).page pLOOP).stat b = true := by
  unfold lraise
  rw [if_neg (by simp [h])]
  exact raise_latched pLOOP b _ hb

namespace LoopEvents

variable {n : Nat} {s t u : State}

theorem refl (n : Nat) (s : State) : LoopEvents n s s := ⟨rfl, rfl, fun _ h => h⟩

theorem trans (h : LoopEvents n s t) (h' : LoopEvents n t u) : LoopEvents n s u where
  regs := h'.regs.trans h.regs
  loop := by rw [h'.loop, h.loop]
  flags b hb := h'.flags b (h.flags b hb)

theorem ite {c : Prop} [Decidable c] (ht : LoopEvents n s t) (hu : LoopEvents n s u) : LoopEvents n s (if c then t else u) := by
  split
  · exact ht
  · exact hu

theorem keeps {f : State → State} (hf : KeepsLoops f) (h : LoopEvents n s t) : LoopEvents n s (f t) := by
  have hloop : (f t).loop n = t.loop n := loop_congr (hf t).1 n
  exact h.trans ⟨(hf t).2, by rw [hloop], fun b hb => by rwa [hloop]⟩

theorem raise (b : Nat) (h : LoopEvents n s t) : LoopEvents n s (lraise n b t) := by
  refine h.trans ⟨by simp, by rw [lraise_loop, if_pos rfl], fun i hi => ?_⟩
  rw [lraise_loop, if_pos rfl]
  simp [hi]

theorem raiseIf (c : Bool) (b : Nat) (h : LoopEvents n s t) : LoopEvents n s (lraiseIf c n b t) := (h.raise b).ite h

theorem setSlew (on : Bool) (h : LoopEvents n s t) : LoopEvents n s (t.setLoop n { t.loop n with slew := on }) :=
  h.trans ⟨by simp, by simp, by simp⟩

theorem slewEnd (h : LoopEvents n s t) : LoopEvents n s (slewEnd n t) := ((h.setSlew false).raise 10).ite h

theorem settles (h : LoopEvents n s t) : LoopEvents n s (loopSettles n t) := h.keeps (loopSettles_keepsLoops n)

/-- The event and the settling of a hand-over. -/
theorem handover (c : Bool) (h : LoopEvents n s t) : LoopEvents n s (if c then lraise n 0 (loopSettles n t) else t) := (h.settles.raise 0).ite h

/-- The slew that a hand-over may start and a target reached ends. -/
theorem slewTo (p : Prop) [Decidable p] (c : Bool) (h : LoopEvents n s t) :
    LoopEvents n s (if p then Machine.slewEnd n t else if c then t.setLoop n { t.loop n with slew := true } else t) :=
  h.slewEnd.ite ((h.setSlew true).ite h)

end LoopEvents

/-! ### What the laws of a cycle leave -/

/-- What the laws of a cycle leave of a loop: its mode, its request and rejection, tap hold, the count of cycles, the groups left, the snapshot,
and every event raised. -/
structure LoopSt.LawKeeps (x y : LoopSt) : Prop where
  mode : y.mode = x.mode
  tapHold : y.tapHold = x.tapHold
  req : y.req = x.req
  rej : y.rej = x.rej
  cycles : y.cycles = x.cycles
  ready : y.ready = x.ready
  snap : y.snap = x.snap
  flags : ∀ b, x.flags.testBit b = true → y.flags.testBit b = true

theorem LoopSt.LawKeeps.refl (x : LoopSt) : x.LawKeeps x := ⟨rfl, rfl, rfl, rfl, rfl, rfl, rfl, fun _ h => h⟩

theorem LoopSt.LawKeeps.trans {x y z : LoopSt} (h : x.LawKeeps y) (h' : y.LawKeeps z) : x.LawKeeps z where
  mode := h'.mode.trans h.mode
  tapHold := h'.tapHold.trans h.tapHold
  req := h'.req.trans h.req
  rej := h'.rej.trans h.rej
  cycles := h'.cycles.trans h.cycles
  ready := h'.ready.trans h.ready
  snap := h'.snap.trans h.snap
  flags b hb := h'.flags b (h.flags b hb)

/-- A loop stored with events raised after it: nothing of it but flags and slew changed. -/
theorem LoopEvents.of_setLoop {n : Nat} {s t : State} {v : LoopSt} (h : LoopEvents n (s.setLoop n v) t) :
    t.loop n = { v with flags := (t.loop n).flags, slew := (t.loop n).slew } := by
  have hloop := h.loop
  rwa [State.loop_setLoop, if_pos rfl] at hloop

theorem LoopEvents.lawKeeps {n : Nat} {s t : State} (h : LoopEvents n s t) : (s.loop n).LawKeeps (t.loop n) := by
  refine ⟨?_, ?_, ?_, ?_, ?_, ?_, ?_, h.flags⟩ <;> rw [h.loop]

/-- A loop stored with events raised after it: what the laws of a cycle leave is as stored. -/
theorem LoopEvents.lawKeeps_setLoop {n : Nat} {s t : State} {v : LoopSt} (h : LoopEvents n (s.setLoop n v) t) : v.LawKeeps (t.loop n) := by
  have hkeeps := h.lawKeeps
  rwa [State.loop_setLoop, if_pos rfl] at hkeeps

section
variable (n : Nat) (s : State)

/-- A step of the ramp: the loop's position and speed on it, and events. -/
theorem modeRamp_events : ∃ v, LoopEvents n (s.setLoop n v) (modeRamp n s) ∧ (s.loop n).LawKeeps v ∧ v.y = (s.loop n).y := by
  unfold modeRamp
  split
  · exact ⟨s.loop n, ⟨by simp, by simp, by simp⟩, .refl _, rfl⟩
  · exact ⟨_, (LoopEvents.refl n _).raiseIf _ 8, ⟨rfl, rfl, rfl, rfl, rfl, rfl, rfl, fun _ h => h⟩, rfl⟩

theorem modeRamp_regs : (modeRamp n s).regs = s.regs := by
  obtain ⟨v, hramp, -⟩ := modeRamp_events n s
  rw [hramp.regs]
  simp

/-- The outer law takes one more position, or runs. -/
theorem outerLaw_events (x : Int) :
    ∃ v, LoopEvents n (s.setLoop n v) (outerLaw n x s) ∧ (s.loop n).LawKeeps v ∧ v.y = (s.loop n).y := by
  unfold outerLaw
  dsimp only
  split
  · exact ⟨_, .refl n _, ⟨rfl, rfl, rfl, rfl, rfl, rfl, rfl, fun _ h => h⟩, rfl⟩
  · exact ⟨_, (LoopEvents.refl n _).raiseIf _ 9, ⟨rfl, rfl, rfl, rfl, rfl, rfl, rfl, fun _ h => h⟩, rfl⟩

/-- The law of a loop's mode on position `x`. -/
def modeLaw (x : Int) (handover : Bool) : LawOut := if (s.loop n).mode = 1 then openLaw s n else innerLaw s n x handover

theorem modeLaw_ystar (x : Int) (handover : Bool) : ∃ z, (modeLaw n s x handover).ystar = (clampFd s n z).1 := by
  unfold modeLaw
  split
  · exact ⟨_, rfl⟩
  · exact ⟨_, rfl⟩

/-- The loop as the law of its mode and the output limit leave it (R205, step 12). -/
def lawLoop (x : Int) (handover : Bool) : LoopSt :=
  let st := s.loop n
  let l := modeLaw n s x handover
  { st with
    d := l.d, i := l.i, y := outRate s n st.y l.ystar, xPrev := some x, iClamp := l.iClamp, limHi := l.hi, limLo := l.lo, accSat := l.sat
    diff := if handover then l.ystar - st.y else st.diff }

theorem lawLoop_keeps (x : Int) (handover : Bool) : (s.loop n).LawKeeps (lawLoop n s x handover) :=
  ⟨rfl, rfl, rfl, rfl, rfl, rfl, rfl, fun _ h => h⟩

/-- One cycle of the law: the ramp, the law of the mode, events, and the outer law where it is on. -/
theorem lawCycle_eq (x : Int) (handover : Bool) : ∃ t,
    lawCycle n x handover s =
      (if ((modeRamp n s).loop n).mode = 2 ∨ (((modeRamp n s).loop n).mode = 3 ∧ bit (lv s n 13) 16) then outerLaw n x t else t) ∧
    LoopEvents n ((modeRamp n s).setLoop n (lawLoop n (modeRamp n s) x handover)) t :=
  ⟨_, rfl, (((((LoopEvents.refl n _).raiseIf _ 6).raiseIf _ 7).raiseIf _ 9).handover handover).slewTo _ handover⟩

/-- The ramp, the laws and their events leave what `LawKeeps` says. -/
theorem lawCycle_keeps (x : Int) (handover : Bool) : (s.loop n).LawKeeps ((lawCycle n x handover s).loop n) := by
  obtain ⟨t, heq, hlaw⟩ := lawCycle_eq n s x handover
  obtain ⟨v, hramp, hv, -⟩ := modeRamp_events n s
  have ht : (s.loop n).LawKeeps (t.loop n) :=
    (hv.trans hramp.lawKeeps_setLoop).trans ((lawLoop_keeps n _ x handover).trans hlaw.lawKeeps_setLoop)
  rw [heq]
  split
  · obtain ⟨w, houter, hw, -⟩ := outerLaw_events n t x
    exact (ht.trans hw).trans houter.lawKeeps_setLoop
  · exact ht

/-- The new code of a cycle is the target of the mode's law, as OUT_RATE lets it go from the old one. -/
theorem lawCycle_y (x : Int) (handover : Bool) : ((lawCycle n x handover s).loop n).y =
    outRate s n (s.loop n).y (modeLaw n (modeRamp n s) x handover).ystar := by
  obtain ⟨t, heq, hlaw⟩ := lawCycle_eq n s x handover
  obtain ⟨v, hramp, hv, hy⟩ := modeRamp_events n s
  have hkeeps := hv.trans hramp.lawKeeps_setLoop
  have hrampy : ((modeRamp n s).loop n).y = (s.loop n).y := by rw [hramp.of_setLoop, ← hy]
  have ht : (t.loop n).y = outRate s n (s.loop n).y (modeLaw n (modeRamp n s) x handover).ystar := by
    rw [hlaw.of_setLoop, ← outRate_congr hkeeps.snap, ← hrampy]
    rfl
  rw [heq, ← ht]
  split
  · obtain ⟨w, houter, -, hw⟩ := outerLaw_events n t x
    rw [houter.of_setLoop, ← hw]
  · rfl

theorem lawCycle_y_clamped (x : Int) (handover : Bool) : ∃ z, ((lawCycle n x handover s).loop n).y = outRate s n (s.loop n).y (clampFd s n z).1 := by
  obtain ⟨z, hz⟩ := modeLaw_ystar n (modeRamp n s) x handover
  exact ⟨z, by rw [lawCycle_y, hz, clampFd_congr (modeRamp_regs n s)]⟩

/-- In OPEN the target is the ramp's position, as the cycle leaves it. -/
theorem lawCycle_open (h : (s.loop n).mode = 1) (x : Int) (handover : Bool) : ((lawCycle n x handover s).loop n).y =
    outRate s n (s.loop n).y (clampFd s n (rshAway ((lawCycle n x handover s).loop n).r 28)).1 := by
  obtain ⟨t, heq, hlaw⟩ := lawCycle_eq n s x handover
  obtain ⟨v, hramp, hv, -⟩ := modeRamp_events n s
  have hmode : ((modeRamp n s).loop n).mode = 1 := (hv.trans hramp.lawKeeps_setLoop).mode.trans h
  have hr : ((lawCycle n x handover s).loop n).r = ((modeRamp n s).loop n).r := by
    rw [heq, if_neg (by simp [hmode]), hlaw.of_setLoop]
    rfl
  rw [lawCycle_y, modeLaw, if_pos hmode, hr, ← clampFd_congr (modeRamp_regs n s)]
  rfl

end

/-! ### Changes of mode (R213, R214) -/

section
variable (n : Nat) (s : State)

theorem enterOff_events : ∃ v, LoopEvents n (s.setLoop n v) (enterOff n s) ∧ v.mode = 0 ∧ v.req = (s.loop n).req :=
  ⟨_, (((LoopEvents.refl n _).raiseIf _ 8).slewEnd.settles).raise 0, rfl, rfl⟩

theorem enterHold_events (safe : Bool) : ∃ v, LoopEvents n (s.setLoop n v) (enterHold n safe s) ∧ v.mode = 4 ∧ v.safe = safe ∧
    v.y = (if safe then fdSafe s n else (s.loop n).y) ∧ v.req = (s.loop n).req := by
  refine ⟨_, (LoopEvents.refl n _).slewEnd.settles.raise 0, rfl, rfl, rfl, ?_⟩
  dsimp only
  split <;> rfl

/-- A loop as a running mode `m` is entered: in tap hold no more, its cycles counted anew out of OFF. -/
def LoopSt.entered (x : LoopSt) (m : Nat) : LoopSt := { x with mode := m, tapHold := false, cycles := if x.mode = 0 then 0 else x.cycles }

/-- The state a running mode starts from keeps the output. -/
theorem loopLoad_keeps (m : Nat) (x : Int) :
    ({ s.loop n with mode := m, tapHold := false } : LoopSt).LawKeeps (loopLoad s n m x) ∧ (loopLoad s n m x).y = (s.loop n).y := by
  unfold loopLoad
  dsimp only
  generalize (if (s.loop n).mode = 4 then (s.loop n).before else (s.loop n).mode) = from_
  split
  · exact ⟨⟨rfl, rfl, rfl, rfl, rfl, rfl, rfl, fun _ h => h⟩, rfl⟩
  split
  · exact ⟨⟨rfl, rfl, rfl, rfl, rfl, rfl, rfl, fun _ h => h⟩, rfl⟩
  split
  · exact ⟨⟨rfl, rfl, rfl, rfl, rfl, rfl, rfl, fun _ h => h⟩, rfl⟩
  split <;> exact ⟨⟨rfl, rfl, rfl, rfl, rfl, rfl, rfl, fun _ h => h⟩, rfl⟩

/-- A running mode is entered by loading the loop and by a hand-over cycle of its law. -/
theorem enterRun_eq (m : Nat) (x : Int) : ∃ v, enterRun n m x s = lawCycle n x true (slewEnd n (s.setLoop n v)) ∧
    ((s.loop n).entered m).LawKeeps v ∧ v.y = (s.loop n).y := by
  obtain ⟨hload, hy⟩ := loopLoad_keeps n s m x
  refine ⟨_, rfl, ?_⟩
  unfold LoopSt.entered
  by_cases hoff : (s.loop n).mode = 0
  · rw [if_pos hoff, if_pos (by simpa using hoff)]
    exact ⟨⟨hload.mode, hload.tapHold, hload.req, hload.rej, rfl, hload.ready, hload.snap, hload.flags⟩, hy⟩
  · rw [if_neg hoff, if_neg (by simpa using hoff)]
    exact ⟨hload, hy⟩

theorem enterRun_keeps (m : Nat) (x : Int) : ((s.loop n).entered m).LawKeeps ((enterRun n m x s).loop n) := by
  obtain ⟨v, heq, hv, -⟩ := enterRun_eq n s m x
  rw [heq]
  exact (hv.trans (LoopEvents.refl n (s.setLoop n v)).slewEnd.lawKeeps_setLoop).trans (lawCycle_keeps n _ x true)

theorem enterRun_y_clamped (m : Nat) (x : Int) : ∃ z, ((enterRun n m x s).loop n).y = outRate s n (s.loop n).y (clampFd s n z).1 := by
  obtain ⟨v, heq, hv, hy⟩ := enterRun_eq n s m x
  have hslew : LoopEvents n (s.setLoop n v) (slewEnd n (s.setLoop n v)) := (LoopEvents.refl n _).slewEnd
  obtain ⟨z, hz⟩ := lawCycle_y_clamped n (slewEnd n (s.setLoop n v)) x true
  have hyv : ((slewEnd n (s.setLoop n v)).loop n).y = (s.loop n).y := by rw [hslew.of_setLoop, ← hy]
  have hregs : (slewEnd n (s.setLoop n v)).regs = s.regs := hslew.regs.trans (by simp)
  exact ⟨z, by rw [heq, hz, hyv, outRate_congr (hv.trans hslew.lawKeeps_setLoop).snap, clampFd_congr hregs]⟩

end

end Sys2Proof.Machine
end

section
/-! SUPPORT. Force-feedback loops: an inner cycle by what it takes and how it ends, the loss of the tap, driver faults and the end of a start's
grant (R205, R209 to R213, R220, R221, R433). -/

namespace Sys2Proof.Machine

/-! ### An inner cycle (R205) -/

/-- Whether a group of tap values holds a stale one. -/
def LoopGroup.stale (g : LoopGroup) : Bool := g.taps.any (·.stale)

/-- The newest value of a group. -/
def LoopGroup.newest (g : LoopGroup) : LoopTap := g.taps.headD ⟨0, 0, false, false, false, 0⟩

/-- The loop as a cycle begins on group `g`, with `r` the groups left: the code delivered is the one before, the snapshot is the group's. -/
def cycleLoop (n : Nat) (g : LoopGroup) (r : List LoopGroup) (s : State) : LoopSt :=
  let st := s.loop n
  { st with
    y := fdNow s n, ready := r, snap := g.snap, xClamp := g.taps.any (·.clamped) || g.taps.any (·.ovl)
    cycles := if st.mode = 0 then st.cycles else st.cycles + 1 }

/-- The hub as that cycle begins. -/
def cycleStart (n : Nat) (g : LoopGroup) (r : List LoopGroup) (s : State) : State := s.setLoop n (cycleLoop n g r s)

/-- The cycle's position: the mean of its group. -/
def cyclePos (n : Nat) (g : LoopGroup) (r : List LoopGroup) (s : State) : Int :=
  loopPos (cycleStart n g r s) n (satS 24 (rdivAway ((g.taps.map (·.v)).sum) (max 1 g.taps.length)))

/-- Tap hold (R220): LOOP_TAP_HOLD where it begins, and the end of a slew. -/
def tapHeld (n : Nat) (s : State) : State :=
  slewEnd n (lraiseIf (!(s.loop n).tapHold) n 3 (s.setLoop n { s.loop n with tapHold := true }))

/-- The law of a cycle on fresh values: out of tap hold the loop resumes its mode. -/
def freshCycle (n : Nat) (x : Int) (s : State) : State := if (s.loop n).tapHold then enterRun n (s.loop n).mode x s else lawCycle n x false s

/-- The rest of a cycle at position `x`, after its due request: the hub then, and whether the law has run with it. -/
def cycleRest (n : Nat) (g : LoopGroup) (x : Int) (p : State × Bool) : State :=
  let j := g.newest.j / lpIDIV (lw0 p.1 n)
  let mk := (if g.taps.any (·.clamped) then 2 else 0) + (if g.taps.any (·.ovl) then 4 else 0)
  if (p.1.loop n).mode = 0 then p.1
  else if (p.1.loop n).mode = 4 then loopPublish n j 0 0 false p.1
  else if g.stale ∧ !p.2 then loopPublish n j 8 8 true (tapHeld n p.1)
  else
    let s2 := if p.2 then p.1 else freshCycle n x p.1
    let q := s2.loop n
    loopPublish n j (mk ||| (if q.limHi || q.limLo || q.accSat then 2 else 0)) (mk ||| (if q.accSat then 2 else 0)) false s2

section
variable {s : State} {n : Nat} {g : LoopGroup} {r : List LoopGroup} (hready : (s.loop n).ready = g :: r)
include hready

theorem loopCycle_eq : loopCycle n s = cycleRest n g (cyclePos n g r s)
    (if loopDue (s.loop n) g.newest.at_ g.stale then loopTake n ((s.loop n).req.getD 0) (cyclePos n g r s) (cycleStart n g r s)
      else (cycleStart n g r s, false)) := by
  simp only [loopCycle, hready]
  rfl

theorem loopCycle_undue (hdue : loopDue (s.loop n) g.newest.at_ g.stale = false) :
    loopCycle n s = cycleRest n g (cyclePos n g r s) (cycleStart n g r s, false) := by
  rw [loopCycle_eq hready, if_neg (by simp [hdue])]

theorem loopCycle_due {m : Nat} (hdue : loopDue (s.loop n) g.newest.at_ g.stale = true) (hreq : (s.loop n).req = some m) :
    loopCycle n s = cycleRest n g (cyclePos n g r s) (loopTake n m (cyclePos n g r s) (cycleStart n g r s)) := by
  rw [loopCycle_eq hready, if_pos hdue, hreq]
  rfl

end

theorem loopCycle_empty {s : State} {n : Nat} (h : (s.loop n).ready = []) : loopCycle n s = s := by simp only [loopCycle, h]

/-! ### How a cycle ends -/

theorem tapHeld_events (n : Nat) (s : State) : LoopEvents n (s.setLoop n { s.loop n with tapHold := true }) (tapHeld n s) :=
  ((LoopEvents.refl n _).raiseIf _ 3).slewEnd

/-- Tap hold raises LOOP_TAP_HOLD as it begins. -/
theorem tapHeld_flag {n : Nat} {s : State} (h : (s.loop n).tapHold = false) : ((tapHeld n s).loop n).flags.testBit 3 = true := by
  unfold tapHeld
  rw [h]
  exact (LoopEvents.refl n (lraise n 3 _)).slewEnd.flags 3 (lraise_flag ..)

theorem freshCycle_y_clamped (n : Nat) (s : State) (x : Int) : ∃ z, ((freshCycle n x s).loop n).y = outRate s n (s.loop n).y (clampFd s n z).1 := by
  unfold freshCycle
  split
  · exact enterRun_y_clamped ..
  · exact lawCycle_y_clamped ..

/-- A cycle on fresh values leaves what the law leaves, and ends tap hold. -/
theorem freshCycle_keeps {n : Nat} {s : State} (h0 : (s.loop n).mode ≠ 0) (x : Int) :
    ({ s.loop n with tapHold := false } : LoopSt).LawKeeps ((freshCycle n x s).loop n) := by
  unfold freshCycle
  split
  · have hrun := enterRun_keeps n s (s.loop n).mode x
    rwa [LoopSt.entered, if_neg h0] at hrun
  next hno =>
    have hlaw := lawCycle_keeps n s x false
    exact ⟨hlaw.mode, hlaw.tapHold.trans (by simpa using hno), hlaw.req, hlaw.rej, hlaw.cycles, hlaw.ready, hlaw.snap, hlaw.flags⟩

section
variable (n : Nat) (g : LoopGroup) (x : Int) {p : State × Bool}

theorem cycleRest_off (h0 : (p.1.loop n).mode = 0) : cycleRest n g x p = p.1 := if_pos h0

theorem cycleRest_hold (h4 : (p.1.loop n).mode = 4) : (cycleRest n g x p).loop n = p.1.loop n := by
  unfold cycleRest
  dsimp only
  rw [if_neg (by omega), if_pos h4]
  exact loop_congr (loopPublish_keepsLoops ..).1 n

section
variable (h0 : (p.1.loop n).mode ≠ 0) (h4 : (p.1.loop n).mode ≠ 4)
include h0 h4

theorem cycleRest_stale (hstale : g.stale = true) (hp : p.2 = false) : (cycleRest n g x p).loop n = (tapHeld n p.1).loop n := by
  unfold cycleRest
  dsimp only
  rw [if_neg h0, if_neg h4, if_pos ⟨hstale, by simp [hp]⟩]
  exact loop_congr (loopPublish_keepsLoops ..).1 n

theorem cycleRest_fresh (hstale : g.stale = false) (hp : p.2 = false) : (cycleRest n g x p).loop n = (freshCycle n x p.1).loop n := by
  unfold cycleRest
  dsimp only
  rw [if_neg h0, if_neg h4, if_neg (by simp [hstale]), loop_congr (loopPublish_keepsLoops ..).1 n, if_neg (by simp [hp])]

theorem cycleRest_taken (hp : p.2 = true) : (cycleRest n g x p).loop n = p.1.loop n := by
  unfold cycleRest
  dsimp only
  rw [if_neg h0, if_neg h4, if_neg (by simp [hp]), loop_congr (loopPublish_keepsLoops ..).1 n, if_pos hp]

end

/-- However a cycle ends, it leaves all that the law leaves, but for tap hold. -/
theorem cycleRest_keeps : ∃ held, ({ p.1.loop n with tapHold := held } : LoopSt).LawKeeps ((cycleRest n g x p).loop n) := by
  by_cases h0 : (p.1.loop n).mode = 0
  · rw [cycleRest_off n g x h0]
    exact ⟨(p.1.loop n).tapHold, .refl _⟩
  by_cases h4 : (p.1.loop n).mode = 4
  · rw [cycleRest_hold n g x h4]
    exact ⟨(p.1.loop n).tapHold, .refl _⟩
  cases hp : p.2
  · cases hstale : g.stale
    · rw [cycleRest_fresh n g x h0 h4 hstale hp]
      exact ⟨false, freshCycle_keeps h0 x⟩
    · rw [cycleRest_stale n g x h0 h4 hstale hp]
      exact ⟨true, (tapHeld_events n p.1).lawKeeps_setLoop⟩
  · rw [cycleRest_taken n g x h0 h4 hp]
    exact ⟨(p.1.loop n).tapHold, .refl _⟩

end

/-! ### A cycle without a due request (R205, R210, R220) -/

section
variable {s : State} {n : Nat} {g : LoopGroup} {r : List LoopGroup}

@[simp] theorem cycleStart_loop (n : Nat) (g : LoopGroup) (r : List LoopGroup) (s : State) : (cycleStart n g r s).loop n = cycleLoop n g r s := by
  simp [cycleStart]

@[simp] theorem cycleStart_regs (n : Nat) (g : LoopGroup) (r : List LoopGroup) (s : State) : (cycleStart n g r s).regs = s.regs := by
  simp [cycleStart]

/-- The output limit of a cycle goes by the snapshot of its group. -/
theorem outRate_cycleStart (y z : Int) :
    outRate (cycleStart n g r s) n y z = outRate (s.setLoop n { s.loop n with snap := g.snap }) n y z :=
  outRate_congr (by simp [cycleLoop]) y z

variable (hready : (s.loop n).ready = g :: r) (hdue : loopDue (s.loop n) g.newest.at_ g.stale = false)
include hready hdue

/-- In OFF and in HOLD the code delivered is held. -/
theorem loopCycle_held (hmode : (s.loop n).mode = 0 ∨ (s.loop n).mode = 4) : (loopCycle n s).loop n = cycleLoop n g r s := by
  rw [loopCycle_undue hready hdue, ← cycleStart_loop n g r s]
  obtain h0 | h4 := hmode
  · rw [cycleRest_off n g _ (by simpa [cycleLoop] using h0)]
  · rw [cycleRest_hold n g _ (by simpa [cycleLoop] using h4)]

section
variable (h0 : (s.loop n).mode ≠ 0) (h4 : (s.loop n).mode ≠ 4)
include h0 h4

/-- On stale values a running mode goes into tap hold. -/
theorem loopCycle_stale (hstale : g.stale = true) : (loopCycle n s).loop n = (tapHeld n (cycleStart n g r s)).loop n := by
  rw [loopCycle_undue hready hdue]
  exact cycleRest_stale n g _ (by simpa [cycleLoop] using h0) (by simpa [cycleLoop] using h4) hstale rfl

/-- Tap hold holds the code, the integrator and the ramp. -/
theorem loopCycle_stale_holds (hstale : g.stale = true) : ((loopCycle n s).loop n).mode = (s.loop n).mode ∧ ((loopCycle n s).loop n).tapHold = true ∧
    ((loopCycle n s).loop n).y = fdNow s n ∧ ((loopCycle n s).loop n).i = (s.loop n).i ∧ ((loopCycle n s).loop n).r = (s.loop n).r ∧
    ((s.loop n).tapHold = false → ((loopCycle n s).loop n).flags.testBit 3 = true) := by
  have hheld := loopCycle_stale hready hdue h0 h4 hstale
  have hloop := (tapHeld_events n (cycleStart n g r s)).of_setLoop
  rw [← hheld, cycleStart_loop] at hloop
  have hflag : (s.loop n).tapHold = false → ((loopCycle n s).loop n).flags.testBit 3 = true := fun htap => by
    rw [hheld]
    exact tapHeld_flag (by simpa [cycleLoop] using htap)
  rw [hloop]
  exact ⟨rfl, rfl, rfl, rfl, rfl, hflag⟩

/-- On fresh values a running mode runs its law. -/
theorem loopCycle_fresh (hstale : g.stale = false) :
    (loopCycle n s).loop n = (freshCycle n (cyclePos n g r s) (cycleStart n g r s)).loop n := by
  rw [loopCycle_undue hready hdue]
  exact cycleRest_fresh n g _ (by simpa [cycleLoop] using h0) (by simpa [cycleLoop] using h4) hstale rfl

theorem loopCycle_fresh_keeps (hstale : g.stale = false) :
    ({ cycleLoop n g r s with tapHold := false } : LoopSt).LawKeeps ((loopCycle n s).loop n) := by
  rw [loopCycle_fresh hready hdue h0 h4 hstale, ← cycleStart_loop n g r s]
  exact freshCycle_keeps (by simpa [cycleLoop] using h0) _

/-- On fresh values a running mode counts the cycle and ends tap hold. -/
theorem loopCycle_fresh_runs (hstale : g.stale = false) : ((loopCycle n s).loop n).mode = (s.loop n).mode ∧
    ((loopCycle n s).loop n).cycles = (s.loop n).cycles + 1 ∧ ((loopCycle n s).loop n).tapHold = false ∧ ((loopCycle n s).loop n).ready = r := by
  have hkeeps := loopCycle_fresh_keeps hready hdue h0 h4 hstale
  exact ⟨hkeeps.mode, hkeeps.cycles.trans (if_neg h0), hkeeps.tapHold, hkeeps.ready⟩

/-- On fresh values the code goes towards a target within its limits. -/
theorem loopCycle_y_clamped (hstale : g.stale = false) : ∃ z, ((loopCycle n s).loop n).y =
    outRate (s.setLoop n { s.loop n with snap := g.snap }) n (fdNow s n) (clampFd s n z).1 := by
  obtain ⟨z, hz⟩ := freshCycle_y_clamped n (cycleStart n g r s) (cyclePos n g r s)
  refine ⟨z, ?_⟩
  rw [loopCycle_fresh hready hdue h0 h4 hstale, hz, outRate_cycleStart, clampFd_congr (cycleStart_regs n g r s), cycleStart_loop]
  rfl

end

/-- In OPEN, outside tap hold, that target is the ramp's position. -/
theorem loopCycle_open (h1 : (s.loop n).mode = 1) (htap : (s.loop n).tapHold = false) (hstale : g.stale = false) : ((loopCycle n s).loop n).y =
    outRate (s.setLoop n { s.loop n with snap := g.snap }) n (fdNow s n) (clampFd s n (rshAway ((loopCycle n s).loop n).r 28)).1 := by
  have hlaw : freshCycle n (cyclePos n g r s) (cycleStart n g r s) =
      lawCycle n (cyclePos n g r s) false (cycleStart n g r s) := if_neg (by simp [cycleLoop, htap])
  rw [loopCycle_fresh hready hdue (by omega) (by omega) hstale, hlaw,
    lawCycle_open n _ (by simpa [cycleLoop] using h1), outRate_cycleStart, clampFd_congr (cycleStart_regs n g r s), cycleStart_loop]
  rfl

end

/-! ### Taking a due request (R210 to R214) -/

section
variable {s : State} {n m : Nat} (x : Int)

theorem loopTake_barred {e : Nat} (h : loopBar s n m = some e) : loopTake n m x s = (loopRej n e s, false) := by
  simp only [loopTake, h]

theorem loopRej_events (n e : Nat) (s : State) : LoopEvents n (s.setLoop n { s.loop n with req := none, leaveWait := false, rej := e }) (loopRej n e s) :=
  LoopEvents.raise 1 (.keeps (f := bgtDrop 1 n) (fun _ => ⟨rfl, rfl⟩) (.refl n _))

section
variable (h : loopBar s n m = none)
include h

/-- OFF taken: the loop is in OFF, and the registers stay. -/
theorem loopTake_off (hm : m = 0) : ((loopTake n m x s).1.loop n).mode = 0 ∧ ((loopTake n m x s).1.loop n).req = none ∧
    (loopTake n m x s).1.regs = s.regs := by
  simp only [loopTake, h, if_pos hm]
  split
  next h0 => exact ⟨by simpa using h0, by simp, by simp⟩
  · obtain ⟨v, hoff, hmode, hreq⟩ := enterOff_events n (s.setLoop n { s.loop n with req := none })
    rw [hoff.of_setLoop]
    exact ⟨hmode, hreq.trans (by simp), hoff.regs.trans (by simp)⟩

/-- HOLD taken: the loop holds its code, without SAFE. -/
theorem loopTake_hold (hm : m = 4) : ((loopTake n m x s).1.loop n).mode = 4 ∧ ((loopTake n m x s).1.loop n).req = none ∧
    ((loopTake n m x s).1.loop n).safe = false ∧ ((loopTake n m x s).1.loop n).y = (s.loop n).y := by
  simp only [loopTake, h, if_neg (show m ≠ 0 by omega), if_pos hm]
  split
  next h4 => simpa using h4
  · obtain ⟨v, hhold, hmode, hsafe, hy, hreq⟩ := enterHold_events n (s.setLoop n { s.loop n with req := none }) false
    rw [hhold.of_setLoop]
    exact ⟨hmode, hreq.trans (by simp), hsafe, hy.trans (by simp)⟩

/-- A running mode taken is in force. -/
theorem loopTake_run (h0 : m ≠ 0) (h4 : m ≠ 4) : ((loopTake n m x s).1.loop n).mode = m ∧ ((loopTake n m x s).1.loop n).req = none := by
  simp only [loopTake, h, if_neg h0, if_neg h4]
  split
  next hm => simpa using hm
  · have hrun := enterRun_keeps n (s.setLoop n { s.loop n with req := none }) m x
    exact ⟨hrun.mode, hrun.req.trans (by simp [LoopSt.entered])⟩

end

end

/-! ### A cycle with a due request -/

section
variable {s : State} {n m : Nat} {g : LoopGroup} {r : List LoopGroup}

theorem loopBar_cycleStart (m : Nat) : loopBar (cycleStart n g r s) n m = loopBar s n m := loopBar_setLoop (v := cycleLoop n g r s) rfl rfl m

variable (hready : (s.loop n).ready = g :: r) (hdue : loopDue (s.loop n) g.newest.at_ g.stale = true) (hreq : (s.loop n).req = some m)
include hready hdue hreq

/-- A barred request is rejected with its reason. -/
theorem loopCycle_barred {e : Nat} (hbar : loopBar s n m = some e) : ((loopCycle n s).loop n).rej = e ∧ ((loopCycle n s).loop n).req = none ∧
    ((loopCycle n s).loop n).mode = (s.loop n).mode ∧ ((loopCycle n s).loop n).flags.testBit 1 = true := by
  rw [loopCycle_due hready hdue hreq, loopTake_barred _ ((loopBar_cycleStart m).trans hbar)]
  obtain ⟨held, hrest⟩ := cycleRest_keeps n g (cyclePos n g r s) (p := (loopRej n e (cycleStart n g r s), false))
  have hrej := (loopRej_events n e (cycleStart n g r s)).lawKeeps_setLoop
  exact ⟨hrest.rej.trans hrej.rej, hrest.req.trans hrej.req, (hrest.mode.trans hrej.mode).trans (by simp [cycleLoop]),
    hrest.flags 1 (lraise_flag ..)⟩

section
variable (hbar : loopBar s n m = none)
include hbar

theorem loopCycle_takesOff (hm : m = 0) : ((loopCycle n s).loop n).mode = 0 ∧ ((loopCycle n s).loop n).req = none ∧
    fdNow (loopCycle n s) n = fdSafe s n := by
  obtain ⟨hmode, hnone, hregs⟩ := loopTake_off (cyclePos n g r s) ((loopBar_cycleStart (g := g) (r := r) m).trans hbar) hm
  rw [loopCycle_due hready hdue hreq, cycleRest_off n g _ hmode, fdNow_off hmode, fdSafe_congr (hregs.trans (cycleStart_regs n g r s))]
  exact ⟨hmode, hnone, rfl⟩

theorem loopCycle_takesHold (hm : m = 4) : ((loopCycle n s).loop n).mode = 4 ∧ ((loopCycle n s).loop n).req = none ∧
    ((loopCycle n s).loop n).safe = false ∧ ((loopCycle n s).loop n).y = fdNow s n := by
  obtain ⟨hmode, hnone, hsafe, hy⟩ := loopTake_hold (cyclePos n g r s) ((loopBar_cycleStart (g := g) (r := r) m).trans hbar) hm
  rw [loopCycle_due hready hdue hreq, cycleRest_hold n g _ hmode]
  exact ⟨hmode, hnone, hsafe, hy.trans (by simp [cycleLoop])⟩

theorem loopCycle_takesRun (h0 : m ≠ 0) (h4 : m ≠ 4) : ((loopCycle n s).loop n).mode = m ∧ ((loopCycle n s).loop n).req = none := by
  obtain ⟨hmode, hnone⟩ := loopTake_run (cyclePos n g r s) ((loopBar_cycleStart (g := g) (r := r) m).trans hbar) h0 h4
  rw [loopCycle_due hready hdue hreq]
  obtain ⟨held, hrest⟩ := cycleRest_keeps n g (cyclePos n g r s)
    (p := loopTake n m (cyclePos n g r s) (cycleStart n g r s))
  exact ⟨hrest.mode.trans hmode, hrest.req.trans hnone⟩

end

end

/-! ### The tap lost, and the end of a start's grant (R221, R433) -/

section
variable {s : State} {n : Nat}

/-- Four tap periods of loop `n`'s slice, in nanoseconds. -/
def tapLostNs (s : State) (n : Nat) : Nat := 4 * s.sliceDec (lpSLICE (lw0 s n)) * 15625 / 32

theorem loopTapLost_now (h0 : (s.loop n).mode ≠ 0) (hsafe : (s.loop n).mode ≠ 4 ∨ (s.loop n).safe = false)
    (ht : (s.loop n).lastTap + tapLostNs s n ≤ s.clk) :
    loopTapLost n s = lraise n 4 (enterHold n true (s.setLoop n { s.loop n with taps := [], ready := [] })) := by
  refine if_pos ⟨h0, ?_, ht⟩
  obtain h | h := hsafe <;> simp [h]

theorem loopTapLost_not (h : (s.loop n).mode = 0 ∨ ((s.loop n).mode = 4 ∧ (s.loop n).safe = true) ∨ s.clk < (s.loop n).lastTap + tapLostNs s n) :
    loopTapLost n s = s := by
  refine if_neg fun ⟨h0, hsafe, ht⟩ => ?_
  obtain h | ⟨h4, hs⟩ | h := h
  · exact h0 h
  · simp [h4, hs] at hsafe
  · exact absurd ht (Nat.not_le.2 h)

/-- A lost tap puts the loop in HOLD with SAFE at FD_SAFE. -/
theorem loopTapLost_holds (h0 : (s.loop n).mode ≠ 0) (hsafe : (s.loop n).mode ≠ 4 ∨ (s.loop n).safe = false)
    (ht : (s.loop n).lastTap + tapLostNs s n ≤ s.clk) : ((loopTapLost n s).loop n).mode = 4 ∧ ((loopTapLost n s).loop n).safe = true ∧
    ((loopTapLost n s).loop n).y = fdSafe s n ∧ ((loopTapLost n s).loop n).flags.testBit 4 = true := by
  rw [loopTapLost_now h0 hsafe ht]
  obtain ⟨v, hhold, hmode, hv, hy, -⟩ := enterHold_events n (s.setLoop n { s.loop n with taps := [], ready := [] }) true
  have hloop := (hhold.raise 4).of_setLoop
  exact ⟨(congrArg LoopSt.mode hloop).trans hmode, (congrArg LoopSt.safe hloop).trans hv,
    (congrArg LoopSt.y hloop).trans (hy.trans (fdSafe_congr (by simp) n)), lraise_flag ..⟩

theorem loopLeaveExpiry_now {g : BgtGrant} {d : Nat} (hg : g ∈ s.bgt.grants) (hkind : g.kind = 1) (hreq : g.req = n) (hdur : g.dur = some d)
    (ht : g.start + d * msU ≤ s.st) : loopLeaveExpiry n s = bgtRelease 1 n s :=
  if_pos (List.any_eq_true.2 ⟨g, hg, by simp [hkind, hreq, hdur, ht]⟩)

theorem loopLeaveExpiry_not (h : ∀ g ∈ s.bgt.grants, g.kind = 1 → g.req = n → ∀ d, g.dur = some d → s.st < g.start + d * msU) :
    loopLeaveExpiry n s = s := by
  refine if_neg fun hany => ?_
  obtain ⟨g, hg, hend⟩ := List.any_eq_true.1 hany
  rw [Bool.and_eq_true, decide_eq_true_iff] at hend
  obtain ⟨⟨hkind, hreq⟩, hend⟩ := hend
  split at hend
  next d hdur => exact absurd (of_decide_eq_true hend) (Nat.not_le.2 (h g hg hkind hreq d hdur))
  · simp at hend

end

/-! ### The statement -/

section
variable {s : State} {n : Fin 16} (hs : s.supply.held = false)
include hs

theorem exec_loopInnerCycle : exec (.loopInnerCycle n) s = .next (loopCycle n.val s) := act_live hs
theorem exec_loopTapLost : exec (.loopTapLost n) s = .next (loopTapLost n.val s) := act_live hs
theorem exec_loopFdFault : exec (.loopFdFault n) s = .next (lraise n.val 11 s) := act_live hs
theorem exec_loopLeaveExpiry : exec (.loopLeaveExpiry n) s = .next (loopLeaveExpiry n.val s) := act_live hs

end

/-- Settles O37: a cycle by whether a request is due, barred or none, and by mode and stale values; then the lost tap, the driver's fault and the end
of a grant. -/
theorem loopCycles : Obligations.LoopCycles := by
  refine ⟨fun s n hs hready => by rw [exec_loopInnerCycle hs, loopCycle_empty hready], fun s n g r hs hready => ?_, fun s n hs => ?_⟩
  · intro stale due u
    rw [exec_loopInnerCycle hs]
    refine ⟨fun hdue => ⟨fun hmode => ?held, fun h1 htap hstale => ?ramp, fun hrun => ⟨fun hstale => ?stale, fun hstale hlim => ?fresh⟩⟩,
      fun m hdue hreq => ⟨fun e hbar => ⟨_, rfl, loopCycle_barred hready hdue hreq hbar⟩, fun hbar =>
        ⟨fun hm => ⟨_, rfl, loopCycle_takesOff hready hdue hreq hbar hm⟩, fun hm => ⟨_, rfl, loopCycle_takesHold hready hdue hreq hbar hm⟩,
          fun hm => ⟨_, rfl, loopCycle_takesRun hready hdue hreq hbar (by omega) (by omega)⟩⟩⟩⟩
    case held =>
      refine ⟨_, rfl, ?_⟩
      rw [loopCycle_held hready hdue hmode]
      exact ⟨rfl, rfl, rfl, rfl⟩
    case ramp =>
      obtain ⟨hmode, -⟩ := loopCycle_fresh_runs hready hdue (by omega) (by omega) hstale
      exact ⟨_, rfl, hmode.trans h1, loopCycle_open hready hdue h1 htap hstale⟩
    case stale => exact ⟨_, rfl, loopCycle_stale_holds hready hdue (by omega) (by omega) hstale⟩
    case fresh =>
      obtain ⟨hmode, hcycles, htap, hleft⟩ := loopCycle_fresh_runs hready hdue (by omega) (by omega) hstale
      obtain ⟨z, hy⟩ := loopCycle_y_clamped hready hdue (by omega) (by omega) hstale
      obtain ⟨hlo, hhi⟩ := outRate_clampFd_mem (s := u) hlim (fdNow s n.val) z
      refine ⟨_, rfl, hmode, hcycles, htap, hleft, hy ▸ hlo, hy ▸ hhi, fun hrate => ?_⟩
      rw [hy, outRate_zero hrate]
      exact clampFd_mem hlim z
  · rw [exec_loopTapLost hs, exec_loopFdFault hs, exec_loopLeaveExpiry hs]
    refine ⟨fun h0 hsafe ht => ⟨_, rfl, loopTapLost_holds h0 hsafe ht⟩, fun h => by rw [loopTapLost_not h], ⟨_, rfl, ?fault⟩,
      fun g d hg hkind hreq hdur ht => by rw [loopLeaveExpiry_now hg hkind hreq hdur ht]; rfl, fun h => by rw [loopLeaveExpiry_not h]⟩
    exact ⟨by rw [lraise_loop, if_pos rfl], fun k hk => by rw [lraise_loop, if_neg hk], by simp, by simp, by simp, fun h => lraise_latched h (by decide)⟩

end Sys2Proof.Machine
end

section
/-! SUPPORT. Trigger units: arming and disarming, the fire, the stop and the silence of one, and the free of a record's slot (R236 to R250). -/

namespace Sys2Proof.Machine

/-! ### TRIG_CMD and REC_CMD -/

/-- The fields of a word of TRIG_CMD: OP and UNIT. -/
theorem trigCmdWord (op : Fin 8) (u : Fin 32) : let v := word (op.val * 2 ^ 16 + u.val)
    fld v 18 16 = op.val ∧ fld v 4 0 = u.val := by
  have hlt : op.val * 2 ^ 16 + u.val < 2 ^ 32 := by omega
  simp only [fld, nfld, word, BitVec.toNat_ofNat, Nat.mod_eq_of_lt hlt, Nat.shiftRight_eq_div_pow]
  omega

/-- What OP of TRIG_CMD asks of a unit. -/
def trigOp (op u : Nat) (s : State) : State :=
  if op = 1 then trigCmdArm u s
  else if op = 2 then trigCmdDisarm u s
  else if op = 3 then forceUnit u s.st 0x11 s
  else if op = 4 then stopUnit u (s.st + usU) s
  else s

theorem regEffect_trigCmd (src : Nat) (v : Word) (s : State) : regEffect src 0x10100 v s = trigOp (fld v 18 16) (fld v 4 0) s := rfl

/-- The fields of the word of REC_CMD that frees slot `n`. -/
theorem recFreeWord (n : Fin 256) : let v := word (2 ^ 8 + n.val)
    fld v 9 8 = 1 ∧ fld v 7 0 = n.val := by
  have hlt : 2 ^ 8 + n.val < 2 ^ 32 := by omega
  simp only [fld, nfld, word, BitVec.toNat_ofNat, Nat.mod_eq_of_lt hlt, Nat.shiftRight_eq_div_pow]
  omega

theorem regEffect_recCmd (src : Nat) (v : Word) (s : State) : regEffect src 0x11124 v s = if fld v 9 8 = 1 then recFree (fld v 7 0) s else s := rfl

section
variable {s : State} {src : Src} {u : Fin 32}

theorem act_trigCmd (op : Fin 8) (h : s.reaches 0x10100) :
    act (busWrite src.code 0x10100 (word (op.val * 2 ^ 16 + u.val))) s = .next (trigOp op.val u.val s) := by
  obtain ⟨hop, hu⟩ := trigCmdWord op u
  rw [act_busWrite src.code _ h (by decide), regEffect_trigCmd, hop, hu]

theorem exec_trigCmdArm (h : s.reaches 0x10100) : exec (.trigCmdArm src u) s = .next (trigCmdArm u.val s) := act_trigCmd 1 h
theorem exec_trigCmdDisarm (h : s.reaches 0x10100) : exec (.trigCmdDisarm src u) s = .next (trigCmdDisarm u.val s) := act_trigCmd 2 h
theorem exec_trigCmdFire (h : s.reaches 0x10100) : exec (.trigCmdFire src u) s = .next (forceUnit u.val s.st 0x11 s) := act_trigCmd 3 h
theorem exec_trigCmdStop (h : s.reaches 0x10100) : exec (.trigCmdStop src u) s = .next (stopUnit u.val (s.st + usU) s) := act_trigCmd 4 h

theorem exec_trigSlotSilence {i : Fin 8} (hs : s.supply.held = false) : exec (.trigSlotSilence u i) s = .next (slotSilence u.val i.val s) := act_live hs

theorem exec_recCmdFree {n : Fin 256} (h : s.reaches 0x11124) : exec (.recCmdFree src n) s = .next (recFree n.val s) := by
  obtain ⟨hop, hn⟩ := recFreeWord n
  refine (act_busWrite src.code _ h (by decide)).trans (congrArg _ ?_)
  rw [regEffect_recCmd, hop, hn]
  rfl

end

/-! ### Arming (R237, R238) -/

section
variable {s : State} {u at_ : Nat} {cmd : Bool}

/-- What a refused arming makes of the hub. -/
theorem armUnit_refused {r : Nat} (h : armRej s u cmd = some r) : let t := armUnit u cmd none at_ s
    t.trigUnit u = { s.trigUnit u with need := cdiv (armBytes (armMembers s u (s.unitDesc u) at_ [])) 4096 } ∧ t.recs = s.recs ∧
    t.trig = { s.trig with rejReason := r, rejUnit := u } ∧ bit (t.page pTRIG).stat 2 = true ∧ t.ctxs = s.ctxs ∧ t.regs = s.regs := by
  unfold armUnit
  rw [h]
  refine ⟨?unit, by simp, by simp, raise_latched _ _ _ (by decide), by simp, by simp⟩
  case unit =>
    simp only [raise_reads]
    exact (State.trigUnit_setUnit ..).trans (if_pos rfl)

/-- What an arming that nothing refuses makes of the hub. -/
theorem armUnit_taken (h : armRej s u cmd = none) : let t := armUnit u cmd none at_ s
    (t.trigUnit u).armed = true ∧ (t.trigUnit u).desc = s.unitDesc u ∧ (t.trigUnit u).members = armMembers s u (s.unitDesc u) at_ [] ∧
    (t.trigUnit u).opened = (s.trigUnit u).opened ∧
    (∃ r, t.recSlot (t.trigUnit u).slotNo = some r ∧ r.closed = false ∧ r.openRec = false ∧ r.unit = u) ∧
    bit (t.page pTRIG).stat 1 = true ∧ t.ctxs = s.ctxs ∧ t.regs = s.regs := by
  unfold armUnit
  rw [h]
  simp [raise_latched]

theorem trigCmdArm_plain (h : uRING (if (s.trigUnit u).armed then (s.trigUnit u).desc else s.unitDesc u) = false ∨ s.ring.crown = false) :
    trigCmdArm u s = armIfFree u true s := if_neg fun ⟨hr, hc⟩ => by simp [hr, hc] at h

theorem trigCmdDisarm_plain (h : uRING (if (s.trigUnit u).armed then (s.trigUnit u).desc else s.unitDesc u) = false ∨ s.ring.crown = false) :
    trigCmdDisarm u s = disarmUnit u s := if_neg fun ⟨hr, hc⟩ => by simp [hr, hc] at h

theorem armIfFree_armed (h : (s.trigUnit u).armed = true) : armIfFree u cmd s = s := if_pos h

theorem armIfFree_free (h : (s.trigUnit u).armed = false) : armIfFree u cmd s = armUnit u cmd none s.st s := if_neg (by simp [h])

/-! ### Disarming (R240) -/

theorem disarmUnit_free (h : (s.trigUnit u).armed = false) : disarmUnit u s = s := if_neg (by simp [h])

/-- The reservation of an armed unit is given back only while its members wait for a trigger point. -/
theorem disarmUnit_armed (h : (s.trigUnit u).armed = true) : let t := disarmUnit u s
    (t.trigUnit u).armed = false ∧ (t.trigUnit u).members = [] ∧ (t.trigUnit u).opened = (s.trigUnit u).opened ∧
    ((s.trigUnit u).members ≠ [] → t.recSlot (s.trigUnit u).slotNo = none) ∧ ((s.trigUnit u).members = [] → t.recs = s.recs) ∧
    bit (t.page pTRIG).stat 3 = true ∧ t.ctxs = s.ctxs ∧ t.regs = s.regs := by
  have hd : disarmUnit u s = raise pTRIG 3 (releaseUnit u s) := if_pos h
  rw [hd]
  cases hm : (s.trigUnit u).members <;> simp [releaseUnit, h, hm, raise_latched]

end

/-! ### Firing (R242, R247) -/

@[simp] theorem sendFire_fields (d : List Word) (t reason bitmap : Nat) (s : State) :
    (sendFire d t reason bitmap s).st = s.st ∧ (sendFire d t reason bitmap s).recs = s.recs ∧ (sendFire d t reason bitmap s).regs = s.regs ∧
    (sendFire d t reason bitmap s).ring.sent.length = s.ring.sent.length + 1 := by
  simp [sendFire]

@[simp] theorem sendFire_trigUnit (d : List Word) (t reason bitmap : Nat) (s : State) (m : Nat) : (sendFire d t reason bitmap s).trigUnit m = s.trigUnit m := rfl

section
variable {s : State} {u t reason bm : Nat}

theorem fireUnit_alone (h : uRING (s.trigUnit u).desc = false) : fireUnit u t reason bm s = openRec u t reason bm s.hubId false 0 0 s := if_neg (by simp [h])

/-- A ring unit's decided trigger point is a candidate of its merge period, and goes to the ring where it sends. -/
theorem fireUnit_ring (h : uRING (s.trigUnit u).desc = true) : let v := fireUnit u t reason bm s
    v.trigUnit u = { s.trigUnit u with cands := (s.trigUnit u).cands ++ [⟨t, reason, bm, s.hubId, false⟩],
                                       mergeEnd := some ((s.trigUnit u).mergeEnd.getD (s.st + uFIRELAT (s.trigUnit u).desc * msU)) } ∧
    v.ring.sent.length = s.ring.sent.length + (if uRINGTX (s.trigUnit u).desc then 1 else 0) ∧ v.recs = s.recs ∧ v.regs = s.regs := by
  unfold fireUnit
  rw [if_pos h]
  split <;> simp

theorem forceUnit_open (h : (s.trigUnit u).opened.isSome) : forceUnit u t reason s = retrig u s := if_pos h

theorem forceUnit_armed (ho : (s.trigUnit u).opened = none) (ha : (s.trigUnit u).armed = true) : forceUnit u t reason s = fireUnit u t reason 0 s := by
  simp [forceUnit, ho, ha]

/-- A unit that is not armed is armed at the trigger point, and fires where nothing refuses it. -/
theorem forceUnit_free (ho : (s.trigUnit u).opened = none) (ha : (s.trigUnit u).armed = false) : forceUnit u t reason s =
    if ((armUnit u false none t s).trigUnit u).armed then fireUnit u t reason 0 (armUnit u false none t s) else armUnit u false none t s := by
  simp [forceUnit, ho, ha]

/-- A counted trigger adds to the unit's RETRIG and its open record's. -/
theorem retrig_spec (u : Nat) (s : State) :
    (retrig u s).trigUnit u = { s.trigUnit u with retrig := satInc 16 (s.trigUnit u).retrig, opened := (s.trigUnit u).opened.map (fun o => { o with retrig := satInc 32 o.retrig }) } ∧
    bit ((retrig u s).page pTRIG).stat 5 = true ∧ (retrig u s).recs = s.recs := by
  simp [retrig, raise_latched]

end

/-! ### Stopping (R246) -/

section
variable {s : State} {u cut : Nat} {o : OpenRec}

theorem stopUnit_none (h : (s.trigUnit u).opened = none) : stopUnit u cut s = s := by simp only [stopUnit, h]

theorem stopUnit_late {c : Nat} (ho : (s.trigUnit u).opened = some o) (hne : cut ≠ o.t) (hc : commitPoint s o.mems = some c) (hlt : c < cut) :
    stopUnit u cut s = s.setUnit u { s.trigUnit u with opened := some { o with stopLate := true } } := by
  simp only [stopUnit, ho, if_neg hne, hc, decide_eq_true hlt, if_true]

/-- Whether an open record has used up its reservation before an instant. -/
def OpenRec.endsBefore (o : OpenRec) (cut : Nat) : Bool := o.full.any (fun f => decide (f.1 < cut))

theorem OpenRec.endsBefore_iff : o.endsBefore cut = true ↔ ∃ f, o.full = some f ∧ f.1 < cut := by
  simp [endsBefore, Option.any_eq_true]

/-- Up to the commit point, or where it is not known yet, the record is cut unless it has ended before. -/
theorem stopUnit_early (ho : (s.trigUnit u).opened = some o) (hne : cut ≠ o.t) (hc : ∀ c, commitPoint s o.mems = some c → cut ≤ c) :
    stopUnit u cut s = if o.endsBefore cut then s else closeIfDone u (s.setUnit u { s.trigUnit u with opened := some (cutRec cut o) }) := by
  simp only [stopUnit, ho]
  refine (if_neg hne).trans ((if_neg ?notPast).trans (ite_congr ?ended (fun _ => rfl) (fun _ => rfl)))
  case notPast =>
    cases hp : commitPoint s o.mems with
    | none => simp
    | some c => simpa using hc c hp
  case ended =>
    unfold OpenRec.endsBefore
    cases o.full <;> rfl

end

/-! ### Silence (R236) -/

section
variable {s : State} {u i : Nat}

theorem slotSilence_now {q : SlotSt} (hq : (s.trigUnit u).slots[i]? = some q) (ha : (s.trigUnit u).armed = true) (hen : slEN (s.trigUnit u).desc i = true)
    (hctx : slCtx (s.trigUnit u).desc i = true) (hsil : q.silent = false) (hlong : q.lastAt + secU ≤ s.st) : slotSilence u i s =
      decideUnit u 64 (s.setUnit u { s.trigUnit u with slots := (s.trigUnit u).slots.set i { q with silent := true } }) := by
  simp [slotSilence, hq, ha, hen, hctx, hsil, hlong]

theorem slotSilence_none (h : (s.trigUnit u).slots[i]? = none) : slotSilence u i s = s := by simp only [slotSilence, h]

theorem slotSilence_not {q : SlotSt} (hq : (s.trigUnit u).slots[i]? = some q)
    (h : (s.trigUnit u).armed = false ∨ slCtx (s.trigUnit u).desc i = false ∨ q.silent = true ∨ s.st < q.lastAt + secU) : slotSilence u i s = s := by
  simp only [slotSilence, hq]
  refine if_neg fun hc => ?_
  simp only [Bool.and_eq_true, Bool.not_eq_true', decide_eq_true_eq] at hc
  obtain ⟨⟨⟨⟨ha, -⟩, hctx⟩, hsil⟩, hlong⟩ := hc
  rcases h with h | h | h | h
  · simp [ha] at h
  · simp [hctx] at h
  · simp [hsil] at h
  · omega

end

/-! ### The free of a slot (R250) -/

section
variable {s : State} {n : Nat} {r : RecSlot}

theorem recFree_empty (h : s.recSlot n = none) : recFree n s = s := by simp only [recFree, h]

theorem recFree_closed (h : s.recSlot n = some r) (hc : r.closed = true) : let t := recFree n s
    t.recSlot n = none ∧ (∀ m, m ≠ n → t.recSlot m = s.recSlot m) ∧
    t.store = { s.store with rsvRecs := s.store.rsvRecs.filter (fun x => decide (x.1 ≠ n)) } ∧
    bit (t.page pCAPT).stat 6 = true ∧ t.units = s.units ∧ t.dramMem = s.dramMem ∧ t.regs = s.regs := by
  simp only [recFree, h, hc, if_true]
  refine ⟨by simp, fun m hm => ?_, by simp, raise_latched _ _ _ (by decide), by simp, by simp, by simp⟩
  simp only [raise_reads, State.recSlot_setRec, if_neg hm]
  rfl

theorem recFree_held (h : s.recSlot n = some r) (hc : r.closed = false) : recFree n s = raise pCAPT 7 s := by simp [recFree, h, hc]

end

/-! ### The obligation -/

/-- Settles O29: each command goes by what it finds, and each case is one of the lemmas above. -/
theorem triggerCommands : Obligations.TriggerCommands := by
  refine ⟨⟨fun s src u h => ⟨fun hplain => ?plain, fun hr hc => ?ring⟩, fun s src u h ho => ?fire, fun s src u o h ho => ?opened, fun s src u h ho => ?idle,
    fun s u i hs => ?silence⟩, fun s src n h => ?free⟩
  case plain =>
    rw [exec_trigCmdArm h, exec_trigCmdDisarm h, trigCmdArm_plain hplain, trigCmdDisarm_plain hplain]
    refine ⟨fun ha => by rw [armIfFree_armed ha], fun ha => ⟨fun r hr => ⟨_, rfl, ?refused⟩, fun hr => ⟨_, rfl, ?taken⟩⟩,
      fun ha => by rw [disarmUnit_free ha], fun ha => ⟨_, rfl, disarmUnit_armed ha⟩⟩
    case refused =>
      rw [armIfFree_free ha]
      exact armUnit_refused hr
    case taken =>
      rw [armIfFree_free ha]
      exact armUnit_taken hr
  case ring =>
    rw [exec_trigCmdArm h, exec_trigCmdDisarm h]
    exact ⟨congrArg _ (if_pos ⟨hr, hc⟩), congrArg _ (if_pos ⟨hr, hc⟩)⟩
  case fire =>
    rw [exec_trigCmdFire h]
    refine ⟨fun ha hr => by rw [forceUnit_armed ho ha, fireUnit_alone hr], fun ha hr => ⟨_, rfl, ?_⟩, fun ha hrej => ?_, fun ha hrej => ?_⟩
    · obtain ⟨hunit, hsent, hrecs, hregs⟩ := fireUnit_ring (t := s.st) (reason := 0x11) (bm := 0) hr
      rw [forceUnit_armed ho ha, hunit]
      exact ⟨by simp, rfl, ho, hsent, hrecs, hregs⟩
    · obtain ⟨harmed, -⟩ := armUnit_taken (at_ := s.st) hrej
      rw [forceUnit_free ho ha, if_pos harmed]
    · obtain ⟨r, hr⟩ := Option.isSome_iff_exists.1 hrej
      obtain ⟨hunit, -⟩ := armUnit_refused (at_ := s.st) hr
      have hfree : ((armUnit u.val false none s.st s).trigUnit u.val).armed = false := hunit ▸ ha
      rw [forceUnit_free ho ha, if_neg (by simp [hfree])]
      exact ⟨rfl, hfree⟩
  case opened =>
    rw [exec_trigCmdFire h, exec_trigCmdStop h, forceUnit_open (by simp [ho])]
    refine ⟨⟨_, rfl, ?_⟩, fun hne => ⟨fun c hc hlt => by rw [stopUnit_late ho hne hc hlt], fun hc hf => ?_, fun hc hf => ?_⟩⟩
    · obtain ⟨hunit, hstat, hrecs⟩ := retrig_spec u.val s
      rw [hunit, ho]
      exact ⟨rfl, rfl, hstat, hrecs⟩
    · rw [stopUnit_early ho hne hc, if_pos (OpenRec.endsBefore_iff.2 hf)]
    · rw [stopUnit_early ho hne hc, if_neg fun he => ?_]
      obtain ⟨f, hfull, hlt⟩ := OpenRec.endsBefore_iff.1 he
      exact absurd (hf f hfull) (by omega)
  case idle => rw [exec_trigCmdStop h, stopUnit_none ho]
  case silence =>
    rw [exec_trigSlotSilence hs]
    refine ⟨fun q hq ha hen hctx hsil hlong => by rw [slotSilence_now hq ha hen hctx hsil hlong], fun hnot => congrArg _ ?_⟩
    cases hq : (s.trigUnit u.val).slots[i.val]? with
    | none => exact slotSilence_none hq
    | some q => exact slotSilence_not hq (by simpa [hq] using hnot)
  case free =>
    rw [exec_recCmdFree h]
    refine ⟨fun he => by rw [recFree_empty he], fun r hr => ⟨fun hc => ⟨_, rfl, recFree_closed hr hc⟩, fun hc => ⟨_, rfl, ?_⟩⟩⟩
    rw [recFree_held hr hc]
    exact ⟨by simp, by simp, by simp, raise_latched _ _ _ (by decide)⟩

end Sys2Proof.Machine
end

section
/-! SUPPORT. Decisions of trigger units: the meetings, the end of a merge period and MAXDUR (R235, R236, R242, R245). -/

namespace Sys2Proof.Machine

section
variable {s : State} {u : Fin 32}

theorem exec_trigDecide (hs : s.supply.held = false) : exec (.trigDecide u) s = .next (decideUnit u.val 64 s) := act_live hs
theorem exec_trigMergeClose (hs : s.supply.held = false) : exec (.trigMergeClose u) s = .next (mergeUnit u.val s) := act_live hs
theorem exec_recMaxdurExpiry (hs : s.supply.held = false) : exec (.recMaxdurExpiry u) s = .next (recMaxdur u.val s) := act_live hs

end

/-! ### Meetings (R235, R236) -/

/-- A unit once the meetings of instant `t` are decided. -/
def UnitSt.decided (x : UnitSt) (t : Nat) : UnitSt := { x with after := max x.after t, meets := meetsAfter x t }

/-- Of two writes of one key the later stands, where neither stores the default. -/
theorem tset_tset {α : Type} [DecidableEq α] (d : Nat → α) (k : Nat) {v w : α} (hv : v ≠ d k) (hw : w ≠ d k) :
    ∀ t : Tbl α, tset d (tset d t k v) k w = tset d t k w
  | [] => by simp [tset, hv, hw]
  | (j, x) :: t => by
    rcases Nat.lt_trichotomy k j with h | rfl | h
    · simp [tset, h, hv, hw]
    · simp [tset, hv, hw]
    · simp [tset, show ¬ k < j by omega, show ¬ k = j by omega, tset_tset d k hv hw t]

/-- Of two writes of an armed unit the later stands. -/
theorem setUnit_setUnit {v w : UnitSt} (s : State) (u : Nat) (hv : v.armed = true) (hw : w.armed = true) : (s.setUnit u v).setUnit u w = s.setUnit u w := by
  have armed_ne : ∀ {x : UnitSt}, x.armed = true → x ≠ unit0 u := by
    rintro x hx rfl
    exact Bool.false_ne_true hx
  exact congrArg (fun t => { s with units := t }) (tset_tset unit0 u (armed_ne hv) (armed_ne hw) s.units)

@[simp] theorem UnitSt.decided_desc (x : UnitSt) (t : Nat) : (x.decided t).desc = x.desc := rfl

/-- The hub's identity is the part's, whatever its units do. -/
@[simp] theorem hubId_setUnit (s : State) (u : Nat) (x : UnitSt) : (s.setUnit u x).hubId = s.hubId := rfl

section
variable {s : State} {u f t : Nat}

theorem decideUnit_none (h : nextMeet (s.trigUnit u) = none) : decideUnit u (f + 1) s = s := by
  rw [decideUnit]
  simp only [h]

theorem decideUnit_held (hn : nextMeet (s.trigUnit u) = some t) (h : (s.trigUnit u).armed = false ∨ decidable (s.trigUnit u) t = false) :
    decideUnit u (f + 1) s = s := by
  rw [decideUnit]
  simp only [hn]
  exact if_neg (by rcases h with h | h <;> simp [h])

section
variable (ha : (s.trigUnit u).armed = true) (hn : nextMeet (s.trigUnit u) = some t) (hd : decidable (s.trigUnit u) t = true)
include ha hn hd

/-- Fewer than K counted slots: the instant passes by. -/
theorem decideUnit_few (hk : bitCount (countedAt (s.trigUnit u) t) < uK (s.trigUnit u).desc) :
    decideUnit u (f + 1) s = decideUnit u f (s.setUnit u ((s.trigUnit u).decided t)) := by
  rw [decideUnit]
  simp only [hn]
  exact (if_pos (by simp [ha, hd])).trans (if_pos hk)

variable (hk : uK (s.trigUnit u).desc ≤ bitCount (countedAt (s.trigUnit u) t))
include hk

/-- K counted slots fire an idle unit. -/
theorem decideUnit_fires (ho : (s.trigUnit u).opened = none) : decideUnit u (f + 1) s =
    fireUnit u t (lowBit (countedAt (s.trigUnit u) t)) (countedAt (s.trigUnit u) t) (s.setUnit u ((s.trigUnit u).decided t)) := by
  rw [decideUnit]
  simp only [hn]
  refine (if_pos (by simp [ha, hd])).trans ((if_neg (Nat.not_lt.2 hk)).trans ?_)
  split
  · rfl
  · simp_all

theorem decideUnit_alone (ho : (s.trigUnit u).opened = none) (hr : uRING (s.trigUnit u).desc = false) : decideUnit u (f + 1) s =
    openRec u t (lowBit (countedAt (s.trigUnit u) t)) (countedAt (s.trigUnit u) t) s.hubId false 0 0 (s.setUnit u ((s.trigUnit u).decided t)) := by
  rw [decideUnit_fires ha hn hd hk ho, fireUnit_alone (by simpa using hr), hubId_setUnit]

theorem decideUnit_ring (ho : (s.trigUnit u).opened = none) (hr : uRING (s.trigUnit u).desc = true) : let x := s.trigUnit u
    let bm := countedAt x t
    let v := decideUnit u (f + 1) s
    v.trigUnit u = { x.decided t with cands := x.cands ++ [⟨t, lowBit bm, bm, s.hubId, false⟩], mergeEnd := some (x.mergeEnd.getD (s.st + uFIRELAT x.desc * msU)) } ∧
    v.ring.sent.length = s.ring.sent.length + (if uRINGTX x.desc then 1 else 0) ∧ v.recs = s.recs := by
  intro x bm v
  have hunit : (s.setUnit u (x.decided t)).trigUnit u = x.decided t := (State.trigUnit_setUnit ..).trans (if_pos rfl)
  obtain ⟨hfired, hsent, hrecs, -⟩ := fireUnit_ring (s := s.setUnit u (x.decided t)) (t := t) (reason := lowBit bm) (bm := bm) (by rw [hunit]; exact hr)
  rw [hunit, hubId_setUnit] at hfired
  rw [hunit] at hsent
  rw [show v = _ from decideUnit_fires ha hn hd hk ho]
  exact ⟨hfired, hsent, hrecs⟩

variable {o : OpenRec} (ho : (s.trigUnit u).opened = some o)
include ho

/-- With a record open they count in RETRIG, or at the instant of an entry's trigger point give it their reason. -/
theorem decideUnit_opened : decideUnit u (f + 1) s =
    if o.t = t ∧ o.reason = 0x10 then decideUnit u f (s.setUnit u { (s.trigUnit u).decided t with
      bitmap := countedAt (s.trigUnit u) t, opened := some { o with reason := lowBit (countedAt (s.trigUnit u) t), bitmap := countedAt (s.trigUnit u) t } })
    else decideUnit u f (retrig u (s.setUnit u ((s.trigUnit u).decided t))) := by
  rw [decideUnit]
  simp only [hn]
  refine (if_pos (by simp [ha, hd])).trans ((if_neg (Nat.not_lt.2 hk)).trans ?_)
  split
  case h_1 h => simp [ho] at h
  case h_2 p h =>
    obtain rfl : o = p := Option.some.inj (ho.symm.trans h)
    exact ite_congr rfl (fun _ => congrArg _ (setUnit_setUnit s u ha ha)) (fun _ => rfl)

end
end

/-! ### The end of a merge period (R242) -/

/-- The least of a key over a list, from a start. -/
def minOver {α : Type} (key : α → Nat) (b : Nat) (l : List α) : Nat := l.foldl (fun m c => min m (key c)) b

theorem minOver_le {α : Type} (key : α → Nat) : ∀ (l : List α) (b : Nat), minOver key b l ≤ b ∧ ∀ c ∈ l, minOver key b l ≤ key c
  | [], b => ⟨Nat.le_refl b, by simp⟩
  | a :: l, b => by
    obtain ⟨hb, hl⟩ := minOver_le key l (min b (key a))
    have hhead : minOver key b (a :: l) = minOver key (min b (key a)) l := rfl
    rw [hhead]
    refine ⟨by omega, fun c hc => ?_⟩
    rcases List.mem_cons.1 hc with rfl | hc
    · omega
    · exact hl c hc

theorem minOver_mem {α : Type} (key : α → Nat) : ∀ (l : List α) (b : Nat), minOver key b l = b ∨ ∃ c ∈ l, minOver key b l = key c
  | [], _ => .inl rfl
  | a :: l, b => by
    have hhead : minOver key b (a :: l) = minOver key (min b (key a)) l := rfl
    rw [hhead]
    rcases minOver_mem key l (min b (key a)) with h | ⟨c, hc, h⟩
    · rcases Nat.le_total b (key a) with hle | hle
      · exact .inl (by omega)
      · exact .inr ⟨a, by simp, by omega⟩
    · exact .inr ⟨c, by simp [hc], h⟩

/-- Begun at one of the list's own keys it is the list's least key. -/
theorem minOver_least {α : Type} (key : α → Nat) {l : List α} {a : α} (h : a ∈ l) :
    (∀ c ∈ l, minOver key (key a) l ≤ key c) ∧ ∃ c ∈ l, minOver key (key a) l = key c :=
  ⟨(minOver_le key l (key a)).2, (minOver_mem key l (key a)).elim (fun e => ⟨a, h, e⟩) id⟩

section
variable {s : State} {u e t : Nat}

theorem mergeUnit_early (he : (s.trigUnit u).mergeEnd = some e) (hlt : s.st < e) : mergeUnit u s = s := by
  simp [mergeUnit, he, hlt]

theorem mergeUnit_empty (he : (s.trigUnit u).mergeEnd = none) (hc : (s.trigUnit u).cands = []) :
    mergeUnit u s = s.setUnit u { s.trigUnit u with mergeEnd := none } := by
  simp only [mergeUnit, he, hc]
  rfl

/-- The candidates of the earliest instant merge into the trigger point, the others count as lost. -/
theorem mergeUnit_closes {c0 : Cand} {r : List Cand} (he : (s.trigUnit u).mergeEnd = some e) (hle : e ≤ s.st) (hc : (s.trigUnit u).cands = c0 :: r)
    (ht : minOver (·.t) c0.t (s.trigUnit u).cands = t) : let same := (s.trigUnit u).cands.filter (fun c => decide (c.t = t))
    mergeUnit u s = openRec u t (minOver (·.reason) (same.headD c0).reason same) (same.foldl (fun b c => b ||| c.bitmap) 0)
      (minOver (·.hub) (same.headD c0).hub same) (same.all (·.remote)) (if 1 < same.length then same.length else 0) ((s.trigUnit u).cands.length - same.length) s := by
  subst ht
  unfold mergeUnit
  refine (if_neg (by simp [he, hle])).trans ?_
  split
  case h_1 h => simp [hc] at h
  case h_2 p q h =>
    obtain ⟨rfl, -⟩ : c0 = p ∧ r = q := by simpa [hc] using h
    rfl

end

/-! ### MAXDUR (R245) -/

section
variable {s : State} {u : Nat} {o : OpenRec}

theorem recMaxdur_none (h : (s.trigUnit u).opened = none) : recMaxdur u s = s := by simp only [recMaxdur, h]

theorem recMaxdur_now (ho : (s.trigUnit u).opened = some o) (hm : o.maxdur ≠ 0) (ht : o.t + o.maxdur * secU ≤ s.st) : recMaxdur u s = closeRec u 8 s := by
  simp [recMaxdur, ho, hm, ht]

theorem recMaxdur_not (ho : (s.trigUnit u).opened = some o) (h : o.maxdur = 0 ∨ s.st < o.t + o.maxdur * secU) : recMaxdur u s = s := by
  simp only [recMaxdur, ho]
  exact if_neg (by omega)

end

/-! ### The obligation -/

/-- Settles O30: one lemma per case of a decision, of a merge period's end and of MAXDUR. -/
theorem triggerDecisions : Obligations.TriggerDecisions := by
  refine ⟨fun s u hs => ?decide, fun s u hs => ?merge, fun s u hs => ?maxdur⟩
  case decide =>
    rw [exec_trigDecide hs]
    refine ⟨fun hnot => congrArg _ ?none, fun t ha hn hd => ?_⟩
    case none =>
      cases hn : nextMeet (s.trigUnit u.val) with
      | none => exact decideUnit_none hn
      | some t => exact decideUnit_held hn (by simpa [hn] using hnot)
    refine ⟨fun hk => congrArg _ (decideUnit_few ha hn hd hk), fun hk => ⟨fun ho hr => congrArg _ (decideUnit_alone ha hn hd hk ho hr), fun ho hr => ⟨_, rfl, ?ring⟩,
      fun o ho hne => congrArg _ ((decideUnit_opened ha hn hd hk ho).trans (if_neg (by omega))),
      fun o ho ht hr => congrArg _ ((decideUnit_opened ha hn hd hk ho).trans (if_pos ⟨ht, hr⟩))⟩⟩
    case ring =>
      obtain ⟨hunit, hsent, hrecs⟩ := decideUnit_ring (f := 63) ha hn hd hk ho hr
      exact ⟨congrArg (·.cands) hunit, congrArg (·.mergeEnd) hunit, congrArg (·.meets) hunit, hsent, hrecs⟩
  case merge =>
    rw [exec_trigMergeClose hs]
    refine ⟨fun e he hlt => by rw [mergeUnit_early he hlt], fun he hc => by rw [mergeUnit_empty he hc], fun e t c1 he hle h1 ht hmin => ?_⟩
    intro same
    obtain ⟨c0, r, hc⟩ := List.exists_cons_of_ne_nil (List.ne_nil_of_mem h1)
    obtain ⟨hleast, c2, h2, hkey⟩ := minOver_least (·.t) (show c0 ∈ (s.trigUnit u.val).cands by simp [hc])
    have hfirst : minOver (·.t) c0.t (s.trigUnit u.val).cands = t := by
      have := hleast c1 h1
      have := hmin c2 h2
      omega
    have hhead : same.headD c0 ∈ same := by
      have hmem : c1 ∈ same := by simp [same, h1, ht]
      obtain ⟨c, l, hsame⟩ := List.exists_cons_of_ne_nil (List.ne_nil_of_mem hmem)
      simp [hsame]
    obtain ⟨hreason, hreasonMem⟩ := minOver_least (·.reason) hhead
    obtain ⟨hhub, hhubMem⟩ := minOver_least (·.hub) hhead
    exact ⟨_, _, fun c hc => ⟨hreason c hc, hhub c hc⟩, hreasonMem, hhubMem, congrArg _ (mergeUnit_closes he hle hc hfirst)⟩
  case maxdur =>
    rw [exec_recMaxdurExpiry hs]
    exact ⟨fun ho => by rw [recMaxdur_none ho], fun o ho =>
      ⟨fun hm ht => by rw [recMaxdur_now ho hm ht], fun hnot => by rw [recMaxdur_not ho hnot]⟩⟩

end Sys2Proof.Machine
end

section
/-! SUPPORT. Compression: CMP_CFG and the ends of a block, its start and its commit, and the commands of CMP_CMD (R255 to R273). -/

namespace Sys2Proof.Machine

/-! ### CMP_CFG and CMP_CMD -/

theorem regEffect_cmpCfg (src : Nat) (v : Word) (s : State) : regEffect src 0x12104 v s = cmpCfgWrite v s := rfl

/-- The fields of a word of CMP_CMD: OP and STREAM. -/
theorem cmpCmdWord (op : Fin 8) (n : Fin 128) : let v := word (op.val * 2 ^ 16 + n.val)
    fld v 18 16 = op.val ∧ fld v 6 0 = n.val := by
  have hlt : op.val * 2 ^ 16 + n.val < 2 ^ 32 := by omega
  simp only [fld, nfld, word, BitVec.toNat_ofNat, Nat.mod_eq_of_lt hlt, Nat.shiftRight_eq_div_pow]
  omega

/-- What OP of CMP_CMD asks of a stream. -/
def cmpOp (op n : Nat) (s : State) : State :=
  if op = 1 then cmpFlush n s
  else if op = 2 then cmpSave n s
  else if op = 3 then cmpRestore n s
  else if op = 4 then cmpResume n s
  else s

theorem regEffect_cmpCmd (src : Nat) (v : Word) (s : State) : regEffect src 0x12130 v s = cmpOp (fld v 18 16) (fld v 6 0) s := rfl

section
variable {s : State} {src : Src} {n : Fin 128}

theorem act_cmpCmd (op : Fin 8) (h : s.reaches 0x12130) :
    act (busWrite src.code 0x12130 (word (op.val * 2 ^ 16 + n.val))) s = .next (cmpOp op.val n.val s) := by
  obtain ⟨hop, hn⟩ := cmpCmdWord op n
  rw [act_busWrite src.code _ h (by decide), regEffect_cmpCmd, hop, hn]

theorem exec_cmpCmdFlush (h : s.reaches 0x12130) : exec (.cmpCmdFlush src n) s = .next (cmpFlush n.val s) := act_cmpCmd 1 h
theorem exec_cmpCmdSave (h : s.reaches 0x12130) : exec (.cmpCmdSave src n) s = .next (cmpSave n.val s) := act_cmpCmd 2 h
theorem exec_cmpCmdRestore (h : s.reaches 0x12130) : exec (.cmpCmdRestore src n) s = .next (cmpRestore n.val s) := act_cmpCmd 3 h
theorem exec_cmpCmdResume (h : s.reaches 0x12130) : exec (.cmpCmdResume src n) s = .next (cmpResume n.val s) := act_cmpCmd 4 h

theorem exec_cmpCfgWrite {v : Word} (h : s.reaches 0x12104) : exec (.cmpCfgWrite src v) s = .next (cmpCfgWrite v s) :=
  (act_busWrite src.code v h (by decide)).trans (congrArg _ (regEffect_cmpCfg ..))

theorem exec_cmpFlushAge (hs : s.supply.held = false) : exec (.cmpFlushAge n) s = .next (cmpAge n.val s) := act_live hs
theorem exec_cmpBlockStart (hs : s.supply.held = false) : exec (.cmpBlockStart n) s = .next (cmpStart n.val s) := act_live hs
theorem exec_cmpBlockCommit (hs : s.supply.held = false) : exec (.cmpBlockCommit n) s = .next (cmpCommit n.val s) := act_live hs

end

/-! ### Rules of the shared operations -/

/-- The compressor's shared registers stored leave every stream's compressor and every page. -/
@[simp] theorem cmp_setCmpc (s : State) (x : CmpCtl) (n : Nat) : State.cmp { s with cmpc := x } n = s.cmp n := rfl
@[simp] theorem page_setCmpc (s : State) (x : CmpCtl) (q : Nat) : State.page { s with cmpc := x } q = s.page q := rfl

theorem raise_cmp (p b : Nat) (s : State) (n : Nat) : (raise p b s).cmp n = s.cmp n := by simp

/-- A refusal names its reason and its stream, raises CMP_REJ and leaves every compressor. -/
theorem cmpRej_spec (n r : Nat) (s : State) : (cmpRej n r s).cmpc.rejReason = r ∧ (cmpRej n r s).cmpc.rejStream = n ∧
    (cmpRej n r s).cmps = s.cmps ∧ bit ((cmpRej n r s).page pCMP).stat 5 = true := by
  simp [cmpRej, raise_latched]

@[simp] theorem cmpRej_cmp (n r : Nat) (s : State) (m : Nat) : (cmpRej n r s).cmp m = s.cmp m := by simp [cmpRej]
@[simp] theorem cmpRej_str (n r : Nat) (s : State) (m : Nat) : (cmpRej n r s).str m = s.str m := by
  simp only [cmpRej, raise_reads]
  rfl

/-- The states that differ from `s` in the streams' accounts at most: compressors, headers and member sets are those of `s`. -/
def State.acctOf (s t : State) : Prop := t.cmps = s.cmps ∧ t.hdr = s.hdr ∧ ∀ m, (t.str m).memSets = (s.str m).memSets

theorem State.acctOf_refl (s : State) : s.acctOf s := ⟨rfl, rfl, fun _ => rfl⟩

theorem State.acctOf.trans {s t u : State} (h : s.acctOf t) (h' : t.acctOf u) : s.acctOf u := by
  obtain ⟨hc, hh, hm⟩ := h
  obtain ⟨hc', hh', hm'⟩ := h'
  exact ⟨hc'.trans hc, hh'.trans hh, fun m => (hm' m).trans (hm m)⟩

theorem State.acctOf.foldl {α : Type} {f : State → α → State} (hf : ∀ (t : State) x, t.acctOf (f t x)) (l : List α) (s : State) : s.acctOf (l.foldl f s) :=
  foldl_keeps s.acctOf f (fun t x h => h.trans (hf t x)) l s s.acctOf_refl

theorem setStr_acctOf {s : State} {n : Nat} {v : StrSt} (h : v.memSets = (s.str n).memSets) : s.acctOf (s.setStr n v) := by
  refine ⟨by simp, by simp, fun m => ?_⟩
  rw [State.str_setStr]
  split
  · subst m; exact h
  · rfl

theorem account_acctOf (n c k sec : Nat) (x : Acct) (s : State) : s.acctOf (account n c k sec x s) := setStr_acctOf rfl

theorem inqLost_acctOf (n : Nat) (i : CmpIn) (s : State) : s.acctOf (inqLost n i s) := by
  unfold inqLost
  split
  · exact setStr_acctOf rfl
  · exact account_acctOf ..

theorem State.acctOf.cmp {s t : State} (h : s.acctOf t) (m : Nat) : t.cmp m = s.cmp m := congrArg (tget cmp0 · m) h.1

theorem State.acctOf.membersAt {s t : State} (h : s.acctOf t) (m i : Nat) : membersAt (t.str m) i = membersAt (s.str m) i := by
  simp only [Machine.membersAt, h.2.2 m]

/-! ### The end of a block (R256, R269) -/

/-- A block that holds other words. -/
def CmpBlk.holding (b : CmpBlk) (words : List (List Word)) (came : List (List (Nat × Nat))) : CmpBlk := { b with words := words, came := came }

/-- A block cut to its first `c` indices. -/
def CmpBlk.cut (b : CmpBlk) (c : Nat) : CmpBlk := b.holding (b.words.map (List.take c)) (b.came.map (List.take c))

section
variable {s : State} {n c : Nat} {b : CmpBlk}

theorem cmpCut_none (h : (s.cmp n).blk = none) (c : Nat) (reset : Bool) : cmpCut n c reset s = s := by simp only [cmpCut, h]

/-- Cut after some index the block is ready, with the words of the indices before. -/
theorem cmpCut_some (h : (s.cmp n).blk = some b) (hc : c ≠ 0) (reset : Bool) : ∃ u inq, s.acctOf u ∧
    cmpCut n c reset s = u.setCmp n { s.cmp n with blk := some (b.cut c), ready := true, flushedEnd := decide (c < b.n), inq := inq, needReset := reset } := by
  simp only [cmpCut, h]
  exact ⟨_, _, .foldl (fun t i => inqLost_acctOf n i t) _ s, if_neg hc⟩

/-- Cut before its first index there is no block. -/
theorem cmpCut_zero (h : (s.cmp n).blk = some b) (reset : Bool) : ∃ u inq, s.acctOf u ∧
    cmpCut n 0 reset s = u.setCmp n { s.cmp n with blk := none, inq := inq, needReset := (s.cmp n).needReset || reset || b.reset,
                                                   needFirst := (s.cmp n).needFirst || b.firstFlag, needRestored := (s.cmp n).needRestored || b.restored } := by
  simp only [cmpCut, h]
  exact ⟨_, _, .foldl (fun t i => inqLost_acctOf n i t) _ s, if_pos trivial⟩

/-- A flush readies the open block at its last whole index. -/
theorem cmpFlush_cuts (h : (s.cmp n).blk = some b) (hr : (s.cmp n).ready = false) (hw : cmpWhole b ≠ 0) : let t := cmpFlush n s
    (t.cmp n).ready = true ∧ (t.cmp n).flushedEnd = decide (cmpWhole b < b.n) ∧ (t.cmp n).blk = some (b.cut (cmpWhole b)) ∧
    bit (t.page pCMP).stat 2 = true := by
  obtain ⟨u, inq, -, hcut⟩ := cmpCut_some h hw false
  have hflush : cmpFlush n s = raise pCMP 2 (cmpCut n (cmpWhole b) false s) := by simp [cmpFlush, h, hr, hw]
  simp [hflush, hcut, raise_latched]

theorem cmpFlush_still (h : (s.cmp n).blk = some b) (hn : (s.cmp n).ready = true ∨ cmpWhole b = 0) : cmpFlush n s = s := by
  simp only [cmpFlush, h]
  exact if_pos (by simpa using hn)

theorem cmpFlush_closed (h : (s.cmp n).blk = none) :
    cmpFlush n s = if (s.cmp n).waiting then s.setCmp n { s.cmp n with flushWait := some (inqWhole s n) } else s := by simp only [cmpFlush, h]

theorem cmpAge_due (h : (s.cmp n).blk = some b) (hf : (s.cmp n).cfg.flushMs ≠ 0) (ht : b.born + (s.cmp n).cfg.flushMs * 1000000 ≤ s.clk) :
    cmpAge n s = cmpFlush n s := by
  simp only [cmpAge, h]
  exact if_pos ⟨hf, decide_eq_true ht⟩

theorem cmpAge_not (h : (s.cmp n).blk = none ∨ (s.cmp n).cfg.flushMs = 0 ∨
    ∀ b, (s.cmp n).blk = some b → s.clk < b.born + (s.cmp n).cfg.flushMs * 1000000) : cmpAge n s = s := by
  cases hb : (s.cmp n).blk with
  | none => simp only [cmpAge, hb]
  | some b =>
    simp only [cmpAge, hb]
    refine if_neg fun ⟨hf, hp⟩ => ?_
    have hp : b.born + (s.cmp n).cfg.flushMs * 1000000 ≤ s.clk := of_decide_eq_true hp
    rcases h with h | h | h
    · simp [hb] at h
    · exact hf h
    · have := h b hb
      omega

end

/-! ### The start of a block (R256, R267) -/

/-- The first index that waits for one of a block's members. -/
def inqFirst (inq : List CmpIn) (ms : List Nat) (i : CmpIn) : Nat := minOver (·.k) i.k (inq.filter (fun x => decide (x.ctx ∈ ms)))

theorem inqFirst_le {inq : List CmpIn} {ms : List Nat} {i x : CmpIn} (hx : x ∈ inq) (hm : x.ctx ∈ ms) : inqFirst inq ms i ≤ x.k :=
  (minOver_le (·.k) _ _).2 x (by simp [hx, hm])

/-- Whether a block of the members `ms` that starts at index `first` resets its coders. -/
def cmpResets (c : CmpSt) (ms : List Nat) (first : Nat) : Bool :=
  c.needFirst || c.needReset || (decide (c.cfg.anchor ≠ 0) && decide (c.bseq % max c.cfg.anchor 1 = 0)) || decide (c.mems.length ≠ ms.length) ||
    (c.needRestored && decide (c.nextIdx < first))

/-- The block that starts on the waiting word `i`. -/
def cmpNewBlk (s : State) (n : Nat) (i : CmpIn) : CmpBlk :=
  let c := s.cmp n
  let ms := membersAt (s.str n) i.t
  let first := inqFirst c.inq ms i
  { n := cmpBlkLen c.cfg, mems := ms, grid := dGRID (s.ctx i.ctx).desc, sec := secOf i.t, pred := (cmpPreds c.cfg ms.length).1, first := first,
    reset := cmpResets c ms first, firstFlag := c.needFirst, restored := c.needRestored, words := ms.map (fun _ => []), born := s.clk, came := ms.map (fun _ => []) }

/-- Stream `n` with that block open. -/
def cmpOpened (s : State) (n : Nat) (i : CmpIn) : CmpSt :=
  let c := s.cmp n
  let b := cmpNewBlk s n i
  { c with waiting := false, blk := some b, needFirst := false, needReset := false, needRestored := false, lostK := c.lostK.filter (fun k => decide (b.first ≤ k)),
           mems := if b.reset then b.mems.map (fun _ => {}) else c.mems }

/-- The block is opened; a neighbour that cannot be used is refused. -/
def cmpOpen (n : Nat) (i : CmpIn) (s : State) : State :=
  let s1 := s.setCmp n (cmpOpened s n i)
  if (cmpPreds (s.cmp n).cfg (membersAt (s.str n) i.t).length).2 then cmpRej n 2 s1 else s1

/-- The flush kept while the stream waited acts on the block that started. -/
def cmpKeptFlush (n : Nat) (w : Option Nat) (s : State) : State :=
  match w, (s.cmp n).blk with
  | some k, some b =>
    let s1 := s.setCmp n { s.cmp n with flushWait := none }
    let e := min (cmpWhole b) (k - b.first)
    if (s.cmp n).ready ∨ e = 0 then s1 else raise pCMP 2 (cmpCut n e false s1)
  | _, _ => s

section
variable {s : State} {n : Nat} {i : CmpIn} {r : List CmpIn}

theorem cmpStart_idle (h : (s.cmp n).inq = [] ∨ (s.cmp n).blk.isSome ∨ (s.cmp n).suspended = true) : cmpStart n s = s := by
  cases hb : (s.cmp n).blk with
  | some b => simp only [cmpStart, hb]
  | none =>
    cases hi : (s.cmp n).inq with
    | nil => simp only [cmpStart, hb, hi]
    | cons i r =>
      have hs : (s.cmp n).suspended = true := by simpa [hb, hi] using h
      simp only [cmpStart, hb, hi, hs, if_true]

section
variable (hb : (s.cmp n).blk = none) (hi : (s.cmp n).inq = i :: r) (hs : (s.cmp n).suspended = false)
include hb hi hs

theorem cmpStart_waits (hroom : strRoom s n < cmpWorst s n (membersAt (s.str n) i.t).length) :
    cmpStart n s = if (s.cmp n).waiting then s else raise pCMP 0 (s.setCmp n { s.cmp n with waiting := true }) := by
  simp [cmpStart, hb, hi, hs, hroom]

theorem cmpStart_opens (hroom : cmpWorst s n (membersAt (s.str n) i.t).length ≤ strRoom s n) :
    cmpStart n s = cmpKeptFlush n (s.cmp n).flushWait (cmpSettle n (cmpTake n (cmpOpen n i s))) := by
  simp only [cmpStart, hb, hi]
  refine (if_neg (by simp [hs])).trans ((if_neg (by simpa using hroom)).trans ?_)
  simp only [cmpOpen, cmpOpened, cmpNewBlk, cmpResets, inqFirst, minOver, hi]
  rfl

end

theorem cmpOpen_cmp (n : Nat) (i : CmpIn) (s : State) : (cmpOpen n i s).cmp n = cmpOpened s n i := by
  unfold cmpOpen
  split <;> simp

theorem cmpOpen_str (n : Nat) (i : CmpIn) (s : State) (m : Nat) : (cmpOpen n i s).str m = s.str m := by
  unfold cmpOpen
  split <;> simp

/-- The words an open block takes leave the input queue; nothing else of its compressor changes. -/
theorem cmpTake_spec {b : CmpBlk} (h : (s.cmp n).blk = some b) : ∃ u p words came, s.acctOf u ∧
    cmpTake n s = u.setCmp n { s.cmp n with inq := (s.cmp n).inq.filter p, blk := some (b.holding words came) } := by
  have hacct : ∀ l : List CmpIn, s.acctOf (l.foldl (fun t i => account n i.ctx i.k (secOf i.t) (cmpAcct i) t) s) := fun l =>
    .foldl (fun t i => account_acctOf n i.ctx i.k (secOf i.t) (cmpAcct i) t) l s
  simp only [cmpTake, h, (hacct _).cmp]
  exact ⟨_, _, _, _, hacct _, rfl⟩

/-- What settling an open block can be: nothing, a full block made ready, or a cut at the limit. -/
theorem cmpSettle_cases {b : CmpBlk} (h : (s.cmp n).blk = some b) : cmpSettle n s = s ∨
    cmpSettle n s = s.setCmp n { s.cmp n with ready := true, flushedEnd := false } ∨
    (cmpLimit s n b < b.n ∧ cmpSettle n s = cmpCut n (cmpLimit s n b) true s) := by
  simp only [cmpSettle, h]
  split
  · exact .inl rfl
  · split
    · exact .inr (.inl rfl)
    · split
      case isTrue hcut => exact .inr (.inr ⟨of_decide_eq_true (Bool.and_eq_true_iff.1 hcut).1, rfl⟩)
      case isFalse => exact .inl rfl

/-- Without a lost index and with one member set among the words waiting, a block is bounded by BLK alone. -/
theorem cmpLimit_uncut {b : CmpBlk} (hl : (s.cmp n).lostK = []) (hm : ∀ x ∈ (s.cmp n).inq, membersAt (s.str n) x.t = b.mems) : cmpLimit s n b = b.n := by
  have hnone : (s.cmp n).inq.filter (fun i => decide (membersAt (s.str n) i.t ≠ b.mems)) = [] :=
    List.filter_eq_nil_iff.2 fun x hx => by simp [hm x hx]
  simp only [cmpLimit, hl, hnone]
  rfl

/-- A block that starts without a cut at hand stands open or ready, and its compressor is as opened. -/
theorem cmpSettle_opened (hl : (s.cmp n).lostK = []) (hm : ∀ x ∈ (s.cmp n).inq, membersAt (s.str n) x.t = membersAt (s.str n) i.t) :
    ∃ inq words came ready fl, (cmpSettle n (cmpTake n (cmpOpen n i s))).cmp n =
      { cmpOpened s n i with inq := inq, blk := some ((cmpNewBlk s n i).holding words came), ready := ready, flushedEnd := fl } := by
  have hopen := cmpOpen_cmp n i s
  obtain ⟨u, p, words, came, hacct, htake⟩ := cmpTake_spec (s := cmpOpen n i s) (n := n) (b := cmpNewBlk s n i) (by rw [hopen]; rfl)
  have htaken : (cmpTake n (cmpOpen n i s)).cmp n =
      { cmpOpened s n i with inq := (s.cmp n).inq.filter p, blk := some ((cmpNewBlk s n i).holding words came) } := by
    rw [htake, State.cmp_setCmp, if_pos rfl, hopen]
    rfl
  have hstr : ∀ t, membersAt ((cmpTake n (cmpOpen n i s)).str n) t = membersAt (s.str n) t := fun t => by
    rw [htake, ← cmpOpen_str n i s n, ← hacct.membersAt]
    simp
  have hlimit : cmpLimit (cmpTake n (cmpOpen n i s)) n ((cmpNewBlk s n i).holding words came) = (cmpNewBlk s n i).n := by
    refine cmpLimit_uncut ?_ fun x hx => ?_
    · rw [htaken]
      simp [cmpOpened, hl]
    · rw [htaken] at hx
      rw [hstr]
      exact hm x (List.mem_filter.1 hx).1
  rcases cmpSettle_cases (b := (cmpNewBlk s n i).holding words came) (congrArg (·.blk) htaken) with h | h | ⟨hlt, -⟩
  · exact ⟨_, words, came, (s.cmp n).ready, (s.cmp n).flushedEnd, h ▸ htaken⟩
  · refine ⟨(s.cmp n).inq.filter p, words, came, true, false, ?_⟩
    rw [h, State.cmp_setCmp, if_pos rfl, htaken]
  · rw [hlimit] at hlt
    exact absurd hlt (Nat.lt_irrefl _)

end

/-! ### What a start keeps -/

/-- From `s` to `t` stream `n` keeps BSEQ and its suspension, and what was latched stays latched. -/
structure CmpKept (n : Nat) (s t : State) : Prop where
  bseq : (t.cmp n).bseq = (s.cmp n).bseq
  suspended : (t.cmp n).suspended = (s.cmp n).suspended
  stat : ∀ q i, bit (s.page q).stat i = true → bit (t.page q).stat i = true

namespace CmpKept
variable {n : Nat} {s t u : State}

theorem refl (n : Nat) (s : State) : CmpKept n s s := ⟨rfl, rfl, fun _ _ => id⟩

theorem ofEq (h : t = s) : CmpKept n s t := h ▸ refl n s

theorem trans (h : CmpKept n s t) (h' : CmpKept n t u) : CmpKept n s u :=
  ⟨h'.bseq.trans h.bseq, h'.suspended.trans h.suspended, fun q i hq => h'.stat q i (h.stat q i hq)⟩

theorem raise (p b : Nat) (h : CmpKept n s t) : CmpKept n s (raise p b t) :=
  ⟨by simpa using h.bseq, by simpa using h.suspended, fun q i hq => raise_stat_mono p b t q i (h.stat q i hq)⟩

/-- A compressor stored with its old BSEQ and suspension, the accounts of other words apart. -/
theorem ofSetCmp {v : CmpSt} (h : s.acctOf u) (hb : v.bseq = (s.cmp n).bseq) (hs : v.suspended = (s.cmp n).suspended) : CmpKept n s (u.setCmp n v) := by
  refine ⟨by simpa using hb, by simpa using hs, fun q i hq => ?_⟩
  rw [State.setCmp_reads u n v q |>.2.1]
  simpa only [State.page, h.2.1] using hq

end CmpKept

theorem cmpCut_kept (n c : Nat) (reset : Bool) (s : State) : CmpKept n s (cmpCut n c reset s) := by
  cases hb : (s.cmp n).blk with
  | none => exact .ofEq (cmpCut_none hb c reset)
  | some b =>
    by_cases hc : c = 0
    · obtain ⟨u, inq, hacct, h⟩ := cmpCut_zero hb reset
      rw [hc, h]
      exact .ofSetCmp hacct rfl rfl
    · obtain ⟨u, inq, hacct, h⟩ := cmpCut_some hb hc reset
      rw [h]
      exact .ofSetCmp hacct rfl rfl

theorem cmpTake_kept (n : Nat) (s : State) : CmpKept n s (cmpTake n s) := by
  cases hb : (s.cmp n).blk with
  | none => exact .ofEq (by simp only [cmpTake, hb])
  | some b =>
    obtain ⟨u, p, words, came, hacct, h⟩ := cmpTake_spec hb
    rw [h]
    exact .ofSetCmp hacct rfl rfl

theorem cmpSettle_kept (n : Nat) (s : State) : CmpKept n s (cmpSettle n s) := by
  cases hb : (s.cmp n).blk with
  | none => exact .ofEq (by simp only [cmpSettle, hb])
  | some b =>
    rcases cmpSettle_cases hb with h | h | ⟨-, h⟩ <;> rw [h]
    · exact .refl n s
    · exact .ofSetCmp s.acctOf_refl rfl rfl
    · exact cmpCut_kept n _ true s

theorem cmpOpen_kept (n : Nat) (i : CmpIn) (s : State) : CmpKept n s (cmpOpen n i s) := by
  have h : CmpKept n s (s.setCmp n (cmpOpened s n i)) := .ofSetCmp s.acctOf_refl rfl rfl
  unfold cmpOpen
  split
  · exact h.trans (.raise pCMP 5 ⟨rfl, rfl, fun _ _ => id⟩)
  · exact h

theorem cmpKeptFlush_kept (n : Nat) (w : Option Nat) (s : State) : CmpKept n s (cmpKeptFlush n w s) := by
  have h : CmpKept n s (s.setCmp n { s.cmp n with flushWait := none }) := .ofSetCmp s.acctOf_refl rfl rfl
  unfold cmpKeptFlush
  split
  · dsimp only
    split
    · exact h
    · exact (h.trans (cmpCut_kept ..)).raise pCMP 2
  · exact .refl n s

theorem cmpStart_kept (n : Nat) (s : State) : CmpKept n s (cmpStart n s) := by
  by_cases hidle : (s.cmp n).inq = [] ∨ (s.cmp n).blk.isSome ∨ (s.cmp n).suspended = true
  · exact .ofEq (cmpStart_idle hidle)
  · obtain ⟨hi, hb, hs⟩ : (s.cmp n).inq ≠ [] ∧ (s.cmp n).blk = none ∧ (s.cmp n).suspended = false := by simpa using hidle
    obtain ⟨i, r, hi⟩ := List.exists_cons_of_ne_nil hi
    rcases Nat.lt_or_ge (strRoom s n) (cmpWorst s n (membersAt (s.str n) i.t).length) with hroom | hroom
    · rw [cmpStart_waits hb hi hs hroom]
      split
      · exact .refl n s
      · exact .raise pCMP 0 (.ofSetCmp s.acctOf_refl rfl rfl)
    · rw [cmpStart_opens hb hi hs hroom]
      exact (((cmpOpen_kept n i s).trans (cmpTake_kept n _)).trans (cmpSettle_kept n _)).trans (cmpKeptFlush_kept ..)

/-! ### The commit of a block (R264, R267) -/

section
variable {s : State} {n : Nat}

theorem cmpCommit_not (h : (s.cmp n).blk = none ∨ (s.cmp n).ready = false) : cmpCommit n s = s := by
  cases hb : (s.cmp n).blk with
  | none => simp only [cmpCommit, hb]
  | some b =>
    have hr : (s.cmp n).ready = false := by simpa [hb] using h
    simp only [cmpCommit, hb, hr, Bool.false_eq_true, if_false]

theorem cmpCommit_ready {b : CmpBlk} (hb : (s.cmp n).blk = some b) (hr : (s.cmp n).ready = true) : ∃ mems raws out, (cmpCommit n s).cmp n =
    { s.cmp n with mems := mems, bseq := ((s.cmp n).bseq + 1) % 2 ^ 16, blk := none, ready := false, flushedEnd := false,
                   nextIdx := b.first + (b.words.headD []).length, blocks := ((s.cmp n).blocks + 1) % 2 ^ 32, raws := raws,
                   inBytes := ((s.cmp n).inBytes + 4 * (b.words.headD []).length * b.mems.length) % 2 ^ 64, outBytes := out } := by
  simp only [cmpCommit, hb, hr, if_true, raiseIf_reads, State.cmp_setCmp]
  exact ⟨_, _, _, rfl⟩

end

/-! ### CMP_CFG (R255, R266) -/

/-- Whether the members of a stream keep it from compressing: more than four, or a second grid. -/
def cmpUnfit (s : State) (n : Nat) : Bool :=
  decide (4 < (s.members n).length) || (s.members n).any (fun x => decide (dGRID (s.ctx x).desc ≠ dGRID (s.ctx ((s.members n).headD 0)).desc))

theorem cmpUnfit_iff {s : State} {n : Nat} : cmpUnfit s n = true ↔
    4 < (s.members n).length ∨ ∃ c ∈ s.members n, dGRID (s.ctx c).desc ≠ dGRID (s.ctx ((s.members n).headD 0)).desc := by
  simp only [cmpUnfit, Bool.or_eq_true, List.any_eq_true, decide_eq_true_eq]

@[simp] theorem cmpUnfit_setCmp (s : State) (n m : Nat) (v : CmpSt) : cmpUnfit (s.setCmp m v) n = cmpUnfit s n := rfl

section
variable {s : State} {n : Nat} {v : Word}

/-- BLK and FLUSH_MS as a write of CMP_CFG sets them. -/
def CmpCfg.written (c : CmpCfg) (v : Word) : CmpCfg := { c with blk := fld v 28 16, flushMs := fld v 15 0 }

theorem cmpCfgWrite_same (hn : n = cmpSel_STREAM s) (h : bit v 31 = (s.cmp n).cfg.en) :
    cmpCfgWrite v s = s.setCmp n { s.cmp n with cfg := (s.cmp n).cfg.written v } := by
  subst hn
  cases hv : bit v 31 <;> simp [cmpCfgWrite, CmpCfg.written, hv, ← h]

theorem cmpCfgWrite_refused (hn : n = cmpSel_STREAM s) (hv : bit v 31 = true) (he : (s.cmp n).cfg.en = false) (hbad : cmpUnfit s n = true) :
    cmpCfgWrite v s = cmpRej n 1 (s.setCmp n { s.cmp n with cfg := (s.cmp n).cfg.written v }) := by
  subst hn
  exact (if_pos hv).trans ((if_neg (by simp [he])).trans (if_pos hbad))

theorem cmpCfgWrite_starts (hn : n = cmpSel_STREAM s) (hv : bit v 31 = true) (he : (s.cmp n).cfg.en = false) (hfit : cmpUnfit s n = false) :
    cmpCfgWrite v s = cmpMembers n (s.setCmp n { s.cmp n with cfg := { (s.cmp n).cfg.written v with en := true }, enAt := some s.st, needFirst := true }) := by
  subst hn
  exact (if_pos hv).trans ((if_neg (by simp [he])).trans (if_neg fun hbad => absurd (hfit.symm.trans hbad) Bool.false_ne_true))

/-- Members that fit leave a stream's compressor, the note of ignored change capture apart. -/
theorem cmpMembers_fit (hfit : cmpUnfit s n = false) : ∃ cc, (cmpMembers n s).cmp n = { s.cmp n with ccIgnored := cc } := by
  by_cases he : (s.cmp n).cfg.en = true
  · have hstays : cmpMembers n s = _ := (if_pos he).trans (if_neg fun hbad => absurd (hfit.symm.trans hbad) Bool.false_ne_true)
    simp only [hstays, raiseIf_reads, State.cmp_setCmp, if_true]
    exact ⟨_, rfl⟩
  · exact ⟨_, congrArg (State.cmp · n) (if_neg he)⟩

theorem cmpCfgWrite_off (hn : n = cmpSel_STREAM s) (hv : bit v 31 = false) : ((cmpCfgWrite v s).cmp n).cfg = { (s.cmp n).cfg.written v with en := false } := by
  cases he : (s.cmp n).cfg.en with
  | false =>
    rw [cmpCfgWrite_same hn (hv.trans he.symm)]
    simp [CmpCfg.written, he]
  | true =>
    subst hn
    simp [cmpCfgWrite, CmpCfg.written, hv, he]

end

/-! ### SAVE, RESTORE and RESUME (R272, R273) -/

section
variable {s : State} {n : Nat}

theorem cmpSave_suspended (h : (s.cmp n).suspended = true) : cmpSave n s = cmpRej n 4 s := if_pos h

theorem cmpSave_runs (h : (s.cmp n).suspended = false) : let t := cmpSave n s
    (t.cmp n).suspended = true ∧ t.cmpc.srcSaved = true ∧ t.cmpc.srcStream = n ∧ bit (t.page pCMP).stat 3 = true := by
  have hruns : cmpSave n s = _ := if_neg (by simp [h])
  rw [hruns]
  refine ⟨?susp, by simp, by simp, raise_latched _ _ _ (by decide)⟩
  case susp =>
    rw [raise_cmp, cmp_setCmpc]
    simp

/-- Whether the state window cannot be restored into a stream of `nm` members: its CRC, its form, or its count of members. -/
def cmpWindowBad (ws : List Word) (nm : Nat) : Prop :=
  ws.getD 15 0 ≠ crcWords (ws.take 15) ∨ fld (ws.getD 0 0) 31 28 ≠ 1 ∨ fld (ws.getD 0 0) 25 24 + 1 ≠ nm

theorem cmpRestore_running (h : (s.cmp n).suspended = false) : cmpRestore n s = cmpRej n 4 s := if_pos (by simp [h])

theorem cmpRestore_bad (h : (s.cmp n).suspended = true) (hw : cmpWindowBad s.cmpc.window (s.members n).length) : cmpRestore n s = cmpRej n 3 s :=
  (if_neg (by simp [h])).trans (if_pos hw)

/-- A sound window gives the stream its BSEQ; the block that may start on it keeps that, and CMP_RESTORED latched. -/
theorem cmpRestore_sound (h : (s.cmp n).suspended = true) (hw : ¬ cmpWindowBad s.cmpc.window (s.members n).length) : let t := cmpRestore n s
    (t.cmp n).suspended = false ∧ (t.cmp n).bseq = fld (s.cmpc.window.getD 0 0) 15 0 ∧ bit (t.page pCMP).stat 4 = true := by
  obtain ⟨u, heq, hsus, hseq, hstat⟩ : ∃ u, cmpRestore n s = cmpStart n u ∧ (u.cmp n).suspended = false ∧
      (u.cmp n).bseq = fld (s.cmpc.window.getD 0 0) 15 0 ∧ bit (u.page pCMP).stat 4 = true := by
    refine ⟨_, (if_neg (by simp [h])).trans (if_neg hw), ?_, ?_, raise_latched _ _ _ (by decide)⟩
    all_goals
      rw [raise_cmp, cmp_setCmpc,
        (State.acctOf.foldl (fun t (i : CmpIn) => account_acctOf n i.ctx i.k (secOf i.t) (.fill 0x01) t) _ _).cmp]
      simp
  have hk := cmpStart_kept n u
  rw [heq]
  exact ⟨hk.suspended.trans hsus, hk.bseq.trans hseq, hk.stat _ _ hstat⟩

theorem cmpResume_running (h : (s.cmp n).suspended = false) : cmpResume n s = cmpRej n 4 s := if_neg (by simp [h])

theorem cmpResume_suspended (h : (s.cmp n).suspended = true) : ((cmpResume n s).cmp n).suspended = false := by
  unfold cmpResume
  rw [if_pos h, (cmpStart_kept n _).suspended]
  simp

end

/-! ### The obligation -/

/-- Settles O38: a write of CMP_CFG by EN and the members, each command by the block and the suspension it finds, the flush by age as a flush, and a start
and a commit by the room and the block. -/
theorem compression : Obligations.Compression := by
  refine ⟨⟨fun s src v n h hn => ?cfg, fun s src n h => ?cmd, fun s n hs => ?age⟩, fun s n i r ms hs hb hi hsus hms => ?start, fun s n hs => ?still,
    fun s n b hs hb hr => ?commit⟩
  case cfg =>
    rw [exec_cmpCfgWrite h]
    refine ⟨fun hv he => ⟨fun hlen hgrid => ⟨_, rfl, ?fit⟩, fun hbad => ⟨_, rfl, ?unfit⟩⟩, fun hv => congrArg _ (cmpCfgWrite_same hn hv), fun hv => ⟨_, rfl, ?off⟩⟩
    case fit =>
      have hfit : cmpUnfit s n = false := by
        rw [← Bool.not_eq_true, cmpUnfit_iff]
        rintro (hlt | ⟨c, hc, hne⟩)
        · omega
        · exact hne (hgrid c hc)
      rw [cmpCfgWrite_starts hn hv he hfit]
      obtain ⟨cc, hcc⟩ := cmpMembers_fit (n := n) ((cmpUnfit_setCmp s n n _).trans hfit)
      rw [hcc]
      simp [CmpCfg.written]
    case unfit =>
      rw [cmpCfgWrite_refused hn hv he (cmpUnfit_iff.2 hbad)]
      obtain ⟨hreason, hstream, -, hstat⟩ := cmpRej_spec n 1 (s.setCmp n { s.cmp n with cfg := (s.cmp n).cfg.written v })
      exact ⟨by simp [CmpCfg.written, he], hreason, hstream, hstat⟩
    case off =>
      rw [cmpCfgWrite_off hn hv]
      exact ⟨rfl, rfl, rfl⟩
  case cmd =>
    rw [exec_cmpCmdFlush h, exec_cmpCmdSave h, exec_cmpCmdRestore h, exec_cmpCmdResume h]
    have hrej : ∀ r, (cmpRej n.val r s).cmpc.rejReason = r ∧ (cmpRej n.val r s).cmps = s.cmps ∧ bit ((cmpRej n.val r s).page pCMP).stat 5 = true := fun r => by
      obtain ⟨hreason, -, hcmps, hstat⟩ := cmpRej_spec n.val r s
      exact ⟨hreason, hcmps, hstat⟩
    refine ⟨fun b hb hr hw => ⟨_, rfl, cmpFlush_cuts hb hr hw⟩, fun b hb hn => congrArg _ (cmpFlush_still hb hn), fun hb hw => by simp [cmpFlush_closed hb, hw],
      fun hb hw => by simp [cmpFlush_closed hb, hw], fun hs => ⟨_, rfl, cmpSave_runs hs⟩, fun hs => ⟨_, congrArg _ (cmpSave_suspended hs), hrej 4⟩,
      fun hs hcrc hform hnm => ⟨_, rfl, cmpRestore_sound hs ?sound⟩, fun hs hbad => ⟨_, congrArg _ (cmpRestore_bad hs hbad), hrej 3⟩,
      fun hs => ⟨_, rfl, cmpResume_suspended hs⟩,
      fun hs => ⟨⟨_, congrArg _ (cmpResume_running hs), hrej 4⟩, ⟨_, congrArg _ (cmpRestore_running hs), hrej 4⟩⟩⟩
    case sound =>
      rintro (hne | hne | hne)
      · exact hne hcrc
      · exact hne hform
      · exact hne hnm
  case age =>
    rw [exec_cmpFlushAge hs]
    refine ⟨fun b hb hr hw hf ht => ⟨_, congrArg _ (cmpAge_due hb hf ht), ?_⟩, fun hnot => congrArg _ (cmpAge_not hnot)⟩
    obtain ⟨hready, -, hblk, hstat⟩ := cmpFlush_cuts hb hr hw
    exact ⟨hready, hblk, hstat⟩
  case start =>
    subst hms
    rw [exec_cmpBlockStart hs]
    refine ⟨fun hroom => ⟨_, congrArg _ (cmpStart_waits hb hi hsus hroom), ?waits⟩, fun hroom hflush hlost hone => ?opens⟩
    case waits =>
      cases hw : (s.cmp n.val).waiting <;> simp [hb, hw, raise_latched]
    case opens =>
      obtain ⟨inq, words, came, ready, fl, hcmp⟩ := cmpSettle_opened (n := n.val) (i := i) hlost hone
      refine ⟨_, (cmpNewBlk s n.val i).holding words came, congrArg _ (cmpStart_opens hb hi hsus hroom), ?_⟩
      rw [hflush, show ∀ t, cmpKeptFlush n.val none t = t from fun _ => rfl, hcmp]
      exact ⟨rfl, rfl, rfl, rfl, rfl, rfl, fun x hx hm => inqFirst_le hx hm, rfl, rfl, rfl⟩
  case still =>
    rw [exec_cmpBlockStart hs, exec_cmpBlockCommit hs]
    exact ⟨fun hidle => congrArg _ (cmpStart_idle hidle), fun hnot => congrArg _ (cmpCommit_not hnot)⟩
  case commit =>
    rw [exec_cmpBlockCommit hs]
    obtain ⟨mems, raws, out, hcmp⟩ := cmpCommit_ready hb hr
    refine ⟨_, rfl, ?_⟩
    rw [hcmp]
    exact ⟨rfl, rfl, rfl, rfl, rfl, rfl⟩

end Sys2Proof.Machine
end

section
/-! SUPPORT. Streams: QUE_CMD, what the ledger and a closing packet leave of a stream, and the age of an open packet (R278 to R289). -/

namespace Sys2Proof.Machine

/-! ### QUE_CMD -/

/-- What OP of QUE_CMD asks of a stream. -/
def queOp (op n : Nat) (s : State) : State :=
  if op = 1 then queStart n s
  else if op = 2 then queStop n s
  else if op = 3 then queDrop n s
  else if op = 4 then queRewind n s
  else if op = 5 then queFree n s
  else s

theorem regEffect_queCmd (src : Nat) (v : Word) (s : State) : regEffect src 0x13120 v s = queOp (fld v 18 16) (fld v 6 0) s := rfl

section
variable {s : State} {src : Src} {n : Fin 128}

/-- QUE_CMD has its fields where CMP_CMD has them. -/
theorem act_queCmd (op : Fin 8) (h : s.reaches 0x13120) :
    act (busWrite src.code 0x13120 (word (op.val * 2 ^ 16 + n.val))) s = .next (queOp op.val n.val s) := by
  obtain ⟨hop, hn⟩ := cmpCmdWord op n
  rw [act_busWrite src.code _ h (by decide), regEffect_queCmd, hop, hn]

theorem exec_queCmdStart (h : s.reaches 0x13120) : exec (.queCmdStart src n) s = .next (queStart n.val s) := act_queCmd 1 h
theorem exec_queCmdStop (h : s.reaches 0x13120) : exec (.queCmdStop src n) s = .next (queStop n.val s) := act_queCmd 2 h
theorem exec_queCmdDrop (h : s.reaches 0x13120) : exec (.queCmdDrop src n) s = .next (queDrop n.val s) := act_queCmd 3 h
theorem exec_queCmdRewind (h : s.reaches 0x13120) : exec (.queCmdRewind src n) s = .next (queRewind n.val s) := act_queCmd 4 h
theorem exec_queCmdFree (h : s.reaches 0x13120) : exec (.queCmdFree src n) s = .next (queFree n.val s) := act_queCmd 5 h

theorem exec_pktAgeExpiry (hs : s.supply.held = false) : exec (.pktAgeExpiry n) s = .next (pktAge n.val s) := act_live hs

end

/-! ### What the ledger and the region's words leave of the streams -/

theorem State.str_congr {s t : State} (h : t.strs = s.strs) (m : Nat) : t.str m = s.str m := congrArg (tget str0 · m) h

theorem setDramW_strs (s : State) (a : Nat) (w : Word) : (s.setDramW a w).strs = s.strs := by simp [State.setDramW, State.healBeat]

@[simp] theorem setDramWs_strs (s : State) (a : Nat) (ws : List Word) : (s.setDramWs a ws).strs = s.strs :=
  foldl_keeps (fun t => t.strs = s.strs) _ (fun t _ ht => (setDramW_strs t _ _).trans ht) _ s rfl

@[simp] theorem ledgerRing_strs (e : List Word) (s : State) : (ledgerRing e s).strs = s.strs := by
  unfold ledgerRing
  dsimp only
  split <;> simp

@[simp] theorem ledgerNow_strs (body : List Word) (s : State) : (ledgerNow body s).strs = s.strs := by
  unfold ledgerNow
  dsimp only
  split
  · split <;> simp
  · simp

@[simp] theorem ledgerPut_strs (body : List Word) (s : State) : (ledgerPut body s).strs = s.strs := by
  unfold ledgerPut
  split
  · rfl
  · simp [ledgerSignal]

@[simp] theorem rangeEntry_str (n reason first last words nmem : Nat) (s : State) (m : Nat) : (rangeEntry n reason first last words nmem s).str m = s.str m :=
  State.str_congr (ledgerPut_strs _ s) m

@[simp] theorem putRing_str (base r : Nat) (m : Nat) : ∀ (ws : List Word) (ofs : Nat) (s : State), (putRing base r ofs ws s).str m = s.str m
  | [], _, _ => rfl
  | _ :: ws, _, s => (putRing_str base r m ws _ _).trans (State.str_congr (setDramW_strs s _ _) m)

/-! ### What closing a packet leaves of its stream (R282, R284, R289) -/

/-- Streams that differ in their closed packets, the place and number of the next one, and the GAP owed at most. -/
def StrSt.requeued (a b : StrSt) : Prop := ∃ pkts pseq wrOfs gap, b = { a with pkts := pkts, pseq := pseq, wrOfs := wrOfs, gapNext := gap }

theorem StrSt.requeued.refl (a : StrSt) : a.requeued a := ⟨_, _, _, _, rfl⟩

theorem StrSt.requeued.trans {a b c : StrSt} (h : a.requeued b) (h' : b.requeued c) : a.requeued c := by
  obtain ⟨_, _, _, _, rfl⟩ := h
  obtain ⟨_, _, _, _, rfl⟩ := h'
  exact ⟨_, _, _, _, rfl⟩

section
variable (n : Nat) (p : Pkt) (s : State)

theorem overwritten_requeued : (s.str n).requeued ((overwritten n p s).str n) := by
  have hgap : (s.str n).requeued { s.str n with gapNext := true } := ⟨_, _, _, _, rfl⟩
  unfold overwritten
  split
  · exact .refl _
  · dsimp only
    split <;> simpa using hgap

theorem overwritten_foldl_requeued (gone : List Pkt) : (s.str n).requeued ((gone.foldl (fun t q => overwritten n q t) s).str n) :=
  foldl_keeps (fun t => (s.str n).requeued (t.str n)) _ (fun t q h => h.trans (overwritten_requeued n q t)) gone s (.refl _)

/-- A packet is put into the reserve, into the region or, without room, nowhere. -/
theorem placePkt_requeued (ws : List Word) : (s.str n).requeued ((placePkt n p ws s).str n) := by
  have hstored : ∀ (gone kept : List Pkt) (u : State) q w g, (∀ m, u.str m = (gone.foldl (fun t q => overwritten n q t) s).str m) →
      (s.str n).requeued { u.str n with pkts := kept, pseq := q, wrOfs := w, gapNext := g } := fun gone kept u q w g hu => by
    rw [hu]
    exact (overwritten_foldl_requeued n s gone).trans ⟨_, _, _, _, rfl⟩
  have hlost : ∀ q, (s.str n).requeued { s.str n with pseq := q, gapNext := true } := fun q => ⟨_, _, _, _, rfl⟩
  unfold placePkt
  simp only [raiseIf_reads]
  split
  case isTrue =>
    split <;> rw [State.str_setStr, if_pos rfl]
    · exact hstored _ _ _ _ _ _ fun _ => rfl
    · exact hlost _
  case isFalse =>
    split
    · exact .refl _
    · split <;> rw [State.str_setStr, if_pos rfl]
      · exact hlost _
      · exact hstored _ _ _ _ _ _ fun _ => putRing_str ..

theorem notePkt_requeued (first last grid sec nmem : Nat) (notes : List (List Word)) : (s.str n).requeued ((notePkt n first last grid sec nmem notes s).str n) := by
  unfold notePkt
  split
  · exact .refl _
  · exact placePkt_requeued ..

/-- A close leaves the stream without an open packet, and else only queues. -/
theorem closePkt_requeued (last : Bool) : ({ s.str n with openPkt := none } : StrSt).requeued ((closePkt n last s).str n) := by
  unfold closePkt
  split
  case h_1 hnone => rw [← hnone]; exact .refl _
  case h_2 o ho =>
    have hnotes := notePkt_requeued n (s.setStr n { s.str n with openPkt := none }) o.noteFirst o.last o.grid o.sec o.mems.length o.notes
    rw [State.str_setStr, if_pos rfl] at hnotes
    exact hnotes.trans (placePkt_requeued ..)

end

/-! ### Starting (R278) -/

section
variable {s : State} {n : Nat}

/-- A refusal names its reason and its stream, raises QUE_START_REJ and leaves every stream. -/
theorem queRej_spec (n r : Nat) (s : State) : let t := queRej n r s
    t.store.queRejReason = r ∧ t.store.queRejStream = n ∧ t.strs = s.strs ∧ bit (t.page pQUE).stat 1 = true := by
  simp [queRej, raise_latched]

/-- A start that is not refused has a place. -/
theorem strPlace_of_accepted (h : strRej s n = none) : ∃ a, strPlace s n (strRead s n).pages = some a := by
  unfold strRej at h
  dsimp only at h
  split_ifs at h with _ _ _ _ _ hplace
  exact Option.ne_none_iff_exists'.1 (by simpa using hplace)

theorem queStart_accepted {a : Nat} (h : strRej s n = none) (ha : strPlace s n (strRead s n).pages = some a) : queStart n s = s.setStr n
    { run := true, region := some (a, (strRead s n).pages), desc := strRead s n, startAt := s.st + usU, memSets := [(0, s.members n)] } := by
  simp only [queStart, h, ha]
  rfl

theorem queStart_refused {r : Nat} (h : strRej s n = some r) : queStart n s = queRej n r s := by simp only [queStart, h]

end

/-! ### Stopping and freeing (R279) -/

section
variable {s : State} {n : Nat}

/-- The end of a stream: nothing runs or is open, its end stands, and QUE_STOPPED is latched. -/
theorem finishStream_spec (n : Nat) (s : State) : let t := finishStream n s
    (t.str n).run = false ∧ (t.str n).openPkt = none ∧ (t.str n).stopAt = (s.str n).stopAt ∧ bit (t.page pQUE).stat 5 = true := by
  obtain ⟨_, _, _, _, hclosed⟩ := closePkt_requeued n s true
  simp [finishStream, hclosed, raise_latched]

theorem strSettle_cases (n : Nat) (s : State) : strSettle n s = s ∨ strSettle n s = finishStream n s := by
  unfold strSettle
  dsimp only
  split
  · exact .inl rfl
  · split
    · exact .inr rfl
    · exact .inl rfl

/-- STOP of a running stream sets its end; a stream that ends with it has closed its packet and raised QUE_STOPPED. -/
theorem queStop_runs (hr : (s.str n).run = true) (hu : (s.str n).stopAt = none) : let t := queStop n s
    (t.str n).stopAt = some (s.st + usU) ∧ ((t.str n).run = false → bit (t.page pQUE).stat 5 = true ∧ (t.str n).openPkt = none) := by
  have hstop : queStop n s = strSettle n (s.setStr n { s.str n with stopAt := some (s.st + usU) }) := if_pos (by simp [hr, hu])
  rcases strSettle_cases n (s.setStr n { s.str n with stopAt := some (s.st + usU) }) with h | h <;> rw [hstop, h]
  · simp [hr]
  · obtain ⟨-, hopen, hend, hstat⟩ := finishStream_spec n (s.setStr n { s.str n with stopAt := some (s.st + usU) })
    exact ⟨by simpa using hend, fun _ => ⟨hstat, hopen⟩⟩

theorem queStop_not (h : (s.str n).run = false ∨ (s.str n).stopAt.isSome) : queStop n s = s := by
  refine if_neg fun ⟨hr, hu⟩ => ?_
  rcases h with h | h
  · simp [hr] at h
  · simp [Option.isNone_iff_eq_none.1 hu] at h

theorem queFree_stopped (h : (s.str n).run = false) :
    queFree n s = s.setStr n { s.str n with region := none, pkts := [], reading := none, wrOfs := 0, gapNext := false } := if_neg (by simp [h])

theorem queFree_running (h : (s.str n).run = true) : queFree n s = queRej n 6 s := if_pos h

end

/-! ### The head moved by software (R287, R288) -/

section
variable {s : State} {n : Nat}

/-- Marked as read, every packet of the number is. -/
theorem modPkt_markRead (n q : Nat) (s : State) : ∀ x ∈ ((modPkt n q (fun p => { p with isRead := true }) s).str n).pkts, x.pseq = q → x.isRead = true := by
  simp only [modPkt, State.str_setStr, if_true, List.forall_mem_map]
  intro p _
  by_cases hp : p.pseq = q <;> simp [hp]

theorem queDrop_idle (h : (s.str n).reading = none) : queDrop n s = s := by simp only [queDrop, h]

/-- DROP of a packet being read marks it read and owes GAP; its range entry leaves the stream. -/
theorem queDrop_reading {q i : Nat} (h : (s.str n).reading = some (q, i)) : let t := queDrop n s
    (t.str n).reading = none ∧ (t.str n).gapNext = true ∧ (∀ p ∈ (t.str n).pkts, p.pseq = q → p.isRead = true) ∧ bit (t.page pQUE).stat 2 = true := by
  obtain ⟨u, heq, hu⟩ : ∃ u, queDrop n s = raise pQUE 2 u ∧
      u.str n = (modPkt n q (fun p => { p with isRead := true }) (s.setStr n { s.str n with reading := none, gapNext := true })).str n := by
    simp only [queDrop, h]
    split
    · exact ⟨_, rfl, rangeEntry_str ..⟩
    · exact ⟨_, rfl, rfl⟩
  rw [heq]
  refine ⟨by simp [hu, modPkt], by simp [hu, modPkt], ?marked, raise_latched _ _ _ (by decide)⟩
  case marked =>
    simp only [raise_reads, hu]
    exact modPkt_markRead n q _

/-- A packet that is still to be read. -/
def Pkt.unread (p : Pkt) : Bool := !p.isRead

theorem replayFrom_length (p : Pkt → Bool) (r : Option (Nat × Nat)) : ∀ l : List Pkt, (replayFrom p r l).length = l.length
  | [] => rfl
  | x :: t => by
    unfold replayFrom
    split
    · simp
    · simp [replayFrom_length p r t]

/-- From the first packet that meets `p` on, every packet is to be read. -/
theorem replayFrom_unread (p : Pkt → Bool) (r : Option (Nat × Nat)) (l : List Pkt) : ∀ k : Nat, (∀ j < k, l[j]?.any p = false) → l[k]?.any p = true →
    ∀ j, k ≤ j → (replayFrom p r l)[j]?.all Pkt.unread = true := by
  induction l with
  | nil => simp [replayFrom]
  | cons x t ih =>
    intro k hbefore hk j hj
    unfold replayFrom
    split
    case isTrue =>
      have hread : ∀ (c : Bool) (y : Pkt), (y.isRead = true → c = true) → (if c then { y with isRead := false, replay := true } else y).unread = true := by
        intro c y hc
        cases c <;> simp_all [Pkt.unread]
      rw [List.getElem?_map]
      cases (x :: t)[j]? with
      | none => rfl
      | some y => exact hread _ y fun hy => by simp [hy]
    case isFalse hx =>
      cases k with
      | zero => simp [hx] at hk
      | succ k =>
        obtain ⟨j, rfl⟩ := Nat.exists_eq_succ_of_ne_zero (by omega : j ≠ 0)
        exact ih k (fun i hi => by simpa using hbefore (i + 1) (by omega)) (by simpa using hk) j (by omega)

theorem gapOldest_length (l : List Pkt) : (gapOldest l).length = l.length := by cases l <;> rfl

theorem gapOldest_unread (l : List Pkt) (j : Nat) : (gapOldest l)[j]?.all Pkt.unread = l[j]?.all Pkt.unread := by
  cases l with
  | nil => rfl
  | cons x t => cases j <;> rfl

/-- Whether a packet reaches index `idx`. -/
def Pkt.reaches (idx : Nat) (p : Pkt) : Bool := decide (idx ≤ p.last)

theorem queRewind_none {idx : Nat} (hidx : idx = queRewindLo_IDX s + 2 ^ 32 * queRewindHi_IDX s) (h : ∀ p ∈ (s.str n).pkts, p.last < idx) : queRewind n s = s := by
  subst hidx
  exact if_neg (by simpa using h)

/-- REWIND to an index that some packet reaches: the packets stay in their order and number, and from the first that reaches it on they are to be read. -/
theorem queRewind_some {idx : Nat} (hidx : idx = queRewindLo_IDX s + 2 ^ 32 * queRewindHi_IDX s) (h : ∃ p ∈ (s.str n).pkts, idx ≤ p.last) : let t := queRewind n s
    (t.str n).reading = none ∧ (t.str n).pkts.length = (s.str n).pkts.length ∧
    ∀ k : Nat, (∀ j < k, (s.str n).pkts[j]?.any (Pkt.reaches idx) = false) → (s.str n).pkts[k]?.any (Pkt.reaches idx) = true →
      ∀ j, k ≤ j → (t.str n).pkts[j]?.all Pkt.unread = true := by
  obtain ⟨older, heq⟩ : ∃ older : Bool, (queRewind n s).str n = { s.str n with
      pkts := if older then gapOldest (replayFrom (Pkt.reaches idx) (s.str n).reading (s.str n).pkts) else replayFrom (Pkt.reaches idx) (s.str n).reading (s.str n).pkts,
      reading := none } := by
    subst hidx
    have hany : (s.str n).pkts.any (fun p => decide (queRewindLo_IDX s + 2 ^ 32 * queRewindHi_IDX s ≤ p.last)) = true := by simpa using h
    simp only [queRewind, hany, if_true, raiseIf_reads, State.str_setStr]
    exact ⟨_, rfl⟩
  have hunread := replayFrom_unread (Pkt.reaches idx) (s.str n).reading (s.str n).pkts
  dsimp only
  rw [heq]
  cases older
  · exact ⟨rfl, replayFrom_length .., hunread⟩
  · exact ⟨rfl, (gapOldest_length _).trans (replayFrom_length ..), fun k hb hk j hj => (gapOldest_unread ..).trans (hunread k hb hk j hj)⟩

end

/-! ### The age of an open packet (R282) -/

section
variable {s : State} {n : Nat}

theorem pktAge_due {o : OpenPkt} (ho : (s.str n).openPkt = some o) (hf : o.fmt ≤ 3) (ha : (s.str n).desc.ageMs ≠ 0)
    (ht : o.opened + (s.str n).desc.ageMs * 1000000 ≤ s.clk) : pktAge n s = closePkt n false s := by
  simp only [pktAge, ho]
  exact if_pos ⟨ha, hf, ht⟩

theorem pktAge_not (h : (s.str n).openPkt = none ∨ (s.str n).desc.ageMs = 0 ∨
    ∃ o, (s.str n).openPkt = some o ∧ (3 < o.fmt ∨ s.clk < o.opened + (s.str n).desc.ageMs * 1000000)) : pktAge n s = s := by
  cases ho : (s.str n).openPkt with
  | none => simp only [pktAge, ho]
  | some o =>
    simp only [pktAge, ho]
    refine if_neg fun ⟨ha, hf, ht⟩ => ?_
    rcases h with h | h | ⟨o', ho', h⟩
    · simp [ho] at h
    · exact ha h
    · obtain rfl : o = o' := Option.some.inj (ho.symm.trans ho')
      omega

end

/-! ### The statement -/

/-- Settles O39: START by the reason strRej gives, STOP and FREE by RUN, DROP and REWIND by the packets, and the age by the open packet's own. -/
theorem streamControl : Obligations.StreamControl := by
  refine ⟨fun s src n h => ?cmd, fun s n o hs ho hf ha ht => ?due, fun s n hs hnot => ?not⟩
  case cmd =>
    rw [exec_queCmdStart h, exec_queCmdStop h, exec_queCmdDrop h, exec_queCmdRewind h, exec_queCmdFree h]
    refine ⟨fun hacc => ?start, fun r hrej => ⟨_, congrArg _ (queStart_refused hrej), queRej_spec n.val r s⟩, fun hr hu => ⟨_, rfl, queStop_runs hr hu⟩,
      fun hnot => congrArg _ (queStop_not hnot), fun q i hq => ⟨_, rfl, queDrop_reading hq⟩, fun hq => congrArg _ (queDrop_idle hq),
      fun idx hidx => ⟨fun hreach => ⟨_, rfl, ?rewind⟩, fun hnone => congrArg _ (queRewind_none hidx hnone)⟩,
      fun hr => congrArg _ (queFree_stopped hr), fun hr => ⟨_, congrArg _ (queFree_running hr), ?busy⟩⟩
    case start =>
      obtain ⟨a, ha⟩ := strPlace_of_accepted hacc
      exact ⟨a, ha, congrArg _ (queStart_accepted hacc ha)⟩
    case rewind =>
      obtain ⟨hreading, hlen, hunread⟩ := queRewind_some hidx hreach
      exact ⟨hreading, hlen, fun k _ hbefore hk => hunread k hbefore hk⟩
    case busy =>
      obtain ⟨hreason, -, hstrs, hstat⟩ := queRej_spec n.val 6 s
      exact ⟨hreason, hstrs, hstat⟩
  case due =>
    rw [exec_pktAgeExpiry hs, pktAge_due ho hf ha ht]
    obtain ⟨_, _, _, _, hclosed⟩ := closePkt_requeued n.val s false
    refine ⟨_, rfl, ?_⟩
    rw [hclosed]
    exact ⟨rfl, rfl, rfl⟩
  case not =>
    rw [exec_pktAgeExpiry hs, pktAge_not hnot]

end Sys2Proof.Machine
end

section
/-! SUPPORT. The store: the head's words, the partitions, the store's words, record transfers and the second entries (R284, R292, R293, R295). -/

namespace Sys2Proof.Machine

/-! ### The registers of the QUE and STORE pages -/

/-- The fields of a word of STORE_XFER: the link layer and the record's slot. -/
theorem storeXferWord (l : Fin 8) (k : Fin 256) : let v := word (l.val * 2 ^ 16 + k.val)
    fld v 18 16 = l.val ∧ fld v 7 0 = k.val := by
  have hlt : l.val * 2 ^ 16 + k.val < 2 ^ 32 := by omega
  simp only [fld, nfld, word, BitVec.toNat_ofNat, Nat.mod_eq_of_lt hlt, Nat.shiftRight_eq_div_pow]
  omega

theorem regEffect_storeXfer (src : Nat) (v : Word) (s : State) : regEffect src 0x1412C v s = storeXfer (fld v 18 16) (fld v 7 0) s := rfl

section
variable {s : State} {src : Src}

theorem exec_queRdRead (h : s.reaches 0x13118) : exec (.queRdRead src) s = .next (queRead s) :=
  (act_live h.1).trans (congrArg _ (busRead_reg src.code 0x13118 s h.2))

theorem exec_storePartCmdApply (h : s.reaches 0x1410C) : exec (.storePartCmdApply src) s = .next (partApply s) :=
  act_busWrite src.code 1 h (by decide)

theorem exec_storeRdDataRead (h : s.reaches 0x14128) : exec (.storeRdDataRead src) s = .next (rdData src.code s) :=
  (act_live h.1).trans (congrArg _ (busRead_reg src.code 0x14128 s h.2))

theorem exec_storeXfer {l : Fin 8} {k : Fin 256} (h : s.reaches 0x1412C) : exec (.storeXfer src l k) s = .next (storeXfer l.val k.val s) := by
  obtain ⟨hl, hk⟩ := storeXferWord l k
  refine (act_busWrite src.code _ h (by decide)).trans (congrArg _ ?_)
  rw [regEffect_storeXfer, hl, hk]

theorem exec_ledgerSecondWrite {n : Fin 128} (hs : s.supply.held = false) : exec (.ledgerSecondWrite n) s = .next (ledgerSecond n.val s) := act_live hs

end

/-! ### The head's words (R284) -/

/-- The state in which a read of stream `n`'s head finds its packet: the next one is begun where none is. -/
def headBegun (n : Nat) (s : State) : State := if (s.str n).reading = none then beginPkt n (s.str n).pkts.length s else s

/-- The head has answered word `i` of the `len` words of packet `q`: it moves on, and past the last word the packet is read. -/
def headMoved (n q i len : Nat) (s : State) : State :=
  if i + 1 < len then s.setStr n { s.str n with reading := some (q, i + 1) }
  else modPkt n q (fun p => { p with isRead := true }) (s.setStr n { s.str n with reading := none })

section
variable {s : State} {n : Nat}

theorem takeWord_none (h : ((headBegun n s).str n).reading = none) : takeWord n s = (none, headBegun n s) := by
  simp only [takeWord, Option.isNone_iff_eq_none]
  rw [headBegun] at h ⊢
  simp only [h]

theorem takeWord_some {q i : Nat} {p : Pkt} {ws : List Word} (hr : ((headBegun n s).str n).reading = some (q, i))
    (hp : ((headBegun n s).str n).pkts.find? (fun p => decide (p.pseq = q)) = some p) (hw : deliverPkt (headBegun n s) n p = some ws) :
    takeWord n s = (some (ws.getD i 0), headMoved n q i ws.length (headBegun n s)) := by
  simp only [takeWord, Option.isNone_iff_eq_none]
  rw [headBegun] at hr hp hw ⊢
  simp only [hr, hp, hw]
  rfl

theorem queRead_other (hn : n = queSel_STREAM s) (h : (s.str n).desc.consumer ≠ 3) : queRead s = s.answer 0 := by
  subst hn
  exact if_neg h

theorem queRead_none (hn : n = queSel_STREAM s) (hc : (s.str n).desc.consumer = 3) (h : ((headBegun n s).str n).reading = none) :
    queRead s = (headBegun n s).answer 0 := by
  subst hn
  simp only [queRead, if_pos hc, takeWord_none h, Option.getD_none]

theorem queRead_word (hn : n = queSel_STREAM s) (hc : (s.str n).desc.consumer = 3) {q i : Nat} {p : Pkt} {ws : List Word}
    (hr : ((headBegun n s).str n).reading = some (q, i)) (hp : ((headBegun n s).str n).pkts.find? (fun p => decide (p.pseq = q)) = some p)
    (hw : deliverPkt (headBegun n s) n p = some ws) : queRead s = (headMoved n q i ws.length (headBegun n s)).answer (ws.getD i 0) := by
  subst hn
  simp only [queRead, if_pos hc, takeWord_some hr hp hw, Option.getD_some]

theorem headMoved_kept (n q i len : Nat) (s : State) : (headMoved n q i len s).dramMem = s.dramMem ∧ (headMoved n q i len s).regs = s.regs := by
  unfold headMoved
  split <;> simp [modPkt]

theorem headMoved_inside {q i len : Nat} (h : i + 1 < len) : ((headMoved n q i len s).str n).reading = some (q, i + 1) ∧
    ((headMoved n q i len s).str n).pkts = (s.str n).pkts := by
  simp [headMoved, h]

theorem headMoved_past {q i len : Nat} (h : len ≤ i + 1) : ((headMoved n q i len s).str n).reading = none ∧
    ∀ x ∈ ((headMoved n q i len s).str n).pkts, x.pseq = q → x.isRead = true := by
  have hpast : headMoved n q i len s = _ := if_neg (Nat.not_lt.2 h)
  rw [hpast]
  exact ⟨by simp [modPkt], modPkt_markRead n q _⟩

end

/-! ### The partitions (R292) -/

section
variable {s : State}

/-- What bars an APPLY: a stream that runs or holds a region, a record, or sizes beyond the memory. -/
def partBarred (s : State) : Prop :=
  (∃ x ∈ s.strs, x.2.run = true ∨ x.2.region.isSome) ∨ recKeys s ≠ [] ∨ s.dram.cap < storeLivePages_PAGES s + storeRecPages_PAGES s + storeLdgPages_PAGES s

theorem partApply_refused (h : partBarred s) : partApply s = raise pSTORE 4 s := if_pos (by simpa [partBarred] using h)

theorem partApply_taken (h : ¬ partBarred s) : partApply s = { s with store := { s.store with
    applied := true, live := storeLivePages_PAGES s, recPages := storeRecPages_PAGES s, ldg := storeLdgPages_PAGES s,
    lgLost := min (2 ^ 32 - 1) (s.store.lgLost + ledgerUnread s), lgRd := s.store.lgWr, lgOfs := 0, lgHeld := 0 } } :=
  if_neg fun hb => h (by simpa [partBarred] using hb)

end

/-! ### The store's words (R293) -/

/-- The byte address in STORE_RD_ADDR. -/
def rdAddr (s : State) : Nat := storeRdAddrLo_ADDR s * 4 + storeRdAddrHi_ADDR s * 2 ^ 32

/-- The address is read back modulo 2^34, after whatever leaves the registers. -/
theorem rdAddr_advance {s t : State} {a : Nat} (ha : 4 ∣ a) (h : t.regs = (rdAdvance a s).regs) : rdAddr t = (a + 4) % 2 ^ 34 := by
  have hrw : ∀ m, t.rw m = (rdAdvance a s).rw m := fun m => congrArg (tget regReset · m) h
  have hne : storeRdAddrLoAt ≠ storeRdAddrHiAt := by decide
  simp only [rdAddr, storeRdAddrLo_ADDR, storeRdAddrHi_ADDR, hrw, rdAdvance, State.rw_setRw, if_neg hne, if_true, fld, nfld, word, BitVec.toNat_ofNat,
    Nat.shiftRight_eq_div_pow]
  omega

theorem rdAddr_dvd (s : State) : 4 ∣ rdAddr s := by
  unfold rdAddr
  omega

/-- An ECC error noted leaves the registers and the memory's contents. -/
theorem eccUncorr_kept (a : Nat) (s : State) : (eccUncorr a s).regs = s.regs ∧ (eccUncorr a s).dramMem = s.dramMem := by simp [eccUncorr]

theorem eccRead_kept (a : Nat) (s : State) : (eccRead a s).regs = s.regs ∧ (eccRead a s).dramMem = s.dramMem := by
  obtain ⟨-, -, -, hregs, -, -, -, hmem, -⟩ := (pathKept_eccRead s s a).2 s.pathKept_refl
  exact ⟨hregs, hmem⟩

section
variable {s : State} {a : Nat} (src : Nat)

theorem rdData_outside (ha : a = rdAddr s) (h : s.dram.cap * 4096 ≤ a) :
    rdData src s = (badAccess src 0x14128 false 6 (rdAdvance a s)).answer 0 := by
  subst ha
  exact if_pos h

section
variable (ha : a = rdAddr s) (h : a < s.dram.cap * 4096)
include ha h

theorem rdData_closed (ho : memOpen s = false) : rdData src s = { s with lastRead := [] } := by
  subst ha
  exact (if_neg (Nat.not_le.2 h)).trans (if_neg (by simp [ho]))

theorem rdData_uncorrectable (ho : memOpen s = true) (hb : a / 4 * 4 ∈ s.dram.badU) :
    rdData src s = (raise pSTORE 3 (eccUncorr a (rdAdvance a s))).answer 0 := by
  subst ha
  exact (if_neg (Nat.not_le.2 h)).trans ((if_pos ho).trans (if_pos (decide_eq_true hb)))

theorem rdData_word (ho : memOpen s = true) (hb : a / 4 * 4 ∉ s.dram.badU) : rdData src s = (eccRead a (rdAdvance a s)).answer (s.dramW a) := by
  subst ha
  exact (if_neg (Nat.not_le.2 h)).trans ((if_pos ho).trans (if_neg fun hm => hb (of_decide_eq_true hm)))

end

end

/-! ### Record transfers (R293) -/

section
variable {s : State} {l k : Nat} {r : RecSlot}

theorem storeXfer_empty (h : s.recSlot k = none) : storeXfer l k s = s := by simp only [storeXfer, h]

theorem storeXfer_begins (h : s.recSlot k = some r) (hc : r.closed = true) (hx : s.store.xfer = none) (hl : l < 2) :
    storeXfer l k s = xferNext { s with store := { s.store with xfer := some (k, l, 0) } } := by
  simp only [storeXfer, h]
  exact if_pos ⟨hc, hx, hl⟩

theorem storeXfer_not (h : s.recSlot k = some r) (hnot : r.closed = false ∨ s.store.xfer.isSome ∨ 2 ≤ l) : storeXfer l k s = s := by
  simp only [storeXfer, h]
  refine if_neg fun ⟨hc, hx, hl⟩ => ?_
  rcases hnot with hnot | hnot | hnot
  · simp [hc] at hnot
  · simp [hx] at hnot
  · omega

end

/-! ### The second entries (R295) -/

section
variable {s : State} {n sec : Nat}

/-- A written second is accounted no more and the next takes its place; the entry leaves the packets. -/
theorem writeSecond_str (n sec idle : Nat) (s : State) : (writeSecond n sec idle s).str n =
    { s.str n with secs := (s.str n).secs.filter (fun a => decide (a.sec ≠ sec)), nextSec := some (sec + 1) } := by
  simp only [writeSecond, State.str_congr (ledgerPut_strs _ _), State.str_setStr, if_true]

theorem ledgerSecond_none (h : (s.str n).nextSec = none) : ledgerSecond n s = s := by simp only [ledgerSecond, h]

section
variable (h : (s.str n).nextSec = some sec)
include h

/-- While a stream runs, its oldest second is written once due: what still waits of it is lost unless its members have passed it. -/
theorem ledgerSecond_due (hr : (s.str n).run = true) (hd : secondDue s n sec = true) : ∃ idle,
    ledgerSecond n s = writeSecond n sec idle (if secondDone s n sec then s else inqDrop n sec s) := by
  simp only [ledgerSecond, h, hr, hd, Bool.not_true, Bool.false_and, Bool.false_eq_true, if_false, if_true]
  exact ⟨_, rfl⟩

theorem ledgerSecond_early (hr : (s.str n).run = true) (hd : secondDue s n sec = false) : ledgerSecond n s = s := by
  simp [ledgerSecond, h, hr, hd]

/-- A stopped stream whose seconds are all written ends its account. -/
theorem ledgerSecond_ended (hr : (s.str n).run = false) (hsecs : ∀ a ∈ (s.str n).secs, a.sec < sec) (hstop : ∀ u, (s.str n).stopAt = some u → secOf u < sec) :
    ledgerSecond n s = s.setStr n { s.str n with nextSec := none } := by
  have hall : (s.str n).secs.all (fun a => decide (a.sec < sec)) = true := by simpa using hsecs
  cases hu : (s.str n).stopAt with
  | none => simp only [ledgerSecond, h, hr, hall, hu]; rfl
  | some u => simp [ledgerSecond, h, hr, hall, hu, hstop u hu]

end

end

/-! ### The statement -/

/-- Settles O40: a read of the head by the packet it finds begun, APPLY by what bars it, a read of the store by its address and the memory, a transfer by its
slot and link, and a second entry by whether it is due. -/
theorem storeAccess : Obligations.StoreAccess := by
  refine ⟨fun s src n h hn => ?head, fun s src h => ?part, fun s src a h ha => ?word, fun s src l k r h hr => ?transfer,
    fun s src l k h hr => (exec_storeXfer h).trans (congrArg _ (storeXfer_empty hr)), fun s n hs => ?second⟩
  case head =>
    rw [exec_queRdRead h]
    refine ⟨fun hc => ⟨fun q i p ws hr hp hw => ?answered, fun hr => congrArg _ (queRead_none hn hc hr)⟩, fun hc => congrArg _ (queRead_other hn hc)⟩
    case answered =>
      obtain ⟨hmem, hregs⟩ := headMoved_kept n q i ws.length (headBegun n s)
      exact ⟨_, congrArg _ (queRead_word hn hc hr hp hw), rfl, hmem, hregs, fun hlt => headMoved_inside hlt, fun hle => headMoved_past hle⟩
  case part =>
    rw [exec_storePartCmdApply h]
    refine ⟨fun hidle hrec hfit => congrArg _ (partApply_taken ?free), fun hbar => ⟨_, congrArg _ (partApply_refused hbar), by simp, by simp, ?event⟩⟩
    case event => exact raise_latched _ _ _ (by decide)
    case free =>
      rintro (⟨x, hx, hheld⟩ | hheld | hlt)
      · obtain ⟨hrun, hregion⟩ := hidle x hx
        simp [hrun, hregion] at hheld
      · exact hheld hrec
      · omega
  case word =>
    have hdvd : 4 ∣ a := ha ▸ rdAddr_dvd s
    rw [exec_storeRdDataRead h]
    refine ⟨fun hlt ho hb => ?good, fun hlt ho hb => ?bad, fun hlt ho => congrArg _ (rdData_closed _ ha hlt ho), fun hle => ?outside⟩
    case good =>
      obtain ⟨hregs, hmem⟩ := eccRead_kept a (rdAdvance a s)
      exact ⟨_, congrArg _ (rdData_word _ ha hlt ho hb), rfl, hmem, rdAddr_advance hdvd hregs⟩
    case bad =>
      obtain ⟨hregs, hmem⟩ := eccUncorr_kept a (rdAdvance a s)
      exact ⟨_, congrArg _ (rdData_uncorrectable _ ha hlt ho hb), rfl, by simpa [rdAdvance] using hmem, raise_latched _ _ _ (by decide),
        rdAddr_advance hdvd (by simpa using hregs)⟩
    case outside =>
      exact ⟨_, congrArg _ (rdData_outside _ ha hle), rfl, by simp [rdAdvance], badAccess_latched ..⟩
  case transfer =>
    rw [exec_storeXfer h]
    exact ⟨fun hc hx hl => congrArg _ (storeXfer_begins hr hc hx hl), fun hnot => congrArg _ (storeXfer_not hr hnot)⟩
  case second =>
    rw [exec_ledgerSecondWrite hs]
    refine ⟨fun hnone => congrArg _ (ledgerSecond_none hnone), fun sec hsec hr => ⟨fun hd => ?due, fun hd => congrArg _ (ledgerSecond_early hsec hr hd)⟩,
      fun sec hsec hr hsecs hstop => congrArg _ (ledgerSecond_ended hsec hr hsecs hstop)⟩
    case due =>
      obtain ⟨idle, heq⟩ := ledgerSecond_due hsec hr hd
      refine ⟨_, congrArg _ heq, ?_⟩
      rw [writeSecond_str]
      exact ⟨rfl, fun a ha => by simpa using (List.mem_filter.1 ha).2, fun hdone => by simp [hdone]⟩

end Sys2Proof.Machine
end

section
/-! SUPPORT. Training of the external memory: what DR_CMD TRAIN answers, the leave asked for again, and what a training finds and ends in (R303 to R306,
R309, R319). -/

namespace Sys2Proof.Machine

/-! ### DR_CMD -/

theorem regEffect_drCmd (src : Nat) (v : Word) (s : State) : regEffect src 0x15104 v s =
    if fld v 1 0 = 1 then drTrainCmd (dmaHolds s 18) s else if fld v 1 0 = 2 then drTrackCmd s else s := rfl

section
variable {s : State} {src : Src} (h : s.reaches 0x15104)
include h

theorem exec_drCmdTrain : exec (.drCmdTrain src) s = .next (drTrainCmd (dmaHolds s 18) s) := act_busWrite src.code 1 h (by decide)

theorem exec_drCmdTrack : exec (.drCmdTrack src) s = .next (drTrackCmd s) := act_busWrite src.code 2 h (by decide)

end

section
variable {s : State} (hs : s.supply.held = false)
include hs

theorem exec_dramTrainRetry : exec .dramTrainRetry s = .next (drRetry s) := act_live hs

theorem exec_dramTrain {f : DrFound} : exec (.dramTrain f) s = .next (drTrain f s) := act_live hs

end

/-! ### TRAIN: refused, ignored or asked for (R303, R304, R306, R309, R319) -/

/-- A refusal stores its reason, raises DRAM_CMD_REJ and asks for nothing. -/
theorem drRej_answer (r : Nat) (s : State) :
    (drRej r s).dram = { s.dram with rej := r } ∧ (drRej r s).bgt = s.bgt ∧ bit ((drRej r s).page pDRAM).stat 7 = true :=
  ⟨by simp [drRej], by simp [drRej], raise_latched pDRAM 7 _ (by decide)⟩

/-- What makes the memory busy, said of the streams, the records and the block mover. -/
theorem drBusy_iff (s : State) (dma : Bool) :
    drBusy s dma = true ↔ (∃ x ∈ s.strs, x.2.run = true ∨ x.2.region.isSome) ∨ (∃ x ∈ s.recs, x.2.isSome) ∨ dma = true := by
  simp only [drBusy, Bool.or_eq_true, List.any_eq_true, or_assoc]

section
variable {s : State} {dma : Bool}

theorem drTrainCmd_selfref (h : s.dram.selfref = true) : drTrainCmd dma s = drRej 5 s := if_pos h

section
variable (hsr : s.dram.selfref = false)
include hsr

theorem drTrainCmd_busy (h : drBusy s dma = true) : drTrainCmd dma s = drRej 1 s := by simp [drTrainCmd, hsr, h]

section
variable (hb : drBusy s dma = false)
include hb

theorem drTrainCmd_density (h : drCfg_DENSITY s = 3) : drTrainCmd dma s = drRej 4 s := by simp [drTrainCmd, hsr, hb, h]

theorem drTrainCmd_mode (hd : drCfg_DENSITY s ≠ 3) (h : modeGood s = false) : drTrainCmd dma s = drRej 2 s := by simp [drTrainCmd, hsr, hb, hd, h]

theorem drTrainCmd_map (hd : drCfg_DENSITY s ≠ 3) (hm : modeGood s = true) (h : mapGood s = false) : drTrainCmd dma s = drRej 3 s := by
  simp [drTrainCmd, hsr, hb, hd, hm, h]

section
variable (hd : drCfg_DENSITY s ≠ 3) (hm : modeGood s = true) (hmap : mapGood s = true)
include hd hm hmap

theorem drTrainCmd_again (h : s.dram.asking = true ∨ s.dram.st = 1) : drTrainCmd dma s = s := by simp [drTrainCmd, hsr, hb, hd, hm, hmap, h]

theorem drTrainCmd_asks (ha : s.dram.asking = false) (h : s.dram.st ≠ 1) :
    drTrainCmd dma s = drAsk { s with dram := { s.dram with conf := readConf s } } := by
  simp [drTrainCmd, hsr, hb, hd, hm, hmap, ha, h]

end
end
end
end

/-! ### The leave asked for again (R304) -/

theorem drRetry_due {s : State} {a : Nat} (ha : s.dram.retryAt = some a) (h : a ≤ s.clk) : drRetry s = drAsk s := by simp [drRetry, ha, h]

theorem drRetry_early {s : State} (h : ∀ a, s.dram.retryAt = some a → s.clk < a) : drRetry s = s := by
  unfold drRetry
  split
  case h_1 a ha => exact if_neg (Nat.not_le.2 (h a ha))
  case h_2 => rfl

/-! ### What a training has found (R304) -/

/-- Whether `ms` milliseconds have passed since the training's grant. -/
def trainPast (s : State) (ms : Nat) : Bool := decide (s.dram.trainAt + ms * msU ≤ s.st)

theorem trainPast_of_le {s : State} {ms : Nat} (h : s.dram.trainAt + ms * msU ≤ s.st) : trainPast s ms = true := decide_eq_true h

theorem trainPast_of_lt {s : State} {ms : Nat} (h : s.st < s.dram.trainAt + ms * msU) : trainPast s ms = false := decide_eq_false (Nat.not_le.2 h)

/-- What lies further on has not passed either. -/
theorem trainPast_mono {s : State} {m n : Nat} (h : trainPast s m = false) (hmn : m ≤ n) : trainPast s n = false := by
  have hle : m * msU ≤ n * msU := Nat.mul_le_mul_right _ hmn
  have hlt := of_decide_eq_false h
  exact decide_eq_false (by omega)

/-- Lane `l` as the delays found so far stand. What is past is an operand, so that no reduction counts milliseconds in units of 2^-48 ns: with `rd` the read delay and eye are found, with `wr` the write delay and eye. -/
def laneFound (rd wr : Bool) (f : DrFound) (s : State) (l : Nat) : DrLane :=
  let old := s.dram.lanes.getD l {}
  let new := laneOf f (decide (drRanks s = 2)) l
  let read := if rd then { old with rdDly := new.rdDly, rdEye := new.rdEye } else old
  if wr then { read with wrDly := new.wrDly, wrEye := new.wrEye } else read

/-- The training's findings put down: the lanes, and with `vr` the VrefDQ value in MODE_6. -/
def trainFound (rd wr vr : Bool) (f : DrFound) (s : State) : State :=
  let s1 : State := { s with dram := { s.dram with lanes := (List.range 5).map (laneFound rd wr f s) } }
  if vr then s1.setFld (drModeAt 6) 17 0 (drMode_VALUE s 6 / 2 ^ 8 * 2 ^ 8 + f.vref % 2 ^ 6) else s1

/-- The state a running training leaves, its end apart. -/
def trainNow (f : DrFound) (s : State) : State := trainFound (trainPast s 13) (trainPast s 29) (trainPast s 39) f s

section
variable {s : State} {f : DrFound}

theorem drTrain_idle (h : s.dram.st ≠ 1) : drTrain f s = s := if_neg h

theorem drTrain_running (h : s.dram.st = 1) : drTrain f s = if trainPast s 40 then drTrained f (trainNow f s) else trainNow f s := by
  rw [drTrain, if_pos h]
  rfl

end

section
variable (rd wr vr : Bool) (f : DrFound) (s : State)

theorem laneFound_read (h : rd = true) (l : Nat) : (laneFound rd wr f s l).rdDly = (laneOf f (decide (drRanks s = 2)) l).rdDly ∧
    (laneFound rd wr f s l).rdEye = (laneOf f (decide (drRanks s = 2)) l).rdEye := by
  cases wr <;> simp [laneFound, h]

theorem laneFound_write (h : wr = true) (l : Nat) : (laneFound rd wr f s l).wrDly = (laneOf f (decide (drRanks s = 2)) l).wrDly ∧
    (laneFound rd wr f s l).wrEye = (laneOf f (decide (drRanks s = 2)) l).wrEye := by
  simp [laneFound, h]

theorem laneFound_early (hr : rd = false) (hw : wr = false) (l : Nat) : laneFound rd wr f s l = s.dram.lanes.getD l {} := by
  simp [laneFound, hr, hw]

@[simp] theorem trainFound_dram : (trainFound rd wr vr f s).dram = { s.dram with lanes := (List.range 5).map (laneFound rd wr f s) } := by
  cases vr <;> simp [trainFound]

theorem trainFound_lane {l : Nat} (h : l < 5) : (trainFound rd wr vr f s).dram.lanes.getD l {} = laneFound rd wr f s l := by
  simp [h]

/-- The findings leave the governor, the memory and, before VrefDQ is found, the registers. -/
theorem trainFound_kept : (trainFound rd wr vr f s).bgt = s.bgt ∧ (trainFound rd wr vr f s).dramMem = s.dramMem ∧
    (vr = false → (trainFound rd wr vr f s).regs = s.regs) := by
  cases vr <;> simp [trainFound]

/-- Only MODE_6 is written. -/
theorem trainFound_rw {a : Nat} (h : a ≠ drModeAt 6) : (trainFound rd wr vr f s).rw a = s.rw a := by
  cases vr
  case false => rfl
  case true => exact rw_setFld_ne _ _ _ _ _ _ h

theorem trainFound_vref (h : vr = true) : drMode_VALUE (trainFound rd wr vr f s) 6 = drMode_VALUE s 6 / 2 ^ 8 * 2 ^ 8 + f.vref % 2 ^ 6 := by
  have hlt : drMode_VALUE s 6 < 2 ^ 18 := Nat.mod_lt _ (by decide)
  have hfit : drMode_VALUE s 6 / 2 ^ 8 * 2 ^ 8 + f.vref % 2 ^ 6 < 2 ^ (17 + 1 - 0) := by omega
  subst h
  exact (fld_setFld _ _ 17 0 _ (by decide) (by decide)).trans (Nat.mod_eq_of_lt hfit)

/-! ### The end of a training (R304, R305) -/

theorem trainFound_rankPass (r : Nat) : rankPass (trainFound rd wr vr f s) f r = rankPass s f r := by
  have hmin : drTrain_TRAIN_MIN (trainFound rd wr vr f s) = drTrain_TRAIN_MIN s := congrArg (fld · 31 24) (trainFound_rw rd wr vr f s (by decide))
  simp only [rankPass, hmin]

theorem trainFound_ranks : drRanks (trainFound rd wr vr f s) = drRanks s ∧ rankPages (trainFound rd wr vr f s) = rankPages s := by
  simp [drRanks, rankPages]

end

section
variable (f : DrFound) (s : State)

/-- What is released is no longer held. -/
theorem bgtHas_bgtRelease (kind req : Nat) : bgtHas kind req (bgtRelease kind req s) = false := by
  unfold bgtHas bgtRelease
  rw [List.any_filter, List.any_eq_false]
  intro g _
  cases decide (g.kind = kind ∧ g.req = req) <;> decide

/-- A training's end releases the leave and keeps what the memory holds. -/
theorem drTrained_kept : bgtHas 6 0 (drTrained f s) = false ∧ (drTrained f s).dramMem = s.dramMem := by
  have hbgt : (drTrained f s).bgt = (bgtRelease 6 0 s).bgt := by simp [drTrained]
  exact ⟨(congrArg (fun b : BgtSt => b.grants.any _) hbgt).trans (bgtHas_bgtRelease s 6 0), by simp [drTrained, bgtRelease]⟩

/-- Rank 0 has passed: the ports open, with both ranks where rank 1 is there and has passed too. -/
theorem drTrained_open (h : rankPass s f 0 = true) : (drTrained f s).dram.st = 2 ∧
    (drTrained f s).dram.cap = (if drRanks s = 2 ∧ rankPass s f 1 = true then 2 * rankPages s else rankPages s) ∧
    ((drTrained f s).dram.rank1Fail = true ↔ drRanks s = 2 ∧ rankPass s f 1 = false) := by
  by_cases h2 : drRanks s = 2 <;> cases h1 : rankPass s f 1 <;> simp [drTrained, h, h1, h2]

/-- Rank 0 has failed: there is no memory. -/
theorem drTrained_failed (h : rankPass s f 0 = false) :
    (drTrained f s).dram.st = 3 ∧ (drTrained f s).dram.cap = 0 ∧ bit ((drTrained f s).page pDRAM).stat 1 = true := by
  refine ⟨by simp [drTrained, h], by simp [drTrained, h], ?_⟩
  simp only [drTrained, h, Bool.false_and, Bool.false_eq_true, if_false]
  exact raise_latched pDRAM 1 _ (by decide)

theorem drTrained_done (h0 : rankPass s f 0 = true) (h1 : drRanks s = 2 → rankPass s f 1 = true) : bit ((drTrained f s).page pDRAM).stat 0 = true := by
  have hp1 : (!decide (drRanks s = 2) || rankPass s f 1) = true := by
    by_cases h2 : drRanks s = 2 <;> simp [h2, h1]
  simp only [drTrained, h0, hp1, Bool.and_self, if_true]
  exact raise_latched pDRAM 0 _ (by decide)

theorem drTrained_rank1 (h0 : rankPass s f 0 = true) (h2 : drRanks s = 2) (h1 : rankPass s f 1 = false) : bit ((drTrained f s).page pDRAM).stat 1 = true := by
  simp only [drTrained, h0, h1, h2, decide_true, Bool.not_true, Bool.or_self, Bool.and_false, Bool.false_eq_true, if_false]
  exact raise_latched pDRAM 1 _ (by decide)

end

/-! ### The statement -/

/-- Settles O41: TRAIN by the first thing that bars it, the retry by its time, and a training by how long it has run and which ranks pass. -/
theorem dramTraining : Obligations.DramTraining := by
  refine ⟨fun s src h => ?train, fun s hs => ?retry, fun s f hs => ?found⟩
  case train =>
    rw [exec_drCmdTrain h]
    refine ⟨fun hsr => ⟨_, congrArg _ (drTrainCmd_selfref hsr), drRej_answer 5 s⟩, fun hsr => ⟨fun hb => ?busy, fun hb => ⟨fun hd => ?density,
      fun hd hm => ?mode, fun hd hm hmap => ?map, fun hd hm hmap => ⟨fun ha => congrArg _ (drTrainCmd_again hsr hb hd hm hmap ha), fun ha hst => ?asks⟩⟩⟩⟩
    case busy => exact ⟨_, congrArg _ (drTrainCmd_busy hsr ((drBusy_iff s _).2 hb)), drRej_answer 1 s⟩
    case density => exact ⟨_, congrArg _ (drTrainCmd_density hsr hb hd), drRej_answer 4 s⟩
    case mode => exact ⟨_, congrArg _ (drTrainCmd_mode hsr hb hd hm), drRej_answer 2 s⟩
    case map => exact ⟨_, congrArg _ (drTrainCmd_map hsr hb hd hm hmap), drRej_answer 3 s⟩
    case asks => exact ⟨_, congrArg _ (drTrainCmd_asks hsr hb hd hm hmap ha hst), rfl, rfl, rfl, rfl⟩
  case retry =>
    rw [exec_dramTrainRetry hs]
    exact ⟨fun a ha hle => ⟨_, congrArg _ (drRetry_due ha hle), rfl, rfl⟩, fun h => congrArg _ (drRetry_early h)⟩
  case found =>
    rw [exec_dramTrain hs]
    refine ⟨fun hst => congrArg _ (drTrain_idle hst), fun hst hlt => ?running, fun hst hle => ?ended⟩
    case running =>
      have hrun : drTrain f s = trainNow f s := (drTrain_running hst).trans (if_neg (by simp [trainPast_of_lt hlt]))
      rw [hrun, trainNow]
      have hread : s.dram.trainAt + 13 * msU ≤ s.st → trainPast s 13 = true := trainPast_of_le
      have hwrite : s.dram.trainAt + 29 * msU ≤ s.st → trainPast s 29 = true := trainPast_of_le
      have hvref : s.dram.trainAt + 39 * msU ≤ s.st → trainPast s 39 = true := trainPast_of_le
      have hearly : s.st < s.dram.trainAt + 13 * msU → trainPast s 13 = false ∧ trainPast s 29 = false := fun h =>
        ⟨trainPast_of_lt h, trainPast_mono (trainPast_of_lt h) (by decide)⟩
      have hunset : s.st < s.dram.trainAt + 39 * msU → trainPast s 39 = false := trainPast_of_lt
      generalize trainPast s 13 = rd at hread hearly ⊢
      generalize trainPast s 29 = wr at hwrite hearly ⊢
      generalize trainPast s 39 = vr at hvref hunset ⊢
      obtain ⟨hbgt, hmem, hregs⟩ := trainFound_kept rd wr vr f s
      refine ⟨_, rfl, by simp [hst], by simp, hbgt, hmem, fun l hl => ?lane, fun h => trainFound_vref rd wr vr f s (hvref h), fun h => hregs (hunset h)⟩
      case lane =>
        rw [trainFound_lane rd wr vr f s hl]
        exact ⟨fun h => laneFound_read rd wr f s (hread h) l, fun h => laneFound_write rd wr f s (hwrite h) l,
          fun h => laneFound_early rd wr f s (hearly h).1 (hearly h).2 l⟩
    case ended =>
      have hend : drTrain f s = drTrained f (trainNow f s) := (drTrain_running hst).trans (if_pos (trainPast_of_le hle))
      rw [hend, trainNow]
      generalize trainPast s 13 = rd, trainPast s 29 = wr, trainPast s 39 = vr
      obtain ⟨hleave, hmem⟩ := drTrained_kept f (trainFound rd wr vr f s)
      obtain ⟨hranks, hpages⟩ := trainFound_ranks rd wr vr f s
      rw [← hranks, ← hpages, ← trainFound_rankPass rd wr vr f s 0, ← trainFound_rankPass rd wr vr f s 1]
      exact ⟨_, rfl, hleave, hmem.trans (trainFound_kept rd wr vr f s).2.1, drTrained_open f _, drTrained_failed f _, drTrained_done f _, drTrained_rank1 f _⟩

end Sys2Proof.Machine
end

section
/-! SUPPORT. The shared operations of the external memory controller: what errors noted, reads, queued writes and the arbiter leave as they were, and what a
read answers (R310 to R313, R316). -/

namespace Sys2Proof.Machine

theorem memOpen_iff (s : State) : memOpen s = true ↔ s.dram.st = 2 ∧ s.dram.selfref = false := by simp [memOpen]

/-! ### What ECC leaves -/

/-- Controller states that differ in the devices' marks and the log of errors at most. -/
def DramSt.marked (d e : DramSt) : Prop :=
  ∃ u c n m a l, e = { d with badU := u, badC := c, corr := n, uncorr := m, eccAddr := a, latched := l }

theorem DramSt.marked.refl (d : DramSt) : d.marked d := ⟨_, _, _, _, _, _, rfl⟩

theorem DramSt.marked.trans {d e g : DramSt} (h : d.marked e) (h' : e.marked g) : d.marked g := by
  obtain ⟨_, _, _, _, _, _, rfl⟩ := h
  obtain ⟨_, _, _, _, _, _, rfl⟩ := h'
  exact ⟨_, _, _, _, _, _, rfl⟩

/-- What the marks are not part of. -/
theorem DramSt.marked.kept {d e : DramSt} (h : d.marked e) : e.st = d.st ∧ e.selfref = d.selfref ∧ e.panic = d.panic ∧ e.p0 = d.p0 ∧ e.since = d.since ∧
    e.lanes = d.lanes ∧ e.wq = d.wq ∧ e.wait = d.wait := by
  obtain ⟨_, _, _, _, _, _, rfl⟩ := h
  exact ⟨rfl, rfl, rfl, rfl, rfl, rfl, rfl, rfl⟩

/-- `t` is `s` but for marks, logs and events of memory errors. -/
def State.onlyErrs (s t : State) : Prop := s.pathKept t ∧ s.dram.marked t.dram ∧ t.dma = s.dma

theorem State.onlyErrs_refl (s : State) : s.onlyErrs s := ⟨s.pathKept_refl, .refl _, rfl⟩

theorem State.onlyErrs_trans {s t u : State} (h : s.onlyErrs t) (h' : t.onlyErrs u) : s.onlyErrs u :=
  ⟨State.pathKept_trans h.1 h'.1, h.2.1.trans h'.2.1, h'.2.2.trans h.2.2⟩

theorem eccRead_onlyErrs (a : Nat) (s : State) : s.onlyErrs (eccRead a s) := by
  have hlog : ∀ d : DramSt, d.marked (eccLog a d) := fun d => by
    unfold eccLog
    split
    · exact .refl d
    · exact ⟨_, _, _, _, _, _, rfl⟩
  refine ⟨(pathKept_eccRead s s a).2 s.pathKept_refl, ?_⟩
  unfold eccRead
  split
  · exact ⟨by simpa [eccUncorr] using (hlog s.dram).trans ⟨_, _, _, _, _, _, rfl⟩, by simp [eccUncorr]⟩
  split
  · exact ⟨by simpa [eccCorr] using (hlog s.dram).trans ⟨_, _, _, _, _, _, rfl⟩, by simp [eccCorr]⟩
  · exact ⟨.refl _, rfl⟩

/-- A read leaves the devices' marks as they are. -/
theorem eccRead_marks (a : Nat) (s : State) : (eccRead a s).dram.badU = s.dram.badU ∧ (eccRead a s).dram.badC = s.dram.badC := by
  have hlog : ∀ d : DramSt, (eccLog a d).badU = d.badU ∧ (eccLog a d).badC = d.badC := fun d => by
    unfold eccLog
    split <;> exact ⟨rfl, rfl⟩
  unfold eccRead
  split
  · simp [eccUncorr, hlog]
  split
  · simp [eccCorr, hlog]
  · exact ⟨rfl, rfl⟩

theorem eccReads_onlyErrs (l : List Nat) (s : State) : s.onlyErrs (l.foldl (fun t x => eccRead x t) s) :=
  foldl_keeps s.onlyErrs _ (fun t x h => State.onlyErrs_trans h (eccRead_onlyErrs x t)) l s s.onlyErrs_refl

/-- Errors are noted in the marks alone: what else the controller holds goes by unseen. -/
theorem noteErrs_dram (a : Nat) (es : List (Nat × Bool)) (s : State) : ∃ u c, noteErrs a es s = { s with dram := { s.dram with badU := u, badC := c } } := by
  unfold noteErrs
  refine foldl_keeps (fun t => ∃ u c, t = { s with dram := { s.dram with badU := u, badC := c } }) _ (fun t e h => ?_) es s ⟨_, _, rfl⟩
  obtain ⟨u, c, rfl⟩ := h
  dsimp only
  split <;> exact ⟨_, _, rfl⟩

theorem noteErrs_onlyErrs (a : Nat) (es : List (Nat × Bool)) (s : State) : s.onlyErrs (noteErrs a es s) := by
  obtain ⟨u, c, h⟩ := noteErrs_dram a es s
  rw [h]
  exact ⟨s.pathKept_refl, ⟨_, _, _, _, _, _, rfl⟩, rfl⟩

theorem noteErrs_badU_congr (a : Nat) (es : List (Nat × Bool)) : ∀ (s t : State), t.dram.badU = s.dram.badU → (noteErrs a es t).dram.badU = (noteErrs a es s).dram.badU := by
  unfold noteErrs
  induction es with
  | nil => exact fun _ _ h => h
  | cons e es ih =>
    intro s t h
    refine ih _ _ ?_
    dsimp only
    cases e.2 <;> simp [h]

/-! ### Reads (R312, R316) -/

/-- The eight words a burst read answers. -/
def readWords (s : State) (a : Nat) : List Word :=
  (List.range 8).map fun i => leWord (readByte s a (4 * i)) (readByte s a (4 * i + 1)) (readByte s a (4 * i + 2)) (readByte s a (4 * i + 3))

/-- A read meets an error beyond correction: the queue does not cover the burst, and one of its beats is uncorrectable. -/
abbrev readBad (s : State) (a : Nat) : Prop := wqCovers s a = false ∧ ∃ x ∈ beats a, x ∈ s.dram.badU

@[simp] theorem readWords_length (s : State) (a : Nat) : (readWords s a).length = 8 := by simp [readWords]

/-- A read answers its words and its status, and else leaves errors alone. -/
theorem doRead_answer (a : Nat) (s : State) : ∃ e, s.onlyErrs e ∧ doRead a s = { e with lastRead := readWords s a ++ [if readBad s a then 1 else 0] } := by
  by_cases hc : wqCovers s a = true
  · exact ⟨s, s.onlyErrs_refl, by simp [doRead, readBad, hc, readWords]⟩
  · exact ⟨_, eccReads_onlyErrs (beats a) s, by simp [doRead, readBad, hc, readWords]⟩

/-- Byte `j` of a little-endian word. -/
theorem leWord_byte (b : Nat → Byte) {j : Nat} (h : j < 4) : (leWord (b 0) (b 1) (b 2) (b 3)).toNat / 2 ^ (8 * j) % 2 ^ 8 = (b j).toNat := by
  have h0 := (b 0).isLt
  have h1 := (b 1).isLt
  have h2 := (b 2).isLt
  have h3 := (b 3).isLt
  have hlt : (b 0).toNat + 2 ^ 8 * (b 1).toNat + 2 ^ 16 * (b 2).toNat + 2 ^ 24 * (b 3).toNat < 2 ^ 32 := by omega
  simp only [leWord, word, BitVec.toNat_ofNat, Nat.mod_eq_of_lt hlt]
  interval_cases j <;> omega

theorem readWords_byte (s : State) (a : Nat) {i : Nat} (h : i < 32) :
    ((readWords s a).getD (i / 4) 0).toNat / 2 ^ (8 * (i % 4)) % 2 ^ 8 = (readByte s a i).toNat := by
  have hword : i / 4 < 8 := by omega
  rw [readWords, List.getD_eq_getElem?_getD, List.getElem?_map, List.getElem?_range hword, Option.map_some, Option.getD_some]
  exact (leWord_byte (fun j => readByte s a (4 * (i / 4) + j)) (by omega)).trans (by rw [Nat.div_add_mod])

theorem readByte_congr {s t : State} (hq : t.dram.wq = s.dram.wq) (hm : t.dramMem = s.dramMem) (a i : Nat) : readByte t a i = readByte s a i := by
  simp only [readByte, hq, State.dramB, hm]

theorem wqCovers_congr {s t : State} (hq : t.dram.wq = s.dram.wq) (a : Nat) : wqCovers t a = wqCovers s a := by simp only [wqCovers, hq]

theorem readWords_congr {s t : State} (hq : t.dram.wq = s.dram.wq) (hm : t.dramMem = s.dramMem) (a : Nat) : readWords t a = readWords s a := by
  simp only [readWords, readByte_congr hq hm]

/-! ### The arbiter (R310, R313) -/

theorem portTaken_kept (p : Nat) (d : DramSt) (wt : Nat) : ∃ t c n, portTaken p d wt = { d with turn := t, credit := c, since := n } := by
  unfold portTaken
  dsimp only
  split <;> exact ⟨_, _, _, rfl⟩

/-- The state with its one waiting request taken. -/
def drTaken (r : DrReq) (s : State) : State :=
  { s with dram := { portTaken r.port s.dram (portWt s r.port) with wait := [], p0 := if r.port = 0 ∧ r.write then s.dram.p0 - 32 else s.dram.p0 } }

section
variable {s : State} {r : DrReq} (hw : s.dram.wait = [r])
include hw

theorem portReady_only (q : Nat) : portReady s q = (decide (r.port = q) && (!r.write || decide (s.dram.wq.length < 32))) := by
  by_cases h : r.port = q <;> simp [portReady, portHead, hw, h]

/-- One waiting request that finds room is taken, but in panic only where it is port P0's. -/
theorem portPick_only (hp : r.port < 4) (hr : r.write = false ∨ s.dram.wq.length < 32) (hpan : s.dram.panic = true → r.port = 0) :
    portPick s = some r.port := by
  have hready : ∀ q, portReady s q = true ↔ q = r.port := fun q => by
    have hroom : (!r.write || decide (s.dram.wq.length < 32)) = true := by rcases hr with h | h <;> simp [h]
    rw [portReady_only hw, hroom, Bool.and_true, decide_eq_true_eq, eq_comm]
  unfold portPick
  dsimp only
  cases hd : s.dram.panic with
  | true => simp [(hready 0).2 (hpan hd).symm, hpan hd]
  | false =>
    simp only [Bool.false_and, Bool.false_eq_true, if_false]
    split
    case isTrue h =>
      rw [Bool.and_eq_true, hready] at h
      rw [h.1]
    case isFalse =>
      cases hf : ([1, 2, 3, 4].map fun i => (s.dram.turn + i) % 4).find? (portReady s) with
      | some q => rw [(hready q).1 (List.find?_some hf)]
      | none =>
        rw [List.find?_eq_none] at hf
        have hmem : r.port ∈ [1, 2, 3, 4].map fun i => (s.dram.turn + i) % 4 := by
          simp only [List.map_cons, List.map_nil, List.mem_cons, List.not_mem_nil, or_false]
          omega
        exact absurd ((hready _).2 rfl) (hf _ hmem)

/-- No port is ready: nothing is taken. -/
theorem portPick_full (hwr : r.write = true) (hfull : 32 ≤ s.dram.wq.length) : portPick s = none := by
  have hready : ∀ q, portReady s q = false := fun q => by simp [portReady_only hw, hwr, hfull]
  simp [portPick, hready]

/-- In panic a port other than P0 waits for its share. -/
theorem portPick_share (hpan : s.dram.panic = true) (hp : r.port ≠ 0) (hshare : s.dram.since + 1 < max 2 (drThrottle_THROTTLE s)) : portPick s = none := by
  have h0 : portReady s 0 = false := by simp [portReady_only hw, hp]
  simp [portPick, h0, hpan, hshare]

theorem arbitrate_none (h : portPick s = none) : arbitrate s.dram.wait.length s = s := by
  rw [hw]
  simp [arbitrate, h]

theorem arbitrate_taken (h : portPick s = some r.port) : arbitrate s.dram.wait.length s = serve r (drTaken r s) := by
  have hhead : portHead s r.port = some r := by simp [portHead, hw]
  obtain ⟨_, _, _, htaken⟩ := portTaken_kept r.port s.dram (portWt s r.port)
  rw [hw]
  simp [arbitrate, h, hhead, drTaken, htaken, hw]

end

theorem serve_dramMem (r : DrReq) (s : State) : (serve r s).dramMem = s.dramMem := by
  unfold serve
  split
  · rfl
  · obtain ⟨e, ⟨hpath, -⟩, heq⟩ := doRead_answer r.addr s
    obtain ⟨-, -, -, -, -, -, -, hmem, -⟩ := hpath
    rw [heq]
    exact hmem

/-- Whatever the arbiter takes, nothing is written out to the devices. -/
theorem arbitrate_dramMem : ∀ (n : Nat) (s : State), (arbitrate n s).dramMem = s.dramMem
  | 0, _ => rfl
  | n + 1, s => by
    unfold arbitrate
    split
    · rfl
    split
    · rfl
    · exact (arbitrate_dramMem n _).trans (serve_dramMem _ _)

/-! ### Waiting, and the end of panic (R313, R315) -/

section
variable (s : State)

/-- The end of panic leaves the queues, the buffer, the registers, the memory and the last answer. -/
theorem panicEnd_kept : (panicEnd s).dram.wq = s.dram.wq ∧ (panicEnd s).dram.wait = s.dram.wait ∧ (panicEnd s).dram.p0 = s.dram.p0 ∧
    (panicEnd s).dramMem = s.dramMem ∧ (panicEnd s).regs = s.regs ∧ (panicEnd s).lastRead = s.lastRead := by
  unfold panicEnd
  split <;> exact ⟨rfl, rfl, rfl, rfl, rfl, rfl⟩

/-- No panic outlasts an empty buffer. -/
theorem panicEnd_over (h : s.dram.panic = false ∨ s.dram.p0 = 0) : (panicEnd s).dram.panic = false := by
  unfold panicEnd
  split
  · rfl
  · cases hd : s.dram.panic <;> simp_all

theorem panicEnd_same (h : s.dram.panic = false ∨ drPanic_PANIC_CLR s < s.dram.p0) : panicEnd s = s := by
  unfold panicEnd
  rw [if_neg (by rcases h with h | h <;> simp [h])]

theorem drWait_keepsPath (r : DrReq) : KeepsPath (drWait r) := by
  intro s
  unfold drWait
  split
  · split
    · unfold p0Lost
      split <;> simp
    · simp
  · simp

/-- A request other than a write of port P0 just waits. -/
theorem drWait_plain {r : DrReq} (h : ¬ (r.port = 0 ∧ r.write = true)) : drWait r s = { s with dram := { s.dram with wait := s.dram.wait ++ [r] } } := if_neg h

/-- A write of port P0 takes room in its buffer, where panic may begin. -/
theorem drWait_p0 {r : DrReq} (h : r.port = 0 ∧ r.write = true) (hroom : s.dram.p0 + 32 ≤ 65536) : (drWait r s).dram =
    { s.dram with p0 := s.dram.p0 + 32, panic := s.dram.panic || decide (drPanic_PANIC_LEVEL s ≤ s.dram.p0 + 32), wait := s.dram.wait ++ [r] } := by
  unfold drWait
  rw [if_pos h, if_neg (by omega)]
  cases hp : s.dram.panic <;> simp [hp]

/-- A write of port P0 that exceeds its buffer is lost. -/
theorem drWait_lost {r : DrReq} (h : r.port = 0 ∧ r.write = true) (hfull : 65536 < s.dram.p0 + 32) : drWait r s = p0Lost s := by
  unfold drWait
  rw [if_pos h, if_pos hfull]

theorem p0Lost_dram : (p0Lost s).dram = { s.dram with p0Ovf := true } ∧ (p0Lost s).dramMem = s.dramMem := by
  unfold p0Lost
  split
  case isTrue h =>
    refine ⟨?_, rfl⟩
    rw [← h]
  case isFalse => simp

end

end Sys2Proof.Machine
end

section
/-! SUPPORT. Requests of the four ports: served in order with forwarding, waiting for room, for a share or for the memory to open, and failing with it (R304,
R305, R310 to R313, R315, R316, R319). -/

namespace Sys2Proof.Machine

theorem exec_dramPortRequest {s : State} {p : Fin 4} {w : Bool} {a : BitVec 34} {bs : List Byte} {m : Word} {es : List (Nat × Bool)}
    (hs : s.supply.held = false) :
    exec (.dramPortRequest p w a bs m es) s = .next (drRequest ⟨p.val, w, a.toNat / 32 * 32, bs, m.toNat⟩ es s) := act_live hs

/-- Memory that is not open is reached: a controller in self-refresh at which nothing else waits says so (R319). -/
def drReached (s : State) : State := raiseIf (s.dram.selfref && decide (s.dram.wait = []) && decide (s.dram.p0 = 0)) pDRAM 6 s

@[simp] theorem drReached_kept (s : State) : (drReached s).dram = s.dram ∧ (drReached s).dramMem = s.dramMem ∧ (drReached s).regs = s.regs ∧
    (drReached s).lastRead = s.lastRead := by simp [drReached]

/-- The state in which a request of open memory waits for the arbiter. -/
def drQueued (r : DrReq) (es : List (Nat × Bool)) (s : State) : State := drWait r (noteErrs r.addr es s)

section
variable {s : State} {r : DrReq} {es : List (Nat × Bool)}

theorem drRequest_failed (h : s.dram.st = 3) (hr : ¬ (r.port = 0 ∧ r.write = true)) :
    drRequest r es s = { eccUncorr r.addr s with lastRead := List.replicate 8 0 ++ [1] } := 
  if_pos ⟨h, by rw [decide_eq_false hr]; rfl⟩

theorem drRequest_open (h : memOpen s = true) :
    drRequest r es s = panicEnd (arbitrate (drQueued r es s).dram.wait.length (drQueued r es s)) := by
  have hst : s.dram.st ≠ 3 := by
    have hopen := ((memOpen_iff s).1 h).1
    omega
  simp only [drRequest, hst, false_and, if_false, if_pos h, drQueued]

theorem drRequest_closed (h : memOpen s = false) (hr : s.dram.st ≠ 3 ∨ (r.port = 0 ∧ r.write = true)) :
    drRequest r es s = drWait r (drReached s) := by
  have hnot : ¬ (s.dram.st = 3 ∧ (!decide (r.port = 0 ∧ r.write = true)) = true) := by
    rintro ⟨h3, hno⟩
    rcases hr with h' | h'
    · exact h' h3
    · simp [h'] at hno
  exact (if_neg hnot).trans (if_neg (by simp [h]))

/-- Waiting for the arbiter changes neither registers nor memory nor the last answer. -/
theorem drQueued_kept (r : DrReq) (es : List (Nat × Bool)) (s : State) :
    (drQueued r es s).dramMem = s.dramMem ∧ (drQueued r es s).regs = s.regs ∧ (drQueued r es s).lastRead = s.lastRead ∧ (drQueued r es s).dram.wq = s.dram.wq := by
  obtain ⟨-, -, -, hregs, -, hlast, -, hmem, -⟩ := State.pathKept_trans (noteErrs_onlyErrs r.addr es s).1 (drWait_keepsPath r (noteErrs r.addr es s))
  refine ⟨hmem, hregs, hlast, ?_⟩
  have hwq : (drWait r (noteErrs r.addr es s)).dram.wq = (noteErrs r.addr es s).dram.wq := by
    unfold drWait p0Lost
    split
    · split
      · split <;> simp
      · simp
    · rfl
  exact hwq.trans (noteErrs_onlyErrs r.addr es s).2.1.kept.2.2.2.2.2.2.1

section
variable (hwait : s.dram.wait = [])
include hwait

/-- Without others waiting the request waits alone; what port P0 writes is in its buffer, where panic may have begun. -/
theorem drQueued_alone (h0 : r.port ≠ 0 ∨ s.dram.p0 = 0) : (drQueued r es s).dram.wait = [r] ∧
    (r.port = 0 ∧ r.write = true → (drQueued r es s).dram.p0 = 32) ∧
    (¬ (r.port = 0 ∧ r.write = true) → drQueued r es s = { noteErrs r.addr es s with dram := { (noteErrs r.addr es s).dram with wait := [r] } }) := by
  obtain ⟨-, -, -, hp0, -, -, -, hw⟩ := (noteErrs_onlyErrs r.addr es s).2.1.kept
  rw [hwait] at hw
  by_cases hr : r.port = 0 ∧ r.write = true
  · have hbuf : (noteErrs r.addr es s).dram.p0 = 0 := hp0.trans (h0.resolve_left (absurd hr.1))
    have hd := drWait_p0 (noteErrs r.addr es s) hr (by rw [hbuf]; decide)
    rw [hw, hbuf] at hd
    exact ⟨congrArg DramSt.wait hd, fun _ => congrArg DramSt.p0 hd, fun h => absurd hr h⟩
  · rw [drQueued, drWait_plain _ hr, hw]
    exact ⟨rfl, fun h => absurd h hr, fun _ => rfl⟩

/-- Outside panic, a request alone that finds room is served. -/
theorem drRequest_served (h : memOpen s = true) (hpan : s.dram.panic = false) (h0 : r.port ≠ 0 ∨ s.dram.p0 = 0) (hp : r.port < 4)
    (hroom : r.write = false ∨ s.dram.wq.length < 32) : drRequest r es s = panicEnd (serve r (drTaken r (drQueued r es s))) := by
  obtain ⟨hw, -, hplain⟩ := drQueued_alone (es := es) hwait h0
  obtain ⟨-, -, -, hwq⟩ := drQueued_kept r es s
  have hport : (drQueued r es s).dram.panic = true → r.port = 0 := fun hq => by
    by_contra hne
    rw [hplain fun h => hne h.1] at hq
    exact absurd ((noteErrs_onlyErrs r.addr es s).2.1.kept.2.2.1.trans hpan) (by simpa using hq)
  rw [drRequest_open h, arbitrate_taken hw (portPick_only hw hp (hwq ▸ hroom) hport)]

/-- A write without room waits alone. -/
theorem drRequest_full (h : memOpen s = true) (hpan : s.dram.panic = false) (hp : r.port ≠ 0) (hw : r.write = true) (hfull : 32 ≤ s.dram.wq.length) :
    drRequest r es s = drQueued r es s := by
  obtain ⟨halone, -, hplain⟩ := drQueued_alone (es := es) hwait (.inl hp)
  obtain ⟨-, -, -, hwq⟩ := drQueued_kept r es s
  have hq : (drQueued r es s).dram.panic = false := by
    rw [hplain fun h => hp h.1]
    exact (noteErrs_onlyErrs r.addr es s).2.1.kept.2.2.1.trans hpan
  rw [drRequest_open h, arbitrate_none halone (portPick_full halone hw (hwq ▸ hfull)), panicEnd_same _ (.inl hq)]

/-- In panic a port other than P0 waits for its share. -/
theorem drRequest_share (h : memOpen s = true) (hpan : s.dram.panic = true) (hclr : drPanic_PANIC_CLR s < s.dram.p0) (hp : r.port ≠ 0)
    (hshare : s.dram.since + 1 < max 2 (drThrottle_THROTTLE s)) :
    drRequest r es s = { noteErrs r.addr es s with dram := { (noteErrs r.addr es s).dram with wait := [r] } } := by
  obtain ⟨halone, -, hplain⟩ := drQueued_alone (es := es) hwait (.inl hp)
  obtain ⟨u, c, hu⟩ := noteErrs_dram r.addr es s
  have hq := hplain fun h => hp h.1
  rw [← hq, drRequest_open h, arbitrate_none halone (portPick_share halone ?panic hp ?share), panicEnd_same _ (.inr ?clr)]
  all_goals rw [hq, hu]
  case panic => exact hpan
  case share => exact hshare
  case clr => exact hclr

end

/-! ### What a served request leaves -/

/-- Being taken empties the wait; P0's bytes leave its buffer. -/
theorem drTaken_dram (r : DrReq) (s : State) : ∃ t c n, (drTaken r s).dram =
    { s.dram with turn := t, credit := c, since := n, wait := [], p0 := if r.port = 0 ∧ r.write then s.dram.p0 - 32 else s.dram.p0 } := by
  obtain ⟨t, c, n, h⟩ := portTaken_kept r.port s.dram (portWt s r.port)
  exact ⟨t, c, n, by simp only [drTaken, h]⟩

section
variable (hwait : s.dram.wait = []) (h0 : r.port ≠ 0 ∨ s.dram.p0 = 0)
include hwait h0

theorem served_write (hpan : s.dram.panic = false) (hw : r.write = true) (t : State) (ht : t = panicEnd (serve r (drTaken r (drQueued r es s)))) :
    t.dram.wq = s.dram.wq ++ [r] ∧ t.dram.wait = [] ∧ t.dram.p0 = s.dram.p0 ∧ t.dram.panic = false ∧ t.dramMem = s.dramMem ∧ t.regs = s.regs ∧
      t.lastRead = s.lastRead := by
  obtain ⟨hmem, hregs, hlast, hwq⟩ := drQueued_kept r es s
  obtain ⟨-, hp0, hplain⟩ := drQueued_alone (es := es) hwait h0
  obtain ⟨tn, c, n, htaken⟩ := drTaken_dram r (drQueued r es s)
  have hserve : serve r (drTaken r (drQueued r es s)) = { drTaken r (drQueued r es s) with dram := { (drTaken r (drQueued r es s)).dram with wq := s.dram.wq ++ [r] } } := by
    rw [serve, if_pos hw, htaken, hwq]
  have hbuf : (drTaken r (drQueued r es s)).dram.p0 = s.dram.p0 ∧ ((drQueued r es s).dram.panic = false ∨ s.dram.p0 = 0) := by
    rw [htaken]
    by_cases hr : r.port = 0
    · have hempty : s.dram.p0 = 0 := h0.resolve_left (absurd hr)
      simp [hr, hw, hp0 ⟨hr, hw⟩, hempty]
    · obtain ⟨-, -, hnpan, hnp0, -⟩ := (noteErrs_onlyErrs r.addr es s).2.1.kept
      have hq := hplain fun h => hr h.1
      rw [hq]
      simp [hr, hnpan, hnp0, hpan]
  obtain ⟨kwq, kwait, kp0, kmem, kregs, klast⟩ := panicEnd_kept (serve r (drTaken r (drQueued r es s)))
  have hover := panicEnd_over (serve r (drTaken r (drQueued r es s)))
  rw [hserve] at kwq kwait kp0 kmem kregs klast hover ht
  rw [ht, kwq, kwait, kp0, kmem, kregs, klast]
  refine ⟨rfl, by simp [htaken], hbuf.1, hover (hbuf.2.imp (fun h => by simp [htaken, h]) fun h => hbuf.1.trans h), hmem, hregs, hlast⟩

theorem served_read (hw : r.write = false) (t : State) (ht : t = panicEnd (serve r (drTaken r (drQueued r es s)))) :
    t.dram.wq = s.dram.wq ∧ t.dram.wait = [] ∧ t.dramMem = s.dramMem ∧ t.regs = s.regs ∧ t.lastRead = readWords s r.addr ++
      [if wqCovers s r.addr = false ∧ (∃ x ∈ beats r.addr, x ∈ (noteErrs r.addr es s).dram.badU) then 1 else 0] := by
  obtain ⟨hmem, hregs, -, hwq⟩ := drQueued_kept r es s
  obtain ⟨-, -, hplain⟩ := drQueued_alone (es := es) hwait h0
  obtain ⟨tn, c, n, htaken⟩ := drTaken_dram r (drQueued r es s)
  obtain ⟨e, ⟨⟨-, -, -, eregs, -, -, -, emem, -⟩, hmarked, -⟩, hread⟩ := doRead_answer r.addr (drTaken r (drQueued r es s))
  obtain ⟨-, -, -, -, -, -, ewq, ewait⟩ := hmarked.kept
  have hq := hplain fun h => absurd (hw.symm.trans h.2) (by decide)
  have htwq : (drTaken r (drQueued r es s)).dram.wq = s.dram.wq := by simp [htaken, hwq]
  have hbad : (drTaken r (drQueued r es s)).dram.badU = (noteErrs r.addr es s).dram.badU := by rw [htaken, hq]
  obtain ⟨kwq, kwait, -, kmem, kregs, klast⟩ := panicEnd_kept (serve r (drTaken r (drQueued r es s)))
  rw [serve, if_neg (by simp [hw]), hread] at kwq kwait kmem kregs klast ht
  rw [ht, kwq, kwait, kmem, kregs, klast]
  refine ⟨ewq.trans htwq, ewait.trans (by simp [htaken]), emem.trans hmem, eregs.trans hregs, ?_⟩
  dsimp only
  rw [readWords_congr htwq hmem]
  simp only [readBad, wqCovers_congr htwq, hbad]

end
end

/-! ### The statement -/

/-- Settles O43: a request by whether the memory is open, failed or neither; on open memory by panic, its port and the room it finds. -/
theorem dramRequests : Obligations.DramRequests := by
  intro s p a bs m es hs b u
  simp only [exec_dramPortRequest hs]
  have hp := p.isLt
  refine ⟨fun ho hwait hpan h0 => ⟨fun hroom => ?write, fun hfull hp0 => ?full, ?read⟩, fun ho hwait hpan hclr hp0 hshare w => ?share,
    fun hc hst w hw => ?closed, fun hc hp0 => ⟨fun hroom => ?buffered, fun hfull => ?lost⟩, fun hst w hw => ?failed⟩
  case write => exact ⟨_, congrArg _ (drRequest_served hwait ho hpan h0 hp (.inr hroom)), served_write hwait h0 hpan rfl _ rfl⟩
  case full =>
    obtain ⟨hmem, -, -, hwq⟩ := drQueued_kept ⟨p.val, true, b, bs, m.toNat⟩ es s
    exact ⟨_, congrArg _ (drRequest_full hwait ho hpan hp0 rfl hfull), hwq, (drQueued_alone hwait h0).1, hmem⟩
  case read =>
    obtain ⟨hwq, hwt, hmem, hregs, hlast⟩ := served_read (r := ⟨p.val, false, b, bs, m.toNat⟩) (es := es) hwait h0 rfl _ rfl
    exact ⟨_, readWords s b, congrArg _ (drRequest_served hwait ho hpan h0 hp (.inl rfl)), hwq, hwt, hmem, hregs, hlast, readWords_length s b,
      fun i hi => readWords_byte s b hi⟩
  case share => exact congrArg _ (drRequest_share hwait ho hpan hclr hp0 hshare)
  case closed =>
    refine ⟨_, congrArg _ ((drRequest_closed hc (.inl hst)).trans (drWait_plain _ hw)), ?_⟩
    simp [b]
  case buffered =>
    obtain ⟨hdram, hmem, hregs, hlast⟩ := drReached_kept s
    obtain ⟨-, -, -, -, -, wlast, -, wmem, -⟩ := drWait_keepsPath ⟨p.val, true, b, bs, m.toNat⟩ (drReached s)
    have hlevel : drPanic_PANIC_LEVEL (drReached s) = drPanic_PANIC_LEVEL s := congrArg (fun l => fld (tget regReset l drPanicAt) 31 16) hregs
    have hd := drWait_p0 (r := ⟨p.val, true, b, bs, m.toNat⟩) (drReached s) ⟨hp0, rfl⟩ (hdram ▸ hroom)
    rw [hdram, hlevel] at hd
    exact ⟨_, congrArg _ (drRequest_closed hc (.inr ⟨hp0, rfl⟩)), congrArg DramSt.p0 hd, (congrArg DramSt.wait hd).trans (by simp only [hp0]),
      congrArg DramSt.panic hd, wmem.trans hmem, wlast.trans hlast⟩
  case lost =>
    obtain ⟨hd, hmem⟩ := p0Lost_dram (drReached s)
    refine ⟨_, congrArg _ ((drRequest_closed hc (.inr ⟨hp0, rfl⟩)).trans (drWait_lost _ ⟨hp0, rfl⟩ (by simpa using hfull))), ?_⟩
    rw [hd, hmem]
    simp
  case failed =>
    exact ⟨_, congrArg _ (drRequest_failed hst hw), rfl, (eccUncorr_kept b s).2, by simp [eccUncorr], raise_latched pDRAM 5 _ (by decide)⟩

end Sys2Proof.Machine
end

section
/-! SUPPORT. The upkeep of the external memory: tracking, ZQCS, refreshes, scrubbing, and the drain of the write queue (R307, R310, R314, R317). -/

namespace Sys2Proof.Machine

section
variable {s : State} (hs : s.supply.held = false)
include hs

theorem exec_dramTrackRound {cs : List Nat} : exec (.dramTrackRound cs) s = .next (drTrack cs s) := act_live hs
theorem exec_dramZqcs : exec .dramZqcs s = .next (drZqcs s) := act_live hs
theorem exec_dramRefresh {r : Fin 2} : exec (.dramRefresh r) s = .next (drRefresh r.val s) := act_live hs
theorem exec_dramScrub {es : List (Nat × Bool)} : exec (.dramScrub es) s = .next (drScrub es s) := act_live hs
theorem exec_dramWriteDrain : exec .dramWriteDrain s = .next (drDrain s) := act_live hs
theorem exec_dramSrEnter : exec .dramSrEnter s = .next (srEnter s) := act_live hs
theorem exec_dramSrExit {cs : List Nat} : exec (.dramSrExit cs) s = .next (srExit cs s) := act_live hs

end

/-! ### Tracking (R307) -/

/-- A tracking round is due. -/
abbrev trackIsDue (s : State) : Prop :=
  s.dram.trackDue = true ∨ (drTrain_TRACK_MS s ≠ 0 ∧ s.dram.lastTrack + drTrain_TRACK_MS s * 1000000 ≤ s.clk)

@[simp] theorem trackLanes_length (cs : List Nat) (ls : List DrLane) : (trackLanes cs ls).length = ls.length := by simp [trackLanes]

theorem stepTo_near (d c : Nat) : stepTo d c ≤ d + 1 ∧ d ≤ stepTo d c + 1 := by
  unfold stepTo
  split
  · omega
  split <;> omega

/-- A round moves a lane's read delay one step at most, and nothing else of it. -/
theorem trackLanes_lane {cs : List Nat} {ls : List DrLane} {i : Nat} {x y : DrLane} (hx : ls[i]? = some x) (hy : (trackLanes cs ls)[i]? = some y) :
    y.rdEye = x.rdEye ∧ y.wrDly = x.wrDly ∧ y.rdDly ≤ x.rdDly + 1 ∧ x.rdDly ≤ y.rdDly + 1 := by
  obtain ⟨hi, rfl⟩ := List.getElem?_eq_some_iff.1 hx
  have hlane : (trackLanes cs ls)[i]? = some { ls[i] with rdDly := stepTo ls[i].rdDly (cs.getD i ls[i].rdDly) } := by
    simp [trackLanes, hi]
  obtain rfl := Option.some.inj (hlane.symm.trans hy)
  exact ⟨rfl, rfl, stepTo_near ..⟩

section
variable {s : State} {cs : List Nat}

theorem drTrack_due (h : memOpen s = true) (hp : s.dram.panic = false) (hd : trackIsDue s) :
    drTrack cs s = { s with dram := { s.dram with lanes := trackLanes cs s.dram.lanes, trackDue := false, lastTrack := s.clk } } :=
  if_pos (by simpa [h, hp, State.passed] using hd)

theorem drTrack_not (h : memOpen s = false ∨ s.dram.panic = true ∨ ¬ trackIsDue s) : drTrack cs s = s :=
  if_neg fun hall => by
    simp only [Bool.and_eq_true, Bool.or_eq_true, decide_eq_true_eq, Bool.not_eq_true', State.passed] at hall
    obtain ⟨⟨ho, hd⟩, hp⟩ := hall
    rcases h with h | h | h
    · simp [h] at ho
    · simp [h] at hp
    · exact h hd

/-! ### ZQCS (R307) and refreshes (R314) -/

theorem drZqcs_due (h : memOpen s = true) (ht : s.dram.lastZq + drTrain_ZQ_MS s * 1000000 ≤ s.clk) :
    drZqcs s = { s with dram := { s.dram with lastZq := s.clk } } := if_pos (by simp [h, ht, State.passed])

theorem drZqcs_not (h : memOpen s = false ∨ s.clk < s.dram.lastZq + drTrain_ZQ_MS s * 1000000) : drZqcs s = s :=
  if_neg (by rcases h with h | h <;> simp [h, State.passed])

/-- The refreshes owed to a rank once one more has fallen due. -/
def refOwed (d : DramSt) (n : Nat) : Nat := if d.panic = true ∧ n < 8 then n + 1 else 0

theorem drRefresh_rank0 (h : memOpen s = true) (hr : 0 < drRanks s) (ht : s.dram.lastRef0 + refiNs s ≤ s.clk) :
    drRefresh 0 s = { s with dram := { s.dram with post0 := refOwed s.dram s.dram.post0, lastRef0 := s.clk } } := by
  simp [drRefresh, refOwed, h, hr, ht, State.passed]

theorem drRefresh_rank1 (h : memOpen s = true) (hr : 1 < drRanks s) (ht : s.dram.lastRef1 + refiNs s ≤ s.clk) :
    drRefresh 1 s = { s with dram := { s.dram with post1 := refOwed s.dram s.dram.post1, lastRef1 := s.clk } } := by
  simp [drRefresh, refOwed, h, hr, ht, State.passed]

theorem drRefresh_not {r : Nat} (h : memOpen s = false ∨ drRanks s ≤ r ∨ s.clk < (if r = 0 then s.dram.lastRef0 else s.dram.lastRef1) + refiNs s) :
    drRefresh r s = s :=
  if_neg fun hall => by
    simp only [Bool.and_eq_true, decide_eq_true_eq, State.passed] at hall
    obtain ⟨⟨ho, hr⟩, ht⟩ := hall
    rcases h with h | h | h
    · simp [h] at ho
    · omega
    · omega

end

/-! ### Scrubbing (R317) -/

/-- One beat of a scrub burst: read, and written back where that corrects it. -/
def scrubBeat (t : State) (x : Nat) : State :=
  let t1 := eccRead x t
  if x ∈ t1.dram.badU then t1 else { t1 with dram := { t1.dram with badC := t1.dram.badC.filter (fun y => decide (y ≠ x)) } }

theorem scrubBeat_badU (t : State) (x : Nat) : (scrubBeat t x).dram.badU = t.dram.badU := by
  unfold scrubBeat
  dsimp only
  split <;> exact (eccRead_marks x t).1

theorem scrubBeat_badC (t : State) (x : Nat) : (∀ y ∈ (scrubBeat t x).dram.badC, y ∈ t.dram.badC) ∧ (x ∉ t.dram.badU → x ∉ (scrubBeat t x).dram.badC) := by
  obtain ⟨hu, hc⟩ := eccRead_marks x t
  unfold scrubBeat
  dsimp only
  rw [hu]
  split
  case isTrue h => exact ⟨fun y hy => hc ▸ hy, fun hn => absurd h hn⟩
  case isFalse => exact ⟨fun y hy => hc ▸ (List.mem_filter.1 hy).1, fun _ hx => by simpa using (List.mem_filter.1 hx).2⟩

/-- After a scrub of some beats each of them is uncorrectable or has no error left, and no beat has become correctable. -/
theorem scrubBeats_clean (l : List Nat) : ∀ t : State, (l.foldl scrubBeat t).dram.badU = t.dram.badU ∧
    (∀ y ∈ (l.foldl scrubBeat t).dram.badC, y ∈ t.dram.badC) ∧ ∀ x ∈ l, x ∉ t.dram.badU → x ∉ (l.foldl scrubBeat t).dram.badC := by
  induction l with
  | nil => exact fun t => ⟨rfl, fun _ h => h, fun _ h => absurd h (by simp)⟩
  | cons x l ih =>
    intro t
    obtain ⟨hu, hc, hclean⟩ := ih (scrubBeat t x)
    obtain ⟨hsub, hx⟩ := scrubBeat_badC t x
    rw [List.foldl_cons]
    refine ⟨hu.trans (scrubBeat_badU t x), fun y hy => hsub y (hc y hy), fun y hy hyu => ?_⟩
    rcases List.mem_cons.1 hy with rfl | hy
    · exact fun hyc => hx hyu (hc y hyc)
    · exact hclean y hy (by rwa [scrubBeat_badU])

section
variable {s : State} {es : List (Nat × Bool)}

/-- A burst due leaves its beats clean or uncorrectable, and goes on to the next burst address in order. -/
theorem drScrub_due (h : memOpen s = true) (hus : drScrub_SCRUB_US s ≠ 0) (ht : s.dram.lastScrub + drScrub_SCRUB_US s * 1000 ≤ s.clk)
    (hp : s.dram.panic = false) (hw : s.dram.wait = []) : ∃ u : State, (∀ x ∈ beats s.dram.scrubAddr, x ∉ u.dram.badU → x ∉ u.dram.badC) ∧
      drScrub es s = { u with dram := { u.dram with
        lastScrub := s.clk, scrubAddr := if s.dram.scrubAddr + 32 < s.dram.cap * 4096 then s.dram.scrubAddr + 32 else 0 } } := by
  obtain ⟨hbad, -, hclean⟩ := scrubBeats_clean (beats s.dram.scrubAddr) (noteErrs s.dram.scrubAddr es s)
  refine ⟨_, fun x hx hxu => hclean x hx (hbad ▸ hxu), ?_⟩
  delta drScrub scrubBeat
  exact if_pos (by simp [h, hus, ht, hp, hw, State.passed])

theorem drScrub_not (h : memOpen s = false ∨ drScrub_SCRUB_US s = 0 ∨ s.clk < s.dram.lastScrub + drScrub_SCRUB_US s * 1000 ∨ s.dram.panic = true ∨ s.dram.wait ≠ []) :
    drScrub es s = s :=
  if_neg (by rcases h with h | h | h | h | h <;> simp [h, State.passed])

end

/-! ### The drain of the write queue (R310) -/

theorem setDramW_marked (s : State) (a : Nat) (w : Word) : s.dram.marked (s.setDramW a w).dram := ⟨_, _, _, _, _, _, rfl⟩

/-- A write carried out changes the memory, the marks and the log alone of the controller. -/
theorem doWrite_marked (r : DrReq) (s : State) : s.dram.marked (doWrite r s).dram := by
  have hbyte : ∀ (m a : Nat) (b : Nat → Byte) (t : State), s.dram.marked t.dram →
      s.dram.marked ((List.range 4).foldl (fun u j => if m.testBit j then u.setDramB (a + j) (b j) else u) t).dram := fun m a b t ht =>
    foldl_keeps (fun u : State => s.dram.marked u.dram) _ (fun u j hu => by split <;> exact hu) _ t ht
  unfold doWrite
  dsimp only
  refine foldl_keeps (fun t : State => s.dram.marked t.dram) _ (fun t i ht => ?beat) _ _ ?start
  case start =>
    split
    · exact (eccReads_onlyErrs (beats r.addr) s).2.1.trans ⟨_, _, _, _, _, _, rfl⟩
    · exact .refl _
  case beat =>
    split
    · exact ht
    split
    · exact ht.trans (setDramW_marked ..)
    · exact hbyte _ _ _ t ht

/-- What is written out leaves the queue from its front, and the controller as it was but for marks and log. -/
theorem drainWq_dram : ∀ (n : Nat) (s : State), ({ s.dram with wq := s.dram.wq.drop n } : DramSt).marked (drainWq n s).dram
  | 0, s => .refl _
  | n + 1, s => by
    unfold drainWq
    split
    case h_1 h => 
      have hd : ({ s.dram with wq := s.dram.wq.drop (n + 1) } : DramSt) = s.dram := by rw [h, List.drop_nil, ← h]
      rw [hd]
      exact .refl _
    case h_2 r t h =>
      refine DramSt.marked.trans ?_ (drainWq_dram n _)
      obtain ⟨_, _, _, _, _, _, hm⟩ := doWrite_marked r { s with dram := { s.dram with wq := t } }
      rw [hm, h]
      exact ⟨_, _, _, _, _, _, rfl⟩

theorem drainWq_all (s : State) : ({ s.dram with wq := [] } : DramSt).marked (drainWq s.dram.wq.length s).dram := by
  simpa using drainWq_dram s.dram.wq.length s

section
variable {s : State}

/-- The accounts a drain settles after the queue: P0's buffer holds what of it still waits, and panic may end. -/
def drainSettled (s : State) : State :=
  panicEnd { s with dram := { s.dram with p0 := 32 * (s.dram.wait.filter (fun r => decide (r.port = 0) && r.write)).length } }

theorem drDrain_open (h : memOpen s = true) {s1 : State}
    (h1 : s1 = if s.dram.wait.any (fun r => !r.write) then (if (wqMarks s).1 ≤ s.dram.wq.length then drainWq (s.dram.wq.length - (wqMarks s).2) s else s)
      else drainWq s.dram.wq.length s) :
    drDrain s = arbitrate (drainSettled (arbitrate s1.dram.wait.length s1)).dram.wait.length (drainSettled (arbitrate s1.dram.wait.length s1)) := by
  subst h1
  exact if_pos h

theorem drDrain_closed (h : memOpen s = false) : drDrain s = s := if_neg (by simp [h])

/-- With nothing waiting the whole queue goes out, and with it the buffer and the panic. -/
theorem drDrain_all (h : memOpen s = true) (hw : s.dram.wait = []) : (drDrain s).dram.wq = [] ∧ (drDrain s).dram.p0 = 0 ∧ (drDrain s).dram.panic = false := by
  obtain ⟨-, -, -, -, -, -, hwq, hwait⟩ := (drainWq_all s).kept
  rw [drDrain_open h rfl]
  simp only [hw, List.any_nil, Bool.false_eq_true, if_false]
  generalize drainWq s.dram.wq.length s = u at hwq hwait ⊢
  replace hwait : u.dram.wait = [] := hwait.trans hw
  have hfirst : arbitrate u.dram.wait.length u = u := by rw [hwait]; rfl
  rw [hfirst]
  obtain ⟨kwq, kwait, kp0, -⟩ := panicEnd_kept { u with dram := { u.dram with p0 := 32 * (u.dram.wait.filter (fun r => decide (r.port = 0) && r.write)).length } }
  have hp0 : (drainSettled u).dram.p0 = 0 := kp0.trans (by simp [hwait])
  have hlast : arbitrate (drainSettled u).dram.wait.length (drainSettled u) = drainSettled u := by
    rw [show (drainSettled u).dram.wait = [] from kwait.trans hwait]
    rfl
  rw [hlast]
  exact ⟨kwq.trans hwq, hp0, panicEnd_over _ (.inr (by simp [hwait]))⟩

/-- A read waits and the queue is below WQ_HI: nothing goes out. -/
theorem drDrain_reads (h : memOpen s = true) (hr : ∃ x ∈ s.dram.wait, x.write = false) (hlt : s.dram.wq.length < (wqMarks s).1) :
    (drDrain s).dramMem = s.dramMem := by
  have hany : s.dram.wait.any (fun r => !r.write) = true := by simpa [List.any_eq_true] using hr
  have hsettled : ∀ t : State, (drainSettled t).dramMem = t.dramMem := fun t => (panicEnd_kept _).2.2.2.1
  rw [drDrain_open h rfl, if_pos hany, if_neg (Nat.not_le.2 hlt), arbitrate_dramMem, hsettled, arbitrate_dramMem]

end

end Sys2Proof.Machine
end

section
/-! SUPPORT. Self-refresh of the external memory: entering it on the power manager's request and leaving it, and the statement of the upkeep (R307, R310, R313
to R315, R317, R318). -/

namespace Sys2Proof.Machine

/-! ### What leaves the domains and self-refresh as they are -/

/-- `t` has the domains and the self-refresh of `s`, and every event latched in `s`. -/
structure State.domsKept (s t : State) : Prop where
  doms : t.pwr.doms = s.pwr.doms
  selfref : t.dram.selfref = s.dram.selfref
  latched : ∀ p b, bit (s.page p).stat b = true → bit (t.page p).stat b = true

theorem State.domsKept.refl (s : State) : s.domsKept s := ⟨rfl, rfl, fun _ _ h => h⟩

theorem State.domsKept.trans {s t u : State} (h : s.domsKept t) (h' : t.domsKept u) : s.domsKept u :=
  ⟨h'.doms.trans h.doms, h'.selfref.trans h.selfref, fun p b hb => h'.latched p b (h.latched p b hb)⟩

/-- An update that leaves the power manager, self-refresh and the page headers. -/
theorem State.domsKept.of_eq {s t : State} (hp : t.pwr = s.pwr) (hd : t.dram.selfref = s.dram.selfref) (hh : t.hdr = s.hdr) : s.domsKept t :=
  ⟨congrArg PwrSt.doms hp, hd, fun p b h => by rwa [show t.page p = s.page p from congrArg (tget hdr0 · p) hh]⟩

theorem State.domsKept.dom {s t : State} (h : s.domsKept t) (d : Nat) : t.dom d = s.dom d := congrArg (tget dom0 · d) h.doms

/-- A wake moves the hub, not a domain. -/
theorem wakeHub_doms (s : State) : (wakeHub s).pwr.doms = s.pwr.doms := by
  unfold wakeHub
  split <;> split <;> simp

theorem raise_domsKept (p b : Nat) (s : State) : s.domsKept (raise p b s) := by
  refine ⟨?_, by simp, fun q i h => raise_stat_mono p b s q i h⟩
  obtain h | h := raise_cases p b s
  · rw [h]; simp
  · rw [h, wakeHub_doms]; simp

section
variable {s t : State} (h : s.domsKept t)
include h

theorem State.domsKept.raise (p b : Nat) : s.domsKept (raise p b t) := h.trans (raise_domsKept p b t)

theorem State.domsKept.raiseIf (c : Bool) (p b : Nat) : s.domsKept (raiseIf c p b t) := by
  cases c
  · exact h
  · exact h.raise p b

theorem State.domsKept.store (x : StoreSt) : s.domsKept { t with store := x } := h.trans (.of_eq rfl rfl rfl)

theorem State.domsKept.setStr (n : Nat) (x : StrSt) : s.domsKept (t.setStr n x) := h.trans (.of_eq rfl rfl rfl)

theorem State.domsKept.setDma (n : Nat) (x : DmaCh) : s.domsKept (t.setDma n x) := h.trans (.of_eq rfl rfl rfl)

theorem State.domsKept.setDramW (a : Nat) (w : Word) : s.domsKept (t.setDramW a w) :=
  h.trans (.of_eq (by simp [State.setDramW, State.healBeat]) (by simp [State.setDramW, State.healBeat]) (by simp [State.setDramW, State.healBeat]))

theorem State.domsKept.setDramWs (a : Nat) (ws : List Word) : s.domsKept (t.setDramWs a ws) :=
  foldl_keeps s.domsKept _ (fun _ _ hu => hu.setDramW _ _) _ t h

end

/-! ### The reserve copied (R291, R423) -/

section
variable {s t : State} (h : s.domsKept t)
include h

theorem State.domsKept.ledgerRing (e : List Word) : s.domsKept (ledgerRing e t) := by
  unfold Machine.ledgerRing
  dsimp only
  split
  · exact (h.store _).raise _ _
  · exact (((h.setDramWs _ _).store _).raiseIf _ _ _).raiseIf _ _ _

theorem State.domsKept.ledgerNow (body : List Word) : s.domsKept (ledgerNow body t) := by
  unfold Machine.ledgerNow
  dsimp only
  split
  · split
    · exact (h.store _).raiseIf _ _ _
    · exact (h.store _).raise _ _
  · exact h.ledgerRing _

theorem State.domsKept.rangeEntry (n reason first last words nmem : Nat) : s.domsKept (rangeEntry n reason first last words nmem t) := by
  unfold Machine.rangeEntry ledgerPut
  split
  · exact h.store _
  · exact (h.ledgerNow _).raiseIf _ _ _

theorem State.domsKept.overwritten (n : Nat) (p : Pkt) : s.domsKept (overwritten n p t) := by
  have hgap := (h.setStr n { t.str n with gapNext := true }).raise pQUE 3
  unfold Machine.overwritten
  split
  · exact h
  · dsimp only
    split
    · exact hgap
    · exact hgap.rangeEntry ..

omit h in
theorem State.domsKept.putRing (base r : Nat) : ∀ (ws : List Word) (ofs : Nat) {t : State}, s.domsKept t → s.domsKept (putRing base r ofs ws t)
  | [], _, _, h => h
  | _ :: ws, _, _, h => State.domsKept.putRing base r ws _ (h.setDramW _ _)

theorem State.domsKept.regionPut (n : Nat) (p : Pkt) (ws : List Word) : s.domsKept (regionPut n p ws t) := by
  unfold Machine.regionPut
  dsimp only
  split
  · exact h
  split
  · split
    · exact h.setStr _ _
    · exact (h.setStr _ _).rangeEntry ..
  · exact (State.domsKept.putRing _ _ _ _ (foldl_keeps s.domsKept _ (fun _ q hu => hu.overwritten n q) _ t h)).setStr _ _

theorem State.domsKept.copyReserve : s.domsKept (copyReserve t) := by
  unfold Machine.copyReserve
  dsimp only
  refine foldl_keeps s.domsKept _ (fun u n hu => ?_) _ _ (foldl_keeps s.domsKept _ (fun _ e hu => hu.ledgerRing e) _ _ (h.store _))
  split
  · exact hu
  · exact foldl_keeps s.domsKept _ (fun _ p ha => ha.regionPut n p _) _ _ (hu.setStr _ _)

/-! ### The channels that run again (R331) -/

theorem State.domsKept.dmaRaise (c b : Nat) : s.domsKept (dmaRaise c b t) := by
  unfold Machine.dmaRaise
  dsimp only
  split
  · exact h
  · exact (h.setDma _ _).raise _ _

theorem State.domsKept.dmaWake (c : Nat) : s.domsKept (dmaWake c t) := by
  unfold Machine.dmaWake
  dsimp only
  split
  · exact (h.setDma _ _).dmaRaise _ _
  · exact h

theorem State.domsKept.dmaPwrFree (d : Nat) (auto : Bool) : s.domsKept (dmaPwrFree d auto t) := by
  have hended : s.domsKept (dmaPwrEnd d t) := h.trans (.of_eq rfl rfl rfl)
  refine foldl_keeps s.domsKept _ (fun u c hu => ?_) _ _ hended
  split
  · exact (hu.setDma _ _).dmaWake _
  · exact hu

end

/-! ### Entering and leaving (R318) -/

/-- A domain set reads so; self-refresh and the events latched stay. -/
theorem domSet_set (d st : Nat) (s : State) : ((domSet d st s).dom d).st = st ∧ (domSet d st s).dram = s.dram ∧
    ∀ p b, bit (s.page p).stat b = true → bit ((domSet d st s).page p).stat b = true := by
  have hkept := (State.domsKept.refl (s.setDom d { s.dom d with st := st, waking := none, toSr := false })).raiseIf (decide ((s.dom d).st ≠ st)) pPWR 1
  refine ⟨?_, by simp [domSet], fun p b h => hkept.latched p b h⟩
  exact (congrArg DomSt.st (hkept.dom d)).trans (by simp)

section
variable {s : State}

theorem srEnter_open (ht : (s.dom 18).toSr = true) (h : memOpen s = true) (hp : s.dram.panic = false ∨ s.dram.p0 = 0) : ∃ d, DramSt.marked { s.dram with wq := [] } d ∧
    ∃ u : State, u.dram = { d with selfref := true } ∧ bit (u.page pDRAM).stat 6 = true ∧ srEnter s = domSet 18 3 u := by
  obtain ⟨hst, hsr⟩ := (memOpen_iff s).1 h
  have henter : drSrEnter s = raise pDRAM 6 { drainWq s.dram.wq.length s with dram := { (drainWq s.dram.wq.length s).dram with selfref := true } } :=
    if_pos (by rcases hp with hp | hp <;> simp [h, hp])
  refine ⟨_, drainWq_all s, drSrEnter s, by simp [henter], by rw [henter]; exact raise_latched pDRAM 6 _ (by decide), ?_⟩
  unfold srEnter
  simp [ht, hsr, hst, henter]

theorem srEnter_empty (ht : (s.dom 18).toSr = true) (hsr : s.dram.selfref = false) (h1 : s.dram.st ≠ 1) (h2 : s.dram.st ≠ 2) :
    srEnter s = domSet 18 3 (raise pDRAM 6 { s with dram := { s.dram with selfref := true } }) := by
  simp [srEnter, ht, hsr, h1, h2]

theorem srEnter_not (h : (s.dom 18).toSr = false ∨ s.dram.selfref = true ∨ s.dram.st = 1 ∨ (s.dram.st = 2 ∧ s.dram.panic = true ∧ s.dram.p0 ≠ 0)) :
    srEnter s = s := by
  unfold srEnter
  rcases h with h | h | h | ⟨h2, hp, h0⟩
  · simp [h]
  · simp [h]
  · simp [h]
  · have hwaits : drSrEnter s = s := if_neg (by simp [hp, h0])
    cases hsr : s.dram.selfref <;> simp [h2, hwaits, hsr]

variable {cs : List Nat}

/-- The memory out of self-refresh, its domain ON, the channels it had paused running on. -/
def srLeft (cs : List Nat) (s : State) : State := dmaPwrFree 18 true (domSet 18 0 (drSrExit cs { s with dram := { s.dram with p1Wait := false } }))

theorem srExit_now (hsr : s.dram.selfref = true) (hw : srExitWanted s = true) (h : s.pwr.state ≠ 3 ∨ s.pwr.move.isSome) :
    (srLeft cs s).domsKept (srExit cs s) := by
  have hcond : s.dram.selfref = true ∧ srExitWanted s = true ∧ s.pwr.state ≠ 3 ∨ s.dram.selfref = true ∧ s.pwr.move.isSome ∧ srExitWanted s = true :=
    h.imp (fun h => ⟨hsr, hw, h⟩) fun h => ⟨hsr, h, hw⟩
  have hleft : srExit cs s = if memOpen (srLeft cs s) ∧ ((srLeft cs s).pwr.state ≠ 2 ∨ 3072 ≤ (srLeft cs s).store.rsvLedger.length)
      then copyReserve (srLeft cs s) else srLeft cs s := by
    unfold srExit srLeft
    rw [if_pos hcond]
  rw [hleft]
  split
  · exact (State.domsKept.refl _).copyReserve
  · exact .refl _

theorem srExit_not (h : s.dram.selfref = false ∨ srExitWanted s = false ∨ (s.pwr.state = 3 ∧ s.pwr.move = none)) : srExit cs s = s :=
  if_neg (by rcases h with h | h | ⟨h3, hm⟩ <;> simp [*])

theorem srLeft_spec (hsr : s.dram.selfref = true) :
    (srLeft cs s).dram.selfref = false ∧ ((srLeft cs s).dom 18).st = 0 ∧ bit ((srLeft cs s).page pDRAM).stat 6 = true := by
  have hexit : ∃ u, drSrExit cs { s with dram := { s.dram with p1Wait := false } } = raise pDRAM 6 u ∧ u.dram.selfref = false := ⟨_, if_pos hsr, rfl⟩
  obtain ⟨u, hu, huref⟩ := hexit
  obtain ⟨hdom, hdram, hstat⟩ := domSet_set 18 0 (raise pDRAM 6 u)
  have hkept := (State.domsKept.refl (domSet 18 0 (raise pDRAM 6 u))).dmaPwrFree 18 true
  rw [srLeft, hu, hkept.selfref, hkept.dom]
  exact ⟨by rw [hdram]; simpa using huref, hdom, hkept.latched _ _ (hstat _ _ (raise_latched pDRAM 6 _ (by decide)))⟩

end

/-! ### The statement -/

/-- Settles O42: each upkeep command by whether it is due and the memory open for it. -/
theorem dramUpkeep : Obligations.DramUpkeep := by
  refine ⟨fun s src h => ?track, fun s cs hs => ?round, fun s hs => ?zqcs, fun s r hs => ?refresh, fun s es hs => ?scrub, fun s hs => ?drain,
    fun s hs => ?enter, fun s cs hs => ?exit⟩
  case track =>
    rw [exec_drCmdTrack h]
    exact ⟨fun ho => congrArg _ (if_pos ho), fun hc => congrArg _ (if_neg (by simp [hc]))⟩
  case round =>
    rw [exec_dramTrackRound hs]
    refine ⟨fun ho hp hd => ⟨_, congrArg _ (drTrack_due ho hp hd), rfl, rfl, trackLanes_length .., rfl, fun i x y hx hy => trackLanes_lane hx hy⟩,
      fun hn => congrArg _ (drTrack_not hn)⟩
  case zqcs =>
    rw [exec_dramZqcs hs]
    exact ⟨fun ho ht => congrArg _ (drZqcs_due ho ht), fun hn => congrArg _ (drZqcs_not hn)⟩
  case refresh =>
    rw [exec_dramRefresh hs]
    refine ⟨fun ho hr ht => ?due, fun hn => congrArg _ (drRefresh_not hn)⟩
    case due =>
      match r, hr, ht with
      | 0, hr, ht => exact ⟨_, congrArg _ (drRefresh_rank0 ho hr ht), rfl, rfl, rfl, rfl, rfl, rfl⟩
      | 1, hr, ht => exact ⟨_, congrArg _ (drRefresh_rank1 ho hr ht), rfl, rfl, rfl, rfl, rfl, rfl⟩
  case scrub =>
    rw [exec_dramScrub hs]
    obtain ⟨-, -, -, -, -, -, -, hmem, -⟩ := drScrub_keepsPath es s
    refine ⟨fun ho hus ht hp hw => ?due, fun hn => congrArg _ (drScrub_not hn)⟩
    case due =>
      obtain ⟨u, hclean, hu⟩ := drScrub_due (es := es) ho hus ht hp hw
      exact ⟨_, congrArg _ hu, rfl, hu ▸ hmem, rfl, hclean⟩
  case drain =>
    rw [exec_dramWriteDrain hs]
    exact ⟨fun ho hw => ⟨_, rfl, drDrain_all ho hw⟩, fun ho hr hlt => ⟨_, rfl, drDrain_reads ho hr hlt⟩, fun hc => congrArg _ (drDrain_closed hc)⟩
  case enter =>
    rw [exec_dramSrEnter hs]
    refine ⟨fun ht ho hp => ?opened, fun ht hsr h1 h2 => ?empty, fun hn => congrArg _ (srEnter_not hn)⟩
    case opened =>
      obtain ⟨d, ⟨_, _, _, _, _, _, hd⟩, u, hu, hstat, henter⟩ := srEnter_open ht ho hp
      obtain ⟨hdom, hdram, hmono⟩ := domSet_set 18 3 u
      exact ⟨_, congrArg _ henter, by rw [hdram, hu], by rw [hdram, hu, hd], hdom, by rw [hdram, hu, hd], hmono _ _ hstat⟩
    case empty =>
      obtain ⟨hdom, hdram, hmono⟩ := domSet_set 18 3 (raise pDRAM 6 { s with dram := { s.dram with selfref := true } })
      exact ⟨_, congrArg _ (srEnter_empty ht hsr h1 h2), hdram.trans (by simp), hdom, hmono _ _ (raise_latched pDRAM 6 _ (by decide))⟩
  case exit =>
    rw [exec_dramSrExit hs]
    refine ⟨fun hsr hw h => ?now, fun hn => congrArg _ (srExit_not hn)⟩
    obtain ⟨href, hdom, hstat⟩ := srLeft_spec (cs := cs) hsr
    have hkept := srExit_now (cs := cs) hsr hw h
    exact ⟨_, rfl, hkept.selfref.trans href, by rw [hkept.dom]; exact hdom, hkept.latched _ _ hstat⟩

end Sys2Proof.Machine
end

section
/-! SUPPORT. The block mover's shared operations: what its events, the end of a burst, an error and an acknowledgement make of a channel, and what they leave
(R323, R324, R326, R329). -/

namespace Sys2Proof.Machine

/-! ### Events of a channel -/

/-- `t` has the registers, the on-chip memory, the external memory and its controller of `s`. -/
structure State.besideDma (s t : State) : Prop where
  regs : t.regs = s.regs
  sram : t.sram = s.sram
  dramMem : t.dramMem = s.dramMem
  dram : t.dram = s.dram

theorem State.besideDma.refl (s : State) : s.besideDma s := ⟨rfl, rfl, rfl, rfl⟩

theorem State.besideDma.trans {s t u : State} (h : s.besideDma t) (h' : t.besideDma u) : s.besideDma u :=
  ⟨h'.regs.trans h.regs, h'.sram.trans h.sram, h'.dramMem.trans h.dramMem, h'.dram.trans h.dram⟩

/-- The registers of the block mover are read alike. -/
theorem State.besideDma.rw {s t : State} (h : s.besideDma t) (a : Nat) : t.rw a = s.rw a := congrArg (tget regReset · a) h.regs

section
variable (c b : Nat) (s : State)

theorem setDma_besideDma (x : DmaCh) : s.besideDma (s.setDma c x) := ⟨rfl, rfl, rfl, rfl⟩

theorem dmaRaise_besideDma : s.besideDma (dmaRaise c b s) := by
  unfold dmaRaise
  dsimp only
  split
  · exact .refl s
  · exact ⟨by simp, by simp, by simp, by simp⟩

/-- An event sets its flag in its channel, and nothing else of any. -/
theorem dmaRaise_dmaCh (m : Nat) : (dmaRaise c b s).dmaCh m = if m = c then { s.dmaCh c with flags := (s.dmaCh c).flags ||| 2 ^ b } else s.dmaCh m := by
  unfold dmaRaise
  dsimp only
  split
  case isTrue h =>
    have hset : (s.dmaCh c).flags ||| 2 ^ b = (s.dmaCh c).flags := by
      apply Nat.eq_of_testBit_eq
      intro i
      by_cases hi : i = b
      · subst hi; simp [h]
      · simp [Nat.testBit_two_pow_of_ne (Ne.symm hi)]
    split
    case isTrue hm => rw [hset, hm]
    case isFalse => rfl
  case isFalse => simp

theorem dmaRaise_flag : ((dmaRaise c b s).dmaCh c).flags.testBit b = true := by simp [dmaRaise_dmaCh]

end

/-! ### The burst boundary (R327 to R329) -/

theorem dmaSettle_cases (c : Nat) (s : State) : dmaSettle c s = s ∨ ∃ x b, dmaSettle c s = dmaRaise c b (s.setDma c x) ∧ x.out = (s.dmaCh c).out := by
  unfold dmaSettle
  dsimp only
  split
  · split
    · exact .inr ⟨_, _, rfl, rfl⟩
    · exact .inr ⟨_, _, rfl, rfl⟩
    · split
      · exact .inr ⟨_, _, rfl, rfl⟩
      · exact .inl rfl
  · exact .inl rfl

theorem dmaSettle_besideDma (c : Nat) (s : State) : s.besideDma (dmaSettle c s) := by
  obtain h | ⟨x, b, h, -⟩ := dmaSettle_cases c s <;> rw [h]
  · exact .refl s
  · exact (setDma_besideDma c s x).trans (dmaRaise_besideDma c b _)

theorem dmaSettle_out (c : Nat) (s : State) : ((dmaSettle c s).dmaCh c).out = (s.dmaCh c).out := by
  obtain h | ⟨x, b, h, hx⟩ := dmaSettle_cases c s <;> rw [h]
  simp [dmaRaise_dmaCh, hx]

section
variable {c : Nat} {s : State}

/-- A channel with a write outstanding is at no boundary. -/
theorem dmaSettle_writing (h : (s.dmaCh c).out ≠ []) : dmaSettle c s = s := by
  unfold dmaSettle
  dsimp only
  rw [if_neg (by simp [dmaIdle, h])]

/-- A transfer that is to end in error ends at the boundary. -/
theorem dmaSettle_error {r : Nat} (hst : (s.dmaCh c).st = 1) (hi : dmaIdle (s.dmaCh c) = true) (hf : (s.dmaCh c).fin = some (r + 1)) :
    dmaSettle c s = dmaRaise c 3 (s.setDma c { s.dmaCh c with st := 5, err := r + 1, fin := none, causeP := false, causeS := false }) := by
  unfold dmaSettle
  dsimp only
  rw [if_pos ⟨hst, hi⟩, hf]
  rfl

/-! ### Ends in error (R329) -/

/-- A running transfer with no write outstanding and no end decided ends in error at once. -/
theorem dmaFail_ends {r : Nat} (hst : (s.dmaCh c).st = 1) (ho : (s.dmaCh c).out = []) (hf : (s.dmaCh c).fin = none) :
    ((dmaFail c (r + 1) s).dmaCh c).st = 5 ∧ ((dmaFail c (r + 1) s).dmaCh c).err = r + 1 ∧ ((dmaFail c (r + 1) s).dmaCh c).flags.testBit 3 = true ∧
      s.besideDma (dmaFail c (r + 1) s) := by
  have hfail : dmaFail c (r + 1) s = dmaSettle c (s.setDma c { s.dmaCh c with rd := none, zlr := none, fin := some (r + 1) }) := by
    simp only [dmaFail, hst, ho, hf]
    simp [← ho]
  rw [hfail, dmaSettle_error (r := r) (by simpa using hst) (by simp [dmaIdle, ho]) (by simp)]
  exact ⟨by simp [dmaRaise_dmaCh], by simp [dmaRaise_dmaCh], dmaRaise_flag .., ((setDma_besideDma c s _).trans (setDma_besideDma c _ _)).trans (dmaRaise_besideDma ..)⟩

/-! ### Writes issued (R323) -/

theorem dmaWrites_ne_nil (desc : Bool) (w a : Nat) {bs : List Byte} (h : bs ≠ []) : dmaWrites desc w a bs ≠ [] := by
  cases bs with
  | nil => exact absurd rfl h
  | cons x xs => cases desc <;> simp [dmaWrites, dmaCut]

/-- The bytes of a burst are issued as writes; the channel runs on. -/
theorem dmaFill_issues {r : DmaRd} {bs : List Byte} (h : bs ≠ []) : (dmaFill c r bs s).dmaCh c =
    { s.dmaCh c with rd := none, out := (s.dmaCh c).out ++ dmaWrites (s.dmaCh c).desc (dmaW (dmaCtl_DST_W s c)) r.dst bs } := by
  unfold dmaFill
  dsimp only
  rw [dmaSettle_writing]
  · simp [dmaPortAsk]
  · simp [dmaPortAsk, dmaWrites_ne_nil _ _ _ h]

end

/-! ### An acknowledgement (R324, R326) -/

/-- SRC, DST and COUNT at what remains once `n` bytes are acknowledged. -/
def dmaMoved (c n : Nat) (s : State) : State :=
  let s1 := if (s.dmaCh c).desc then s
    else (((s.setRw (dmaSrcLoAt c) (word (dmaSrc s c + n))).setRw (dmaSrcHiAt c) (word ((dmaSrc s c + n) / 2 ^ 32))).setRw (dmaDstLoAt c)
      (word (dmaDst s c + n))).setRw (dmaDstHiAt c) (word ((dmaDst s c + n) / 2 ^ 32))
  s1.setRw (dmaCountAt c) (word (dmaCount_COUNT s c - n))

section
variable (c n : Nat) (s : State)

theorem dmaMoved_kept : (dmaMoved c n s).dma = s.dma ∧ (dmaMoved c n s).dram = s.dram ∧ (dmaMoved c n s).sram = s.sram ∧ (dmaMoved c n s).dramMem = s.dramMem := by
  unfold dmaMoved
  dsimp only
  split <;> simp

theorem dmaMoved_count : dmaCount_COUNT (dmaMoved c n s) c = dmaCount_COUNT s c - n := by
  have hlt : dmaCount_COUNT s c - n < 2 ^ 32 := Nat.lt_of_le_of_lt (Nat.sub_le _ _) (s.rw (dmaCountAt c)).isLt
  simp only [dmaMoved, dmaCount_COUNT, State.rw_setRw, if_true, word, BitVec.toNat_ofNat]
  exact Nat.mod_eq_of_lt hlt

/-- A 64-bit address kept in two words. -/
theorem toNat_words (a : Nat) : (word a).toNat + 2 ^ 32 * (word (a / 2 ^ 32)).toNat = a % 2 ^ 64 := by
  simp only [word, BitVec.toNat_ofNat]
  omega

theorem dmaMoved_ascending (h : (s.dmaCh c).desc = false) :
    dmaSrc (dmaMoved c n s) c = (dmaSrc s c + n) % 2 ^ 64 ∧ dmaDst (dmaMoved c n s) c = (dmaDst s c + n) % 2 ^ 64 := by
  rw [← toNat_words, ← toNat_words]
  constructor <;>
    simp [dmaMoved, h, dmaSrc, dmaDst, dmaSrcLo_SRC, dmaSrcHi_SRC, dmaDstLo_DST, dmaDstHi_DST, dmaSrcLoAt, dmaSrcHiAt, dmaDstLoAt, dmaDstHiAt, dmaCountAt]

theorem dmaMoved_descending (h : (s.dmaCh c).desc = true) : dmaSrc (dmaMoved c n s) c = dmaSrc s c ∧ dmaDst (dmaMoved c n s) c = dmaDst s c := by
  constructor <;>
    simp [dmaMoved, h, dmaSrc, dmaDst, dmaSrcLo_SRC, dmaSrcHi_SRC, dmaDstLo_DST, dmaDstHi_DST, dmaSrcLoAt, dmaSrcHiAt, dmaDstLoAt, dmaDstHiAt, dmaCountAt]

/-- The registers moved and the oldest write off the channel's list. -/
def dmaAcked : State := (dmaMoved c n s).setDma c { s.dmaCh c with out := (s.dmaCh c).out.drop 1, zlr := none }

theorem dmaAdvance_eq : dmaAdvance c n s =
    if dmaCount_COUNT s c ≤ n ∧ (s.dmaCh c).fin = none then dmaDone c (dmaAcked c n s) else dmaSettle c (dmaAcked c n s) := rfl

theorem dmaAdvance_besideDma : (dmaMoved c n s).besideDma (dmaAdvance c n s) := by
  have hacked : (dmaMoved c n s).besideDma (dmaAcked c n s) := setDma_besideDma ..
  rw [dmaAdvance_eq]
  split
  · exact (hacked.trans (setDma_besideDma ..)).trans (dmaRaise_besideDma ..)
  · exact hacked.trans (dmaSettle_besideDma ..)

/-- All bytes are acknowledged: the transfer is DONE. -/
theorem dmaAdvance_done (h : dmaCount_COUNT s c = n) (hf : (s.dmaCh c).fin = none) :
    ((dmaAdvance c n s).dmaCh c).st = 3 ∧ ((dmaAdvance c n s).dmaCh c).flags.testBit 0 = true := by
  rw [dmaAdvance_eq, if_pos ⟨h.le, hf⟩]
  exact ⟨by simp [dmaDone, dmaRaise_dmaCh], dmaRaise_flag ..⟩

/-- Bytes remain: the next issued write is the oldest. -/
theorem dmaAdvance_on (h : n < dmaCount_COUNT s c) : ((dmaAdvance c n s).dmaCh c).out = (s.dmaCh c).out.drop 1 := by
  rw [dmaAdvance_eq, if_neg fun hd => absurd hd.1 (Nat.not_le.2 h), dmaSettle_out]
  simp [dmaAcked]

end

end Sys2Proof.Machine
end

section
/-! SUPPORT. The block mover's read side: a channel's turn, and what a completed read burst becomes by the space of its source (R320, R323, R326, R329). -/

namespace Sys2Proof.Machine

/-! ### States the block mover reads alike -/

/-- `t` has the registers and the channels of `s`. -/
structure State.sameMover (s t : State) : Prop where
  regs : t.regs = s.regs
  dma : t.dma = s.dma

section
variable {s t : State}

theorem State.onlyErrs.sameMover (h : s.onlyErrs t) : s.sameMover t := by
  obtain ⟨⟨-, -, -, hregs, -⟩, -, hdma⟩ := h
  exact ⟨hregs, hdma⟩

theorem State.sameMover.dmaCh (h : s.sameMover t) (c : Nat) : t.dmaCh c = s.dmaCh c := by simp only [State.dmaCh, h.dma]

end

section
variable {s t : State} (h : t.regs = s.regs) (c : Nat)
include h

theorem rw_of_regs (a : Nat) : t.rw a = s.rw a := by simp only [State.rw, h]

theorem dmaCount_of_regs : dmaCount_COUNT t c = dmaCount_COUNT s c := by simp only [dmaCount_COUNT, rw_of_regs h]

theorem dmaSrc_of_regs : dmaSrc t c = dmaSrc s c := by simp only [dmaSrc, dmaSrcLo_SRC, dmaSrcHi_SRC, rw_of_regs h]

theorem dmaDst_of_regs : dmaDst t c = dmaDst s c := by simp only [dmaDst, dmaDstLo_DST, dmaDstHi_DST, rw_of_regs h]

theorem dmaW_of_regs : dmaCtl_DST_W t c = dmaCtl_DST_W s c := by simp only [dmaCtl_DST_W, rw_of_regs h]

theorem dmaUses_of_regs (d : Nat) : dmaUses t c d = dmaUses s c d := by
  rw [dmaUses, dmaCtl_SRC_SPACE, dmaCtl_DST_SPACE, rw_of_regs h]
  rfl

end

/-! ### A channel's turn (R320, R323, R326) -/

/-- A burst of at least one byte lies inside one 32-byte block of its source, ascending or descending. -/
theorem dmaNext_block (s : State) (c : Nat) (h : 0 < (dmaNext s c).len) : (dmaNext s c).src / 32 = ((dmaNext s c).src + (dmaNext s c).len - 1) / 32 := by
  revert h
  unfold dmaNext
  dsimp only
  split <;> dsimp only <;> intro h <;> omega

theorem dmaBurst_idle {s : State} {c : Nat} (h : dmaTurn s ≠ some c) : dmaBurst c s = s := if_neg h

/-- The channel whose turn it is has its next burst outstanding and was served last. -/
theorem dmaBurst_turn {s : State} {c : Nat} (h : dmaTurn s = some c) : ((dmaBurst c s).dmaCh c).rd = some (dmaNext s c) ∧ (dmaBurst c s).dma.last = c ∧
    (dmaBurst c s).dramMem = s.dramMem ∧ (dmaBurst c s).sram = s.sram := by
  have hch : (dmaBurst c s).dma.chans = (s.setDma c { s.dmaCh c with rd := some (dmaNext s c) }).dma.chans := by simp [dmaBurst, h, dmaPortAsk]
  have hrd : ((dmaBurst c s).dmaCh c).rd = some (dmaNext s c) := by
    rw [State.dmaCh, hch, ← State.dmaCh, State.dmaCh_setDma, if_pos rfl]
  exact ⟨hrd, by simp [dmaBurst, h, dmaPortAsk], by simp [dmaBurst, h, dmaPortAsk], by simp [dmaBurst, h, dmaPortAsk]⟩

/-! ### What a completed burst becomes -/

/-- In `t` channel `c` of `s` runs on with its burst `r` completed and the writes of `ws` issued. -/
def dmaIssued (c : Nat) (r : DmaRd) (ws : List Byte) (s t : State) : Prop := (t.dmaCh c).rd = none ∧ (t.dmaCh c).st = 1 ∧
  (t.dmaCh c).out = (s.dmaCh c).out ++ dmaWrites (s.dmaCh c).desc (dmaW (dmaCtl_DST_W s c)) r.dst ws

/-- In `t` channel `c` of `s` has ended in ERROR with reason `e`; its COUNT stands. -/
def dmaEnded (c e : Nat) (s t : State) : Prop := (t.dmaCh c).st = 5 ∧ (t.dmaCh c).err = e ∧ (t.dmaCh c).flags.testBit 3 = true ∧
  dmaCount_COUNT t c = dmaCount_COUNT s c

section
variable {c : Nat} {r : DmaRd} {s u : State}

theorem dmaFill_issued (hu : s.sameMover u) (hst : (s.dmaCh c).st = 1) {ws : List Byte} (h : ws ≠ []) : dmaIssued c r ws s (dmaFill c r ws u) := by
  simp [dmaIssued, dmaFill_issues h, hu.dmaCh, hst, dmaW_of_regs hu.regs]

theorem dmaFail_ended (hu : s.sameMover u) (hst : (s.dmaCh c).st = 1) (ho : (s.dmaCh c).out = []) (hf : (s.dmaCh c).fin = none) (e : Nat) :
    dmaEnded c (e + 1) s (dmaFail c (e + 1) u) := by
  rw [← hu.dmaCh] at hst ho hf
  obtain ⟨hend, herr, hflag, hkept⟩ := dmaFail_ends (r := e) hst ho hf
  exact ⟨hend, herr, hflag, dmaCount_of_regs (hkept.regs.trans hu.regs) c⟩

/-! ### From SRAM (R329, R413) -/

/-- An uncorrectable word is noted beside the block mover. -/
theorem sramUncorr_sameMover (l : List Nat) (s : State) : s.sameMover (l.foldl (fun a x => sramUncorr x a) s) :=
  foldl_keeps s.sameMover _ (fun t x h => ⟨by simpa [sramUncorr] using h.regs, by simpa [sramUncorr] using h.dma⟩) l s ⟨rfl, rfl⟩

section
variable {data : List Byte} {ok : Bool} {es : List (Nat × Bool)} (hr : (s.dmaCh c).rd = some r)
include hr

theorem dmaRead_sram (hsp : dmaCtl_SRC_SPACE s c = 0) : dmaRead c data ok es s =
    if (sramRead s r.src r.len).2 = [] then dmaFill c r ((List.range r.len).map (fun i => s.sramB (r.src + i))) s
    else dmaFail c 1 ((sramRead s r.src r.len).2.foldl (fun a x => sramUncorr x a) s) := by
  simp only [dmaRead, hr, hsp, if_true]
  rfl

theorem dmaRead_sram_good (hsp : dmaCtl_SRC_SPACE s c = 0) (hgood : ∀ x ∈ s.tmr.bad, ¬ (x < r.src + r.len ∧ r.src < x + 4)) :
    dmaRead c data ok es s = dmaFill c r ((List.range r.len).map (fun i => s.sramB (r.src + i))) s := by
  rw [dmaRead_sram hr hsp, if_pos]
  simpa [sramRead] using hgood

theorem dmaRead_sram_bad (hsp : dmaCtl_SRC_SPACE s c = 0) (hbad : ∃ x ∈ s.tmr.bad, x < r.src + r.len ∧ r.src < x + 4) :
    dmaRead c data ok es s = dmaFail c 1 ((sramRead s r.src r.len).2.foldl (fun a x => sramUncorr x a) s) := by
  rw [dmaRead_sram hr hsp, if_neg]
  simpa [sramRead] using hbad

/-! ### From external memory (R313, R316) -/

/-- The state in which the burst from the block at `b` is read: port P2 has its turn, and the devices show the errors. -/
def dmaDevices (b : Nat) (es : List (Nat × Bool)) (s : State) : State := noteErrs b es { s with dram := portTaken 2 s.dram (portWt s 2) }

omit hr in
theorem dmaDevices_kept (b : Nat) (es : List (Nat × Bool)) (s : State) : s.sameMover (dmaDevices b es s) ∧ (dmaDevices b es s).dram.wq = s.dram.wq ∧
    (dmaDevices b es s).dram.badU = (noteErrs b es s).dram.badU := by
  obtain ⟨t, k, n, htaken⟩ := portTaken_kept 2 s.dram (portWt s 2)
  have hnote := noteErrs_onlyErrs b es { s with dram := portTaken 2 s.dram (portWt s 2) }
  obtain ⟨-, -, -, -, -, -, hwq, -⟩ := hnote.2.1.kept
  refine ⟨⟨hnote.sameMover.regs, hnote.sameMover.dma⟩, hwq.trans (by rw [htaken]), noteErrs_badU_congr b es s _ ?_⟩
  simp only [htaken]

omit hr in
/-- The burst meets an error beyond correction as the obligation's words say it. -/
theorem readBad_dmaDevices (b : Nat) (es : List (Nat × Bool)) (s : State) :
    readBad (dmaDevices b es s) b ↔ wqCovers s b = false ∧ ∃ x ∈ beats b, x ∈ (noteErrs b es s).dram.badU := by
  obtain ⟨-, hwq, hbad⟩ := dmaDevices_kept b es s
  rw [readBad, wqCovers_congr hwq, hbad]

theorem dmaRead_dram_waits (hsp : dmaCtl_SRC_SPACE s c = 1) (hopen : dmaPortOpen s = false) : dmaRead c data ok es s = s := by
  simp [dmaRead, hr, hsp, hopen]

/-- Once port P2 has its turn the block is read, and the status says whether the burst is filled or fails. -/
theorem dmaRead_dram (hsp : dmaCtl_SRC_SPACE s c = 1) (hopen : dmaPortOpen s = true) : ∃ u, s.sameMover u ∧ dmaRead c data ok es s =
    if readBad (dmaDevices (r.src / 32 * 32) es s) (r.src / 32 * 32) then dmaFail c 1 u
    else dmaFill c r ((List.range r.len).map (fun i => readByte s (r.src / 32 * 32) (r.src - r.src / 32 * 32 + i))) u := by
  obtain ⟨e, he, hread⟩ := doRead_answer (r.src / 32 * 32) (dmaDevices (r.src / 32 * 32) es s)
  have hstatus : (doRead (r.src / 32 * 32) (dmaDevices (r.src / 32 * 32) es s)).lastRead.getD 8 0 = 1 ↔
      readBad (dmaDevices (r.src / 32 * 32) es s) (r.src / 32 * 32) := by
    rw [hread]
    split
    case isTrue h => exact iff_of_true (by simp) h
    case isFalse h => exact iff_of_false (by simp) h
  obtain ⟨hdev, -, -⟩ := dmaDevices_kept (r.src / 32 * 32) es s
  refine ⟨{ doRead (r.src / 32 * 32) (dmaDevices (r.src / 32 * 32) es s) with lastRead := s.lastRead }, ?_, ?_⟩
  · rw [hread]
    exact ⟨he.sameMover.regs.trans hdev.regs, he.sameMover.dma.trans hdev.dma⟩
  · simp only [← hstatus]
    simp only [dmaRead, hr, hsp, hopen, dmaDevices, decide_eq_true_eq, if_true]
    rfl

/-! ### From the host (R329, R449) -/

theorem dmaRead_host (hsp : dmaCtl_SRC_SPACE s c = 2 ∨ dmaCtl_SRC_SPACE s c = 3) : dmaRead c data ok es s =
    if ok then dmaFill c r (data.take r.len ++ List.replicate (r.len - data.length) 0) s else dmaFail c 2 s := by
  have h0 : dmaCtl_SRC_SPACE s c ≠ 0 := by omega
  have h1 : dmaCtl_SRC_SPACE s c ≠ 1 := by omega
  cases ok <;> simp [dmaRead, hr, h0, h1]

end

theorem dmaRead_none {data : List Byte} {ok : Bool} {es : List (Nat × Bool)} (h : (s.dmaCh c).rd = none) : dmaRead c data ok es s = s := by
  simp [dmaRead, h]

/-- As many bytes as the burst has, of what the host sent and zeros. -/
theorem hostBytes_ne_nil (data : List Byte) {n : Nat} (h : 0 < n) : data.take n ++ List.replicate (n - data.length) 0 ≠ [] := by
  refine List.ne_nil_of_length_pos ?_
  rw [List.length_append, List.length_take, List.length_replicate]
  omega

theorem map_range_ne_nil (f : Nat → Byte) {n : Nat} (h : 0 < n) : (List.range n).map f ≠ [] := by
  simp [Nat.pos_iff_ne_zero.1 h]

end

end Sys2Proof.Machine
end

section
/-! SUPPORT. The block mover's write side and its times: acknowledgements by the space of the destination, the silence of the host, and the power manager's
requests (R323, R324, R326, R330, R331). -/

namespace Sys2Proof.Machine

/-! ### An acknowledged write -/

/-- In `t` the oldest write of channel `c` of `s`, of `n` bytes, is acknowledged, and `ws` are the writes after it: COUNT falls by its bytes, an ascending
copy's addresses grow by them, the last one ends the transfer DONE. -/
def dmaAdvanced (c n : Nat) (ws : List DmaWr) (s t : State) : Prop := dmaCount_COUNT t c = dmaCount_COUNT s c - n ∧
  ((s.dmaCh c).desc = false → dmaSrc t c = (dmaSrc s c + n) % 2 ^ 64 ∧ dmaDst t c = (dmaDst s c + n) % 2 ^ 64) ∧
  ((s.dmaCh c).desc = true → dmaSrc t c = dmaSrc s c ∧ dmaDst t c = dmaDst s c) ∧
  (dmaCount_COUNT s c = n → (s.dmaCh c).fin = none → (t.dmaCh c).st = 3 ∧ (t.dmaCh c).flags.testBit 0 = true) ∧
  (n < dmaCount_COUNT s c → (t.dmaCh c).out = ws)

section
variable {c : Nat} {s u : State} {w : DmaWr} {ws : List DmaWr}

theorem dmaAdvance_advanced (hu : s.sameMover u) (hout : (s.dmaCh c).out = w :: ws) (n : Nat) : dmaAdvanced c n ws s (dmaAdvance c n u) := by
  have hregs : (dmaAdvance c n u).regs = (dmaMoved c n u).regs := (dmaAdvance_besideDma c n u).regs
  have hch := hu.dmaCh c
  rw [dmaAdvanced, dmaCount_of_regs hregs, dmaSrc_of_regs hregs, dmaDst_of_regs hregs, dmaMoved_count, ← dmaCount_of_regs hu.regs, ← dmaSrc_of_regs hu.regs,
    ← dmaDst_of_regs hu.regs, ← hch]
  refine ⟨rfl, dmaMoved_ascending c n u, dmaMoved_descending c n u, dmaAdvance_done c n u, fun hlt => ?_⟩
  rw [dmaAdvance_on c n u hlt, hch, hout, List.drop_one, List.tail_cons]

/-- An acknowledgement moves registers and channels; the memories and the controller stay. -/
theorem dmaAdvance_memories (c n : Nat) (u : State) : (dmaAdvance c n u).sram = u.sram ∧ (dmaAdvance c n u).dramMem = u.dramMem ∧
    (dmaAdvance c n u).dram = u.dram := by
  obtain ⟨-, hdram, hsram, hmem⟩ := dmaMoved_kept c n u
  have h := dmaAdvance_besideDma c n u
  exact ⟨h.sram.trans hsram, h.dramMem.trans hmem, h.dram.trans hdram⟩

/-! ### To SRAM (R322) -/

theorem plainPut_sameMover (a : Nat) (bs : List Byte) (s : State) : s.sameMover (plainPut a bs s) := by
  have hput : s.sameMover (putBytes a bs s) := foldl_keeps s.sameMover _ (fun t x h => ⟨by simpa using h.regs, by simpa using h.dma⟩) _ s ⟨rfl, rfl⟩
  exact foldl_keeps s.sameMover _ (fun t x h => ⟨by simpa using h.regs, by simpa using h.dma⟩) _ _ hput

/-- Bytes above the table region are stored as they are. -/
theorem sramPut_above (a : Nat) (bs : List Byte) (s : State) (h : tblBase + 0x80000 ≤ a) : sramPut a bs s = plainPut a bs s := by
  have hb : max a tblBase = a := by omega
  have h0 : tblBase - a = 0 := by omega
  have h1 : tblBase + 0x80000 - a = 0 := Nat.sub_eq_zero_of_le h
  simp only [sramPut, hb, h0, h1, List.drop_zero, List.take_zero, plainPut_nil, tblBytes_nil, Nat.max_eq_left h]

theorem dmaAck_none (h : (s.dmaCh c).out = []) : dmaAck c s = s := by simp [dmaAck, h]

section
variable (hout : (s.dmaCh c).out = w :: ws)
include hout

/-- Outside the table region the bytes of the write are stored, and the channel moves on. -/
theorem dmaAck_sram (hsp : dmaCtl_DST_SPACE s c = 0) (hplain : w.dst + w.bytes.length ≤ 0x400000 ∨ 0x800000 ≤ w.dst) :
    dmaAck c s = dmaAdvance c w.bytes.length (plainPut w.dst w.bytes s) := by
  have hput : sramPut w.dst w.bytes s = plainPut w.dst w.bytes s := by
    obtain h | h := hplain
    · exact sramPut_below _ _ _ h
    · exact sramPut_above _ _ _ (by rw [tblBase]; omega)
  simp [dmaAck, hout, hsp, hput]

/-! ### To external memory (R311, R313) -/

omit hout in
/-- The burst write of an issued write: its bytes at their place in the block, unmasked there alone. -/
def dmaRequest (w : DmaWr) : DrReq :=
  ⟨2, true, w.dst / 32 * 32, (List.range 32).map (fun i => if w.dst % 32 ≤ i then w.bytes.getD (i - w.dst % 32) 0 else 0),
    (2 ^ w.bytes.length - 1) * 2 ^ (w.dst % 32)⟩

omit hout in
theorem dmaRequest_mask (w : DmaWr) (i : Nat) : (dmaRequest w).mask.testBit i = (decide (w.dst % 32 ≤ i) && decide (i - w.dst % 32 < w.bytes.length)) := by
  rw [dmaRequest, Nat.testBit_mul_two_pow, Nat.testBit_two_pow_sub_one]

omit hout in
theorem dmaRequest_byte (w : DmaWr) {i : Nat} (h : w.dst % 32 + i < 32) : (dmaRequest w).bytes.getD (w.dst % 32 + i) 0 = w.bytes.getD i 0 := by
  simp [dmaRequest, h]

omit hout in
/-- The memory once port P2 has taken the write into the queue. -/
def dmaQueued (w : DmaWr) (s : State) : State := serve (dmaRequest w) { s with dram := portTaken 2 s.dram (portWt s 2) }

omit hout in
theorem dmaQueued_kept (w : DmaWr) (s : State) : s.sameMover (dmaQueued w s) ∧ (dmaQueued w s).dram.wq = s.dram.wq ++ [dmaRequest w] ∧
    (dmaQueued w s).sram = s.sram ∧ (dmaQueued w s).dramMem = s.dramMem := by
  obtain ⟨t, k, n, htaken⟩ := portTaken_kept 2 s.dram (portWt s 2)
  have hq : dmaQueued w s = { s with dram := { portTaken 2 s.dram (portWt s 2) with wq := (portTaken 2 s.dram (portWt s 2)).wq ++ [dmaRequest w] } } := rfl
  rw [hq]
  exact ⟨⟨rfl, rfl⟩, by simp only [htaken], rfl, rfl⟩

theorem dmaAck_dram (hsp : dmaCtl_DST_SPACE s c = 1) (hopen : dmaPortOpen s = true) (hroom : s.dram.wq.length < 32) :
    dmaAck c s = dmaAdvance c w.bytes.length (dmaQueued w s) := by
  have hoff : w.dst - w.dst / 32 * 32 = w.dst % 32 := by omega
  simp only [dmaAck, hout, hsp, hopen, hroom, hoff, dmaQueued, dmaRequest]
  rfl

theorem dmaAck_dram_waits (hsp : dmaCtl_DST_SPACE s c = 1) (h : dmaPortOpen s = false ∨ 32 ≤ s.dram.wq.length) : dmaAck c s = s := by
  have hno : (dmaPortOpen s && decide (s.dram.wq.length < 32)) = false := by
    obtain h | h := h
    · simp [h]
    · simp [Nat.not_lt.2 h]
  simp [dmaAck, hout, hsp, hno]

/-! ### To the host (R324) -/

theorem dmaAck_host (hsp : 2 ≤ dmaCtl_DST_SPACE s c) : dmaAck c s =
    if (s.dmaCh c).zlr.isNone ∧ (s.dmaCh c).fin = none ∧ ws = [] ∧ dmaCount_COUNT s c ≤ w.bytes.length then s.setDma c { s.dmaCh c with zlr := some s.clk }
    else dmaAdvance c w.bytes.length s := by
  have h0 : dmaCtl_DST_SPACE s c ≠ 0 := by omega
  have h1 : dmaCtl_DST_SPACE s c ≠ 1 := by omega
  simp only [dmaAck, hout, if_neg h0, if_neg h1]

end

/-! ### The silence of the host (R330) -/

/-- A host read silent for the time limit ends its transfer. -/
theorem dmaTimeout_ends {n : Nat} {r : DmaRd} (hst : (s.dmaCh c).st = 1) (hr : (s.dmaCh c).rd = some r) (hsp : dmaCtl_SRC_SPACE s c = 2)
    (hlim : max 1 (dmaTmo_US s) * 1000 ≤ n) (hclk : r.at_ + n ≤ s.clk) : dmaTimeout c n s = dmaFail c 3 s := by
  simp only [dmaTimeout, hr, hsp, if_true]
  exact if_pos ⟨hst, hlim, hclk⟩

theorem dmaTimeout_waits {n : Nat} (h : (s.dmaCh c).st ≠ 1 ∨ n < max 1 (dmaTmo_US s) * 1000 ∨ ((s.dmaCh c).rd = none ∧ (s.dmaCh c).zlr = none)) :
    dmaTimeout c n s = s := by
  unfold dmaTimeout
  dsimp only
  split
  case h_1 t hsince =>
    refine if_neg fun ⟨hst, hlim, _⟩ => ?_
    obtain h | h | ⟨hrd, hz⟩ := h
    · exact h hst
    · exact Nat.not_le.2 h hlim
    · simp [hrd, hz] at hsince
  case h_2 => rfl

end

/-! ### The power manager's times (R331, R418) -/

/-- One channel's part in the slow pause of domain `d`. -/
def dmaSlowTurn (d : Nat) (a : State) (c : Nat) : State := if (a.dmaCh c).st = 1 ∧ dmaUses a c d then dmaRaise c 7 a else a

section
variable (d : Nat) (a : State) (k : Nat)

theorem dmaSlowTurn_kept (m : Nat) : (dmaSlowTurn d a k).regs = a.regs ∧ ((dmaSlowTurn d a k).dmaCh m).st = (a.dmaCh m).st ∧
    ((a.dmaCh m).flags.testBit 7 = true → ((dmaSlowTurn d a k).dmaCh m).flags.testBit 7 = true) := by
  unfold dmaSlowTurn
  split
  · refine ⟨(dmaRaise_besideDma k 7 a).regs, ?_, fun h => ?_⟩
    · rw [dmaRaise_dmaCh]
      split <;> simp [*]
    · rw [dmaRaise_dmaCh]
      split
      case isTrue hm => simp [← hm, h]
      case isFalse => exact h
  · exact ⟨rfl, rfl, id⟩

/-- A running channel that uses the domain has its flag after its part. -/
theorem dmaSlowTurn_raises (hst : (a.dmaCh k).st = 1) (hu : dmaUses a k d = true) : ((dmaSlowTurn d a k).dmaCh k).flags.testBit 7 = true := by
  rw [dmaSlowTurn, if_pos ⟨hst, hu⟩]
  exact dmaRaise_flag k 7 a

end

/-- A running channel with its flag keeps both. -/
theorem dmaSlowTurns_keep (d c : Nat) (l : List Nat) : ∀ a : State, (a.dmaCh c).flags.testBit 7 = true → (a.dmaCh c).st = 1 →
    ((l.foldl (dmaSlowTurn d) a).dmaCh c).flags.testBit 7 = true ∧ ((l.foldl (dmaSlowTurn d) a).dmaCh c).st = 1 := by
  induction l with
  | nil => exact fun a hflag hst => ⟨hflag, hst⟩
  | cons k l ih =>
    intro a hflag hst
    obtain ⟨-, hst', hflag'⟩ := dmaSlowTurn_kept d a k c
    exact ih _ (hflag' hflag) (hst'.trans hst)

/-- Every running channel of the list that uses the domain has its flag at the end, and still runs. -/
theorem dmaSlowTurns_raise (d c : Nat) (l : List Nat) : ∀ a : State, c ∈ l → (a.dmaCh c).st = 1 → dmaUses a c d = true →
    ((l.foldl (dmaSlowTurn d) a).dmaCh c).flags.testBit 7 = true ∧ ((l.foldl (dmaSlowTurn d) a).dmaCh c).st = 1 := by
  induction l with
  | nil => exact fun a hmem => absurd hmem List.not_mem_nil
  | cons k l ih =>
    intro a hmem hst hu
    obtain ⟨hregs, hst', -⟩ := dmaSlowTurn_kept d a k c
    rw [List.foldl_cons]
    by_cases hk : c = k
    · subst hk
      exact dmaSlowTurns_keep d c l _ (dmaSlowTurn_raises d a c hst hu) (hst'.trans hst)
    · have hl : c ∈ l := (List.mem_cons.1 hmem).resolve_left hk
      exact ih _ hl (hst'.trans hst) ((dmaUses_of_regs hregs c d).trans hu)

section
variable {d : Nat} {s : State} {r : DmaPwr} (hfind : s.dma.reqs.find? (fun r => decide (r.dom = d)) = some r)
include hfind

/-- 16 µs after the request each channel still running that uses the domain has DMA_PAUSE_SLOW. -/
theorem dmaPwrSlow_raises (hholds : dmaHolds s d = true) (hslow : r.slow = false) (hdue : r.at_ + 16000 ≤ s.clk) {c : Nat} (hc : c < 16)
    (hst : (s.dmaCh c).st = 1) (hu : dmaUses s c d = true) : ((dmaPwrSlow d s).dmaCh c).flags.testBit 7 = true ∧ ((dmaPwrSlow d s).dmaCh c).st = 1 := by
  simp only [dmaPwrSlow, hfind]
  rw [if_pos ⟨by simp [hslow], hdue, hholds⟩]
  exact dmaSlowTurns_raise d c (List.range 16) _ (List.mem_range.2 hc) hst hu

theorem dmaPwrSlow_early (h : r.slow = true ∨ s.clk < r.at_ + 16000) : dmaPwrSlow d s = s := by
  simp only [dmaPwrSlow, hfind]
  refine if_neg fun ⟨hslow, hdue, _⟩ => ?_
  obtain h | h := h
  · simp [h] at hslow
  · exact Nat.not_le.2 h hdue

theorem pwrDeniedBusy_early (h : s.clk < r.at_ + 100000) : pwrDeniedBusy d s = s := by
  simp only [pwrDeniedBusy, hfind]
  exact if_neg fun ⟨hdue, _⟩ => Nat.not_le.2 h hdue

/-- 100 µs after the request it is refused: the domain's own where it waits or no move is under way, else the move. -/
theorem pwrDeniedBusy_due (hholds : dmaHolds s d = true) (hdue : r.at_ + 100000 ≤ s.clk) : pwrDeniedBusy d s =
    if (s.dom d).waiting.isSome then pwrDenied d s else if s.pwr.move.isSome then moveDeny s else pwrDenied d s := by
  simp only [pwrDeniedBusy, hfind]
  exact if_pos ⟨hdue, hholds⟩

end

section
variable {d : Nat} {s : State}

/-- Without a request, or once no channel holds the domain, neither time acts. -/
theorem dmaPwr_free (h : s.dma.reqs.find? (fun r => decide (r.dom = d)) = none ∨ dmaHolds s d = false) : dmaPwrSlow d s = s ∧ pwrDeniedBusy d s = s := by
  obtain h | h := h
  · simp [dmaPwrSlow, pwrDeniedBusy, h]
  · constructor
    · unfold dmaPwrSlow
      split <;> simp [h]
    · unfold pwrDeniedBusy
      split <;> simp [h]

/-- A refusal raises its event. -/
theorem pwrDenied_latched (d : Nat) (s : State) : bit ((pwrDenied d s).page pPWR).stat 2 = true := raise_latched pPWR 2 _ (by decide)

theorem moveDeny_latched (s : State) : bit ((moveDeny s).page pPWR).stat 2 = true := raise_stat_mono pPWR 3 _ pPWR 2 (raise_latched pPWR 2 _ (by decide))

/-- Refused either way, the request's end is seen in the power manager's event. -/
theorem pwrDeniedBusy_latched {r : DmaPwr} (hfind : s.dma.reqs.find? (fun r => decide (r.dom = d)) = some r) (hholds : dmaHolds s d = true)
    (hdue : r.at_ + 100000 ≤ s.clk) : bit ((pwrDeniedBusy d s).page pPWR).stat 2 = true := by
  rw [pwrDeniedBusy_due hfind hholds hdue]
  split
  · exact pwrDenied_latched d s
  · split
    · exact moveDeny_latched s
    · exact pwrDenied_latched d s

end

/-! ### The commands -/

section
variable {s : State} (hs : s.supply.held = false)
include hs

theorem exec_dmaBurstRead {c : Fin 16} : exec (.dmaBurstRead c) s = .next (dmaBurst c.val s) := act_live hs
theorem exec_dmaReadComplete {c : Fin 16} {bs : List Byte} {ok : Bool} {es : List (Nat × Bool)} :
    exec (.dmaReadComplete c bs ok es) s = .next (dmaRead c.val bs ok es s) := act_live hs
theorem exec_dmaWriteAck {c : Fin 16} : exec (.dmaWriteAck c) s = .next (dmaAck c.val s) := act_live hs
theorem exec_dmaHostTimeout {c : Fin 16} {n : Nat} : exec (.dmaHostTimeout c n) s = .next (dmaTimeout c.val n s) := act_live hs
theorem exec_dmaPauseSlow {d : Fin 33} : exec (.dmaPauseSlow d) s = .next (dmaPwrSlow d.val s) := act_live hs
theorem exec_pwrDeniedBusy {d : Fin 33} : exec (.pwrDeniedBusy d) s = .next (pwrDeniedBusy d.val s) := act_live hs

end

end Sys2Proof.Machine
end

section
/-! SUPPORT. The block mover's commands on what their operations do, and its statement settled (O45). -/

namespace Sys2Proof.Machine

section
variable {s : State} {c : Fin 16} {bs : List Byte} {ok : Bool} {es : List (Nat × Bool)} {r : DmaRd} (hs : s.supply.held = false)
include hs

/-- A completed burst whose bytes are filled in runs on. -/
theorem readComplete_issues {u : State} {ws : List Byte} (hu : s.sameMover u) (hread : dmaRead c.val bs ok es s = dmaFill c.val r ws u)
    (hst : (s.dmaCh c.val).st = 1) (hws : ws ≠ []) : ∃ t, exec (.dmaReadComplete c bs ok es) s = .next t ∧ dmaIssued c.val r ws s t := by
  rw [exec_dmaReadComplete hs, hread]
  exact ⟨_, rfl, dmaFill_issued hu hst hws⟩

/-- A completed burst that fails ends a transfer without writes outstanding. -/
theorem readComplete_ends {u : State} {e : Nat} (hu : s.sameMover u) (hread : dmaRead c.val bs ok es s = dmaFail c.val (e + 1) u)
    (hst : (s.dmaCh c.val).st = 1) (ho : (s.dmaCh c.val).out = []) (hf : (s.dmaCh c.val).fin = none) :
    ∃ t, exec (.dmaReadComplete c bs ok es) s = .next t ∧ dmaEnded c.val (e + 1) s t := by
  rw [exec_dmaReadComplete hs, hread]
  exact ⟨_, rfl, dmaFail_ended hu hst ho hf e⟩

end

section
variable {s : State} {c : Fin 16} {w : DmaWr} {ws : List DmaWr} (hs : s.supply.held = false) (hout : (s.dmaCh c.val).out = w :: ws)
include hs hout

/-- To SRAM: the bytes are stored where the write says, and no others. -/
theorem writeAck_sram (hsp : dmaCtl_DST_SPACE s c.val = 0) (hplain : w.dst + w.bytes.length ≤ 0x400000 ∨ 0x800000 ≤ w.dst) :
    ∃ t, exec (.dmaWriteAck c) s = .next t ∧ dmaAdvanced c.val w.bytes.length ws s t ∧ (∀ i < w.bytes.length, t.sramB (w.dst + i) = w.bytes.getD i 0) ∧
      (∀ a, a < w.dst ∨ w.dst + w.bytes.length ≤ a → t.sramB a = s.sramB a) ∧ t.dramMem = s.dramMem := by
  rw [exec_dmaWriteAck hs, dmaAck_sram hout hsp hplain]
  obtain ⟨hsram, hmem, -⟩ := dmaAdvance_memories c.val w.bytes.length (plainPut w.dst w.bytes s)
  obtain ⟨-, -, hmem'⟩ := plainPut_besideSram w.dst w.bytes s
  have hbyte (a : Nat) : (dmaAdvance c.val w.bytes.length (plainPut w.dst w.bytes s)).sramB a =
      if w.dst ≤ a ∧ a < w.dst + w.bytes.length then w.bytes.getD (a - w.dst) 0 else s.sramB a := by
    rw [← plainPut_sramB]
    simp only [State.sramB, hsram]
  refine ⟨_, rfl, dmaAdvance_advanced (plainPut_sameMover ..) hout _, fun i hi => ?_, fun a ha => ?_, hmem.trans hmem'⟩
  · rw [hbyte, if_pos (by omega), Nat.add_sub_cancel_left]
  · rw [hbyte, if_neg (by omega)]

/-- To external memory: the write enters the queue, with a mask of its bytes alone. -/
theorem writeAck_dram (hsp : dmaCtl_DST_SPACE s c.val = 1) (hopen : dmaPortOpen s = true) (hroom : s.dram.wq.length < 32) :
    ∃ t r, exec (.dmaWriteAck c) s = .next t ∧ dmaAdvanced c.val w.bytes.length ws s t ∧ t.dram.wq = s.dram.wq ++ [r] ∧ r.write = true ∧
      r.addr = w.dst / 32 * 32 ∧ (∀ i < w.bytes.length, w.dst % 32 + i < 32 → r.mask.testBit (w.dst % 32 + i) = true ∧ r.bytes.getD (w.dst % 32 + i) 0 = w.bytes.getD i 0) ∧
      (∀ i < w.dst % 32, r.mask.testBit i = false) ∧ (∀ i, w.dst % 32 + w.bytes.length ≤ i → r.mask.testBit i = false) ∧ t.sram = s.sram ∧ t.dramMem = s.dramMem := by
  rw [exec_dmaWriteAck hs, dmaAck_dram hout hsp hopen hroom]
  obtain ⟨hsame, hwq, hsram, hmem⟩ := dmaQueued_kept w s
  obtain ⟨hsram', hmem', hdram'⟩ := dmaAdvance_memories c.val w.bytes.length (dmaQueued w s)
  refine ⟨_, dmaRequest w, rfl, dmaAdvance_advanced hsame hout _, by rw [hdram', hwq], rfl, rfl, fun i hi hb => ⟨?_, dmaRequest_byte w hb⟩, fun i hi => ?_,
    fun i hi => ?_, hsram'.trans hsram, hmem'.trans hmem⟩ <;> rw [dmaRequest_mask]
  · simp [hi]
  · simp [hi]
  · simp only [Bool.and_eq_false_iff, decide_eq_false_iff_not]
    omega

/-- To the host, unless this is the last write and its zero-length read is still to be given. -/
theorem writeAck_host (hsp : 2 ≤ dmaCtl_DST_SPACE s c.val)
    (hmore : (s.dmaCh c.val).zlr.isSome ∨ (s.dmaCh c.val).fin.isSome ∨ ws ≠ [] ∨ w.bytes.length < dmaCount_COUNT s c.val) :
    ∃ t, exec (.dmaWriteAck c) s = .next t ∧ dmaAdvanced c.val w.bytes.length ws s t ∧ t.sram = s.sram ∧ t.dramMem = s.dramMem := by
  obtain ⟨hsram, hmem, -⟩ := dmaAdvance_memories c.val w.bytes.length s
  rw [exec_dmaWriteAck hs, dmaAck_host hout hsp, if_neg]
  · exact ⟨_, rfl, dmaAdvance_advanced ⟨rfl, rfl⟩ hout _, hsram, hmem⟩
  · rintro ⟨hz, hf, hws, hcount⟩
    obtain h | h | h | h := hmore
    · simp [Option.isSome_iff_ne_none.1 h] at hz
    · simp [hf] at h
    · exact h hws
    · exact Nat.not_le.2 h hcount

end

/-- Settles O45: each command is its operation, whose cases are the read side, the acknowledgements by destination, the host's silence and the power
manager's two times. -/
theorem dmaTransfers : Obligations.DmaTransfers := by
  unfold Obligations.DmaTransfers
  refine ⟨fun s c hs => ⟨fun hturn => ?_, fun hturn => ?_⟩, fun s c bs ok es hs => ⟨fun hr => ?_, fun r hr hst hlen => ⟨fun hsp => ⟨fun hgood => ?_, fun hbad ho _ hf => ?_⟩,
    fun hsp => ⟨fun hopen => ?_, fun hopen => ?_⟩, fun hsp => ⟨fun hok => ?_, fun hok ho _ hf => ?_⟩⟩⟩,
    fun s c hs => ⟨fun hout => ?_, fun w ws hout _ => ⟨fun hsp hplain => ?_, fun hsp => ⟨fun hopen hroom => ?_, fun hno => ?_⟩,
      fun hsp => ⟨fun hz hf hws hcount => ?_, fun hmore => ?_⟩⟩⟩,
    fun s c n hs => ⟨fun r hst hr hsp hlim hclk ho hf => ?_, fun hno => ?_⟩,
    fun s d hs => ⟨fun hfree => ?_, fun r hfind hholds => ⟨fun hslow hdue => ?_, fun hearly => ?_, fun hearly => ?_, fun hdue => ⟨fun hwait => ?_, fun hwait hmove => ?_, ?_⟩⟩⟩⟩
  -- a channel's turn
  · obtain ⟨hrd, hlast, hmem, hsram⟩ := dmaBurst_turn hturn
    exact ⟨_, _, exec_dmaBurstRead hs, hrd, hlast, rfl, dmaNext_block s c.val, hmem, hsram⟩
  · rw [exec_dmaBurstRead hs, dmaBurst_idle hturn]
  -- a read burst completes: from SRAM, external memory, the host
  · rw [exec_dmaReadComplete hs, dmaRead_none hr]
  · exact readComplete_issues hs ⟨rfl, rfl⟩ (dmaRead_sram_good hr hsp hgood) hst (map_range_ne_nil _ hlen)
  · exact readComplete_ends hs (sramUncorr_sameMover _ s) (dmaRead_sram_bad hr hsp hbad) hst ho hf
  · rw [exec_dmaReadComplete hs, dmaRead_dram_waits hr hsp hopen]
  · obtain ⟨u, hu, hread⟩ := dmaRead_dram (data := bs) (ok := ok) (es := es) hr hsp hopen
    have hstatus := readBad_dmaDevices (r.src / 32 * 32) es s
    refine ⟨fun hgood => ?_, fun hcov hbad ho _ hf => readComplete_ends hs hu (hread.trans (if_pos (hstatus.2 ⟨hcov, hbad⟩))) hst ho hf⟩
    have hclean : ¬ readBad (dmaDevices (r.src / 32 * 32) es s) (r.src / 32 * 32) := fun h =>
      hgood.elim (by simp [(hstatus.1 h).1]) (· (hstatus.1 h).2)
    exact readComplete_issues hs hu (hread.trans (if_neg hclean)) hst (map_range_ne_nil _ hlen)
  · exact readComplete_issues hs ⟨rfl, rfl⟩ ((dmaRead_host hr hsp).trans (if_pos hok)) hst (hostBytes_ne_nil bs hlen)
  · exact readComplete_ends hs ⟨rfl, rfl⟩ ((dmaRead_host hr hsp).trans (if_neg (by simp [hok]))) hst ho hf
  -- the oldest write is acknowledged: to SRAM, external memory, the host
  · rw [exec_dmaWriteAck hs, dmaAck_none hout]
  · exact writeAck_sram hs hout hsp hplain
  · exact writeAck_dram hs hout hsp hopen hroom
  · rw [exec_dmaWriteAck hs, dmaAck_dram_waits hout hsp hno]
  · rw [exec_dmaWriteAck hs, dmaAck_host hout hsp, if_pos ⟨by simp [hz], hf, hws, hcount.le⟩]
  · exact writeAck_host hs hout hsp hmore
  -- the host's silence
  · rw [exec_dmaHostTimeout hs, dmaTimeout_ends hst hr hsp hlim hclk]
    obtain ⟨hend, herr, hflag, -⟩ := dmaFail_ended (s := s) ⟨rfl, rfl⟩ hst ho hf 2
    exact ⟨_, rfl, hend, herr, hflag⟩
  · rw [exec_dmaHostTimeout hs, dmaTimeout_waits hno]
  -- the power manager's times
  · obtain ⟨hslow, hbusy⟩ := dmaPwr_free hfree
    rw [exec_dmaPauseSlow hs, exec_pwrDeniedBusy hs, hslow, hbusy]
    exact ⟨rfl, rfl⟩
  · exact ⟨_, exec_dmaPauseSlow hs, fun c hc hst hu => dmaPwrSlow_raises hfind hholds hslow hdue hc hst hu⟩
  · rw [exec_dmaPauseSlow hs, dmaPwrSlow_early hfind hearly]
  · rw [exec_pwrDeniedBusy hs, pwrDeniedBusy_early hfind hearly]
  · rw [exec_pwrDeniedBusy hs, pwrDeniedBusy_due hfind hholds hdue]
    obtain h | h := hwait <;> simp [h]
  · rw [exec_pwrDeniedBusy hs, pwrDeniedBusy_due hfind hholds hdue]
    simp [hwait, hmove]
  · exact ⟨_, exec_pwrDeniedBusy hs, pwrDeniedBusy_latched hfind hholds hdue⟩

end Sys2Proof.Machine
end

section
/-! SUPPORT. The block mover's commands: a write of CTL that carries one command bit, what each command makes of a channel by its state, and the statement
settled (O44; R320, R325 to R328, R331). -/

namespace Sys2Proof.Machine

/-! ### A write of CTL with one command bit (R320) -/

theorem bit_dmaCtlWord (s : State) (c : Nat) (b i : Fin 4) : bit (dmaCtlWord s c b.val) i.val = decide (i = b) := by
  have hconf : (0x1F770#32).toNat.testBit i.val = false := by revert i; decide
  have hcmd : (word (2 ^ b.val)).toNat.testBit i.val = decide (i = b) := by revert b i; decide
  simp only [bit, dmaCtlWord, BitVec.toNat_or, BitVec.toNat_and, Nat.testBit_or, Nat.testBit_and, hconf, hcmd, Bool.and_false, Bool.false_or]

/-- The command bits are no configuration. -/
theorem dmaCtlWord_and (s : State) (c : Nat) (b : Fin 4) : dmaCtlWord s c b.val &&& 0x1F770#32 = s.rw (dmaCtlAt c) &&& 0x1F770#32 := by
  have hcmd : word (2 ^ b.val) &&& 0x1F770#32 = 0#32 := by revert b; decide
  rw [dmaCtlWord, BitVec.and_or_distrib_right, BitVec.and_assoc, BitVec.and_self, hcmd, BitVec.or_zero]

/-- What a command's write of CTL stores before the command acts: the configuration as it stands, unless the channel is RUNNING or PAUSED. -/
def dmaConfigured (c : Nat) (s : State) : State :=
  if (s.dmaCh c).st = 1 ∨ (s.dmaCh c).st = 2 then s else s.setRw (dmaCtlAt c) (s.rw (dmaCtlAt c) &&& 0x1F770#32)

/-- Only the command whose bit is written acts. -/
theorem dmaCtl_command (s : State) (c : Nat) (b : Fin 4) : dmaCtl c (dmaCtlWord s c b.val) s =
    match b with
    | 0 => dmaStart c (dmaConfigured c s)
    | 1 => dmaPause c (dmaConfigured c s)
    | 2 => dmaResume c (dmaConfigured c s)
    | 3 => dmaAbort c (dmaConfigured c s) := by
  have h0 : bit (dmaCtlWord s c b.val) 0 = decide ((0 : Fin 4) = b) := bit_dmaCtlWord s c b 0
  have h1 : bit (dmaCtlWord s c b.val) 1 = decide ((1 : Fin 4) = b) := bit_dmaCtlWord s c b 1
  have h2 : bit (dmaCtlWord s c b.val) 2 = decide ((2 : Fin 4) = b) := bit_dmaCtlWord s c b 2
  have h3 : bit (dmaCtlWord s c b.val) 3 = decide ((3 : Fin 4) = b) := bit_dmaCtlWord s c b 3
  simp only [dmaCtl, h0, h1, h2, h3, dmaCtlWord_and]
  match b with
  | 0 | 1 | 2 | 3 => rfl

theorem regEffect_dmaCtl (src : Nat) (v : Word) (s : State) (c : Fin 16) : regEffect src (dmaCtlAt c.val) v s = dmaCtl c.val v s := by
  have hpage : dmaCtlAt c.val / 0x1000 = 0x16 := by rw [dmaCtlAt]; omega
  have hoff : dmaCtlAt c.val % 0x1000 = 0x114 + 0x40 * c.val := by rw [dmaCtlAt]; omega
  have hchan : (0x114 + 0x40 * c.val - 0x100) / 0x40 = c.val := by omega
  have hblock : blockOf 0x16 = some 0x16 := by decide
  rw [regEffect, hpage, hoff, hblock]
  show wDMA src _ v s = _
  simp only [wDMA, hchan]
  rw [if_neg (by omega), if_pos (by omega)]

section
variable {s : State} {src : Src} {c : Fin 16} (h : s.reaches (dmaCtlAt c.val))
include h

/-- A command that reaches the channel's CTL acts on the channel as the write leaves it. -/
theorem act_dmaCtl (b : Fin 4) : act (fun s => busWrite src.code (dmaCtlAt c.val) (dmaCtlWord s c.val b.val) s) s =
    .next (dmaCtl c.val (dmaCtlWord s c.val b.val) s) := by
  have hoff : 0x100 ≤ dmaCtlAt c.val % 0x1000 := by rw [dmaCtlAt]; omega
  rw [act_live h.1, busWrite_reg _ _ _ _ h.2 hoff, regEffect_dmaCtl]

theorem exec_dmaCtlStart : exec (.dmaCtlStart src c) s = .next (dmaStart c.val (dmaConfigured c.val s)) :=
  (act_dmaCtl h 0).trans (congrArg _ (dmaCtl_command s c.val 0))

theorem exec_dmaCtlPause : exec (.dmaCtlPause src c) s = .next (dmaPause c.val (dmaConfigured c.val s)) :=
  (act_dmaCtl h 1).trans (congrArg _ (dmaCtl_command s c.val 1))

theorem exec_dmaCtlResume : exec (.dmaCtlResume src c) s = .next (dmaResume c.val (dmaConfigured c.val s)) :=
  (act_dmaCtl h 2).trans (congrArg _ (dmaCtl_command s c.val 2))

theorem exec_dmaCtlAbort : exec (.dmaCtlAbort src c) s = .next (dmaAbort c.val (dmaConfigured c.val s)) :=
  (act_dmaCtl h 3).trans (congrArg _ (dmaCtl_command s c.val 3))

end

/-! ### What the write leaves -/

section
variable (c : Nat) (s : State)

@[simp] theorem dmaConfigured_kept : (dmaConfigured c s).dma = s.dma ∧ (dmaConfigured c s).hdr = s.hdr ∧ (dmaConfigured c s).dramMem = s.dramMem ∧
    (dmaConfigured c s).sram = s.sram ∧ (dmaConfigured c s).st = s.st ∧ (dmaConfigured c s).dram = s.dram ∧ (dmaConfigured c s).pcie = s.pcie := by
  unfold dmaConfigured
  split <;> simp

@[simp] theorem dmaCh_dmaConfigured (m : Nat) : (dmaConfigured c s).dmaCh m = s.dmaCh m := by
  obtain ⟨hdma, -⟩ := dmaConfigured_kept c s
  simp only [State.dmaCh, hdma]

variable {c s} in
theorem dmaConfigured_busy (h : (s.dmaCh c).st = 1 ∨ (s.dmaCh c).st = 2) : dmaConfigured c s = s := if_pos h

theorem rw_dmaConfigured (a : Nat) (ha : a ≠ dmaCtlAt c) : (dmaConfigured c s).rw a = s.rw a := by
  unfold dmaConfigured
  split <;> simp [ha]

/-- A configuration field of CTL reads as before. -/
theorem fld_dmaConfigured (hi lo : Nat) (h : ∀ i, i < hi + 1 - lo → (0x1F770#32).getLsbD (lo + i) = true) :
    fld ((dmaConfigured c s).rw (dmaCtlAt c)) hi lo = fld (s.rw (dmaCtlAt c)) hi lo := by
  have hmask : fld (s.rw (dmaCtlAt c) &&& 0x1F770#32) hi lo = fld (s.rw (dmaCtlAt c)) hi lo := by
    simpa using fld_merge_in 0x1F770#32 0#32 (s.rw (dmaCtlAt c)) hi lo h
  unfold dmaConfigured
  split
  · rfl
  · simpa using hmask

theorem dmaConfigured_spaces : dmaCtl_SRC_SPACE (dmaConfigured c s) c = dmaCtl_SRC_SPACE s c ∧ dmaCtl_DST_SPACE (dmaConfigured c s) c = dmaCtl_DST_SPACE s c :=
  ⟨fld_dmaConfigured c s 13 12 (by decide), fld_dmaConfigured c s 15 14 (by decide)⟩

theorem dmaConfigured_widths : dmaCtl_SRC_W (dmaConfigured c s) c = dmaCtl_SRC_W s c ∧ dmaCtl_DST_W (dmaConfigured c s) c = dmaCtl_DST_W s c :=
  ⟨fld_dmaConfigured c s 6 4 (by decide), fld_dmaConfigured c s 10 8 (by decide)⟩

theorem dmaConfigured_ranges : dmaSrc (dmaConfigured c s) c = dmaSrc s c ∧ dmaDst (dmaConfigured c s) c = dmaDst s c ∧
    dmaCount_COUNT (dmaConfigured c s) c = dmaCount_COUNT s c := by
  have hrw (k : Nat) (hk : k ≠ 0x16114) : (dmaConfigured c s).rw (k + 0x40 * c) = s.rw (k + 0x40 * c) :=
    rw_dmaConfigured c s _ (by rw [dmaCtlAt]; omega)
  refine ⟨?_, ?_, congrArg BitVec.toNat (hrw 0x16110 (by decide))⟩
  · exact congrArg₂ (fun lo hi : Word => lo.toNat + 2 ^ 32 * hi.toNat) (hrw 0x16100 (by decide)) (hrw 0x16104 (by decide))
  · exact congrArg₂ (fun lo hi : Word => lo.toNat + 2 ^ 32 * hi.toNat) (hrw 0x16108 (by decide)) (hrw 0x1610C (by decide))

/-- A START is judged as before the write. -/
theorem dmaRej_dmaConfigured : dmaRej (dmaConfigured c s) c = dmaRej s c := by
  obtain ⟨-, -, -, -, -, hdram, hpcie⟩ := dmaConfigured_kept c s
  obtain ⟨hss, hds⟩ := dmaConfigured_spaces c s
  obtain ⟨hsw, hdw⟩ := dmaConfigured_widths c s
  obtain ⟨hsrc, hdst, hcount⟩ := dmaConfigured_ranges c s
  simp only [dmaRej, inAreas, dmaAreas, dmaCh_dmaConfigured, hdram, hpcie, hss, hds, hsw, hdw, hsrc, hdst, hcount] <;> rfl

end

/-! ### A channel stored with its event -/

theorem dmaCh_setDma_self (c : Nat) (x : DmaCh) (s : State) : (s.setDma c x).dmaCh c = x := (State.dmaCh_setDma ..).trans (if_pos rfl)

/-- The channel is as stored, and has its flag. -/
@[simp] theorem dmaCh_dmaRaise_setDma (c b : Nat) (x : DmaCh) (s : State) :
    (dmaRaise c b (s.setDma c x)).dmaCh c = { x with flags := x.flags ||| 2 ^ b } := by simp [dmaRaise_dmaCh]

@[simp] theorem dmaRaise_memories (c b : Nat) (s : State) : (dmaRaise c b s).dramMem = s.dramMem ∧ (dmaRaise c b s).sram = s.sram :=
  ⟨(dmaRaise_besideDma c b s).dramMem, (dmaRaise_besideDma c b s).sram⟩

/-! ### START (R325, R326) -/

/-- The channel as an accepted START makes it: running, with nothing outstanding, in the direction of R326. -/
def dmaBegun (c : Nat) (s : State) : DmaCh :=
  { s.dmaCh c with
    st := 1, late := false, rd := none, out := [], zlr := none, fin := none, doneAt := none, causeP := false, causeS := false
    desc := decide (dmaCtl_SRC_SPACE s c = dmaCtl_DST_SPACE s c ∧ dmaSrc s c < dmaDst s c ∧ dmaDst s c < dmaSrc s c + dmaCount_COUNT s c) }

section
variable {c : Nat} {s : State}

theorem dmaStart_refused {r : Nat} (h : dmaRej s c = some r) : dmaStart c s = dmaRaise c 4 (s.setDma c { s.dmaCh c with rej := r }) := by
  simp only [dmaStart, h]

theorem dmaStart_empty (h : dmaRej s c = none) (hn : dmaCount_COUNT s c = 0) : dmaStart c s = dmaDone c (s.setDma c (dmaBegun c s)) := by
  simp only [dmaStart, h]
  exact if_pos hn

theorem dmaStart_runs (h : dmaRej s c = none) (hn : dmaCount_COUNT s c ≠ 0) : dmaStart c s = s.setDma c (dmaBegun c s) := by
  simp only [dmaStart, h]
  exact if_neg hn

/-! ### Burst boundaries (R327, R328) -/

section
variable {x : DmaCh} (hx : s.dmaCh c = x)
include hx

theorem dmaSettle_outstanding (hi : dmaIdle x = false) : dmaSettle c s = s := by
  simp [dmaSettle, hx, hi]

theorem dmaSettle_pauses (hst : x.st = 1) (hi : dmaIdle x = true) (hf : x.fin = none) (hc : x.causeS = true) :
    dmaSettle c s = dmaRaise c 5 (s.setDma c { x with st := 2 }) := by
  simp [dmaSettle, hx, hst, hi, hf, hc]

theorem dmaSettle_aborts (hst : x.st = 1) (hi : dmaIdle x = true) (hf : x.fin = some 0) :
    dmaSettle c s = dmaRaise c 1 (s.setDma c { x with st := 4, fin := none, causeP := false, causeS := false }) := by
  simp [dmaSettle, hx, hst, hi, hf]

end

/-! ### PAUSE and RESUME (R327, R331) -/

theorem dmaPause_running (hst : (s.dmaCh c).st = 1) (hf : (s.dmaCh c).fin = none) :
    dmaPause c s = dmaSettle c (s.setDma c { s.dmaCh c with causeS := true }) := if_pos ⟨hst, hf⟩

theorem dmaPause_idle (hst : (s.dmaCh c).st = 1) (hf : (s.dmaCh c).fin = none) (hi : dmaIdle (s.dmaCh c) = true) :
    dmaPause c s = dmaRaise c 5 ((s.setDma c { s.dmaCh c with causeS := true }).setDma c { s.dmaCh c with st := 2, causeS := true }) :=
  (dmaPause_running hst hf).trans (dmaSettle_pauses (x := { s.dmaCh c with causeS := true }) (dmaCh_setDma_self ..) hst hi hf rfl)

theorem dmaPause_outstanding (hst : (s.dmaCh c).st = 1) (hf : (s.dmaCh c).fin = none) (hi : dmaIdle (s.dmaCh c) = false) :
    dmaPause c s = s.setDma c { s.dmaCh c with causeS := true } :=
  (dmaPause_running hst hf).trans (dmaSettle_outstanding (dmaCh_setDma_self ..) hi)

theorem dmaPause_not (h : (s.dmaCh c).st ≠ 1 ∨ (s.dmaCh c).fin.isSome) : dmaPause c s = s := by
  refine if_neg fun ⟨hst, hf⟩ => ?_
  obtain h | h := h
  · exact h hst
  · simp [hf] at h

theorem dmaResume_runs (hst : (s.dmaCh c).st = 2) (h : (s.dmaCh c).causeP = false ∨ dmaDomDown s c = false) :
    dmaResume c s = dmaRaise c 6 ((s.setDma c { s.dmaCh c with causeS := false, causeP := false }).setDma c
      { s.dmaCh c with st := 1, causeS := false, causeP := false }) := by
  have hcause : ((s.dmaCh c).causeP && dmaDomDown s c) = false := (Bool.and_eq_false_iff ..).2 h
  simp [dmaResume, dmaWake, hst, hcause]

theorem dmaResume_held (hst : (s.dmaCh c).st = 2) (hp : (s.dmaCh c).causeP = true) (hd : dmaDomDown s c = true) :
    dmaResume c s = s.setDma c { s.dmaCh c with causeS := false } := by
  simp [dmaResume, dmaWake, hst, hd, ← hp]

theorem dmaResume_not (h : (s.dmaCh c).st ≠ 2) : dmaResume c s = s := if_neg h

/-! ### ABORT (R328) -/

theorem dmaAbort_paused (hst : (s.dmaCh c).st = 2) :
    dmaAbort c s = dmaRaise c 1 (s.setDma c { s.dmaCh c with st := 4, causeP := false, causeS := false }) := if_pos hst

theorem dmaAbort_running (hst : (s.dmaCh c).st = 1) (hf : (s.dmaCh c).fin = none) :
    dmaAbort c s = dmaSettle c (s.setDma c { s.dmaCh c with fin := some 0, rd := none }) := by
  simp [dmaAbort, hst, hf]

/-- No write is issued: the outstanding read is dropped and the transfer ends. -/
theorem dmaAbort_unwritten (hst : (s.dmaCh c).st = 1) (hf : (s.dmaCh c).fin = none) (hi : dmaIdle { s.dmaCh c with rd := none } = true) :
    dmaAbort c s = dmaRaise c 1 ((s.setDma c { s.dmaCh c with fin := some 0, rd := none }).setDma c
      { s.dmaCh c with st := 4, rd := none, fin := none, causeP := false, causeS := false }) :=
  (dmaAbort_running hst hf).trans (dmaSettle_aborts (x := { s.dmaCh c with fin := some 0, rd := none }) (dmaCh_setDma_self ..) hst hi rfl)

theorem dmaAbort_written (hst : (s.dmaCh c).st = 1) (hf : (s.dmaCh c).fin = none) (hi : dmaIdle { s.dmaCh c with rd := none } = false) :
    dmaAbort c s = s.setDma c { s.dmaCh c with fin := some 0, rd := none } :=
  (dmaAbort_running hst hf).trans (dmaSettle_outstanding (dmaCh_setDma_self ..) hi)

theorem dmaAbort_ending (hst : (s.dmaCh c).st = 1) (hf : (s.dmaCh c).fin.isSome) : dmaAbort c s = s := by
  simp [dmaAbort, hst, hf]

theorem dmaAbort_late (hst : (s.dmaCh c).st = 3) (hd : (s.dmaCh c).doneAt = some s.st) :
    dmaAbort c s = dmaRaise c 2 (s.setDma c { s.dmaCh c with late := true }) := by
  simp [dmaAbort, hst, hd]

theorem dmaAbort_over (h1 : (s.dmaCh c).st ≠ 1) (h2 : (s.dmaCh c).st ≠ 2) (h3 : (s.dmaCh c).st = 3 → (s.dmaCh c).doneAt ≠ some s.st) : dmaAbort c s = s := by
  rw [dmaAbort, if_neg h2, if_neg h1, if_neg fun h => h3 h.1 h.2]

end

/-! ### The statement -/

/-- Settles O44: each command by the state of its channel as the write of CTL leaves it. -/
theorem dmaCommands : Obligations.DmaCommands := by
  unfold Obligations.DmaCommands
  intro s src c h still
  have hrej := dmaRej_dmaConfigured c.val s
  obtain ⟨hss, hds⟩ := dmaConfigured_spaces c.val s
  obtain ⟨hsrc, hdst, hcount⟩ := dmaConfigured_ranges c.val s
  have hch := dmaCh_dmaConfigured c.val s c.val
  refine ⟨fun r hr => ?refused, fun hr hn => ?empty, fun hr hn => ?runs, fun hst hf hi => ?pauses, fun hst hf hi => ?drains, fun hst => ?pausing,
    fun h1 h2 => ⟨?unpaused, ?unresumed⟩, fun hst hcause => ?resumes, fun hst hp hd => ?held, fun hst => ?running, fun hst => ?ended, fun hst => ?past,
    fun hst hd => ?late, fun hst hf hi => ?unwritten, fun hst hf hi => ?written, fun hst hf => ?ending⟩
  case refused =>
    rw [exec_dmaCtlStart h, dmaStart_refused (hrej.trans hr)]
    exact ⟨_, rfl, by simp, by simp, by simp, by simp, dmaRaise_flag ..⟩
  case empty =>
    rw [exec_dmaCtlStart h, dmaStart_empty (hrej.trans hr) (hcount.trans hn), dmaDone]
    exact ⟨_, rfl, by simp, dmaRaise_flag .., by simp, by simp⟩
  case runs =>
    rw [exec_dmaCtlStart h, dmaStart_runs (hrej.trans hr) (hcount.trans_ne hn)]
    exact ⟨_, rfl, by simp [dmaBegun, hss, hds, hsrc, hdst, hcount]⟩
  case pauses =>
    rw [exec_dmaCtlPause h, dmaConfigured_busy (.inl hst), dmaPause_idle hst hf hi]
    exact ⟨_, rfl, by simp, by simp, dmaRaise_flag ..⟩
  case drains => rw [exec_dmaCtlPause h, dmaConfigured_busy (.inl hst), dmaPause_outstanding hst hf hi]
  case pausing =>
    have hbusy : (s.dmaCh c.val).st = 1 ∨ (s.dmaCh c.val).st = 2 := hst.symm.imp_left And.left
    have hnot : (s.dmaCh c.val).st ≠ 1 ∨ (s.dmaCh c.val).fin.isSome := hst.imp (fun h2 => by simp [h2]) And.right
    rw [exec_dmaCtlPause h, dmaConfigured_busy hbusy, dmaPause_not hnot]
  case unpaused => exact ⟨_, (exec_dmaCtlPause h).trans (congrArg _ (dmaPause_not (.inl (hch ▸ h1)))), by simp⟩
  case unresumed => exact ⟨_, (exec_dmaCtlResume h).trans (congrArg _ (dmaResume_not (hch ▸ h2))), by simp⟩
  case resumes =>
    rw [exec_dmaCtlResume h, dmaConfigured_busy (.inr hst), dmaResume_runs hst hcause]
    exact ⟨_, rfl, by simp, by simp, by simp, dmaRaise_flag ..⟩
  case held => rw [exec_dmaCtlResume h, dmaConfigured_busy (.inr hst), dmaResume_held hst hp hd]
  case running => rw [exec_dmaCtlResume h, dmaConfigured_busy (.inl hst), dmaResume_not (by simp [hst])]
  case ended =>
    rw [exec_dmaCtlAbort h, dmaConfigured_busy (.inr hst), dmaAbort_paused hst]
    exact ⟨_, rfl, by simp, by simp, by simp, dmaRaise_flag ..⟩
  case past =>
    have hover : dmaAbort c.val (dmaConfigured c.val s) = dmaConfigured c.val s := by
      apply dmaAbort_over <;> rw [hch]
      · omega
      · omega
      · exact fun h3 => by simpa [h3] using hst
    exact ⟨_, (exec_dmaCtlAbort h).trans (congrArg _ hover), by simp⟩
  case late =>
    rw [exec_dmaCtlAbort h, dmaAbort_late (hch ▸ hst) (by simp [hd])]
    exact ⟨_, rfl, by simp [hst], by simp, dmaRaise_flag .., by simp, by simp⟩
  case unwritten =>
    rw [exec_dmaCtlAbort h, dmaConfigured_busy (.inl hst), dmaAbort_unwritten hst hf hi]
    exact ⟨_, rfl, by simp, dmaRaise_flag ..⟩
  case written => rw [exec_dmaCtlAbort h, dmaConfigured_busy (.inl hst), dmaAbort_written hst hf hi]
  case ending => rw [exec_dmaCtlAbort h, dmaConfigured_busy (.inl hst), dmaAbort_ending hst hf]

end Sys2Proof.Machine
end

section
/-! SUPPORT. A held reset: the commands that act only on a hub let go, the full resets, and the dip of the core supply (R435, R441, R463). -/

namespace Sys2Proof.Machine

/-! ### A held reset (R463) -/

/-- Every command but the one that ends a held reset leaves a held hub as it is. -/
theorem exec_gated (c : Instr) (s : State) (h : c ≠ .vddCoreInRange) : ∃ t, exec c s = .next (if s.supply.held then s else t) := by
  cases c
  case vddCoreInRange => exact absurd rfl h
  all_goals exact ⟨_, rfl⟩

theorem exec_held {c : Instr} {s : State} (hs : s.supply.held = true) (h : c ≠ .vddCoreInRange) : exec c s = .next s := by
  obtain ⟨t, ht⟩ := exec_gated c s h
  rw [ht, if_pos hs]

theorem idleTick_held {s : State} (hs : s.supply.held = true) : idleTick s = s := by simp [idleTick, hs]

/-- Settles O7: an empty queue leaves the held hub as it is, and a command only leaves the queue. -/
theorem heldHubFrozen : Obligations.HeldHubFrozen := by
  intro s t ⟨hs, hq⟩ ht
  cases hp : s.pending with
  | nil =>
    rw [step_empty hp, idleTick_held hs] at ht
    cases ht
    exact ⟨⟨hs, hq⟩, rfl⟩
  | cons c rest =>
    obtain ⟨hc, hrest⟩ : Instr.vddCoreInRange ≠ c ∧ Instr.vddCoreInRange ∉ rest := by simpa [hp] using hq
    have hheld : exec c { s with pending := rest } = .next { s with pending := rest } := exec_held hs hc.symm
    rw [step_front hp, hheld] at ht
    cases ht
    exact ⟨⟨hs, hrest⟩, rfl⟩

/-! ### Full resets (R435, R441) -/

theorem exec_porN {s : State} (hs : s.supply.held = false) : exec .porN s = .next (hubReset 1 false s) := act_live hs
theorem exec_vddCoreLow {s : State} (hs : s.supply.held = false) :
    exec .vddCoreLow s = .next (hubReset 1 false { s with supply := { s.supply with held := true } }) := act_live hs
theorem exec_vddCoreInRange {s : State} (hs : s.supply.held = true) :
    exec .vddCoreInRange s = .next (hubReset 1 false { s with supply := { s.supply with held := false } }) := by
  change Host.Outcome.next (coreBack s) = _
  rw [coreBack, if_pos hs]

/-- What POR leaves: every register and memory at its reset value, and the start-up sequence before its first step. -/
theorem hubReset_power (s : State) : (hubReset 1 false s).st = 0 ∧ (hubReset 1 false s).pending = s.pending ∧
    (∀ a, (hubReset 1 false s).rw a = regReset a) ∧ (hubReset 1 false s).sram = [] ∧ (hubReset 1 false s).dramMem = [] ∧
    (hubReset 1 false s).hdr = [] ∧ (hubReset 1 false s).boot.step = 0 :=
  ⟨rfl, rfl, fun _ => rfl, rfl, rfl, rfl, rfl⟩

/-- Settles O3: VDD_CORE below its range is POR with the reset held on, and back in range it is POR with the reset let go. -/
theorem supplyDip : Obligations.SupplyDip := by
  refine ⟨fun s hs => ?_, fun s c hs hc => exec_held hs hc, fun s hs => idleTick_held hs, fun s hs => ?_⟩
  · obtain ⟨hst, hrest⟩ := hubReset_power { s with supply := { s.supply with held := true } }
    exact ⟨_, exec_vddCoreLow hs, rfl, hst, hrest⟩
  · obtain ⟨hst, hpend, hrw, hsram, hdram, hhdr, hstep⟩ := hubReset_power { s with supply := { s.supply with held := false } }
    exact ⟨_, exec_vddCoreInRange hs, rfl, hst, hpend, hrw, hsram, hdram, hhdr, hstep, rfl, exec_porN rfl⟩

end Sys2Proof.Machine
end

section
/-! SUPPORT. Attestation: EXTEND and QUOTE, and the quote filled and signed (R442 to R445). -/

namespace Sys2Proof.Machine

/-! ### ATT_CMD (R442, R443) -/

/-- The fields of an EXTEND word: OP 1 and the index. -/
theorem attExtendWord (i : Fin 8) : fld (word (2 ^ 8 + i.val)) 9 8 = 1 ∧ fld (word (2 ^ 8 + i.val)) 2 0 = i.val := by
  revert i; decide

theorem exec_attCmdExtend {s : State} {src : Src} {i : Fin 8} (h : s.reaches 0x5100) :
    exec (.attCmdExtend src i) s = .next (attExtend src.code i.val s) := by
  obtain ⟨hop, hix⟩ := attExtendWord i
  have hcmd : regEffect src.code 0x5100 (word (2 ^ 8 + i.val)) s = attExtend src.code i.val s := by
    change (if fld _ 9 8 = 1 then attExtend _ (fld _ 2 0) s else _) = _
    rw [if_pos hop, hix]
  exact (act_busWrite _ _ h (by decide)).trans (congrArg _ hcmd)

theorem exec_attCmdQuote {s : State} {src : Src} (h : s.reaches 0x5100) : exec (.attCmdQuote src) s = .next (attQuote s) :=
  act_busWrite src.code (word (2 ^ 9)) h (by decide)

theorem exec_attQuoteDone {s : State} (hs : s.supply.held = false) : exec .attQuoteDone s = .next (attDone s) := act_live hs

/-- A refusal of ATT_CMD leaves its reason and raises ATT_REJ. -/
theorem attRej_spec (r : Nat) (s : State) : (attRej r s).att = { s.att with rej := r } ∧ bit ((attRej r s).page pATT).stat 1 = true :=
  ⟨by simp [attRej], raise_latched _ _ _ (by decide)⟩

theorem attExtend_source {src i : Nat} {s : State} (h : src ≠ 3) : attExtend src i s = attRej 3 s := if_pos h
theorem attExtend_index {s : State} : attExtend 3 0 s = attRej 2 s := rfl
theorem attExtend_taken {i : Nat} {s : State} (h : i ≠ 0) : attExtend 3 i s = { s with att := { s.att with
    meas := s.att.meas.set i (measExtend (s.att.meas.getD i 0) (attDigest s)), cnt := s.att.cnt.set i ((s.att.cnt.getD i 0 + 1) % 2 ^ 32) } } := by
  simp [attExtend, h]

theorem attQuote_busy {s : State} (h : s.att.snap.isSome) : attQuote s = attRej 1 s := if_pos h
theorem attQuote_taken {s : State} (h : s.att.snap = none) : attQuote s = { s with att := { s.att with
    snap := some ⟨s.att.meas, s.att.cnt, (List.range 8).map (fun i => s.rw (attNonceAt i)), s.st, s.clk⟩, changed := false } } := by
  simp [attQuote, h]

/-! ### The quote's words (R443) -/

theorem leWords_length : ∀ l : List Nat, (leWords l).length = l.length / 4
  | [] | [_] | [_, _] | [_, _, _] => by simp [leWords]
  | _ :: _ :: _ :: _ :: t => by simp [leWords, leWords_length t]; omega

theorem digWords_length (d : BitVec 384) : (leWords (digBytes d)).length = 12 := by simp [leWords_length, digBytes, bigBytes]

theorem signWords_length (bs : List Nat) : (leWords (quoteSign bs)).length = 24 := by simp [leWords_length, quoteSign, bigBytes]

/-- The 148 words that the signature covers. -/
theorem quoteBody_length {s : State} {q : AttSnap} {conf : BitVec 384} (hm : q.meas.length = 8) (hc : q.cnt.length = 8) (hn : q.nonce.length = 8) :
    (quoteBody s q conf).length = 148 := by
  simp [quoteBody, hm, hc, hn, digWords_length, List.length_flatMap]

/-- The nonce stands behind the four words of the head. -/
theorem quoteBody_nonce {s : State} {q : AttSnap} {conf : BitVec 384} (hn : q.nonce.length = 8) :
    ((quoteBody s q conf).drop 4).take 8 = q.nonce := by
  simp [quoteBody, hn]

/-! ### The quote done (R444, R445) -/

/-- CONF_DIGEST: of the configuration, or open where a word it covers was written meanwhile. -/
def confDigest (s : State) : BitVec 384 := if s.att.changed then BitVec.ofNat 384 s.free.1 else sha384 (confBytes s)

/-- A quote of these words, signed. -/
def signedQuote (body : List Word) : List Word := body ++ leWords (quoteSign (body.flatMap wordBytes))

theorem attDone_none {s : State} (h : s.att.snap = none) : attDone s = s := by simp [attDone, h]

theorem attDone_some {s : State} {q : AttSnap} (h : s.att.snap = some q) :
    (attDone s).att = { s.att with snap := none, changed := false, quote := signedQuote (quoteBody s q (confDigest s)) } ∧
      bit ((attDone s).page pATT).stat 0 = true := by
  simp only [attDone, h]
  refine ⟨?_, raise_latched _ _ _ (by decide)⟩
  cases hc : s.att.changed <;> simp [signedQuote, confDigest, hc, State.free]

/-! ### The statement -/

/-- Settles O57: each command on what its operation leaves, and the finished quote on the lengths of its parts. -/
theorem attestation : Obligations.Attestation := by
  refine ⟨fun s src i h => ⟨fun hsrc => ?_, fun hi => ?_, fun hi => ?_, fun hq => ?_, fun hq => ?_⟩, fun s hs hq => ?_, fun s q hs hq hm hc hn => ?_⟩
  · exact ⟨_, (exec_attCmdExtend h).trans (congrArg _ (attExtend_source (mt (Src.code_eq_three src).1 hsrc))), attRej_spec 3 s⟩
  · exact ⟨_, (exec_attCmdExtend h).trans (by rw [hi]; exact congrArg _ attExtend_index), attRej_spec 2 s⟩
  · exact (exec_attCmdExtend h).trans (congrArg _ (attExtend_taken hi))
  · exact ⟨_, (exec_attCmdQuote h).trans (congrArg _ (attQuote_busy hq)), attRej_spec 1 s⟩
  · exact ⟨_, _, (exec_attCmdQuote h).trans (congrArg _ (attQuote_taken hq)), rfl, rfl, rfl, rfl, rfl, rfl, rfl⟩
  · rw [exec_attQuoteDone hs, attDone_none hq]
  · obtain ⟨hatt, hflag⟩ := attDone_some hq
    have hlen : (quoteBody s q (confDigest s)).length = 148 := quoteBody_length hm hc hn
    refine ⟨_, exec_attQuoteDone hs, ?_⟩
    rw [hatt]
    refine ⟨rfl, by simp [signedQuote, hlen, signWords_length], ?_, rfl, fun hch => ?_, ?_, hflag⟩
    · rw [signedQuote, List.drop_append_of_le_length (by omega), List.take_append_of_le_length (by simp [hlen]), quoteBody_nonce hn]
    · rw [signedQuote, List.take_left' hlen, confDigest, if_neg (by simp [hch])]
    · simp [signedQuote, hlen]

end Sys2Proof.Machine
end

section
/-! SUPPORT. What the events and the units' own updates leave of the hub at large: a property of time, the supplies, start-up, the power manager, the
registers, the latched events and the mittens that events keep is kept by the slices, loops, channels, lanes and links as they follow a change. -/

namespace Sys2Proof.Machine

/-- The same hub but for what the units hold. -/
@[simp] def State.sameHub (s t : State) : Prop :=
  t.clk = s.clk ∧ t.st = s.st ∧ t.supply = s.supply ∧ t.pwr = s.pwr ∧ t.hdr = s.hdr ∧ t.regs = s.regs ∧ t.boot = s.boot ∧ t.mitts = s.mitts

/-- The same hub but for what the units other than the lanes and the governor hold. -/
@[simp] def State.sameSide (s t : State) : Prop := s.sameHub t ∧ t.lanes = s.lanes ∧ t.bgt = s.bgt

/-- The same hub but for what the units other than the lanes, the governor and the Ethernet ports hold. -/
@[simp] def State.sameCore (s t : State) : Prop := s.sameSide t ∧ t.eths = s.eths

/-- A property that events keep, of the hub at large, the governor, the lanes and the Ethernet ports. -/
structure CoreInv (P : State → Prop) : Prop where
  latch : ∀ {s} p b, P s → P (latch p b s)
  wake : ∀ {s}, P s → P (wakeHub s)
  same : ∀ {s t}, P s → s.sameCore t → P t

/-- Such a property that says nothing of the Ethernet ports. -/
structure LaneInv (P : State → Prop) : Prop extends CoreInv P where
  eth : ∀ {s} n v, P s → P (s.setEth n v)

/-- Such a property that the data blocks a lane sends keep too: it says nothing of the instants of the last ones. -/
structure SideInv (P : State → Prop) : Prop extends LaneInv P where
  txData : ∀ {s} n, P s → P (laneTxData n s)

/-- A property that events keep, of the hub at large alone. -/
structure HubInv (P : State → Prop) : Prop where
  latch : ∀ {s} p b, P s → P (latch p b s)
  wake : ∀ {s}, P s → P (wakeHub s)
  same : ∀ {s t}, P s → s.sameHub t → P t

variable {P : State → Prop}

theorem keeps_ite {c : Prop} [Decidable c] {a b : State} (ha : P a) (hb : P b) : P (if c then a else b) := by
  split
  · exact ha
  · exact hb

section
variable (hP : CoreInv P)
include hP

/-! ### The units' own states -/

theorem CoreInv.setUlk (n : Nat) (v : UlkSt) {s : State} (h : P s) : P (s.setUlk n v) := hP.same h (by simp)
theorem CoreInv.setDma (n : Nat) (v : DmaCh) {s : State} (h : P s) : P (s.setDma n v) := hP.same h (by simp)
theorem CoreInv.setTch (n : Nat) (v : TiuCh) {s : State} (h : P s) : P (s.setTch n v) := hP.same h (by simp)
theorem CoreInv.setCal (n : Nat) (v : CalSl) {s : State} (h : P s) : P (s.setCal n v) := hP.same h (by simp)
theorem CoreInv.setLoop (n : Nat) (v : LoopSt) {s : State} (h : P s) : P (s.setLoop n v) := hP.same h (by simp)
theorem CoreInv.setSlice (n : Nat) (v : SliceSt) {s : State} (h : P s) : P (s.setSlice n v) := hP.same h (by simp)
theorem CoreInv.setCtx (n : Nat) (v : CtxSt) {s : State} (h : P s) : P (s.setCtx n v) := hP.same h (by simp)
theorem CoreInv.setUnit (n : Nat) (v : UnitSt) {s : State} (h : P s) : P (s.setUnit n v) := hP.same h (by simp)
theorem CoreInv.setStr (n : Nat) (v : StrSt) {s : State} (h : P s) : P (s.setStr n v) := hP.same h (by simp)
theorem CoreInv.setRec (n : Nat) (v : Option RecSlot) {s : State} (h : P s) : P (s.setRec n v) := hP.same h (by simp)

/-! ### Events -/

theorem CoreInv.raise (p b : Nat) {s : State} (h : P s) : P (raise p b s) := by
  obtain e | e := raise_cases p b s <;> rw [e]
  · exact hP.latch p b h
  · exact hP.wake (hP.latch p b h)

theorem CoreInv.raiseIf (c : Bool) (p b : Nat) {s : State} (h : P s) : P (raiseIf c p b s) := by
  cases c
  · exact h
  · exact hP.raise p b h

theorem CoreInv.ringRaise (b : Nat) {s : State} (h : P s) : P (ringRaise b s) := by
  have hrise : P (msiRise (212 + b) s { s with ring := { s.ring with evt := s.ring.evt ||| 2 ^ b } }) := hP.same h (by simp)
  unfold Machine.ringRaise
  dsimp only
  split
  · exact hP.wake hrise
  · exact hrise

/-! ### Leave, settling events and excitation -/

theorem CoreInv.onRuns {p : List Word → Bool} {c : Nat} {f : State → State} (hf : ∀ {a}, P a → P (f a)) {s : State} (h : P s) : P (onRuns p c f s) := by
  have htails : P (onTails p c f s) := hP.same h (by simp [onTails])
  unfold Machine.onRuns
  dsimp only
  split
  · exact hf htails
  · exact htails

theorem CoreInv.settleRun (c t cyc : Nat) (stale : Bool) (path : Nat) {s : State} (h : P s) : P (settleRun c t cyc stale path s) := by
  unfold Machine.settleRun
  dsimp only
  split
  · exact hP.same h (by simp)
  · exact h

theorem CoreInv.settleEvent (c t cyc : Nat) (stale : Bool) (path : Nat) {s : State} (h : P s) : P (settleEvent c t cyc stale path s) :=
  hP.onRuns (fun ha => hP.settleRun c t cyc stale path ha) h

theorem CoreInv.scRestart (n t cyc : Nat) {s : State} (h : P s) : P (scRestart n t cyc s) := by
  obtain e | ⟨o, e⟩ := scRestart_cases n t cyc s <;> rw [e]
  · exact h
  · exact hP.raise _ _ (hP.same h (by simp))

theorem CoreInv.excSettles (n t : Nat) (isOn : Bool) {s : State} (h : P s) : P (excSettles n t isOn s) := by
  unfold Machine.excSettles
  dsimp only
  split
  · exact h
  next c _ =>
  split
  · split
    · exact hP.scRestart _ _ _ h
    · exact h
  split
  · have hset : P (if (isOn && pholdException s c (s.slice n) t) = true then Machine.settleEvent c t (excSettle (s.slice n)) false 0 s else s) := by
      split
      · exact hP.settleEvent _ _ _ _ _ h
      · exact h
    split
    · exact hP.same hset (by simp)
    · exact hset
  · exact hP.settleEvent _ _ _ _ _ h

theorem CoreInv.excOffAt (n t : Nat) {s : State} (h : P s) : P (excOffAt n t s) := by
  unfold Machine.excOffAt
  dsimp only
  split
  · exact hP.excSettles _ _ _ (hP.same h (by simp))
  · exact h

theorem CoreInv.excSafety (n t : Nat) {s : State} (h : P s) : P (excSafety n t s) := by
  have hcut : P (excCut n t 3 s) := by
    unfold excCut
    dsimp only
    split
    · have hoff : P (Machine.excOffAt n t s) := hP.excOffAt n t h
      split
      · exact hP.onRuns (fun ha => hP.same ha (by simp)) hoff
      · exact hoff
    · exact h
  exact hP.same hcut (by simp [Machine.excSafety])

/-! ### Ledger entries and on-chip memory -/

theorem CoreInv.setDramW (a : Nat) (w : Word) {s : State} (h : P s) : P (s.setDramW a w) := by
  have hbyte (i : Nat) {s : State} (h : P s) : P (s.setDramB (a + i) (byteOf w i)) := hP.same h (by and_intros <;> rfl)
  exact hP.same (hbyte 3 (hbyte 2 (hbyte 1 (hbyte 0 h)))) (by and_intros <;> rfl)

theorem CoreInv.setDramWs (a : Nat) (ws : List Word) {s : State} (h : P s) : P (s.setDramWs a ws) :=
  foldl_keeps P _ (fun _ _ ha => hP.setDramW _ _ ha) _ s h

theorem CoreInv.ledgerRing (e : List Word) {s : State} (h : P s) : P (ledgerRing e s) := by
  unfold Machine.ledgerRing
  dsimp only
  split
  · exact hP.raise _ _ (hP.same h (by simp))
  · exact hP.raiseIf _ _ _ (hP.raiseIf _ _ _ (hP.same (hP.setDramWs (ledgerBase s + s.store.lgOfs) e h) (by simp)))

theorem CoreInv.ledgerNow (body : List Word) {s : State} (h : P s) : P (ledgerNow body s) := by
  unfold Machine.ledgerNow
  dsimp only
  split
  · split
    · exact hP.raiseIf _ _ _ (hP.same h (by simp))
    · exact hP.raise _ _ (hP.same h (by simp))
  · exact hP.ledgerRing _ h

theorem CoreInv.rangeEntry (n reason first last words nmem : Nat) {s : State} (h : P s) : P (rangeEntry n reason first last words nmem s) := by
  unfold Machine.rangeEntry ledgerPut
  split
  · exact hP.same h (by simp)
  · exact hP.raiseIf _ _ _ (hP.ledgerNow _ h)

theorem CoreInv.schNote (n b : Nat) {s : State} (h : P s) : P (schNote n b s) := hP.raise _ b (hP.same h (by simp))

theorem CoreInv.schSpend (n : Nat) {s : State} (h : P s) : P (schSpend n s) :=
  hP.same h (by simp [Machine.schSpend, State.setEnt])

theorem CoreInv.setEnt (n : Nat) (e : Option SchEnt) {s : State} (h : P s) : P (s.setEnt n e) := hP.same h (by simp [State.setEnt])

theorem CoreInv.schArm (n : Nat) (lo : Int) (late : Nat) {s : State} (h : P s) : P (schArm n lo late s) := by
  unfold Machine.schArm
  dsimp only
  split
  · exact hP.setEnt n none h
  split
  · exact hP.schNote n 5 (hP.schSpend n h)
  split
  · exact hP.setEnt n none h
  generalize (if decide (schAXIS (schWords s n) ≠ 0) = true then _ else lo) = low
  split
  · split
    · exact hP.schNote n late (hP.schSpend n h)
    · exact hP.setEnt n _ h
  · exact hP.setEnt n _ h

theorem CoreInv.schedWrite (n : Nat) {s : State} (h : P s) : P (schedWrite n s) := by
  unfold Machine.schedWrite
  dsimp only
  split
  · split
    · exact hP.setEnt n _ h
    · exact hP.schArm n _ 0 h
  · exact hP.schArm n _ 0 h

theorem CoreInv.tblPut (o : Nat) (v : Word) {s : State} (h : P s) : P (tblPut o v s) := by
  have hnote : P (loopNote o s) := by
    unfold loopNote
    split
    · exact hP.same h (by simp)
    · exact h
  unfold Machine.tblPut
  dsimp only
  split
  · exact h
  split
  · split
    · exact hP.raise _ _ h
    · exact hP.same h (by simp)
  split
  · split
    · exact hP.same h (by simp)
    · exact hP.raise _ _ h
  split
  · split
    · exact hP.raise _ _ h
    · exact hP.same h (by simp)
  · exact hP.same hnote (by simp)

theorem CoreInv.sramPut (a : Nat) (bs : List Byte) {s : State} (h : P s) : P (sramPut a bs s) := by
  have hplain (a : Nat) (bs : List Byte) {s : State} (h : P s) : P (plainPut a bs s) := by
    rw [plainPut_eq]
    exact foldl_keeps P _ (fun _ _ ha => hP.same ha (by simp)) _ _ (foldl_keeps P _ (fun _ _ ha => hP.same ha (by and_intros <;> rfl)) _ s h)
  have htbl (o : Nat) (bs : List Byte) {s : State} (h : P s) : P (tblBytes o bs s) := by
    unfold tblBytes
    split
    · exact foldl_keeps P _ (fun _ n ha => hP.schedWrite n ha) _ _ (foldl_keeps P _ (fun _ x ha => hP.tblPut x.1 x.2 ha) _ s h)
    · exact h
  exact hplain _ _ (htbl _ _ (hplain _ _ h))

/-! ### The block mover (R326 to R331) -/

theorem CoreInv.dmaRaise (c b : Nat) {s : State} (h : P s) : P (dmaRaise c b s) := by
  unfold Machine.dmaRaise
  dsimp only
  split
  · exact h
  · exact hP.raise _ _ (hP.same h (by simp))

theorem CoreInv.dmaSettle (c : Nat) {s : State} (h : P s) : P (dmaSettle c s) := by
  unfold Machine.dmaSettle
  dsimp only
  split
  · split
    · exact hP.dmaRaise _ _ (hP.same h (by simp))
    · exact hP.dmaRaise _ _ (hP.same h (by simp))
    · split
      · exact hP.dmaRaise _ _ (hP.same h (by simp))
      · exact h
  · exact h

theorem CoreInv.dmaWake (c : Nat) {s : State} (h : P s) : P (dmaWake c s) := by
  unfold Machine.dmaWake
  dsimp only
  split
  · exact hP.dmaRaise _ _ (hP.same h (by simp))
  · exact h

theorem CoreInv.dmaFail (c r : Nat) {s : State} (h : P s) : P (dmaFail c r s) := by
  unfold Machine.dmaFail
  dsimp only
  split
  · exact hP.dmaRaise _ _ (hP.same h (by simp))
  split
  · exact hP.dmaSettle _ (hP.same h (by simp))
  · exact h

theorem CoreInv.dmaHost (r : Nat) {s : State} (h : P s) : P (dmaHost r s) := by
  refine foldl_keeps P _ (fun a c ha => ?_) _ s h
  split
  · exact hP.dmaFail _ _ ha
  · exact ha

theorem CoreInv.dmaPwrEnd (d : Nat) {s : State} (h : P s) : P (dmaPwrEnd d s) := hP.same h (by simp [Machine.dmaPwrEnd])

theorem CoreInv.dmaPwrAsk (d : Nat) {s : State} (h : P s) : P (dmaPwrAsk d s) := by
  have hask : P ((List.range 16).foldl (fun a c => if dmaActive a c d then Machine.dmaSettle c (a.setDma c { a.dmaCh c with causeP := true }) else a) s) := by
    refine foldl_keeps P _ (fun a c ha => ?_) _ s h
    split
    · exact hP.dmaSettle _ (hP.same ha (by simp))
    · exact ha
  unfold Machine.dmaPwrAsk
  dsimp only
  split
  · exact hask
  · exact hP.same hask (by simp)

theorem CoreInv.dmaPwrFree (d : Nat) (auto : Bool) {s : State} (h : P s) : P (dmaPwrFree d auto s) := by
  refine foldl_keeps P _ (fun a c ha => ?_) _ _ (hP.dmaPwrEnd d h)
  split
  · exact hP.dmaWake _ (hP.same ha (by simp))
  · exact ha

theorem CoreInv.dmaUnask {s : State} (h : P s) : P (dmaUnask s) := by
  refine foldl_keeps P _ (fun a d ha => ?_) _ s h
  split
  · exact hP.dmaPwrFree _ _ ha
  · exact ha

end

section
variable (hP : LaneInv P)
include hP

/-! ### Ethernet (R388, R390) -/

theorem LaneInv.ethLink (n : Nat) (up : Bool) (speed : Nat) (anDone anFail : Bool) (mid : Nat) {s : State} (h : P s) :
    P (ethLink n up speed anDone anFail mid s) := by
  have htx {a : State} (ha : P a) : P (txBack n 0 false true a) := hP.eth _ _ (hP.sramPut _ _ (hP.sramPut _ _ ha))
  have hchg (x : EthSt) (c : Bool) : P (Machine.raiseIf c (pETH n) 0 (s.setEth n x)) := hP.raiseIf _ _ _ (hP.eth _ _ h)
  exact keeps_ite (hP.eth _ _ (keeps_ite (hP.raise _ _ (hP.eth _ _ (htx (hchg _ _)))) (hchg _ _))) (hchg _ _)

/-! ### Loops and the time interval unit -/

theorem LaneInv.lraise (n b : Nat) {s : State} (h : P s) : P (lraise n b s) := by
  unfold Machine.lraise
  dsimp only
  split
  · exact h
  · exact hP.raise _ _ (hP.same h (by simp))

theorem LaneInv.slewEnd (n : Nat) {s : State} (h : P s) : P (slewEnd n s) := by
  unfold Machine.slewEnd
  split
  · exact hP.lraise _ _ (hP.same h (by simp))
  · exact h

theorem LaneInv.loopSettles (n : Nat) {s : State} (h : P s) : P (loopSettles n s) :=
  foldl_keeps P _ (fun _ _ ha => hP.settleEvent _ _ _ _ _ ha) _ s h

theorem LaneInv.enterOff (n : Nat) {s : State} (h : P s) : P (enterOff n s) := by
  refine hP.lraise _ _ (hP.loopSettles _ (hP.slewEnd _ ?_))
  unfold lraiseIf
  split
  · exact hP.lraise _ _ (hP.same h (by simp))
  · exact hP.same h (by simp)

theorem LaneInv.enterHold (n : Nat) (safe : Bool) {s : State} (h : P s) : P (enterHold n safe s) :=
  hP.lraise _ _ (hP.loopSettles _ (hP.slewEnd _ (hP.same h (by simp))))

theorem LaneInv.tiResult (c flags kind v1 v2 aux ref : Nat) {s : State} (h : P s) : P (tiResult c flags kind v1 v2 aux ref s) := by
  unfold Machine.tiResult
  dsimp only
  split
  · exact hP.raise _ _ (hP.same h (by simp))
  · exact hP.raiseIf _ _ _ (hP.same h (by simp))

/-! ### Trigger units -/

theorem LaneInv.disarmUnit (u : Nat) {s : State} (h : P s) : P (disarmUnit u s) := by
  have hrel : P (releaseUnit u s) := by
    unfold releaseUnit
    dsimp only
    split <;> exact hP.same h (by simp)
  unfold Machine.disarmUnit
  split
  · exact hP.raise _ _ hrel
  · exact h

/-! ### The link layer (R360 to R378) -/

theorem LaneInv.wireOut (w : WireOut) {s : State} (h : P s) : P (wireOut w s) := hP.same h (by and_intros <;> rfl)

end

section
variable (hP : SideInv P)
include hP

theorem SideInv.ulkPump (n : Nat) {s : State} (h : P s) : P (ulkPump n s) := by
  have hpump : ∀ (k : Nat) {s : State}, P s → P (pump n k s) := by
    intro k
    induction k with
    | zero => exact fun h => h
    | succ k ih =>
      intro s h
      unfold pump
      split
      · exact h
      · exact keeps_ite (ih (hP.wireOut _ (hP.txData _ (hP.setUlk _ _ h)))) h
  exact hpump _ h

theorem SideInv.ulkQueue (n : Nat) (f : UlkFrame) {s : State} (h : P s) : P (ulkQueue n f s) := hP.ulkPump _ (hP.setUlk _ _ h)

theorem SideInv.ringSend (n : Nat) (f : UlkFrame) {s : State} (h : P s) : P (ringSend n f s) := by
  have hdrop : P (ttlDrop n s) := hP.ringRaise _ (hP.setUlk _ _ h)
  exact keeps_ite (keeps_ite h (keeps_ite hdrop (hP.ulkQueue _ _ h))) (keeps_ite h (hP.ulkQueue _ _ h))

theorem SideInv.streamGiveUp (n : Nat) (fs : List UlkFrame) {s : State} (h : P s) : P (streamGiveUp n fs s) := by
  have hread (k q : Nat) {a : State} (ha : P a) : P (pktRead k q a) := keeps_ite (hP.setStr _ _ (hP.setStr _ _ ha)) (hP.setStr _ _ ha)
  refine foldl_keeps P _ (fun a x ha => keeps_ite (hP.setStr _ _ (hP.setStr _ _ ha)) ?_) _ s h
  split
  · exact hP.setStr _ _ (hP.rangeEntry _ _ _ _ _ _ (hread _ _ ha))
  · exact ha

theorem SideInv.mbDone (r : Nat) {s : State} (h : P s) : P (mbDone r s) := by
  unfold Machine.mbDone ulkRaise
  exact hP.raise _ _ (hP.same h (by and_intros <;> rfl))

theorem SideInv.upperGiveUp (n : Nat) {s : State} (h : P s) : P (upperGiveUp n s) := hP.raiseIf _ _ _ (keeps_ite (hP.mbDone 3 h) h)

theorem SideInv.wrapTrunk (n : Nat) (fs : List UlkFrame) {s : State} (h : P s) : P (wrapTrunk n fs s) :=
  foldl_keeps P _ (fun _ _ ha => hP.ringSend _ _ ha) _ _ (hP.ringRaise _ (hP.setUlk _ _ h))

theorem SideInv.linkDown (n : Nat) {s : State} (h : P s) : P (linkDown n s) := by
  have hdown : P (ulkRaise n 1 ((Machine.upperGiveUp n s).setUlk n { (Machine.upperGiveUp n s).ulk n with
      up := false, rstGot := false, unacked := [], queue := [], replay := 0, txSeq := 0, farBusy := false, rxBad := false, busySent := false,
      refused := none, hold := none })) := hP.raise _ _ (hP.setUlk _ _ (hP.upperGiveUp n h))
  have hlost {a : State} (ha : P a) : P (satLost n a) := hP.raise _ _ (hP.same ha (by simp))
  have htrunk {a : State} (ha : P a) : P (if (a.ulk (1 - n)).wrapped then a.setUlk (1 - n) { a.ulk (1 - n) with wrapped := false, hold := none } else a) :=
    keeps_ite (hP.setUlk _ _ ha) ha
  refine keeps_ite (htrunk ?_) (keeps_ite (hlost hdown) hdown)
  exact keeps_ite (keeps_ite (hP.setUlk _ _ hdown) (hP.wrapTrunk _ _ hdown)) (hP.streamGiveUp _ _ (keeps_ite (hP.same hdown (by and_intros <;> rfl)) hdown))

theorem SideInv.giveUp (n : Nat) {s : State} (h : P s) : P (giveUp n s) :=
  hP.wireOut _ (hP.setUlk _ _ (hP.linkDown n (hP.raise _ _ (hP.setUlk _ _ h))))

theorem SideInv.ulkTryUp (n : Nat) {s : State} (h : P s) : P (ulkTryUp n s) :=
  keeps_ite (keeps_ite (hP.ulkQueue _ _ (hP.setUlk _ _ (hP.raise _ _ (hP.setUlk _ _ h)))) (hP.ulkPump _ (hP.raise _ _ (hP.setUlk _ _ h)))) h

theorem SideInv.sendReset (n : Nat) {s : State} (h : P s) : P (sendReset n s) :=
  keeps_ite (hP.ulkTryUp _ (hP.wireOut _ (hP.setUlk _ _ h))) h

/-- What a lane serves follows a change of its state. -/
theorem SideInv.laneSync (n : Nat) (s0 : State) {s : State} (h : P s) : P (laneSync n s0 s) :=
  keeps_ite (keeps_ite (hP.ethLink _ _ _ _ _ _ h) h)
    (keeps_ite (keeps_ite (hP.giveUp _ h) (hP.setUlk _ _ h)) (keeps_ite (hP.sendReset _ h) h))

theorem SideInv.withLane {n : Nat} {f : State → State} {s : State} (h : P (f s)) : P (withLane n f s) := hP.laneSync n s h

end

/-! ### What concerns leave and lanes too -/

section
variable (hP : HubInv P)
include hP

theorem HubInv.side : SideInv P where
  latch := hP.latch
  wake := hP.wake
  txData _ h := hP.same h (by simp [laneTxData])
  eth _ _ h := hP.same h (by simp)
  same h e := hP.same h e.1.1

theorem HubInv.setLane (n : Nat) (v : LaneSt) {s : State} (h : P s) : P (s.setLane n v) := hP.same h (by simp)

theorem HubInv.bgtDrop (k r : Nat) {s : State} (h : P s) : P (bgtDrop k r s) := hP.same h (by simp [Machine.bgtDrop, bgtRelease, bgtWithdraw])

theorem HubInv.mittDown (m : Nat) {s : State} (h : P s) : P (mittDown m s) :=
  foldl_keeps P _ (fun _ _ ha => hP.bgtDrop _ _ (hP.same ha (by simp))) _ s h

theorem HubInv.loopRej (n r : Nat) {s : State} (h : P s) : P (loopRej n r s) := hP.side.lraise _ _ (hP.bgtDrop _ _ (hP.same h (by simp)))

theorem HubInv.loopsOff {s : State} (h : P s) : P (loopsOff s) :=
  foldl_keeps P _ (fun _ _ ha => keeps_ite ha (hP.side.enterOff _ (hP.bgtDrop _ _ (hP.same ha (by simp))))) _ s h

theorem HubInv.vwSafety (n : Nat) {s : State} (h : P s) : P (vwSafety n s) := by
  have hfail (c r : Nat) : P (vwFailed c n r s) := by
    have hres := hP.side.tiResult c 0 3 0 0 (r * 2 ^ 24) (s.st / tsU) (hP.bgtDrop 3 n (hP.side.setTch c { s.tch c with vw := none } h))
    exact hP.side.raise _ _ (hP.same hres (by simp))
  unfold Machine.vwSafety
  split
  · split
    · exact keeps_ite (hfail _ _) h
    · exact h
  · exact h

theorem HubInv.sliceSafety (n t : Nat) {s : State} (h : P s) : P (sliceSafety n t s) := hP.side.excSafety _ _ (hP.vwSafety _ h)

/-! ### The lanes (R337, R338, R346, R350, R351) -/

theorem HubInv.visorStop (n : Nat) {s : State} (h : P s) : P (visorStop n s) := keeps_ite (hP.setLane _ _ (hP.same h (by and_intros <;> rfl))) h

theorem HubInv.laneSleep (n : Nat) {s : State} (h : P s) : P (laneSleep n s) :=
  keeps_ite (hP.side.raise _ _ (hP.side.wireOut _ (hP.setLane _ _ h))) h

theorem HubInv.laneTxWake (n : Nat) {s : State} (h : P s) : P (laneTxWake n s) := keeps_ite (hP.side.raise _ _ (hP.setLane _ _ h)) h

theorem HubInv.laneOff (n : Nat) {s : State} (h : P s) : P (laneOff n s) :=
  hP.setLane _ _ (hP.side.raiseIf _ _ _ (hP.bgtDrop _ _ (hP.visorStop _ h)))

theorem HubInv.laneAsk (n : Nat) {s : State} (h : P s) : P (laneAsk n s) :=
  hP.same (hP.setLane n { s.lane n with st := 1, asking := true, retryAt := none } h) (by and_intros <;> rfl)

theorem HubInv.laneBringUp (n : Nat) {s : State} (h : P s) : P (laneBringUp n s) :=
  have hoff := hP.laneOff n h
  keeps_ite h (keeps_ite (hP.laneAsk _ (hP.setLane _ _ hoff)) (hP.setLane _ _ (hP.setLane _ _ hoff)))

theorem HubInv.pcieDown {s : State} (h : P s) : P (pcieDown s) :=
  keeps_ite (hP.side.raise _ _ (hP.side.dmaHost _ (hP.same (hP.visorStop 11 (hP.visorStop 10 h)) (by and_intros <;> rfl)))) h

theorem HubInv.laneDomDown (n st : Nat) {s : State} (h : P s) : P (laneDomDown n st s) :=
  keeps_ite (hP.side.withLane (hP.laneSleep _ (hP.setLane _ _ h))) (hP.setLane _ _ (hP.side.withLane (hP.laneOff _ h)))

theorem HubInv.laneDomUp (n old : Nat) {s : State} (h : P s) : P (laneDomUp n old s) :=
  keeps_ite (keeps_ite (hP.side.withLane (hP.laneBringUp _ h)) h) (hP.side.withLane (hP.laneTxWake _ (hP.setLane _ _ h)))

end

/-! ### The domains (R416 to R418, R427) -/

/-- A property that changes of the mittens keep too. -/
structure MittInv (P : State → Prop) : Prop extends HubInv P where
  mitt : ∀ {s} m x, P s → P (s.setMitt m x)

/-- A property that changes of domain `d` and of the mittens keep too. -/
structure DomInvAt (d : Nat) (P : State → Prop) : Prop extends MittInv P where
  dom : ∀ {s} x, P s → P (s.setDom d x)

/-- A property that changes of every domain, of the mittens and of the core keep too. -/
structure DomInv (P : State → Prop) : Prop extends MittInv P where
  dom : ∀ {s} d x, P s → P (s.setDom d x)
  boot : ∀ {s}, P s → P (bootStart s)

theorem DomInv.one (hP : DomInv P) (d : Nat) : DomInvAt d P := { hP with dom := fun x h => hP.dom d x h }

section
variable (hP : MittInv P)
include hP

theorem MittInv.mittGone (m : Nat) {s : State} (h : P s) : P (mittGone m s) :=
  foldl_keeps P _ (fun _ _ ha => hP.side.excOffAt _ _ ha) _ _ (hP.mittDown _ (hP.mitt _ _ h))

theorem MittInv.mittCome (m : Nat) {s : State} (h : P s) : P (mittCome m s) :=
  foldl_keeps P _ (fun _ _ ha => hP.side.setCal _ _ ha) _ _ (hP.mitt _ _ (hP.mitt _ _ h))

/-- What follows a domain's fall to a deeper state. -/
theorem MittInv.domDown_of {d : Nat} (st : Nat) {s : State}
    (hset : P (domSet d st (if d = 17 ∨ d = 31 then Machine.dmaPwrEnd d (Machine.dmaPwrAsk d s) else s))) : P (domDown d st s) :=
  keeps_ite (hP.mittGone _ hset) (keeps_ite (keeps_ite (hP.loopsOff hset) hset) (keeps_ite (hP.laneDomDown _ _ hset)
    (keeps_ite (keeps_ite (hP.pcieDown hset) hset) (keeps_ite (hP.same hset (by and_intros <;> rfl)) hset))))

/-- What follows a domain's rise. -/
theorem MittInv.domUp_of (hboot : ∀ {s}, P s → P (bootStart s)) {d : Nat} {s : State} (hset : P (domSet d (if d = 17 ∧ s.pwr.state = 2 then 1 else 0) s)) : P (domUp d s) :=
  keeps_ite hset (keeps_ite (hP.mittCome _ hset) (keeps_ite (hP.side.dmaPwrFree _ _ hset) (keeps_ite (hP.laneDomUp _ _ hset)
    (keeps_ite (hboot hset) hset))))

end

section
variable {d : Nat} (hP : DomInvAt d P)
include hP

theorem DomInvAt.domSet (st : Nat) {s : State} (h : P s) : P (domSet d st s) := hP.side.raiseIf _ _ _ (hP.dom _ h)

theorem DomInvAt.domWake {s : State} (h : P s) : P (domWake d s) := keeps_ite (hP.dom _ h) (keeps_ite h (hP.dom _ h))

theorem DomInvAt.domDown (st : Nat) {s : State} (h : P s) : P (domDown d st s) :=
  hP.domDown_of st (hP.domSet _ (keeps_ite (hP.side.dmaPwrEnd _ (hP.side.dmaPwrAsk _ h)) h))

theorem DomInvAt.domTo (st : Nat) {s : State} (h : P s) : P (domTo d st s) := by
  by_cases hd : d = 18
  · subst hd
    exact hP.side.dmaPwrEnd _ (hP.side.dmaPwrAsk _ (hP.dom _ h))
  · unfold Machine.domTo
    rw [if_neg hd]
    exact hP.domDown st h

end

theorem DomInv.domUp (hP : DomInv P) (d : Nat) {s : State} (h : P s) : P (domUp d s) := hP.domUp_of hP.boot ((hP.one d).domSet _ h)

end Sys2Proof.Machine
end

section
/-! SUPPORT. Properties of the hub at large that events keep: the power manager's state, latched events, time and the registers. -/

namespace Sys2Proof.Machine

/-! ### What events keep of the power manager (R424) -/

/-- A hub that no move into VIGIL or DORMANT takes from state `k`, with the reason of its last refusal. -/
def State.staysIn (k r : Nat) (s : State) : Prop := s.pwr.state = k ∧ s.pwr.rej = r ∧ ∀ m, s.pwr.move = some m → m.target < 2

/-- A wake asks for RUN or TRIM. -/
theorem wakeTarget_lt (s : State) : wakeTarget s < 2 := by
  unfold wakeTarget
  split <;> omega

theorem latch_pwr (p b : Nat) (s : State) : (latch p b s).pwr = s.pwr := by simp

/-- A wake of a hub that no move takes down begins a move to RUN or TRIM, or is nothing. -/
theorem wakeHub_staysIn {k r : Nat} {s : State} (h : s.staysIn k r) : (wakeHub s).staysIn k r := by
  obtain ⟨hk, hr, hm⟩ := h
  unfold wakeHub
  cases hmv : s.pwr.move with
  | some m =>
    have := hm m hmv
    dsimp only
    rw [if_neg (by omega)]
    exact ⟨hk, hr, hm⟩
  | none =>
    dsimp only
    split
    · refine ⟨by simp [hk], by simp [hr], fun m hm' => ?_⟩
      simp only [latch_pwr, Option.some.injEq] at hm'
      subst hm'
      exact wakeTarget_lt s
    · exact ⟨hk, hr, hm⟩

theorem bootStart_pwr (s : State) : (bootStart s).pwr = s.pwr := by
  unfold bootStart
  dsimp only
  split
  · split <;> simp [pcieLanes]
  · rfl

theorem staysIn_congr {k r : Nat} {s t : State} (h : s.staysIn k r) (he : t.pwr = s.pwr) : t.staysIn k r := by
  unfold State.staysIn
  rw [he]
  exact h

theorem staysIn_inv (k r : Nat) : DomInv (State.staysIn k r) where
  latch _ _ h := staysIn_congr h (latch_pwr ..)
  wake h := wakeHub_staysIn h
  same h e := staysIn_congr h e.2.2.2.1
  dom _ _ h := h
  mitt _ _ h := h
  boot h := staysIn_congr h (bootStart_pwr _)

/-- A hub in RUN, TRIM or SAFE with no move under way: no event is a wake for it. -/
def State.awakeIn (k : Nat) (s : State) : Prop := s.pwr.state = k ∧ s.pwr.move = none

theorem wakeHub_awake {k : Nat} {s : State} (h2 : k ≠ 2) (h3 : k ≠ 3) (h : s.awakeIn k) : wakeHub s = s := by
  obtain ⟨hk, hm⟩ := h
  simp [wakeHub, hm, hk, h2, h3]

theorem awakeIn_inv {k : Nat} (h2 : k ≠ 2) (h3 : k ≠ 3) : DomInv (State.awakeIn k) where
  latch _ _ h := by unfold State.awakeIn; rw [latch_pwr]; exact h
  wake h := by rw [wakeHub_awake h2 h3 h]; exact h
  same h e := by unfold State.awakeIn; rw [e.2.2.2.1]; exact h
  dom _ _ h := h
  mitt _ _ h := h
  boot h := by unfold State.awakeIn; rw [bootStart_pwr]; exact h

/-! ### What events keep elsewhere -/

theorem bootStart_hdr (s : State) : (bootStart s).hdr = s.hdr := by
  unfold bootStart
  dsimp only
  split
  · split <;> simp [pcieLanes]
  · rfl

theorem page_of_hdr {s t : State} (h : t.hdr = s.hdr) (p : Nat) : t.page p = s.page p := by simp [State.page, h]

/-- A latched event stays latched. -/
theorem latched_inv (p i : Nat) : DomInv (fun s => bit (s.page p).stat i = true) where
  latch q b h := latch_stat_mono q b _ p i h
  wake h := wakeHub_stat_mono _ p i h
  same h e := by rw [page_of_hdr e.2.2.2.2.1]; exact h
  dom _ _ h := h
  mitt _ _ h := h
  boot h := by rw [page_of_hdr (bootStart_hdr _)]; exact h

end Sys2Proof.Machine
end

section
/-! SUPPORT. Voting and spare rotation (R401 to R409): what a copy's record is after each of its changes, the majority, and SAFE. -/

namespace Sys2Proof.Machine

/-! ### The copies' records -/

theorem copy_setCopy_same {s : State} {i : Nat} (hn : s.tmr.copies.length = 4) (hi : i < 4) (c : CopySt) : (s.setCopy i c).copy i = c := by
  simp [State.copy, State.setCopy, hn, hi, List.getD_eq_getElem?_getD]

theorem copy_setCopy_ne {s : State} {i k : Nat} (h : k ≠ i) (c : CopySt) : (s.setCopy i c).copy k = s.copy k := by
  simp [State.copy, State.setCopy, List.getD_eq_getElem?_getD, Ne.symm h]

theorem length_setCopy (s : State) (i : Nat) (c : CopySt) : (s.setCopy i c).tmr.copies.length = s.tmr.copies.length := by simp [State.setCopy]

theorem copy_of_tmr {s t : State} (h : t.tmr.copies = s.tmr.copies) (k : Nat) : t.copy k = s.copy k := by simp [State.copy, h]

theorem mem_copiesIn {s : State} {x k : Nat} : k ∈ copiesIn s x ↔ k < 4 ∧ (s.copy k).st = x := by simp [copiesIn]

theorem copiesIn_nodup (s : State) (x : Nat) : (copiesIn s x).Nodup := List.nodup_range.filter _

theorem copiesIn_congr {s t : State} {x : Nat} (h : ∀ k < 4, (t.copy k).st = x ↔ (s.copy k).st = x) : copiesIn t x = copiesIn s x :=
  List.filter_congr fun k hk => decide_eq_decide.2 (h k (List.mem_range.1 hk))

/-- A copy that leaves a state leaves one copy fewer in it. -/
theorem copiesIn_length_lt {s t : State} {x i : Nat} (h : ∀ k < 4, (t.copy k).st = x → (s.copy k).st = x) (hi : i < 4) (hs : (s.copy i).st = x)
    (ht : (t.copy i).st ≠ x) : (copiesIn t x).length < (copiesIn s x).length := by
  have heq : copiesIn t x = (copiesIn s x).filter (fun k => decide ((t.copy k).st = x)) := by
    unfold copiesIn
    rw [List.filter_filter]
    refine List.filter_congr fun k hk => ?_
    have := h k (List.mem_range.1 hk)
    by_cases hx : (t.copy k).st = x <;> simp_all
  rw [heq]
  exact List.length_filter_lt_length_iff_exists.2 ⟨i, mem_copiesIn.2 ⟨hi, hs⟩, by simpa using ht⟩

/-- LEVEL follows, and of the voting nothing else but the instant of its change. -/
theorem levelSync_tmr (s : State) : ∃ a, (levelSync s).tmr = { s.tmr with level := levelNow s, levelAt := a } := by
  unfold levelSync
  split
  next h => exact ⟨s.tmr.levelAt, by rw [h]⟩
  · exact ⟨s.st, by simp⟩

theorem levelSync_copies (s : State) : (levelSync s).tmr.copies = s.tmr.copies := by
  obtain ⟨a, h⟩ := levelSync_tmr s
  rw [h]

theorem levelSync_load (s : State) : (levelSync s).tmr.load = s.tmr.load := by
  obtain ⟨a, h⟩ := levelSync_tmr s
  rw [h]

theorem levelSync_latched {s : State} (h : (levelSync s).tmr.level ≠ s.tmr.level) : bit ((levelSync s).page pTMR).stat 2 = true := by
  unfold levelSync at h ⊢
  split at h
  · exact absurd rfl h
  next hne =>
    rw [if_neg hne]
    exact raise_latched pTMR 2 _ (by omega)

theorem HubInv.levelSync {P : State → Prop} (hP : HubInv P) {s : State} (h : P s) : P (levelSync s) :=
  keeps_ite h (hP.side.raise _ _ (hP.same h (by simp)))

/-! ### Failures and recovery (R405 to R407) -/

/-- What a failure makes of a copy's record. -/
def CopySt.failed (c : CopySt) (clk : Nat) : CopySt :=
  if 3 ≤ c.fail + 1 then { c with fail := c.fail + 1, st := 5, since := clk } else { c with fail := c.fail + 1, st := 4, since := clk, bad := true }

theorem CopySt.failed_st (c : CopySt) (clk : Nat) : (c.failed clk).st = if 3 ≤ c.fail + 1 then 5 else 4 := by unfold failed; split <;> rfl
theorem CopySt.failed_fail (c : CopySt) (clk : Nat) : (c.failed clk).fail = c.fail + 1 := by unfold failed; split <;> rfl
theorem CopySt.failed_disagree (c : CopySt) (clk : Nat) : (c.failed clk).disagree = c.disagree := by unfold failed; split <;> rfl
theorem CopySt.failed_faultAt (c : CopySt) (clk : Nat) : (c.failed clk).faultAt = c.faultAt := by unfold failed; split <;> rfl

theorem copyFail_copies (i : Nat) (s : State) : (copyFail i s).tmr.copies = (s.setCopy i ((s.copy i).failed s.clk)).tmr.copies := by
  unfold copyFail CopySt.failed
  dsimp only
  split
  · rw [levelSync_copies]
    simp
  · rfl

theorem copyFail_load (i : Nat) (s : State) : (copyFail i s).tmr.load = s.tmr.load := by
  unfold copyFail
  dsimp only
  split
  · rw [levelSync_load]
    simp [State.setCopy]
  · rfl

theorem copyFail_copy_same {s : State} {i : Nat} (hn : s.tmr.copies.length = 4) (hi : i < 4) : (copyFail i s).copy i = (s.copy i).failed s.clk := by
  rw [copy_of_tmr (copyFail_copies i s), copy_setCopy_same hn hi]

theorem copyFail_copy_of_tmr {s u : State} {i : Nat} (hu : u.tmr.copies = s.tmr.copies) (hn : s.tmr.copies.length = 4) (hi : i < 4) :
    (copyFail i u).copy i = (s.copy i).failed u.clk := by
  rw [copyFail_copy_same (hu ▸ hn) hi, copy_of_tmr hu]

theorem copyFail_copy_ne (s : State) {i k : Nat} (h : k ≠ i) : (copyFail i s).copy k = s.copy k := by
  rw [copy_of_tmr (copyFail_copies i s), copy_setCopy_ne h]

theorem copyFail_length (s : State) (i : Nat) : (copyFail i s).tmr.copies.length = s.tmr.copies.length := by
  rw [copyFail_copies, length_setCopy]

theorem HubInv.copyFail {P : State → Prop} (hP : HubInv P) (i : Nat) {s : State} (h : P s) : P (copyFail i s) := by
  have hset (c : CopySt) : P (s.setCopy i c) := hP.same h (by and_intros <;> rfl)
  exact keeps_ite (hP.levelSync (hP.side.raise _ _ (hset _))) (hset _)

/-- What loading does not touch of a copy's record. -/
def CopySt.sameHistory (c d : CopySt) : Prop :=
  d.st = c.st ∧ d.fail = c.fail ∧ d.disagree = c.disagree ∧ d.faultAt = c.faultAt ∧ d.tests = c.tests ∧ d.testAt = c.testAt

theorem copyLoad_sameHistory (i k : Nat) (r : Bool) (s : State) : (s.copy k).sameHistory ((copyLoad i r s).copy k) := by
  by_cases hk : k = i
  · subst hk
    by_cases hlt : k < s.tmr.copies.length <;>
      simp [copyLoad, CopySt.sameHistory, State.copy, State.setCopy, List.getD_eq_getElem?_getD, hlt]
  · simp [copyLoad, CopySt.sameHistory, State.copy, State.setCopy, List.getD_eq_getElem?_getD, Ne.symm hk]

theorem copyRecover_cases (s : State) : copyRecover s = s ∨ ∃ i, copyRecover s = copyLoad i true s := by
  unfold copyRecover
  split
  · split
    · exact .inr ⟨_, rfl⟩
    · split
      · exact .inr ⟨_, rfl⟩
      · exact .inl rfl
  · exact .inl rfl

theorem copyRecover_sameHistory (k : Nat) (s : State) : (s.copy k).sameHistory ((copyRecover s).copy k) := by
  obtain h | ⟨i, h⟩ := copyRecover_cases s <;> rw [h]
  · simp [CopySt.sameHistory]
  · exact copyLoad_sameHistory i k true s

theorem copyRecover_hdr (s : State) : (copyRecover s).hdr = s.hdr := by
  obtain h | ⟨i, h⟩ := copyRecover_cases s <;> rw [h]
  rfl

theorem copyRecover_idle {s : State} (h : 3 ≤ (copiesIn s 0).length ∨ s.tmr.load.isSome) : copyRecover s = s := by
  unfold copyRecover
  rw [if_neg]
  rintro ⟨hlt, hnone⟩
  obtain h | h := h
  · omega
  · simp_all

theorem copyRecover_spare {s : State} {j : Nat} {l : List Nat} (hlt : (copiesIn s 0).length < 3) (hload : s.tmr.load = none) (hsp : copiesIn s 1 = j :: l) :
    copyRecover s = copyLoad j true s := by
  simp [copyRecover, hlt, hload, hsp]

/-! ### The majority (R401) -/

/-- The value that more than half of the seated copies hold is the value voted: two of them would need more copies than are seated. -/
theorem voted_eq {s : State} {v : Nat → Word} {w : Word}
    (h : (copiesIn s 0).length < 2 * ((copiesIn s 0).filter (fun j => decide (v j = w))).length) : voted s v = some w := by
  have hfind : ∃ i, i ∈ copiesIn s 0 ∧ v i = w := by
    obtain ⟨i, hi⟩ := List.exists_mem_of_length_pos (l := (copiesIn s 0).filter (fun j => decide (v j = w))) (by omega)
    exact ⟨i, by simpa using hi⟩
  obtain ⟨i, hi, hvi⟩ := hfind
  unfold voted
  dsimp only
  cases hf : (copiesIn s 0).find? (fun i => decide ((copiesIn s 0).length < 2 * ((copiesIn s 0).filter (fun j => decide (v j = v i))).length)) with
  | none => exact absurd (List.find?_eq_none.1 hf i hi) (by simpa [hvi] using h)
  | some k =>
    have hk := List.find?_some hf
    simp only [decide_eq_true_eq] at hk
    by_contra hne
    have hne : v k ≠ w := fun e => hne (by simp [e])
    have hsum := List.length_eq_length_filter_add (l := copiesIn s 0) (fun j => decide (v j = w))
    have hle : ((copiesIn s 0).filter (fun j => decide (v j = v k))).length ≤ ((copiesIn s 0).filter (fun j => !decide (v j = w))).length :=
      (List.monotone_filter_right _ fun j hj => by simp_all).length_le
    omega

theorem voted_none {s : State} {v : Nat → Word} (h : ∀ w, ¬ (copiesIn s 0).length < 2 * ((copiesIn s 0).filter (fun i => decide (v i = w))).length) :
    voted s v = none := by
  simp only [voted, Option.map_eq_none_iff, List.find?_eq_none, decide_eq_true_eq]
  exact fun i _ => h (v i)

/-- Of copies that all hold one value, that is the value voted. -/
theorem voted_of_agree {s : State} {v : Nat → Word} {w : Word} (hne : copiesIn s 0 ≠ []) (h : ∀ k ∈ copiesIn s 0, v k = w) : voted s v = some w := by
  apply voted_eq
  rw [List.filter_eq_self.2 fun k hk => decide_eq_true (h k hk)]
  have := List.length_pos_iff.2 hne
  omega

/-- The members of a list without repetition that differ, when only one of them does. -/
theorem filter_eq_singleton {l : List Nat} {p : Nat → Bool} {i : Nat} (hl : l.Nodup) (hi : i ∈ l) (hpi : p i = true) (hp : ∀ k ∈ l, k ≠ i → p k = false) :
    l.filter p = [i] := by
  have : l.filter p = l.filter (· == i) := List.filter_congr fun k hk => by
    by_cases hki : k = i
    · simp [hki, hpi]
    · simp [hki, hp k hk hki]
  rw [this, List.filter_beq, List.count_eq_one_of_mem hl hi, List.replicate_one]

/-- Of three or four copies of which one differs, the others' value is the value voted. -/
theorem voted_of_odd {s : State} {v : Nat → Word} {w : Word} {i : Nat} (hlen : 2 < (copiesIn s 0).length)
    (hodd : (copiesIn s 0).filter (fun k => decide (v k ≠ w)) = [i]) : voted s v = some w := by
  apply voted_eq
  have hsum := List.length_eq_length_filter_add (l := copiesIn s 0) (fun j => decide (v j = w))
  simp only [← decide_not] at hsum
  rw [show (copiesIn s 0).filter (fun a => decide ¬v a = w) = [i] from hodd] at hsum
  simp only [List.length_cons, List.length_nil] at hsum
  omega

/-! ### The vote (R401, R402, R404, R405, R408) -/

section
variable {odd : Nat → State → State} {v : Nat → Word} {s : State} {w : Word} {i : Nat}

theorem vote_safe (h : s.pwr.state = 4) : vote odd v s = s := by simp [vote, h]

theorem vote_agree (hne : copiesIn s 0 ≠ []) (h : ∀ k < 4, (s.copy k).st = 0 ∨ (s.copy k).st = 3 → v k = w) : vote odd v s = s := by
  have hseat : ∀ k ∈ copiesIn s 0, v k = w := fun k hk => h k (mem_copiesIn.1 hk).1 (.inl (mem_copiesIn.1 hk).2)
  have hprob : ∀ k ∈ copiesIn s 3, v k = w := fun k hk => h k (mem_copiesIn.1 hk).1 (.inr (mem_copiesIn.1 hk).2)
  have h0 : (copiesIn s 0).filter (fun i => decide (v i ≠ w)) = [] := List.filter_eq_nil_iff.2 fun k hk => by simp [hseat k hk]
  have h3 : (copiesIn s 3).filter (fun i => decide (v i ≠ w)) = [] := List.filter_eq_nil_iff.2 fun k hk => by simp [hprob k hk]
  unfold vote
  split
  · rfl
  · simp only [voted_of_agree hne hseat, h0, h3, List.foldl_nil]

theorem vote_odd (hs : s.pwr.state ≠ 4) (hi : i < 4) (hst : (s.copy i).st = 0) (hlen : 2 < (copiesIn s 0).length) (hv : v i ≠ w)
    (h : ∀ k < 4, k ≠ i → (s.copy k).st = 0 ∨ (s.copy k).st = 3 → v k = w) : vote odd v s = odd i s := by
  have h0 : (copiesIn s 0).filter (fun k => decide (v k ≠ w)) = [i] := by
    refine filter_eq_singleton (copiesIn_nodup s 0) (mem_copiesIn.2 ⟨hi, hst⟩) (by simpa using hv) fun k hk hki => ?_
    obtain ⟨hk4, hkst⟩ := mem_copiesIn.1 hk
    simpa using h k hk4 hki (.inl hkst)
  have h3 : (copiesIn s 3).filter (fun k => decide (v k ≠ w)) = [] := List.filter_eq_nil_iff.2 fun k hk => by
    obtain ⟨hk4, hkst⟩ := mem_copiesIn.1 hk
    simp [h k hk4 (fun e => by rw [e] at hkst; omega) (.inr hkst)]
  unfold vote
  rw [if_neg hs, voted_of_odd hlen h0]
  simp only [h0, h3, List.foldl_nil, List.foldl_cons]

theorem vote_probation (hs : s.pwr.state ≠ 4) (hp : copiesIn s 3 = [i]) (hlen : 2 < (copiesIn s 0).length) (hv : v i ≠ w)
    (h : ∀ k < 4, (s.copy k).st = 0 → v k = w) : vote odd v s = probationFail i s := by
  have hseat : ∀ k ∈ copiesIn s 0, v k = w := fun k hk => h k (mem_copiesIn.1 hk).1 (mem_copiesIn.1 hk).2
  have h0 : (copiesIn s 0).filter (fun i => decide (v i ≠ w)) = [] := List.filter_eq_nil_iff.2 fun k hk => by simp [hseat k hk]
  unfold vote
  rw [if_neg hs, voted_of_agree (List.length_pos_iff.1 (by omega)) hseat]
  simp only [h0, hp, List.filter_cons, List.filter_nil, decide_eq_true hv, if_true, List.foldl_nil, List.foldl_cons]

theorem vote_split (hs : s.pwr.state ≠ 4) (h : ∀ w, ¬ (copiesIn s 0).length < 2 * ((copiesIn s 0).filter (fun i => decide (v i = w))).length) :
    vote odd v s = enterSafe s := by
  unfold vote
  rw [if_neg hs, voted_none h]

end

/-- A copy in PROBATION that differs while three are seated fails and is loaded no more. -/
theorem probationFail_eq {s : State} {i : Nat} (hn : s.tmr.copies.length = 4) (hi : i < 4) (hst : (s.copy i).st = 3) (hlen : 2 < (copiesIn s 0).length) :
    probationFail i s = copyFail i { s with tmr := { s.tmr with load := none } } := by
  refine copyRecover_idle (.inl ?_)
  generalize hu : ({ s with tmr := { s.tmr with load := none } } : State) = u
  have hcop : u.tmr.copies = s.tmr.copies := by rw [← hu]
  have hcp := copy_of_tmr hcop
  rw [copiesIn_congr (s := s) fun k _ => ?_]
  · exact hlen
  by_cases hk : k = i
  · subst hk
    rw [copyFail_copy_same (hcop ▸ hn) hi, CopySt.failed_st, hst]
    split <;> omega
  · rw [copyFail_copy_ne _ hk, hcp]

/-- The record and the events a seated copy's outvoting leaves before the loading it asks for. -/
theorem outvote_eq (i : Nat) (s : State) : ∃ u : State, u.tmr = { s.tmr with copies := s.tmr.copies.set i { s.copy i with disagree := satInc 16 (s.copy i).disagree, faultAt := s.st } } ∧
    u.clk = s.clk ∧ bit (u.page pTMR).stat 0 = true ∧
    outvote i s = (match (copyFail i u).tmr.load with
      | some (j, _) => { copyFail i u with tmr := { (copyFail i u).tmr with load := some (j, true) } }
      | none => copyRecover (copyFail i u)) := by
  refine ⟨raise pTMR 0 (s.setCopy i { s.copy i with disagree := satInc 16 (s.copy i).disagree, faultAt := s.st }), by simp [State.setCopy], by simp [State.setCopy], raise_latched _ _ _ (by omega), rfl⟩

/-- What outvoting seated copy `i` does (R405). -/
structure Outvoted (i : Nat) (s t : State) : Prop where
  st : (t.copy i).st ≠ 0
  disagree : (t.copy i).disagree = satInc 16 (s.copy i).disagree
  fail : (t.copy i).fail = (s.copy i).fail + 1
  faultAt : (t.copy i).faultAt = s.st
  event : bit (t.page pTMR).stat 0 = true
  loading : ∀ j r, s.tmr.load = some (j, r) → t.tmr.load = some (j, true)
  spare : ∀ j l, s.tmr.load = none → (copiesIn s 0).length = 3 → copiesIn s 1 = j :: l → t.tmr.load = some (j, true)

theorem outvote_outvoted {s : State} {i : Nat} (hn : s.tmr.copies.length = 4) (hi : i < 4) (hst : (s.copy i).st = 0) : Outvoted i s (outvote i s) := by
  obtain ⟨u, htmr, -, hevt, hout⟩ := outvote_eq i s
  have hun : u.tmr.copies.length = 4 := by simp [htmr, hn]
  have hui : u.copy i = { s.copy i with disagree := satInc 16 (s.copy i).disagree, faultAt := s.st } := by
    simp [State.copy, htmr, hn, hi, List.getD_eq_getElem?_getD]
  have huk : ∀ k, k ≠ i → u.copy k = s.copy k := fun k hk => by
    simp [State.copy, htmr, List.getD_eq_getElem?_getD, Ne.symm hk]
  have hload : (copyFail i u).tmr.load = s.tmr.load := by rw [copyFail_load, htmr]
  have hself : (copyFail i u).copy i = (u.copy i).failed u.clk := copyFail_copy_same hun hi
  have hk : ∀ k, k ≠ i → (copyFail i u).copy k = s.copy k := fun k hk => by rw [copyFail_copy_ne _ hk, huk k hk]
  have hstn : ((copyFail i u).copy i).st = if 3 ≤ (s.copy i).fail + 1 then 5 else 4 := by rw [hself, CopySt.failed_st, hui]
  have hsame : (copyFail i u).copy i |>.sameHistory ((outvote i s).copy i) := by
    rw [hout]
    split
    · exact ⟨rfl, rfl, rfl, rfl, rfl, rfl⟩
    · exact copyRecover_sameHistory i _
  obtain ⟨est, efail, edis, efault, -, -⟩ := hsame
  have hevt' : bit ((copyFail i u).page pTMR).stat 0 = true := (latched_inv pTMR 0).copyFail i hevt
  refine ⟨?_, ?_, ?_, ?_, ?_, fun j r hl => ?_, fun j l hl hlen hsp => ?_⟩
  · rw [est, hstn]
    split <;> omega
  · rw [edis, hself, CopySt.failed_disagree, hui]
  · rw [efail, hself, CopySt.failed_fail, hui]
  · rw [efault, hself, CopySt.failed_faultAt, hui]
  · rw [hout]
    split
    · exact hevt'
    · rw [page_of_hdr (copyRecover_hdr _)]
      exact hevt'
  · rw [hout, hload, hl]
  · have hspare : copiesIn (copyFail i u) 1 = j :: l := by
      rw [← hsp]
      refine copiesIn_congr fun k _ => ?_
      by_cases hki : k = i
      · subst hki
        rw [hstn, hst]
        split <;> omega
      · rw [hk k hki]
    have hlt : (copiesIn (copyFail i u) 0).length < (copiesIn s 0).length := by
      refine copiesIn_length_lt (i := i) (fun k _ hk0 => ?_) hi hst ?_
      · by_cases hki : k = i
        · rwa [hki]
        · rwa [← hk k hki]
      · rw [hstn]
        split <;> omega
    rw [hout, hload, hl]
    dsimp only
    rw [copyRecover_spare (by omega) (hload.trans hl) hspare]
    rfl

/-! ### SAFE (R408, R409) -/

theorem pwrSafe_awake (s : State) : (pwrSafe s).awakeIn 4 := by
  have hP : DomInv (State.awakeIn 4) := awakeIn_inv (by omega) (by omega)
  refine foldl_keeps _ _ (fun _ _ ha => keeps_ite (hP.domUp _ ha) ha) _ _ (foldl_keeps _ _ (fun _ _ ha => (hP.one _).domWake ha) _ _ (hP.side.dmaUnask ?_))
  exact ⟨rfl, rfl⟩

theorem DomInv.enterSafe {P : State → Prop} (hP : DomInv P) {s : State} (hs : s.pwr.state ≠ 4) (h : P (pwrSafe s)) : P (enterSafe s) := by
  have hloops {a : State} (n : Nat) (ha : P a) : P (let b := if (a.loop n).req.isSome then Machine.loopRej n 4 a else a
      if (b.loop n).mode = 0 then b else Machine.enterHold n true b) := by
    have hrej : P (if (a.loop n).req.isSome then Machine.loopRej n 4 a else a) := keeps_ite (hP.loopRej n 4 ha) ha
    exact keeps_ite hrej (hP.side.enterHold _ _ hrej)
  unfold Machine.enterSafe
  rw [if_neg hs]
  have hslices := foldl_keeps P (fun a n => Machine.sliceSafety n a.st a) (fun _ _ ha => hP.sliceSafety _ _ ha) (List.range 64) _ h
  exact hP.levelSync (foldl_keeps P _ (fun _ _ ha => hP.side.disarmUnit _ ha) _ _ (foldl_keeps P _ (fun _ n ha => hloops n ha) _ _ hslices))

theorem enterSafe_state (s : State) : (enterSafe s).pwr.state = 4 := by
  by_cases h : s.pwr.state = 4
  · simp [enterSafe, h]
  · exact ((awakeIn_inv (by omega) (by omega)).enterSafe h (pwrSafe_awake s)).1

/-! ### Rotation, restoring and self-tests (R403, R406, R407) -/

theorem rotBegin_spare {s : State} {i : Nat} {r : List Nat} (h : copiesIn s 1 = i :: r) (hl : s.tmr.load = none) : rotBegin s = copyLoad i false s := by
  simp [rotBegin, h, hl]

theorem rotBegin_idle {s : State} (h : copiesIn s 1 = [] ∨ s.tmr.load.isSome) : rotBegin s = s := by
  unfold rotBegin
  split
  next hc => rw [if_neg]; simpa [hc, ← Option.isSome_iff_ne_none] using h
  · rfl

theorem copyLoad_copy_same {s : State} {i : Nat} (r : Bool) (hn : s.tmr.copies.length = 4) (hi : i < 4) :
    (copyLoad i r s).copy i = { s.copy i with since := s.clk, bad := false } :=
  copy_setCopy_same hn hi _

theorem copyLoad_copy_ne (s : State) {i k : Nat} (r : Bool) (h : k ≠ i) : (copyLoad i r s).copy k = s.copy k := copy_setCopy_ne h _

theorem exec_tmrCmdRotate {s : State} (src : Src) (h : s.reaches 0x4108) : exec (.tmrCmdRotate src) s = .next (rotBegin s) :=
  act_busWrite src.code 2 h (by omega)

theorem regEffect_tmrCmdRestore (src : Nat) (i : Fin 4) (s : State) : regEffect src 0x4108 (word (i.val * 2 ^ 4 + 1)) s = copyRestore i.val s := by
  have hop : fld (word (i.val * 2 ^ 4 + 1)) 2 0 = 1 ∧ fld (word (i.val * 2 ^ 4 + 1)) 5 4 = i.val := by revert i; decide
  change (if fld (word (i.val * 2 ^ 4 + 1)) 2 0 = 1 then copyRestore (fld (word (i.val * 2 ^ 4 + 1)) 5 4) s else _) = _
  rw [hop.1, hop.2, if_pos rfl]

theorem exec_tmrCmdRestore {s : State} (src : Src) (i : Fin 4) (h : s.reaches 0x4108) : exec (.tmrCmdRestore src i) s = .next (copyRestore i.val s) :=
  (act_busWrite src.code _ h (by omega)).trans (congrArg _ (regEffect_tmrCmdRestore ..))

theorem copyRestore_retired {s : State} {i : Nat} (hn : s.tmr.copies.length = 4) (hi : i < 4) (h : (s.copy i).st = 5) :
    ((copyRestore i s).copy i).st = 4 ∧ ((copyRestore i s).copy i).fail = 0 ∧ ((copyRestore i s).copy i).since = s.clk ∧
      (copyRestore i s).tmr.level = levelNow { s with tmr := (copyRestore i s).tmr } ∧ (∀ k, k ≠ i → (copyRestore i s).copy k = s.copy k) ∧
      ((copyRestore i s).tmr.level ≠ s.tmr.level → bit ((copyRestore i s).page pTMR).stat 2 = true) := by
  have heq : copyRestore i s = levelSync (s.setCopy i { s.copy i with st := 4, fail := 0, since := s.clk, bad := true }) := if_pos h
  generalize hu : s.setCopy i { s.copy i with st := 4, fail := 0, since := s.clk, bad := true } = u at heq
  have hui : u.copy i = { s.copy i with st := 4, fail := 0, since := s.clk, bad := true } := by rw [← hu, copy_setCopy_same hn hi]
  have hcp := copy_of_tmr (levelSync_copies u)
  rw [heq]
  refine ⟨by rw [hcp, hui], by rw [hcp, hui], by rw [hcp, hui], ?_, fun k hk => by rw [hcp, ← hu, copy_setCopy_ne hk], fun hne => ?_⟩
  · obtain ⟨a, ha⟩ := levelSync_tmr u
    rw [ha, ← hu]
    rfl
  · exact levelSync_latched (by rw [← hu] at hne ⊢; exact hne)

theorem copyRestore_idle {s : State} {i : Nat} (h : (s.copy i).st ≠ 5) : copyRestore i s = s := if_neg h

section
variable {s : State} {i : Nat}

theorem selfTest_idle {p : Bool} (h : (s.copy i).st ≠ 4 ∨ s.clk < (s.copy i).since + 200000) : selfTest i p s = s := by
  refine if_neg fun ⟨hst, hle⟩ => ?_
  omega

theorem selfTest_pass (h : (s.copy i).st = 4) (ht : (s.copy i).since + 200000 ≤ s.clk) : selfTest i true s =
    copyRecover (s.setCopy i { s.copy i with st := 1, since := s.clk, tests := satInc 32 (s.copy i).tests, testAt := s.st, bad := false }) := by
  unfold selfTest
  rw [if_pos ⟨h, ht⟩, if_pos rfl]

theorem selfTest_fail (h : (s.copy i).st = 4) (ht : (s.copy i).since + 200000 ≤ s.clk) : selfTest i false s =
    if ((copyFail i s).copy i).st = 4 then (copyFail i s).setCopy i { (copyFail i s).copy i with since := (s.copy i).since + rotS s * 1000000000 } else copyFail i s := by
  unfold selfTest
  rw [if_pos ⟨h, ht⟩, if_neg (by decide)]

theorem selfTest_passed (hn : s.tmr.copies.length = 4) (hi : i < 4) (h : (s.copy i).st = 4) (ht : (s.copy i).since + 200000 ≤ s.clk) :
    ((selfTest i true s).copy i).st = 1 ∧ ((selfTest i true s).copy i).tests = satInc 32 (s.copy i).tests ∧ ((selfTest i true s).copy i).testAt = s.st ∧
      (3 ≤ (copiesIn s 0).length ∨ s.tmr.load.isSome → (selfTest i true s).tmr.load = s.tmr.load) ∧
      ((copiesIn s 0).length < 3 → s.tmr.load = none → copiesIn s 1 = [] → (selfTest i true s).tmr.load = some (i, true)) := by
  rw [selfTest_pass h ht]
  generalize hu : s.setCopy i { s.copy i with st := 1, since := s.clk, tests := satInc 32 (s.copy i).tests, testAt := s.st, bad := false } = u
  have hui : u.copy i = { s.copy i with st := 1, since := s.clk, tests := satInc 32 (s.copy i).tests, testAt := s.st, bad := false } := by
    rw [← hu, copy_setCopy_same hn hi]
  have huk : ∀ k, k ≠ i → u.copy k = s.copy k := fun k hk => by rw [← hu, copy_setCopy_ne hk]
  have hload : u.tmr.load = s.tmr.load := by rw [← hu]; rfl
  have hseat : copiesIn u 0 = copiesIn s 0 := copiesIn_congr fun k _ => by
    by_cases hk : k = i
    · subst hk
      simp [hui, h]
    · rw [huk k hk]
  obtain ⟨est, -, -, -, etests, etestAt⟩ := copyRecover_sameHistory i u
  rw [est, etests, etestAt, hui]
  refine ⟨rfl, rfl, rfl, fun hor => ?_, fun hlt hl hsp => ?_⟩
  · rw [copyRecover_idle (by rw [hseat, hload]; exact hor), hload]
  · have hspare : copiesIn u 1 = [i] := by
      refine filter_eq_singleton List.nodup_range (List.mem_range.2 hi) (by simp [hui]) fun k hk hki => ?_
      have hk1 : k ∉ copiesIn s 1 := by rw [hsp]; exact List.not_mem_nil
      simpa [mem_copiesIn, List.mem_range.1 hk, huk k hki] using hk1
    rw [copyRecover_spare (by rw [hseat]; exact hlt) (hload.trans hl) hspare]
    rfl

theorem selfTest_failed (hn : s.tmr.copies.length = 4) (hi : i < 4) (h : (s.copy i).st = 4) (ht : (s.copy i).since + 200000 ≤ s.clk) (hf : (s.copy i).fail < 2) :
    ((selfTest i false s).copy i).st = 4 ∧ ((selfTest i false s).copy i).fail = (s.copy i).fail + 1 ∧
      ((selfTest i false s).copy i).since = (s.copy i).since + rotS s * 1000000000 := by
  have hself := copyFail_copy_same hn hi
  have hst : ((copyFail i s).copy i).st = 4 := by rw [hself, CopySt.failed_st, if_neg (by omega)]
  rw [selfTest_fail h ht, if_pos hst, copy_setCopy_same ((copyFail_length s i).trans hn) hi]
  refine ⟨hst, ?_, rfl⟩
  change ((copyFail i s).copy i).fail = _
  rw [hself, CopySt.failed_fail]

theorem selfTest_retired (hn : s.tmr.copies.length = 4) (hi : i < 4) (h : (s.copy i).st = 4) (ht : (s.copy i).since + 200000 ≤ s.clk) (hf : 2 ≤ (s.copy i).fail) :
    ((selfTest i false s).copy i).st = 5 ∧ bit ((selfTest i false s).page pTMR).stat 1 = true := by
  have hst : ((copyFail i s).copy i).st = 5 := by rw [copyFail_copy_same hn hi, CopySt.failed_st, if_pos (by omega)]
  rw [selfTest_fail h ht, if_neg (by omega)]
  refine ⟨hst, ?_⟩
  unfold copyFail
  rw [if_pos (by omega)]
  exact (latched_inv pTMR 1).levelSync (raise_latched _ _ _ (by omega))

end

/-! ### The obligation -/

/-- Settles O50: every vote is one of `vote_safe`, `vote_agree`, `vote_odd`, `vote_probation` and `vote_split`; a rotation, a restoring and the end of a self-test
do what their lemmas say. -/
theorem voting : Obligations.Voting := by
  refine ⟨fun s out a b c d hl hn => ⟨fun h4 => ?_, fun w hne hag => ?_, fun h4 => ⟨fun i w hi hst hlen hv hag => ?_, fun i w hi hst hp hlen hv hag => ?_, fun hsplit => ?_⟩⟩,
    fun s src hr hn => ⟨fun i r hsp hload => ?_, fun hidle => ?_, fun hns => ?_, fun i => ⟨fun h5 => ?_, fun h5 => ?_⟩⟩,
    fun s i hl hn => ⟨fun hst ht => ⟨?_, fun hf => ?_, fun hf => ?_⟩, fun p hidle => ?_⟩⟩
  · exact ⟨(act_live hl).trans (congrArg _ (vote_safe h4)), (act_live hl).trans (congrArg _ (vote_safe h4))⟩
  · exact ⟨(act_live hl).trans (congrArg _ (vote_agree hne hag)), (act_live hl).trans (congrArg _ (vote_agree hne hag))⟩
  · obtain ⟨h1, h2, h3, h5, h6, h7, h8⟩ := outvote_outvoted hn hi hst
    exact ⟨(act_live hl).trans (congrArg _ (vote_odd h4 hi hst hlen hv hag)), outvote i s, (act_live hl).trans (congrArg _ (vote_odd h4 hi hst hlen hv hag)), h1, h2, h3, h5, h6, h7, h8⟩
  · have hexec (odd : Nat → State → State) : act (vote odd (held4 ⟨a, b, c, d⟩)) s = .next (copyFail i { s with tmr := { s.tmr with load := none } }) :=
      (act_live hl).trans (congrArg _ ((vote_probation h4 hp hlen hv hag).trans (probationFail_eq hn hi hst hlen)))
    refine ⟨⟨_, hexec scrubCopy, ?_, ?_, copyFail_load _ _, fun k hk => copyFail_copy_ne _ hk⟩, (hexec outvote).trans (hexec scrubCopy).symm⟩
    · exact (congrArg CopySt.st (copyFail_copy_of_tmr (by rfl) hn hi)).trans (CopySt.failed_st ..)
    · exact (congrArg CopySt.fail (copyFail_copy_of_tmr (by rfl) hn hi)).trans (CopySt.failed_fail ..)
  · exact ⟨⟨_, (act_live hl).trans (congrArg _ (vote_split h4 hsplit)), enterSafe_state s⟩, _, (act_live hl).trans (congrArg _ (vote_split h4 hsplit)), enterSafe_state s⟩
  · obtain ⟨hi, hst⟩ := mem_copiesIn.1 (hsp ▸ List.mem_cons_self : i ∈ copiesIn s 1)
    have hrot := rotBegin_spare hsp hload
    have hself := copyLoad_copy_same false hn hi
    refine ⟨⟨_, (exec_tmrCmdRotate src hr).trans (congrArg _ hrot), by rw [hself]; exact hst, by rw [hself], rfl, rfl, fun k hk => copyLoad_copy_ne s false hk⟩, fun hns hsec => ?_⟩
    exact ⟨_, (act_live hr.1).trans (congrArg _ ((if_pos ⟨hns, hsec⟩).trans hrot)), by rw [hself], rfl, fun k hk => copyLoad_copy_ne s false hk⟩
  · have hrot := rotBegin_idle hidle
    refine ⟨(exec_tmrCmdRotate src hr).trans (congrArg _ hrot), (act_live hr.1).trans (congrArg _ ?_)⟩
    exact keeps_ite (P := (· = s)) hrot rfl
  · exact (act_live hr.1).trans (congrArg _ (if_neg (by omega)))
  · exact ⟨_, exec_tmrCmdRestore src i hr, copyRestore_retired hn i.isLt h5⟩
  · exact (exec_tmrCmdRestore src i hr).trans (congrArg _ (copyRestore_idle h5))
  · exact ⟨_, act_live hl, selfTest_passed hn i.isLt hst ht⟩
  · exact ⟨_, act_live hl, selfTest_failed hn i.isLt hst ht hf⟩
  · exact ⟨_, act_live hl, selfTest_retired hn i.isLt hst ht hf⟩
  · exact (act_live hl).trans (congrArg _ (selfTest_idle hidle))

end Sys2Proof.Machine
end

section
/-! SUPPORT. The two PLLs and the on-chip memory's scrubber (R407, R411 to R413). -/

namespace Sys2Proof.Machine

/-! ### LEVEL while no move is under way -/

theorem staysIn_of_still {s : State} (h : s.pwr.move = none) : s.staysIn s.pwr.state s.pwr.rej := ⟨rfl, rfl, fun m hm => by simp [h] at hm⟩

theorem levelNow_congr {s t : State} (hp : t.pwr.state = s.pwr.state) (hc : t.tmr.copies = s.tmr.copies) (ha : t.tmr.pllA = s.tmr.pllA)
    (hb : t.tmr.pllB = s.tmr.pllB) : levelNow t = levelNow s := by
  have : copiesIn t 5 = copiesIn s 5 := copiesIn_congr fun k _ => by rw [copy_of_tmr hc]
  simp only [levelNow, this, hp, ha, hb]

/-- Where no move takes the hub down, LEVEL is up to date once it has followed. -/
theorem levelSync_level {k r : Nat} {s : State} (h : s.staysIn k r) : (levelSync s).tmr.level = levelNow (levelSync s) := by
  obtain ⟨a, ha⟩ := levelSync_tmr s
  have hst : (levelSync s).pwr.state = s.pwr.state := ((staysIn_inv k r).levelSync h).1.trans h.1.symm
  rw [levelNow_congr hst (by rw [ha]) (by rw [ha]) (by rw [ha]), ha]

/-! ### The PLLs (R411, R412) -/

/-- What the comparison with XO_IN records. -/
def pllNote (b lock : Bool) (edges : List Int) (ps : Int) (s : State) : State :=
  let t := { s.tmr with pllPhase := unsgn 16 ps }
  let clean := lock && edges.all (fun p => decide (p.natAbs ≤ 50))
  { s with tmr := if b then { t with pllB := !pllBad lock edges } else
    { t with pllA := !pllBad lock edges, cleanSince := if clean then some (t.cleanSince.getD s.clk) else none } }

theorem pllFail_eq (b lock : Bool) (edges : List Int) (ps : Int) (s : State) : pllFail b lock edges ps s =
    levelSync (if pllBad lock edges && (s.tmr.pllSel == b) && (if b then (pllNote b lock edges ps s).tmr.pllA else (pllNote b lock edges ps s).tmr.pllB)
      then pllMove 3 (pllNote b lock edges ps s) else pllNote b lock edges ps s) := by
  cases b <;> rfl

theorem pllBad_of_failed {lock : Bool} {edges : List Int} (h : lock = false ∨ (4 ≤ edges.length ∧ ∀ e ∈ edges.drop (edges.length - 4), 200 < e.natAbs)) :
    pllBad lock edges = true := by
  obtain h | ⟨hlen, h⟩ := h
  · simp [pllBad, h]
  · simp only [pllBad, List.take_reverse, List.all_reverse, decide_eq_true hlen, Bool.true_and, Bool.or_eq_true, List.all_eq_true, decide_eq_true_eq]
    exact .inr h

theorem pllBad_of_sound {lock : Bool} {edges : List Int} (hl : lock = true) (h : edges.length < 4 ∨ ∃ e ∈ edges.drop (edges.length - 4), e.natAbs ≤ 200) :
    pllBad lock edges = false := by
  obtain h | ⟨e, he, hle⟩ := h
  · simp [pllBad, hl, h]
  · have : (edges.drop (edges.length - 4)).all (fun p => decide (200 < p.natAbs)) = false := List.all_eq_false.2 ⟨e, he, by simpa using hle⟩
    simp [pllBad, hl, List.take_reverse, this]

section
variable {b lock : Bool} {edges : List Int} {ps : Int} {s : State}

/-- A PLL that has failed while the clock tree runs from it, the other sound. -/
theorem pllFail_over (hbad : pllBad lock edges = true) (hsel : s.tmr.pllSel = b) (ho : (if b then s.tmr.pllA else s.tmr.pllB) = true) :
    pllFail b lock edges ps s = levelSync (pllMove 3 (pllNote b lock edges ps s)) := by
  rw [pllFail_eq, if_pos]
  cases b <;> simp_all [pllNote]

/-- A sound PLL, one not in use, or one without a sound other. -/
theorem pllFail_stay (h : pllBad lock edges = false ∨ s.tmr.pllSel ≠ b ∨ (if b then s.tmr.pllA else s.tmr.pllB) = false) :
    pllFail b lock edges ps s = levelSync (pllNote b lock edges ps s) := by
  rw [pllFail_eq, if_neg]
  cases b <;> simp only [pllNote, Bool.and_eq_true, beq_iff_eq, if_true, Bool.false_eq_true, if_false] at h ⊢ <;> rintro ⟨⟨h1, h2⟩, h3⟩ <;> simp_all

end

theorem pllMove_tmr (ev : Nat) (s : State) : (pllMove ev s).tmr = { s.tmr with
    pllSel := !s.tmr.pllSel, pllAt := s.st, failovers := if ev = 3 then satInc 16 s.tmr.failovers else s.tmr.failovers,
    returns := if ev = 4 then satInc 16 s.tmr.returns else s.tmr.returns } := by
  simp [pllMove]

theorem pllNote_staysIn {k r : Nat} (b lock : Bool) (edges : List Int) (ps : Int) {s : State} (h : s.staysIn k r) : (pllNote b lock edges ps s).staysIn k r := h

theorem pllMove_staysIn {k r : Nat} (ev : Nat) {s : State} (h : s.staysIn k r) : (pllMove ev s).staysIn k r :=
  (staysIn_inv k r).side.raise pTMR ev ((staysIn_inv k r).same h (by and_intros <;> rfl))

theorem pllReturn_ready {ph : Int} {s : State} {c : Nat} (hc : s.tmr.cleanSince = some c) (hsel : s.tmr.pllSel = true) (ha : s.tmr.pllA = true)
    (ht : c + 10000000000 ≤ s.clk) (hh : tmrCfg_RETURN_HOLD s = 0) :
    pllReturn ph s = pllMove 4 { s with tmr := { s.tmr with pllPhase := unsgn 16 ph } } := by
  unfold pllReturn
  dsimp only
  rw [hc]
  exact if_pos ⟨hsel, ha, ht, hh⟩

theorem pllReturn_idle {ph : Int} {s : State} (h : tmrCfg_RETURN_HOLD s = 1 ∨ s.tmr.pllSel = false ∨ s.tmr.pllA = false ∨ s.tmr.cleanSince = none ∨
    ∃ c, s.tmr.cleanSince = some c ∧ s.clk < c + 10000000000) : pllReturn ph s = s := by
  unfold pllReturn
  dsimp only
  cases hc : s.tmr.cleanSince with
  | none => rfl
  | some c =>
    refine if_neg fun ⟨hsel, ha, ht, hh⟩ => ?_
    obtain h | h | h | h | ⟨d, hd, h⟩ := h
    · omega
    · simp [h] at hsel
    · simp [h] at ha
    · simp [h] at hc
    · simp only [hc, Option.some.injEq] at hd
      omega

/-! ### The scrubber (R413) -/

section
variable (s : State)

theorem setDramW_tmr (a : Nat) (w : Word) : (s.setDramW a w).tmr = s.tmr := by simp [State.setDramW, State.healBeat]

theorem setDramWs_tmr (a : Nat) (ws : List Word) : (s.setDramWs a ws).tmr = s.tmr :=
  foldl_keeps (fun t => t.tmr = s.tmr) _ (fun t _ ht => (setDramW_tmr t _ _).trans ht) _ s rfl

theorem ledgerRing_tmr (e : List Word) : (ledgerRing e s).tmr = s.tmr := by
  unfold ledgerRing
  dsimp only
  split
  · simp
  · simp [setDramWs_tmr]

theorem ledgerNow_tmr (body : List Word) : (ledgerNow body s).tmr = s.tmr := by
  unfold ledgerNow
  dsimp only
  split
  · split <;> simp
  · exact ledgerRing_tmr s _

theorem rangeEntry_tmr (n reason first last words nmem : Nat) : (rangeEntry n reason first last words nmem s).tmr = s.tmr := by
  unfold rangeEntry ledgerPut
  split
  · rfl
  · simp [ledgerSignal, ledgerNow_tmr]

theorem startCtx_tmr (c t k : Nat) : (startCtx c t k s).tmr = s.tmr := by
  unfold startCtx
  dsimp only
  split <;> rfl

theorem settleRun_tmr (c t cyc : Nat) (stale : Bool) (path : Nat) : (settleRun c t cyc stale path s).tmr = s.tmr := by
  unfold settleRun
  dsimp only
  split <;> rfl

end

theorem SideInv.startCtx {P : State → Prop} (hP : SideInv P) (c t k : Nat) {s : State} (h : P s) : P (startCtx c t k s) :=
  keeps_ite (hP.setCtx _ _ (hP.setCtx _ _ h)) (hP.setCtx _ _ h)

theorem ctxRestart_tmr (c : Nat) (s : State) : (ctxRestart c s).tmr = s.tmr := by
  unfold ctxRestart
  dsimp only
  split
  · rw [settleRun_tmr, startCtx_tmr]
    split
    · exact foldl_keeps (fun t => t.tmr = s.tmr) _ (fun t _ ht => (rangeEntry_tmr t ..).trans ht) _ s rfl
    · rfl
  · rfl

theorem SideInv.ctxRestart {P : State → Prop} (hP : SideInv P) (c : Nat) {s : State} (h : P s) : P (ctxRestart c s) :=
  keeps_ite (hP.settleRun _ _ _ _ _ (hP.startCtx _ _ _ (keeps_ite (foldl_keeps P _ (fun _ _ ha => hP.rangeEntry _ _ _ _ _ _ ha) _ s h) h))) h

/-- A word at `a` marked as unreadable. -/
def badMark (a : Nat) (t : State) : State := { t with tmr := { t.tmr with bad := if a ∈ t.tmr.bad then t.tmr.bad else a :: t.tmr.bad } }

theorem badMark_hdr (a : Nat) (t : State) : (badMark a t).hdr = t.hdr := rfl

theorem mem_badMark (a : Nat) (t : State) : a ∈ (badMark a t).tmr.bad := by
  unfold badMark
  dsimp only
  split
  · assumption
  · exact List.mem_cons_self

theorem sramRegion_low {a : Nat} (s : State) (ha : a < 0xA00000) : sramRegion a s =
    if (0x420000 ≤ a ∧ a < 0x440000) ∨ (0x454000 ≤ a ∧ a < 0x458000) then badMark a (s.setSramW a 0) else badMark a s := by
  unfold sramRegion
  rw [if_neg (by unfold ctxStateBase; omega), if_neg (by unfold reserveBase; omega)]
  rfl

/-- An uncorrectable word from the context states on: no word is marked, or this one is. -/
theorem sramRegion_high {a : Nat} (s : State) (ha : 0xA00000 ≤ a) : (∃ c, sramRegion a s = ctxRestart c s) ∨
    (∃ n q f, sramRegion a s = modPkt n q f s) ∨ sramRegion a s = badMark a s := by
  unfold sramRegion
  split
  · exact .inl ⟨_, rfl⟩
  split
  · split
    · exact .inr (.inl ⟨_, _, _, rfl⟩)
    · exact .inr (.inr rfl)
  · rw [if_neg (by unfold tblBase; omega)]
    exact .inr (.inr rfl)

section
variable {err : Nat} {s : State}

/-- The scrubber's turn to its next word. -/
def scrubTurn (s : State) : State := { s with tmr := { s.tmr with scrubAt := (s.tmr.scrubAt + 1) % 4194304, scrubClk := s.clk } }

theorem sramScrub_early (h : (s.clk - s.tmr.scrubClk) * 4194304 < scrubMs s * 1000000) : sramScrub err s = s := if_neg (by omega)

theorem sramScrub_due (h : scrubMs s * 1000000 ≤ (s.clk - s.tmr.scrubClk) * 4194304) : sramScrub err s =
    if 4 * s.tmr.scrubAt ∈ s.tmr.bad ∨ 2 ≤ err then sramRegion (4 * s.tmr.scrubAt) (sramUncorr (4 * s.tmr.scrubAt) (scrubTurn s))
    else if err = 1 then { scrubTurn s with tmr := { (scrubTurn s).tmr with corr := satInc 16 s.tmr.corr } } else scrubTurn s := if_pos h

end

theorem sramUncorr_tmr (a : Nat) (s : State) :
    (sramUncorr a s).tmr = { s.tmr with uncorr := satInc 16 s.tmr.uncorr, eccAddr := if s.tmr.latched then s.tmr.eccAddr else a, latched := true } := by
  simp [sramUncorr]

theorem sramUncorr_sram (a : Nat) (s : State) : (sramUncorr a s).sram = s.sram := by simp [sramUncorr]

theorem sramUncorr_event (a : Nat) (s : State) : bit ((sramUncorr a s).page pTMR).stat 5 = true := raise_latched _ _ _ (by omega)

section
variable {a : Nat} {s : State}

/-- What an uncorrectable word below the context states leaves. -/
theorem sramUncorr_low (u : State) (ha : a < 0xA00000) :
    a ∈ (sramRegion a (sramUncorr a u)).tmr.bad ∧ (sramRegion a (sramUncorr a u)).tmr.uncorr = satInc 16 u.tmr.uncorr ∧
      (sramRegion a (sramUncorr a u)).tmr.scrubAt = u.tmr.scrubAt ∧ (sramRegion a (sramUncorr a u)).tmr.latched = true ∧
      (u.tmr.latched = false → (sramRegion a (sramUncorr a u)).tmr.eccAddr = a) ∧
      (u.tmr.latched = true → (sramRegion a (sramUncorr a u)).tmr.eccAddr = u.tmr.eccAddr) ∧
      (a < 0x400000 → (sramRegion a (sramUncorr a u)).sram = u.sram) ∧
      (0x420000 ≤ a → a < 0x440000 → (sramRegion a (sramUncorr a u)).sramW a = 0) ∧
      bit ((sramRegion a (sramUncorr a u)).page pTMR).stat 5 = true := by
  have htmr := sramUncorr_tmr a u
  have hsram := sramUncorr_sram a u
  have hev := sramUncorr_event a u
  generalize sramUncorr a u = v at htmr hsram hev ⊢
  have hkeep (w : State) (hw : w.tmr.uncorr = v.tmr.uncorr ∧ w.tmr.scrubAt = v.tmr.scrubAt ∧ w.tmr.latched = v.tmr.latched ∧ w.tmr.eccAddr = v.tmr.eccAddr) :
      w.tmr.uncorr = satInc 16 u.tmr.uncorr ∧ w.tmr.scrubAt = u.tmr.scrubAt ∧ w.tmr.latched = true ∧
      (u.tmr.latched = false → w.tmr.eccAddr = a) ∧ (u.tmr.latched = true → w.tmr.eccAddr = u.tmr.eccAddr) := by
    obtain ⟨h1, h2, h3, h4⟩ := hw
    rw [h1, h2, h3, h4, htmr]
    exact ⟨rfl, rfl, rfl, fun h => if_neg (by simp [h]), fun h => if_pos h⟩
  rw [sramRegion_low _ ha]
  split
  · obtain ⟨h1, h2, h3, h4, h5⟩ := hkeep (badMark a (v.setSramW a 0)) ⟨rfl, rfl, rfl, rfl⟩
    have hpage : (badMark a (v.setSramW a 0)).page pTMR = v.page pTMR := page_of_hdr ((badMark_hdr ..).trans (by simp)) pTMR
    exact ⟨mem_badMark _ _, h1, h2, h3, h4, h5, fun h => by omega, fun _ _ => sramW_setSramW _ a 0, by rw [hpage]; exact hev⟩
  · obtain ⟨h1, h2, h3, h4, h5⟩ := hkeep (badMark a v) ⟨rfl, rfl, rfl, rfl⟩
    exact ⟨mem_badMark _ _, h1, h2, h3, h4, h5, fun _ => hsram, fun _ _ => by omega, hev⟩

/-- What an uncorrectable word from the context states on leaves. -/
theorem sramUncorr_high (u : State) (ha : 0xA00000 ≤ a) : (sramRegion a (sramUncorr a u)).tmr.uncorr = satInc 16 u.tmr.uncorr ∧
    (sramRegion a (sramUncorr a u)).tmr.scrubAt = u.tmr.scrubAt ∧ bit ((sramRegion a (sramUncorr a u)).page pTMR).stat 5 = true := by
  have htmr := sramUncorr_tmr a u
  obtain ⟨c, h⟩ | ⟨n, q, f, h⟩ | h := sramRegion_high (sramUncorr a u) ha <;> rw [h]
  · rw [ctxRestart_tmr, htmr]
    exact ⟨rfl, rfl, (latched_inv pTMR 5).side.ctxRestart c (sramUncorr_event a u)⟩
  · exact ⟨(congrArg TmrSt.uncorr htmr :), (congrArg TmrSt.scrubAt htmr :), sramUncorr_event a u⟩
  · exact ⟨(congrArg TmrSt.uncorr htmr :), (congrArg TmrSt.scrubAt htmr :), sramUncorr_event a u⟩

end

/-! ### The obligation -/

/-- Settles O51: `pllFail_over` and `pllFail_stay`, `pllReturn_ready` and `pllReturn_idle`, and the scrubber's turn by what it finds. -/
theorem clocksAndSram : Obligations.ClocksAndSram := by
  refine ⟨fun s lock edges ph hl hm => ⟨fun hf => ?_, fun hlk hok b => ?_⟩, fun s ph hl => ⟨fun c hc hsel ha ht hh => ?_, fun h => ?_⟩,
    fun s err hl => ⟨fun h => (act_live hl).trans (congrArg _ (sramScrub_early h)), fun hdue => ⟨fun hb => ⟨fun he => ?_, fun he => ?_⟩, fun ha hor => ?_, fun ha hor => ?_⟩⟩⟩
  · have hbad := pllBad_of_failed hf
    have hst := staysIn_of_still hm
    have hover {b : Bool} (hsel : s.tmr.pllSel = b) (ho : (if b then s.tmr.pllA else s.tmr.pllB) = true) :
        ∃ t a, exec (.pllFail b ⟨lock, edges⟩ ph) s = .next t ∧ t.tmr.level = levelNow t ∧ bit (t.page pTMR).stat 3 = true ∧
          t.tmr = { (pllMove 3 (pllNote b lock edges ph s)).tmr with level := t.tmr.level, levelAt := a } := by
      have hlev := levelSync_level (pllMove_staysIn 3 (pllNote_staysIn b lock edges ph hst))
      obtain ⟨a, ha⟩ := levelSync_tmr (pllMove 3 (pllNote b lock edges ph s))
      refine ⟨_, a, (act_live hl).trans (congrArg _ (pllFail_over hbad hsel ho)), hlev, (latched_inv pTMR 3).levelSync (raise_latched _ _ _ (by omega)), ?_⟩
      rw [ha]
    have hstay {b : Bool} (h : s.tmr.pllSel ≠ b ∨ (if b then s.tmr.pllA else s.tmr.pllB) = false) :
        ∃ t a, exec (.pllFail b ⟨lock, edges⟩ ph) s = .next t ∧ t.tmr.level = levelNow t ∧
          t.tmr = { (pllNote b lock edges ph s).tmr with level := t.tmr.level, levelAt := a } := by
      have hlev := levelSync_level (pllNote_staysIn b lock edges ph hst)
      obtain ⟨a, ha⟩ := levelSync_tmr (pllNote b lock edges ph s)
      refine ⟨_, a, (act_live hl).trans (congrArg _ (pllFail_stay (.inr h))), hlev, ?_⟩
      rw [ha]
    refine ⟨fun hsel ho => ?_, fun hsel ho => ?_, fun h => ?_, fun h => ?_⟩
    · obtain ⟨t, a, hex, hlev, hev, ht⟩ := hover hsel ho
      rw [pllMove_tmr] at ht
      exact ⟨t, hex, by rw [ht]; simp [pllNote, hbad], by rw [ht]; simp [pllNote, hsel], by rw [ht]; simp [pllNote], by rw [ht]; simp [pllNote], hlev, hev⟩
    · obtain ⟨t, a, hex, hlev, hev, ht⟩ := hover hsel ho
      rw [pllMove_tmr] at ht
      exact ⟨t, hex, by rw [ht]; simp [pllNote, hbad], by rw [ht]; simp [pllNote, hsel], by rw [ht]; simp [pllNote], hlev, hev⟩
    · obtain ⟨t, a, hex, hlev, ht⟩ := hstay (b := false) (by simpa using h)
      exact ⟨t, hex, by rw [ht]; simp [pllNote, hbad], by rw [ht]; simp [pllNote], by rw [ht]; simp [pllNote], hlev⟩
    · obtain ⟨t, a, hex, hlev, ht⟩ := hstay (b := true) (by simpa using h)
      exact ⟨t, hex, by rw [ht]; simp [pllNote, hbad], by rw [ht]; simp [pllNote], by rw [ht]; simp [pllNote], hlev⟩
  · have hgood := pllBad_of_sound hlk hok
    have hlev := levelSync_level (pllNote_staysIn b lock edges ph (staysIn_of_still hm))
    obtain ⟨a, ha⟩ := levelSync_tmr (pllNote b lock edges ph s)
    refine ⟨_, (act_live hl).trans (congrArg _ (pllFail_stay (.inl hgood))), ?_⟩
    refine ⟨by rw [ha]; cases b <;> rfl, by rw [ha]; cases b <;> rfl, hlev, by rw [ha]; cases b <;> rfl, fun hb => ?_, fun hb => ?_⟩
    · subst hb
      rw [ha]
      refine ⟨by simp [pllNote, hgood], fun ⟨e, he, h50⟩ => ?_, fun hall => ?_⟩
      · have : edges.all (fun p => decide (p.natAbs ≤ 50)) = false := List.all_eq_false.2 ⟨e, he, by simpa using h50⟩
        simp [pllNote, this]
      · have : edges.all (fun p => decide (p.natAbs ≤ 50)) = true := List.all_eq_true.2 fun e he => decide_eq_true (hall e he)
        simp [pllNote, this, hlk]
    · subst hb
      rw [ha]
      exact ⟨by simp [pllNote, hgood], rfl⟩
  · have htmr := pllMove_tmr 4 { s with tmr := { s.tmr with pllPhase := unsgn 16 ph } }
    refine ⟨_, (act_live hl).trans (congrArg _ (pllReturn_ready hc hsel ha ht hh)), by rw [htmr]; simp [hsel], by rw [htmr]; rfl, by rw [htmr]; rfl, raise_latched _ _ _ (by omega)⟩
  · exact (act_live hl).trans (congrArg _ (pllReturn_idle h))
  · refine (act_live hl).trans (congrArg _ ((sramScrub_due hdue).trans ?_))
    subst he
    rw [if_neg (by simpa using hb), if_neg (by decide)]
    rfl
  · refine (act_live hl).trans (congrArg _ ((sramScrub_due hdue).trans ?_))
    subst he
    rw [if_neg (by simpa using hb), if_pos (by decide)]
    rfl
  · have herr : 4 * s.tmr.scrubAt ∈ s.tmr.bad ∨ 2 ≤ err.val := hor.symm.imp_right fun h => by simp [h]
    exact ⟨_, (act_live hl).trans (congrArg _ ((sramScrub_due hdue).trans (if_pos herr))), sramUncorr_low (scrubTurn s) ha⟩
  · have herr : 4 * s.tmr.scrubAt ∈ s.tmr.bad ∨ 2 ≤ err.val := hor.symm.imp_right fun h => by simp [h]
    exact ⟨_, (act_live hl).trans (congrArg _ ((sramScrub_due hdue).trans (if_pos herr))), sramUncorr_high (scrubTurn s) ha⟩

end Sys2Proof.Machine
end

section
/-! SUPPORT. The supplies and the pins (R409, R453, R464, R471): AVDD_LOW and the mittens, and the pulse of PPS_OUT. -/

namespace Sys2Proof.Machine

/-! ### AVDD_LOW (R464) -/

theorem mittsSupply_inv (x : List (Nat × MittSt)) (y : SupplySt) : HubInv (fun s => s.mitts = x ∧ s.supply = y) where
  latch _ _ h := by simpa using h
  wake h := by simpa using h
  same h e := by
    obtain ⟨-, -, hsup, -, -, -, -, hmitt⟩ := e
    rw [hsup, hmitt]
    exact h

theorem HubInv.mittGone_of {P : State → Prop} (hP : HubInv P) {m : Nat} {s : State} (h : P (s.setMitt m { s.mitt m with isUp := false })) : P (mittGone m s) :=
  foldl_keeps P _ (fun _ _ ha => hP.side.excOffAt _ _ ha) _ _ (hP.mittDown m h)

/-- A mitten that counts as off is no longer up; of the mittens and the supplies nothing else changes. -/
theorem mittGone_mitts (m : Nat) (s : State) :
    (mittGone m s).mitts = (s.setMitt m { s.mitt m with isUp := false }).mitts ∧ (mittGone m s).supply = s.supply := by
  exact (mittsSupply_inv _ _).mittGone_of ⟨rfl, by simp⟩

theorem mittGone_isUp (m : Nat) (s : State) (k : Nat) : ((mittGone m s).mitt k).isUp = if k = m then false else (s.mitt k).isUp := by
  rw [show (mittGone m s).mitt k = (s.setMitt m { s.mitt m with isUp := false }).mitt k by simp only [State.mitt, (mittGone_mitts m s).1], State.mitt_setMitt]
  split <;> rfl

theorem mittsGone (k : Nat) : ∀ (l : List Nat) (s : State), (l.foldl (fun a m => mittGone m a) s).supply = s.supply ∧
    ((l.foldl (fun a m => mittGone m a) s).mitt k).isUp = if k ∈ l then false else (s.mitt k).isUp
  | [], _ => ⟨rfl, rfl⟩
  | m :: l, s => by
    obtain ⟨h1, h2⟩ := mittsGone k l (mittGone m s)
    refine ⟨h1.trans (mittGone_mitts m s).2, h2.trans ?_⟩
    rw [mittGone_isUp]
    by_cases hk : k = m <;> by_cases hl : k ∈ l <;> simp [hk, hl]

/-! ### Its end (R464) -/

/-- What a mitten coming up leaves of the hub, as the end of AVDD_LOW goes through the mittens. -/
def State.avddKept (s t : State) : Prop := t.loops = s.loops ∧ t.sram = s.sram ∧ t.pwr = s.pwr ∧ t.supply = s.supply

theorem mittCome_kept (m : Nat) (s : State) : s.avddKept (mittCome m s) :=
  foldl_keeps (fun t => s.avddKept t) _ (fun _ _ ha => by simpa [State.avddKept] using ha) _ _ (by simp [State.avddKept])

theorem mittCome_isUp (m : Nat) (s : State) (k : Nat) : ((mittCome m s).mitt k).isUp = if k = m then true else (s.mitt k).isUp := by
  refine foldl_keeps (fun t : State => (t.mitt k).isUp = if k = m then true else (s.mitt k).isUp) _ (fun _ _ ha => by simpa using ha) _ _ ?_
  by_cases hk : k = m <;> simp [hk]

theorem loopOn_kept {s t : State} (h : s.avddKept t) (m : Nat) : loopOn t m = loopOn s m := by
  obtain ⟨hl, hs, -, -⟩ := h
  have hw (n : Nat) : lw0 t n = lw0 s n := by simp [lw0, lw, State.loop, State.tblW, State.sramW, State.sramB, hl, hs]
  have hloop (n : Nat) : t.loop n = s.loop n := congrArg (tget loop0 · n) hl
  exact congrArg (List.any (List.range 16)) (funext fun n => by rw [hw, hloop])

theorem domHeld_of_loop {s : State} {m : Nat} (hm : m < 16) (h : loopOn s m = true) : domHeld s (1 + m) = true := by
  simp [domHeld, holders, show 1 + m ≤ 16 by omega, show 1 + m - 1 = m by omega, mittHolders, Holders.any, h]

/-- One mitten of the end of AVDD_LOW. -/
def mittBack (a : State) (m : Nat) : State := if domHeld a (1 + m) ∧ (a.dom (1 + m)).st = 0 then mittCome m a else a

theorem mittBack_kept {s a : State} (m : Nat) (h : s.avddKept a) : s.avddKept (mittBack a m) := by
  refine keeps_ite ?_ h
  obtain ⟨h1, h2, h3, h4⟩ := mittCome_kept m a
  obtain ⟨h5, h6, h7, h8⟩ := h
  exact ⟨h1.trans h5, h2.trans h6, h3.trans h7, h4.trans h8⟩

theorem mittBack_up {a : State} {k : Nat} (m : Nat) (h : (a.mitt k).isUp = true) : ((mittBack a m).mitt k).isUp = true := by
  refine keeps_ite (P := fun t => (t.mitt k).isUp = true) ?_ h
  rw [mittCome_isUp, h]
  exact ite_self _

theorem mittsBack {s : State} {k : Nat} (hk : k < 16) (hon : loopOn s k = true) (hd : (s.dom (1 + k)).st = 0) :
    ∀ (l : List Nat) (a : State), s.avddKept a → k ∈ l ∨ (a.mitt k).isUp = true → ((l.foldl mittBack a).mitt k).isUp = true
  | [], _, _, h => h.resolve_left List.not_mem_nil
  | m :: l, a, ha, h => by
    refine mittsBack hk hon hd l (mittBack a m) (mittBack_kept m ha) ?_
    obtain h | h := h
    · obtain rfl | h := List.mem_cons.1 h
      · have hup : mittBack a k = mittCome k a := if_pos ⟨domHeld_of_loop hk ((loopOn_kept ha k).trans hon), by simpa [State.dom, ha.2.2.1] using hd⟩
        exact .inr (by rw [hup, mittCome_isUp, if_pos rfl])
      · exact .inl h
    · exact .inr (mittBack_up m h)

/-! ### The obligation -/

/-- Settles O56: AVDD_LOW and its end go through the mittens; the other pins act by their conditions. -/
theorem suppliesAndPins : Obligations.SuppliesAndPins := by
  intro s hl
  refine ⟨fun h => ?_, fun h => ⟨(act_live hl).trans (congrArg _ (if_pos h)), ?_⟩, fun h => (act_live hl).trans (congrArg _ (if_neg (by simp [h]))),
    fun b => act_live hl, fun hen hdue => ⟨fun hg => (act_live hl).trans (congrArg _ (if_pos ?_)), fun hg hs => (act_live hl).trans (congrArg _ (if_neg ?_))⟩,
    fun h => (act_live hl).trans (congrArg _ (if_neg ?_)), fun hp h => (act_live hl).trans (congrArg _ (if_pos ⟨hp, h⟩)),
    fun h => (act_live hl).trans (congrArg _ (if_neg ?_)), fun h => (act_live hl).trans (congrArg _ (if_pos h)),
    fun h => (act_live hl).trans (congrArg _ (if_neg (Nat.not_le.2 h)))⟩
  · refine ⟨_, (act_live hl).trans (congrArg _ (if_neg (by simp [h]))), ?_⟩
    have hgone (k : Nat) := mittsGone k (List.range 16) { s with supply := { s.supply with avddLow := true, dips := satInc 16 s.supply.dips } }
    refine ⟨by rw [(hgone 0).1], by rw [(hgone 0).1], fun m hm => (hgone m).2.trans (if_pos (List.mem_range.2 hm))⟩
  · generalize hs1 : ({ s with supply := { s.supply with avddLow := false } } : State) = s1
    have hex : exec .avddLowClear s = .next ((List.range 16).foldl mittBack s1) := by
      rw [← hs1]
      exact (act_live hl).trans (congrArg _ (if_pos h))
    have hself : s1.avddKept s1 := ⟨rfl, rfl, rfl, rfl⟩
    refine ⟨_, hex, ?_, fun m hm hon hd => ?_⟩
    · obtain ⟨-, -, -, hsup⟩ := foldl_keeps (fun t => s1.avddKept t) mittBack (fun _ m ha => mittBack_kept m ha) (List.range 16) s1 hself
      rw [hsup, ← hs1]
    · refine mittsBack hm ?_ ?_ _ s1 hself (.inl (List.mem_range.2 hm))
      · rw [← hs1]
        exact hon
      · rw [← hs1]
        exact hd
  · refine ⟨hen, decide_eq_true hdue, ?_⟩
    obtain hg | ⟨hh, hst⟩ := hg
    · simp [hg]
    · simp [hh, hst]
  · rintro ⟨-, -, hn⟩
    obtain hh | hst := hs
    · simp [hg, hh] at hn
    · simp [hg, hst] at hn
  · rintro ⟨he, hd, -⟩
    have : s.st % secU < 2 * nsU := of_decide_eq_true hd
    omega
  · rintro ⟨hp, hor⟩
    unfold ppsWidth at hor
    obtain h | ⟨h1, h2⟩ := h
    · simp [h] at hp
    · omega

end Sys2Proof.Machine
end

section
/-! SUPPORT. Start-up and resets (R435 to R441, R453): GO, the ends of the lane and time steps, the core's reset and what the full resets keep. -/

namespace Sys2Proof.Machine

/-! ### GO (R436, R437) -/

theorem boot_inv (b : BootSt) : HubInv (fun s => s.boot = b) where
  latch _ _ h := by simpa using h
  wake h := by simpa using h
  same h e := by
    obtain ⟨-, -, -, -, -, -, hb, -⟩ := e
    rw [hb]
    exact h

theorem HubInv.drTrainCmd {P : State → Prop} (hP : HubInv P) (dma : Bool) {s : State} (h : P s) : P (drTrainCmd dma s) := by
  have hrej (r : Nat) : P (drRej r s) := hP.side.raise _ _ (hP.same h (by and_intros <;> rfl))
  exact keeps_ite (hrej 5) (keeps_ite (hrej 1) (keeps_ite (hrej 4) (keeps_ite (hrej 2) (keeps_ite (hrej 3) (keeps_ite h (hP.same h (by and_intros <;> rfl)))))))

/-- The start of step 8: training, and each enabled lane's bring-up. -/
theorem HubInv.startGo {P : State → Prop} (hP : HubInv P) {s : State} (hstep : s.boot.step = 7) (hgo : s.boot.go = true)
    (h : P { s with boot := { s.boot with step := 8, goAt := s.clk } }) : P (startGo s) := by
  unfold Machine.startGo
  rw [if_pos ⟨hstep, hgo⟩]
  exact foldl_keeps P _ (fun _ _ ha => keeps_ite (hP.side.withLane (hP.laneBringUp _ ha)) ha) _ _ (keeps_ite h (hP.drTrainCmd _ h))

theorem exec_sysStartGo {s : State} (src : Src) (h : s.reaches 0x130) : exec (.sysStartGo src) s = .next (sysGo s) :=
  act_busWrite src.code 1 h (by omega)

/-! ### The ends of steps 9 and 10 (R440) -/

/-- What the checks of the side steps leave of start-up: a lane or time step that has ended, and its lateness. -/
theorem startSide_flags (s : State) : (s.boot.laneLate = true → (startSide s).boot.laneLate = true) ∧ (s.boot.timeLate = true → (startSide s).boot.timeLate = true) ∧
    (s.boot.done9 = true → (startSide s).boot.done9 = true) ∧ (s.boot.done10 = true → (startSide s).boot.done10 = true) := by
  have hcome (b : BootSt) (m : Nat) {a : State} (ha : a.boot = b) : (mittCome m a).boot = b :=
    foldl_keeps (fun t : State => t.boot = b) _ (fun _ _ ht => by simpa using ht) _ _ (by simpa using ha)
  have hcomes (b : BootSt) (l : List Nat) {a : State} (ha : a.boot = b) : (l.foldl (fun a x => mittCome x a) a).boot = b :=
    foldl_keeps (fun t : State => t.boot = b) _ (fun _ m ht => hcome b m ht) l a ha
  unfold startSide
  split
  · dsimp only
    split
    · rw [hcomes _ _ rfl]
      exact ⟨id, id, fun h => by simp [h], fun h => by simp [h]⟩
    · exact ⟨id, id, fun h => by simp [h], fun h => by simp [h]⟩
  · exact ⟨id, id, id, id⟩

/-! ### The core's reset (R453) -/

theorem bootStart_mgmt (s : State) : (bootStart s).mgmt = { s.mgmt with
    st := 0, alt := false, bootEnd := some (s.clk + bootNs { s with boot := { s.boot with boots := s.boot.boots + 1 } }), mtimecmp := 0, ie := List.replicate 8 0, timer := true } := by
  unfold bootStart
  dsimp only
  split
  · split <;> simp [pcieLanes]
  · rfl

theorem bootStart_keep (s : State) : (bootStart s).boot.cause = s.boot.cause ∧ (bootStart s).att = s.att ∧ (bootStart s).sram = s.sram ∧
    (bootStart s).ctxs = s.ctxs ∧ (bootStart s).slices = s.slices := by
  unfold bootStart
  dsimp only
  split
  · split <;> simp [pcieLanes]
  · exact ⟨rfl, rfl, rfl, rfl, rfl⟩

theorem regEffect_mgmtCtl (src : Nat) (v : Word) (s : State) :
    regEffect src 0x7100 v s = if bit v 1 then coreReset (storeReg src 0x7100 v s) else storeReg src 0x7100 v s := rfl

theorem exec_mgmtCtlReset {s : State} (src : Src) (h : s.reaches 0x7100) :
    exec (.mgmtCtlReset src) s = .next (coreReset (storeReg src.code 0x7100 (s.orWord 0x7100 2) s)) := by
  have hact : exec (.mgmtCtlReset src) s = act (fun s => busWrite src.code 0x7100 (s.orWord 0x7100 2) s) s := rfl
  have hbit : bit (s.orWord 0x7100 2) 1 = true := bit_or_two _
  rw [hact, act_live h.1, busWrite_reg _ _ _ _ h.2 (by decide), regEffect_mgmtCtl, if_pos hbit]

/-! ### The full resets (R441) -/

/-- What a reset that keeps the copies makes of one, the number of seated ones before it told. -/
def copyKept (acc : Nat × List CopySt) (c : CopySt) : Nat × List CopySt :=
  if c.st = 5 then (acc.1, acc.2 ++ [{ c with since := 0 }])
  else (acc.1 + 1, acc.2 ++ [{ c with st := if acc.1 < 3 then 0 else 1, since := 0, seatedAt := 0, bad := false }])

theorem tmrKept_copies (t : TmrSt) : (tmrKept t).copies = (t.copies.foldl copyKept (0, [])).2 := rfl

/-- A copy before and after a reset that keeps it. -/
def CopySt.keptAs (x y : CopySt) : Prop := (y.st = 5 ↔ x.st = 5) ∧ y.fail = x.fail ∧ y.disagree = x.disagree

theorem copyKept_fold : ∀ (l : List CopySt) (acc : Nat × List CopySt), ∃ zs, (l.foldl copyKept acc).2 = acc.2 ++ zs ∧ List.Forall₂ CopySt.keptAs l zs
  | [], acc => ⟨[], by simp, .nil⟩
  | c :: l, acc => by
    obtain ⟨zs, h1, h2⟩ := copyKept_fold l (copyKept acc c)
    have hc : ∃ d, (copyKept acc c).2 = acc.2 ++ [d] ∧ c.keptAs d := by
      unfold copyKept
      split
      next h5 => exact ⟨_, rfl, Iff.rfl, rfl, rfl⟩
      next h5 => exact ⟨_, rfl, by simp only [h5, iff_false]; split <;> omega, rfl, rfl⟩
    obtain ⟨d, hd, hkept⟩ := hc
    exact ⟨d :: zs, by rw [List.foldl_cons, h1, hd]; simp, .cons hkept h2⟩

theorem tmrKept_forall (t : TmrSt) : List.Forall₂ CopySt.keptAs t.copies (tmrKept t).copies := by
  obtain ⟨zs, h1, h2⟩ := copyKept_fold t.copies (0, [])
  rw [tmrKept_copies, h1]
  exact h2

/-- What a reset by RST_N or by software leaves. -/
theorem hubReset_kept (cause : Nat) (s : State) : (hubReset cause true s).boot.cause = s.boot.cause ||| cause ∧ (hubReset cause true s).regs = State.reset.regs ∧
    (hubReset cause true s).pending = s.pending ∧ (hubReset cause true s).sram = [] ∧ (hubReset cause true s).tmr.failovers = s.tmr.failovers ∧
    (hubReset cause true s).tmr.returns = s.tmr.returns ∧ (hubReset cause true s).tmr.copies = (tmrKept s.tmr).copies := by
  have hlev (u : State) : (levelSync u).boot = u.boot ∧ (levelSync u).regs = u.regs ∧ (levelSync u).pending = u.pending ∧ (levelSync u).sram = u.sram := by
    unfold levelSync
    split
    · exact ⟨rfl, rfl, rfl, rfl⟩
    · simp
  have hres : ∃ u : State, hubReset cause true s = levelSync u ∧ u.tmr = tmrKept s.tmr ∧ u.boot.cause = s.boot.cause ||| cause ∧ u.regs = State.reset.regs ∧
      u.pending = s.pending ∧ u.sram = [] := ⟨_, rfl, rfl, rfl, rfl, rfl, rfl⟩
  obtain ⟨u, hu, htmr, hcause, hregs, hpend, hsram⟩ := hres
  obtain ⟨h1, h2, h3, h4⟩ := hlev u
  obtain ⟨a, ha⟩ := levelSync_tmr u
  rw [hu, h1, h2, h3, h4, ha, htmr]
  exact ⟨hcause, hregs, hpend, hsram, rfl, rfl, rfl⟩

theorem exec_sysReset {s : State} (src : Src) (h : s.reaches 0x100) : exec (.sysReset src) s = .next (hubReset 4 true s) :=
  act_busWrite src.code 0x5A17 h (by omega)

/-! ### The obligation -/

/-- Settles O55: GO by its three cases, the ends of the side steps, the core's reset and the resets of the hub. -/
theorem startUp : Obligations.StartUp := by
  refine ⟨fun s src hr => ⟨fun hgo => ?_, fun hgo hstep => ?_, fun hgo hstep => ?_⟩, fun s hl => ⟨fun h8 hd ht => ?_, fun h => ?_, fun h8 hd ht => ?_, fun h => ?_⟩,
    fun s src hr => ?_, fun s hl => ⟨?_, ?_, ?_, ?_⟩, fun s src hr => ?_, fun s hheld => ⟨_, exec_vddCoreInRange hheld, rfl, rfl, rfl⟩⟩
  · exact (exec_sysStartGo src hr).trans (congrArg _ (if_pos hgo))
  · refine (exec_sysStartGo src hr).trans (congrArg _ ((if_neg (by simp [hgo])).trans (if_neg ?_)))
    exact fun h => hstep h.1
  · refine ⟨_, (exec_sysStartGo src hr).trans (congrArg _ (if_neg (by simp [hgo]))), ?_⟩
    exact (boot_inv { s.boot with go := true, step := 8, goAt := s.clk }).startGo hstep rfl rfl
  · have hflags := startSide_flags { s with boot := { s.boot with done9 := true, laneLate := true } }
    exact ⟨_, (act_live hl).trans (congrArg _ (if_pos ⟨h8, by simp [hd], decide_eq_true ht⟩)), hflags.1 rfl, hflags.2.2.1 rfl⟩
  · refine (act_live hl).trans (congrArg _ (if_neg ?_))
    rintro ⟨h8, hd, ht⟩
    have := of_decide_eq_true ht
    obtain h | h | h := h
    · exact h h8
    · simp [h] at hd
    · omega
  · have hflags := startSide_flags { s with boot := { s.boot with done10 := true, timeLate := true } }
    exact ⟨_, (act_live hl).trans (congrArg _ (if_pos ⟨h8, by simp [hd], decide_eq_true ht⟩)), hflags.2.1 rfl, hflags.2.2.2 rfl⟩
  · refine (act_live hl).trans (congrArg _ (if_neg ?_))
    rintro ⟨h8, hd, ht⟩
    have := of_decide_eq_true ht
    obtain h | h | h := h
    · exact h h8
    · simp [h] at hd
    · omega
  · refine ⟨_, exec_mgmtCtlReset src hr, ?_⟩
    generalize hu : storeReg src.code 0x7100 (s.orWord 0x7100 2) s = u
    have hfields : u.boot = s.boot ∧ u.att = s.att ∧ u.sram = s.sram ∧ u.ctxs = s.ctxs ∧ u.slices = s.slices := by
      rw [← hu]
      simp
    obtain ⟨hb, ha, hsr, hc, hsl⟩ := hfields
    unfold coreReset
    obtain ⟨h1, h2, h3, h4, h5⟩ := bootStart_keep { u with
      att := { u.att with meas := u.att.meas.take 1 ++ List.replicate 7 0, cnt := u.att.cnt.take 1 ++ List.replicate 7 0 }
      boot := { u.boot with cause := u.boot.cause ||| 8 } }
    rw [bootStart_mgmt, h1, h2, h3, h4, h5]
    exact ⟨rfl, rfl, rfl, rfl, by rw [hb], by rw [ha], by rw [ha], hsr, hc, hsl⟩
  · exact ⟨_, exec_porN hl, rfl, rfl, rfl, rfl, rfl⟩
  · obtain ⟨h1, h2, h3, h4, h5, h6, h7⟩ := hubReset_kept 2 s
    have hall := tmrKept_forall s.tmr
    refine ⟨_, act_live hl, h1, h2, h3, h4, h5, h6, by rw [h7, hall.length_eq], fun i x y hx hy => ?_⟩
    rw [h7] at hy
    obtain ⟨hix, rfl⟩ := List.getElem?_eq_some_iff.1 hx
    obtain ⟨hiy, rfl⟩ := List.getElem?_eq_some_iff.1 hy
    exact hall.get hix hiy
  · exact ⟨_, exec_vddCoreLow hl, rfl, rfl, rfl, rfl⟩
  · change Host.Outcome.next (coreBack s) = _
    rw [coreBack, if_neg (by simp [hl])]
  · obtain ⟨h1, h2, h3, h4, h5, -⟩ := hubReset_kept 4 s
    exact ⟨_, exec_sysReset src hr, h1, h2, h3, h4, h5⟩

end Sys2Proof.Machine
end

section
/-! SUPPORT. The host's ports (R436, R446 to R449, R452): the link, resets, configuration requests and the flash controller. -/

namespace Sys2Proof.Machine

/-! ### What the end of the host's transfers leaves -/

/-- The same PCIe state, memories and registers. -/
def State.hostKept (s t : State) : Prop := t.pcie = s.pcie ∧ t.sram = s.sram ∧ t.dramMem = s.dramMem ∧ t.regs = s.regs

theorem hostKept_dmaRaise {s t : State} (c b : Nat) (h : s.hostKept t) : s.hostKept (dmaRaise c b t) := by
  unfold dmaRaise
  dsimp only
  split
  · exact h
  · simpa [State.hostKept] using h

theorem hostKept_setDma {s t : State} (c : Nat) (x : DmaCh) (h : s.hostKept t) : s.hostKept (t.setDma c x) := h

theorem hostKept_dmaSettle {s t : State} (c : Nat) (h : s.hostKept t) : s.hostKept (dmaSettle c t) := by
  obtain e | ⟨x, b, e, -⟩ := dmaSettle_cases c t <;> rw [e]
  · exact h
  · exact hostKept_dmaRaise c b (hostKept_setDma c x h)

theorem hostKept_dmaFail {s t : State} (c r : Nat) (h : s.hostKept t) : s.hostKept (dmaFail c r t) :=
  keeps_ite (hostKept_dmaRaise _ _ (hostKept_setDma _ _ h)) (keeps_ite (hostKept_dmaSettle _ (hostKept_setDma _ _ h)) h)

theorem dmaHost_kept (r : Nat) (s : State) : s.hostKept (dmaHost r s) :=
  foldl_keeps s.hostKept _ (fun _ _ ha => keeps_ite (hostKept_dmaFail _ _ ha) ha) _ s ⟨rfl, rfl, rfl, rfl⟩

theorem visorStop_kept (n : Nat) (s : State) : s.hostKept (visorStop n s) := keeps_ite (P := s.hostKept) ⟨rfl, rfl, rfl, rfl⟩ ⟨rfl, rfl, rfl, rfl⟩

/-! ### The link (R446) -/

theorem pcieLink_change (w : Nat) (s : State) : pcieLink true w s = if lnCfg_EN s 10 = 1 ∧ (s.dom 31).st ≠ 4 ∧ s.pwr.state ≠ 3 then
    raiseIf (!s.pcie.up) pPCIE 0 { s with pcie := { s.pcie with up := true, width := if 2 ≤ w ∧ lnCfg_EN s 11 = 1 then 2 else 1 } } else s := rfl

theorem pcieLink_up {w : Nat} {s : State} (hen : lnCfg_EN s 10 = 1) (hd : (s.dom 31).st ≠ 4) (hst : s.pwr.state ≠ 3) : (pcieLink true w s).pcie =
    { s.pcie with up := true, width := if 2 ≤ w ∧ lnCfg_EN s 11 = 1 then 2 else 1 } ∧ (s.pcie.up = false → bit ((pcieLink true w s).page pPCIE).stat 0 = true) := by
  rw [pcieLink_change, if_pos ⟨hen, hd, hst⟩]
  exact ⟨by simp, fun hup => raiseIf_latched _ _ _ (by omega) (by simp [hup])⟩

/-- What the fall of the link leaves of PCIe. -/
theorem pcieDown_pcie (s : State) : (pcieDown s).pcie = if s.pcie.up then { s.pcie with up := false, width := 0 } else s.pcie := by
  unfold pcieDown
  split
  · simp [(dmaHost_kept 4 _).1]
  · rfl

theorem pcieDown_memories (s : State) : (pcieDown s).sram = s.sram ∧ (pcieDown s).dramMem = s.dramMem ∧ (pcieDown s).regs = s.regs := by
  unfold pcieDown
  split
  · obtain ⟨-, h1, h2, h3⟩ := visorStop_kept 11 (visorStop 10 s)
    obtain ⟨-, h4, h5, h6⟩ := visorStop_kept 10 s
    obtain ⟨-, h7, h8, h9⟩ := dmaHost_kept 4 { visorStop 11 (visorStop 10 s) with pcie := { s.pcie with up := false, width := 0 } }
    simp only [raise_fields, h7, h8, h9]
    exact ⟨h1.trans h4, h2.trans h5, h3.trans h6⟩
  · exact ⟨rfl, rfl, rfl⟩

theorem pcieDown_event {s : State} (h : s.pcie.up = true) : bit ((pcieDown s).page pPCIE).stat 1 = true := by
  unfold pcieDown
  rw [if_pos h]
  exact raise_latched _ _ _ (by omega)

/-! ### Resets (R447) -/

theorem tget_filter_of {α : Type} [DecidableEq α] (d : Nat → α) (q : Nat × α → Bool) (k : Nat) (hq : ∀ v, q (k, v) = true) :
    ∀ (t : Tbl α) (b : Nat), tcanonFrom d b t = true → tget d (t.filter q) k = tget d t k
  | [], _, _ => rfl
  | (j, v) :: t, b, h => by
    simp only [tcanonFrom, Bool.and_eq_true, decide_eq_true_eq] at h
    obtain ⟨-, ht⟩ := h
    have ih := tget_filter_of d q k hq t (j + 1) ht
    by_cases hj : q (j, v) = true
    · rw [List.filter_cons_of_pos hj]
      simp only [tget, ih]
    · rw [List.filter_cons_of_neg hj, ih]
      have hne : k ≠ j := fun e => hj (e ▸ hq v)
      simp only [tget, hne, if_false]
      split
      next hlt =>
        have := tabove_canon d j t ht
        rw [← this]
        exact tget_tabove_le d j k (by omega) t
      · rfl

theorem rw_clearRegs_other {s : State} (p a : Nat) (hc : tcanon regReset s.regs = true) (h : a / 0x1000 ≠ p) : (clearRegs p s).rw a = s.rw a :=
  tget_filter_of regReset _ a (fun _ => by simp [h]) s.regs 0 hc

/-- An event of a page with all of its events disabled is latched, and does nothing else. -/
theorem raise_disabled {s : State} (h : (s.page pPCIE).en = 0) : (raise pPCIE 2 s).msi = s.msi := by
  have hev (t : State) (ht : (t.page pPCIE).en = 0) : t.evLevel 180 = false := by
    change (State.evBit t pPCIE 2 && decide (2 < blockNev ((blockOf pPCIE).getD 0xFF))) = false
    simp [State.evBit, ht, bit]
  have hlatch : latch pPCIE 2 s = s.setPage pPCIE { s.page pPCIE with stat := (s.page pPCIE).stat ||| word (2 ^ 2) } := by
    change msiRise 180 s _ = _
    unfold msiRise
    rw [hev _ (by simpa using h), Bool.and_false, Bool.false_and]
    rfl
  have hraise : raise pPCIE 2 s = latch pPCIE 2 s := by
    change (if _ && (latch pPCIE 2 s).evLevel 180 && _ then _ else _) = _
    rw [hev (latch pPCIE 2 s) (by rw [latch_page_keep pPCIE 2 s pPCIE |>.1]; exact h)]
    simp
  rw [hraise, hlatch]
  rfl

/-- What a reset of the host's port leaves: `s1` is the hub with the host's transfers, or the link, ended. -/
theorem pcieReset_eq (k : Nat) (s : State) : ∃ s1 u : State, s1 = (if k = 2 then pcieDown s else dmaHost 2 s) ∧ pcieReset k s = raise pPCIE 2 u ∧
    u.pcie = { up := s1.pcie.up, width := s1.pcie.width } ∧ u.msi.pba = [] ∧ u.sram = s1.sram ∧ u.dramMem = s1.dramMem ∧
    u.regs = (clearRegs pPCIE s1).regs ∧ (u.page pPCIE).en = 0 := by
  refine ⟨_, _, rfl, rfl, rfl, rfl, rfl, rfl, rfl, ?_⟩
  rw [State.page_setPage, if_pos rfl]

theorem pcieReset_first (k : Nat) (s : State) : (if k = 2 then pcieDown s else dmaHost 2 s).pcie.up = (s.pcie.up && decide (k ≠ 2)) ∧
    (if k = 2 then pcieDown s else dmaHost 2 s).sram = s.sram ∧ (if k = 2 then pcieDown s else dmaHost 2 s).dramMem = s.dramMem ∧
    (if k = 2 then pcieDown s else dmaHost 2 s).regs = s.regs := by
  split
  next h =>
    obtain ⟨h1, h2, h3⟩ := pcieDown_memories s
    refine ⟨?_, h1, h2, h3⟩
    rw [pcieDown_pcie]
    split <;> simp_all
  next h =>
    obtain ⟨h1, h2, h3, h4⟩ := dmaHost_kept 2 s
    exact ⟨by rw [h1]; simp [h], h2, h3, h4⟩

/-- What a reset of the host's port leaves (R447). -/
structure PcieReset (k : Nat) (s t : State) : Prop where
  bme : t.pcie.bme = false
  mem : t.pcie.mem = false
  bar0 : t.pcie.bar0 = 0
  bar2 : t.pcie.bar2 = 0
  dstate : t.pcie.dstate = 0
  pba : t.msi.pba = []
  up : t.pcie.up = (s.pcie.up && decide (k ≠ 2))
  sram : t.sram = s.sram
  dramMem : t.dramMem = s.dramMem
  others : tcanon regReset s.regs = true → ∀ a, a / 0x1000 ≠ pPCIE → t.rw a = s.rw a
  own : ∀ a, a / 0x1000 = pPCIE → t.rw a = regReset a
  event : bit (t.page pPCIE).stat 2 = true

theorem pcieReset_spec (k : Nat) (s : State) : PcieReset k s (pcieReset k s) := by
  obtain ⟨s1, u, hs1, hu, hpcie, hpba, hsram, hdram, hregs, hen⟩ := pcieReset_eq k s
  obtain ⟨h1, h2, h3, h4⟩ := pcieReset_first k s
  rw [← hs1] at h1 h2 h3 h4
  have hrw (a : Nat) : (raise pPCIE 2 u).rw a = (clearRegs pPCIE s1).rw a := by simp only [State.rw, raise_fields, hregs]
  rw [hu]
  refine ⟨by simp [hpcie], by simp [hpcie], by simp [hpcie], by simp [hpcie], by simp [hpcie], by rw [raise_disabled hen, hpba], by simp [hpcie, h1],
    by simp [hsram, h2], by simp [hdram, h3], fun hc a ha => ?_, fun a ha => ?_, raise_latched _ _ _ (by omega)⟩
  · rw [hrw, rw_clearRegs_other pPCIE a (by rw [h4]; exact hc) ha]
    simp only [State.rw, h4]
  · rw [hrw, rw_clearRegs pPCIE a s1 ha]

/-! ### Configuration requests (R436, R448) -/

section
variable {s : State} {a : BitVec 12} {be : Fin 16} {v : Word} {o : Nat}

theorem exec_cfg_early (hl : s.supply.held = false) (hb : s.boot.step < 7) (wr : Bool) : exec (.pcieConfigRequest wr a be v) s = .next { s with lastRead := [] } := by
  refine (act_live hl).trans (congrArg _ ?_)
  rw [cfgRequest, show cfgReady s = false from decide_eq_false (by omega)]
  rfl

theorem exec_cfg_read (hl : s.supply.held = false) (hb : 7 ≤ s.boot.step) (ho : o = a.toNat / 4 * 4) :
    exec (.pcieConfigRequest false a be v) s = .next { s with lastRead := [cfgWord s o] } := by
  refine (act_live hl).trans (congrArg _ ?_)
  rw [cfgRequest, show cfgReady s = true from decide_eq_true hb, ← ho]
  rfl

theorem exec_cfg_write (hl : s.supply.held = false) (hb : 7 ≤ s.boot.step) (ho : o = a.toNat / 4 * 4) :
    exec (.pcieConfigRequest true a be v) s = .next (cfgWrite o be.val v s) := by
  refine (act_live hl).trans (congrArg _ ?_)
  rw [cfgRequest, show cfgReady s = true from decide_eq_true hb, ← ho]
  rfl

end

/-- A write of the command register: the memory and bus master bits, and the event of the latter's change. -/
theorem cfgWrite_command (be : Nat) (v w : Word) (s : State) (hw : w = beMerge (cfgWord s 0x04) v be) :
    (cfgWrite 0x04 be v s).pcie = { s.pcie with mem := bit w 1, bme := bit w 2 } ∧
      (s.pcie.bme ≠ bit w 2 → bit ((cfgWrite 0x04 be v s).page pPCIE).stat 3 = true) := by
  subst hw
  unfold cfgWrite
  dsimp only
  rw [if_pos rfl]
  refine ⟨?_, fun hne => raiseIf_latched _ _ _ (by omega) (by simpa using hne)⟩
  simp only [raiseIf_fields]
  split
  · exact (dmaHost_kept 2 _).1
  · rfl

/-- A write of the power state: D0, D3 or none, and the event of its change. -/
theorem cfgWrite_power (be : Nat) (v w : Word) (s : State) (hw : w = beMerge (cfgWord s (capPM + 4)) v be) :
    (cfgWrite (capPM + 4) be v s).pcie = { s.pcie with dstate := if fld w 1 0 = 0 then 0 else if fld w 1 0 = 3 then 3 else s.pcie.dstate } ∧
      ((cfgWrite (capPM + 4) be v s).pcie.dstate ≠ s.pcie.dstate → bit ((cfgWrite (capPM + 4) be v s).page pPCIE).stat 4 = true) := by
  have heq : cfgWrite (capPM + 4) be v s = raiseIf (decide ((if fld w 1 0 = 0 then 0 else if fld w 1 0 = 3 then 3 else s.pcie.dstate) ≠ s.pcie.dstate)) pPCIE 4
      { s with pcie := { s.pcie with dstate := if fld w 1 0 = 0 then 0 else if fld w 1 0 = 3 then 3 else s.pcie.dstate } } := by
    subst hw
    rfl
  rw [heq]
  refine ⟨by simp, fun hne => raiseIf_latched _ _ _ (by omega) (decide_eq_true ?_)⟩
  simpa using hne

/-- A write of the device control: its bits, and with bit 15 set a function level reset. -/
theorem cfgWrite_device (be : Nat) (v w : Word) (s : State) (hw : w = beMerge (cfgWord s (capEXP + 8)) v be) :
    cfgWrite (capEXP + 8) be v s = if bit w 15 then pcieReset 1 { s with pcie := { s.pcie with devCtl := w.toNat % 2 ^ 15 } }
      else { s with pcie := { s.pcie with devCtl := w.toNat % 2 ^ 15 } } := by
  subst hw
  rfl

/-- No other word of the configuration space is writable. -/
theorem cfgWrite_other {o : Nat} (be : Nat) (v : Word) (s : State) (h : o ∉ [0x04, 0x10, 0x14, 0x18, 0x1C, capPM + 4, capEXP + 8, capMSIX]) :
    cfgWrite o be v s = s := by
  simp only [List.mem_cons, List.not_mem_nil, or_false, not_or] at h
  obtain ⟨h1, h2, h3, h4, h5, h6, h7, h8⟩ := h
  simp [cfgWrite, h1, h2, h3, h4, h5, h6, h7, h8]

/-! ### The flash controller (R452) -/

/-- The command word a GO stores. -/
def qspiStored (v : Word) (s : State) : State := s.setRw qspiCmdAt ((v ||| 0x80000000#32) &&& 0x4F3FF1FF#32)

theorem qspiStored_LEN (v : Word) (s : State) : qspiCmd_LEN (qspiStored v s) = fld v 8 0 := by
  have h : fld ((v ||| 0x80000000#32) &&& 0x4F3FF1FF#32) 8 0 = fld v 8 0 := by
    simp only [fld, nfld, BitVec.toNat_and, BitVec.toNat_or]
    have h1 : ((v.toNat ||| (0x80000000#32).toNat) &&& (0x4F3FF1FF#32).toNat) % 2 ^ 9 = v.toNat % 2 ^ 9 := by
      rw [Nat.and_mod_two_pow, Nat.or_mod_two_pow]
      have hmask : (0x4F3FF1FF#32).toNat % 2 ^ 9 = 2 ^ 9 - 1 := by decide
      have hzero : (0x80000000#32).toNat % 2 ^ 9 = 0 := by decide
      rw [hmask, hzero, Nat.or_zero, Nat.and_two_pow_sub_one_eq_mod, Nat.mod_mod]
    simpa using h1
  simp [qspiCmd_LEN, qspiStored, h]

theorem qspiStored_WRITE (v : Word) (s : State) : qspiCmd_WRITE (qspiStored v s) = 1 ↔ bit v 30 = true := by
  have h : bit ((v ||| 0x80000000#32) &&& 0x4F3FF1FF#32) 30 = bit v 30 := by
    simp only [bit, BitVec.toNat_and, BitVec.toNat_or, Nat.testBit_and, Nat.testBit_or]
    have h1 : (0x80000000#32).toNat.testBit 30 = false := by decide
    have h2 : (0x4F3FF1FF#32).toNat.testBit 30 = true := by decide
    rw [h1, h2]
    simp
  simp only [qspiCmd_WRITE, qspiStored, State.rw_setRw, if_true, fld_bit, h]
  cases bit v 30 <;> simp

theorem bit_go (v : Word) : bit (v ||| 0x80000000#32) 31 = true := bit_or_pow v 31 (by decide)

theorem qspiGo_busy {v : Word} {back : List Byte} {s : State} (h : s.clk < s.mgmt.qEnd) : (qspiGo (v ||| 0x80000000#32) back s).mgmt = s.mgmt := by
  have hb : qspiBusy s = true := decide_eq_true h
  simp [qspiGo, hb]

/-- A transaction's address bytes, by ABYTES. -/
def qspiAddrBytes (s : State) : Nat := if qspiCmd_ABYTES s = 0 then 0 else if qspiCmd_ABYTES s = 1 then 3 else 4

/-- What a transaction that starts leaves of the controller. -/
theorem qspiGo_starts {v : Word} {back : List Byte} {s : State} (h : s.mgmt.qEnd ≤ s.clk) : ∃ bits op addr, 0 < bits ∧
    (qspiGo (v ||| 0x80000000#32) back s).mgmt = { s.mgmt with
      qEnd := s.clk + 20 * bits
      qOut := (op, addr, if qspiCmd_WRITE (qspiStored v s) = 1 then s.mgmt.qfifo.take (min 256 (fld v 8 0)) else []) :: s.mgmt.qOut
      qfifo := if qspiCmd_WRITE (qspiStored v s) = 1 then s.mgmt.qfifo.drop (min 256 (fld v 8 0))
        else (s.mgmt.qfifo ++ (back ++ List.replicate (min 256 (fld v 8 0) - back.length) 0).take (min 256 (fld v 8 0))).take 256 } := by
  have hb : qspiBusy s = false := decide_eq_false (by omega)
  refine ⟨8 * (1 + qspiAddrBytes (qspiStored v s) + min 256 (fld v 8 0)) + qspiCmd_DUMMY (qspiStored v s), qspiCmd_OPCODE (qspiStored v s),
    if qspiAddrBytes (qspiStored v s) = 0 then 0 else qspiAddr_ADDR (qspiStored v s), by omega, ?_⟩
  rw [← qspiStored_LEN v s]
  unfold qspiGo
  rw [bit_go, hb]
  simp only [Bool.not_false, Bool.and_self, if_true]
  rfl

/-! ### The obligation -/

/-- Settles O58: the link, the resets of the host's port, configuration requests by the word they name, and a flash transaction. -/
theorem hostPorts : Obligations.HostPorts := by
  refine ⟨fun s w hl => ⟨fun hen hd hst => ?_, fun h => ?_, fun hup => ?_, fun hup => ?_⟩, fun s k hl => ?_, fun s a be v w o hl ho hw => ⟨fun hb wr => exec_cfg_early hl hb wr, fun hb => ?_⟩,
    fun s src v bs len hr hlen => ⟨fun hq => ?_, fun hq => ?_⟩⟩
  · obtain ⟨hp, hev⟩ := pcieLink_up (w := w.val) hen hd hst
    have h2 : 2 ≤ w.val ↔ w.val = 2 := by omega
    refine ⟨_, act_live hl, by rw [hp], ?_, hev⟩
    simp only [hp, h2]
  · refine (act_live hl).trans (congrArg _ ((pcieLink_change w.val s).trans (if_neg ?_)))
    rintro ⟨h1, h2, h3⟩
    obtain h | h | h := h
    · omega
    · exact h2 h
    · exact h3 h
  · have hp := pcieDown_pcie s
    rw [if_pos hup] at hp
    exact ⟨_, act_live hl, (congrArg PcieSt.up hp :), (congrArg PcieSt.bme hp :), (pcieDown_memories s).2.2, pcieDown_event hup⟩
  · have hdown : pcieDown s = s := if_neg (by simp [hup])
    exact (act_live hl).trans (congrArg _ hdown)
  · obtain ⟨h1, h2, h3, h4, h5, h6, h7, h8, h9, h10, h11, h12⟩ := pcieReset_spec k.val s
    exact ⟨_, act_live hl, h1, h2, h3, h4, h5, h6, h7, h8, h9, h10, h11, h12⟩
  · have hwr := exec_cfg_write (be := be) (v := v) hl hb ho
    refine ⟨exec_cfg_read hl hb ho, fun e => ?_, fun e => ?_, fun e => ?_, fun e => ?_, fun e => ?_, fun e => ?_, fun e h15 => ?_, fun e h15 => ?_, fun e => ?_, fun h => ?_⟩
    · rw [e] at hw hwr
      exact ⟨_, hwr, cfgWrite_command be.val v w s hw⟩
    · rw [hwr, e, hw, e]
      rfl
    · rw [hwr, e, hw, e]
      rfl
    · rw [hwr, e, hw, e]
      rfl
    · rw [hwr, e, hw, e]
      rfl
    · rw [e] at hw hwr
      exact ⟨_, hwr, cfgWrite_power be.val v w s hw⟩
    · rw [e] at hw hwr
      rw [hwr, cfgWrite_device be.val v w s hw, h15]
      rfl
    · rw [e] at hw hwr
      have hspec := pcieReset_spec 1 { s with pcie := { s.pcie with devCtl := w.toNat % 2 ^ 15 } }
      refine ⟨_, hwr.trans (congrArg _ ((cfgWrite_device be.val v w s hw).trans (if_pos h15))), hspec.bme, hspec.bar0, hspec.bar2, ?_, hspec.sram, hspec.event⟩
      simpa using hspec.up
    · rw [hwr, e, hw, e]
      rfl
    · rw [hwr, cfgWrite_other be.val v s h]
  · obtain ⟨bits, op, addr, hpos, hm⟩ := qspiGo_starts (v := v) (back := bs) hq
    refine ⟨_, (act_live hr.1).trans (congrArg _ (onWrite_sound _ _ _ _ hr.2)), ?_, fun hwr => ?_, fun hrd => ?_⟩
    · rw [hm]
      dsimp only
      omega
    · rw [hm, if_pos ((qspiStored_WRITE v s).2 hwr), if_pos ((qspiStored_WRITE v s).2 hwr), hlen]
      exact ⟨rfl, op, addr, rfl⟩
    · rw [hm, if_neg (c := qspiCmd_WRITE (qspiStored v s) = 1) (by rw [qspiStored_WRITE, hrd]; decide), hlen]
  · exact ⟨_, (act_live hr.1).trans (congrArg _ (onWrite_sound _ _ _ _ hr.2)), qspiGo_busy hq⟩

end Sys2Proof.Machine
end

section
/-! SUPPORT. The budget governor (R428 to R433): what its decisions add to the grants in force, and what one request comes to. -/

namespace Sys2Proof.Machine

/-! ### The decisions' parts -/

theorem bgtGrant_bgt (r : BgtReq) (s : State) : ∃ num den, (bgtGrant r s).bgt = { s.bgt with
    queue := s.bgt.queue.erase r, grants := s.bgt.grants ++ [⟨r.kind, r.req, r.mw, s.st, r.dur, false⟩], granted := satInc 16 s.bgt.granted,
    accNum := num, accDen := den, outcome := 1, reason := 0, lastKind := r.kind, lastReq := r.req } := by
  refine ⟨(bgtCharge r.mw (bgtTake r s)).bgt.accNum, (bgtCharge r.mw (bgtTake r s)).bgt.accDen, ?_⟩
  unfold bgtGrant
  simp only [raiseIf_fields, raise_fields]
  rfl

theorem bgtRefuse_bgt (c : Nat) (r : BgtReq) (s : State) : (bgtRefuse c r s).bgt = { s.bgt with
    queue := s.bgt.queue.erase r, refused := satInc 16 s.bgt.refused, outcome := 3, reason := c, lastKind := r.kind, lastReq := r.req } := by
  unfold bgtRefuse
  simp only [raise_fields]
  rfl

theorem bgtEnqueue_bgt (r : BgtReq) (s : State) : (bgtEnqueue r s).bgt = { s.bgt with
    queue := s.bgt.queue.erase r ++ [{ r with queued := true }], outcome := 2, reason := 0, lastKind := r.kind, lastReq := r.req } := by
  unfold bgtEnqueue
  simp only [raise_fields]
  rfl

theorem bgtGrant_regs (r : BgtReq) (s : State) : (bgtGrant r s).regs = s.regs := by
  unfold bgtGrant
  simp only [raiseIf_fields, raise_fields]
  rfl

theorem bgtRefuse_regs (c : Nat) (r : BgtReq) (s : State) : (bgtRefuse c r s).regs = s.regs := by
  unfold bgtRefuse
  simp only [raise_fields]
  rfl

theorem bgtEnqueue_regs (r : BgtReq) (s : State) : (bgtEnqueue r s).regs = s.regs := by
  unfold bgtEnqueue
  simp only [raise_fields]
  rfl

theorem bgtGrant_events (r : BgtReq) (s : State) : bit ((bgtGrant r s).page pBGT).stat 0 = true ∧ (r.kind = 2 → bit ((bgtGrant r s).page pBGT).stat 5 = true) := by
  unfold bgtGrant
  exact ⟨raiseIf_stat_mono _ _ _ _ _ _ (raise_latched _ _ _ (by omega)), fun hk => raiseIf_latched _ _ _ (by omega) (decide_eq_true hk)⟩

theorem bgtRefuse_event (c : Nat) (r : BgtReq) (s : State) : bit ((bgtRefuse c r s).page pBGT).stat 2 = true := raise_latched _ _ _ (by omega)

theorem bgtEnqueue_event (r : BgtReq) (s : State) : bit ((bgtEnqueue r s).page pBGT).stat 1 = true := raise_latched _ _ _ (by omega)

theorem bgtBudget_congr {s t : State} (h : t.regs = s.regs) : bgtBudget_MW t = bgtBudget_MW s := by
  simp only [bgtBudget_MW, State.rw, h]

theorem bgtUsed_congr {s t : State} (h : t.bgt.grants = s.bgt.grants) : bgtUsed t = bgtUsed s := by rw [bgtUsed, h, bgtUsed]

theorem bgtUsed_append {s t : State} {g : BgtGrant} (h : t.bgt.grants = s.bgt.grants ++ [g]) : bgtUsed t = bgtUsed s + g.mw := by
  simp [bgtUsed, h]

/-! ### The grants of a tick (R430) -/

/-- The grants `new` that a tick adds to those of `s`, each within the budget with those before it, and the outcomes told. -/
structure BgtWithin (s : State) (new : List BgtGrant) (outs : List BgtOut) (u : State) : Prop where
  grants : u.bgt.grants = s.bgt.grants ++ new
  regs : u.regs = s.regs
  within : ∀ k, 0 < k → k ≤ new.length → bgtUsed s + ((new.take k).map (·.mw)).sum ≤ bgtBudget_MW s
  told : new.map (fun g => (g.kind, g.req)) = (outs.filter (·.granted)).map (fun o => (o.kind, o.req))

/-- A decision that grants nothing, told or not, before the others. -/
theorem BgtWithin.after_same {s t u : State} {new : List BgtGrant} {outs : List BgtOut} (h : BgtWithin t new outs u) (hg : t.bgt.grants = s.bgt.grants)
    (hr : t.regs = s.regs) (first : List BgtOut) (hf : ∀ o ∈ first, o.granted = false) : BgtWithin s new (first ++ outs) u where
  grants := h.grants.trans (by rw [hg])
  regs := h.regs.trans hr
  within k h0 hk := by
    rw [← bgtUsed_congr hg, ← bgtBudget_congr hr]
    exact h.within k h0 hk
  told := by
    rw [List.filter_append, List.filter_eq_nil_iff.2 fun o ho => by simp [hf o ho], List.nil_append]
    exact h.told

/-- A grant that fits before the others. -/
theorem BgtWithin.after_grant {s t u : State} {g : BgtGrant} {new : List BgtGrant} {outs : List BgtOut} (h : BgtWithin t new outs u)
    (hg : t.bgt.grants = s.bgt.grants ++ [g]) (hr : t.regs = s.regs) (hfit : bgtUsed s + g.mw ≤ bgtBudget_MW s) :
    BgtWithin s (g :: new) (⟨g.kind, g.req, true⟩ :: outs) u where
  grants := h.grants.trans (by rw [hg, List.append_assoc]; rfl)
  regs := h.regs.trans hr
  within k h0 hk := by
    obtain ⟨k, rfl⟩ := Nat.exists_eq_succ_of_ne_zero (Nat.ne_of_gt h0)
    have hused := bgtUsed_append hg
    simp only [List.take_succ_cons, List.map_cons, List.sum_cons]
    by_cases hk0 : k = 0
    · simpa [hk0] using hfit
    · have := h.within k (by omega) (by simpa using hk)
      rw [hused, bgtBudget_congr hr] at this
      omega
  told := by simpa using h.told

theorem bgtDecide_within : ∀ (l : List BgtReq) (held : Bool) (outs : List BgtOut) (s : State), ∃ outs' new,
    (bgtDecide l held outs s).1 = outs ++ outs' ∧ BgtWithin s new outs' (bgtDecide l held outs s).2
  | [], _, outs, s => ⟨[], [], by simp [bgtDecide], ⟨by simp [bgtDecide], rfl, fun k h0 hk => by simp at hk; omega, rfl⟩⟩
  | r :: t, held, outs, s => by
    unfold bgtDecide
    cases bgtBar s r with
    | some c =>
      obtain ⟨outs', new, h1, h2⟩ := bgtDecide_within t held (outs ++ [⟨r.kind, r.req, false⟩]) (bgtRefuse c r s)
      exact ⟨_, new, by rw [h1, List.append_assoc], h2.after_same (by rw [bgtRefuse_bgt]) (bgtRefuse_regs c r s) [⟨r.kind, r.req, false⟩] (by simp)⟩
    | none =>
      dsimp only
      split
      next hfit =>
        obtain ⟨outs', new, h1, h2⟩ := bgtDecide_within t false (outs ++ [⟨r.kind, r.req, true⟩]) (bgtGrant r s)
        obtain ⟨num, den, hb⟩ := bgtGrant_bgt r s
        simp only [bgtFits, Bool.and_eq_true, decide_eq_true_eq] at hfit
        exact ⟨_, ⟨r.kind, r.req, r.mw, s.st, r.dur, false⟩ :: new, by rw [h1, List.append_assoc]; rfl, h2.after_grant (by rw [hb]) (bgtGrant_regs r s) hfit.2.1⟩
      split
      · exact bgtDecide_within t true outs s
      split
      · obtain ⟨outs', new, h1, h2⟩ := bgtDecide_within t true (outs ++ [⟨r.kind, r.req, false⟩]) (bgtRefuse 2 r s)
        exact ⟨_, new, by rw [h1, List.append_assoc], h2.after_same (by rw [bgtRefuse_bgt]) (bgtRefuse_regs 2 r s) [⟨r.kind, r.req, false⟩] (by simp)⟩
      · obtain ⟨outs', new, h1, h2⟩ := bgtDecide_within t true outs (bgtEnqueue r s)
        exact ⟨outs', new, h1, h2.after_same (by rw [bgtEnqueue_bgt]) (bgtEnqueue_regs r s) [] (by simp)⟩

/-! ### A tick with one request due or none -/

theorem exec_bgtTick_due {s : State} (hl : s.supply.held = false) (hn : s.ns % 10000 = 0) :
    exec .bgtTick s = .next ((bgtRun s).1.foldl (fun a o => bgtTell o a) (bgtRun s).2) :=
  (act_live hl).trans (congrArg _ (if_pos hn))

theorem bgtRun_empty {s : State} (h : s.bgt.queue = []) : bgtRun s = ([], bgtDecay s) := by
  have hdue : bgtDue (bgtDecay s) = [] := by simp [bgtDue, bgtDecay, h, bgtSort]
  simp only [bgtRun, hdue, bgtDecide]

theorem bgtRun_one {s : State} {r : BgtReq} (h : s.bgt.queue = [r]) (ha : r.arr + 30 * usU ≤ s.st) : bgtRun s = bgtDecide [r] false [] (bgtDecay s) := by
  have hdue : bgtDue (bgtDecay s) = [r] := by simp [bgtDue, bgtDecay, h, ha, bgtSort, bgtInsert]
  simp only [bgtRun, hdue]

section
variable {s : State} {r : BgtReq} (h : s.bgt.queue = [r]) (ha : r.arr + 30 * usU ≤ s.st)
include h ha

theorem bgtRun_refused {c : Nat} (hb : bgtBar (bgtDecay s) r = some c) : bgtRun s = ([⟨r.kind, r.req, false⟩], bgtRefuse c r (bgtDecay s)) := by
  rw [bgtRun_one h ha, bgtDecide, hb]
  rfl

theorem bgtRun_granted (hb : bgtBar (bgtDecay s) r = none) (hf : bgtFits (bgtDecay s) r = true) :
    bgtRun s = ([⟨r.kind, r.req, true⟩], bgtGrant r (bgtDecay s)) := by
  rw [bgtRun_one h ha, bgtDecide, hb]
  simp only [hf, Bool.not_false, Bool.and_self, if_true]
  rfl

theorem bgtRun_waits (hb : bgtBar (bgtDecay s) r = none) (hf : bgtFits (bgtDecay s) r = false) :
    bgtRun s = ([], if r.queued then bgtDecay s else bgtEnqueue r (bgtDecay s)) := by
  rw [bgtRun_one h ha, bgtDecide, hb]
  simp only [hf, Bool.and_false, Bool.false_eq_true, if_false]
  cases hq : r.queued with
  | true => rfl
  | false =>
    have hlev : ¬ 32 ≤ bgtLevel (bgtDecay s) := by simp [bgtLevel, bgtDecay, h, hq]
    rw [if_neg (by simp), if_neg hlev]
    rfl

end

/-! ### BGT_USED (R430) -/

theorem busRead_bgtUsed {s : State} (src : Nat) (h : s.accessFault 0x3110 = none) (hu : bgtUsed s < 2 ^ 16) :
    busRead src 0x3110 s = s.answer (word ((s.bgt.grants.map (·.mw)).sum)) := by
  have hread : readEffect src 0x3110 s = s.answer (word (satU 16 (bgtUsed s))) := rfl
  rw [busRead_reg src _ s h, hread, satU, Nat.min_eq_left (by omega)]
  rfl

/-- Settles O4: the grants of a tick by induction on the requests due, BGT_USED read, and one request too big for the budget. -/
theorem budgetRule : Obligations.BudgetRule := by
  refine ⟨fun s hl hn => ?_, fun s src hr hu => busRead_bgtUsed src.code hr.2 hu, fun s r hl hn hq ha h3 h4 h2 hto hbig => ?_⟩
  · obtain ⟨outs, new, h1, h2⟩ := bgtDecide_within (bgtDue (bgtDecay s)) false [] (bgtDecay s)
    exact ⟨_, _, new, rfl, exec_bgtTick_due hl hn, h2.grants, bgtBudget_congr h2.regs, h2.within, by rw [h1]; exact h2.told⟩
  · have hbar : bgtBar (bgtDecay s) r = some 1 := by
      have hnot : (r.queued && decide (r.arr + bgtWait s r ≤ s.st)) = false := by
        cases hqd : r.queued with
        | true => simpa using hto hqd
        | false => rfl
      change (if s.pwr.state = 3 ∨ s.pwr.state = 4 ∨ (s.pwr.state = 2 ∧ (r.kind = 5 ∨ r.kind = 6)) then some 4
        else if r.queued && decide (r.arr + bgtWait s r ≤ s.st) then some 3 else if bgtBudget_MW s < r.mw then some 1 else none) = some 1
      rw [if_neg (by tauto), hnot, if_neg (by decide), if_pos hbig]
    have hrun := bgtRun_refused hq ha hbar
    have hb := bgtRefuse_bgt 1 r (bgtDecay s)
    refine ⟨_, hrun, by rw [exec_bgtTick_due hl hn, hrun]; rfl, ?_, by rw [hb]; rfl, by rw [hb], by rw [hb], by rw [hb], by rw [hb], bgtRefuse_event ..⟩
    rw [hb]
    simp [bgtDecay, hq]

/-! ### Overrun and the standing grant (R432, R433) -/

/-- Whether a grant of a requester has run past its declared duration for the first time. -/
def bgtOver (kind req : Nat) (s : State) (g : BgtGrant) : Bool :=
  decide (g.kind = kind ∧ g.req = req ∧ g.kind ≠ 1) && !g.overrun && (match g.dur with | some d => decide (g.start + d * msU ≤ s.st) | none => false)

theorem bgtOverrun_eq (kind req : Nat) (s : State) : bgtOverrun kind req s = match s.bgt.grants.find? (bgtOver kind req s) with
    | some g => raise pBGT 3 (bgtLast 4 0 ⟨kind, req, g.mw, g.dur, g.start, none, true⟩
        { s with bgt := { s.bgt with grants := s.bgt.grants.map (fun x => if bgtOver kind req s x then { x with overrun := true } else x) } })
    | none => s := rfl

theorem bgtOver_iff {kind req : Nat} {s : State} {g : BgtGrant} : bgtOver kind req s g = true ↔
    (g.kind = kind ∧ g.req = req ∧ kind ≠ 1) ∧ g.overrun = false ∧ ∃ d, g.dur = some d ∧ g.start + d * msU ≤ s.st := by
  unfold bgtOver
  cases hd : g.dur with
  | none => simp
  | some d =>
    simp only [Bool.and_eq_true, decide_eq_true_eq, Bool.not_eq_true', Option.some.injEq, exists_eq_left']
    constructor
    · rintro ⟨⟨⟨h1, h2, h3⟩, h4⟩, h5⟩
      exact ⟨⟨h1, h2, h1 ▸ h3⟩, h4, h5⟩
    · rintro ⟨⟨h1, h2, h3⟩, h4, h5⟩
      exact ⟨⟨⟨h1, h2, h1 ▸ h3⟩, h4⟩, h5⟩

/-- A grant's overrun keeps every grant's P, and marks all that are over. -/
theorem bgtOverrun_over {kind req : Nat} {s : State} {g : BgtGrant} (hg : g ∈ s.bgt.grants) (ho : bgtOver kind req s g = true) :
    bgtUsed (bgtOverrun kind req s) = bgtUsed s ∧ (bgtOverrun kind req s).bgt.outcome = 4 ∧ bit ((bgtOverrun kind req s).page pBGT).stat 3 = true ∧
      (bgtOverrun kind req s).bgt.grants = s.bgt.grants.map (fun x => if bgtOver kind req s x then { x with overrun := true } else x) := by
  rw [bgtOverrun_eq]
  cases hf : s.bgt.grants.find? (bgtOver kind req s) with
  | none => exact absurd ho (List.find?_eq_none.1 hf g hg)
  | some x =>
    have hmw : (s.bgt.grants.map (fun x => if bgtOver kind req s x then { x with overrun := true } else x)).map (·.mw) = s.bgt.grants.map (·.mw) := by
      rw [List.map_map]
      refine List.map_congr_left fun x _ => ?_
      simp only [Function.comp_apply]
      split <;> rfl
    exact ⟨by simp [bgtUsed, bgtLast, ← hmw], by simp [bgtLast], raise_latched _ _ _ (by omega), by simp [bgtLast]⟩

theorem bgtOverrun_idle {kind req : Nat} {s : State} (h : ∀ g ∈ s.bgt.grants, ¬ bgtOver kind req s g = true) : bgtOverrun kind req s = s := by
  rw [bgtOverrun_eq, List.find?_eq_none.2 h]

theorem exec_bgtCmdReserve {s : State} (src : Src) (h : s.reaches 0x3120) : exec (.bgtCmdReserve src) s = .next (bgtReserve s) :=
  act_busWrite src.code 1 h (by omega)

theorem exec_bgtCmdRelease {s : State} (src : Src) (h : s.reaches 0x3120) : exec (.bgtCmdRelease src) s = .next (bgtReleaseExc s) :=
  act_busWrite src.code 2 h (by omega)

theorem bgtReleaseExc_bgt (s : State) : (bgtReleaseExc s).bgt = (bgtDrop 2 0 s).bgt := by
  unfold bgtReleaseExc
  simp only [raiseIf_fields]

/-- Settles O54: asking, a tick by the queue it finds, overruns, and the standing grant's two operations. -/
theorem governor : Obligations.Governor := by
  refine ⟨fun s k r mw d w hl => ⟨fun h1 h6 hh hq => ?_, fun h => ?_⟩, fun s hl => ⟨fun hn => ?_, fun hn => ⟨fun hq => ?_, fun r hq hk ha => ⟨fun hb hf => ?_, fun c hb => ?_, fun hb hf => ?_⟩⟩⟩,
    fun s k r d g hl hg hk h1 hr ho hd ht => ?_, fun s k r hl h => ?_, fun s src hr => ⟨fun hh hq => ?_, fun h => ?_, ?_⟩⟩
  · refine (act_live hl).trans (congrArg _ (if_neg ?_))
    simp only [hh, hq, Bool.false_eq_true, or_false]
    omega
  · refine (act_live hl).trans (congrArg _ (if_pos ?_))
    have := k.isLt
    obtain h | h | h | h := h
    · exact .inl h
    · exact .inr (.inl (by omega))
    · exact .inr (.inr (.inl h))
    · exact .inr (.inr (.inr h))
  · exact (act_live hl).trans (congrArg _ (if_neg hn))
  · have hex : exec .bgtTick s = .next (bgtDecay s) := by
      rw [exec_bgtTick_due hl hn, bgtRun_empty hq]
      rfl
    exact ⟨_, hex, rfl, Nat.sub_le _ _, rfl⟩
  · have hrun := bgtRun_granted hq ha hb hf
    obtain ⟨num, den, hbgt⟩ := bgtGrant_bgt r (bgtDecay s)
    obtain ⟨he0, he5⟩ := bgtGrant_events r (bgtDecay s)
    have hex : exec .bgtTick s = .next (bgtGrant r (bgtDecay s)) := by
      rw [exec_bgtTick_due hl hn, hrun]
      simp [bgtTell, hk]
    refine ⟨_, hex, by rw [hbgt]; simp [bgtDecay, hq], by rw [hbgt, hk]; rfl, ?_, he0, he5 hk⟩
    exact bgtUsed_append (s := s) (g := ⟨r.kind, r.req, r.mw, s.st, r.dur, false⟩) (by rw [hbgt]; rfl)
  · have hrun := bgtRun_refused hq ha hb
    have hbgt := bgtRefuse_bgt c r (bgtDecay s)
    have hex : exec .bgtTick s = .next (bgtRefuse c r (bgtDecay s)) := by
      rw [exec_bgtTick_due hl hn, hrun]
      simp [bgtTell, hk]
    exact ⟨_, hex, by rw [hbgt]; simp [bgtDecay, hq], by rw [hbgt]; rfl, by rw [hbgt], by rw [hbgt], by rw [hbgt]; rfl, bgtRefuse_event ..⟩
  · have hex : exec .bgtTick s = .next (if r.queued then bgtDecay s else bgtEnqueue r (bgtDecay s)) := by
      rw [exec_bgtTick_due hl hn, bgtRun_waits hq ha hb hf]
      rfl
    have hbgt := bgtEnqueue_bgt r (bgtDecay s)
    refine ⟨_, hex, ?_, ?_, fun hnq => ?_⟩
    · cases hqd : r.queued with
      | true =>
        rw [if_pos rfl]
        change s.bgt.queue = _
        rw [hq]
        cases r
        simp_all
      | false =>
        rw [if_neg (by decide), hbgt]
        simp [bgtDecay, hq]
    · split
      · rfl
      · rw [hbgt]
        rfl
    · rw [if_neg (by simp [hnq])]
      exact ⟨by rw [hbgt], bgtEnqueue_event ..⟩
  · have hover : bgtOver k.val r s g = true := bgtOver_iff.2 ⟨⟨hk, hr, h1⟩, ho, d, hd, ht⟩
    obtain ⟨hu, hout, hev, hgr⟩ := bgtOverrun_over hg hover
    refine ⟨_, act_live hl, hu, hout, hev, fun x hx hxk hxr e he hle => ?_⟩
    rw [hgr] at hx
    obtain ⟨y, -, rfl⟩ := List.mem_map.1 hx
    by_cases hy : bgtOver k.val r s y = true
    · rw [if_pos hy]
    · rw [if_neg hy] at hxk hxr he hle ⊢
      by_contra hfalse
      exact hy (bgtOver_iff.2 ⟨⟨hxk, hxr, h1⟩, by simpa using hfalse, e, he, hle⟩)
  · refine (act_live hl).trans (congrArg _ (bgtOverrun_idle fun g hg hover => ?_))
    obtain ⟨⟨hk, hr, h1⟩, ho, d, hd, ht⟩ := bgtOver_iff.1 hover
    obtain h | h | h := h g hg hk hr
    · exact h1 h
    · simp [ho] at h
    · have := h d hd
      omega
  · exact (exec_bgtCmdReserve src hr).trans (congrArg _ (if_neg (by simp [hh, hq])))
  · exact (exec_bgtCmdReserve src hr).trans (congrArg _ (if_pos (by simpa using h)))
  · have hb := bgtReleaseExc_bgt s
    refine ⟨_, exec_bgtCmdRelease src hr, ?_, ?_, fun hh => ?_, fun hh => ?_⟩
    · rw [bgtHas, hb]
      simp only [bgtDrop, bgtRelease, bgtWithdraw, List.any_eq_false, List.mem_filter]
      exact fun g ⟨_, hg⟩ => by simpa [imp_iff_not_or] using hg
    · rw [bgtAsking, hb]
      simp only [bgtDrop, bgtRelease, bgtWithdraw, List.any_eq_false, List.mem_filter]
      exact fun g ⟨_, hg⟩ => by simpa [imp_iff_not_or] using hg
    · exact raiseIf_latched _ _ _ (by omega) hh
    · unfold bgtReleaseExc
      rw [hh]
      rfl

end Sys2Proof.Machine
end

section
/-! SUPPORT. What the copied reserve and external memory's self-refresh leave of the hub at large (R291, R318, R423). -/

namespace Sys2Proof.Machine

variable {P : State → Prop}

section
variable (hP : SideInv P)
include hP

/-! ### The reserve copied -/

theorem SideInv.overwritten (n : Nat) (p : Pkt) {s : State} (h : P s) : P (overwritten n p s) := by
  have hgap := hP.raise pQUE 3 (hP.setStr n { s.str n with gapNext := true } h)
  exact keeps_ite h (keeps_ite hgap (hP.rangeEntry _ _ _ _ _ _ hgap))

theorem SideInv.putRing (base r : Nat) : ∀ (ws : List Word) (ofs : Nat) {s : State}, P s → P (putRing base r ofs ws s)
  | [], _, _, h => h
  | _ :: ws, _, _, h => SideInv.putRing base r ws _ (hP.setDramW _ _ h)

theorem SideInv.regionPut (n : Nat) (p : Pkt) (ws : List Word) {s : State} (h : P s) : P (regionPut n p ws s) := by
  unfold Machine.regionPut
  dsimp only
  split
  · exact h
  split
  · exact keeps_ite (hP.setStr _ _ h) (hP.rangeEntry _ _ _ _ _ _ (hP.setStr _ _ h))
  · exact hP.setStr _ _ (hP.putRing _ _ _ _ (foldl_keeps P _ (fun _ _ ha => hP.overwritten _ _ ha) _ s h))

theorem SideInv.copyReserve {s : State} (h : P s) : P (copyReserve s) := by
  refine foldl_keeps P _ (fun _ _ ha => keeps_ite ha (foldl_keeps P _ (fun _ _ hb => hP.regionPut _ _ _ hb) _ _ (hP.setStr _ _ ha))) _ _ ?_
  exact foldl_keeps P _ (fun _ _ ha => hP.ledgerRing _ ha) _ _ (hP.same h (by and_intros <;> rfl))

/-! ### Self-refresh entered -/

theorem SideInv.dram (d : DramSt) {s : State} (h : P s) : P { s with dram := d } := hP.same h (by and_intros <;> rfl)

theorem SideInv.eccRead (a : Nat) {s : State} (h : P s) : P (eccRead a s) := by
  refine keeps_ite ?_ (keeps_ite ?_ h)
  · exact hP.raise _ _ (hP.dram _ h)
  · exact hP.raise _ _ (hP.dram _ h)

theorem SideInv.doWrite (r : DrReq) {s : State} (h : P s) : P (doWrite r s) := by
  have hread : P ((beats r.addr).foldl (fun t x => Machine.eccRead x t) s) := foldl_keeps P _ (fun _ x ha => hP.eccRead x ha) _ s h
  refine foldl_keeps P _ (fun a i ha => keeps_ite ha (keeps_ite (hP.setDramW _ _ ha) ?_)) _ _ (keeps_ite (hP.dram _ hread) h)
  exact foldl_keeps P _ (fun b j hb => keeps_ite (hP.same hb (by and_intros <;> rfl)) hb) _ _ ha

theorem SideInv.drainWq : ∀ (n : Nat) {s : State}, P s → P (drainWq n s)
  | 0, _, h => h
  | n + 1, s, h => by
    unfold Machine.drainWq
    split
    · exact h
    · exact SideInv.drainWq n (hP.doWrite _ (hP.dram _ h))

theorem SideInv.drSrEnter {s : State} (h : P s) : P (drSrEnter s) :=
  keeps_ite (hP.raise _ _ (hP.dram _ (hP.drainWq s.dram.wq.length h))) h

end

theorem DomInvAt.srEnter (hP : DomInvAt 18 P) {s : State} (h : P s) : P (srEnter s) := by
  have hentered : P (if s.dram.st = 2 then drSrEnter s else raise pDRAM 6 { s with dram := { s.dram with selfref := true } }) :=
    keeps_ite (hP.side.drSrEnter h) (hP.side.raise _ _ (hP.side.dram _ h))
  exact keeps_ite (keeps_ite (hP.domSet _ hentered) hentered) h

theorem DomInvAt.moveSr (hP : DomInvAt 18 P) {s : State} (h : P s) : P (moveSr s) := hP.srEnter (hP.dom _ h)

/-! ### A domain's state, the registers, and the hub state a move returns to, as invariants -/

theorem HubInv.and {Q : State → Prop} (hP : HubInv P) (hQ : HubInv Q) : HubInv (fun s => P s ∧ Q s) where
  latch p b h := ⟨hP.latch p b h.1, hQ.latch p b h.2⟩
  wake h := ⟨hP.wake h.1, hQ.wake h.2⟩
  same h e := ⟨hP.same h.1 e, hQ.same h.2 e⟩

theorem dom_of_doms {s t : State} (h : t.pwr.doms = s.pwr.doms) (d : Nat) : t.dom d = s.dom d := by simp [State.dom, h]

theorem dom_inv (d : Nat) (x : DomSt) : MittInv (fun s => s.dom d = x) where
  latch _ _ h := (dom_of_doms (by simp) d).trans h
  wake h := (dom_of_doms (wakeHub_doms _) d).trans h
  same h e := (dom_of_doms (by rw [e.2.2.2.1]) d).trans h
  mitt _ _ h := h

theorem regs_inv (r : Tbl Word) : HubInv (fun s => s.regs = r) where
  latch _ _ h := by simpa using h
  wake h := by simpa using h
  same h e := e.2.2.2.2.2.1.trans h

/-- The hub is in state `k`, or a move under way would return it there. -/
def State.backIn (k : Nat) (s : State) : Prop := s.pwr.state = k ∧ ∀ m, s.pwr.move = some m → 2 ≤ m.target → m.old = k

theorem backIn_congr {k : Nat} {s t : State} (h : s.backIn k) (he : t.pwr = s.pwr) : t.backIn k := by
  unfold State.backIn
  rw [he]
  exact h

theorem wakeHub_backIn {k : Nat} {s : State} (h : s.backIn k) : (wakeHub s).backIn k := by
  obtain ⟨hk, hm⟩ := h
  unfold wakeHub
  cases hmv : s.pwr.move with
  | some m =>
    dsimp only
    split
    next ht => exact ⟨by simpa using hm m hmv (by omega), fun m' hm' => by simp at hm'⟩
    next => exact ⟨hk, hm⟩
  | none =>
    dsimp only
    split
    · refine ⟨by simpa using hk, fun m' hm' ht => ?_⟩
      simp only [latch_pwr, Option.some.injEq] at hm'
      subst hm'
      have := wakeTarget_lt s
      dsimp only at ht
      omega
    · exact ⟨hk, hm⟩

theorem backIn_inv (k : Nat) : HubInv (State.backIn k) where
  latch p b h := backIn_congr h (latch_pwr p b _)
  wake h := wakeHub_backIn h
  same h e := backIn_congr h e.2.2.2.1

end Sys2Proof.Machine
end

section
/-! SUPPORT. The power domains (R416 to R418): REQ, a wait that ends, and a domain that goes down or arrives. -/

namespace Sys2Proof.Machine

/-! ### A domain set, down and up -/

theorem domSet_dom (d st : Nat) (s : State) : (domSet d st s).dom d = { s.dom d with st := st, waking := none, toSr := false } :=
  (dom_inv d _).side.raiseIf _ _ _ (by simp)

theorem bootStart_dom {d : Nat} {x : DomSt} {s : State} (h : s.dom d = x) : (bootStart s).dom d = x :=
  (dom_of_doms (by rw [bootStart_pwr]) d).trans h

theorem domDown_dom (d st : Nat) (s : State) : ((domDown d st s).dom d).st = st ∧ ((domDown d st s).dom d).waking = none := by
  have h := (dom_inv d _).domDown_of st (domSet_dom d st (if d = 17 ∨ d = 31 then dmaPwrEnd d (dmaPwrAsk d s) else s))
  rw [h]
  exact ⟨rfl, rfl⟩

theorem domUp_dom (d : Nat) (s : State) : ((domUp d s).dom d).st = (if d = 17 ∧ s.pwr.state = 2 then 1 else 0) ∧ ((domUp d s).dom d).waking = none := by
  have h := (dom_inv d _).domUp_of bootStart_dom (domSet_dom d (if d = 17 ∧ s.pwr.state = 2 then 1 else 0) s)
  rw [h]
  exact ⟨rfl, rfl⟩

/-- A request refused leaves its domain as it is but for the wait, and the registers. -/
theorem pwrDenied_keeps (d : Nat) (s : State) : (pwrDenied d s).dom d = { s.dom d with waiting := none } ∧ (pwrDenied d s).regs = s.regs := by
  have hP := (dom_inv d { s.dom d with waiting := none }).toHubInv.and (regs_inv s.regs)
  exact hP.side.raise _ _ (hP.side.dmaPwrFree _ _ ⟨by simp, rfl⟩)

/-! ### REQ (R417, R418) -/

theorem regEffect_domCtl (src : Nat) (v : Word) (s : State) (d : Fin 33) : regEffect src (0x2200 + 4 * d.val) v s = domCtl d.val v s := by
  have hblock : blockOf 2 = some 0x02 := by decide
  rw [regEffect, show (0x2200 + 4 * d.val) / 0x1000 = 2 by omega, show (0x2200 + 4 * d.val) % 0x1000 = 0x200 + 4 * d.val by omega, hblock]
  show wPWR src _ v s = _
  rw [wPWR, if_neg (by omega), if_pos (by omega), show (0x200 + 4 * d.val - 0x200) / 4 = d.val by omega]

theorem exec_pwrDomCtlWrite {s : State} {src : Src} {d : Fin 33} {r : Fin 4} (h : s.reaches (0x2200 + 4 * d.val)) :
    exec (.pwrDomCtlWrite src d r) s = .next (domCtl d.val (word r.val) s) := by
  have hact : exec (.pwrDomCtlWrite src d r) s = act (fun s => busWrite src.code (0x2200 + 4 * d.val) (word r.val) s) s := rfl
  rw [hact, act_live h.1, busWrite_reg _ _ _ _ h.2 (by omega), regEffect_domCtl]

theorem fld_req (r : Fin 4) : fld (word r.val) 1 0 = r.val := by revert r; decide
theorem place_req (r : Fin 4) : place 1 0 r.val = word r.val := by revert r; decide

section
variable {s : State} {d : Nat} {r : Fin 4} (hd : d ≠ 0)
include hd

theorem domCtl_up (hr : r.val ≠ 2) : domCtl d (word r.val) s = if (s.dom d).waiting.isSome then
    dmaPwrFree d false ((s.setRw (pwrDomCtlAt d) (word r.val)).setDom d { (s.setRw (pwrDomCtlAt d) (word r.val)).dom d with waiting := none })
    else s.setRw (pwrDomCtlAt d) (word r.val) := by
  unfold domCtl
  simp only [fld_req, place_req, if_neg hd, if_pos hr]

theorem domCtl_off_idle (hr : r.val = 2) (h : s.pwr.state = 4 ∨ (s.dom d).waiting.isSome) : domCtl d (word r.val) s = s := by
  unfold domCtl
  simp only [fld_req]
  rw [if_neg hd, if_neg (by simpa using hr), if_pos h]

/-- OFF of a domain that may go down: by what holds it. -/
theorem domCtl_off (hr : r.val = 2) (h4 : s.pwr.state ≠ 4) (hw : (s.dom d).waiting = none) : domCtl d (word r.val) s =
    if (holders s d).loop || (holders s d).other then pwrDenied d s
    else if (holders s d).any then
      (if (holders s d).dma then dmaPwrAsk d (raise pPWR 5 (s.setDom d { s.dom d with waiting := some (s.clk, 2) }))
        else raise pPWR 5 (s.setDom d { s.dom d with waiting := some (s.clk, 2) }))
    else if (s.dom d).st = 4 ∨ (d = 18 ∧ (s.dom d).st = 3) then s.setRw (pwrDomCtlAt d) 2 else domTo d 4 (s.setRw (pwrDomCtlAt d) 2) := by
  unfold domCtl
  simp only [fld_req]
  rw [if_neg hd, if_neg (by simpa using hr), if_neg (by simp [h4, hw])]

end

/-- External memory asked into self-refresh keeps its state. -/
theorem domTo_dram (st : Nat) (s : State) : ((domTo 18 st s).dom 18).toSr = true ∧ ((domTo 18 st s).dom 18).st = (s.dom 18).st := by
  have hP := dom_inv 18 { s.dom 18 with toSr := true, waking := none }
  have h : (domTo 18 st s).dom 18 = { s.dom 18 with toSr := true, waking := none } := hP.side.dmaPwrEnd _ (hP.side.dmaPwrAsk _ (by simp))
  rw [h]
  exact ⟨rfl, rfl⟩

theorem domTo_other {d : Nat} (st : Nat) (s : State) (hd : d ≠ 18) : domTo d st s = domDown d st s := if_neg hd

/-- A wait has begun for domain `d`, with its event. -/
def State.waitsFor (d : Nat) (s t : State) : Prop :=
  (t.dom d = { s.dom d with waiting := some (s.clk, 2) } ∧ t.regs = s.regs) ∧ bit (t.page pPWR).stat 5 = true

theorem domWait_begun (d : Nat) (b : Bool) (s : State) :
    s.waitsFor d (if b then dmaPwrAsk d (raise pPWR 5 (s.setDom d { s.dom d with waiting := some (s.clk, 2) }))
      else raise pPWR 5 (s.setDom d { s.dom d with waiting := some (s.clk, 2) })) := by
  have hkept : HubInv (fun t => t.dom d = { s.dom d with waiting := some (s.clk, 2) } ∧ t.regs = s.regs) := (dom_inv d _).toHubInv.and (regs_inv s.regs)
  have hraise : s.waitsFor d (raise pPWR 5 (s.setDom d { s.dom d with waiting := some (s.clk, 2) })) :=
    ⟨hkept.side.raise pPWR 5 ⟨by simp, rfl⟩, raise_latched _ _ _ (by omega)⟩
  have hP : HubInv (s.waitsFor d) := hkept.and (latched_inv pPWR 5).toHubInv
  exact keeps_ite (hP.side.dmaPwrAsk d hraise) hraise

/-! ### A move refused (R418, R420) -/

/-- A refusal of a hub state that takes no move leaves the state, with the reason. -/
theorem pwrRej_stays {k r0 : Nat} (r : Nat) {s : State} (h : s.staysIn k r0) : (pwrRej r s).staysIn k r ∧ bit ((pwrRej r s).page pPWR).stat 3 = true := by
  obtain ⟨hk, -, hm⟩ := h
  exact ⟨(staysIn_inv k r).side.raise _ _ ⟨hk, rfl, hm⟩, raise_latched _ _ _ (by omega)⟩

/-- A move denied: the state it began in, reason 9, and both events. -/
theorem moveDeny_spec (s : State) : (moveDeny s).pwr.rej = 9 ∧ (moveDeny s).pwr.state = s.pwr.state ∧ bit ((moveDeny s).page pPWR).stat 2 = true ∧
    bit ((moveDeny s).page pPWR).stat 3 = true := by
  have hP := (staysIn_inv s.pwr.state s.pwr.rej).side
  have hstay : State.staysIn s.pwr.state s.pwr.rej (raise pPWR 2 (dmaPwrFree 17 false (dmaPwrFree 18 false { s with pwr := { s.pwr with move := none } }))) :=
    hP.raise _ _ (hP.dmaPwrFree _ _ (hP.dmaPwrFree _ _ ⟨rfl, rfl, fun m hm => by simp at hm⟩))
  obtain ⟨⟨hst, hrej, -⟩, h3⟩ := pwrRej_stays 9 hstay
  exact ⟨hrej, hst, moveDeny_latched s, h3⟩

/-! ### The obligation -/

/-- Settles O53: REQ by what it asks and what holds the domain, a wait that ends, and an arrival. -/
theorem powerDomains : Obligations.PowerDomains := by
  refine ⟨fun s src d r hr => ⟨fun hd => ?_, fun hd hreq hw => ?_, fun hd hreq hw => ?_, fun hd hreq h => ?_, fun hd hreq h4 hw => ⟨fun hh => ?_, fun hh hst => ?_, fun h18 hh hst => ?_, fun h18 hh hst => ?_, fun hh ha => ?_⟩⟩,
    fun s d hl => ⟨fun a x hw => ⟨fun ht => ?_, fun ht => ?_⟩, fun hw hm => ?_, fun m hw hm => ⟨fun h2 hwt ht => ?_, fun h => ?_⟩⟩,
    fun s d hl => ⟨fun a hw ht h18 => ?_, fun h => ?_⟩⟩
  · refine (exec_pwrDomCtlWrite hr).trans (congrArg _ ?_)
    unfold domCtl
    dsimp only
    rw [if_pos hd]
  · refine (exec_pwrDomCtlWrite hr).trans (congrArg _ ?_)
    rw [domCtl_up hd hreq, if_neg (by simp [hw])]
  · refine ⟨_, (exec_pwrDomCtlWrite hr).trans (congrArg _ ((domCtl_up hd hreq).trans (if_pos hw))), ?_⟩
    have hP := (dom_inv d.val { s.dom d.val with waiting := none }).toHubInv.and (regs_inv (s.setRw (pwrDomCtlAt d.val) (word r.val)).regs)
    obtain ⟨h1, h2⟩ := hP.side.dmaPwrFree d.val false (s := (s.setRw (pwrDomCtlAt d.val) (word r.val)).setDom d.val
      { (s.setRw (pwrDomCtlAt d.val) (word r.val)).dom d.val with waiting := none }) ⟨by simp, rfl⟩
    exact ⟨by rw [h1], by rw [h1], h2⟩
  · exact (exec_pwrDomCtlWrite hr).trans (congrArg _ (domCtl_off_idle hd hreq h))
  · obtain ⟨h1, h2⟩ := pwrDenied_keeps d.val s
    exact ⟨_, (exec_pwrDomCtlWrite hr).trans (congrArg _ ((domCtl_off hd hreq h4 hw).trans (if_pos hh))), h2, by rw [h1], pwrDenied_latched d.val s⟩
  · have hlo : ¬ ((holders s d.val).loop || (holders s d.val).other) = true := by
      simp only [Holders.any, Bool.or_eq_false_iff] at hh
      simp [hh]
    refine (exec_pwrDomCtlWrite hr).trans (congrArg _ ((domCtl_off hd hreq h4 hw).trans ?_))
    rw [if_neg hlo, if_neg (by simp [hh]), if_pos hst]
  · have hlo : ¬ ((holders s d.val).loop || (holders s d.val).other) = true := by
      simp only [Holders.any, Bool.or_eq_false_iff] at hh
      simp [hh]
    have heq : domCtl d.val (word r.val) s = domDown d.val 4 (s.setRw (pwrDomCtlAt d.val) 2) := by
      rw [domCtl_off hd hreq h4 hw, if_neg hlo, if_neg (by simp [hh]), if_neg (by simp [hst, h18]), domTo_other 4 _ h18]
    exact ⟨_, (exec_pwrDomCtlWrite hr).trans (congrArg _ heq), domDown_dom d.val 4 _⟩
  · have hlo : ¬ ((holders s d.val).loop || (holders s d.val).other) = true := by
      simp only [Holders.any, Bool.or_eq_false_iff] at hh
      simp [hh]
    have heq : domCtl d.val (word r.val) s = domTo d.val 4 (s.setRw (pwrDomCtlAt d.val) 2) := by
      rw [domCtl_off hd hreq h4 hw, if_neg hlo, if_neg (by simp [hh]), if_neg (by omega)]
    refine ⟨_, (exec_pwrDomCtlWrite hr).trans (congrArg _ heq), ?_⟩
    rw [h18]
    exact domTo_dram 4 _
  · have hwait := domWait_begun d.val (holders s d.val).dma s
    refine ⟨_, (exec_pwrDomCtlWrite hr).trans (congrArg _ ((domCtl_off hd hreq h4 hw).trans ((if_neg (by simp [hh])).trans (if_pos ha)))), ?_⟩
    obtain ⟨⟨h1, h2⟩, h3⟩ := hwait
    exact ⟨by rw [h1], by rw [h1], h2, h3⟩
  · obtain ⟨h1, -⟩ := pwrDenied_keeps d.val s
    have heq : pwrWaitEnd d.val s = pwrDenied d.val s := by
      unfold pwrWaitEnd
      dsimp only
      rw [hw]
      exact if_pos ht
    exact ⟨_, (act_live hl).trans (congrArg _ heq), by rw [h1], by rw [h1], pwrDenied_latched d.val s⟩
  · refine (act_live hl).trans (congrArg _ ?_)
    unfold pwrWaitEnd
    dsimp only
    rw [hw]
    exact if_neg (by omega)
  · refine (act_live hl).trans (congrArg _ ?_)
    unfold pwrWaitEnd
    dsimp only
    rw [hw, hm]
  · obtain ⟨h1, h2', h3, -⟩ := moveDeny_spec s
    have heq : pwrWaitEnd d.val s = moveDeny s := by
      unfold pwrWaitEnd
      dsimp only
      rw [hw, hm]
      exact if_pos ⟨h2, hwt, ht⟩
    exact ⟨_, (act_live hl).trans (congrArg _ heq), h1, h2', h3⟩
  · refine (act_live hl).trans (congrArg _ ?_)
    unfold pwrWaitEnd
    dsimp only
    rw [hw, hm]
    refine if_neg fun ⟨h2, hwt, ht⟩ => ?_
    obtain h | h | h := h
    · omega
    · simp [h] at hwt
    · omega
  · have heq : domArrive d.val s = domUp d.val s := by
      unfold domArrive
      rw [hw]
      exact if_pos ⟨ht, h18⟩
    exact ⟨_, (act_live hl).trans (congrArg _ heq), domUp_dom d.val s⟩
  · refine (act_live hl).trans (congrArg _ ?_)
    unfold domArrive
    split
    next t ht =>
      refine if_neg fun ⟨hle, h18⟩ => ?_
      obtain h | h | ⟨a, ha, hlt⟩ := h
      · simp [ht] at h
      · exact h18 h
      · simp only [ht, Option.some.injEq] at ha
        omega
    · rfl

end Sys2Proof.Machine
end

section
/-! SUPPORT. The hub states (R419 to R427): PWR_CMD, the moves' ends, and the choice made every microsecond. -/

namespace Sys2Proof.Machine

/-! ### PWR_CMD (R420, R424) -/

theorem exec_pwrCmd {s : State} {src : Src} {i : Instr} {k : Nat} (h : s.reaches 0x2108)
    (hi : (i, k) ∈ [(Instr.pwrCmdRun src, 0), (.pwrCmdTrim src, 1), (.pwrCmdVigil src, 2), (.pwrCmdDormant src, 3)]) :
    k < 4 ∧ exec i s = .next (pwrCmd k s) := by
  simp only [List.mem_cons, Prod.mk.injEq, List.not_mem_nil, or_false] at hi
  obtain ⟨rfl, rfl⟩ | ⟨rfl, rfl⟩ | ⟨rfl, rfl⟩ | ⟨rfl, rfl⟩ := hi
  · exact ⟨by omega, act_busWrite src.code 0 h (by omega)⟩
  · exact ⟨by omega, act_busWrite src.code 1 h (by omega)⟩
  · exact ⟨by omega, act_busWrite src.code 2 h (by omega)⟩
  · exact ⟨by omega, act_busWrite src.code 3 h (by omega)⟩

section
variable {s : State} {k : Nat}

theorem pwrCmd_safe (h : s.pwr.state = 4) : pwrCmd k s = pwrRej 7 s := if_pos h

theorem pwrCmd_moving (h4 : s.pwr.state ≠ 4) (hm : s.pwr.move.isSome) : pwrCmd k s = pwrRej 1 s := by
  have hrej : moveRej s k = some 1 := if_pos hm
  have hn : s.pwr.move.isNone = false := by simpa using hm
  unfold pwrCmd
  rw [if_neg h4]
  by_cases hk : k < 2
  · rw [if_pos hk, if_pos hm]
  · rw [if_neg hk, if_neg (by simp [hn]), hrej]

theorem pwrCmd_same (h4 : k ≠ 4) (h : s.pwr.state = k) (hm : s.pwr.move = none) : pwrCmd k s = s := by
  unfold pwrCmd
  rw [if_neg (by omega)]
  by_cases hk : k < 2
  · rw [if_pos hk, if_neg (by simp [hm]), if_neg (by omega), if_pos h]
  · rw [if_neg hk, if_pos ⟨h, by simp [hm]⟩]

theorem pwrCmd_change (hlt : s.pwr.state < 2) (hk : k < 2) (hne : s.pwr.state ≠ k) (hm : s.pwr.move = none) :
    pwrCmd k s = raise pPWR 0 { s with pwr := { s.pwr with state := k } } := by
  unfold pwrCmd
  rw [if_neg (by omega), if_pos hk, if_neg (by simp [hm]), if_neg (by omega), if_neg hne]

theorem pwrCmd_wake (h2 : 2 ≤ s.pwr.state) (h4 : s.pwr.state < 4) (hk : k < 2) (hm : s.pwr.move = none) : pwrCmd k s = wakeHub s := by
  unfold pwrCmd
  rw [if_neg (by omega), if_pos hk, if_neg (by simp [hm]), if_pos h2]

theorem pwrCmd_deep (h4 : s.pwr.state ≠ 4) (hk : 2 ≤ k) (hne : s.pwr.state ≠ k) : pwrCmd k s = match moveRej s k with
    | some r => pwrRej r s
    | none => moveBegin k s := by
  unfold pwrCmd
  rw [if_neg h4, if_neg (by omega), if_neg (by simp [hne])] <;> rfl

/-- A wake of a hub in VIGIL or DORMANT begins its move. -/
theorem wakeHub_begins (h2 : 2 ≤ s.pwr.state) (h4 : s.pwr.state < 4) (hm : s.pwr.move = none) : (wakeHub s).pwr.move = some ⟨wakeTarget s, s.pwr.state, s.clk⟩ ∧
    (wakeHub s).pwr.state = s.pwr.state ∧ bit ((wakeHub s).page pPWR).stat 4 = true := by
  have heq : wakeHub s = latch pPWR 4 { s with pwr := { s.pwr with move := some ⟨wakeTarget s, s.pwr.state, s.clk⟩ } } := by
    unfold wakeHub
    rw [hm]
    exact if_pos (by omega)
  rw [heq]
  exact ⟨by simp, by simp, latch_latched _ _ _ (by omega)⟩

/-- What bars a move and what it waits for do not depend on the move. -/
theorem moveBarred_move (m : Option PwrMove) : moveBarred { s with pwr := { s.pwr with move := m } } k = moveBarred s k := rfl
theorem moveWaits_move (m : Option PwrMove) : moveWaits { s with pwr := { s.pwr with move := m } } k = moveWaits s k := rfl

theorem moveBegin_barred (h : moveBarred s k = true) : moveBegin k s = moveDeny { s with pwr := { s.pwr with move := some ⟨k, s.pwr.state, s.clk⟩ } } := by
  unfold moveBegin
  dsimp only
  rw [moveBarred_move, if_pos h]

theorem moveBegin_free (h : moveBarred s k = false) (hw : moveWaits s k = false) :
    moveBegin k s = { s with pwr := { s.pwr with move := some ⟨k, s.pwr.state, s.clk⟩ } } := by
  unfold moveBegin
  dsimp only
  rw [moveBarred_move, moveWaits_move, if_neg (by simp [h]), if_neg (by simp [hw])]

/-- A move that must wait leaves the hub state, with its event. -/
theorem moveBegin_waits (h : moveBarred s k = false) (hw : moveWaits s k = true) :
    (moveBegin k s).pwr.state = s.pwr.state ∧ bit ((moveBegin k s).page pPWR).stat 5 = true := by
  have hP : HubInv (fun t => State.backIn s.pwr.state t ∧ bit (t.page pPWR).stat 5 = true) := (backIn_inv _).and (latched_inv pPWR 5).toHubInv
  have hask (d : Nat) {a : State} (ha : State.backIn s.pwr.state a ∧ bit (a.page pPWR).stat 5 = true) := hP.side.dmaPwrAsk d ha
  have hwait : State.backIn s.pwr.state (moveBegin k s) ∧ bit ((moveBegin k s).page pPWR).stat 5 = true := by
    have hraise : State.backIn s.pwr.state (raise pPWR 5 { s with pwr := { s.pwr with move := some ⟨k, s.pwr.state, s.clk⟩ } }) :=
      (backIn_inv _).side.raise _ _ ⟨rfl, fun m hm _ => by simp only [Option.some.injEq] at hm; rw [← hm]⟩
    unfold moveBegin
    dsimp only
    rw [moveBarred_move, moveWaits_move, if_neg (by simp [h]), if_pos hw]
    have h18 := keeps_ite (P := fun t => State.backIn s.pwr.state t ∧ bit (t.page pPWR).stat 5 = true)
      (c := dmaHolds (raise pPWR 5 { s with pwr := { s.pwr with move := some ⟨k, s.pwr.state, s.clk⟩ } }) 18 = true)
      (hask 18 ⟨hraise, raise_latched _ _ _ (by omega)⟩) ⟨hraise, raise_latched _ _ _ (by omega)⟩
    exact keeps_ite (P := fun t => State.backIn s.pwr.state t ∧ bit (t.page pPWR).stat 5 = true) (hask 17 h18) h18
  exact ⟨hwait.1.1, hwait.2⟩

end

/-! ### The ends of the moves (R421, R424 to R426) -/

/-- An event leaves the state of a hub with no move under way. -/
theorem raise_state {k p b : Nat} {s : State} (hs : s.pwr.state = k) (hm : s.pwr.move = none) : (raise p b s).pwr.state = k :=
  ((staysIn_inv k s.pwr.rej).side.raise p b ⟨hs, rfl, fun m h => by simp [hm] at h⟩).1

theorem enterVigil_spec (s : State) : (enterVigil s).pwr.state = 2 ∧ bit ((enterVigil s).page pPWR).stat 0 = true := by
  have hP : DomInv (State.staysIn 2 (closeAll s).pwr.rej) := staysIn_inv 2 _
  refine ⟨(hP.side.raise pPWR 0 ?_).1, raise_latched _ _ _ (by omega)⟩
  have h0 : State.staysIn 2 (closeAll s).pwr.rej { closeAll s with pwr := { (closeAll s).pwr with state := 2, move := none } } := ⟨rfl, rfl, fun m hm => by simp at hm⟩
  have h1 := foldl_keeps _ (fun a m => if (a.dom (1 + m)).st = 4 then a else domDown (1 + m) 4 (a.setMitt m { a.mitt m with app := {} }))
    (fun a m ha => keeps_ite ha ((hP.one _).domDown 4 (hP.mitt m _ ha))) (goneMitts s 2) _ h0
  have h2 := (hP.one 18).moveSr (keeps_ite (c := ((List.foldl (fun a m => if (a.dom (1 + m)).st = 4 then a else domDown (1 + m) 4 (a.setMitt m { a.mitt m with app := {} }))
    { closeAll s with pwr := { (closeAll s).pwr with state := 2, move := none } } (goneMitts s 2)).dom 17).st = 1) h1 ((hP.one 17).domDown 1 h1))
  have h3 := foldl_keeps _ (fun a n => if (if linkOn a n then 3 else 4) ≤ (a.dom (19 + n)).st then a else domDown (19 + n) (if linkOn a n then 3 else 4) a)
    (fun a n ha => keeps_ite ha ((hP.one _).domDown _ ha)) (List.range 12) _ h2
  exact keeps_ite (keeps_ite h3 ((hP.one 31).domDown 3 h3)) ((hP.one 32).domDown 2 (keeps_ite h3 ((hP.one 31).domDown 3 h3)))

theorem enterDormant_spec (s : State) : (enterDormant s).pwr.state = 3 ∧ bit ((enterDormant s).page pPWR).stat 0 = true := by
  exact ⟨raise_state rfl rfl, raise_latched _ _ _ (by omega)⟩

theorem leaveTo_spec {m : PwrMove} (hm : m.target < 2) (s : State) : (leaveTo m s).pwr.state = m.target ∧ (leaveTo m s).pwr.move = none ∧
    bit ((leaveTo m s).page pPWR).stat 0 = true := by
  have hP : DomInv (State.awakeIn m.target) := awakeIn_inv (by omega) (by omega)
  have hup (d : Nat) {a : State} (ha : a.awakeIn m.target) : State.awakeIn m.target (if (a.dom d).st = 0 then a else domUp d a) := keeps_ite ha (hP.domUp d ha)
  have h : State.awakeIn m.target (leaveTo m s) := by
    refine hP.side.raise _ _ ?_
    have h0 : State.awakeIn m.target { (if s.pwr.state = 2 then closeAll s else s) with
      pwr := { (if s.pwr.state = 2 then closeAll s else s).pwr with state := m.target, move := none } } := ⟨rfl, rfl⟩
    have h1 := foldl_keeps (State.awakeIn m.target) (fun a d => if (a.dom d).st = 0 then a else domUp d a) (fun a d ha => hup d ha) [32, 17, 31] _ h0
    have h2 := foldl_keeps (State.awakeIn m.target) (fun a n => if (a.dom (19 + n)).st = 3 ∨ lnCfg_EN a n = 1 then (if (a.dom (19 + n)).st = 0 then a else domUp (19 + n) a) else a)
      (fun a n ha => keeps_ite (hup (19 + n) ha) ha) (List.range 12) _ h1
    exact keeps_ite (hP.side.copyReserve h2) h2
  exact ⟨h.1, h.2, raise_latched _ _ _ (by omega)⟩

section
variable {s : State} {m : PwrMove} (hm : s.pwr.move = some m)
include hm

theorem moveDone_wake (ht : m.target < 2) : moveDone s =
    if m.began + (if m.old = 3 then 20000 else 2000) ≤ s.clk ∧ !(s.dram.st = 2 ∧ s.dram.selfref) then leaveTo m s else s := by
  unfold moveDone
  rw [hm]
  exact if_pos ht

theorem moveDone_deep (ht : m.target = 2 ∨ m.target = 3) : moveDone s =
    if moveBarred s m.target then moveDeny s else if moveWaits s m.target then s else if m.target = 2 then enterVigil s else enterDormant s := by
  unfold moveDone
  rw [hm]
  exact if_neg (by omega)

end

/-! ### The choice of every microsecond (R417) -/

/-- A property that the choice for domain `d` keeps, where its REQ may be stored too. -/
structure ChoiceInv (d : Nat) (P : State → Prop) : Prop extends DomInvAt d P where
  req : ∀ {s} v, P s → P (s.setRw (pwrDomCtlAt d) v)

theorem ChoiceInv.domWaited {d : Nat} {P : State → Prop} (hP : ChoiceInv d P) {s : State} (h : P s) : P (domWaited d s) := by
  unfold Machine.domWaited
  split
  · exact h
  · exact keeps_ite (hP.side.raise _ _ (hP.side.dmaPwrFree _ _ (hP.dom _ h))) (keeps_ite h (hP.domTo _ (hP.req _ (hP.dom _ h))))

theorem ChoiceInv.domRemake {d : Nat} {P : State → Prop} (hP : ChoiceInv d P) {s : State} (h : P s) : P (domRemake d s) := by
  have hunheld (x : DomSt) : P ((Machine.domWaited d s).setDom d x) := hP.dom x (hP.domWaited h)
  have hmitt {a : State} (ha : P a) : P (if 1 ≤ d ∧ d ≤ 16 ∧ (a.dom d).st = 0 ∧ 12 ≤ a.boot.step ∧ !(a.mitt (d - 1)).isUp ∧ !a.supply.avddLow then mittCome (d - 1) a else a) :=
    keeps_ite (hP.mittCome _ ha) ha
  exact keeps_ite (hunheld _) (hmitt (keeps_ite (hP.domWake (hunheld _)) (keeps_ite (hP.domTo _ (hunheld _)) (hunheld _))))

/-- One pass over a list without repetition: the step at `d` turns `P` into `Q`, the others keep each. -/
theorem foldl_once {P Q : State → Prop} {f : State → Nat → State} {d : Nat} (hstep : ∀ a, P a → Q (f a d)) (hP : ∀ e a, e ≠ d → P a → P (f a e))
    (hQ : ∀ e a, e ≠ d → Q a → Q (f a e)) (l : List Nat) (hn : l.Nodup) (hd : d ∈ l) (a : State) (ha : P a) : Q (l.foldl f a) := by
  induction l generalizing a with
  | nil => exact absurd hd List.not_mem_nil
  | cons e l ih =>
    obtain ⟨hel, hl⟩ := List.nodup_cons.1 hn
    by_cases he : e = d
    · subst he
      exact List.foldlRecOn l f (motive := Q) (hstep a ha) fun b hb x hx => hQ x b (fun h => hel (h ▸ hx)) hb
    · exact ih hl ((List.mem_cons.1 hd).resolve_left (Ne.symm he)) (f a e) (hP e a he ha)

/-- The core's and the host's wants, as the power manager last saw them. -/
def State.wants (cw h0 : Bool) (s : State) : Prop := s.pwr.coreWait = cw ∧ s.pwr.hostL0 = h0

theorem wakeHub_wants {cw h0 : Bool} {s : State} (h : s.wants cw h0) : (wakeHub s).wants cw h0 := by
  obtain ⟨h1, h2⟩ := h
  unfold wakeHub
  split <;> split <;> simp [State.wants, h1, h2]

theorem wants_inv (d : Nat) (cw h0 : Bool) : ChoiceInv d (State.wants cw h0) where
  latch _ _ h := by simpa [State.wants] using h
  wake h := wakeHub_wants h
  same h e := by
    unfold State.wants
    rw [e.2.2.2.1]
    exact h
  mitt _ _ h := h
  dom _ h := h
  req _ h := h

/-- Before the choice for a domain asked ON in RUN: the domain as `x`, the hub in RUN at the instant `c`. -/
def State.asked (d : Nat) (x : DomSt) (c : Nat) (s : State) : Prop := (s.dom d = x ∧ domReq s d = 0 ∧ s.clk = c) ∧ s.awakeIn 0

theorem domReq_congr {s t : State} {d : Nat} (h : t.rw (pwrDomCtlAt d) = s.rw (pwrDomCtlAt d)) : domReq t d = domReq s d := by
  unfold domReq pwrDomCtl_REQ
  rw [h]

theorem domReq_regs {s t : State} (d : Nat) (h : t.regs = s.regs) : domReq t d = domReq s d := domReq_congr (by simp only [State.rw, h])

theorem asked_other {d e : Nat} (x : DomSt) (c : Nat) (he : e ≠ d) : ChoiceInv e (State.asked d x c) where
  latch p b h := ⟨⟨(dom_of_doms (by simp) d).trans h.1.1, (domReq_regs d (by simp)).trans h.1.2.1, by simpa using h.1.2.2⟩,
    (awakeIn_inv (by omega) (by omega)).latch p b h.2⟩
  wake h := by
    rw [wakeHub_awake (by omega) (by omega) h.2]
    exact h
  same h e := ⟨⟨(dom_of_doms (by rw [e.2.2.2.1]) d).trans h.1.1, (domReq_regs d e.2.2.2.2.2.1).trans h.1.2.1, e.1.trans h.1.2.2⟩,
    (awakeIn_inv (by omega) (by omega)).same h.2 e⟩
  mitt _ _ h := h
  dom _ h := ⟨⟨by rw [State.dom_setDom, if_neg he.symm]; exact h.1.1, h.1.2⟩, h.2⟩
  req v h := by
    refine ⟨⟨h.1.1, (domReq_congr ?_).trans h.1.2.1, h.1.2.2⟩, h.2⟩
    rw [State.rw_setRw, if_neg (by unfold pwrDomCtlAt; omega)]

theorem doms_inv (x : Tbl DomSt) : HubInv (fun s => s.pwr.doms = x) where
  latch _ _ h := by simpa using h
  wake h := (wakeHub_doms _).trans h
  same h e := (congrArg PwrSt.doms e.2.2.2.1).trans h

/-- A domain's wake time. -/
def State.wakes (d w : Nat) (s : State) : Prop := (s.dom d).waking = some w

theorem wakes_other {d e : Nat} (w : Nat) (he : e ≠ d) : ChoiceInv e (State.wakes d w) where
  latch _ _ h := (congrArg DomSt.waking (dom_of_doms (by simp) d)).trans h
  wake h := (congrArg DomSt.waking (dom_of_doms (wakeHub_doms _) d)).trans h
  same h e := (congrArg DomSt.waking (dom_of_doms (by rw [e.2.2.2.1]) d)).trans h
  mitt _ _ h := h
  dom _ h := (congrArg DomSt.waking (by rw [State.dom_setDom, if_neg he.symm])).trans h
  req _ h := h

/-- The choice for a domain asked ON in RUN that is not up: it is to wake after its latency. -/
theorem domRemake_asked {d : Nat} {x : DomSt} {c : Nat} {s : State} (hd : d ≠ 0) (h : s.asked d x c) (hw : x.waiting = none) (hst : x.st ≠ 0) (hk : x.waking = none)
    (hsr : x.toSr = false) : (domRemake d s).wakes d (c + upLat d x.st) := by
  obtain ⟨⟨hx, hreq, hc⟩, h0, hmove⟩ := h
  have hwaited : domWaited d s = s := by
    unfold domWaited
    rw [hx, hw]
  unfold domRemake
  dsimp only
  rw [hwaited]
  generalize hs1 : s.setDom d { s.dom d with unheld := if domHeld s d then none else some ((s.dom d).unheld.getD s.clk) } = s1
  have hdom : s1.dom d = { x with unheld := if domHeld s d then none else some (x.unheld.getD s.clk) } := by
    rw [← hs1, ← hx]
    simp
  have hst1 : s1.pwr.state = 0 := by
    rw [← hs1]
    exact h0
  have hwant : domWant s1 d = 0 := by
    have hreq1 : domReq s1 d = 0 := by
      rw [← hs1]
      exact hreq
    unfold domWant
    rw [if_pos ⟨hreq1, hst1⟩]
  have hwake : domWake d s1 = s1.setDom d { s1.dom d with waking := some (c + upLat d x.st) } := by
    have hclk : s1.clk = c := by
      rw [← hs1]
      exact hc
    unfold domWake
    dsimp only
    rw [if_neg (by simp [hdom, hsr]), if_neg (by simp [hdom, hst, hk]), hclk, hdom]
  have hlt : 0 < (s1.dom d).st ∨ (0 = 0 ∧ (s1.dom d).toSr = true) := .inl (by rw [hdom]; exact Nat.pos_of_ne_zero hst)
  rw [if_neg (by omega), hwant, if_pos hlt, hwake, if_neg]
  · simp [State.wakes]
  · rintro ⟨-, -, hz, -⟩
    rw [State.dom_setDom, if_pos rfl] at hz
    simp only [hdom] at hz
    exact hst hz

/-- In SAFE, with no request waiting: the domains as in `s`, but for the time they have been unheld. -/
def State.domsRest (s t : State) : Prop := t.awakeIn 4 ∧ ∀ d, (t.dom d).waiting = none ∧ (t.dom d).st = (s.dom d).st ∧ (t.dom d).waking = (s.dom d).waking

theorem domRemake_safe {s t : State} (h : s.domsRest t) (d : Nat) : s.domsRest (domRemake d t) := by
  obtain ⟨hawake, hd⟩ := h
  have hwaited : domWaited d t = t := by
    unfold domWaited
    rw [(hd d).1]
  unfold domRemake
  dsimp only
  rw [hwaited, if_pos (.inr (.inl hawake.1))]
  refine ⟨hawake, fun e => ?_⟩
  rw [State.dom_setDom]
  split
  next he =>
    subst he
    exact hd e
  next => exact hd e

/-! ### The obligation -/

/-- Settles O52: PWR_CMD by the hub's state, the ends of the moves, and the choice for each domain. -/
theorem powerStates : Obligations.PowerStates := by
  refine ⟨fun s src i k hr hi => ?_, fun s hl => ⟨fun hm => ?_, fun m hm => ⟨fun ht hb hw => ?_, fun ht hb hw => ?_, fun ht hb => ?_, fun ht hle hsr => ?_, fun ht h => ?_⟩⟩,
    fun s cw h0 hl => ?_⟩
  · obtain ⟨hk4, hex⟩ := exec_pwrCmd hr hi
    refine ⟨fun h4 hm => ?_, fun h4 hm hk => ?_, fun hlt hm hk hne => ?_, fun h hm => ?_, fun h2 h4 hm hk => ?_, fun h4 hk hm => ?_, fun h4 hk hne hm => ⟨fun r hrej => ?_, fun hrej hb => ?_, fun hrej hb hw hlt => ?_, fun hrej hb hw => ?_⟩⟩
    · obtain ⟨⟨h1, h2, -⟩, h3⟩ := pwrRej_stays 7 (staysIn_of_still hm)
      exact ⟨_, hex.trans (congrArg _ (pwrCmd_safe h4)), h1.trans h4, h2, h3⟩
    · exact ⟨_, hex.trans (congrArg _ (pwrCmd_moving h4 hm)), raise_latched _ _ _ (by omega)⟩
    · exact ⟨_, hex.trans (congrArg _ (pwrCmd_change hlt hk hne hm)), raise_state rfl hm, raise_latched _ _ _ (by omega)⟩
    · exact hex.trans (congrArg _ (pwrCmd_same (by omega) h hm))
    · exact ⟨_, hex.trans (congrArg _ (pwrCmd_wake h2 h4 hk hm)), wakeHub_begins h2 h4 hm⟩
    · exact ⟨_, hex.trans (congrArg _ (pwrCmd_moving h4 hm)), raise_latched _ _ _ (by omega)⟩
    · obtain ⟨⟨h1, h2, -⟩, h3⟩ := pwrRej_stays r (staysIn_of_still hm)
      exact ⟨_, hex.trans (congrArg _ ((pwrCmd_deep h4 hk hne).trans (by rw [hrej]))), h2, h1, h3⟩
    · obtain ⟨h1, h2, h3, h5⟩ := moveDeny_spec { s with pwr := { s.pwr with move := some ⟨k, s.pwr.state, s.clk⟩ } }
      exact ⟨_, hex.trans (congrArg _ ((pwrCmd_deep h4 hk hne).trans (by rw [hrej]; exact moveBegin_barred hb))), h1, h2, h3, h5⟩
    · obtain ⟨h1, h2⟩ := moveBegin_waits hb hw
      exact ⟨_, hex.trans (congrArg _ ((pwrCmd_deep h4 hk hne).trans (by rw [hrej]))), h2, h1⟩
    · exact hex.trans (congrArg _ ((pwrCmd_deep h4 hk hne).trans (by rw [hrej]; exact moveBegin_free hb hw)))
  · refine (act_live hl).trans (congrArg _ ?_)
    unfold moveDone
    rw [hm]
  · have heq := moveDone_deep hm ht
    rw [if_neg (by simp [hb]), if_neg (by simp [hw])] at heq
    obtain h2 | h3 := ht
    · rw [if_pos h2] at heq
      rw [h2]
      exact ⟨_, (act_live hl).trans (congrArg _ heq), enterVigil_spec s⟩
    · rw [if_neg (by omega)] at heq
      rw [h3]
      exact ⟨_, (act_live hl).trans (congrArg _ heq), enterDormant_spec s⟩
  · refine (act_live hl).trans (congrArg _ ((moveDone_deep hm ht).trans ?_))
    rw [if_neg (by simp [hb]), if_pos hw]
  · exact ⟨_, (act_live hl).trans (congrArg _ ((moveDone_deep hm ht).trans (if_pos hb))), moveDeny_spec s⟩
  · have hgo : (!(s.dram.st = 2 ∧ s.dram.selfref : Bool)) = true := by
      simp only [Bool.not_eq_true', decide_eq_false_iff_not, not_and, Bool.not_eq_true]
      exact hsr
    exact ⟨_, (act_live hl).trans (congrArg _ ((moveDone_wake hm ht).trans (if_pos ⟨hle, hgo⟩))), leaveTo_spec ht s⟩
  · refine (act_live hl).trans (congrArg _ ((moveDone_wake hm ht).trans (if_neg ?_)))
    rintro ⟨hle, hgo⟩
    obtain h | h := h
    · omega
    · simp [h.1, h.2] at hgo
  · have hbase : State.wants cw h0 { s with pwr := { s.pwr with coreWait := cw, hostL0 := h0 } } := ⟨rfl, rfl⟩
    obtain ⟨hcw, hh0⟩ := foldl_keeps (State.wants cw h0) (fun a d => domRemake d a) (fun a d ha => (wants_inv d cw h0).domRemake ha) (List.range 33) _
      ((wants_inv 0 cw h0).side.dmaUnask hbase)
    have hex : exec (.pwrAutoChoice cw h0) s =
        .next ((List.range 33).foldl (fun a d => domRemake d a) (dmaUnask { s with pwr := { s.pwr with coreWait := cw, hostL0 := h0 } })) := act_live hl
    refine ⟨_, hex, hcw, hh0, fun hm hst d h1 h33 hreq hw hne hk hsr => ?_, fun hm hst hw d => ?_⟩
    · have hasked : State.asked d (s.dom d) s.clk { s with pwr := { s.pwr with coreWait := cw, hostL0 := h0 } } := ⟨⟨rfl, (domReq_regs d rfl).trans hreq, rfl⟩, hst, hm⟩
      have hunask := (asked_other (d := d) (e := d + 1) (s.dom d) s.clk (by omega)).side.dmaUnask hasked
      exact foldl_once (P := State.asked d (s.dom d) s.clk) (Q := State.wakes d (s.clk + upLat d (s.dom d).st)) (f := fun a e => domRemake e a) (fun a ha => domRemake_asked (by omega) ha hw hne hk hsr) (fun e a he ha => (asked_other (s.dom d) s.clk he).domRemake ha)
        (fun e a he ha => (wakes_other _ he).domRemake ha) (List.range 33) List.nodup_range (List.mem_range.2 h33) _ hunask
    · have hdoms : HubInv (fun t => t.awakeIn 4 ∧ t.pwr.doms = s.pwr.doms) := (awakeIn_inv (by omega) (by omega)).toHubInv.and (doms_inv _)
      have hunask := hdoms.side.dmaUnask (s := { s with pwr := { s.pwr with coreWait := cw, hostL0 := h0 } }) ⟨⟨hst, hm⟩, rfl⟩
      have hrest : s.domsRest (dmaUnask { s with pwr := { s.pwr with coreWait := cw, hostL0 := h0 } }) :=
        ⟨hunask.1, fun e => by rw [dom_of_doms hunask.2 e]; exact ⟨hw e, rfl, rfl⟩⟩
      exact ((foldl_keeps s.domsRest (fun a d => domRemake d a) (fun a d ha => domRemake_safe ha d) (List.range 33) _ hrest).2 d).2

end Sys2Proof.Machine
end

section
/-! SUPPORT. The serial lanes (R333 to R354): where a write of a lane's registers goes, what a lane serves after a change, and what the lane's own moves
leave of its state, its leave and its registers. -/

namespace Sys2Proof.Machine

/-! ### What the commands of a lane do -/

theorem regEffect_lane (src o : Nat) (v : Word) (s : State) (n : Fin 12) (ho : o < 0x1000) :
    regEffect src ((0x20 + n.val) * 0x1000 + o) v s = wLANE src n.val o v s := by
  have hblock : blockOf (0x20 + n.val) = some 0x20 := by revert n; decide
  rw [regEffect, show ((0x20 + n.val) * 0x1000 + o) / 0x1000 = 0x20 + n.val by omega, show ((0x20 + n.val) * 0x1000 + o) % 0x1000 = o by omega, hblock]
  exact congrArg (wLANE src · o v s) (Nat.add_sub_cancel_left _ _)

section
variable {s : State} {src : Src} {n : Fin 12}

theorem exec_lnCfgWrite {v : Word} (h : s.reaches ((0x20 + n.val) * 0x1000 + 0x100)) : exec (.lnCfgWrite src n v) s = .next (wLANE src.code n.val 0x100 v s) :=
  (act_busWrite src.code v h (by omega)).trans (congrArg _ (regEffect_lane src.code 0x100 v s n (by decide)))

theorem wLANE_cfg {a : Nat} {v : Word} {n : Nat} (hn : n < 10) : wLANE a n 0x100 v s = withLane n (lnCfgWrite n v) s := by
  unfold wLANE
  exact (if_pos rfl).trans (if_neg fun h => by omega)

theorem exec_lnCtlRetrain (h : s.reaches ((0x20 + n.val) * 0x1000 + 0x104)) :
    exec (.lnCtlRetrain src n) s = .next (withLane n.val (lnCtlWrite n.val (s.orWord (lnCtlAt n.val) 2)) s) := by
  have hact : exec (.lnCtlRetrain src n) s = act (fun s => busWrite src.code ((0x20 + n.val) * 0x1000 + 0x104) (s.orWord (lnCtlAt n.val) 2) s) s := rfl
  rw [hact, act_live h.1, busWrite_reg _ _ _ _ h.2 (by omega), regEffect_lane _ _ _ _ _ (by decide)]
  rfl

theorem exec_lnCtlTxSleep {b : Bool} (h : s.reaches ((0x20 + n.val) * 0x1000 + 0x104)) :
    exec (.lnCtlTxSleep src n b) s = .next (withLane n.val (lnCtlWrite n.val (txSleepWord b)) s) :=
  (act_busWrite src.code _ h (by omega)).trans (congrArg _ (regEffect_lane src.code 0x104 _ s n (by decide)))

end

/-! ### What a lane serves after a change -/

/-- An Ethernet port with no link has none to lose, and a link layer whose lane stays UP or stays down follows nothing. -/
theorem laneSync_quiet {n : Nat} {s t : State} (hu : n < 8 → ((t.lane n).st = 5 ↔ (s.lane n).st = 5))
    (he : 8 ≤ n → (t.lane n).st ≠ 5 → (t.eth (n - 8)).link = false) : laneSync n s t = t := by
  unfold laneSync
  split
  next h8 => exact if_neg fun ⟨_, h5, hl⟩ => by simp [he h8 h5] at hl
  next h8 =>
    have hu := hu (by omega)
    rw [if_neg fun h => h.2 (hu.2 h.1), if_neg fun h => h.1 (hu.1 h.2)]

theorem withLane_quiet {n : Nat} {f : State → State} {s : State} (hu : n < 8 → (((f s).lane n).st = 5 ↔ (s.lane n).st = 5))
    (he : 8 ≤ n → ((f s).lane n).st ≠ 5 → ((f s).eth (n - 8)).link = false) : withLane n f s = f s := laneSync_quiet hu he

section
variable (n m : Nat) (s : State)

@[simp] theorem lane_latch (p b : Nat) : (latch p b s).lane n = s.lane n := by simp [State.lane]
@[simp] theorem lane_wakeHub : (wakeHub s).lane n = s.lane n := by simp [State.lane]
end

theorem lanes_inv (l : Tbl LaneSt) : LaneInv (fun s => s.lanes = l) where
  latch p b h := by simpa using h
  wake h := by simpa using h
  eth n v h := by simpa using h
  same h e := e.1.2.1.trans h

/-- The MAC's link, when it follows its lane, leaves the lanes. -/
theorem ethLink_lane (n m : Nat) (up : Bool) (speed : Nat) (anDone anFail : Bool) (mid : Nat) (s : State) : (ethLink n up speed anDone anFail mid s).lane m = s.lane m :=
  congrArg (tget lane0 · m) ((lanes_inv s.lanes).ethLink n up speed anDone anFail mid rfl)

/-- A change of a lane that leaves it UP or leaves it down changes what it serves at most by an Ethernet port's link: the lane is as the change left it. -/
theorem withLane_lane {n : Nat} {f : State → State} {s : State} (hu : n < 8 → (((f s).lane n).st = 5 ↔ (s.lane n).st = 5)) :
    (withLane n f s).lane n = (f s).lane n := by
  by_cases h8 : 8 ≤ n
  · unfold withLane laneSync
    rw [if_pos h8]
    split
    · exact ethLink_lane ..
    · rfl
  · rw [withLane_quiet hu (fun h => absurd h h8)]

/-- What is told of a lane but for the instant of its last data block. -/
theorem lane_inv {P : LaneSt → Prop} (hP : ∀ x t, P x → P { x with lastTx := t }) (n : Nat) : SideInv (fun s => P (s.lane n)) where
  latch p b h := by simpa using h
  wake h := by simpa using h
  txData m h := by
    unfold laneTxData
    by_cases e : n = m
    · subst e; simpa using hP _ _ h
    · simpa [e] using h
  eth m v h := by simpa using h
  same h e := by
    have hl : _ = _ := e.1.2.1
    simpa [State.lane, hl] using h

theorem bgt_inv (b : BgtSt) : SideInv (fun s => s.bgt = b) where
  latch p b h := by simpa using h
  wake h := by simpa using h
  txData m h := by simpa [laneTxData] using h
  eth m v h := by simpa using h
  same h e := e.1.2.2.trans h

theorem time_inv (x c : Nat) : HubInv (fun s => s.st = x ∧ s.clk = c) where
  latch p b h := by simpa using h
  wake h := by simpa using h
  same h e := ⟨e.2.1.trans h.1, e.1.trans h.2⟩

/-! ### The lane's own moves -/

section
variable (n : Nat) (s : State)

/-- A stopped scan counts as aborted; the rest of the lane stays. -/
theorem visorStop_lane : ∃ a e, (visorStop n s).lane n = { s.lane n with visor := none, visorAbort := a, visorErr := e } ∧
    ((s.lane n).visor.isSome → a = true) := by
  unfold visorStop
  dsimp only
  split
  · exact ⟨true, s.free.1 % 2 ^ 48, by simp [State.free], fun _ => rfl⟩
  next h =>
    have hv : (s.lane n).visor = none := by simpa using h
    exact ⟨_, _, by rw [← hv], fun hs => absurd hs h⟩

theorem visorStop_bgt : (visorStop n s).bgt = s.bgt := by
  unfold visorStop
  dsimp only
  split <;> simp [State.free]

theorem sleepEnds_lane (m : Nat) : (sleepEnds n s).lane m = s.lane m := by simp [sleepEnds]
theorem sleepEnds_bgt : (sleepEnds n s).bgt = s.bgt := by simp [sleepEnds]

/-- A lane as `laneOff` leaves it (R337), its stopped scan's marks `a` and `e` apart. -/
def LaneSt.off (x : LaneSt) (a : Bool) (e : Nat) : LaneSt :=
  { x with visor := none, visorAbort := a, visorErr := e, st := 0, retrain := false, asking := false, retryAt := none, relock := none, wakeAt := none,
           blk := false, cdr := false, pll := false, rxReady := false, farReady := false, frozen := false, rxSleep := false, txSleep := false, prbsLock := false }

theorem laneOff_lane : ∃ a e, (laneOff n s).lane n = (s.lane n).off a e := by
  obtain ⟨a, e, hv, -⟩ := visorStop_lane n s
  have hlane : (sleepEnds n (bgtDrop 5 n (visorStop n s))).lane n = (visorStop n s).lane n := sleepEnds_lane ..
  exact ⟨a, e, by unfold laneOff; dsimp only; rw [hlane, hv]; simp [LaneSt.off]⟩

theorem laneOff_bgt : (laneOff n s).bgt = (bgtDrop 5 n s).bgt := by
  have hdrop : (bgtDrop 5 n (visorStop n s)).bgt = (bgtDrop 5 n s).bgt := by simp [bgtDrop, bgtRelease, bgtWithdraw, visorStop_bgt]
  exact (sleepEnds_bgt ..).trans hdrop

theorem laneOff_regs : (laneOff n s).regs = s.regs := (regs_inv s.regs).laneOff n rfl

theorem laneOff_st : (laneOff n s).st = s.st := ((time_inv s.st s.clk).laneOff n ⟨rfl, rfl⟩).1

/-- Withdrawn and released, an operation neither holds a grant nor asks (R428). -/
theorem bgtDrop_free (k : Nat) : bgtHas k n (bgtDrop k n s) = false ∧ bgtAsking k n (bgtDrop k n s) = false := by
  simp only [bgtHas, bgtAsking, bgtDrop, bgtRelease, bgtWithdraw, List.any_filter, List.any_eq_false, Bool.and_eq_true, Bool.not_eq_true',
    decide_eq_true_eq, decide_eq_false_iff_not]
  exact ⟨fun _ _ h => h.1 h.2, fun _ _ h => h.1 h.2⟩

theorem bgtHas_congr {t : State} (h : t.bgt = s.bgt) (k r : Nat) : bgtHas k r t = bgtHas k r s ∧ bgtAsking k r t = bgtAsking k r s := by
  simp [bgtHas, bgtAsking, h]

theorem laneOff_free : bgtHas 5 n (laneOff n s) = false ∧ bgtAsking 5 n (laneOff n s) = false := by
  obtain ⟨h1, h2⟩ := bgtHas_congr (bgtDrop 5 n s) (laneOff_bgt n s) 5 n
  exact ⟨h1.trans (bgtDrop_free n s 5).1, h2.trans (bgtDrop_free n s 5).2⟩

/-! ### Bring-up (R337 to R339) -/

/-- The taps a bring-up starts from: the kept ones or the preset's (R339). -/
def startTaps : Nat × Nat :=
  match (s.lane n).upTaps with
  | some t => if lnCfg_KEEP_TAPS s n = 1 ∧ laneUlk n then t else presetTaps s n (lnCfg_PRESET s n)
  | none => presetTaps s n (lnCfg_PRESET s n)

/-- The leave a lane asks for (R338). -/
def leaveReq : BgtReq := ⟨5, n, lnLeave_MW s n, some (lnLeave_MS s n), s.st, none, false⟩

/-- A lane at the start of a bring-up, in the state `k`, asking for leave or not. -/
def LaneSt.starts (x : LaneSt) (s : State) (n k : Nat) (ask : Bool) : Prop :=
  x.st = k ∧ x.asking = ask ∧ (x.pre, x.post) = startTaps n s ∧ x.rate = lnCfg_RATE s n ∧ x.swing = min 10 (lnCfg_SWING s n) ∧
    x.polTx = decide (lnCfg_POL_TX s n = 1) ∧ x.polRx = decide (lnCfg_POL_RX s n = 1)

theorem laneBringUp_eq (hn : n < 10) : laneBringUp n s = (fun s2 : State => if laneUlk n then laneAsk n s2 else s2.setLane n { s2.lane n with st := 2 })
    ((laneOff n s).setLane n { (laneOff n s).lane n with pre := (startTaps n s).1, post := (startTaps n s).2, trainTmo := false, gotReady := 0, ack := 0, stsPre := 0, stsPost := 0, req := 0, reqPreset := 0, seq := 0, ackAt := some 0, rate := lnCfg_RATE s n, swing := min 10 (lnCfg_SWING s n), polTx := decide (lnCfg_POL_TX s n = 1), polRx := decide (lnCfg_POL_RX s n = 1) }) := by
  obtain ⟨a, e, hoff⟩ := laneOff_lane n s
  have htaps : ((laneOff n s).lane n).upTaps = (s.lane n).upTaps := by rw [hoff]; rfl
  have hp : lanePcie n = false := by simp [lanePcie]; omega
  unfold laneBringUp startTaps
  rw [hp, ← htaps]
  rfl

/-- A ULK lane's bring-up asks the governor for its leave. -/
theorem laneBringUp_ulk (hn : n < 8) : ((laneBringUp n s).lane n).starts s n 1 true ∧ leaveReq n s ∈ (laneBringUp n s).bgt.queue := by
  obtain ⟨a, e, hoff⟩ := laneOff_lane n s
  have hu : laneUlk n = true := by simpa [laneUlk] using hn
  rw [laneBringUp_eq n s (by omega)]
  dsimp only
  rw [if_pos hu]
  refine ⟨by simp [laneAsk, LaneSt.starts], ?_⟩
  simp [laneAsk, bgtAsk, leaveReq, lnLeave_MW, lnLeave_MS, laneOff_st, rw_of_regs (laneOff_regs n s)]

/-- An Ethernet lane's starts with its PLL, without leave (R352). -/
theorem laneBringUp_eth (h8 : 8 ≤ n) (hn : n < 10) : ((laneBringUp n s).lane n).starts s n 2 false ∧ (laneBringUp n s).bgt = (laneOff n s).bgt := by
  obtain ⟨a, e, hoff⟩ := laneOff_lane n s
  have hu : laneUlk n = false := by simp [laneUlk]; omega
  rw [laneBringUp_eq n s hn]
  dsimp only
  rw [hu]
  exact ⟨by simp [LaneSt.starts, hoff, LaneSt.off], by simp⟩

end

/-! ### TEST, LOOP and sleep (R347, R350, R351) -/

section
variable {n : Nat} {s : State}

theorem laneTest_idle (h : (s.lane n).st = 0 ∨ (testWanted s n = false ∧ (s.lane n).st ≠ 6)) : laneTest n s = s := by
  unfold laneTest
  dsimp only
  split
  · rfl
  next h0 =>
    obtain h | ⟨ht, h6⟩ := h
    · exact absurd (.inl h) h0
    · rw [if_neg (by simp [ht]), if_neg h6]

theorem laneTest_enters (hn : n < 10) (h0 : (s.lane n).st ≠ 0) (ht : testWanted s n = true) : ((laneTest n s).lane n).st = 6 := by
  have hp : lanePcie n = false := by simp [lanePcie]; omega
  unfold laneTest
  dsimp only
  rw [if_neg (by simp [h0, hp]), if_pos ht]
  split
  · assumption
  · simp

theorem laneTest_leaves (hn : n < 10) (h6 : (s.lane n).st = 6) (ht : testWanted s n = false) : ((laneTest n s).lane n).st = 3 ∧
    ((laneTest n s).lane n).blk = false ∧ ((laneTest n s).lane n).relock = some s.clk ∧ ((laneTest n s).lane n).visor = none := by
  have hp : lanePcie n = false := by simp [lanePcie]; omega
  obtain ⟨a, e, hv, -⟩ := visorStop_lane n s
  unfold laneTest
  dsimp only
  rw [if_neg (by simp [h6, hp]), if_neg (by simp [ht]), if_pos h6]
  simp [hv]

theorem HubInv.laneTest {P : State → Prop} (hP : HubInv P) (n : Nat) {s : State} (h : P s) : P (laneTest n s) :=
  keeps_ite h (keeps_ite (keeps_ite h (hP.setLane _ _ (hP.side.raiseIf _ _ _ (hP.bgtDrop _ _ h)))) (keeps_ite (hP.setLane _ _ (hP.visorStop _ h)) h))

theorem laneSleep_idle (h : 8 ≤ n ∨ (s.lane n).st ≠ 5 ∨ (s.lane n).txSleep = true ∨ sleepWanted s n = false) : laneSleep n s = s := by
  refine if_neg fun hc => ?_
  simp only [laneUlk, Bool.and_eq_true, decide_eq_true_eq, Bool.not_eq_true'] at hc
  obtain ⟨⟨⟨hn, h5⟩, ht⟩, hw⟩ := hc
  obtain h | h | h | h := h
  · omega
  · exact h h5
  · simp [ht] at h
  · simp [hw] at h

theorem laneSleep_asleep (hn : n < 8) (h5 : (s.lane n).st = 5) (ht : (s.lane n).txSleep = false) (hw : sleepWanted s n = true) : laneSleep n s =
    laneRaise n 6 (wireOut (.sleep n) (s.setLane n { s.lane n with txSleep := true, pll := pllOf true (s.lane n).rxSleep })) :=
  if_pos (by simp [laneUlk, hn, h5, ht, hw])

theorem laneSleep_lane : ∃ t p, (laneSleep n s).lane n = { s.lane n with txSleep := t, pll := p } := by
  unfold laneSleep
  dsimp only
  split
  · exact ⟨true, pllOf true (s.lane n).rxSleep, by simp⟩
  · exact ⟨_, _, rfl⟩

end

/-- Bits kept inside a field keep it. -/
theorem fld_and_in (w m : Word) (hi lo : Nat) (h : ∀ i, i < hi + 1 - lo → m.getLsbD (lo + i) = true) : fld (w &&& m) hi lo = fld w hi lo := by
  apply Nat.eq_of_testBit_eq
  intro i
  simp only [fld, testBit_nfld, BitVec.toNat_and, Nat.testBit_and]
  by_cases hi' : i < hi + 1 - lo
  · have := h i hi'
    simp only [BitVec.getLsbD] at this
    simp [this]
  · simp [hi']

end Sys2Proof.Machine
end

section
/-! PROOFS. LN_CFG and LN_CTL: bring-up, TEST, RETRAIN and TX_SLEEP (R337 to R339, R347, R350 to R354). -/

namespace Sys2Proof.Machine

/-! ### LN_CFG -/

/-- The hub with LN_CFG written. -/
def State.cfgSet (s : State) (n : Nat) (v : Word) : State := s.setRw (lnCfgAt n) (v &&& 0xF0333B01#32)

section
variable {n : Nat} {v : Word} {s : State}

theorem cfgSet_fields : lnCfg_EN (s.cfgSet n v) n = (bit v 0).toNat ∧ lnCfg_RATE (s.cfgSet n v) n = fld v 9 8 ∧ lnCfg_SWING (s.cfgSet n v) n = fld v 31 28 ∧
    lnCfg_POL_TX (s.cfgSet n v) n = (bit v 11).toNat ∧ lnCfg_POL_RX (s.cfgSet n v) n = (bit v 12).toNat ∧ lnCfg_KEEP_TAPS (s.cfgSet n v) n = (bit v 13).toNat ∧
    lnCfg_PRESET (s.cfgSet n v) n = fld v 21 20 ∧ lnCfg_LOOP (s.cfgSet n v) n = fld v 17 16 := by
  simp only [State.cfgSet, lnCfg_EN, lnCfg_RATE, lnCfg_SWING, lnCfg_POL_TX, lnCfg_POL_RX, lnCfg_KEEP_TAPS, lnCfg_PRESET, lnCfg_LOOP, State.rw_setRw, if_true, ← fld_bit]
  and_intros <;> exact fld_and_in _ _ _ _ (by decide)

theorem cfgSet_other {a : Nat} (h : a ≠ lnCfgAt n) : (s.cfgSet n v).rw a = s.rw a := by simp [State.cfgSet, h]

theorem cfgSet_leave : leaveReq n (s.cfgSet n v) = leaveReq n s := by
  have ha : lnLeaveAt n ≠ lnCfgAt n := by simp [lnLeaveAt, lnCfgAt]
  simp only [leaveReq, lnLeave_MW, lnLeave_MS, cfgSet_other ha]
  rfl

theorem cfgSet_preset (p : Nat) : presetTaps (s.cfgSet n v) n p = presetTaps s n p := by
  have ha : lnPreset0At n + 4 * p ≠ lnCfgAt n := by simp [lnPreset0At, lnCfgAt]; omega
  simp only [presetTaps, cfgSet_other ha]

theorem cfgSet_lane (m : Nat) : (s.cfgSet n v).lane m = s.lane m := rfl

/-- LOOP holds the lane in TEST (R347). -/
theorem cfgSet_held (hl : fld v 17 16 ≠ 0) : testWanted (s.cfgSet n v) n = true := by
  obtain ⟨-, -, -, -, -, -, -, hloop⟩ := cfgSet_fields (n := n) (v := v) (s := s)
  simp [testWanted, hloop, hl]

/-- Neither LOOP nor the PRBS facilities hold it. -/
theorem cfgSet_free (hl : fld v 17 16 = 0) (hp : n < 2 → lnPrbs_GEN_EN s n = 0 ∧ lnPrbs_CHK_EN s n = 0) : testWanted (s.cfgSet n v) n = false := by
  have ha : lnPrbsAt n ≠ lnCfgAt n := by simp [lnPrbsAt, lnCfgAt]
  obtain ⟨-, -, -, -, -, -, -, hloop⟩ := cfgSet_fields (n := n) (v := v) (s := s)
  have hgen : lnPrbs_GEN_EN (s.cfgSet n v) n = lnPrbs_GEN_EN s n := by simp only [lnPrbs_GEN_EN, cfgSet_other ha]
  have hchk : lnPrbs_CHK_EN (s.cfgSet n v) n = lnPrbs_CHK_EN s n := by simp only [lnPrbs_CHK_EN, cfgSet_other ha]
  simp only [testWanted, hloop, hl, hgen, hchk]
  by_cases h2 : n < 2
  · simp [hp h2]
  · simp [h2]

theorem testWanted_of_regs {t : State} (h : t.regs = s.regs) : testWanted t n = testWanted s n := by
  have hrw : t.rw = s.rw := funext (rw_of_regs h)
  unfold testWanted lnCfg_LOOP lnPrbs_GEN_EN lnPrbs_CHK_EN
  rw [hrw]

theorem lnCfgWrite_refused {r : Nat} (h : (fld v 9 8 = 3 ∧ r = 1) ∨ (fld v 9 8 ≠ 3 ∧ 10 ≤ n ∧ n < 12 ∧ fld v 17 16 ≠ 0 ∧ r = 2)) : lnCfgWrite n v s = laneRej n r s := by
  obtain ⟨h, rfl⟩ | ⟨h, h10, h12, hl, rfl⟩ := h
  · exact if_pos h
  · exact (if_neg h).trans (if_pos (by simp [lanePcie, hl]; omega))

/-- Past its refusals the write of LN_CFG switches the lane off, brings it up, or leaves it to LOOP and PRBS. -/
theorem lnCfgWrite_taken (hr : fld v 9 8 ≠ 3) (hl : n < 10 ∨ fld v 17 16 = 0) : lnCfgWrite n v s =
    if bit v 0 = false then laneOff n (s.cfgSet n v)
    else if lnCfg_EN s n = 0 ∧ (s.dom (19 + n)).st ≠ 4 then laneTest n (laneBringUp n (s.cfgSet n v)) else laneTest n (s.cfgSet n v) := by
  obtain ⟨hen, -⟩ := cfgSet_fields (n := n) (v := v) (s := s)
  have hen : lnCfg_EN (s.cfgSet n v) n = 0 ↔ bit v 0 = false := by rw [hen]; cases bit v 0 <;> simp
  unfold lnCfgWrite
  rw [if_neg hr, if_neg (by simp [lanePcie]; omega)]
  exact if_congr hen rfl rfl

/-- A fall of the PCIe link keeps of a lane what a stopped scan keeps. -/
theorem pcieDown_keeps {P : State → Prop} (hP : SideInv P) (hvis : ∀ m {s}, P s → P (visorStop m s)) (h : P s) : P (pcieDown s) :=
  keeps_ite (hP.raise _ _ (hP.dmaHost _ (hP.same (hvis 11 (hvis 10 h)) (by and_intros <;> rfl)))) h

theorem wLANE_cfg_keeps {P : State → Prop} (hP : SideInv P) (hvis : ∀ m {s}, P s → P (visorStop m s)) {src : Nat} (h : P (lnCfgWrite n v s)) :
    P (wLANE src n 0x100 v s) := by
  unfold wLANE
  rw [if_pos rfl]
  exact keeps_ite (pcieDown_keeps hP hvis (hP.withLane h)) (hP.withLane h)

end

/-- What a lane's state, its reject code and its leave show stays when a scan of some lane stops. -/
theorem visorStop_keeps {P : LaneSt → Prop} (hP : ∀ x a e, P x → P { x with visor := none, visorAbort := a, visorErr := e }) (n m : Nat) {s : State} (h : P (s.lane n)) :
    P ((visorStop m s).lane n) := by
  by_cases e : n = m
  · subst e
    obtain ⟨a, e, hv, -⟩ := visorStop_lane n s
    rw [hv]
    exact hP _ _ _ h
  · unfold visorStop
    dsimp only
    split
    · rw [State.lane_setLane, if_neg e]
      exact h
    · exact h

section
variable {s : State} {src : Src} {n : Fin 12} {v : Word} (h : s.reaches ((0x20 + n.val) * 0x1000 + 0x100))
include h

/-- LN_CFG refused: the lane's reject code, nothing else of the registers, and LN_REJ (R354). -/
theorem lnCfg_refused {r : Nat} (hr : (fld v 9 8 = 3 ∧ r = 1) ∨ (fld v 9 8 ≠ 3 ∧ 10 ≤ n.val ∧ n.val < 12 ∧ fld v 17 16 ≠ 0 ∧ r = 2)) : ∃ t, exec (.lnCfgWrite src n v) s = .next t ∧
    (t.lane n.val).rej = r ∧ (t.lane n.val).st = (s.lane n.val).st ∧ t.regs = s.regs ∧ bit (t.page (pLANE n.val)).stat 7 = true := by
  have hw := lnCfgWrite_refused (s := s) hr
  have hx : ((wLANE src.code n.val 0x100 v s).lane n.val).rej = r ∧ ((wLANE src.code n.val 0x100 v s).lane n.val).st = (s.lane n.val).st :=
    wLANE_cfg_keeps (lane_inv (P := fun x => x.rej = r ∧ x.st = (s.lane n.val).st) (fun _ _ h => h) n.val)
      (fun m _ h => visorStop_keeps (P := fun x => x.rej = r ∧ x.st = (s.lane n.val).st) (fun _ _ _ h => h) n.val m h) (by rw [hw]; simp [laneRej])
  have hregs := regs_inv s.regs
  have hbit := latched_inv (pLANE n.val) 7
  refine ⟨_, exec_lnCfgWrite h, hx.1, hx.2, ?_, ?_⟩
  · exact wLANE_cfg_keeps hregs.side (fun m _ h => hregs.visorStop m h) (by rw [hw]; simp [laneRej, laneRaise])
  · exact wLANE_cfg_keeps (P := fun t => bit (t.page (pLANE n.val)).stat 7 = true) hbit.side (fun m _ h => hbit.visorStop m h)
      (by rw [hw]; exact raise_latched _ _ _ (by decide))

/-- With EN 0 the lane is OFF without leave (R337). -/
theorem lnCfg_off (hr : fld v 9 8 ≠ 3) (hv : bit v 0 = false) (hn : n.val < 10) : ∃ t, exec (.lnCfgWrite src n v) s = .next t ∧ (t.lane n.val).st = 0 ∧
    (t.lane n.val).asking = false ∧ lnCfg_EN t n.val = 0 ∧ bgtHas 5 n.val t = false ∧ bgtAsking 5 n.val t = false := by
  have hw : lnCfgWrite n.val v s = laneOff n.val (s.cfgSet n.val v) := (lnCfgWrite_taken hr (.inl hn)).trans (if_pos hv)
  obtain ⟨a, e, hoff⟩ := laneOff_lane n.val (s.cfgSet n.val v)
  obtain ⟨hen, -⟩ := cfgSet_fields (n := n.val) (v := v) (s := s)
  have hx : ((withLane n.val (lnCfgWrite n.val v) s).lane n.val).st = 0 ∧ ((withLane n.val (lnCfgWrite n.val v) s).lane n.val).asking = false :=
    (lane_inv (P := fun x => x.st = 0 ∧ x.asking = false) (fun _ _ h => h) n.val).withLane (by rw [hw, hoff]; exact ⟨rfl, rfl⟩)
  have hregs : (withLane n.val (lnCfgWrite n.val v) s).regs = (s.cfgSet n.val v).regs := (regs_inv _).side.withLane (by rw [hw, laneOff_regs])
  have hbgt : (withLane n.val (lnCfgWrite n.val v) s).bgt = (laneOff n.val (s.cfgSet n.val v)).bgt := (bgt_inv _).withLane (by rw [hw])
  obtain ⟨hhas, hask⟩ := bgtHas_congr (laneOff n.val (s.cfgSet n.val v)) hbgt 5 n.val
  obtain ⟨hfree, hfree'⟩ := laneOff_free n.val (s.cfgSet n.val v)
  refine ⟨_, (exec_lnCfgWrite h).trans (by rw [wLANE_cfg hn]), hx.1, hx.2, ?_, hhas.trans hfree, hask.trans hfree'⟩
  rw [lnCfg_EN, rw_of_regs hregs]
  exact hen.trans (by rw [hv]; rfl)

/-- A PCIe lane takes the word; EN 0 of lane 10 takes the link down (R353). -/
theorem lnCfg_pcie (hr : fld v 9 8 ≠ 3) (hn : 10 ≤ n.val) (hl : fld v 17 16 = 0) : ∃ t, exec (.lnCfgWrite src n v) s = .next t ∧
    t.rw (lnCfgAt n.val) = v &&& 0xF0333B01#32 ∧ (t.lane n.val).rej = (s.lane n.val).rej ∧ (n.val = 10 → bit v 0 = false → t.pcie.up = false) ∧
    (bit v 0 = true → t.lane n.val = s.lane n.val ∧ t.pcie = s.pcie) := by
  have hp : lanePcie n.val = true := by simp [lanePcie]; omega
  have hup : laneBringUp n.val (s.cfgSet n.val v) = s.cfgSet n.val v := if_pos hp
  have htest : laneTest n.val (s.cfgSet n.val v) = s.cfgSet n.val v := if_pos (.inr hp)
  have hsync : withLane n.val (lnCfgWrite n.val v) s = lnCfgWrite n.val v s := by
    unfold withLane laneSync
    rw [if_pos (by omega), if_neg fun hc => by simp [laneEth] at hc; omega]
  obtain ⟨hen, -⟩ := cfgSet_fields (n := n.val) (v := v) (s := s)
  have hrw : (s.cfgSet n.val v).rw (lnCfgAt n.val) = v &&& 0xF0333B01#32 := by simp [State.cfgSet]
  refine ⟨_, exec_lnCfgWrite h, ?_⟩
  cases hv : bit v 0 with
  | true =>
    have hw : lnCfgWrite n.val v s = s.cfgSet n.val v := by
      rw [lnCfgWrite_taken hr (.inr hl), hv, if_neg (by decide), hup, htest, ite_self]
    have hs : wLANE src.code n.val 0x100 v s = s.cfgSet n.val v := by
      unfold wLANE
      rw [if_pos rfl, hsync, hw]
      refine if_neg fun ⟨h10, h0, _⟩ => ?_
      rw [h10] at hen
      rw [← h10, h10, hen, hv] at h0
      simp at h0
    rw [hs]
    exact ⟨hrw, rfl, fun _ h => by simp at h, fun _ => ⟨rfl, rfl⟩⟩
  | false =>
    have hw : lnCfgWrite n.val v s = laneOff n.val (s.cfgSet n.val v) := (lnCfgWrite_taken hr (.inr hl)).trans (if_pos hv)
    obtain ⟨a, e, hoff⟩ := laneOff_lane n.val (s.cfgSet n.val v)
    have hregs : (wLANE src.code n.val 0x100 v s).regs = (s.cfgSet n.val v).regs :=
      wLANE_cfg_keeps (regs_inv _).side (fun m _ h => (regs_inv _).visorStop m h) (by rw [hw, laneOff_regs])
    have hrej : ((wLANE src.code n.val 0x100 v s).lane n.val).rej = (s.lane n.val).rej :=
      wLANE_cfg_keeps (lane_inv (P := fun x => x.rej = (s.lane n.val).rej) (fun _ _ h => h) n.val)
        (fun m _ h => visorStop_keeps (P := fun x => x.rej = (s.lane n.val).rej) (fun _ _ _ h => h) n.val m h) (by rw [hw, hoff]; rfl)
    refine ⟨(rw_of_regs hregs _).trans hrw, hrej, fun h10 _ => ?_, fun h => by simp at h⟩
    have hen : lnCfg_EN (lnCfgWrite n.val v s) 10 = 0 := by
      rw [h10] at hw hen ⊢
      rw [hw, lnCfg_EN, rw_of_regs (laneOff_regs 10 _)]
      exact hen.trans (by rw [hv]; rfl)
    unfold wLANE
    rw [if_pos rfl, hsync]
    dsimp only
    split
    next hc => simp [pcieDown_pcie, hc.2.2]
    next hc => exact (Bool.not_eq_true _).mp fun hup => hc ⟨h10, hen, hup⟩

/-- A rise of EN brings the lane up: with leave on a ULK lane, without on an Ethernet lane (R337, R338, R352). -/
theorem lnCfg_up (hr : fld v 9 8 ≠ 3) (hv : bit v 0 = true) (hl : fld v 17 16 = 0) (hn : n.val < 10) (hen : lnCfg_EN s n.val = 0)
    (hdom : (s.dom (19 + n.val)).st ≠ 4) (hp : n.val < 2 → lnPrbs_GEN_EN s n.val = 0 ∧ lnPrbs_CHK_EN s n.val = 0) : ∃ t, exec (.lnCfgWrite src n v) s = .next t ∧
    (t.lane n.val).starts (s.cfgSet n.val v) n.val (if n.val < 8 then 1 else 2) (decide (n.val < 8)) ∧
    (n.val < 8 → leaveReq n.val s ∈ t.bgt.queue) ∧ (8 ≤ n.val → bgtAsking 5 n.val t = false) := by
  have hfree := cfgSet_free hl hp
  have htest : laneTest n.val (laneBringUp n.val (s.cfgSet n.val v)) = laneBringUp n.val (s.cfgSet n.val v) := by
    have hregs : (laneBringUp n.val (s.cfgSet n.val v)).regs = (s.cfgSet n.val v).regs := (regs_inv _).laneBringUp n.val rfl
    refine laneTest_idle (.inr ⟨(testWanted_of_regs hregs).trans hfree, fun h6 => ?_⟩)
    by_cases h8 : n.val < 8
    · obtain ⟨⟨hst, -⟩, -⟩ := laneBringUp_ulk n.val (s.cfgSet n.val v) h8
      omega
    · obtain ⟨⟨hst, -⟩, -⟩ := laneBringUp_eth n.val (s.cfgSet n.val v) (by omega) hn
      omega
  have hw : lnCfgWrite n.val v s = laneBringUp n.val (s.cfgSet n.val v) := by
    rw [lnCfgWrite_taken hr (.inl hn), hv, if_neg (by decide), if_pos ⟨hen, hdom⟩, htest]
  have hlane (k : Nat) (b : Bool) (hst : ((laneBringUp n.val (s.cfgSet n.val v)).lane n.val).starts (s.cfgSet n.val v) n.val k b) :
      ((withLane n.val (lnCfgWrite n.val v) s).lane n.val).starts (s.cfgSet n.val v) n.val k b :=
    (lane_inv (P := fun x => x.starts (s.cfgSet n.val v) n.val k b) (fun _ _ h => h) n.val).withLane (by rw [hw]; exact hst)
  have hbgt : (withLane n.val (lnCfgWrite n.val v) s).bgt = (laneBringUp n.val (s.cfgSet n.val v)).bgt := (bgt_inv _).withLane (by rw [hw])
  refine ⟨_, (exec_lnCfgWrite h).trans (by rw [wLANE_cfg hn]), ?_⟩
  by_cases h8 : n.val < 8
  · obtain ⟨hst, hq⟩ := laneBringUp_ulk n.val (s.cfgSet n.val v) h8
    rw [cfgSet_leave, ← hbgt] at hq
    simp only [h8, if_true, decide_true]
    exact ⟨hlane _ _ hst, fun _ => hq, fun h => absurd h8 (by omega)⟩
  · obtain ⟨hst, hb⟩ := laneBringUp_eth n.val (s.cfgSet n.val v) (by omega) hn
    simp only [h8, if_false, decide_false]
    refine ⟨hlane _ _ hst, fun h => h.elim, fun _ => ?_⟩
    exact (bgtHas_congr _ (hbgt.trans hb) 5 n.val).2.trans (laneOff_free ..).2

section
variable (hr : fld v 9 8 ≠ 3) (hv : bit v 0 = true) (hn : n.val < 10) (hen : lnCfg_EN s n.val = 1 ∨ (s.dom (19 + n.val)).st = 4)
include hr hv hn hen

/-- An enabled lane, or one without its domain, takes the word for its next bring-up; LOOP and PRBS have their say (R347, R354). -/
theorem lnCfg_kept : exec (.lnCfgWrite src n v) s = .next (withLane n.val (fun s => laneTest n.val (s.cfgSet n.val v)) s) := by
  have hw : lnCfgWrite n.val v s = laneTest n.val (s.cfgSet n.val v) := by
    rw [lnCfgWrite_taken hr (.inl hn), hv, if_neg (by decide), if_neg fun ⟨h0, h4⟩ => by
      obtain h | h := hen
      · simp [h0] at h
      · exact h4 h]
  rw [exec_lnCfgWrite h, wLANE_cfg hn, withLane, hw]
  rfl

theorem lnCfg_idle (hl : fld v 17 16 = 0) (hp : n.val < 2 → lnPrbs_GEN_EN s n.val = 0 ∧ lnPrbs_CHK_EN s n.val = 0) (h6 : (s.lane n.val).st ≠ 6)
    (he : 8 ≤ n.val → (s.lane n.val).st ≠ 5 → (s.eth (n.val - 8)).link = false) : exec (.lnCfgWrite src n v) s = .next (s.cfgSet n.val v) := by
  have hidle : laneTest n.val (s.cfgSet n.val v) = s.cfgSet n.val v := laneTest_idle (.inr ⟨cfgSet_free hl hp, h6⟩)
  rw [lnCfg_kept h hr hv hn hen, withLane_quiet (by rw [hidle]; exact fun _ => Iff.rfl) (by rw [hidle]; exact he), hidle]

theorem lnCfg_asleep (h0 : (s.lane n.val).st = 0) : ∃ t, exec (.lnCfgWrite src n v) s = .next t ∧ t.lane n.val = s.lane n.val ∧ t.rw (lnCfgAt n.val) = v &&& 0xF0333B01#32 := by
  have hidle : laneTest n.val (s.cfgSet n.val v) = s.cfgSet n.val v := laneTest_idle (.inl h0)
  refine ⟨_, lnCfg_kept h hr hv hn hen, ?_, ?_⟩
  · rw [withLane_lane (by rw [hidle]; exact fun _ => Iff.rfl), hidle]
    rfl
  · have hregs : (withLane n.val (fun s => laneTest n.val (s.cfgSet n.val v)) s).regs = (s.cfgSet n.val v).regs := (regs_inv _).side.withLane (by rw [hidle])
    rw [rw_of_regs hregs]
    simp [State.cfgSet]

theorem lnCfg_loop (hl : fld v 17 16 ≠ 0) (h0 : (s.lane n.val).st ≠ 0) : ∃ t, exec (.lnCfgWrite src n v) s = .next t ∧ (t.lane n.val).st = 6 ∧
    lnCfg_LOOP t n.val = fld v 17 16 := by
  obtain ⟨-, -, -, -, -, -, -, hloop⟩ := cfgSet_fields (n := n.val) (v := v) (s := s)
  have hregs : (withLane n.val (fun s => laneTest n.val (s.cfgSet n.val v)) s).regs = (s.cfgSet n.val v).regs :=
    (regs_inv _).side.withLane ((regs_inv _).laneTest n.val rfl)
  refine ⟨_, lnCfg_kept h hr hv hn hen, ?_, ?_⟩
  · exact (lane_inv (P := fun x => x.st = 6) (fun _ _ h => h) n.val).withLane (laneTest_enters hn h0 (cfgSet_held hl))
  · rw [lnCfg_LOOP, rw_of_regs hregs]
    exact hloop

theorem lnCfg_leaves (hl : fld v 17 16 = 0) (hp : n.val < 2 → lnPrbs_GEN_EN s n.val = 0 ∧ lnPrbs_CHK_EN s n.val = 0) (h6 : (s.lane n.val).st = 6) :
    ∃ t, exec (.lnCfgWrite src n v) s = .next t ∧ (t.lane n.val).st = 3 ∧ (t.lane n.val).blk = false ∧ (t.lane n.val).relock = some s.clk ∧ (t.lane n.val).visor = none :=
  ⟨_, lnCfg_kept h hr hv hn hen, (lane_inv (P := fun x => x.st = 3 ∧ x.blk = false ∧ x.relock = some s.clk ∧ x.visor = none) (fun _ _ h => h) n.val).withLane
    (laneTest_leaves (s := s.cfgSet n.val v) hn h6 (cfgSet_free hl hp))⟩

end

end

/-! ### LN_CTL -/

/-- The hub with LN_CTL written. -/
def State.ctlSet (s : State) (n : Nat) (v : Word) : State := s.setRw (lnCtlAt n) (v &&& 1#32)

section
variable {s : State} {n : Nat} {v : Word}

theorem ctlSet_other {a : Nat} (h : a ≠ lnCtlAt n) : (s.ctlSet n v).rw a = s.rw a := by simp [State.ctlSet, h]

theorem ctlSet_sleep : lnCtl_TX_SLEEP (s.ctlSet n v) n = (bit v 0).toNat := by
  rw [← fld_bit]
  simp only [State.ctlSet, lnCtl_TX_SLEEP, State.rw_setRw, if_true]
  exact fld_and_in _ _ _ _ (by decide)

theorem ctlSet_wanted : sleepWanted (s.ctlSet n v) n = (bit v 0 || (s.lane n).pmSleep) := by
  unfold sleepWanted
  rw [ctlSet_sleep]
  cases bit v 0 <;> rfl

theorem laneSleep_ctl_fields : (laneSleep n (s.ctlSet n v)).regs = (s.ctlSet n v).regs ∧ (laneSleep n (s.ctlSet n v)).st = s.st :=
  ⟨(regs_inv _).laneSleep n rfl, ((time_inv s.st s.clk).laneSleep (s := s.ctlSet n v) n ⟨rfl, rfl⟩).1⟩

theorem laneSleep_ctl_leave : leaveReq n (laneSleep n (s.ctlSet n v)) = leaveReq n s := by
  have ha : lnLeaveAt n ≠ lnCtlAt n := by simp [lnLeaveAt, lnCtlAt]
  obtain ⟨hregs, hst⟩ := laneSleep_ctl_fields (n := n) (s := s) (v := v)
  simp only [leaveReq, lnLeave_MW, lnLeave_MS, rw_of_regs hregs, hst, ctlSet_other ha]

/-- RETRAIN brings the lane up again (R337). -/
theorem lnCtlWrite_retrain (hv : bit v 1 = true) (hen : lnCfg_EN s n = 1) (h0 : (s.lane n).st ≠ 0) (h6 : (s.lane n).st ≠ 6) : lnCtlWrite n v s =
    (laneBringUp n (laneSleep n (s.ctlSet n v))).setLane n { (laneBringUp n (laneSleep n (s.ctlSet n v))).lane n with retrain := true } := by
  have ha : lnCfgAt n ≠ lnCtlAt n := by simp [lnCfgAt, lnCtlAt]
  obtain ⟨hregs, -⟩ := laneSleep_ctl_fields (n := n) (s := s) (v := v)
  obtain ⟨b, p, hx⟩ := laneSleep_lane (n := n) (s := s.ctlSet n v)
  have hst : ((laneSleep n (s.ctlSet n v)).lane n).st = (s.lane n).st := by rw [hx]; rfl
  have hen : lnCfg_EN (laneSleep n (s.ctlSet n v)) n = 1 := by rw [lnCfg_EN, rw_of_regs hregs, ctlSet_other ha]; exact hen
  exact if_pos (by rw [State.ctlSet] at hen hst; simp only [hv, hen, hst]; simp [h0, h6])

theorem lnCtlWrite_plain (h : bit v 1 = false ∨ (s.lane n).st = 0 ∨ (s.lane n).st = 6) : lnCtlWrite n v s = laneSleep n (s.ctlSet n v) := by
  obtain ⟨b, p, hx⟩ := laneSleep_lane (n := n) (s := s.ctlSet n v)
  have hst : ((laneSleep n (s.ctlSet n v)).lane n).st = (s.lane n).st := by rw [hx]; rfl
  rw [State.ctlSet] at hst
  refine if_neg ?_
  obtain h | h | h := h <;> simp [h, hst]

end

section
variable {s : State} {src : Src} {n : Fin 12}

/-- RETRAIN starts a bring-up of an enabled lane that is neither OFF nor in TEST (R337). -/
theorem lnCtl_retrain (h : s.reaches ((0x20 + n.val) * 0x1000 + 0x104)) (hn : n.val < 10) (hen : lnCfg_EN s n.val = 1) (h0 : (s.lane n.val).st ≠ 0) (h6 : (s.lane n.val).st ≠ 6) :
    ∃ t, exec (.lnCtlRetrain src n) s = .next t ∧ (t.lane n.val).retrain = true ∧
      (n.val < 8 → (t.lane n.val).st = 1 ∧ (t.lane n.val).asking = true ∧ leaveReq n.val s ∈ t.bgt.queue) ∧
      (8 ≤ n.val → (t.lane n.val).st = 2 ∧ bgtAsking 5 n.val t = false) := by
  have hw := lnCtlWrite_retrain (n := n.val) (v := s.orWord (lnCtlAt n.val) 2) (bit_or_two _) hen h0 h6
  generalize hu : laneSleep n.val (s.ctlSet n.val (s.orWord (lnCtlAt n.val) 2)) = u at hw
  have hlane (k : Nat) (b : Bool) (hst : ((laneBringUp n.val u).lane n.val).starts u n.val k b) : ((withLane n.val (lnCtlWrite n.val (s.orWord (lnCtlAt n.val) 2)) s).lane n.val).retrain = true ∧
      ((withLane n.val (lnCtlWrite n.val (s.orWord (lnCtlAt n.val) 2)) s).lane n.val).starts u n.val k b :=
    (lane_inv (P := fun x => x.retrain = true ∧ x.starts u n.val k b) (fun _ _ h => h) n.val).withLane (by rw [hw, State.lane_setLane, if_pos rfl]; exact ⟨rfl, hst⟩)
  have hbgt : (withLane n.val (lnCtlWrite n.val (s.orWord (lnCtlAt n.val) 2)) s).bgt = (laneBringUp n.val u).bgt := (bgt_inv _).withLane (by rw [hw]; simp)
  refine ⟨_, exec_lnCtlRetrain h, ?_⟩
  by_cases h8 : n.val < 8
  · obtain ⟨hst, hq⟩ := laneBringUp_ulk n.val u h8
    obtain ⟨hre, hs, ha, -⟩ := hlane _ _ hst
    rw [← hbgt, ← hu, laneSleep_ctl_leave] at hq
    exact ⟨hre, fun _ => ⟨hs, ha, hq⟩, fun h => absurd h8 (by omega)⟩
  · obtain ⟨hst, hb⟩ := laneBringUp_eth n.val u (by omega) hn
    obtain ⟨hre, hs, -⟩ := hlane _ _ hst
    exact ⟨hre, fun h => absurd h h8, fun _ => ⟨hs, (bgtHas_congr _ (hbgt.trans hb) 5 n.val).2.trans (laneOff_free ..).2⟩⟩

theorem lnCtl_retrain_idle (h : s.reaches ((0x20 + n.val) * 0x1000 + 0x104)) (h06 : (s.lane n.val).st = 0 ∨ (s.lane n.val).st = 6) :
    ∃ t, exec (.lnCtlRetrain src n) s = .next t ∧ t.lane n.val = s.lane n.val ∧ t.bgt = s.bgt := by
  have h5 : (s.lane n.val).st ≠ 5 := by omega
  have hw : lnCtlWrite n.val (s.orWord (lnCtlAt n.val) 2) s = s.ctlSet n.val (s.orWord (lnCtlAt n.val) 2) :=
    (lnCtlWrite_plain (.inr h06)).trans (laneSleep_idle (.inr (.inl h5)))
  refine ⟨_, exec_lnCtlRetrain h, ?_, (bgt_inv s.bgt).withLane (by rw [hw]; rfl)⟩
  rw [withLane_lane (by rw [hw]; exact fun _ => Iff.rfl), hw]
  rfl

/-- TX_SLEEP where nothing goes to sleep is stored and leaves the lane (R350). -/
theorem lnCtl_sleep_idle {b : Bool} (h : s.reaches ((0x20 + n.val) * 0x1000 + 0x104))
    (hi : 8 ≤ n.val ∨ (s.lane n.val).st ≠ 5 ∨ (s.lane n.val).txSleep = true ∨ (b = false ∧ (s.lane n.val).pmSleep = false)) :
    ∃ t, exec (.lnCtlTxSleep src n b) s = .next t ∧ t.lane n.val = s.lane n.val ∧ lnCtl_TX_SLEEP t n.val = b.toNat := by
  have hb : bit (txSleepWord b) 0 = b ∧ bit (txSleepWord b) 1 = false := by cases b <;> decide
  have hw : lnCtlWrite n.val (txSleepWord b) s = s.ctlSet n.val (txSleepWord b) := by
    refine (lnCtlWrite_plain (.inl hb.2)).trans (laneSleep_idle ?_)
    obtain h | h | h | ⟨h, h'⟩ := hi
    · exact .inl h
    · exact .inr (.inl h)
    · exact .inr (.inr (.inl h))
    · exact .inr (.inr (.inr (by rw [ctlSet_wanted, hb.1, h, h']; rfl)))
  have hregs : (withLane n.val (lnCtlWrite n.val (txSleepWord b)) s).regs = (s.ctlSet n.val (txSleepWord b)).regs := (regs_inv _).side.withLane (by rw [hw])
  refine ⟨_, exec_lnCtlTxSleep h, ?_, ?_⟩
  · rw [withLane_lane (by rw [hw]; exact fun _ => Iff.rfl), hw]
    rfl
  · rw [lnCtl_TX_SLEEP, rw_of_regs hregs]
    exact ctlSet_sleep.trans (by rw [hb.1])

/-- An UP ULK lane's transmitter goes to sleep as TX_SLEEP asks it (R350). -/
theorem lnCtl_sleep (h : s.reaches ((0x20 + n.val) * 0x1000 + 0x104)) (hn : n.val < 8) (h5 : (s.lane n.val).st = 5) (ht : (s.lane n.val).txSleep = false) :
    ∃ t, exec (.lnCtlTxSleep src n true) s = .next t ∧ (t.lane n.val).txSleep = true ∧ (t.lane n.val).st = 5 ∧ (t.lane n.val).pll = !(s.lane n.val).rxSleep ∧
      lnCtl_TX_SLEEP t n.val = 1 ∧ bit (t.page (pLANE n.val)).stat 6 = true ∧ WireOut.sleep n.val ∈ t.ring.wire := by
  have hw : lnCtlWrite n.val (txSleepWord true) s = laneRaise n.val 6 (wireOut (.sleep n.val)
      ((s.ctlSet n.val 1#32).setLane n.val { s.lane n.val with txSleep := true, pll := pllOf true (s.lane n.val).rxSleep })) :=
    (lnCtlWrite_plain (.inl (by decide))).trans (laneSleep_asleep hn h5 ht (by rw [ctlSet_wanted]; rfl))
  have hquiet : withLane n.val (lnCtlWrite n.val (txSleepWord true)) s = lnCtlWrite n.val (txSleepWord true) s :=
    withLane_quiet (by rw [hw]; simp [h5]) (fun h => absurd hn (by omega))
  refine ⟨_, (exec_lnCtlTxSleep h).trans (by rw [hquiet]), ?_⟩
  have hregs : (lnCtlWrite n.val (txSleepWord true) s).regs = (s.ctlSet n.val 1#32).regs := by rw [hw]; simp [laneRaise, wireOut]
  have hset : lnCtl_TX_SLEEP (lnCtlWrite n.val (txSleepWord true) s) n.val = 1 := by
    rw [lnCtl_TX_SLEEP, rw_of_regs hregs]
    exact ctlSet_sleep
  rw [hw] at hset ⊢
  exact ⟨by simp, by simp [h5], by simp [pllOf], hset, raise_latched _ _ _ (by decide), by simp [laneRaise, wireOut]⟩

end

/-! ### Leave and waking -/

section
variable {s : State} {n : Fin 12} (hs : s.supply.held = false)
include hs

/-- A second after a refusal the lane asks again (R338). -/
theorem exec_laneLeaveRetry_due {a : Nat} (ha : (s.lane n.val).retryAt = some a) (hc : a ≤ s.clk) (h1 : (s.lane n.val).st = 1) :
    ∃ t, exec (.laneLeaveRetry n) s = .next t ∧ (t.lane n.val).asking = true ∧ (t.lane n.val).retryAt = none ∧ leaveReq n.val s ∈ t.bgt.queue := by
  have hf : laneRetry n.val s = laneAsk n.val s := by
    unfold laneRetry
    rw [ha]
    exact if_pos ⟨h1, hc⟩
  have hx : ((withLane n.val (laneRetry n.val) s).lane n.val).asking = true ∧ ((withLane n.val (laneRetry n.val) s).lane n.val).retryAt = none :=
    (lane_inv (P := fun x => x.asking = true ∧ x.retryAt = none) (fun _ _ h => h) n.val).withLane (by rw [hf]; simp [laneAsk])
  have hbgt : (withLane n.val (laneRetry n.val) s).bgt = (laneAsk n.val s).bgt := (bgt_inv _).withLane (by rw [hf])
  refine ⟨_, act_live hs, hx.1, hx.2, ?_⟩
  rw [hbgt]
  simp [laneAsk, bgtAsk, leaveReq]

theorem exec_laneLeaveRetry_idle (hn : n.val < 8) (h : (s.lane n.val).st ≠ 1 ∨ (s.lane n.val).retryAt = none ∨ (∃ a, (s.lane n.val).retryAt = some a ∧ s.clk < a)) :
    exec (.laneLeaveRetry n) s = .next s := by
  have hf : laneRetry n.val s = s := by
    unfold laneRetry
    split
    next a ha =>
      refine if_neg fun ⟨h1, hc⟩ => ?_
      obtain h | h | ⟨b, hb, hlt⟩ := h
      · exact h h1
      · simp [h] at ha
      · rw [ha] at hb
        cases hb
        omega
    · rfl
  refine (act_live hs).trans (congrArg _ ?_)
  rw [withLane_quiet (by rw [hf]; exact fun _ => Iff.rfl) (fun h => absurd hn (by omega)), hf]

/-- With no request left the transmitter wakes and holds its link layer off for 256 IDLE blocks (R351). -/
theorem exec_laneTxWake_due (hn : n.val < 8) (ht : (s.lane n.val).txSleep = true) (hw : sleepWanted s n.val = false) :
    ∃ t, exec (.laneTxWake n) s = .next t ∧ (t.lane n.val).txSleep = false ∧ (t.lane n.val).pll = true ∧
      256 * blockPs (s.lane n.val).rate ≤ ((t.lane n.val).txFrom - s.clk) * 1000 ∧ bit (t.page (pLANE n.val)).stat 6 = true := by
  have hf : laneTxWake n.val s = laneRaise n.val 6 (s.setLane n.val { s.lane n.val with txSleep := false, pll := true, txFrom := s.clk + cdiv (256 * blockPs (s.lane n.val).rate) 1000, lastTx := s.clk }) :=
    if_pos (by simp [ht, hw])
  have hquiet : withLane n.val (laneTxWake n.val) s = laneTxWake n.val s := withLane_quiet (by rw [hf]; simp) (fun h => absurd hn (by omega))
  refine ⟨_, (act_live hs).trans (congrArg _ hquiet), ?_⟩
  rw [hf]
  refine ⟨by simp, by simp, ?_, raise_latched _ _ _ (by decide)⟩
  simp only [lane_laneRaise, State.lane_setLane, if_true, Nat.add_sub_cancel_left, cdiv, if_neg (show ¬(1000 = 0) by decide)]
  omega

theorem exec_laneTxWake_idle (hn : n.val < 8) (h : (s.lane n.val).txSleep = false ∨ sleepWanted s n.val = true) : exec (.laneTxWake n) s = .next s := by
  have hf : laneTxWake n.val s = s := if_neg (by obtain h | h := h <;> simp [h])
  refine (act_live hs).trans (congrArg _ ?_)
  rw [withLane_quiet (by rw [hf]; exact fun _ => Iff.rfl) (fun h => absurd hn (by omega)), hf]

end

/-! ### The statement -/

/-- The taps of a bring-up that LN_CFG starts (R339). -/
theorem startTaps_cfgSet {s : State} {n : Nat} {v : Word} :
    ((bit v 13 = false ∨ (s.lane n).upTaps = none ∨ 8 ≤ n) → startTaps n (s.cfgSet n v) = presetTaps s n (fld v 21 20)) ∧
    (∀ tp, bit v 13 = true → (s.lane n).upTaps = some tp → n < 8 → startTaps n (s.cfgSet n v) = tp) := by
  obtain ⟨-, -, -, -, -, hkeep, hpre, -⟩ := cfgSet_fields (n := n) (v := v) (s := s)
  unfold startTaps
  rw [cfgSet_lane, hkeep, hpre, cfgSet_preset]
  refine ⟨fun h => ?_, fun tp hv hu hn => ?_⟩
  · cases hu : (s.lane n).upTaps with
    | none => rfl
    | some tp =>
      refine if_neg fun ⟨h1, h8⟩ => ?_
      obtain h | h | h := h
      · simp [h] at h1
      · simp [hu] at h
      · simp [laneUlk] at h8; omega
  · rw [hu]
    exact if_pos ⟨by rw [hv]; rfl, by simpa [laneUlk] using hn⟩

/-- Settles O46: a write of LN_CFG by what it asks for, RETRAIN, the retried leave, and TX_SLEEP both ways. -/
theorem laneControl : Obligations.LaneControl := by
  refine ⟨fun s src n v h => ⟨fun hr => ?_, fun hr hn hl => ?_, fun hr hv hn => lnCfg_off h hr hv hn, fun hr hn hl => lnCfg_pcie h hr hn hl,
      fun hr hv hl hn hen hdom hp _ => ?_, fun hr hv hn hen => ⟨fun hl hp h6 he => lnCfg_idle h hr hv hn hen hl hp h6 he, fun h0 => lnCfg_asleep h hr hv hn hen h0,
        fun hl h0 => lnCfg_loop h hr hv hn hen hl h0, fun hl hp h6 => lnCfg_leaves h hr hv hn hen hl hp h6⟩⟩,
    fun s src n h hn => ⟨fun hen h0 h6 => lnCtl_retrain h hn hen h0 h6, fun h06 => lnCtl_retrain_idle h h06⟩,
    fun s n hs => ⟨fun a ha hc h1 => exec_laneLeaveRetry_due hs ha hc h1, fun hn h => exec_laneLeaveRetry_idle hs hn h⟩,
    fun s src n h _ => ⟨fun hn h5 ht => lnCtl_sleep h hn h5 ht, fun hi => ?_, fun hi => ?_⟩,
    fun s n hs hn => ⟨fun ht hw => exec_laneTxWake_due hs hn ht hw, fun h => exec_laneTxWake_idle hs hn h⟩⟩
  · exact lnCfg_refused h (.inl ⟨hr, rfl⟩)
  · obtain ⟨t, hx, hrej, -, hrest⟩ := lnCfg_refused (src := src) h (.inr ⟨hr, hn, n.isLt, hl, rfl⟩)
    exact ⟨t, hx, hrej, hrest⟩
  · obtain ⟨-, hrate, hswing, htx, hrx, -⟩ := cfgSet_fields (n := n.val) (v := v) (s := s)
    obtain ⟨t, hx, ⟨hst, hask, htaps, hx1, hx2, hx3, hx4⟩, hq, hno⟩ := lnCfg_up (src := src) h hr hv hl hn hen hdom hp
    obtain ⟨hpreset, hkept⟩ := startTaps_cfgSet (s := s) (n := n.val) (v := v)
    refine ⟨t, hx, hx1.trans hrate, hx2.trans (by rw [hswing]), hx3.trans (by rw [htx]; cases bit v 11 <;> rfl), hx4.trans (by rw [hrx]; cases bit v 12 <;> rfl),
      fun hc => htaps.trans (hpreset hc), fun tp hv hu hn => htaps.trans (hkept tp hv hu hn), fun h8 => ?_, fun h8 => ?_⟩
    · simp only [h8, if_true, decide_true] at hst hask
      exact ⟨hst, hask, hq h8⟩
    · rw [if_neg (by omega)] at hst
      exact ⟨hst, hno h8⟩
  · obtain ⟨t, hx, hl, hw⟩ := lnCtl_sleep_idle (src := src) (b := true) h (by tauto)
    exact ⟨t, hx, hl, hw⟩
  · obtain ⟨t, hx, hl, hw⟩ := lnCtl_sleep_idle (src := src) (b := false) h (by tauto)
    exact ⟨t, hx, hw, hl⟩

end Sys2Proof.Machine
end

section
/-! SUPPORT. The scrambler (R334) and the lane's moves under training (R335 to R343). -/

namespace Sys2Proof.Machine

/-! ### The scrambler of x^58 + x^39 + 1 (R334) -/

section
variable (prev : BitVec 58) (pay : BitVec 64)

/-- The bits at and above the next one are still clear. -/
theorem scrambleFrom_above (k i : Nat) (h : 58 + k ≤ i) : (scrambleFrom prev pay k).getLsbD i = false := by
  induction k with
  | zero => simp [scrambleFrom, BitVec.getLsbD_of_ge prev i (by omega)]
  | succ k ih =>
    have hk := ih (by omega)
    unfold scrambleFrom
    dsimp only
    split
    · simp [hk]; omega
    · exact hk

/-- A step sets its bit alone. -/
theorem scrambleFrom_step (k i : Nat) (hk : k < 64) : (scrambleFrom prev pay (k + 1)).getLsbD i =
    if i = 58 + k then (pay.getLsbD k ^^ (scrambleFrom prev pay k).getLsbD (19 + k)) ^^ (scrambleFrom prev pay k).getLsbD k else (scrambleFrom prev pay k).getLsbD i := by
  have hclear : (scrambleFrom prev pay k).getLsbD (58 + k) = false := scrambleFrom_above prev pay k _ (by omega)
  have hbit (f : BitVec 122) : (f ||| (1#122 <<< (58 + k))).getLsbD i = if i = 58 + k then true else f.getLsbD i := by
    rw [BitVec.getLsbD_or, BitVec.getLsbD_shiftLeft, BitVec.getLsbD_one]
    split
    next h => simp [h]; omega
    next h =>
      have hlt : i < 58 + k ∨ ¬i - (58 + k) = 0 := by omega
      obtain h | h := hlt <;> simp [h]
  rw [scrambleFrom]
  generalize ((pay.getLsbD k ^^ (scrambleFrom prev pay k).getLsbD (19 + k)) ^^ (scrambleFrom prev pay k).getLsbD k) = x
  cases x with
  | true => rw [if_pos rfl, hbit]
  | false =>
    rw [if_neg (by decide)]
    split
    next h => rw [h, hclear]
    · rfl

/-- What has been sent does not change. -/
theorem scrambleFrom_stable (k m i : Nat) (hi : i < 58 + k) (hm : k + m ≤ 64) : (scrambleFrom prev pay (k + m)).getLsbD i = (scrambleFrom prev pay k).getLsbD i := by
  induction m with
  | zero => rfl
  | succ m ih => rw [← Nat.add_assoc, scrambleFrom_step prev pay _ _ (by omega), if_neg (by omega), ih (by omega)]

/-- Each scrambled bit is the payload's bit exclusive-or the bits 39 and 58 before it. -/
theorem scrambleFrom_bit (k : Nat) (hk : k < 64) : (scrambleFrom prev pay 64).getLsbD (58 + k) =
    ((pay.getLsbD k ^^ (scrambleFrom prev pay 64).getLsbD (19 + k)) ^^ (scrambleFrom prev pay 64).getLsbD k) := by
  have hsent (j i : Nat) (hi : i < 58 + j) (hj : j ≤ 64) : (scrambleFrom prev pay 64).getLsbD i = (scrambleFrom prev pay j).getLsbD i := by
    have := scrambleFrom_stable prev pay j (64 - j) i hi (by omega)
    rwa [show j + (64 - j) = 64 by omega] at this
  rw [hsent (k + 1) (58 + k) (by omega) (by omega), hsent k (19 + k) (by omega) (by omega), hsent k k (by omega) (by omega), scrambleFrom_step prev pay k _ hk, if_pos rfl]

/-- The 58 bits before the block and its scrambled bits are the scrambled stream. -/
theorem scramble_stream : ((scramble prev pay).setWidth 122 <<< 58) ||| prev.setWidth 122 = scrambleFrom prev pay 64 := by
  have hlow (i : Nat) (hi : i < 58) : (scrambleFrom prev pay 64).getLsbD i = prev.getLsbD i := by
    have := scrambleFrom_stable prev pay 0 64 i (by omega) (by omega)
    rw [Nat.zero_add] at this
    rw [this]
    simp [scrambleFrom]
    omega
  apply BitVec.eq_of_getLsbD_eq
  intro i hi
  by_cases h : i < 58
  · rw [hlow i h]
    simp [h, hi]
  · have hp : prev.getLsbD i = false := BitVec.getLsbD_of_ge _ _ (by omega)
    have hadd : 58 + (i - 58) = i := by omega
    simp [scramble, hi, h, hp, hadd]
    omega

/-- Descrambling undoes scrambling. -/
theorem descramble_scramble : descramble prev (scramble prev pay) = pay := by
  unfold descramble
  rw [scramble_stream]
  apply BitVec.eq_of_getLsbD_eq
  intro k hk
  have hb := scrambleFrom_bit prev pay k hk
  simp only [hk, hb, BitVec.getLsbD_setWidth, BitVec.getLsbD_xor, BitVec.getLsbD_ushiftRight, decide_true, Bool.true_and]
  cases (scrambleFrom prev pay 64).getLsbD (19 + k) <;> cases (scrambleFrom prev pay 64).getLsbD k <;> cases pay.getLsbD k <;> rfl

end

/-! ### UP and its loss (R342, R343) -/

section
variable (n : Nat) (s : State)

theorem HubInv.laneUp {P : State → Prop} (hP : HubInv P) {s : State} (h : P s) : P (laneUp n s) :=
  hP.laneSleep n (hP.side.raise _ _ (hP.same (s := s) h (by simp [bgtRelease])))

theorem lane_bgtRelease (k r m : Nat) : (bgtRelease k r s).lane m = s.lane m := rfl

theorem laneSleep_bgt : (laneSleep n s).bgt = s.bgt := by
  unfold laneSleep
  dsimp only
  split <;> simp [laneRaise, wireOut]

/-- A lane enters UP with the taps in force; a waiting sleep request is served. -/
theorem laneUp_lane : ∃ t p, (laneUp n s).lane n = { s.lane n with
    st := 5, retrain := false, relock := none, wakeAt := none, upTaps := some ((s.lane n).pre, (s.lane n).post), lastTx := s.clk, lastRx := s.clk, frozen := false, txSleep := t, pll := p } := by
  unfold laneUp
  dsimp only
  obtain ⟨t, p, hx⟩ := laneSleep_lane (n := n) (s := laneRaise n 0 (bgtRelease 5 n (s.setLane n { s.lane n with
    st := 5, retrain := false, relock := none, wakeAt := none, upTaps := some ((s.lane n).pre, (s.lane n).post), lastTx := s.clk, lastRx := s.clk, frozen := false })))
  refine ⟨t, p, ?_⟩
  rw [hx, lane_laneRaise, lane_bgtRelease, State.lane_setLane, if_pos rfl]

theorem laneUp_event : bit ((laneUp n s).page (pLANE n)).stat 0 = true := (latched_inv (pLANE n) 0).laneSleep n (raise_latched _ _ _ (by decide))

theorem laneUp_free : bgtHas 5 n (laneUp n s) = false := by
  have hb : (laneUp n s).bgt = (bgtRelease 5 n s).bgt := (laneSleep_bgt n _).trans (by simp [laneRaise, bgtRelease])
  exact (bgtHas_congr _ hb 5 n).1.trans (bgtHas_bgtRelease ..)

/-- A lane that loses block lock leaves UP with its taps. -/
theorem laneLost_lane : ∃ a e, (laneLost n s).lane n = { s.lane n with
    visor := none, visorAbort := a, visorErr := e, st := 3, blk := false, cdr := false, relock := some s.clk, wakeAt := none, rxSleep := false, txSleep := false,
    frozen := false, pll := true, lockLoss := satInc 16 (s.lane n).lockLoss } := by
  obtain ⟨a, e, hv, -⟩ := visorStop_lane n s
  refine ⟨a, e, ?_⟩
  unfold laneLost
  dsimp only
  rw [lane_laneRaise, State.lane_setLane, if_pos rfl, sleepEnds_lane, hv]

theorem laneLost_event : bit ((laneLost n s).page (pLANE n)).stat 1 = true := raise_latched _ _ _ (by decide)

end

/-! ### Block lock (R335, R343, R352) -/

section
variable {n : Nat} {s : State}

theorem laneLock_up (h3 : (s.lane n).st = 3) (h : laneEth n = true ∨ (s.lane n).relock.isSome = true) :
    laneLock n s = laneUp n (s.setLane n { s.lane n with blk := true, cdr := true }) := by
  unfold laneLock
  dsimp only
  exact (if_pos h3).trans (if_pos h)

theorem laneLock_trains (hn : n < 8) (h3 : (s.lane n).st = 3) (h : (s.lane n).relock = none) : laneLock n s =
    wireOut (.train n (trainBody { s.lane n with blk := true, cdr := true, st := 4, lockAt := s.clk, rxReady := false, gotReady := 0 }))
      ((s.setLane n { s.lane n with blk := true, cdr := true }).setLane n { s.lane n with blk := true, cdr := true, st := 4, lockAt := s.clk, rxReady := false, gotReady := 0 }) := by
  have he : ¬(laneEth n = true ∨ (s.lane n).relock.isSome = true) := by simp [laneEth, h]; omega
  unfold laneLock
  dsimp only
  rw [if_pos h3, if_neg he]
  simp [trainOut, h3]

theorem laneLock_other (h : (s.lane n).st ≠ 3) (h5 : (s.lane n).st ≠ 5) (h6 : (s.lane n).st ≠ 6) : laneLock n s = s := by
  unfold laneLock
  dsimp only
  rw [if_neg h, if_neg h5, if_neg h6]

end

/-! ### TRAIN blocks (R340 to R342) -/

/-- What a lane takes of byte 1 of a TRAIN block it hears: the far end's RX_READY. -/
def LaneSt.hearReady (b : List Nat) (y : LaneSt) : LaneSt :=
  { y with farReady := y.farReady || (b.getD 0 0).testBit 5, gotReady := if y.rxReady && decide (y.st = 4) then (if (b.getD 0 0).testBit 5 then y.gotReady + 1 else 0) else y.gotReady }

/-- What it takes of byte 4: the ACK of its own request. -/
def LaneSt.hearAck (clk : Nat) (b : List Nat) (y : LaneSt) : LaneSt :=
  if y.ackAt.isNone && decide (b.getD 3 0 % 256 = y.seq) then { y with ackAt := some clk, req := 0 } else y

/-- Its last request was acknowledged 50 µs ago, or there was none. -/
def LaneSt.ackFree (clk : Nat) (y : LaneSt) : Bool := match y.ackAt with | some t => decide (t = 0) || decide (t + 50000 ≤ clk) | none => false

/-- Its next request. -/
def LaneSt.asks (clk ask askP : Nat) (y : LaneSt) : LaneSt :=
  if decide (y.st = 4) && !y.rxReady && y.ackFree clk && decide (ask % 32 ≠ 0) then
    { y with seq := (y.seq + 1) % 256, req := ask % 32, reqPreset := askP % 4, ackAt := none }
  else y

/-- A lane after a TRAIN block of bytes `b` whose request it has applied. -/
def LaneSt.heard (clk : Nat) (b : List Nat) (ask askP : Nat) (y : LaneSt) : LaneSt := ((y.hearReady b).hearAck clk b).asks clk ask askP

/-- A lane that has applied the far end's request: byte 1, its SEQ and, for a preset, the preset's taps. -/
def LaneSt.tapped (x : LaneSt) (b1 seq : Nat) (preset : Nat × Nat) : LaneSt :=
  if seq % 256 = x.ack then x
  else if b1.testBit 4 then { x with pre := preset.1, post := preset.2, ack := seq % 256, stsPre := 1, stsPost := 1 }
  else { x with pre := (tapStep (b1 % 4) x.pre 8).1, post := (tapStep (b1 / 4 % 4) x.post 16).1, ack := seq % 256, stsPre := (tapStep (b1 % 4) x.pre 8).2, stsPost := (tapStep (b1 / 4 % 4) x.post 16).2 }

section
variable {n : Nat} {s : State} {b : List Nat} {ask askP : Nat}

theorem tapApply_lane (b1 seq preset : Nat) : (tapApply n b1 seq preset s).lane n = (s.lane n).tapped b1 seq (presetTaps s n (preset % 4)) := by
  unfold tapApply LaneSt.tapped
  dsimp only
  split
  · rfl
  · split <;> simp

theorem tapApply_clk (b1 seq preset : Nat) : (tapApply n b1 seq preset s).clk = s.clk := by
  unfold tapApply
  dsimp only
  split
  · rfl
  · split <;> simp

theorem laneTrain_eq (h : (s.lane n).st = 4 ∨ (s.lane n).st = 5) : ∃ u : State, laneTrain n b ask askP s = laneTryUp n u ∧ u.clk = s.clk ∧
    u.lane n = ((s.lane n).tapped (b.getD 0 0) (b.getD 2 0) (presetTaps s n (b.getD 4 0 % 4))).heard s.clk b ask askP := by
  refine ⟨trainOut n (s.lane n) ((tapApply n (b.getD 0 0) (b.getD 2 0) (b.getD 4 0) s).setLane n (((tapApply n (b.getD 0 0) (b.getD 2 0) (b.getD 4 0) s).lane n).heard s.clk b ask askP)),
    if_pos h, ?_, ?_⟩
  · unfold trainOut
    split <;> simp [wireOut, tapApply_clk]
  · rw [lane_trainOut, State.lane_setLane, if_pos rfl, tapApply_lane]

/-- Applying a request moves the taps, their statuses and the SEQ applied last. -/
theorem tapped_fixed (x : LaneSt) (b1 seq : Nat) (p : Nat × Nat) : ∃ pre post ack sp sq, x.tapped b1 seq p = { x with pre := pre, post := post, ack := ack, stsPre := sp, stsPost := sq } ∧
    ack = seq % 256 := by
  unfold LaneSt.tapped
  split
  next h => exact ⟨_, _, _, _, _, rfl, h.symm⟩
  · split <;> exact ⟨_, _, _, _, _, rfl, rfl⟩

theorem hearAck_fixed (clk : Nat) (y : LaneSt) : ∃ ak rq, y.hearAck clk b = { y with ackAt := ak, req := rq } := by
  unfold LaneSt.hearAck
  split <;> exact ⟨_, _, rfl⟩

theorem asks_fixed (clk : Nat) (y : LaneSt) : ∃ ak rq sq rp, y.asks clk ask askP = { y with ackAt := ak, req := rq, seq := sq, reqPreset := rp } := by
  unfold LaneSt.asks
  split <;> exact ⟨_, _, _, _, rfl⟩

/-- What a lane hears leaves its state, its taps and what it reports of them. -/
theorem heard_fixed (clk : Nat) (y : LaneSt) : ∃ ak rq sq rp, y.heard clk b ask askP = { y.hearReady b with ackAt := ak, req := rq, seq := sq, reqPreset := rp } := by
  obtain ⟨_, _, h1⟩ := hearAck_fixed (b := b) clk (y.hearReady b)
  obtain ⟨_, _, _, _, h2⟩ := asks_fixed (ask := ask) (askP := askP) clk ((y.hearReady b).hearAck clk b)
  exact ⟨_, _, _, _, by rw [LaneSt.heard, h2, h1]⟩

end

end Sys2Proof.Machine
end

section
/-! PROOFS. From PLL through LOCKING and TRAINING to UP, and back when lock is lost (R334 to R343, R350 to R352). -/

namespace Sys2Proof.Machine

/-- What the tap requests of a received block move: PRE and POST by their codes, within their ranges (R340). -/
theorem tapStep_value (req v top : Nat) (h : v ≤ top) : (tapStep req v top).1 = (if req = 1 then min top (v + 1) else if req = 2 then v - 1 else v) ∧
    (req = 1 ∧ v = top ∨ req = 2 ∧ v = 0 → (tapStep req v top).2 = 2) := by
  unfold tapStep
  split
  next h1 =>
    split
    · exact ⟨(by omega : v + 1 = min top (v + 1)), fun hc => by omega⟩
    · exact ⟨(by omega : v = min top (v + 1)), fun _ => rfl⟩
  next h1 =>
    split
    · split
      · exact ⟨rfl, fun hc => by omega⟩
      · exact ⟨(by omega : v = v - 1), fun _ => rfl⟩
    · exact ⟨rfl, fun hc => by omega⟩

section
variable {s : State} {n : Fin 12} (hs : s.supply.held = false)
include hs

/-- Where a lane's move changes nothing, its command changes nothing. -/
theorem exec_withLane_idle {i : Instr} {f : State → State} (hx : exec i s = act (withLane n.val f) s) (hf : f s = s)
    (he : 8 ≤ n.val → (s.lane n.val).st ≠ 5 → (s.eth (n.val - 8)).link = false) : exec i s = .next s := by
  rw [hx, act_live hs, withLane_quiet (by rw [hf]; exact fun _ => Iff.rfl) (by rw [hf]; exact he), hf]

end

section
variable {s : State} {n : Fin 12} (hs : s.supply.held = false) (he : 8 ≤ n.val → (s.lane n.val).st ≠ 5 → (s.eth (n.val - 8)).link = false)
include hs

section
include he

theorem exec_lanePllLock_due (h : (s.lane n.val).st = 2) : exec (.lanePllLock n) s = .next (s.setLane n.val { s.lane n.val with st := 3, pll := true }) := by
  have hf : lanePll n.val s = s.setLane n.val { s.lane n.val with st := 3, pll := true } := if_pos h
  refine (act_live hs).trans (congrArg _ ?_)
  rw [withLane_quiet (by rw [hf]; simp [h]) (by rw [hf]; exact fun h8 _ => by simpa using he h8 (by omega)), hf]

theorem exec_laneBlockLock_test (h : (s.lane n.val).st = 6) : exec (.laneBlockLock n) s = .next (s.setLane n.val { s.lane n.val with blk := true, cdr := true }) := by
  have hf : laneLock n.val s = s.setLane n.val { s.lane n.val with blk := true, cdr := true } := by
    unfold laneLock
    dsimp only
    rw [if_neg (by omega), if_neg (by omega), if_pos h]
  refine (act_live hs).trans (congrArg _ ?_)
  rw [withLane_quiet (by rw [hf]; simp) (by rw [hf]; exact fun h8 _ => by simpa using he h8 (by omega)), hf]

end

/-- Block lock leads a ULK lane in bring-up to TRAINING, which it sends TRAIN blocks in (R337, R341). -/
theorem exec_laneBlockLock_trains (hn : n.val < 8) (h3 : (s.lane n.val).st = 3) (hr : (s.lane n.val).relock = none) :
    ∃ t, exec (.laneBlockLock n) s = .next t ∧ (t.lane n.val).st = 4 ∧ (t.lane n.val).blk = true ∧ (t.lane n.val).lockAt = s.clk ∧ (t.lane n.val).rxReady = false ∧
      WireOut.train n.val (trainBody (t.lane n.val)) ∈ t.ring.wire := by
  have hf := laneLock_trains hn h3 hr
  have hquiet : withLane n.val (laneLock n.val) s = laneLock n.val s := withLane_quiet (by rw [hf]; simp [h3]) (fun h => absurd hn (by omega))
  refine ⟨_, (act_live hs).trans (congrArg _ hquiet), ?_⟩
  rw [hf]
  simp [wireOut, State.lane, State.setLane]

/-- A relocking or Ethernet lane goes straight UP with its taps (R343, R352). -/
theorem exec_laneBlockLock_up (h3 : (s.lane n.val).st = 3) (h : laneEth n.val = true ∨ (s.lane n.val).relock.isSome = true) :
    ∃ t, exec (.laneBlockLock n) s = .next t ∧ (t.lane n.val).st = 5 ∧ (t.lane n.val).pre = (s.lane n.val).pre ∧ (t.lane n.val).post = (s.lane n.val).post ∧
      bit (t.page (pLANE n.val)).stat 0 = true := by
  have hf := laneLock_up h3 h
  obtain ⟨t, p, hx⟩ := laneUp_lane n.val (s.setLane n.val { s.lane n.val with blk := true, cdr := true })
  obtain ⟨h1, h2, h3⟩ := (lane_inv (P := fun x => x.st = 5 ∧ x.pre = (s.lane n.val).pre ∧ x.post = (s.lane n.val).post) (fun _ _ h => h) n.val).withLane (f := laneLock n.val) (s := s)
    (by rw [hf, hx]; simp)
  exact ⟨_, act_live hs, h1, h2, h3, (latched_inv (pLANE n.val) 0).side.withLane (by rw [hf]; exact laneUp_event ..)⟩

theorem exec_laneBlockLock_relocked (h5 : (s.lane n.val).st = 5) : ∃ t, exec (.laneBlockLock n) s = .next t ∧
    t.lane n.val = { s.lane n.val with blk := true, cdr := true, wakeAt := none } := by
  have hf : (laneLock n.val s).lane n.val = { s.lane n.val with blk := true, cdr := true, wakeAt := none } := by
    unfold laneLock
    dsimp only
    rw [if_neg (by omega), if_pos h5]
    simp
  exact ⟨_, act_live hs, (withLane_lane (by rw [hf]; exact fun _ => Iff.rfl)).trans hf⟩

/-- TRAIN_TMO after block lock the lane enters UP with the taps in force (R342). -/
theorem exec_lnTrainTimeout_due (h4 : (s.lane n.val).st = 4) (hd : (s.lane n.val).lockAt + max 1 (lnTrain_TRAIN_TMO s n.val) * 1000000 ≤ s.clk) :
    ∃ t, exec (.lnTrainTimeout n) s = .next t ∧ (t.lane n.val).st = 5 ∧ (t.lane n.val).trainTmo = true ∧ (t.lane n.val).pre = (s.lane n.val).pre ∧
      (t.lane n.val).post = (s.lane n.val).post ∧ bit (t.page (pLANE n.val)).stat 2 = true := by
  have hf : laneTrainTmo n.val s = laneUp n.val (laneRaise n.val 2 (s.setLane n.val { s.lane n.val with trainTmo := true })) := if_pos ⟨h4, hd⟩
  obtain ⟨t, p, hx⟩ := laneUp_lane n.val (laneRaise n.val 2 (s.setLane n.val { s.lane n.val with trainTmo := true }))
  obtain ⟨h1, h2, h3, h4⟩ := (lane_inv (P := fun x => x.st = 5 ∧ x.trainTmo = true ∧ x.pre = (s.lane n.val).pre ∧ x.post = (s.lane n.val).post) (fun _ _ h => h) n.val).withLane
    (f := laneTrainTmo n.val) (s := s) (by rw [hf, hx]; simp)
  have hevt := latched_inv (pLANE n.val) 2
  exact ⟨_, act_live hs, h1, h2, h3, h4, hevt.side.withLane (by rw [hf]; exact hevt.laneUp n.val (raise_latched _ _ _ (by decide)))⟩

/-- Convergence sets RX_READY in the TRAIN blocks sent (R342). -/
theorem exec_rxConverged_due (hn : n.val < 8) (h4 : (s.lane n.val).st = 4) (hr : (s.lane n.val).rxReady = false) :
    exec (.rxConverged n) s = .next (wireOut (.train n.val (trainBody { s.lane n.val with rxReady := true, cvAt := s.clk, gotReady := 0 }))
      (s.setLane n.val { s.lane n.val with rxReady := true, cvAt := s.clk, gotReady := 0 })) := by
  have hbody : trainBody (s.lane n.val) ≠ trainBody { s.lane n.val with rxReady := true, cvAt := s.clk, gotReady := 0 } := by
    simp [trainBody, hr]
  have hf : laneConverged n.val s = wireOut (.train n.val (trainBody { s.lane n.val with rxReady := true, cvAt := s.clk, gotReady := 0 }))
      (s.setLane n.val { s.lane n.val with rxReady := true, cvAt := s.clk, gotReady := 0 }) := by
    unfold laneConverged
    rw [if_pos ⟨h4, by simp [hr]⟩, trainOut, if_pos (by simpa [h4] using hbody)]
    simp
  refine (act_live hs).trans (congrArg _ ?_)
  rw [withLane_quiet (by rw [hf]; simp) (fun h => absurd hn (by omega)), hf]

/-! ### Loss of lock (R343, R350, R351) -/

omit hs in
theorem laneLoss_eq {bad : Nat} (hb : (s.lane n.val).blk = true) (hr : (s.lane n.val).rxSleep = false) : laneLoss n.val bad s =
    (fun s1 : State => if (s.lane n.val).st = 5 then laneLost n.val s1
      else if (s.lane n.val).st = 4 then s1.setLane n.val { s1.lane n.val with st := 3, blk := false, cdr := false, rxReady := false }
      else s1.setLane n.val { s1.lane n.val with blk := false, cdr := false }) (s.setLane n.val { s.lane n.val with badHdr := satU 16 ((s.lane n.val).badHdr + bad) }) :=
  if_pos (by simp [hb, hr])

/-- An UP lane that loses lock leaves UP. -/
theorem exec_laneLockLoss_up {bad : Nat} (hb : (s.lane n.val).blk = true) (hr : (s.lane n.val).rxSleep = false) (h5 : (s.lane n.val).st = 5) :
    ∃ t, exec (.laneLockLoss n bad) s = .next t ∧ (t.lane n.val).blk = false ∧ (t.lane n.val).badHdr = satU 16 ((s.lane n.val).badHdr + bad) ∧
      (t.lane n.val).pre = (s.lane n.val).pre ∧ (t.lane n.val).post = (s.lane n.val).post ∧ (t.lane n.val).st = 3 ∧
      (t.lane n.val).lockLoss = satInc 16 (s.lane n.val).lockLoss ∧ (t.lane n.val).relock = some s.clk ∧ bit (t.page (pLANE n.val)).stat 1 = true := by
  have hf : laneLoss n.val bad s = laneLost n.val (s.setLane n.val { s.lane n.val with badHdr := satU 16 ((s.lane n.val).badHdr + bad) }) := by
    rw [laneLoss_eq hb hr]
    exact if_pos h5
  obtain ⟨a, e, hx⟩ := laneLost_lane n.val (s.setLane n.val { s.lane n.val with badHdr := satU 16 ((s.lane n.val).badHdr + bad) })
  obtain ⟨h1, h2, h3, h4, h5, h6, h7⟩ := (lane_inv (P := fun x => x.blk = false ∧ x.badHdr = satU 16 ((s.lane n.val).badHdr + bad) ∧ x.pre = (s.lane n.val).pre ∧
    x.post = (s.lane n.val).post ∧ x.st = 3 ∧ x.lockLoss = satInc 16 (s.lane n.val).lockLoss ∧ x.relock = some s.clk) (fun _ _ h => h) n.val).withLane
    (f := laneLoss n.val bad) (s := s) (by rw [hf, hx]; simp)
  exact ⟨_, act_live hs, h1, h2, h3, h4, h5, h6, h7, (latched_inv (pLANE n.val) 1).side.withLane (by rw [hf]; exact laneLost_event ..)⟩

include he in
/-- A lane that is not UP loses its lock in silence; a training one locks again. -/
theorem exec_laneLockLoss_other {bad : Nat} (hb : (s.lane n.val).blk = true) (hr : (s.lane n.val).rxSleep = false) (h5 : (s.lane n.val).st ≠ 5) :
    ∃ t, exec (.laneLockLoss n bad) s = .next t ∧ (t.lane n.val).blk = false ∧ (t.lane n.val).badHdr = satU 16 ((s.lane n.val).badHdr + bad) ∧
      (t.lane n.val).pre = (s.lane n.val).pre ∧ (t.lane n.val).post = (s.lane n.val).post ∧ (t.lane n.val).st = (if (s.lane n.val).st = 4 then 3 else (s.lane n.val).st) ∧
      t.page (pLANE n.val) = s.page (pLANE n.val) := by
  have hf := laneLoss_eq (bad := bad) hb hr
  dsimp only at hf
  rw [if_neg h5] at hf
  by_cases h4 : (s.lane n.val).st = 4
  · rw [if_pos h4] at hf
    have hquiet : withLane n.val (laneLoss n.val bad) s = laneLoss n.val bad s :=
      withLane_quiet (by rw [hf]; simp [h4]) (by rw [hf]; exact fun h8 _ => by simpa using he h8 (by omega))
    refine ⟨_, (act_live hs).trans (congrArg _ hquiet), ?_⟩
    rw [hf]
    simp [h4]
  · rw [if_neg h4] at hf
    have hquiet : withLane n.val (laneLoss n.val bad) s = laneLoss n.val bad s :=
      withLane_quiet (by rw [hf]; simp) (by rw [hf]; exact fun h8 _ => by simpa using he h8 h5)
    refine ⟨_, (act_live hs).trans (congrArg _ hquiet), ?_⟩
    rw [hf]
    simp [h4]

/-- RELOCK_MS without lock: a full bring-up (R343). -/
theorem exec_laneRelockExpiry_bringUp {a : Nat} (hn : n.val < 10) (h3 : (s.lane n.val).st = 3) (ha : (s.lane n.val).relock = some a)
    (hd : a + max 1 (lnTrain_RELOCK_MS s n.val) * 1000000 ≤ s.clk) : ∃ t, exec (.laneRelockExpiry n) s = .next t ∧ (8 ≤ n.val → (t.lane n.val).st = 2) ∧
      (n.val < 8 → (t.lane n.val).st = 1 ∧ (t.lane n.val).asking = true ∧ leaveReq n.val s ∈ t.bgt.queue) := by
  have hf : laneRelockEnd n.val s = laneBringUp n.val s := by
    unfold laneRelockEnd
    dsimp only
    rw [ha]
    exact if_pos ⟨h3, hd⟩
  have hbgt : (withLane n.val (laneRelockEnd n.val) s).bgt = (laneBringUp n.val s).bgt := (bgt_inv _).withLane (by rw [hf])
  have hlane (k : Nat) (b : Bool) (hst : ((laneBringUp n.val s).lane n.val).starts s n.val k b) : ((withLane n.val (laneRelockEnd n.val) s).lane n.val).starts s n.val k b :=
    (lane_inv (P := fun x => x.starts s n.val k b) (fun _ _ h => h) n.val).withLane (by rw [hf]; exact hst)
  refine ⟨_, act_live hs, fun h8 => ?_, fun h8 => ?_⟩
  · obtain ⟨hst, -⟩ := laneBringUp_eth n.val s h8 hn
    obtain ⟨hst, -⟩ := hlane _ _ hst
    exact hst
  · obtain ⟨hst, hq⟩ := laneBringUp_ulk n.val s h8
    obtain ⟨hst, hask, -⟩ := hlane _ _ hst
    exact ⟨hst, hask, by rw [hbgt]; exact hq⟩

/-- After a wake the lane leaves UP first (R351). -/
theorem exec_laneRelockExpiry_lost {a : Nat} (h5 : (s.lane n.val).st = 5) (hr : (s.lane n.val).relock = none) (ha : (s.lane n.val).wakeAt = some a)
    (hd : a + max 1 (lnTrain_RELOCK_MS s n.val) * 1000000 ≤ s.clk) : ∃ t, exec (.laneRelockExpiry n) s = .next t ∧ (t.lane n.val).st = 3 ∧
      (t.lane n.val).relock = some s.clk ∧ (t.lane n.val).lockLoss = satInc 16 (s.lane n.val).lockLoss ∧ bit (t.page (pLANE n.val)).stat 1 = true := by
  have hf : laneRelockEnd n.val s = laneLost n.val s := by
    unfold laneRelockEnd
    dsimp only
    rw [hr, ha]
    exact if_pos ⟨h5, hd⟩
  obtain ⟨b, e, hx⟩ := laneLost_lane n.val s
  obtain ⟨h1, h2, h3⟩ := (lane_inv (P := fun x => x.st = 3 ∧ x.relock = some s.clk ∧ x.lockLoss = satInc 16 (s.lane n.val).lockLoss) (fun _ _ h => h) n.val).withLane
    (f := laneRelockEnd n.val) (s := s) (by rw [hf, hx]; exact ⟨rfl, rfl, rfl⟩)
  exact ⟨_, act_live hs, h1, h2, h3, (latched_inv (pLANE n.val) 1).side.withLane (by rw [hf]; exact laneLost_event ..)⟩

end

/-- Before RELOCK_MS has passed nothing follows. -/
theorem laneRelockEnd_idle {s : State} {n : Nat}
    (hr : ∀ a, (s.lane n).relock = some a → (s.lane n).st ≠ 3 ∨ s.clk < a + max 1 (lnTrain_RELOCK_MS s n) * 1000000)
    (hw : ∀ a, (s.lane n).relock = none → (s.lane n).wakeAt = some a → (s.lane n).st ≠ 5 ∨ s.clk < a + max 1 (lnTrain_RELOCK_MS s n) * 1000000) :
    laneRelockEnd n s = s := by
  unfold laneRelockEnd
  dsimp only
  cases ha : (s.lane n).relock with
  | some a => exact if_neg fun ⟨h3, hd⟩ => by have := hr a ha; omega
  | none =>
    cases hb : (s.lane n).wakeAt with
    | some b => exact if_neg fun ⟨h5, hd⟩ => by have := hw b ha hb; omega
    | none => rfl

/-! ### Received blocks (R336, R340 to R342) -/

/-- A byte of a block's payload. -/
def payByte (s : State) (n : Nat) (b : LineBlk) (i : Nat) : Nat :=
  (payBytes (descramble (unpol (s.lane n).polRx b).prev (unpol (s.lane n).polRx b).bits)).getD i 0

theorem payByte_lt (s : State) (n : Nat) (b : LineBlk) (i : Nat) : payByte s n b i < 256 := by
  unfold payByte payBytes
  rw [List.getD_eq_getElem?_getD, List.getElem?_map]
  cases (List.range 8)[i]? with
  | none => simp
  | some j => exact Nat.mod_lt _ (by decide)

section
variable {s : State} {n : Fin 12} {b : LineBlk} {ask : Fin 32} {preset : Fin 4}

/-- What an UP or training lane with lock makes of a block, by its header and its first byte. -/
theorem lineRx_eq (hn : n.val < 8) (hb : (s.lane n.val).blk = true) (hr : (s.lane n.val).rxSleep = false) : lineRx n.val b ask.val preset.val s =
    if (unpol (s.lane n.val).polRx b).hdr = 1#2 then
      (if !(laneRxOk s n.val) then laneRxData n.val s
       else if payByte s n.val b 0 = 0x0B then keepAliveRx n.val (payByte s n.val b 2 + 2 ^ 8 * payByte s n.val b 3) ((payByte s n.val b 4).testBit 0) ((payByte s n.val b 4).testBit 1) s
       else badCtlRx n.val (laneRxData n.val s))
    else if (unpol (s.lane n.val).polRx b).hdr ≠ 2#2 ∨ (3 ≤ payByte s n.val b 0 ∧ payByte s n.val b 0 < 16) then badHdrRx n.val s
    else if payByte s n.val b 0 = 1 then
      laneTrain n.val ((payBytes (descramble (unpol (s.lane n.val).polRx b).prev (unpol (s.lane n.val).polRx b).bits)).drop 1) ask.val preset.val s
    else if payByte s n.val b 0 = 2 then laneRxSleep n.val s
    else if payByte s n.val b 0 = 0x12 then ackRx n.val (payByte s n.val b 1 + 2 ^ 8 * payByte s n.val b 2) ((payByte s n.val b 3).testBit 0) s
    else if payByte s n.val b 0 = 0x13 then resetRx n.val s
    else if 0x14 ≤ payByte s n.val b 0 ∧ laneRxOk s n.val then badCtlRx n.val s
    else s :=
  if_neg (by simp [laneUlk, hn, hb, hr])

theorem exec_trainBlockRx_quiet {t : State} (hs : s.supply.held = false) (hn : n.val < 8) (hf : lineRx n.val b ask.val preset.val s = t)
    (hst : (t.lane n.val).st = (s.lane n.val).st) : exec (.trainBlockRx n b ask preset) s = .next t := by
  refine (act_live hs).trans (congrArg _ ?_)
  rw [withLane_quiet (by rw [hf, hst]; exact fun _ => Iff.rfl) (fun h => absurd hn (by omega)), hf]

/-- A lane after a TRAIN block: the far end's request applied, its report heard. -/
def trainedLane (s : State) (n : Nat) (b : LineBlk) (ask askP : Nat) : LaneSt :=
  ((s.lane n).tapped (payByte s n b 1) (payByte s n b 3) (presetTaps s n (payByte s n b 5 % 4))).heard s.clk
    ((payBytes (descramble (unpol (s.lane n).polRx b).prev (unpol (s.lane n).polRx b).bits)).drop 1) ask askP

theorem lineRx_train (hn : n.val < 8) (hb : (s.lane n.val).blk = true) (hr : (s.lane n.val).rxSleep = false) (h2 : (unpol (s.lane n.val).polRx b).hdr = 2#2)
    (h1 : payByte s n.val b 0 = 1) (hst : (s.lane n.val).st = 4 ∨ (s.lane n.val).st = 5) : ∃ u : State, lineRx n.val b ask.val preset.val s = laneTryUp n.val u ∧
      u.clk = s.clk ∧ u.lane n.val = trainedLane s n.val b ask.val preset.val := by
  rw [lineRx_eq hn hb hr, if_neg (by rw [h2]; decide), if_neg (by simp [h2, h1]), if_pos h1]
  obtain ⟨u, hu, hclk, hl⟩ := laneTrain_eq (n := n.val) (s := s) (ask := ask.val) (askP := preset.val)
    (b := (payBytes (descramble (unpol (s.lane n.val).polRx b).prev (unpol (s.lane n.val).polRx b).bits)).drop 1) hst
  refine ⟨u, hu, hclk, hl.trans ?_⟩
  simp only [trainedLane, payByte, List.getD_eq_getElem?_getD, List.getElem?_drop]

end

/-! ### A lane after a TRAIN block -/

section
variable (s : State) (n : Nat) (b : LineBlk) (ask askP : Nat)

theorem hearReady_byte (y : LaneSt) : y.hearReady ((payBytes (descramble (unpol (s.lane n).polRx b).prev (unpol (s.lane n).polRx b).bits)).drop 1) =
    { y with farReady := y.farReady || (payByte s n b 1).testBit 5,
             gotReady := if y.rxReady && decide (y.st = 4) then (if (payByte s n b 1).testBit 5 then y.gotReady + 1 else 0) else y.gotReady } := by
  simp only [LaneSt.hearReady, payByte, List.getD_eq_getElem?_getD, List.getElem?_drop]

/-- The taps, their statuses and the SEQ applied last are those of the request applied; the state stays. -/
theorem trainedLane_taps : ∃ x, x = (s.lane n).tapped (payByte s n b 1) (payByte s n b 3) (presetTaps s n (payByte s n b 5 % 4)) ∧
    (trainedLane s n b ask askP).st = (s.lane n).st ∧ (trainedLane s n b ask askP).ack = payByte s n b 3 ∧ (trainedLane s n b ask askP).pre = x.pre ∧
    (trainedLane s n b ask askP).post = x.post ∧ (trainedLane s n b ask askP).stsPre = x.stsPre ∧ (trainedLane s n b ask askP).rxReady = (s.lane n).rxReady ∧
    (trainedLane s n b ask askP).cvAt = (s.lane n).cvAt ∧ (trainedLane s n b ask askP).rate = (s.lane n).rate ∧
    (trainedLane s n b ask askP).gotReady = (if (s.lane n).rxReady && decide ((s.lane n).st = 4) then (if (payByte s n b 1).testBit 5 then (s.lane n).gotReady + 1 else 0)
      else (s.lane n).gotReady) := by
  refine ⟨_, rfl, ?_⟩
  obtain ⟨pre, post, ack, sp, sq, hx, hack⟩ := tapped_fixed (s.lane n) (payByte s n b 1) (payByte s n b 3) (presetTaps s n (payByte s n b 5 % 4))
  obtain ⟨ak, rq, sq', rp, hh⟩ := heard_fixed (ask := ask) (askP := askP)
    (b := (payBytes (descramble (unpol (s.lane n).polRx b).prev (unpol (s.lane n).polRx b).bits)).drop 1) s.clk
    ((s.lane n).tapped (payByte s n b 1) (payByte s n b 3) (presetTaps s n (payByte s n b 5 % 4)))
  rw [trainedLane, hh, hearReady_byte, hx]
  exact ⟨rfl, hack.trans (Nat.mod_eq_of_lt (payByte_lt ..)), rfl, rfl, rfl, rfl, rfl, rfl, rfl⟩

/-- Its own request: freed by its ACK, and the next one raises SEQ. -/
theorem trainedLane_request (hclk : 0 < s.clk) :
    ((s.lane n).ackAt = none → payByte s n b 4 = (s.lane n).seq → (trainedLane s n b ask askP).ackAt = some s.clk ∧ (trainedLane s n b ask askP).req = 0 ∧
      (trainedLane s n b ask askP).seq = (s.lane n).seq) ∧
    ((s.lane n).ackAt = none → payByte s n b 4 ≠ (s.lane n).seq → (trainedLane s n b ask askP).seq = (s.lane n).seq ∧ (trainedLane s n b ask askP).req = (s.lane n).req) ∧
    (∀ a, (s.lane n).st = 4 → (s.lane n).rxReady = false → (s.lane n).ackAt = some a → a + 50000 ≤ s.clk → ask % 32 ≠ 0 →
      (trainedLane s n b ask askP).seq = ((s.lane n).seq + 1) % 256 ∧ (trainedLane s n b ask askP).req = ask % 32 ∧ (trainedLane s n b ask askP).reqPreset = askP % 4 ∧
      (trainedLane s n b ask askP).ackAt = none) := by
  obtain ⟨pre, post, ack, sp, sq, hx, -⟩ := tapped_fixed (s.lane n) (payByte s n b 1) (payByte s n b 3) (presetTaps s n (payByte s n b 5 % 4))
  have hbyte : ((payBytes (descramble (unpol (s.lane n).polRx b).prev (unpol (s.lane n).polRx b).bits)).drop 1).getD 3 0 % 256 = payByte s n b 4 := by
    rw [← Nat.mod_eq_of_lt (payByte_lt s n b 4)]
    simp only [payByte, List.getD_eq_getElem?_getD, List.getElem?_drop]
  rw [trainedLane, LaneSt.heard, hearReady_byte, hx, LaneSt.hearAck, hbyte]
  refine ⟨fun hn h4 => ?_, fun hn h4 => ?_, fun a h4 hr ha hd hk => ?_⟩
  · rw [if_pos (by simp [hn, h4]), LaneSt.asks, if_neg (by simp [LaneSt.ackFree]; omega)]
    exact ⟨rfl, rfl, rfl⟩
  · rw [if_neg (by simp [h4]), LaneSt.asks, if_neg (by simp [LaneSt.ackFree, hn])]
    exact ⟨rfl, rfl⟩
  · rw [if_neg (by simp [ha]), LaneSt.asks, if_pos (by simp [LaneSt.ackFree, h4, hr, ha, hk, hd])]
    exact ⟨rfl, rfl, rfl, rfl⟩

end

theorem laneConverged_idle {s : State} {n : Nat} (h : (s.lane n).st ≠ 4 ∨ (s.lane n).rxReady = true) : laneConverged n s = s :=
  if_neg fun ⟨h4, hr⟩ => by
    obtain h | h := h
    · exact h h4
    · simp [h] at hr

/-- A repeated SEQ moves nothing, a fresh one a preset's taps or the steps asked for (R340, R341). -/
theorem tapped_cases (x : LaneSt) (b1 seq : Nat) (p : Nat × Nat) (hseq : seq < 256) :
    (seq = x.ack → (x.tapped b1 seq p).pre = x.pre ∧ (x.tapped b1 seq p).post = x.post) ∧
    (seq ≠ x.ack → b1.testBit 4 = true → ((x.tapped b1 seq p).pre, (x.tapped b1 seq p).post) = p) ∧
    (seq ≠ x.ack → b1.testBit 4 = false → x.pre ≤ 8 → x.post ≤ 16 →
      (x.tapped b1 seq p).pre = (if b1 % 4 = 1 then min 8 (x.pre + 1) else if b1 % 4 = 2 then x.pre - 1 else x.pre) ∧
      (x.tapped b1 seq p).post = (if b1 / 4 % 4 = 1 then min 16 (x.post + 1) else if b1 / 4 % 4 = 2 then x.post - 1 else x.post) ∧
      (b1 % 4 = 1 ∧ x.pre = 8 ∨ b1 % 4 = 2 ∧ x.pre = 0 → (x.tapped b1 seq p).stsPre = 2)) := by
  have hmod : seq % 256 = seq := Nat.mod_eq_of_lt hseq
  unfold LaneSt.tapped
  rw [hmod]
  refine ⟨fun h => by simp [h], fun h h4 => by simp [h, h4], fun h h4 hp hq => ?_⟩
  obtain ⟨h1, h2⟩ := tapStep_value (b1 % 4) x.pre 8 hp
  obtain ⟨h3, -⟩ := tapStep_value (b1 / 4 % 4) x.post 16 hq
  rw [if_neg h, if_neg (by simp [h4])]
  exact ⟨h1, h3, h2⟩

section
variable {s : State} {n : Fin 12} {b : LineBlk} {ask : Fin 32} {preset : Fin 4} (hs : s.supply.held = false) (hn : n.val < 8) (hb : (s.lane n.val).blk = true)
  (hr : (s.lane n.val).rxSleep = false) (h2 : (unpol (s.lane n.val).polRx b).hdr = 2#2) (h1 : payByte s n.val b 0 = 1)
include hs hn hb hr h2 h1

/-- A lane that a TRAIN block does not take UP is left with the request applied and the report heard. -/
theorem exec_trainBlockRx_stays (hst : (s.lane n.val).st = 4 ∨ (s.lane n.val).st = 5)
    (hup : ¬((s.lane n.val).st = 4 ∧ (s.lane n.val).rxReady = true ∧ 8 ≤ (trainedLane s n.val b ask.val preset.val).gotReady ∧
      128 * blockPs (s.lane n.val).rate ≤ (s.clk - (s.lane n.val).cvAt) * 1000)) :
    ∃ t, exec (.trainBlockRx n b ask preset) s = .next t ∧ t.lane n.val = trainedLane s n.val b ask.val preset.val := by
  obtain ⟨u, hu, hclk, hl⟩ := lineRx_train (ask := ask) (preset := preset) hn hb hr h2 h1 hst
  obtain ⟨x, -, hxst, -, -, -, -, hrdy, hcv, hrate, -⟩ := trainedLane_taps s n.val b ask.val preset.val
  have hidle : laneTryUp n.val u = u := by
    refine if_neg fun ⟨h4, hre, h8, hp⟩ => hup ?_
    rw [hl] at h4 hre h8
    rw [blocksPassed, hl, hrate, hcv, hclk] at hp
    exact ⟨hxst.symm.trans h4, hrdy.symm.trans hre, h8, of_decide_eq_true hp⟩
  exact ⟨u, exec_trainBlockRx_quiet hs hn (hu.trans hidle) (by rw [hl, hxst]), hl⟩

/-- RX_READY sent and received in 8 TRAIN blocks leads UP (R342). -/
theorem exec_trainBlockRx_up (h4 : (s.lane n.val).st = 4) (hre : (s.lane n.val).rxReady = true) (h5 : (payByte s n.val b 1).testBit 5 = true) (h7 : 7 ≤ (s.lane n.val).gotReady)
    (hp : 128 * blockPs (s.lane n.val).rate ≤ (s.clk - (s.lane n.val).cvAt) * 1000) : ∃ t, exec (.trainBlockRx n b ask preset) s = .next t ∧ (t.lane n.val).st = 5 ∧
      bgtHas 5 n.val t = false ∧ bit (t.page (pLANE n.val)).stat 0 = true := by
  obtain ⟨u, hu, hclk, hl⟩ := lineRx_train (ask := ask) (preset := preset) hn hb hr h2 h1 (.inl h4)
  obtain ⟨x, -, hxst, -, -, -, -, hrdy, hcv, hrate, hgot⟩ := trainedLane_taps s n.val b ask.val preset.val
  have hup : lineRx n.val b ask.val preset.val s = laneUp n.val u := by
    refine hu.trans (if_pos ?_)
    rw [blocksPassed, hl, hxst, hrdy, hgot, hcv, hrate, hclk]
    exact ⟨h4, hre, by simp [h4, hre, h5]; omega, decide_eq_true hp⟩
  obtain ⟨a, p, hx⟩ := laneUp_lane n.val u
  have hst := (lane_inv (P := fun x => x.st = 5) (fun _ _ h => h) n.val).withLane (n := n.val) (f := lineRx n.val b ask.val preset.val) (s := s) (by rw [hup, hx])
  have hbgt : (withLane n.val (lineRx n.val b ask.val preset.val) s).bgt = (laneUp n.val u).bgt := (bgt_inv _).withLane (by rw [hup])
  exact ⟨_, act_live hs, hst, (bgtHas_congr _ hbgt 5 n.val).1.trans (laneUp_free ..), (latched_inv (pLANE n.val) 0).side.withLane (by rw [hup]; exact laneUp_event ..)⟩

end

/-- Settles O47: the scrambler, the steps from PLL to UP and back, and each kind of received block. -/
theorem laneTraining : Obligations.LaneTraining := by
  refine ⟨descramble_scramble, fun s n hs he => ?_, fun s n b ask preset hdr g hs hclk hn hb hr hhdr hg => ?_, fun s n b ask preset hs hn h => ?_⟩
  · refine ⟨exec_lanePllLock_due hs he, fun h => exec_withLane_idle (f := lanePll n.val) hs rfl (if_neg h) he, exec_laneBlockLock_trains hs, fun hn h3 => ?_, fun hn h3 hr => ?_,
      exec_laneBlockLock_relocked hs, exec_laneBlockLock_test hs he, fun h3 h5 h6 => exec_withLane_idle (f := laneLock n.val) hs rfl (laneLock_other h3 h5 h6) he,
      fun _ h4 hd => exec_lnTrainTimeout_due hs h4 hd, fun h => exec_withLane_idle (f := laneTrainTmo n.val) hs rfl (if_neg fun ⟨h4, hd⟩ => by omega) he,
      exec_rxConverged_due hs, fun h => exec_withLane_idle (f := laneConverged n.val) hs rfl (laneConverged_idle h) he, fun bad => ⟨fun hb hr => ?_, fun h => ?_⟩,
      fun a hn h3 ha hd => exec_laneRelockExpiry_bringUp hs hn h3 ha hd, fun a h5 hr ha hd => exec_laneRelockExpiry_lost hs h5 hr ha hd,
      fun h3 h5 => exec_withLane_idle (f := laneRelockEnd n.val) hs rfl (laneRelockEnd_idle h3 h5) he⟩
    · obtain ⟨t, hx, hst, -, -, hev⟩ := exec_laneBlockLock_up hs h3 (.inl (by simpa [laneEth] using hn))
      exact ⟨t, hx, hst, hev⟩
    · exact exec_laneBlockLock_up hs h3 (.inr hr)
    · by_cases h5 : (s.lane n.val).st = 5
      · obtain ⟨t, hx, h1, h2, h3, h4, hst, hloss, hrel, hev⟩ := exec_laneLockLoss_up hs (bad := bad) hb hr h5
        exact ⟨t, hx, h1, h2, h3, h4, fun _ => ⟨hst, hloss, hrel, hev⟩, fun h => by omega, fun h => by omega⟩
      · obtain ⟨t, hx, h1, h2, h3, h4, hst, hpage⟩ := exec_laneLockLoss_other hs he (bad := bad) hb hr h5
        exact ⟨t, hx, h1, h2, h3, h4, fun h => absurd h h5, fun h => ⟨hst.trans (if_pos h), hpage⟩, fun h => ⟨hst.trans (if_neg (by omega)), hpage⟩⟩
    · exact exec_withLane_idle (f := laneLoss n.val bad) hs rfl (if_neg (by obtain h | h := h <;> simp [h])) he
  · obtain rfl : g = payByte s n.val b := funext hg
    subst hhdr
    have hrx := lineRx_eq (b := b) (ask := ask) (preset := preset) hn hb hr
    have hquiet {t : State} (hf : lineRx n.val b ask.val preset.val s = t) (hst : (t.lane n.val).st = (s.lane n.val).st) : exec (.trainBlockRx n b ask preset) s = .next t :=
      exec_trainBlockRx_quiet hs hn hf hst
    have hsame {f : State → State} (hf : lineRx n.val b ask.val preset.val s = f s) : exec (.trainBlockRx n b ask preset) s = .next (withLane n.val f s) :=
      (act_live hs).trans (congrArg (fun t => Host.Outcome.next (laneSync n.val s t)) hf)
    refine ⟨fun h => ?_, fun h hk => ?_, fun h hk h0 => ?_, fun h hk h0 => ?_, fun h h0 => ?_, fun h h0 => ?_, fun h h0 hk => ?_, fun h h0 => ?_, fun h h0 => ?_, fun h h0 h4 h5 => ?_,
      fun h h0 hst => ?_, fun h h0 h4 hre h5 h7 hp => exec_trainBlockRx_up hs hn hb hr h h0 h4 hre h5 h7 hp, fun h h0 h4 hre hno => ?_⟩
    · refine hquiet (t := badHdrRx n.val s) (hrx.trans ?_) (by simp [badHdrRx])
      obtain h | h | ⟨h, h0⟩ := h
      · rw [h, if_neg (by decide), if_pos (.inl (by decide))]
      · rw [h, if_neg (by decide), if_pos (.inl (by decide))]
      · rw [h, if_neg (by decide), if_pos (.inr h0)]
    · exact hquiet (t := laneRxData n.val s) (by rw [hrx, if_pos h, if_pos (by simp [hk])]) (by simp [laneRxData])
    · exact hsame (f := keepAliveRx n.val _ _ _) (by rw [hrx, if_pos h, if_neg (by simp [hk]), if_pos h0])
    · exact hquiet (t := badCtlRx n.val (laneRxData n.val s)) (by rw [hrx, if_pos h, if_neg (by simp [hk]), if_neg h0]) (by simp [badCtlRx, laneRxData])
    · exact hsame (f := ackRx n.val _ _) (by rw [hrx]; simp [h, h0])
    · exact hsame (f := resetRx n.val) (by rw [hrx]; simp [h, h0])
    · refine hquiet (t := badCtlRx n.val s) ?_ (by simp [badCtlRx])
      rw [hrx, h, if_neg (by decide), if_neg (by simp; omega), if_neg (by omega), if_neg (by omega), if_neg (by omega), if_neg (by omega), if_pos ⟨h0, hk⟩]
    · refine hquiet (t := s) ?_ rfl
      have hlast : ¬(0x14 ≤ payByte s n.val b 0 ∧ laneRxOk s n.val = true) := fun ⟨hc, hk⟩ => by
        obtain h | h | h | ⟨-, h⟩ := h0
        · omega
        · omega
        · omega
        · simp [hk] at h
      rw [hrx, h, if_neg (by decide), if_neg (by simp; omega), if_neg (by omega), if_neg (by omega), if_neg (by omega), if_neg (by omega), if_neg hlast]
    · exact (hsame (f := laneRxSleep n.val) (by rw [hrx]; simp [h, h0])).trans (act_live hs).symm
    · exact hquiet (t := s) (by rw [hrx]; simp [h, h0, laneTrain, h4, h5]) rfl
    · obtain ⟨t, hx, hl⟩ := exec_trainBlockRx_stays (ask := ask) (preset := preset) hs hn hb hr h h0 (by omega) (fun ⟨h4, hre, _⟩ => by
        obtain h | ⟨-, h⟩ := hst
        · omega
        · simp [h] at hre)
      obtain ⟨x, rfl, hxst, hack, hpre, hpost, hsts, -⟩ := trainedLane_taps s n.val b ask.val preset.val
      obtain ⟨hq1, hq2, hq3⟩ := trainedLane_request s n.val b ask.val preset.val hclk
      obtain ⟨ht1, ht2, ht3⟩ := tapped_cases (s.lane n.val) (payByte s n.val b 1) (payByte s n.val b 3) (presetTaps s n.val (payByte s n.val b 5 % 4)) (payByte_lt ..)
      refine ⟨t, hx, ?_⟩
      rw [hl, hpre, hpost, hsts]
      refine ⟨hxst, hack, ht1, ht2, ht3, hq1, hq2, fun a h4 ha hd hk => ?_⟩
      have hask : ask.val % 32 = ask.val := Nat.mod_eq_of_lt ask.isLt
      have hpreset : preset.val % 4 = preset.val := Nat.mod_eq_of_lt preset.isLt
      rw [hask, hpreset] at hq3
      exact hq3 a h4 (hst.elim (fun h => by omega) (·.2)) ha hd hk
    · obtain ⟨x, -, hxst, -, -, -, -, -, -, -, hgot⟩ := trainedLane_taps s n.val b ask.val preset.val
      rw [if_pos (by simp [h4, hre])] at hgot
      obtain ⟨t, hx, hl⟩ := exec_trainBlockRx_stays (ask := ask) (preset := preset) hs hn hb hr h h0 (.inl h4) (fun ⟨_, _, h8, hp⟩ => by
        rw [hgot] at h8
        obtain h | h | h := hno
        · simp [h] at h8
        · split at h8 <;> omega
        · omega)
      exact ⟨t, hx, by rw [hl, hxst, h4], by rw [hl, hgot]⟩
  · refine exec_withLane_idle (f := lineRx n.val b ask.val preset.val) hs rfl (if_pos ?_) (fun h8 => absurd hn (by omega))
    obtain h | h := h <;> simp [h]

end Sys2Proof.Machine
end

section
/-! PROOFS. Keep-alives, freezing, sleep, the visor, PRBS and injection (R344, R346, R348 to R351, R353, R354, R359). -/

namespace Sys2Proof.Machine

/-! ### Idle blocks and sleep (R344, R350, R351) -/

theorem ulk_wireOut (w : WireOut) (s : State) (m : Nat) : (wireOut w s).ulk m = s.ulk m := rfl

section
variable {s : State} {n : Fin 12} (hs : s.supply.held = false)
include hs

theorem exec_keepaliveTx_due (hn : n.val < 8) (h5 : (s.lane n.val).st = 5) (ht : (s.lane n.val).txSleep = false) (hf : (s.lane n.val).txFrom ≤ s.clk)
    (hd : 32 * blockPs (s.lane n.val).rate ≤ (s.clk - (s.lane n.val).lastTx) * 1000) :
    ∃ t, exec (.keepaliveTx n) s = .next t ∧ (t.lane n.val).lastTx = s.clk ∧ (t.ulk n.val).kaCnt = ((s.ulk n.val).kaCnt + 1) % 2 ^ 16 ∧
      t.ring.wire = .keepAlive n.val (((s.ulk n.val).rxSeq + 2 ^ 16 - 1) % 2 ^ 16) (s.ulk n.val).busySent (s.ulk n.val).ackValid (((s.ulk n.val).kaCnt + 1) % 2 ^ 16) :: s.ring.wire := by
  have hok : laneTxOk s n.val = true := by simp [laneTxOk, h5, ht, hf]
  refine ⟨_, (act_live hs).trans (congrArg _ (if_pos ⟨hn, hok, decide_eq_true hd⟩)), ?_, ?_, ?_⟩
  · simp [laneTxData]
  · rw [ulk_wireOut]
    simp [laneTxData]
  · simp [wireOut, laneTxData]

theorem exec_keepaliveTx_idle (h : 8 ≤ n.val ∨ (s.lane n.val).st ≠ 5 ∨ (s.lane n.val).txSleep = true ∨ s.clk < (s.lane n.val).txFrom ∨
    (s.clk - (s.lane n.val).lastTx) * 1000 < 32 * blockPs (s.lane n.val).rate) : exec (.keepaliveTx n) s = .next s := by
  refine (act_live hs).trans (congrArg _ (if_neg fun ⟨hn, hok, hd⟩ => ?_))
  simp only [laneTxOk, Bool.and_eq_true, decide_eq_true_eq, Bool.not_eq_true'] at hok
  obtain ⟨⟨h5, ht⟩, hf⟩ := hok
  have hd : 32 * blockPs (s.lane n.val).rate ≤ (s.clk - (s.lane n.val).lastTx) * 1000 := of_decide_eq_true hd
  obtain h | h | h | h | h := h
  · omega
  · exact h h5
  · simp [ht] at h
  · omega
  · omega

variable (hn : n.val < 8)
include hn

/-- A ULK lane whose state stays moves without its link layer. -/
theorem exec_withLane_stays {i : Instr} {f : State → State} {t : State} (hx : exec i s = act (withLane n.val f) s) (hf : f s = t)
    (hst : (t.lane n.val).st = (s.lane n.val).st) : exec i s = .next t := by
  rw [hx, act_live hs, withLane_quiet (by rw [hf, hst]; exact fun _ => Iff.rfl) (fun h => absurd hn (by omega)), hf]

theorem exec_laneAdaptFreeze_due (h5 : (s.lane n.val).st = 5) (hz : (s.lane n.val).frozen = false)
    (hd : 1024 * blockPs (s.lane n.val).rate ≤ (s.clk - (s.lane n.val).lastRx) * 1000) :
    exec (.laneAdaptFreeze n) s = .next (s.setLane n.val { s.lane n.val with frozen := true }) :=
  exec_withLane_stays (f := laneFreeze n.val) hs hn rfl (if_pos (by simp [laneUlk, hn, h5, hz, blocksPassed, hd])) (by simp)

theorem exec_laneAdaptFreeze_idle (h : (s.lane n.val).st ≠ 5 ∨ (s.lane n.val).frozen = true ∨
    (s.clk - (s.lane n.val).lastRx) * 1000 < 1024 * blockPs (s.lane n.val).rate) : exec (.laneAdaptFreeze n) s = .next s :=
  exec_withLane_stays (f := laneFreeze n.val) hs hn rfl (if_neg (by obtain h | h | h := h <;> simp [h, blocksPassed])) rfl

theorem exec_sleepBlockRx_due (h5 : (s.lane n.val).st = 5) (hr : (s.lane n.val).rxSleep = false) : ∃ t, exec (.sleepBlockRx n) s = .next t ∧ (t.lane n.val).rxSleep = true ∧
    (t.lane n.val).frozen = true ∧ (t.lane n.val).st = 5 ∧ (t.lane n.val).blk = (s.lane n.val).blk ∧ (t.lane n.val).pll = !(s.lane n.val).txSleep ∧
    (t.lane n.val).visor = none ∧ ((s.lane n.val).visor.isSome → (t.lane n.val).visorAbort = true) ∧ (t.lane n.val).pre = (s.lane n.val).pre ∧
    (t.lane n.val).post = (s.lane n.val).post ∧ bit (t.page (pLANE n.val)).stat 6 = true := by
  obtain ⟨a, e, hv, ha⟩ := visorStop_lane n.val s
  have hf : laneRxSleep n.val s = laneRaise n.val 6 ((visorStop n.val s).setLane n.val { (visorStop n.val s).lane n.val with
      rxSleep := true, frozen := true, pll := pllOf (s.lane n.val).txSleep true }) := if_pos ⟨by simpa [laneUlk] using hn, h5, by simp [hr]⟩
  refine ⟨_, exec_withLane_stays (f := laneRxSleep n.val) hs hn rfl hf (by simp), ?_⟩
  rw [lane_laneRaise, State.lane_setLane, if_pos rfl, hv]
  exact ⟨rfl, rfl, h5, rfl, by simp [pllOf], rfl, ha, rfl, rfl, raise_latched _ _ _ (by decide)⟩

theorem exec_sleepBlockRx_idle (h : (s.lane n.val).st ≠ 5 ∨ (s.lane n.val).rxSleep = true) : exec (.sleepBlockRx n) s = .next s :=
  exec_withLane_stays (f := laneRxSleep n.val) hs hn rfl (if_neg (by obtain h | h := h <;> simp [h])) rfl

theorem exec_rxSignalDetect_due (h5 : (s.lane n.val).st = 5) (hr : (s.lane n.val).rxSleep = true) : ∃ t, exec (.rxSignalDetect n) s = .next t ∧ (t.lane n.val).rxSleep = false ∧
    (t.lane n.val).frozen = false ∧ (t.lane n.val).st = 5 ∧ (t.lane n.val).wakeAt = some s.clk ∧ (t.lane n.val).pll = true ∧ bit (t.page (pLANE n.val)).stat 6 = true := by
  have hf : laneSignal n.val s = laneRaise n.val 6 (s.setLane n.val { s.lane n.val with
      rxSleep := false, frozen := false, blk := false, cdr := false, pll := true, wakeAt := some s.clk, lastRx := s.clk }) := if_pos hr
  refine ⟨_, exec_withLane_stays (f := laneSignal n.val) hs hn rfl hf (by simp), ?_⟩
  rw [lane_laneRaise, State.lane_setLane, if_pos rfl]
  exact ⟨rfl, rfl, h5, rfl, rfl, raise_latched _ _ _ (by decide)⟩

theorem exec_rxSignalDetect_idle (hr : (s.lane n.val).rxSleep = false) : exec (.rxSignalDetect n) s = .next s :=
  exec_withLane_stays (f := laneSignal n.val) hs hn rfl (if_neg (by simp [hr])) rfl

/-! ### The PRBS checker (R348) -/

theorem exec_prbsCheckerLock_due {bits : BitVec 95} (h2 : n.val < 2) (hc : lnPrbs_CHK_EN s n.val = 1) (h6 : (s.lane n.val).st = 6)
    (hfit : prbsFits (lnPrbs_PATTERN s n.val) (if (s.lane n.val).polRx then ~~~bits else bits) = true) :
    exec (.prbsCheckerLock ⟨n, bits⟩) s = .next (s.setLane n.val { s.lane n.val with prbsLock := true }) :=
  exec_withLane_stays (f := prbsLock n.val bits) hs hn rfl (if_pos ⟨h2, hc, h6, hfit⟩) (by simp)

theorem exec_prbsCheckerLock_idle {bits : BitVec 95} (h : 2 ≤ n.val ∨ lnPrbs_CHK_EN s n.val = 0 ∨ (s.lane n.val).st ≠ 6 ∨
    prbsFits (lnPrbs_PATTERN s n.val) (if (s.lane n.val).polRx then ~~~bits else bits) = false) : exec (.prbsCheckerLock ⟨n, bits⟩) s = .next s := by
  refine exec_withLane_stays (f := prbsLock n.val bits) hs hn rfl (if_neg fun ⟨h2, hc, h6, hfit⟩ => ?_) rfl
  obtain h | h | h | h := h
  · omega
  · omega
  · exact h h6
  · rw [hfit] at h
    cases h

theorem exec_prbsCheckerLoss_due {e : Nat} (hl : (s.lane n.val).prbsLock = true) : ∃ t, exec (.prbsCheckerLoss n e) s = .next t ∧ (t.lane n.val).prbsLock = false ∧
    (t.lane n.val).prbsErr = satU 32 ((s.lane n.val).prbsErr + e) ∧ (t.lane n.val).st = (s.lane n.val).st ∧ bit (t.page (pLANE n.val)).stat 5 = true := by
  have hf : prbsLoss n.val e s = laneRaise n.val 5 (s.setLane n.val { s.lane n.val with prbsLock := false, prbsErr := satU 32 ((s.lane n.val).prbsErr + e) }) := if_pos hl
  refine ⟨_, exec_withLane_stays (f := prbsLoss n.val e) hs hn rfl hf (by simp), ?_⟩
  rw [lane_laneRaise, State.lane_setLane, if_pos rfl]
  exact ⟨rfl, rfl, rfl, raise_latched _ _ _ (by decide)⟩

theorem exec_prbsCheckerLoss_idle {e : Nat} (hl : (s.lane n.val).prbsLock = false) : exec (.prbsCheckerLoss n e) s = .next s :=
  exec_withLane_stays (f := prbsLoss n.val e) hs hn rfl (if_neg (by simp [hl])) rfl

end

/-! ### The visor (R346) -/

section
variable {s : State} {src : Src} {n : Fin 12} {v : Word} (h : s.reaches ((0x20 + n.val) * 0x1000 + 0x140))

/-- The word a GO stores: what LN_VISOR keeps of the word written. -/
theorem visor_word (v : Word) : (v ||| 0x80000000#32) &&& 0x3FFF007F#32 = v &&& 0x3FFF007F#32 := by
  have hout : 0x80000000#32 &&& 0x3FFF007F#32 = 0#32 := by decide
  rw [BitVec.and_or_distrib_right, hout, BitVec.or_zero]

include h in
theorem exec_lnVisorGo : exec (.lnVisorGo src n v) s = .next (withLane n.val (lnVisorWrite n.val (v ||| 0x80000000#32)) s) :=
  (act_busWrite src.code _ h (by omega)).trans (congrArg _ (regEffect_lane src.code 0x140 _ s n (by decide)))

/-- The hub with LN_VISOR written. -/
def State.visorSet (s : State) (n : Nat) (v : Word) : State := s.setRw (lnVisorAt n) (v &&& 0x3FFF007F#32)

theorem lnVisorWrite_eq (n : Nat) (v : Word) (s : State) : lnVisorWrite n (v ||| 0x80000000#32) s =
    if (s.lane n).visor.isNone then
      (if (laneState s n = 5 ∨ laneState s n = 6) ∧ !(s.lane n).rxSleep then
        (s.visorSet n v).setLane n { s.lane n with visor := some (s.clk, max 16 (min 44 (fld v 29 24))), visorAbort := false, visorErr := 0 }
      else laneRej n 5 (s.visorSet n v))
    else s.visorSet n v := by
  have hgo : bit (v ||| 0x80000000#32) 31 = true := bit_or_pow v 31 (by decide)
  have hfld : fld (v ||| 0x80000000#32) 29 24 = fld v 29 24 := fld_or_out _ _ _ _ (by decide)
  unfold lnVisorWrite
  rw [visor_word, hgo, hfld]
  rfl

include h in
/-- A GO with no scan running starts one where the receiver is awake in UP or TEST. -/
theorem exec_lnVisorGo_starts (hv : (s.lane n.val).visor = none) (hst : laneState s n.val = 5 ∨ laneState s n.val = 6) (hr : (s.lane n.val).rxSleep = false) :
    ∃ t, exec (.lnVisorGo src n v) s = .next t ∧ (t.lane n.val).visor = some (s.clk, max 16 (min 44 (fld v 29 24))) ∧ (t.lane n.val).visorErr = 0 ∧
      (t.lane n.val).visorAbort = false ∧ (t.lane n.val).st = (s.lane n.val).st ∧ (t.lane n.val).frozen = (s.lane n.val).frozen := by
  have hf : (lnVisorWrite n.val (v ||| 0x80000000#32) s).lane n.val =
      { s.lane n.val with visor := some (s.clk, max 16 (min 44 (fld v 29 24))), visorAbort := false, visorErr := 0 } := by
    rw [lnVisorWrite_eq, if_pos (by simp [hv]), if_pos ⟨hst, by simp [hr]⟩, State.lane_setLane, if_pos rfl]
  refine ⟨_, exec_lnVisorGo h, ?_⟩
  rw [withLane_lane (by rw [hf]; exact fun _ => Iff.rfl), hf]
  exact ⟨rfl, rfl, rfl, rfl, rfl⟩

include h in
/-- Elsewhere it is refused. -/
theorem exec_lnVisorGo_refused (hv : (s.lane n.val).visor = none) (hst : laneState s n.val < 5 ∨ (s.lane n.val).rxSleep = true) :
    ∃ t, exec (.lnVisorGo src n v) s = .next t ∧ (t.lane n.val).visor = none ∧ (t.lane n.val).rej = 5 ∧ bit (t.page (pLANE n.val)).stat 7 = true := by
  have hf : lnVisorWrite n.val (v ||| 0x80000000#32) s = laneRej n.val 5 (s.visorSet n.val v) := by
    rw [lnVisorWrite_eq, if_pos (by simp [hv]), if_neg fun ⟨h5, hr⟩ => by
      obtain h | h := hst
      · omega
      · simp [h] at hr]
  have hl : (laneRej n.val 5 (s.visorSet n.val v)).lane n.val = { s.lane n.val with rej := 5 } := by
    rw [laneRej, lane_laneRaise, State.lane_setLane, if_pos rfl]
    rfl
  refine ⟨_, exec_lnVisorGo h, ?_⟩
  rw [withLane_lane (by rw [hf, hl]; exact fun _ => Iff.rfl), hf, hl]
  exact ⟨hv, rfl, (latched_inv (pLANE n.val) 7).side.withLane (by rw [hf]; exact raise_latched _ _ _ (by decide))⟩

include h in
/-- While a scan runs it stores its fields alone. -/
theorem exec_lnVisorGo_stored (hv : (s.lane n.val).visor.isSome) : ∃ t, exec (.lnVisorGo src n v) s = .next t ∧ t.lane n.val = s.lane n.val ∧
    t.rw (lnVisorAt n.val) = v &&& 0x3FFF007F#32 := by
  have hf : lnVisorWrite n.val (v ||| 0x80000000#32) s = s.visorSet n.val v := by
    rw [lnVisorWrite_eq, if_neg (by simpa using Option.isSome_iff_ne_none.1 hv)]
  have hregs : (withLane n.val (lnVisorWrite n.val (v ||| 0x80000000#32)) s).regs = (s.visorSet n.val v).regs := (regs_inv _).side.withLane (by rw [hf])
  refine ⟨_, exec_lnVisorGo h, ?_, ?_⟩
  · rw [withLane_lane (by rw [hf]; exact fun _ => Iff.rfl), hf]
    rfl
  · rw [rw_of_regs hregs]
    simp [State.visorSet]

/-- A scan that has compared its bits ends with its count. -/
theorem exec_lnVisorDone_due {e a l : Nat} (hs : s.supply.held = false) (hv : (s.lane n.val).visor = some (a, l))
    (hd : 2 ^ l * 4000 ≤ (s.clk - a) * lineRate n.val (s.lane n.val).rate) : ∃ t, exec (.lnVisorDone n e) s = .next t ∧ (t.lane n.val).visor = none ∧
      (t.lane n.val).visorErr = min e (2 ^ l) ∧ (t.lane n.val).st = (s.lane n.val).st ∧ (t.lane n.val).visorAbort = (s.lane n.val).visorAbort ∧
      bit (t.page (pLANE n.val)).stat 4 = true := by
  have hf : lnVisorDone n.val e s = laneRaise n.val 4 (s.setLane n.val { s.lane n.val with visor := none, visorErr := min e (2 ^ l) }) := by
    unfold lnVisorDone
    dsimp only
    rw [hv]
    exact if_pos hd
  have hl : (lnVisorDone n.val e s).lane n.val = { s.lane n.val with visor := none, visorErr := min e (2 ^ l) } := by
    rw [hf, lane_laneRaise, State.lane_setLane, if_pos rfl]
  refine ⟨_, act_live hs, ?_⟩
  rw [withLane_lane (by rw [hl]; exact fun _ => Iff.rfl), hl]
  exact ⟨rfl, rfl, rfl, rfl, (latched_inv (pLANE n.val) 4).side.withLane (by rw [hf]; exact raise_latched _ _ _ (by decide))⟩

theorem lnVisorDone_idle {e m : Nat} (hv : ∀ a l, (s.lane m).visor = some (a, l) → (s.clk - a) * lineRate m (s.lane m).rate < 2 ^ l * 4000) : lnVisorDone m e s = s := by
  unfold lnVisorDone
  dsimp only
  cases hx : (s.lane m).visor with
  | none => rfl
  | some x => exact if_neg (Nat.not_le.2 (hv x.1 x.2 hx))

end

/-! ### Injection (R349) -/

section
variable {s : State} {n : Nat} {v : Word}

/-- The hub with LN_PRBS written. -/
def State.prbsSet (s : State) (n : Nat) (v : Word) : State := s.setRw (lnPrbsAt n) (v &&& 0x7F0033#32)

/-- A write that leaves GEN_EN and CHK_EN as they are and asks for injections. -/
def prbsSame (s : State) (n : Nat) (v : Word) : Prop :=
  fld v 0 0 = lnPrbs_GEN_EN s n ∧ fld v 1 1 = lnPrbs_CHK_EN s n ∧ fld v 22 16 = lnPrbs_BURST_LEN s n ∧ fld v 5 4 ≠ 3

theorem prbsSet_fields (hv : prbsSame s n v) : lnPrbs_CHK_EN (s.prbsSet n v) n = lnPrbs_CHK_EN s n ∧ lnPrbs_BURST_LEN (s.prbsSet n v) n = lnPrbs_BURST_LEN s n ∧
    testWanted (s.prbsSet n v) n = testWanted s n := by
  obtain ⟨hg, hc, hb, -⟩ := hv
  have hgen : lnPrbs_GEN_EN (s.prbsSet n v) n = lnPrbs_GEN_EN s n := by
    rw [← hg]
    simp only [State.prbsSet, lnPrbs_GEN_EN, State.rw_setRw, if_true]
    exact fld_and_in _ _ _ _ (by decide)
  have hchk : lnPrbs_CHK_EN (s.prbsSet n v) n = lnPrbs_CHK_EN s n := by
    rw [← hc]
    simp only [State.prbsSet, lnPrbs_CHK_EN, State.rw_setRw, if_true]
    exact fld_and_in _ _ _ _ (by decide)
  refine ⟨hchk, ?_, ?_⟩
  · rw [← hb]
    simp only [State.prbsSet, lnPrbs_BURST_LEN, State.rw_setRw, if_true]
    exact fld_and_in _ _ _ _ (by decide)
  · have ha : lnCfgAt n ≠ lnPrbsAt n := by simp [lnCfgAt, lnPrbsAt]
    have hloop : lnCfg_LOOP (s.prbsSet n v) n = lnCfg_LOOP s n := by simp [lnCfg_LOOP, State.prbsSet, ha]
    unfold testWanted
    rw [hgen, hchk, hloop]

theorem laneTest_stays (h : (s.lane n).st ≠ 6 ∧ testWanted s n = false ∨ (s.lane n).st = 6 ∧ testWanted s n = true) : laneTest n s = s := by
  obtain ⟨h6, ht⟩ | ⟨h6, ht⟩ := h
  · exact laneTest_idle (.inr ⟨ht, h6⟩)
  · unfold laneTest
    dsimp only
    rw [if_pos ht, if_pos h6, ite_self]

theorem laneInject_idle {k : Nat} {b : Bool} (h : (s.lane n).st < 5 ∨ s.clk < (s.lane n).injEnd) : laneInject n k b s = s := if_neg (by omega)

/-- Such a write leaves the lane but for the checker's lock, and then injects what it asks for. -/
theorem lnPrbsWrite_eq (h2 : n < 2) (hv : prbsSame s n v) (ht : (s.lane n).st ≠ 6 ∧ testWanted s n = false ∨ (s.lane n).st = 6 ∧ testWanted s n = true) :
    ∃ (u : State) (l : Bool), u.lane n = { s.lane n with prbsLock := l } ∧ u.ring = s.ring ∧ u.clk = s.clk ∧
      (bit v 8 = true → bit v 9 = false → lnPrbsWrite n v s = laneInject n 1 false u) ∧
      (bit v 8 = false → bit v 9 = true → lnPrbsWrite n v s = laneInject n (max 1 (min 64 (lnPrbs_BURST_LEN s n))) true u) ∧
      ((s.lane n).st < 5 → lnPrbsWrite n v s = u) := by
  obtain ⟨hchk, hburst, htest⟩ := prbsSet_fields hv
  have hidle (u : State) (hst : (u.lane n).st = (s.lane n).st) (hregs : u.regs = (s.prbsSet n v).regs) : laneTest n u = u :=
    laneTest_stays (by rw [hst, testWanted_of_regs hregs, htest]; exact ht)
  have hw : lnPrbsWrite n v s = (fun u : State =>
      (fun s4 : State => if bit v 9 then laneInject n (max 1 (min 64 (lnPrbs_BURST_LEN s4 n))) true s4 else s4) (if bit v 8 then laneInject n 1 false u else u))
      (laneTest n (if lnPrbs_CHK_EN s n = 0 ∧ lnPrbs_CHK_EN (s.prbsSet n v) n = 1 then (s.prbsSet n v).setLane n { s.lane n with prbsErr := 0, prbsLock := false }
        else if lnPrbs_CHK_EN (s.prbsSet n v) n = 0 then (s.prbsSet n v).setLane n { s.lane n with prbsLock := false } else s.prbsSet n v)) :=
    (if_neg (by omega)).trans (if_neg hv.2.2.2)
  rw [hchk, if_neg (by omega)] at hw
  have hcase (u : State) (hu : u.regs = (s.prbsSet n v).regs) (hst : (u.lane n).st = (s.lane n).st) (hx : lnPrbsWrite n v s = (fun u : State =>
      (fun s4 : State => if bit v 9 then laneInject n (max 1 (min 64 (lnPrbs_BURST_LEN s4 n))) true s4 else s4) (if bit v 8 then laneInject n 1 false u else u)) u) :
      (bit v 8 = true → bit v 9 = false → lnPrbsWrite n v s = laneInject n 1 false u) ∧
      (bit v 8 = false → bit v 9 = true → lnPrbsWrite n v s = laneInject n (max 1 (min 64 (lnPrbs_BURST_LEN s n))) true u) ∧
      ((s.lane n).st < 5 → lnPrbsWrite n v s = u) := by
    have hlen : lnPrbs_BURST_LEN u n = lnPrbs_BURST_LEN s n := by rw [← hburst, lnPrbs_BURST_LEN, rw_of_regs hu]; rfl
    refine ⟨fun h8 h9 => hx.trans (by simp [h8, h9]), fun h8 h9 => hx.trans (by simp [h8, h9, hlen]), fun h5 => hx.trans ?_⟩
    have hno (k : Nat) (b : Bool) : laneInject n k b u = u := laneInject_idle (.inl (by rw [hst]; exact h5))
    simp only [hno, ite_self]
  by_cases h0 : lnPrbs_CHK_EN s n = 0
  · rw [if_pos h0, hidle _ (by simp) (by simp)] at hw
    exact ⟨_, false, by simp, by simp [State.prbsSet], by simp [State.prbsSet], hcase _ (by simp) (by simp) hw⟩
  · rw [if_neg h0, hidle (s.prbsSet n v) rfl rfl] at hw
    exact ⟨s.prbsSet n v, (s.lane n).prbsLock, rfl, rfl, rfl, hcase (s.prbsSet n v) rfl rfl hw⟩

/-- An injection inverts its bits on the wire and is in progress from then on. -/
theorem laneInject_due {k : Nat} {b : Bool} (hst : (s.lane n).st = 5 ∨ (s.lane n).st = 6) (hc : (s.lane n).injEnd ≤ s.clk) :
    ((laneInject n k b s).lane n).inj = (s.lane n).inj + k ∧ s.clk < ((laneInject n k b s).lane n).injEnd ∧
    (laneInject n k b s).ring.wire = .invert n k :: s.ring.wire ∧ ((laneInject n k b s).lane n).st = (s.lane n).st := by
  have hp (r : Nat) : 6400 ≤ blockPs r := by
    unfold blockPs
    obtain rfl | rfl | h := (by omega : r = 0 ∨ r = 1 ∨ 2 ≤ r)
    · decide
    · decide
    · obtain rfl | h := Nat.eq_or_lt_of_le h
      · decide
      · rw [List.getD_eq_default _ _ (by simp; omega)]
  have hf : laneInject n k b s = wireOut (.invert n k) (s.setLane n { s.lane n with
      inj := (s.lane n).inj + k, injEnd := s.clk + cdiv (2 * blockPs (s.lane n).rate) 1000, burst := b }) := if_pos ⟨hst, hc⟩
  have := hp (s.lane n).rate
  rw [hf, lane_wireOut, State.lane_setLane, if_pos rfl]
  refine ⟨rfl, ?_, by simp [wireOut], rfl⟩
  simp only [cdiv, if_neg (show ¬(1000 = 0) by decide)]
  omega

end

/-! ### INJ_ONE and INJ_BURST -/

section
variable {s : State} {src : Src} {n : Fin 12}

theorem exec_lnPrbsInjOne (h : s.reaches ((0x20 + n.val) * 0x1000 + 0x160)) :
    exec (.lnPrbsInjOne src n) s = .next (withLane n.val (lnPrbsWrite n.val (s.orWord (lnPrbsAt n.val) (2 ^ 8))) s) := by
  have hact : exec (.lnPrbsInjOne src n) s = act (fun s => busWrite src.code ((0x20 + n.val) * 0x1000 + 0x160) (s.orWord (lnPrbsAt n.val) (2 ^ 8)) s) s := rfl
  rw [hact, act_live h.1, busWrite_reg _ _ _ _ h.2 (by omega), regEffect_lane _ _ _ _ _ (by decide)]
  rfl

theorem exec_lnPrbsInjBurst (h : s.reaches ((0x20 + n.val) * 0x1000 + 0x160)) :
    exec (.lnPrbsInjBurst src n) s = .next (withLane n.val (lnPrbsWrite n.val (s.orWord (lnPrbsAt n.val) (2 ^ 9))) s) := by
  have hact : exec (.lnPrbsInjBurst src n) s = act (fun s => busWrite src.code ((0x20 + n.val) * 0x1000 + 0x160) (s.orWord (lnPrbsAt n.val) (2 ^ 9)) s) s := rfl
  rw [hact, act_live h.1, busWrite_reg _ _ _ _ h.2 (by omega), regEffect_lane _ _ _ _ _ (by decide)]
  rfl

/-- A bit that the word set beside it does not hold stays. -/
theorem bit_or_ne (w m : Word) (b : Nat) (h : m.toNat.testBit b = false) : bit (w ||| m) b = bit w b := by
  rw [bit, BitVec.toNat_or, Nat.testBit_or, h, Bool.or_false, bit]

/-- An injection's write keeps the fields of LN_PRBS. -/
theorem orWord_same {k m : Nat} (hk : k = 8 ∨ k = 9) (hpat : lnPrbs_PATTERN s m ≠ 3) : prbsSame s m (s.orWord (lnPrbsAt m) (2 ^ k)) := by
  have hfld (x : Word) (hx : x = 256#32 ∨ x = 512#32) : fld (s.rw (lnPrbsAt m) ||| x) 0 0 = fld (s.rw (lnPrbsAt m)) 0 0 ∧
      fld (s.rw (lnPrbsAt m) ||| x) 1 1 = fld (s.rw (lnPrbsAt m)) 1 1 ∧ fld (s.rw (lnPrbsAt m) ||| x) 22 16 = fld (s.rw (lnPrbsAt m)) 22 16 ∧
      fld (s.rw (lnPrbsAt m) ||| x) 5 4 = fld (s.rw (lnPrbsAt m)) 5 4 := by
    obtain rfl | rfl := hx <;> and_intros <;> exact fld_or_out _ _ _ _ (by decide)
  obtain ⟨h0, h1, h2, h3⟩ := hfld (word (2 ^ k)) (by obtain rfl | rfl := hk <;> decide)
  exact ⟨h0, h1, h2, by rw [State.orWord, h3]; exact hpat⟩

/-- The bits 8 and 9 that it sets are its own. -/
theorem orWord_bits {k m : Nat} (hk : k = 8 ∨ k = 9) (h8 : bit (s.rw (lnPrbsAt m)) 8 = false) (h9 : bit (s.rw (lnPrbsAt m)) 9 = false) :
    bit (s.orWord (lnPrbsAt m) (2 ^ k)) 8 = decide (k = 8) ∧ bit (s.orWord (lnPrbsAt m) (2 ^ k)) 9 = decide (k = 9) := by
  obtain rfl | rfl := hk
  · exact ⟨bit_or_pow _ 8 (by decide), (bit_or_ne _ 256#32 9 (by decide)).trans h9⟩
  · exact ⟨(bit_or_ne _ 512#32 8 (by decide)).trans h8, bit_or_pow _ 9 (by decide)⟩

/-- What a link layer and an Ethernet port with their lane unmoved leave of the wire. -/
theorem laneSync_ring {m : Nat} {t : State} (hu : m < 8 → ((t.lane m).st = 5 ↔ (s.lane m).st = 5)) : (laneSync m s t).ring = t.ring ∧ (laneSync m s t).regs = t.regs := by
  have hlink (up : Bool) (sp : Nat) (a b : Bool) : (ethLink (m - 8) up sp a b 0 t).ring = t.ring ∧ (ethLink (m - 8) up sp a b 0 t).regs = t.regs := by
    unfold ethLink
    dsimp only
    split <;> simp
  unfold laneSync
  split
  · split
    · exact hlink ..
    · exact ⟨rfl, rfl⟩
  next h8 =>
    have hu := hu (by omega)
    rw [if_neg fun h => h.2 (hu.2 h.1), if_neg fun h => h.1 (hu.1 h.2)]
    exact ⟨rfl, rfl⟩

/-- Lanes 2 to 11 have no PRBS facilities: the write is nothing. -/
theorem lnPrbsWrite_none (h2 : 2 ≤ n.val) (v : Word) : ((withLane n.val (lnPrbsWrite n.val v) s).lane n.val = s.lane n.val) ∧
    (withLane n.val (lnPrbsWrite n.val v) s).regs = s.regs ∧ (withLane n.val (lnPrbsWrite n.val v) s).ring = s.ring := by
  have hf : lnPrbsWrite n.val v s = s := if_pos h2
  obtain ⟨hring, hregs⟩ := laneSync_ring (s := s) (m := n.val) (t := s) (fun _ => Iff.rfl)
  have hx : withLane n.val (lnPrbsWrite n.val v) s = laneSync n.val s s := congrArg (laneSync n.val s) hf
  refine ⟨?_, by rw [hx, hregs], by rw [hx, hring]⟩
  rw [withLane_lane (by rw [hf]; exact fun _ => Iff.rfl), hf]

/-- An injection's write leaves the state of the lane alone, and so its link layer. -/
theorem inject_quiet {v : Word} (h2 : n.val < 2) {u : State} (hw : lnPrbsWrite n.val v s = u) (hst : (u.lane n.val).st = (s.lane n.val).st) :
    withLane n.val (lnPrbsWrite n.val v) s = u := by
  rw [withLane_quiet (by rw [hw, hst]; exact fun _ => Iff.rfl) (fun h8 => by omega), hw]

/-- What an injection's write does in UP and TEST: its bits go out unless an injection is in progress. -/
theorem inject_outcome {k : Nat} {v : Word} (h2 : n.val < 2) (hup : (s.lane n.val).st = 5 ∨ (s.lane n.val).st = 6) {u : State} {l b : Bool}
    (hl : u.lane n.val = { s.lane n.val with prbsLock := l }) (hring : u.ring = s.ring) (hclk : u.clk = s.clk) (hw : lnPrbsWrite n.val v s = laneInject n.val k b u) :
    ((s.lane n.val).injEnd ≤ s.clk → ((withLane n.val (lnPrbsWrite n.val v) s).lane n.val).inj = (s.lane n.val).inj + k ∧
      s.clk < ((withLane n.val (lnPrbsWrite n.val v) s).lane n.val).injEnd ∧ (withLane n.val (lnPrbsWrite n.val v) s).ring.wire = .invert n.val k :: s.ring.wire ∧
      ((withLane n.val (lnPrbsWrite n.val v) s).lane n.val).st = (s.lane n.val).st) ∧
    (s.clk < (s.lane n.val).injEnd → ((withLane n.val (lnPrbsWrite n.val v) s).lane n.val).inj = (s.lane n.val).inj ∧
      ((withLane n.val (lnPrbsWrite n.val v) s).lane n.val).injEnd = (s.lane n.val).injEnd ∧ (withLane n.val (lnPrbsWrite n.val v) s).ring = s.ring) := by
  refine ⟨fun hc => ?_, fun hno => ?_⟩
  · obtain ⟨h1, h2', h3, h4⟩ := laneInject_due (n := n.val) (s := u) (k := k) (b := b) (by rw [hl]; exact hup) (by rw [hl, hclk]; exact hc)
    rw [hl] at h1 h4
    rw [inject_quiet h2 hw h4, ← hclk, ← hring]
    exact ⟨h1, h2', h3, h4⟩
  · have hw : lnPrbsWrite n.val v s = u := hw.trans (laneInject_idle (.inr (by rw [hl, hclk]; exact hno)))
    rw [inject_quiet h2 hw (by rw [hl]), hl]
    exact ⟨rfl, rfl, hring⟩

end

/-- Settles O48: the idle blocks, sleep, the visor, the checker and the injections, each where it is due and where it is not. -/
theorem laneService : Obligations.LaneService := by
  refine ⟨fun s n hs => ⟨fun hn h5 ht hf hd => exec_keepaliveTx_due hs hn h5 ht hf hd, exec_keepaliveTx_idle hs, fun hn h5 hz hd => exec_laneAdaptFreeze_due hs hn h5 hz hd,
      fun hn h => exec_laneAdaptFreeze_idle hs hn h, fun hn h5 hr => exec_sleepBlockRx_due hs hn h5 hr, fun hn h => exec_sleepBlockRx_idle hs hn h,
      fun hn h5 hr => exec_rxSignalDetect_due hs hn h5 hr, fun hn hr => exec_rxSignalDetect_idle hs hn hr⟩,
    fun s src n v h => ⟨exec_lnVisorGo_starts h, exec_lnVisorGo_refused h, exec_lnVisorGo_stored h⟩,
    fun s n e hs => ⟨fun a l hv hd => exec_lnVisorDone_due hs hv hd, fun he hv => exec_withLane_idle (f := lnVisorDone n.val e) hs rfl (lnVisorDone_idle hv) he⟩,
    fun s n bits e hs hn => ⟨exec_prbsCheckerLock_due hs hn, exec_prbsCheckerLock_idle hs hn, exec_prbsCheckerLoss_due hs hn, exec_prbsCheckerLoss_idle hs hn⟩,
    fun s src n h => ⟨fun h2 => ⟨⟨_, exec_lnPrbsInjOne h, lnPrbsWrite_none h2 _⟩, ⟨_, exec_lnPrbsInjBurst h, lnPrbsWrite_none h2 _⟩⟩,
      fun h2 hpat h8 h9 hst => ?_, fun h2 hpat hlt ht => ?_⟩⟩
  · obtain ⟨h81, h91⟩ := orWord_bits (.inl rfl) h8 h9
    obtain ⟨h82, h92⟩ := orWord_bits (.inr rfl) h8 h9
    have ht : (s.lane n.val).st ≠ 6 ∧ testWanted s n.val = false ∨ (s.lane n.val).st = 6 ∧ testWanted s n.val = true := hst.imp_left fun ⟨h5, ht⟩ => ⟨by omega, ht⟩
    have hup : (s.lane n.val).st = 5 ∨ (s.lane n.val).st = 6 := hst.imp (·.1) (·.1)
    obtain ⟨u, l, hl, hring, hclk, hw, -⟩ := lnPrbsWrite_eq h2 (orWord_same (.inl rfl) hpat) ht
    obtain ⟨hdue, hidle⟩ := inject_outcome h2 hup hl hring hclk (hw h81 h91)
    obtain ⟨u', l', hl', hring', hclk', -, hw', -⟩ := lnPrbsWrite_eq h2 (orWord_same (.inr rfl) hpat) ht
    obtain ⟨hdue', hidle'⟩ := inject_outcome h2 hup hl' hring' hclk' (hw' h82 h92)
    refine ⟨fun hc => ⟨⟨_, exec_lnPrbsInjOne h, hdue hc⟩, ⟨_, exec_lnPrbsInjBurst h, ?_⟩⟩, fun hc => ⟨⟨_, exec_lnPrbsInjOne h, hidle hc⟩, ⟨_, exec_lnPrbsInjBurst h, hidle' hc⟩⟩⟩
    obtain ⟨h1, -, h3, h4⟩ := hdue' hc
    exact ⟨h1, h3, h4⟩
  · have hidle {v : Word} (hv : prbsSame s n.val v) : ((withLane n.val (lnPrbsWrite n.val v) s).lane n.val).inj = (s.lane n.val).inj ∧
        (withLane n.val (lnPrbsWrite n.val v) s).ring = s.ring := by
      obtain ⟨u, l, hl, hring, -, -, -, hw⟩ := lnPrbsWrite_eq h2 hv (.inl ⟨by omega, ht⟩)
      rw [inject_quiet h2 (hw hlt) (by rw [hl]), hl]
      exact ⟨rfl, hring⟩
    exact ⟨⟨_, exec_lnPrbsInjOne h, hidle (orWord_same (.inl rfl) hpat)⟩, ⟨_, exec_lnPrbsInjBurst h, hidle (orWord_same (.inr rfl) hpat)⟩⟩

end Sys2Proof.Machine
end

section
/-! PROOFS. Acknowledgements, RESET and the link timers (R361 to R365, R373, R374, R378). -/

namespace Sys2Proof.Machine

section
variable {s : State} {n : Fin 8} (hs : s.supply.held = false)
include hs

/-! ### Acknowledgements and RESET (R361, R363, R364) -/

theorem exec_keepaliveRx_acks {seq : Nat} {b v : Bool} (hrx : laneRxOk s n.val = true) : exec (.keepaliveRx n seq b v) s =
    .next (ulkAck n.val (if v then seq else 65535) b (laneRxData n.val (s.setUlk n.val { s.ulk n.val with lastAct := s.clk }))) :=
  (act_live hs).trans (congrArg _ (if_pos ⟨n.isLt, hrx⟩))

theorem exec_ulkAckRx_acks {seq : Nat} {b : Bool} (hrx : laneRxOk s n.val = true) : exec (.ulkAckRx n seq b) s = .next (ulkAck n.val seq b s) :=
  (act_live hs).trans (congrArg _ (if_pos hrx))

/-- What a RESET does, by the link's state. -/
theorem exec_ulkResetRx_eq (hrx : laneRxOk s n.val = true) (hen : ulkCfg_EN s n.val ≠ 0) : exec (.ulkResetRx n) s = .next
    (if (s.ulk n.val).up = true ∧ (s.ulk n.val).unacked ≠ [] then giveUp n.val (s.setUlk n.val { s.ulk n.val with lastAct := s.clk })
     else if (s.ulk n.val).up then s.setUlk n.val { s.ulk n.val with lastAct := s.clk, rxSeq := 0, ackValid := false, rxBad := false, rstGot := !(s.ulk n.val).up }
     else ulkTryUp n.val (s.setUlk n.val { s.ulk n.val with lastAct := s.clk, rxSeq := 0, ackValid := false, rxBad := false, rstGot := !(s.ulk n.val).up })) :=
  (act_live hs).trans (congrArg _ (if_neg (by simp [hrx, hen])))

theorem exec_ulkResetRx_ignored (h : laneRxOk s n.val = false ∨ ulkCfg_EN s n.val = 0) : exec (.ulkResetRx n) s = .next s :=
  (act_live hs).trans (congrArg _ (if_pos (by obtain h | h := h <;> simp [h])))

/-! ### The link's own timers (R362, R364, R365, R378) -/

theorem exec_ulkAckTimeout : exec (.ulkAckTimeout n) s = .next (if (s.ulk n.val).up = true ∧ (s.ulk n.val).unacked ≠ [] ∧ (!(s.ulk n.val).farBusy) = true ∧
    (s.ulk n.val).lastAdv + ackTmoNs s n.val ≤ s.clk then goBack n.val 0 s else s) := act_live hs

theorem exec_ulkReplayBudgetExpiry : exec (.ulkReplayBudgetExpiry n) s = .next (if (s.ulk n.val).up = true ∧ (s.ulk n.val).replay ≠ 0 ∧ (!(s.ulk n.val).farBusy) = true ∧
    (s.ulk n.val).replayAt + 40000 ≤ s.clk then giveUp n.val s else s) := act_live hs

theorem exec_streamDeliveryTimeout : exec (.streamDeliveryTimeout n) s = .next (if (s.ulk n.val).up = true ∧ (s.ulk n.val).replay = 0 ∧
    (s.ulk n.val).unacked.any (fun y => decide (y.2.ftype = 1 ∨ y.2.ftype = 3)) = true ∧ max (s.ulk n.val).lastAct (s.ulk n.val).lastAdv + upperNs s n.val ≤ s.clk
    then giveUp n.val s else s) := act_live hs

theorem exec_unwrapDwellExpiry : exec (.unwrapDwellExpiry n) s = .next (if (s.ulk n.val).wrapped = true ∧ (s.ulk n.val).up = true ∧ (s.ulk n.val).hold = none ∧
    (s.ulk n.val).upSince + ringTime_UNWRAP_MS s 0 * 1000000 ≤ s.clk then s.setUlk n.val { s.ulk n.val with hold := some (s.clk + 500000) } else s) := act_live hs

theorem exec_ulkUnwrap_due {t : Nat} (hw : (s.ulk n.val).wrapped = true) (hu : (s.ulk n.val).up = true) (hh : (s.ulk n.val).hold = some t) (ht : t ≤ s.clk) :
    exec (.ulkUnwrap n) s = .next (ulkPump n.val (ringRaise 2 (s.setUlk n.val { s.ulk n.val with wrapped := false, hold := none }))) := by
  refine (act_live hs).trans (congrArg _ ?_)
  unfold unwrap
  dsimp only
  rw [hh]
  exact if_pos ⟨hw, hu, ht⟩

theorem exec_ulkUnwrap_idle (h : ¬((s.ulk n.val).wrapped = true ∧ (s.ulk n.val).up = true ∧ ∃ t, (s.ulk n.val).hold = some t ∧ t ≤ s.clk)) :
    exec (.ulkUnwrap n) s = .next s := by
  refine (act_live hs).trans (congrArg _ ?_)
  unfold unwrap
  dsimp only
  cases hh : (s.ulk n.val).hold with
  | none => rfl
  | some t => exact if_neg fun ⟨hw, hu, ht⟩ => h ⟨hw, hu, t, hh, ht⟩

/-! ### What waits on the far end (R365, R373, R374) -/

/-- A wait that began at `t` has lasted UPPER_TMO without a replay. -/
def State.upperOld (s : State) (n t : Nat) : Prop := (s.ulk n).replay = 0 ∧ max t (s.ulk n).lastAct + upperNs s n ≤ s.clk

theorem exec_satResponseTimeout_mailbox (hb : s.ring.mbBusy = true) (hp : s.ring.mbSpur = some n.val) (ho : s.upperOld n.val s.ring.mbAt) :
    exec (.satResponseTimeout n) s = .next (ulkRaise n.val 9 (mbDone 1 s)) :=
  (act_live hs).trans (congrArg _ (if_pos ⟨hb, hp, by simpa [State.upperOld] using ho⟩))

theorem satRespTmo_description (hm : ¬(s.ring.mbBusy = true ∧ s.ring.mbSpur = some n.val ∧ s.upperOld n.val s.ring.mbAt)) :
    (∀ t, (s.ulk n.val).descAt = some t → s.upperOld n.val t →
      exec (.satResponseTimeout n) s = .next (ulkRaise n.val 9 (ulkRaise n.val 8 (s.setUlk n.val { s.ulk n.val with descAt := none })))) ∧
    ((∀ t, (s.ulk n.val).descAt = some t → ¬ s.upperOld n.val t) → exec (.satResponseTimeout n) s = .next s) := by
  have hmail : ¬(s.ring.mbBusy = true ∧ s.ring.mbSpur = some n.val ∧
      (decide ((s.ulk n.val).replay = 0) && decide (max s.ring.mbAt (s.ulk n.val).lastAct + upperNs s n.val ≤ s.clk)) = true) :=
    fun ⟨hb, hp, ho⟩ => hm ⟨hb, hp, by simpa [State.upperOld] using ho⟩
  refine ⟨fun t ht ho => ?_, fun hno => ?_⟩
  · refine (act_live hs).trans (congrArg _ ((if_neg hmail).trans ?_))
    rw [ht]
    exact if_pos (by simpa [State.upperOld] using ho)
  · refine (act_live hs).trans (congrArg _ ((if_neg hmail).trans ?_))
    cases ht : (s.ulk n.val).descAt with
    | none => rfl
    | some t => exact if_neg fun ho => hno t ht (by simpa [State.upperOld] using ho)

theorem exec_crownAdvertExpiry_due {a : Advert} (ha : (s.ulk n.val).adv = some a) (hd : a.at_ + 3 * timeIntNs s < s.clk) :
    exec (.crownAdvertExpiry n) s = .next (crownUpdate (s.setUlk n.val { s.ulk n.val with adv := none })) := by
  refine (act_live hs).trans (congrArg _ ?_)
  unfold advertExpiry
  rw [ha]
  exact if_pos hd

theorem exec_crownAdvertExpiry_idle (h : ∀ a, (s.ulk n.val).adv = some a → s.clk ≤ a.at_ + 3 * timeIntNs s) : exec (.crownAdvertExpiry n) s = .next s := by
  refine (act_live hs).trans (congrArg _ ?_)
  unfold advertExpiry
  cases ha : (s.ulk n.val).adv with
  | none => rfl
  | some a => exact if_neg (Nat.not_lt.2 (h a ha))

theorem exec_timeFrameTx : exec (.timeFrameTx n) s = .next (if (s.ulk n.val).timeAt + timeIntNs s ≤ s.clk ∧
    mayStart s n.val (linkFrame 4 (wsBytes (timeWords (crownUpdate s) n.val)) s) = true then
      ulkQueue n.val (linkFrame 4 (wsBytes (timeWords (crownUpdate s) n.val)) s) ((crownUpdate s).setUlk n.val { (crownUpdate s).ulk n.val with timeAt := s.clk })
    else s) := act_live hs

theorem exec_sampleSilenceTimeout_none {c : Fin 128} (h : s.sats.find? (fun y => decide (y.chan = 128 * (n.val - 2) + c.val)) = none) :
    exec (.sampleSilenceTimeout n c) s = .next s := by
  refine (act_live hs).trans (congrArg _ ?_)
  unfold satSilence
  rw [h]

theorem exec_sampleSilenceTimeout_chan {c : Fin 128} {y : SatChan} (h : s.sats.find? (fun y => decide (y.chan = 128 * (n.val - 2) + c.val)) = some y) :
    exec (.sampleSilenceTimeout n c) s = .next (if 2 ≤ n.val ∧ (s.ulk n.val).sat = true ∧ satOn s n.val c.val = true ∧ (!y.lost) = true ∧ (s.ulk n.val).replay = 0 ∧
        max y.lastRx (s.ulk n.val).lastAct + y.maxlat * 1000 + upperNs s n.val ≤ s.clk then
      raiseIf (decide (y.cnt ≠ 0)) pGRID 4 (ulkRaise n.val 9 (ulkRaise n.val 8 { s with sats := s.sats.map (fun z => if z.chan = y.chan then { z with lost := true } else z) }))
      else s) := by
  refine (act_live hs).trans (congrArg _ ?_)
  unfold satSilence
  rw [h]

end

/-- An outcome under a condition, told as what follows where it holds and where it does not. -/
theorem next_ite_iff {i : Instr} {s a b : State} {c d : Prop} [Decidable c] (hx : exec i s = .next (if c then a else b)) (hcd : d ↔ c) :
    (d → exec i s = .next a) ∧ (¬d → exec i s = .next b) :=
  ⟨fun h => hx.trans (by rw [if_pos (hcd.1 h)]), fun h => hx.trans (by rw [if_neg (mt hcd.2 h)])⟩

/-- Settles O33: each block received and each timer, where it acts and where it does not. -/
theorem linkControl : Obligations.LinkControl := by
  refine ⟨fun s n seq b hs => ⟨fun hrx => ⟨exec_ulkAckRx_acks hs hrx, exec_keepaliveRx_acks hs hrx, exec_keepaliveRx_acks hs hrx, fun hen hu hq => ?_, fun hen hu hq => ?_,
      fun hen hu => ?_, fun hen => exec_ulkResetRx_ignored hs (.inr hen)⟩, fun hrx => ⟨?_, fun v => ?_, exec_ulkResetRx_ignored hs (.inl hrx)⟩⟩,
    fun s n hs => ⟨next_ite_iff (exec_ulkAckTimeout hs) (by simp), next_ite_iff (exec_ulkReplayBudgetExpiry hs) (by simp), next_ite_iff (exec_streamDeliveryTimeout hs) Iff.rfl,
      next_ite_iff (exec_unwrapDwellExpiry hs) Iff.rfl, fun ⟨hw, hu, t, hh, ht⟩ => exec_ulkUnwrap_due hs hw hu hh ht, exec_ulkUnwrap_idle hs⟩,
    fun s n hs => ⟨⟨fun ⟨hb, hp, ho⟩ => exec_satResponseTimeout_mailbox hs hb hp ho, satRespTmo_description hs⟩,
      ⟨fun a ha hd => exec_crownAdvertExpiry_due hs ha hd, exec_crownAdvertExpiry_idle hs⟩,
      ⟨fun hd hm => (next_ite_iff (exec_timeFrameTx hs) Iff.rfl).1 ⟨hd, hm⟩, fun h => (next_ite_iff (exec_timeFrameTx hs) Iff.rfl).2 fun ⟨hd, hm⟩ => ?_⟩,
      fun c => ⟨exec_sampleSilenceTimeout_none hs, fun y hy => next_ite_iff (exec_sampleSilenceTimeout_chan hs hy) (by simp)⟩⟩,
    fun s hs => next_ite_iff (act_live hs) Iff.rfl⟩
  · rw [exec_ulkResetRx_eq hs hrx hen, if_neg (by simp [hq]), if_pos hu, hu]
    rfl
  · rw [exec_ulkResetRx_eq hs hrx hen, if_pos ⟨hu, hq⟩]
  · rw [exec_ulkResetRx_eq hs hrx hen, if_neg (by simp [hu]), if_neg (by simp [hu]), hu]
    rfl
  · exact (act_live hs).trans (congrArg _ (if_neg (by simp [hrx])))
  · exact (act_live hs).trans (congrArg _ (if_neg (by simp [hrx])))
  · obtain h | h := h
    · omega
    · simp [h] at hm

end Sys2Proof.Machine
end

section
/-! PROOFS. Frames refused on a link, and the writes of taps, the mailbox, satellites and the receive queue (R357 to R362, R372, R383, R386, R387). -/

namespace Sys2Proof.Machine

/-! ### A frame refused (R360 to R362) -/

/-- What is wrong with a frame as it came, or it is not the next in order. -/
def frameBad (s : State) (n : Nat) (rx : UlkRx) (g : UlkFrame) : Prop := rxFault rx g ≠ 0 ∨ rx.seq % 2 ^ 16 ≠ (s.ulk n).rxSeq

/-- A link that heard something now. -/
def heardNow (s : State) (n : Nat) : State := laneRxData n (s.setUlk n { s.ulk n with lastAct := s.clk })

/-- What a frame refused for itself leaves: a replay asked for with its cause, a bad CRC counted and told. -/
def frameRefused (s : State) (n : Nat) (rx : UlkRx) (g : UlkFrame) : State :=
  if rxFault rx g = 1 then askReplay n 1 (ulkRaise n 4 ((heardNow s n).setUlk n { (heardNow s n).ulk n with crcErr := satInc 16 (s.ulk n).crcErr }))
  else askReplay n (if rxFault rx g = 0 then 2 else rxFault rx g) (heardNow s n)

section
variable {s : State} {n : Nat} {rx : UlkRx} {g : UlkFrame} {room : Bool} {noRoom f : State → State}

theorem heardNow_ulk : (heardNow s n).ulk n = { s.ulk n with lastAct := s.clk } := by simp [heardNow, laneRxData]

theorem ulkTake_deaf (h : (s.ulk n).up = false ∨ laneRxOk s n = false) : ulkTake n rx g room noRoom f s = s := if_pos (by obtain h | h := h <;> simp [h])

theorem ulkTake_heard (hu : (s.ulk n).up = true) (hrx : laneRxOk s n = true) : ulkTake n rx g room noRoom f s =
    if rxFault rx g ≠ 0 then askReplay n (rxFault rx g) (if rxFault rx g = 1 then ulkRaise n 4 ((heardNow s n).setUlk n { (heardNow s n).ulk n with crcErr := satInc 16 (s.ulk n).crcErr }) else heardNow s n)
    else if rx.seq % 2 ^ 16 ≠ (s.ulk n).rxSeq then askReplay n 2 (heardNow s n)
    else if !room then sendAck n true (noRoom ((heardNow s n).setUlk n { (heardNow s n).ulk n with rxBad := true, refused := some g }))
    else sendAck n false (f ((heardNow s n).setUlk n { (heardNow s n).ulk n with rxSeq := ((s.ulk n).rxSeq + 1) % 2 ^ 16, ackValid := true, rxBad := false, refused := none })) := by
  have hx : ((heardNow s n).ulk n).crcErr = (s.ulk n).crcErr ∧ ((heardNow s n).ulk n).rxSeq = (s.ulk n).rxSeq := by rw [heardNow_ulk]; exact ⟨rfl, rfl⟩
  rw [← hx.1, ← hx.2]
  exact if_neg (by simp [hu, hrx])

/-- A damaged or misnumbered frame has no effect of its kind. -/
theorem ulkTake_refused (hu : (s.ulk n).up = true) (hrx : laneRxOk s n = true) (hb : frameBad s n rx g) : ulkTake n rx g room noRoom f s = frameRefused s n rx g := by
  rw [ulkTake_heard hu hrx, frameRefused]
  by_cases h0 : rxFault rx g = 0
  · rw [if_neg (by simp [h0]), if_pos (hb.resolve_left (by simp [h0])), if_neg (by omega), if_pos h0]
  · rw [if_pos h0, if_neg h0]
    split
    next h1 => rw [h1]
    · rfl

/-- A sound frame without room is told BUSY. -/
theorem ulkTake_busy (hu : (s.ulk n).up = true) (hrx : laneRxOk s n = true) (hb : ¬frameBad s n rx g) : ulkTake n rx g false noRoom f s =
    sendAck n true (noRoom ((heardNow s n).setUlk n { (heardNow s n).ulk n with rxBad := true, refused := some g })) := by
  obtain ⟨h0, hq⟩ := not_or.1 hb
  rw [ulkTake_heard hu hrx, if_neg h0, if_neg hq]
  rfl

theorem respRx_refused {h : RingHdr} {w : List Word} (hu : (s.ulk n).up = true) (hrx : laneRxOk s n = true)
    (hb : frameBad s n rx ⟨8, h.dst, h.src, h.ttl, h.wrap, h.eseq, wsBytes w, false, none, none⟩) :
    respRx n rx h w s = frameRefused s n rx ⟨8, h.dst, h.src, h.ttl, h.wrap, h.eseq, wsBytes w, false, none, none⟩ := by
  unfold respRx
  dsimp only
  split
  · exact ulkTake_refused hu hrx hb
  · exact ulkTake_refused hu hrx hb

theorem respRx_deaf {h : RingHdr} {w : List Word} (hd : (s.ulk n).up = false ∨ laneRxOk s n = false) : respRx n rx h w s = s := by
  unfold respRx
  dsimp only
  split
  · exact ulkTake_deaf hd
  · exact ulkTake_deaf hd

theorem fireRx_deaf {h : RingHdr} {w : List Word} (hd : (s.ulk n).up = false ∨ laneRxOk s n = false) : fireRx n rx h w s = s := by
  unfold fireRx
  exact ulkTake_deaf hd

/-- A queued frame for this hub, no duplicate, needs room in the receive queue. -/
theorem queueFrameRx_busy {h : RingHdr} {k : Nat} {p : List Byte} (hu : (s.ulk n).up = true) (hrx : laneRxOk s n = true) (hd : h.dst = ringAddr s) (hdup : isDup s h = false)
    (hroom : rxqRoom s n p.length = false) (hb : ¬frameBad s n rx ⟨k, h.dst, h.src, h.ttl, h.wrap, h.eseq, p, false, none, none⟩) : queueFrameRx n rx h k p s =
      sendAck n true (ulkRaise n 6 ((heardNow s n).setUlk n { (heardNow s n).ulk n with rxBad := true, refused := some ⟨k, h.dst, h.src, h.ttl, h.wrap, h.eseq, p, false, none, none⟩ })) := by
  have hmine : (decide (h.dst = ringAddr s) && !(isDup s h)) = true := by simp [hd, hdup]
  unfold queueFrameRx
  dsimp only
  rw [hmine, if_pos rfl, hroom]
  exact ulkTake_busy hu hrx hb

end

/-! ### Writes of a link's page -/

theorem regEffect_ulk (src o : Nat) (v : Word) (s : State) (n : Fin 8) (ho : o < 0x1000) :
    regEffect src ((0x30 + n.val) * 0x1000 + o) v s = wULK src n.val o v s := by
  have hblock : blockOf (0x30 + n.val) = some 0x30 := by revert n; decide
  rw [regEffect, show ((0x30 + n.val) * 0x1000 + o) / 0x1000 = 0x30 + n.val by omega, show ((0x30 + n.val) * 0x1000 + o) % 0x1000 = o by omega, hblock]
  exact congrArg (wULK src · o v s) (Nat.add_sub_cancel_left _ _)

/-- The GO of a word is not stored with it. -/
theorem or_go_and (v m : Word) (hm : 0x80000000#32 &&& m = 0#32) : (v ||| 0x80000000#32) &&& m = v &&& m := by
  rw [BitVec.and_or_distrib_right, hm, BitVec.or_zero]

theorem bit_or_go (v : Word) : bit (v ||| 0x80000000#32) 31 = true := bit_or_pow v 31 (by decide)

section
variable {s : State} {src : Src} {n : Fin 8} {v : Word}

/-- ULK_TAP.GO stores the word, and sends it on an up link (R386). -/
theorem exec_ulkTapGo (h : s.reaches ((0x30 + n.val) * 0x1000 + 0x134)) : exec (.ulkTapGo src n v) s = .next
    (if (s.ulk n.val).up = true then ulkQueue n.val (linkFrame 10 (wsBytes [v &&& 0x3301F0F#32]) (s.setRw (ulkTapAt n.val) (v &&& 0x3301F0F#32))) (s.setRw (ulkTapAt n.val) (v &&& 0x3301F0F#32))
      else s.setRw (ulkTapAt n.val) (v &&& 0x3301F0F#32)) := by
  have hx : exec (.ulkTapGo src n v) s = .next (ulkTapWrite n.val (v ||| 0x80000000#32) s) :=
    (act_busWrite src.code _ h (by omega)).trans (congrArg _ (regEffect_ulk src.code 0x134 _ s n (by decide)))
  rw [hx]
  unfold ulkTapWrite
  rw [or_go_and _ _ (by decide), bit_or_go]
  simp

/-- ULK_RXQ_RD is stored; a refused frame that finds room now ends the BUSY (R361, R372). -/
theorem exec_ulkRxqRdWrite (h : s.reaches ((0x30 + n.val) * 0x1000 + 0x12C)) :
    exec (.ulkRxqRdWrite src n v) s = .next (busyFree n.val (s.setRw (ulkRxqRdAt n.val) (v &&& 0xFFFFF#32))) :=
  (act_busWrite src.code v h (by omega)).trans (congrArg _ (regEffect_ulk src.code 0x12C v s n (by decide)))

theorem busyFree_idle {u : State} {m : Nat} (h : (u.ulk m).busySent = false ∨ (u.ulk m).refused = none ∨ (∃ f, (u.ulk m).refused = some f ∧ frameRoom u m f = false)) :
    busyFree m u = u := by
  unfold busyFree
  cases hf : (u.ulk m).refused with
  | none => rfl
  | some f =>
    refine if_neg fun ⟨hb, hr⟩ => ?_
    obtain h | h | ⟨g, hg, h⟩ := h
    · simp [h] at hb
    · simp [hf] at h
    · rw [hf] at hg
      cases hg
      simp [h] at hr

theorem busyFree_due {u : State} {m : Nat} {f : UlkFrame} (hf : (u.ulk m).refused = some f) (hb : (u.ulk m).busySent = true) (hr : frameRoom u m f = true) :
    busyFree m u = sendAck m false (u.setUlk m { u.ulk m with rxBad := false, refused := none }) := by
  unfold busyFree
  rw [hf]
  exact if_pos ⟨hb, hr⟩

/-! ### The mailbox (R387) -/

theorem exec_mbCtlGo (h : s.reaches 0x30230) : exec (.mbCtlGo src v) s = .next (mbCtlWrite (v ||| 0x80000000#32) s) :=
  (act_busWrite src.code _ h (by decide)).trans (congrArg _ (regEffect_ulk src.code 0x230 _ s 0 (by decide)))

/-- The hub with MB_CTL written. -/
def State.mbSet (s : State) (v : Word) : State := s.setRw (mbCtlAt 0) (v &&& 0x379F0000#32)

theorem mbSet_fields : mbCtl_OP (s.mbSet v) 0 = fld v 29 28 ∧ mbCtl_LINK (s.mbSet v) 0 = fld v 26 24 ∧ mbCtl_SPUR (s.mbSet v) 0 = (bit v 23).toNat := by
  simp only [State.mbSet, mbCtl_OP, mbCtl_LINK, mbCtl_SPUR, State.rw_setRw, if_true, ← fld_bit]
  and_intros <;> exact fld_and_in _ _ _ _ (by decide)

/-- The mailbox with an access under way. -/
def State.mbAsks (s : State) (v : Word) : State :=
  { s.mbSet v with ring := { s.ring with mbBusy := true, mbTag := (s.ring.mbTag + 1) % 2 ^ 16, mbSpur := if bit v 23 then some (fld v 26 24) else none, mbAt := s.clk } }

theorem mbCtlWrite_eq : mbCtlWrite (v ||| 0x80000000#32) s =
    if s.ring.mbBusy = false ∧ (fld v 29 28 = 1 ∨ fld v 29 28 = 2) ∧ (bit v 23 = false ∨ 2 ≤ fld v 26 24) then
      (if bit v 23 then ulkQueue (fld v 26 24) (linkFrame 8 (wsBytes [word (fld v 29 28 * 2 ^ 28 + (s.ring.mbTag + 1) % 2 ^ 16), (s.mbAsks v).rw (mbAddrAt 0),
          if fld v 29 28 = 2 then (s.mbAsks v).rw (mbDataAt 0) else 0]) (s.mbAsks v)) (s.mbAsks v)
        else unicast (mbTrunk (s.mbAsks v)) 8 (mbCtl_DST (s.mbAsks v) 0) (wsBytes [word (fld v 29 28 * 2 ^ 28 + (s.ring.mbTag + 1) % 2 ^ 16), (s.mbAsks v).rw (mbAddrAt 0),
          if fld v 29 28 = 2 then (s.mbAsks v).rw (mbDataAt 0) else 0]) (s.mbAsks v))
    else s.mbSet v := by
  obtain ⟨hop, hlink, hspur⟩ := mbSet_fields (s := s) (v := v)
  have hset : s.setRw (mbCtlAt 0) ((v ||| 0x80000000#32) &&& 0x379F0000#32) = s.mbSet v := by rw [or_go_and _ _ (by decide)]; rfl
  have hb : decide ((bit v 23).toNat = 1) = bit v 23 := by cases bit v 23 <;> rfl
  unfold mbCtlWrite
  rw [hset, bit_or_go]
  dsimp only
  rw [hop, hlink, hspur, hb]
  refine if_congr ?_ rfl rfl
  rw [show (s.mbSet v).ring = s.ring from rfl]
  simp

/-! ### SAT_EN (R383) -/

theorem exec_satEnWrite {i : Fin 4} (h : s.reaches ((0x30 + n.val) * 0x1000 + 0x140 + 4 * i.val)) : exec (.satEnWrite src n i v) s = .next (satEnWrite n.val i.val v s) := by
  have ha : (0x30 + n.val) * 0x1000 + 0x140 + 4 * i.val = (0x30 + n.val) * 0x1000 + (0x140 + 4 * i.val) := by omega
  refine (act_busWrite src.code v h (by omega)).trans (congrArg _ ?_)
  rw [ha, regEffect_ulk _ _ _ _ _ (by omega)]
  unfold wULK
  dsimp only
  rw [if_neg (by omega), if_neg (by omega), if_neg (by omega), if_pos (by omega), show (0x140 + 4 * i.val - 0x140) / 4 = i.val by omega]

theorem satEnWrite_same {m i : Nat} (h : satEn_EN s m i = v.toNat ∨ m < 2) : satEnWrite m i v s = s.setRw (satEnAt m i) v := if_pos h

/-- A change asks the satellite by one SCHED frame, with the start second and the four words. -/
theorem satEnWrite_change {m i : Nat} (h2 : 2 ≤ m) (hne : satEn_EN s m i ≠ v.toNat) (ht : (s.ulk m).schedT < s.st + 10 * msU) :
    ∃ t u f, satEnWrite m i v s = ulkQueue m f u ∧ u.rw (satEnAt m i) = v ∧ t = cdiv (s.st + 10 * msU) secU * secU ∧ (u.ulk m).schedT = t ∧ f.ftype = 7 ∧
      f.payload = wsBytes ([word (2 ^ 24), word (secOf t), word (nsOf t)] ++ (List.range 4).map (fun j => u.rw (satEnAt m j))) := by
  have hif : ¬(s.st + 10 * msU ≤ ((s.setRw (satEnAt m i) v).ulk m).schedT) := Nat.not_le.2 ht
  unfold satEnWrite
  dsimp only
  rw [if_neg (by omega), if_neg hif]
  exact ⟨_, _, _, rfl, by simp, rfl, by simp, rfl, by simp [linkFrame]⟩

/-- A trunk has no SAT_EN (R383). -/
theorem accessFault_trunk {i : Fin 4} (hn : n.val < 2) : ∃ c, s.accessFault ((0x30 + n.val) * 0x1000 + 0x140 + 4 * i.val) = some c := by
  have hreg : ∀ (n : Fin 2) (i : Fin 4), findReg (0x30 + n.val) ((0x140 + 4 * i.val) / 4 * 4) = none := by decide
  have hp : ((0x30 + n.val) * 0x1000 + 0x140 + 4 * i.val) / 0x1000 = 0x30 + n.val := by omega
  have ho : ((0x30 + n.val) * 0x1000 + 0x140 + 4 * i.val) % 0x1000 = 0x140 + 4 * i.val := by omega
  unfold State.accessFault
  dsimp only
  rw [hp, ho, hreg ⟨n.val, hn⟩ i]
  split
  · exact ⟨_, rfl⟩
  · rw [if_neg (by simp [headerOff]; omega), if_pos (.inr rfl)]
    exact ⟨_, rfl⟩

end

/-! ### The frames as they are taken -/

/-- A command's outcome under another name. -/
theorem exec_eq {i : Instr} {s t u : State} (hx : exec i s = .next t) (h : t = u) : exec i s = .next u := by rw [hx, h]

section
variable {s : State} {n : Fin 8} {rx : UlkRx} {h : RingHdr} {w : List Word} {p : List Byte} {b : Word} (hs : s.supply.held = false)
include hs

theorem exec_timeFrameRx {ts : Nat} : exec (.timeFrameRx n rx w ts) s = .next (ulkTake n.val rx (linkRx 4 rx w) true id (timeTaken n.val w ts) s) := act_live hs
theorem exec_replayReqRx : exec (.replayReqRx n rx b) s = .next (ulkTake n.val rx (linkRx 9 rx [b]) true id (replayReq n.val (fld b 15 0)) s) := act_live hs
theorem exec_tapReqRx : exec (.tapReqRx n rx b) s = .next (ulkTake n.val rx (linkRx 10 rx [b]) true id (tapReq n.val b) s) := act_live hs
theorem exec_descriptionRx : exec (.descriptionRx n rx w) s = .next (descRx n.val rx w s) := act_live hs
theorem exec_satSampleFrameRx : exec (.satSampleFrameRx n rx w) s = .next (satFrameRx n.val rx w s) := act_live hs
theorem exec_fireFrameRx : exec (.fireFrameRx n rx h w) s = .next (fireRx n.val rx h w s) := act_live hs
theorem exec_armFrameRx : exec (.armFrameRx n rx h b) s = .next (armRx n.val rx h b s) := act_live hs
theorem exec_sampleFrameRx : exec (.sampleFrameRx n rx h p) s = .next (queueFrameRx n.val rx h 1 p s) := act_live hs
theorem exec_recordFrameRx : exec (.recordFrameRx n rx h p) s = .next (queueFrameRx n.val rx h 2 p s) := act_live hs
theorem exec_noteFrameRx : exec (.noteFrameRx n rx h p) s = .next (queueFrameRx n.val rx h 3 p s) := act_live hs
theorem exec_mgmtResponseRx : exec (.mgmtResponseRx n rx h w) s = .next (respRx n.val rx h w s) := act_live hs
theorem exec_mgmtReadRx {tag : BitVec 16} {a : Word} :
    exec (.mgmtReadRx n rx h tag a) s = .next (mgmtRx n.val rx h [word (2 ^ 28 + tag.toNat), a, 0] (remoteRead a.toNat) s) := act_live hs
theorem exec_mgmtWriteRx {tag : BitVec 16} {a v : Word} :
    exec (.mgmtWriteRx n rx h tag a v) s = .next (mgmtRx n.val rx h [word (2 ^ 29 + tag.toNat), a, v] (remoteWrite a.toNat v) s) := act_live hs

end

section
variable {s : State} {n : Fin 8} {rx : UlkRx} (hu : (s.ulk n.val).up = true) (hrx : laneRxOk s n.val = true)
include hu hrx

/-- FIRE and ARM frames and MGMT accesses, damaged or misnumbered. -/
theorem fireRx_refused {h : RingHdr} {w : List Word} (hb : frameBad s n.val rx ⟨6, h.dst, h.src, h.ttl, h.wrap, h.eseq, wsBytes w, false, none, none⟩) :
    fireRx n.val rx h w s = frameRefused s n.val rx ⟨6, h.dst, h.src, h.ttl, h.wrap, h.eseq, wsBytes w, false, none, none⟩ := by
  unfold fireRx
  exact ulkTake_refused hu hrx hb

theorem armRx_refused {h : RingHdr} {b : Word} (hb : frameBad s n.val rx ⟨5, h.dst, h.src, h.ttl, h.wrap, h.eseq, wsBytes [b], false, none, none⟩) :
    armRx n.val rx h b s = frameRefused s n.val rx ⟨5, h.dst, h.src, h.ttl, h.wrap, h.eseq, wsBytes [b], false, none, none⟩ := ulkTake_refused hu hrx hb

theorem queueFrameRx_refused {h : RingHdr} {k : Nat} {p : List Byte} (hb : frameBad s n.val rx ⟨k, h.dst, h.src, h.ttl, h.wrap, h.eseq, p, false, none, none⟩) :
    queueFrameRx n.val rx h k p s = frameRefused s n.val rx ⟨k, h.dst, h.src, h.ttl, h.wrap, h.eseq, p, false, none, none⟩ := ulkTake_refused hu hrx hb

theorem mgmtRx_refused {h : RingHdr} {w : List Word} {run : State → Nat × Word × State} (h2 : n.val < 2)
    (hb : frameBad s n.val rx ⟨8, h.dst, h.src, h.ttl, h.wrap, h.eseq, wsBytes w, false, none, none⟩) :
    mgmtRx n.val rx h w run s = frameRefused s n.val rx ⟨8, h.dst, h.src, h.ttl, h.wrap, h.eseq, wsBytes w, false, none, none⟩ :=
  (if_pos h2).trans (ulkTake_refused hu hrx hb)

theorem descRx_refused {w : List Word} (h2 : 2 ≤ n.val) (hb : frameBad s n.val rx (linkRx 8 rx w)) : descRx n.val rx w s = frameRefused s n.val rx (linkRx 8 rx w) :=
  (if_pos h2).trans (ulkTake_refused hu hrx hb)

end

/-! ### The statement -/

/-- Settles O32: each kind of frame refused, and the writes of taps, the mailbox, SAT_EN and the receive queue. -/
theorem refusedFramesAndLinkWrites : Obligations.RefusedFramesAndLinkWrites := by
  refine ⟨fun s n rx hs => ⟨fun hu hrx w ts h p b tag a v => ?_, fun hdeaf w ts h p b => ?_⟩, fun s src n v h => ⟨fun hu => ?_, fun hu => ?_⟩, fun s src v h hno => ?_,
    fun s src v h hfree hop => ?_, fun s src n i v h h2 hne ht => ?_, fun s src n i v hs => ⟨fun h2 h heq => ?_, fun h2 => ?_⟩,
    fun s src n v h => ⟨fun hno => ?_, fun f hf hb hr => ?_⟩⟩
  · exact ⟨fun hb => exec_eq (exec_timeFrameRx hs) (ulkTake_refused hu hrx hb), fun hb => exec_eq (exec_replayReqRx hs) (ulkTake_refused hu hrx hb),
      fun hb => exec_eq (exec_tapReqRx hs) (ulkTake_refused hu hrx hb), fun hb h2 => exec_eq (exec_descriptionRx hs) (descRx_refused hu hrx h2 hb),
      fun hb => exec_eq (exec_fireFrameRx hs) (fireRx_refused hu hrx hb), fun hb => exec_eq (exec_armFrameRx hs) (armRx_refused hu hrx hb),
      fun hb => exec_eq (exec_sampleFrameRx hs) (queueFrameRx_refused hu hrx hb), fun hb => exec_eq (exec_recordFrameRx hs) (queueFrameRx_refused hu hrx hb),
      fun hb => exec_eq (exec_noteFrameRx hs) (queueFrameRx_refused hu hrx hb), fun hb => exec_eq (exec_mgmtResponseRx hs) (respRx_refused hu hrx hb),
      fun h2 hb => exec_eq (exec_mgmtReadRx hs) (mgmtRx_refused hu hrx h2 hb), fun h2 hb => exec_eq (exec_mgmtWriteRx hs) (mgmtRx_refused hu hrx h2 hb),
      fun hb hd hdup hroom => exec_eq (exec_sampleFrameRx hs) (queueFrameRx_busy hu hrx hd hdup hroom hb),
      fun hb hd hdup hroom => exec_eq (exec_recordFrameRx hs) (queueFrameRx_busy hu hrx hd hdup hroom hb),
      fun hb hd hdup hroom => exec_eq (exec_noteFrameRx hs) (queueFrameRx_busy hu hrx hd hdup hroom hb)⟩
  · exact ⟨exec_eq (exec_timeFrameRx hs) (ulkTake_deaf hdeaf), exec_eq (exec_satSampleFrameRx hs) (ite_eq_right_iff.2 fun _ => ulkTake_deaf hdeaf),
      exec_eq (exec_sampleFrameRx hs) (ulkTake_deaf hdeaf), exec_eq (exec_recordFrameRx hs) (ulkTake_deaf hdeaf),
      exec_eq (exec_noteFrameRx hs) (ulkTake_deaf hdeaf), exec_eq (exec_replayReqRx hs) (ulkTake_deaf hdeaf),
      exec_eq (exec_tapReqRx hs) (ulkTake_deaf hdeaf), exec_eq (exec_descriptionRx hs) (ite_eq_right_iff.2 fun _ => ulkTake_deaf hdeaf),
      exec_eq (exec_fireFrameRx hs) (fireRx_deaf hdeaf), exec_eq (exec_armFrameRx hs) (ulkTake_deaf hdeaf),
      exec_eq (exec_mgmtResponseRx hs) (respRx_deaf hdeaf)⟩
  · rw [exec_ulkTapGo h, if_pos hu]
  · rw [exec_ulkTapGo h, if_neg (by simp [hu])]
  · refine (exec_mbCtlGo h).trans (congrArg _ (mbCtlWrite_eq.trans (if_neg fun ⟨hb, hop, hl⟩ => ?_)))
    obtain hn | hn | hn | ⟨h23, hn⟩ := hno
    · simp [hn] at hb
    · omega
    · omega
    · obtain hl | hl := hl
      · simp [h23] at hl
      · omega
  · refine ⟨s.mbAsks v, rfl, rfl, rfl, rfl, fun h23 hl => ⟨?_, ?_⟩, fun h23 => ⟨?_, ?_⟩⟩
    · exact if_pos h23
    · rw [exec_mbCtlGo h, mbCtlWrite_eq, if_pos ⟨hfree, hop, .inr hl⟩, if_pos h23]
    · exact if_neg (by simp [h23])
    · rw [exec_mbCtlGo h, mbCtlWrite_eq, if_pos ⟨hfree, hop, .inl h23⟩, if_neg (by simp [h23])]
  · obtain ⟨t, u, f, hx, hrest⟩ := satEnWrite_change (v := v) h2 hne ht
    exact ⟨t, u, f, (exec_satEnWrite h).trans (congrArg _ hx), hrest⟩
  · rw [exec_satEnWrite h, satEnWrite_same (.inl heq)]
  · obtain ⟨c, hc⟩ := accessFault_trunk (s := s) (i := i) h2
    refine ⟨_, (act_live hs).trans (congrArg _ (onWrite_faulty src.code _ c _ s hc)), ?_⟩
    exact ⟨by simp, by simp, by simp, badAccess_latched ..⟩
  · exact (exec_ulkRxqRdWrite h).trans (congrArg _ (busyFree_idle (u := s.setRw (ulkRxqRdAt n.val) (v &&& 0xFFFFF#32)) hno))
  · exact (exec_ulkRxqRdWrite h).trans (congrArg _ (busyFree_due (u := s.setRw (ulkRxqRdAt n.val) (v &&& 0xFFFFF#32)) hf hb hr))

end Sys2Proof.Machine
end

section
/-! SUPPORT. The Ethernet ports (R388 to R398): what their writes to memory and their events leave, the descriptors of a ring, and a link's change. -/

namespace Sys2Proof.Machine

/-! ### What writes to memory and events leave of a port -/

theorem eth_inv {P : EthSt → Prop} (n : Nat) : CoreInv (fun s => P (s.eth n)) where
  latch p b h := by simpa [State.eth] using h
  wake h := by simpa [State.eth] using h
  same h e := by
    have he : _ = _ := e.2
    simpa [State.eth, he] using h

section
variable (n m : Nat) (s : State)

theorem sramPut_eth (a : Nat) (bs : List Byte) : (sramPut a bs s).eth m = s.eth m := (eth_inv (P := (· = s.eth m)) m).sramPut a bs rfl

@[simp] theorem putDesc_eth (a : Nat) (w : Word) : (putDesc a w s).eth m = s.eth m := sramPut_eth m s a _

/-- A descriptor written back leaves the ring, and the port for the rest as it is (R392). -/
theorem txBack_eth (id : Nat) (d e : Bool) : (txBack n id d e s).eth n =
    { s.eth n with txHead := ((s.eth n).txHead + 1) % txSize s n, txGiven := (s.eth n).txGiven - 1 } := by
  simp [txBack]

/-- Writing a descriptor back forgets no event. -/
theorem txBack_latched (id : Nat) (d e : Bool) {p i : Nat} (h : bit (s.page p).stat i = true) : bit ((txBack n id d e s).page p).stat i = true := by
  have hinv := (latched_inv p i).side.toLaneInv
  exact hinv.eth _ _ (hinv.sramPut _ _ (hinv.sramPut _ _ h))

theorem ethErr_eth (c : Nat) : (ethErr n c s).eth n = { s.eth n with cause := (s.eth n).cause ||| 2 ^ c } := by simp [ethErr, ethRaise]

theorem ethErr_sram (c : Nat) : (ethErr n c s).sram = s.sram := by simp [ethErr, ethRaise]

theorem ethErr_event (c : Nat) : bit ((ethErr n c s).page (pETH n)).stat 3 = true := raise_latched _ _ _ (by decide)

theorem setEth_page (x : EthSt) (p : Nat) : (s.setEth n x).page p = s.page p := by simp

theorem ringReady_setEth {x : EthSt} (hg : x.txGiven = (s.eth n).txGiven) (hh : x.txHead = (s.eth n).txHead) : ringReady (s.setEth n x) n = ringReady s n := by
  simp [ringReady, txDesc, txSize, ethTxBase_BASE, ethTxCfg_SIZE, State.sramW, hg, hh]

end

/-! ### A link's change (R388, R391) -/

/-- The link a change leaves, and the port with it. -/
def linkAfter (s : State) (n : Nat) (up anDone anFail : Bool) : Bool :=
  up && decide ((s.lane (8 + n)).st = 5) && decide (ethCfg_EN s n = 1) && !(anFail && (ethNegotiates s n || sgmii s n)) && (!ethNegotiates s n || anDone)

def portAfter (s : State) (n : Nat) (up : Bool) (speed : Nat) (anDone anFail : Bool) : EthSt :=
  { s.eth n with link := linkAfter s n up anDone anFail, speed := if sgmii s n then min 2 speed else if (s.lane (8 + n)).rate = 1 then 3 else 2,
                 anDone := ethNegotiates s n && anDone, anFail := anFail && (ethNegotiates s n || sgmii s n) }

/-- The hub once the link has changed and ETH_LINK told of it. -/
def linkMoved (s : State) (n : Nat) (up : Bool) (speed : Nat) (anDone anFail : Bool) : State :=
  raiseIf ((s.eth n).link != linkAfter s n up anDone anFail) (pETH n) 0 (s.setEth n (portAfter s n up speed anDone anFail))

section
variable {s : State} {n : Nat} {up : Bool} {speed : Nat} {anDone anFail : Bool} {mid : Nat}

theorem linkMoved_eth : (linkMoved s n up speed anDone anFail).eth n = portAfter s n up speed anDone anFail := by simp [linkMoved]

theorem linkMoved_sram : (linkMoved s n up speed anDone anFail).sram = s.sram := by simp [linkMoved]

theorem linkMoved_txSize : txSize (linkMoved s n up speed anDone anFail) n = txSize s n := by simp [linkMoved, txSize, ethTxCfg_SIZE]

theorem linkMoved_ring : ringReady (linkMoved s n up speed anDone anFail) n = ringReady s n := by
  rw [← ringReady_setEth n s (x := portAfter s n up speed anDone anFail) rfl rfl]
  simp [linkMoved, ringReady, txDesc, txSize, ethTxBase_BASE, ethTxCfg_SIZE, State.sramW]

/-- A link that does not fall cuts no frame short. -/
theorem ethLink_stays (h : (s.eth n).link = false ∨ linkAfter s n up anDone anFail = true) :
    ethLink n up speed anDone anFail mid s = linkMoved s n up speed anDone anFail := by
  have hc : ((s.eth n).link && !linkAfter s n up anDone anFail) = false := by obtain h | h := h <;> simp [h]
  exact (if_neg (by rw [hc]; decide) : (if ((s.eth n).link && !linkAfter s n up anDone anFail) = true then _ else linkMoved s n up speed anDone anFail) = _)

/-- A link that falls writes the descriptor of the ring frame under way back with ERR, and a stream's packet starts again. -/
theorem ethLink_falls {t : State} (hl : (s.eth n).link = true) (hd : linkAfter s n up anDone anFail = false)
    (ht : t = if (decide (mid = 1) && ringReady s n) = true then ethErr n 2 (txBack n 0 false true (linkMoved s n up speed anDone anFail)) else linkMoved s n up speed anDone anFail) :
    ethLink n up speed anDone anFail mid s = t.setEth n { t.eth n with cur := (t.eth n).cur.map (fun c => (c.1, c.2.1, 0)) } := by
  have hc : ((s.eth n).link && !linkAfter s n up anDone anFail) = true := by simp [hl, hd]
  rw [← linkMoved_ring (up := up) (speed := speed) (anDone := anDone) (anFail := anFail)] at ht
  subst ht
  exact if_pos hc

end

end Sys2Proof.Machine
end

section
/-! PROOFS. Links, tails and timestamps read of the Ethernet ports (R388, R392, R397). -/

namespace Sys2Proof.Machine

theorem linkMoved_event {s : State} {n : Nat} {up : Bool} {speed : Nat} {anDone anFail : Bool} (h : (s.eth n).link ≠ linkAfter s n up anDone anFail) :
    bit ((linkMoved s n up speed anDone anFail).page (pETH n)).stat 0 = true := raiseIf_latched _ _ _ (by decide) (by simpa using h)

/-- ETH_LINK_CHANGE: the link the mode gives, told of when it changed, and a ring frame cut short written back (R388). -/
theorem exec_ethLinkChange {s : State} (hs : s.supply.held = false) (n : Fin 2) (u dn fl : Bool) (sp : Fin 4) (mid : Nat) :
    ∃ t l, exec (.ethLinkChange n u sp dn fl mid) s = .next t ∧ l = linkAfter s n.val u dn fl ∧
      (t.eth n.val).link = l ∧ (t.eth n.val).anDone = (ethNegotiates s n.val && dn) ∧ (t.eth n.val).anFail = (fl && (ethNegotiates s n.val || sgmii s n.val)) ∧
      (t.eth n.val).speed = (if sgmii s n.val then min 2 sp.val else if (s.lane (8 + n.val)).rate = 1 then 3 else 2) ∧
      ((s.eth n.val).link ≠ l → bit (t.page (pETH n.val)).stat 0 = true) ∧ ((s.eth n.val).link = l → t.page (pETH n.val) = s.page (pETH n.val)) ∧
      ((s.eth n.val).link = false ∨ l = true ∨ mid ≠ 1 ∨ ringReady s n.val = false → t.sram = s.sram ∧ (t.eth n.val).txHead = (s.eth n.val).txHead) ∧
      ((s.eth n.val).link = true → l = false → mid = 1 → ringReady s n.val = true → (t.eth n.val).txHead = ((s.eth n.val).txHead + 1) % txSize s n.val ∧
        bit (t.page (pETH n.val)).stat 3 = true) := by
  have hx : exec (.ethLinkChange n u sp dn fl mid) s = .next (ethLink n.val u sp.val dn fl mid s) := act_live hs
  refine ⟨_, _, hx, rfl, ?_⟩
  by_cases hst : (s.eth n.val).link = false ∨ linkAfter s n.val u dn fl = true
  · rw [ethLink_stays hst, linkMoved_eth]
    refine ⟨rfl, rfl, rfl, rfl, linkMoved_event, fun h => ?_, fun _ => ⟨linkMoved_sram, rfl⟩, fun hl hd => absurd hst (by simp [hl, hd])⟩
    simp [linkMoved, raiseIf, h]
  · obtain ⟨hl, hd⟩ : (s.eth n.val).link = true ∧ linkAfter s n.val u dn fl = false := by simpa using hst
    have hne : (s.eth n.val).link ≠ linkAfter s n.val u dn fl := by simp [hl, hd]
    rw [ethLink_falls hl hd rfl]
    by_cases hmid : (decide (mid = 1) && ringReady s n.val) = true
    · simp only [if_pos hmid, setEth_page, State.eth_setEth, if_true, ethErr_eth, txBack_eth, linkMoved_eth, linkMoved_txSize]
      have hcut : mid = 1 ∧ ringReady s n.val = true := by simpa using hmid
      refine ⟨rfl, rfl, rfl, rfl, fun _ => ?_, fun h => absurd h hne, fun h => ?_, fun _ _ _ _ => ⟨rfl, ethErr_event ..⟩⟩
      · exact raise_stat_mono _ _ _ _ _ (by rw [setEth_page]; exact txBack_latched _ _ _ _ _ (linkMoved_event hne))
      · simp [hl, hd, hcut] at h
    · simp only [if_neg hmid, setEth_page, State.eth_setEth, if_true, linkMoved_eth, State.setEth_fields]
      refine ⟨rfl, rfl, rfl, rfl, linkMoved_event, fun h => absurd h hne, fun _ => ⟨linkMoved_sram, rfl⟩, fun _ _ h1 h2 => absurd hmid (by simp [h1, h2])⟩

/-! ### Tails (R392) -/

theorem regEffect_eth (src o : Nat) (v : Word) (s : State) (n : Fin 2) (ho : o < 0x1000) :
    regEffect src ((0x19 + n.val) * 0x1000 + o) v s = wETH src n.val o v s := by
  have hblock : blockOf (0x19 + n.val) = some 0x19 := by revert n; decide
  rw [regEffect, show ((0x19 + n.val) * 0x1000 + o) / 0x1000 = 0x19 + n.val by omega, show ((0x19 + n.val) * 0x1000 + o) % 0x1000 = o by omega, hblock]
  exact congrArg (wETH src · o v s) (Nat.add_sub_cancel_left _ _)

/-- Descriptors up to a TAIL apart from the HEAD. -/
theorem handed_apart {s : State} {desc head tail size : Nat} (hpos : 0 < size) (h : tail % size ≠ head % size) :
    handed s desc head tail size = (tail % size + size - head % size) % size := by
  refine if_neg fun h0 => h ?_
  have htail := Nat.mod_lt tail hpos
  have hhead := Nat.mod_lt head hpos
  obtain hlt | hge := Nat.lt_or_ge (tail % size) (head % size)
  · rw [Nat.mod_eq_of_lt (by omega)] at h0
    omega
  · rw [show tail % size + size - head % size = tail % size - head % size + size by omega, Nat.add_mod_right, Nat.mod_eq_of_lt (by omega)] at h0
    omega

/-- A TAIL that meets the HEAD hands over all or none. -/
theorem handed_meet {s : State} {desc head tail size : Nat} (h : tail % size = head % size) :
    handed s desc head tail size = if bit (s.sramW (desc + 4)) 31 then size else 0 :=
  if_pos (by rw [h, Nat.add_sub_cancel_left, Nat.mod_self])

theorem handed_setRw (s : State) (a : Nat) (w : Word) (desc head tail size : Nat) : handed (s.setRw a w) desc head tail size = handed s desc head tail size := rfl

theorem ringSz_pos (v : Nat) : 0 < ringSz v := by unfold ringSz; omega

theorem fld_tail (v : Word) : fld (v &&& 0xFF#32) 7 0 = fld v 7 0 := fld_and_in v _ 7 0 (by decide)

section
variable {s : State} {src : Src} {n : Fin 2} {v : Word}

theorem exec_ethTxTailWrite (h : s.reaches ((0x19 + n.val) * 0x1000 + 0x118)) : ∃ t, exec (.ethTxTailWrite src n v) s = .next t ∧ ethTxTail_TAIL t n.val = fld v 7 0 ∧ t.sram = s.sram ∧
    (t.eth n.val).txHead = (s.eth n.val).txHead ∧ (t.eth n.val).txGiven = handed s (txDesc s n.val) (s.eth n.val).txHead (fld v 7 0) (txSize s n.val) := by
  refine ⟨txTail n.val v s, (act_busWrite src.code v h (by omega)).trans (congrArg _ (regEffect_eth src.code 0x118 v s n (by decide))), ?_, ?_⟩
  · simp [txTail, ethTxTail_TAIL, fld_tail]
  · have hbase : ethTxBase_BASE (s.setRw (ethTxTailAt n.val) (v &&& 0xFF#32)) n.val = ethTxBase_BASE s n.val := by simp [ethTxBase_BASE, ethTxBaseAt, ethTxTailAt]
    have hsize : txSize (s.setRw (ethTxTailAt n.val) (v &&& 0xFF#32)) n.val = txSize s n.val := by simp [txSize, ethTxCfg_SIZE, ethTxCfgAt, ethTxTailAt]
    simp [txTail, txDesc, hbase, hsize, ethTxTail_TAIL, fld_tail, handed_setRw]

theorem exec_ethRxTailWrite (h : s.reaches ((0x19 + n.val) * 0x1000 + 0x128)) : ∃ t, exec (.ethRxTailWrite src n v) s = .next t ∧ ethRxTail_TAIL t n.val = fld v 7 0 ∧ t.sram = s.sram ∧
    (t.eth n.val).rxHead = (s.eth n.val).rxHead ∧ (t.eth n.val).rxGiven = handed s (rxDesc s n.val) (s.eth n.val).rxHead (fld v 7 0) (rxSize s n.val) := by
  refine ⟨rxTail n.val v s, (act_busWrite src.code v h (by omega)).trans (congrArg _ (regEffect_eth src.code 0x128 v s n (by decide))), ?_, ?_⟩
  · simp [rxTail, ethRxTail_TAIL, fld_tail]
  · have hbase : ethRxBase_BASE (s.setRw (ethRxTailAt n.val) (v &&& 0xFF#32)) n.val = ethRxBase_BASE s n.val := by simp [ethRxBase_BASE, ethRxBaseAt, ethRxTailAt]
    have hsize : rxSize (s.setRw (ethRxTailAt n.val) (v &&& 0xFF#32)) n.val = rxSize s n.val := by simp [rxSize, ethRxCfg_SIZE, ethRxCfgAt, ethRxTailAt]
    simp [rxTail, rxDesc, hbase, hsize, ethRxTail_TAIL, fld_tail, handed_setRw]

/-! ### Transmit timestamps read (R397) -/

theorem readEffect_ethTxts (a : Nat) : readEffect a ((0x19 + n.val) * 0x1000 + 0x140) s = txtsRead n.val s := by
  have hn := n.isLt
  have hp : ((0x19 + n.val) * 0x1000 + 0x140) / 0x1000 = 0x19 + n.val := by omega
  have ho : ((0x19 + n.val) * 0x1000 + 0x140) % 0x1000 = 0x140 := by omega
  have hax {q : Prop} : ¬(0x19 + n.val = pAXIS ∧ q) := fun h => absurd h.1 (by unfold pAXIS; omega)
  have htiu {q : Prop} : ¬(0x19 + n.val = pTIU ∧ q) := fun h => absurd h.1 (by unfold pTIU; omega)
  unfold readEffect
  simp only [hp, ho]
  rw [if_neg (by unfold tblDataAt; omega), if_neg (by omega), if_neg (by omega), if_neg hax, if_neg hax, if_neg (by omega), if_neg (by omega), if_neg htiu,
    if_neg (by omega), if_neg (by omega), if_neg (by omega), if_neg (by omega), if_neg (by omega), if_neg (by omega), if_pos ⟨by omega, trivial⟩, Nat.add_sub_cancel_left]

theorem exec_ethTxtsW0Read (h : s.reaches ((0x19 + n.val) * 0x1000 + 0x140)) : exec (.ethTxtsW0Read src n) s = .next (txtsRead n.val s) :=
  (act_live h.1).trans (congrArg _ ((busRead_reg src.code _ s h.2).trans (readEffect_ethTxts src.code)))

theorem txtsRead_oldest {m : Nat} {e : EthTs} {q : List EthTs} (h : (s.eth m).tsq = e :: q) : txtsRead m s =
    (s.setEth m { s.eth m with tsq := q, tsLat := e.t }).answer (word (2 ^ 31 + (if e.ovf then 2 ^ 30 else 0) + e.id)) := by
  simp only [txtsRead, h]

theorem txtsRead_empty {m : Nat} (h : (s.eth m).tsq = []) : txtsRead m s = s.answer 0 := by
  simp only [txtsRead, h]

end

end Sys2Proof.Machine
end

section
/-! PROOFS. Frames received on an Ethernet port: dropped for a fault, filtered, honoured as a PAUSE, or stored in the ring (R389, R393 to R395). -/

namespace Sys2Proof.Machine

/-! ### Words and bytes put below the tables -/

section
variable (a : Nat) (w : Word) (s : State)

theorem putDesc_plain (h : a + 4 ≤ tblBase) : putDesc a w s = plainPut a (wsBytes [w]) s := sramPut_below a _ s h

theorem putDesc_sramW (h : a + 4 ≤ tblBase) : (putDesc a w s).sramW a = w := by rw [putDesc_plain a w s h, plainPut_sramW]

theorem putDesc_sramB_other {x : Nat} (h : a + 4 ≤ tblBase) (hx : x < a ∨ a + 4 ≤ x) : (putDesc a w s).sramB x = s.sramB x := by
  rw [putDesc_plain a w s h, plainPut_sramB]
  exact if_neg fun ⟨h1, h2⟩ => by
    have hlen : (wsBytes [w]).length = 4 := rfl
    omega

theorem putDesc_sramW_other {o : Nat} (h : a + 4 ≤ tblBase) (ho : o + 4 ≤ a ∨ a + 4 ≤ o) : (putDesc a w s).sramW o = s.sramW o := by
  simp only [State.sramW]
  rw [putDesc_sramB_other a w s h (by omega), putDesc_sramB_other a w s h (by omega), putDesc_sramB_other a w s h (by omega),
    putDesc_sramB_other a w s h (by omega)]

end

/-! ### A frame stored (R393) -/

/-- Whether a frame's timestamp goes with it (R394). -/
def rxStamped (s : State) (n : Nat) (f : List Byte) : Bool := decide (2 ≤ ethCfg_RX_TS s n) || (decide (ethCfg_RX_TS s n = 1) && (ptpEvent f).isSome)

/-- The words of a receive timestamp, put behind a descriptor at `a`. -/
def putStamp (a t : Nat) (s : State) : State :=
  putDesc (a + 20) (word (t % 65536)) (putDesc (a + 16) (word (tsNs t)) (putDesc (a + 12) (word (tsSec t / 2 ^ 32 % 2 ^ 16)) (putDesc (a + 8) (word (tsSec t)) s)))

/-- The status word of a receive descriptor. -/
def rxStatus (stamped ptp : Bool) (len : Nat) : Word := word ((if stamped then 2 ^ 30 else 0) + (if ptp then 2 ^ 29 else 0) + len % 2 ^ 14)

/-- Memory with a frame and its descriptor at `a` written. -/
def rxWritten (n a : Nat) (f : List Byte) (ts : Nat) (s : State) : State :=
  let s1 := sramPut (fld (s.sramW a) 23 0) f s
  let s2 := if rxStamped s n f then putStamp a (rxStamp s n ts) s1 else s1
  putDesc (a + 4) (rxStatus (rxStamped s n f) (ptpEvent f).isSome f.length) (if (ptpEvent f).isSome then putDesc (a + 24) (word (ptpId f)) s2 else s2)

section
variable {s : State} {n : Nat} {f : List Byte} {ts : Nat}

/-- A frame without a descriptor is dropped, counted and told of with its cause. -/
theorem rxStore_drops (h : (s.eth n).rxGiven = 0 ∨ bit (s.sramW (rxDesc s n + 4)) 31 = false ∨ ethRxCfg_RX_BUF s n < f.length) :
    rxStore n f ts s = ethErr n 1 (s.setEth n { s.eth n with rxNobuf := satInc 16 (s.eth n).rxNobuf }) := if_pos (by simpa using h)

theorem rxStore_stores (hg : (s.eth n).rxGiven ≠ 0) (ho : bit (s.sramW (rxDesc s n + 4)) 31 = true) (hb : f.length ≤ ethRxCfg_RX_BUF s n) :
    rxStore n f ts s = ethRaise n 1 ((rxWritten n (rxDesc s n) f ts s).setEth n
      { (rxWritten n (rxDesc s n) f ts s).eth n with rxHead := ((s.eth n).rxHead + 1) % rxSize s n, rxGiven := (s.eth n).rxGiven - 1 }) := by
  refine if_neg ?_
  simp only [ho, not_or]
  exact ⟨hg, by decide, by omega⟩

theorem rxWritten_eth (a : Nat) : (rxWritten n a f ts s).eth n = s.eth n := by
  simp [rxWritten, putStamp, sramPut_eth, apply_ite (State.eth · n)]

/-- What is stored leaves the pause of the port. -/
theorem rxStore_pauseEnd : ((rxStore n f ts s).eth n).pauseEnd = (s.eth n).pauseEnd := by
  by_cases h : (s.eth n).rxGiven = 0 ∨ bit (s.sramW (rxDesc s n + 4)) 31 = false ∨ ethRxCfg_RX_BUF s n < f.length
  · rw [rxStore_drops h, ethErr_eth]
    simp
  · obtain ⟨hg, ho, hb⟩ : (s.eth n).rxGiven ≠ 0 ∧ bit (s.sramW (rxDesc s n + 4)) 31 = true ∧ f.length ≤ ethRxCfg_RX_BUF s n := by simpa using h
    rw [rxStore_stores hg ho hb]
    simp [ethRaise, rxWritten_eth]

/-! ### The bytes of a stored frame -/

theorem putStamp_sramB (a t : Nat) (u : State) {x : Nat} (h : a + 24 ≤ tblBase) (hx : x < a + 8 ∨ a + 24 ≤ x) : (putStamp a t u).sramB x = u.sramB x := by
  unfold putStamp
  rw [putDesc_sramB_other _ _ _ (by omega) (by omega), putDesc_sramB_other _ _ _ (by omega) (by omega), putDesc_sramB_other _ _ _ (by omega) (by omega),
    putDesc_sramB_other _ _ _ (by omega) (by omega)]

theorem putStamp_words (a t : Nat) (u : State) (h : a + 24 ≤ tblBase) : (putStamp a t u).sramW (a + 8) = word (tsSec t) ∧
    (putStamp a t u).sramW (a + 16) = word (tsNs t) ∧ (putStamp a t u).sramW (a + 20) = word (t % 65536) := by
  unfold putStamp
  refine ⟨?_, ?_, putDesc_sramW _ _ _ (by omega)⟩
  · rw [putDesc_sramW_other _ _ _ (by omega) (by omega), putDesc_sramW_other _ _ _ (by omega) (by omega), putDesc_sramW_other _ _ _ (by omega) (by omega),
      putDesc_sramW _ _ _ (by omega)]
  · rw [putDesc_sramW_other _ _ _ (by omega) (by omega), putDesc_sramW _ _ _ (by omega)]

section
variable {a : Nat} (ha : a + 32 ≤ tblBase)
include ha

theorem rxWritten_status : (rxWritten n a f ts s).sramW (a + 4) = rxStatus (rxStamped s n f) (ptpEvent f).isSome f.length := putDesc_sramW _ _ _ (by omega)

/-- Outside the descriptor's words but its first, memory is as the frame's bytes left it. -/
theorem rxWritten_sramB {x : Nat} (hx : x < a + 4 ∨ a + 32 ≤ x) : (rxWritten n a f ts s).sramB x = (sramPut (fld (s.sramW a) 23 0) f s).sramB x := by
  have hstamp : (if rxStamped s n f = true then putStamp a (rxStamp s n ts) (sramPut (fld (s.sramW a) 23 0) f s) else sramPut (fld (s.sramW a) 23 0) f s).sramB x =
      (sramPut (fld (s.sramW a) 23 0) f s).sramB x := by
    split
    · exact putStamp_sramB _ _ _ (by omega) (by omega)
    · rfl
  rw [← hstamp]
  refine (putDesc_sramB_other _ _ _ (by omega) (by omega)).trans ?_
  split
  · exact putDesc_sramB_other _ _ _ (by omega) (by omega)
  · rfl

theorem rxWritten_stamp (h : rxStamped s n f = true) : (rxWritten n a f ts s).sramW (a + 8) = word (tsSec (rxStamp s n ts)) ∧
    (rxWritten n a f ts s).sramW (a + 16) = word (tsNs (rxStamp s n ts)) ∧ (rxWritten n a f ts s).sramW (a + 20) = word (rxStamp s n ts % 65536) := by
  obtain ⟨hsec, hns, hfrac⟩ := putStamp_words a (rxStamp s n ts) (sramPut (fld (s.sramW a) 23 0) f s) (by omega)
  have hkeep {o : Nat} (ho : a + 8 ≤ o) (ho2 : o + 4 ≤ a + 24) :
      (rxWritten n a f ts s).sramW o = (putStamp a (rxStamp s n ts) (sramPut (fld (s.sramW a) 23 0) f s)).sramW o := by
    unfold rxWritten
    dsimp only
    rw [if_pos h, putDesc_sramW_other _ _ _ (by omega) (by omega)]
    split
    · exact putDesc_sramW_other _ _ _ (by omega) (by omega)
    · rfl
  exact ⟨(hkeep (by omega) (by omega)).trans hsec, (hkeep (by omega) (by omega)).trans hns, (hkeep (by omega) (by omega)).trans hfrac⟩

end

/-- The fields of a status word. -/
theorem rxStatus_fields (stamped ptp : Bool) (len : Nat) : bit (rxStatus stamped ptp len) 31 = false ∧ fld (rxStatus stamped ptp len) 13 0 = len % 2 ^ 14 ∧
    bit (rxStatus stamped ptp len) 29 = ptp ∧ bit (rxStatus stamped ptp len) 30 = stamped := by
  have hlen := Nat.mod_lt len (show 0 < 2 ^ 14 by decide)
  have hval : (rxStatus stamped ptp len).toNat = 2 ^ 30 * stamped.toNat + (2 ^ 29 * ptp.toNat + len % 2 ^ 14) := by
    have hs := Bool.toNat_le stamped
    have hp := Bool.toNat_le ptp
    have hw : (rxStatus stamped ptp len).toNat = ((if stamped then 2 ^ 30 else 0) + (if ptp then 2 ^ 29 else 0) + len % 2 ^ 14) % 2 ^ 32 := rfl
    cases stamped <;> cases ptp <;> simp at hw ⊢ <;> omega
  generalize len % 2 ^ 14 = l at hlen hval ⊢
  have hs := Bool.toNat_le stamped
  have hp := Bool.toNat_le ptp
  simp only [bit, fld, nfld, hval]
  refine ⟨?_, ?_, ?_, ?_⟩
  · exact Nat.testBit_lt_two_pow (by omega)
  · rw [Nat.shiftRight_zero]; omega
  · rw [Nat.testBit_eq_decide_div_mod_eq]
    cases ptp <;> simp <;> omega
  · rw [Nat.testBit_eq_decide_div_mod_eq]
    cases stamped <;> simp <;> omega

end

/-! ### What storing a frame leaves -/

section
variable {s : State} {n : Nat} {f : List Byte} {ts : Nat}

/-- A frame that is stored: its bytes, its descriptor, and the ring moved on (R393). -/
theorem rxStore_memory {b a : Nat} (hb : b = fld (s.sramW (rxDesc s n)) 23 0) (ha : a = rxDesc s n) (hg : (s.eth n).rxGiven ≠ 0) (ho : bit (s.sramW (a + 4)) 31 = true)
    (hbuf : f.length ≤ ethRxCfg_RX_BUF s n) (hbt : b + f.length ≤ 0x400000) (hat : a + 32 ≤ 0x400000) (hd : b + f.length ≤ a ∨ a + 32 ≤ b) :
    (∀ i < f.length, (rxStore n f ts s).sramB (b + i) = f.getD i 0) ∧ bit ((rxStore n f ts s).sramW (a + 4)) 31 = false ∧
      fld ((rxStore n f ts s).sramW (a + 4)) 13 0 = f.length % 2 ^ 14 ∧ ((rxStore n f ts s).eth n).rxHead = ((s.eth n).rxHead + 1) % rxSize s n ∧
      bit ((rxStore n f ts s).sramW (a + 4)) 29 = (ptpEvent f).isSome ∧ bit ((rxStore n f ts s).sramW (a + 4)) 30 = rxStamped s n f ∧
      (rxStamped s n f = true → (rxStore n f ts s).sramW (a + 8) = word (tsSec (rxStamp s n ts)) ∧ (rxStore n f ts s).sramW (a + 16) = word (tsNs (rxStamp s n ts)) ∧
        (rxStore n f ts s).sramW (a + 20) = word (rxStamp s n ts % 65536)) ∧
      (∀ x, (x < b ∨ b + f.length ≤ x) → (x < a + 4 ∨ a + 32 ≤ x) → (rxStore n f ts s).sramB x = s.sramB x) ∧ bit ((rxStore n f ts s).page (pETH n)).stat 1 = true := by
  have h8 : tblBase = 0x400000 := rfl
  have hsram : (rxStore n f ts s).sram = (rxWritten n a f ts s).sram := by rw [rxStore_stores hg (ha ▸ ho) hbuf, ha]; simp [ethRaise]
  have hB (x : Nat) : (rxStore n f ts s).sramB x = (rxWritten n a f ts s).sramB x := by simp [State.sramB, hsram]
  have hW (x : Nat) : (rxStore n f ts s).sramW x = (rxWritten n a f ts s).sramW x := by simp [State.sramW, hB]
  have hframe {x : Nat} (hx : x < a + 4 ∨ a + 32 ≤ x) : (rxStore n f ts s).sramB x = if b ≤ x ∧ x < b + f.length then f.getD (x - b) 0 else s.sramB x := by
    rw [hB, rxWritten_sramB (by omega) hx, ha, ← hb, sramPut_below _ _ _ (by omega), plainPut_sramB]
  obtain ⟨hown, hlen, hevent, hstamp⟩ := rxStatus_fields (rxStamped s n f) (ptpEvent f).isSome f.length
  rw [hW (a + 4), hW (a + 8), hW (a + 16), hW (a + 20), rxWritten_status (by omega)]
  refine ⟨fun i hi => ?_, hown, hlen, ?_, hevent, hstamp, rxWritten_stamp (by omega), fun x hx1 hx2 => ?_, ?_⟩
  · rw [hframe (by omega), if_pos (by omega), Nat.add_sub_cancel_left]
  · rw [rxStore_stores hg (ha ▸ ho) hbuf]
    simp [ethRaise]
  · rw [hframe hx2, if_neg (by omega)]
  · rw [rxStore_stores hg (ha ▸ ho) hbuf]
    exact raise_latched _ _ _ (by decide)

end

/-! ### A frame at the port (R389) -/

/-- Whether a frame is a PAUSE that a port honours. -/
def pauses (s : State) (n : Nat) (f : List Byte) (fcs : Word) : Bool :=
  (isPause f && decide (ethCfg_PAUSE_EN s n = 1) && decide (fcs = ethFcs f) && decide (60 ≤ f.length)) && decide (ethCfg_EN s n = 1) && (s.eth n).link

/-- The hub once such a frame's pause began. -/
def paused (s : State) (n : Nat) (f : List Byte) (fcs : Word) : State :=
  if pauses s n f fcs then s.setEth n { s.eth n with pauseEnd := s.clk + fb16 f 16 * 512 * 1000 / ethMbps (s.eth n).speed } else s

section
variable {s : State} {n : Nat} {f : List Byte} {fcs : Word} {ts : Nat}

/-- A pause changes of the hub the port's alone, and of the port only its end. -/
theorem paused_cases : paused s n f fcs = s ∨ ∃ e, paused s n f fcs = s.setEth n { s.eth n with pauseEnd := e } := by
  unfold paused
  split
  · exact .inr ⟨_, rfl⟩
  · exact .inl rfl

theorem paused_not (h : pauses s n f fcs = false) : paused s n f fcs = s := if_neg (by simp [h])

theorem paused_eth : ∃ e, (paused s n f fcs).eth n = { s.eth n with pauseEnd := e } := by
  obtain h | ⟨e, h⟩ := paused_cases (s := s) (n := n) (f := f) (fcs := fcs)
  · exact ⟨(s.eth n).pauseEnd, by rw [h]⟩
  · exact ⟨e, by rw [h]; simp⟩

theorem paused_sram : (paused s n f fcs).sram = s.sram := by
  obtain h | ⟨e, h⟩ := paused_cases (s := s) (n := n) (f := f) (fcs := fcs) <;> rw [h]
  simp

theorem ethRx_off (h : ethCfg_EN s n = 0 ∨ (s.eth n).link = false) : ethRx n f fcs ts s = s := by
  have hp : pauses s n f fcs = false := by obtain h | h := h <;> simp [pauses, h]
  have hx : ethRx n f fcs ts s = if ethCfg_EN (paused s n f fcs) n = 1 ∧ ((paused s n f fcs).eth n).link then _ else paused s n f fcs := rfl
  rw [hx, paused_not hp]
  exact if_neg fun ⟨h1, h2⟩ => by obtain h | h := h <;> simp_all

theorem paused_cfg : ethCfg_EN (paused s n f fcs) n = ethCfg_EN s n ∧ ethCfg_PROMISC (paused s n f fcs) n = ethCfg_PROMISC s n ∧
    ethLimit (paused s n f fcs) n f = ethLimit s n f ∧ ethMine (paused s n f fcs) n f = ethMine s n f := by
  obtain h | ⟨e, h⟩ := paused_cases (s := s) (n := n) (f := f) (fcs := fcs) <;> rw [h] <;> exact ⟨rfl, rfl, rfl, rfl⟩

/-- The receive ring during a pause is as it was before. -/
theorem paused_ring : rxDesc (paused s n f fcs) n = rxDesc s n ∧ rxSize (paused s n f fcs) n = rxSize s n ∧ ethRxCfg_RX_BUF (paused s n f fcs) n = ethRxCfg_RX_BUF s n ∧
    rxStamped (paused s n f fcs) n f = rxStamped s n f ∧ ethCfg_RX_TS (paused s n f fcs) n = ethCfg_RX_TS s n ∧ rxStamp (paused s n f fcs) n ts = rxStamp s n ts := by
  obtain h | ⟨e, h⟩ := paused_cases (s := s) (n := n) (f := f) (fcs := fcs) <;> rw [h]
  · exact ⟨rfl, rfl, rfl, rfl, rfl, rfl⟩
  · have hdesc : rxDesc (s.setEth n { s.eth n with pauseEnd := e }) n = rxDesc s n := by simp [rxDesc, rxSize, ethRxBase_BASE, ethRxCfg_SIZE]
    exact ⟨hdesc, rfl, rfl, rfl, rfl, rfl⟩

theorem paused_sramB (x : Nat) : (paused s n f fcs).sramB x = s.sramB x := by simp [State.sramB, paused_sram]

theorem paused_sramW (x : Nat) : (paused s n f fcs).sramW x = s.sramW x := by simp [State.sramW, paused_sramB]

section
variable (hen : ethCfg_EN s n = 1) (hl : (s.eth n).link = true)
include hen hl

theorem ethRx_live : ethRx n f fcs ts s =
    if fcs ≠ ethFcs f then ethErr n 3 ((paused s n f fcs).setEth n { (paused s n f fcs).eth n with rxFcs := satInc 8 ((paused s n f fcs).eth n).rxFcs })
    else if f.length + 4 < 64 ∨ ethLimit s n f < f.length + 4 then
      ethErr n 3 ((paused s n f fcs).setEth n { (paused s n f fcs).eth n with rxSize := satInc 8 ((paused s n f fcs).eth n).rxSize })
    else if ethCfg_PROMISC s n = 1 ∨ ethMine s n f then rxStore n f ts (paused s n f fcs)
    else paused s n f fcs := by
  obtain ⟨hpen, hprom, hlim, hmine⟩ := paused_cfg (s := s) (n := n) (f := f) (fcs := fcs)
  obtain ⟨e, he⟩ := paused_eth (s := s) (n := n) (f := f) (fcs := fcs)
  have hlive : ethCfg_EN (paused s n f fcs) n = 1 ∧ ((paused s n f fcs).eth n).link = true := ⟨hpen.trans hen, by rw [he]; exact hl⟩
  rw [← hprom, ← hlim, ← hmine]
  exact if_pos hlive

theorem ethRx_badFcs (hf : fcs ≠ ethFcs f) : ethRx n f fcs ts s = ethErr n 3 (s.setEth n { s.eth n with rxFcs := satInc 8 (s.eth n).rxFcs }) := by
  have hp : paused s n f fcs = s := paused_not (by simp [pauses, hf])
  rw [ethRx_live hen hl, if_pos hf, hp]

theorem ethRx_badLength (hf : fcs = ethFcs f) (h : f.length + 4 < 64 ∨ ethLimit s n f < f.length + 4) :
    ethRx n f fcs ts s = ethErr n 3 ((paused s n f fcs).setEth n { (paused s n f fcs).eth n with rxSize := satInc 8 ((paused s n f fcs).eth n).rxSize }) := by
  rw [ethRx_live hen hl, if_neg (not_not.2 hf), if_pos h]

section
variable (hf : fcs = ethFcs f) (h64 : 64 ≤ f.length + 4) (hlim : f.length + 4 ≤ ethLimit s n f)
include hf h64 hlim

theorem ethRx_sound : ethRx n f fcs ts s = if ethCfg_PROMISC s n = 1 ∨ ethMine s n f then rxStore n f ts (paused s n f fcs) else paused s n f fcs := by
  rw [ethRx_live hen hl, if_neg (not_not.2 hf), if_neg (by omega)]

/-- A frame for another address is dropped in silence. -/
theorem ethRx_filtered (hp : ethCfg_PROMISC s n = 0) (hm : ethMine s n f = false) : ethRx n f fcs ts s = paused s n f fcs := by
  rw [ethRx_sound hen hl hf h64 hlim, if_neg (by simp [hp, hm])]

theorem ethRx_taken (h : ethCfg_PROMISC s n = 1 ∨ ethMine s n f = true) : ethRx n f fcs ts s = rxStore n f ts (paused s n f fcs) := by
  rw [ethRx_sound hen hl hf h64 hlim, if_pos h]

/-- A PAUSE frame that is honoured sets the end of the pause, whatever else becomes of it. -/
theorem ethRx_pauses (hi : isPause f = true) (he : ethCfg_PAUSE_EN s n = 1) :
    ((ethRx n f fcs ts s).eth n).pauseEnd = s.clk + fb16 f 16 * 512 * 1000 / ethMbps (s.eth n).speed := by
  have hp : pauses s n f fcs = true := by simp [pauses, hi, he, hf, hen, hl]; omega
  have hend : ((paused s n f fcs).eth n).pauseEnd = s.clk + fb16 f 16 * 512 * 1000 / ethMbps (s.eth n).speed := by rw [paused, if_pos hp]; simp
  rw [ethRx_sound hen hl hf h64 hlim]
  split
  · exact rxStore_pauseEnd.trans hend
  · exact hend

end

end

/-- A frame that finds no descriptor, whether it paused the port or not. -/
theorem rxStore_paused_drops (h : (s.eth n).rxGiven = 0 ∨ bit (s.sramW (rxDesc s n + 4)) 31 = false ∨ ethRxCfg_RX_BUF s n < f.length) :
    ((rxStore n f ts (paused s n f fcs)).eth n).rxNobuf = satInc 16 (s.eth n).rxNobuf ∧ (rxStore n f ts (paused s n f fcs)).sram = s.sram ∧
      ((rxStore n f ts (paused s n f fcs)).eth n).rxHead = (s.eth n).rxHead ∧ bit ((rxStore n f ts (paused s n f fcs)).page (pETH n)).stat 3 = true := by
  obtain ⟨hdesc, -, hbuf, -⟩ := paused_ring (s := s) (n := n) (f := f) (fcs := fcs) (ts := ts)
  obtain ⟨e, he⟩ := paused_eth (s := s) (n := n) (f := f) (fcs := fcs)
  rw [rxStore_drops (by rw [hdesc, paused_sramW, hbuf, he]; exact h), ethErr_sram, ethErr_eth]
  exact ⟨by simp [he], by simp [paused_sram], by simp [he], ethErr_event ..⟩

/-- A frame that is stored, whether it paused the port or not. -/
theorem rxStore_paused_memory {b a : Nat} (hb : b = fld (s.sramW (rxDesc s n)) 23 0) (ha : a = rxDesc s n) (hg : (s.eth n).rxGiven ≠ 0) (ho : bit (s.sramW (a + 4)) 31 = true)
    (hbuf : f.length ≤ ethRxCfg_RX_BUF s n) (hbt : b + f.length ≤ 0x400000) (hat : a + 32 ≤ 0x400000) (hd : b + f.length ≤ a ∨ a + 32 ≤ b) :
    ∃ t, t = rxStore n f ts (paused s n f fcs) ∧ (∀ i < f.length, t.sramB (b + i) = f.getD i 0) ∧ bit (t.sramW (a + 4)) 31 = false ∧
      fld (t.sramW (a + 4)) 13 0 = f.length % 2 ^ 14 ∧ (t.eth n).rxHead = ((s.eth n).rxHead + 1) % rxSize s n ∧
      bit (t.sramW (a + 4)) 29 = (ptpEvent f).isSome ∧ bit (t.sramW (a + 4)) 30 = rxStamped s n f ∧
      (rxStamped s n f = true → t.sramW (a + 8) = word (tsSec (rxStamp s n ts)) ∧ t.sramW (a + 16) = word (tsNs (rxStamp s n ts)) ∧
        t.sramW (a + 20) = word (rxStamp s n ts % 65536)) ∧
      (∀ x, (x < b ∨ b + f.length ≤ x) → (x < a + 4 ∨ a + 32 ≤ x) → t.sramB x = s.sramB x) ∧ bit (t.page (pETH n)).stat 1 = true := by
  obtain ⟨hdesc, hsize, hpbuf, hstamped, -, hstamp⟩ := paused_ring (s := s) (n := n) (f := f) (fcs := fcs) (ts := ts)
  obtain ⟨e, he⟩ := paused_eth (s := s) (n := n) (f := f) (fcs := fcs)
  have hmem := rxStore_memory (s := paused s n f fcs) (ts := ts) (hb.trans (by rw [hdesc, paused_sramW])) (ha.trans hdesc.symm) (by rw [he]; exact hg)
    (by rw [paused_sramW]; exact ho) (by rw [hpbuf]; exact hbuf) hbt hat hd
  simp only [hsize, hstamped, hstamp, paused_sramB, he] at hmem
  exact ⟨_, rfl, hmem⟩

end

end Sys2Proof.Machine
end

section
/-! PROOFS. Frames sent from an Ethernet port: the ring's, with their transmit timestamps, and the streams', fragment by fragment (R390 to R392, R396 to R398). -/

namespace Sys2Proof.Machine

section
variable {s : State} {n ts : Nat}

/-! ### Which frame leaves (R391) -/

theorem ethTx_shut (h : ethCfg_EN s n = 0 ∨ (s.eth n).link = false ∨ s.clk < (s.eth n).pauseEnd) : ethTx n ts s = s :=
  if_neg fun ⟨hen, hl, hp⟩ => by
    obtain h | h | h := h
    · omega
    · simp [h] at hl
    · omega

theorem ethTx_idle (hr : ringReady s n = false) (hk : strReady s n = none) : ethTx n ts s = s := by
  unfold ethTx
  dsimp only
  rw [hr, hk]
  exact ite_self s

section
variable (hen : ethCfg_EN s n = 1) (hl : (s.eth n).link = true) (hp : (s.eth n).pauseEnd ≤ s.clk)
include hen hl hp

theorem ethTx_ring (hr : ringReady s n = true) (h : strReady s n = none ∨ bit (s.sramW (txDesc s n + 4)) 16 = true ∨ (s.eth n).strLast = true) :
    ethTx n ts s = txRing n ts s := by
  unfold ethTx
  dsimp only
  rw [if_pos ⟨hen, hl, hp⟩, hr]
  cases hk : strReady s n with
  | none => rfl
  | some k => exact if_pos (h.resolve_left (by simp [hk]))

theorem ethTx_stream {k : Nat} (hk : strReady s n = some k) (h : ringReady s n = false ∨ (bit (s.sramW (txDesc s n + 4)) 16 = false ∧ (s.eth n).strLast = false)) :
    ethTx n ts s = txStream n k s := by
  unfold ethTx
  dsimp only
  rw [if_pos ⟨hen, hl, hp⟩, hk]
  cases hr : ringReady s n with
  | false => rfl
  | true =>
    obtain ⟨h16, hlast⟩ := h.resolve_left (by simp [hr])
    exact if_neg (by simp [h16, hlast])

end

/-! ### A ring frame (R392, R396, R397) -/

/-- The frame at the ring's HEAD: its length, its bytes, and those that leave at `ts`. -/
def ringLen (s : State) (n : Nat) : Nat := fld (s.sramW (txDesc s n + 4)) 13 0
def ringFrame (s : State) (n : Nat) : List Byte := sramBytes s (fld (s.sramW (txDesc s n)) 23 0) (ringLen s n)
def ringSent (s : State) (n ts : Nat) : List Byte := if bit (s.sramW (txDesc s n + 4)) 17 then oneStep (ringFrame s n) (txStamp s n ts) else ringFrame s n

theorem tsQueue_room {id t : Nat} (h : (s.eth n).tsq.length < 16) :
    tsQueue n id t s = (false, ethRaise n 2 (s.setEth n { s.eth n with tsq := (s.eth n).tsq ++ [⟨id, (s.eth n).tsOvf, t⟩], tsOvf := false })) := if_neg (by omega)

theorem tsQueue_full {id t : Nat} (h : 16 ≤ (s.eth n).tsq.length) :
    tsQueue n id t s = (true, ethErr n 0 (s.setEth n { s.eth n with tsDrop := satInc 16 (s.eth n).tsDrop, tsOvf := true })) := if_pos h

theorem txSize_of_regs {t : State} (h : t.regs = s.regs) : txSize t n = txSize s n := by simp only [txSize, ethTxCfg_SIZE, rw_of_regs h]

/-- The port with its ring moved on by one descriptor. -/
def EthSt.ringOn (x : EthSt) (size : Nat) : EthSt := { x with txHead := (x.txHead + 1) % size, txGiven := x.txGiven - 1 }

theorem txBack_ringOn {t : State} (id : Nat) (d e : Bool) (h : t.regs = s.regs) : (txBack n id d e t).eth n = (t.eth n).ringOn (txSize s n) := by
  rw [txBack_eth, txSize_of_regs h]
  rfl

/-- A frame of a length that is not allowed is not sent, and its descriptor written back with ERR. -/
theorem txRing_bad (h : ringLen s n < 60 ∨ ethLimit s n (ringFrame s n) < ringLen s n + 4) : txRing n ts s = ethErr n 2 (txBack n 0 false true s) := if_pos h

/-- The hub once the ring's frame is on the ball. -/
def ringOut (s : State) (n ts : Nat) : State := ethOut n (ringSent s n ts) false s

theorem ringOut_eth : (ringOut s n ts).eth n =
    { s.eth n with sent := (ringSent s n ts ++ (List.range 4).map (byteOf (ethFcs (ringSent s n ts)))) :: (s.eth n).sent, strLast := false } := by simp [ringOut, ethOut]

theorem ringOut_regs : (ringOut s n ts).regs = s.regs := rfl

section
variable (h60 : 60 ≤ ringLen s n) (hlim : ringLen s n + 4 ≤ ethLimit s n (ringFrame s n))
include h60 hlim

theorem txRing_sends : txRing n ts s =
    if bit (s.sramW (txDesc s n + 4)) 16 then
      txBack n (ptpId (ringFrame s n)) (tsQueue n (ptpId (ringFrame s n)) (txStamp s n ts) (ringOut s n ts)).1 false
        (tsQueue n (ptpId (ringFrame s n)) (txStamp s n ts) (ringOut s n ts)).2
    else txBack n 0 false false (ringOut s n ts) := if_neg (not_or.2 ⟨Nat.not_lt.2 h60, Nat.not_lt.2 hlim⟩)

/-- Without TS_REQ the frame leaves and its descriptor goes back. -/
theorem txRing_plain (h16 : bit (s.sramW (txDesc s n + 4)) 16 = false) : (txRing n ts s).eth n = ((ringOut s n ts).eth n).ringOn (txSize s n) := by
  rw [txRing_sends h60 hlim, if_neg (by simp [h16]), txBack_ringOn _ _ _ ringOut_regs]

/-- With TS_REQ its transmit timestamp is queued. -/
theorem txRing_stamped (h16 : bit (s.sramW (txDesc s n + 4)) 16 = true) (hq : (s.eth n).tsq.length < 16) :
    (txRing n ts s).eth n = { ((ringOut s n ts).eth n).ringOn (txSize s n) with
      tsq := (s.eth n).tsq ++ [⟨ptpId (ringFrame s n), (s.eth n).tsOvf, txStamp s n ts⟩], tsOvf := false } ∧
      bit ((txRing n ts s).page (pETH n)).stat 2 = true := by
  rw [txRing_sends h60 hlim, if_pos h16, tsQueue_room (by rw [ringOut_eth]; exact hq)]
  refine ⟨?_, txBack_latched _ _ _ _ _ (raise_latched _ _ _ (by decide))⟩
  rw [txBack_ringOn (s := s) _ _ _ (by simp [ethRaise, ringOut_regs])]
  simp [ethRaise, ringOut_eth, EthSt.ringOn]

/-- With the queue full the timestamp is dropped, counted and told of. -/
theorem txRing_dropped (h16 : bit (s.sramW (txDesc s n + 4)) 16 = true) (hq : 16 ≤ (s.eth n).tsq.length) :
    (txRing n ts s).eth n = { ((ringOut s n ts).eth n).ringOn (txSize s n) with
      tsDrop := satInc 16 (s.eth n).tsDrop, tsOvf := true, cause := (s.eth n).cause ||| 2 ^ 0 } ∧ bit ((txRing n ts s).page (pETH n)).stat 3 = true := by
  rw [txRing_sends h60 hlim, if_pos h16, tsQueue_full (by rw [ringOut_eth]; exact hq)]
  refine ⟨?_, txBack_latched _ _ _ _ _ (ethErr_event ..)⟩
  rw [txBack_ringOn (s := s) _ _ _ (by simp [ethErr, ethRaise, ringOut_regs]), ethErr_eth]
  simp [ringOut_eth, EthSt.ringOn]

/-- The frame is on the ball, its FCS behind it. -/
theorem txRing_out : ((txRing n ts s).eth n).sent = (ringSent s n ts ++ (List.range 4).map (byteOf (ethFcs (ringSent s n ts)))) :: (s.eth n).sent ∧
    ((txRing n ts s).eth n).strLast = false := by
  cases h16 : bit (s.sramW (txDesc s n + 4)) 16 with
  | false =>
    rw [txRing_plain h60 hlim h16, ringOut_eth]
    exact ⟨rfl, rfl⟩
  | true =>
    by_cases hq : (s.eth n).tsq.length < 16
    · rw [(txRing_stamped h60 hlim h16 hq).1, ringOut_eth]
      exact ⟨rfl, rfl⟩
    · rw [(txRing_dropped h60 hlim h16 (by omega)).1, ringOut_eth]
      exact ⟨rfl, rfl⟩

end

/-- Whatever becomes of the frame, the ring moves on by its descriptor. -/
theorem txRing_moves : ((txRing n ts s).eth n).txHead = ((s.eth n).txHead + 1) % txSize s n ∧ ((txRing n ts s).eth n).txGiven = (s.eth n).txGiven - 1 := by
  by_cases hbad : ringLen s n < 60 ∨ ethLimit s n (ringFrame s n) < ringLen s n + 4
  · rw [txRing_bad hbad, ethErr_eth, txBack_eth]
    exact ⟨rfl, rfl⟩
  · obtain ⟨h60, hlim⟩ : 60 ≤ ringLen s n ∧ ringLen s n + 4 ≤ ethLimit s n (ringFrame s n) := by omega
    cases h16 : bit (s.sramW (txDesc s n + 4)) 16 with
    | false =>
      rw [txRing_plain h60 hlim h16, ringOut_eth]
      exact ⟨rfl, rfl⟩
    | true =>
      by_cases hq : (s.eth n).tsq.length < 16
      · rw [(txRing_stamped h60 hlim h16 hq).1, ringOut_eth]
        exact ⟨rfl, rfl⟩
      · rw [(txRing_dropped h60 hlim h16 (by omega)).1, ringOut_eth]
        exact ⟨rfl, rfl⟩

/-! ### A stream's packet, fragment by fragment (R390, R391) -/

/-- Which fragment of the packet under way is next, and how many of its bytes one takes. -/
def fragIndex (s : State) (n : Nat) : Nat := match (s.eth n).cur with | some (_, _, i) => i | none => 0
def fragCap (s : State) (n : Nat) : Nat := if ethCfg_JUMBO s n = 1 then 8996 else 1496

theorem wsBytes_length (ws : List Word) : (wsBytes ws).length = 4 * ws.length := by
  induction ws with
  | nil => rfl
  | cons w ws ih =>
    have hcons : wsBytes (w :: ws) = (List.range 4).map (byteOf w) ++ wsBytes ws := rfl
    rw [hcons, List.length_append, ih, List.length_map, List.length_range, List.length_cons]
    omega

/-- The hub once a stream's packet is sent to its end. -/
def pktSent (n k q : Nat) (s : State) : State :=
  let t := modPkt k q (fun p => { p with isRead := true }) (s.setStr k { s.str k with reading := none })
  t.setEth n { t.eth n with cur := none, lastStr := k }

/-- A stream's packet under way gives its next fragment; the last one ends it. -/
theorem txStream_sends {k q r : Nat} {p : Pkt} {ws : List Word} (hrd : (s.str k).reading = some (q, r)) (hp : (s.str k).pkts.find? (fun p => decide (p.pseq = q)) = some p)
    (hd : deliverPkt s k p = some ws) : ∃ f u, u = ethOut n f true s ∧ txStream n k s =
      if 4 * ws.length ≤ (fragIndex s n + 1) * fragCap s n then pktSent n k q u else u.setEth n { u.eth n with cur := some (k, q, fragIndex s n + 1) } := by
  have hbegun : (if (s.str k).reading.isNone then beginPkt k ((s.str k).pkts.length) s else s) = s := if_neg (by simp [hrd])
  unfold txStream
  dsimp only
  rw [hbegun]
  simp only [hrd, hp, hd]
  rw [← wsBytes_length]
  exact ⟨_, _, rfl, ite_congr (propext decide_eq_true_iff) (fun _ => rfl) (fun _ => rfl)⟩

/-- A stream's fragment leaves the ring, and the packet ends with its last one. -/
theorem txStream_port {k q r : Nat} {p : Pkt} {ws : List Word} (hrd : (s.str k).reading = some (q, r)) (hp : (s.str k).pkts.find? (fun p => decide (p.pseq = q)) = some p)
    (hd : deliverPkt s k p = some ws) : ∃ f, ((txStream n k s).eth n).sent = f :: (s.eth n).sent ∧ ((txStream n k s).eth n).strLast = true ∧
      ((txStream n k s).eth n).txHead = (s.eth n).txHead ∧
      (4 * ws.length ≤ (fragIndex s n + 1) * fragCap s n →
        ((txStream n k s).eth n).cur = none ∧ ((txStream n k s).eth n).lastStr = k ∧ ((txStream n k s).str k).reading = none) ∧
      ((fragIndex s n + 1) * fragCap s n < 4 * ws.length → ((txStream n k s).eth n).cur = some (k, q, fragIndex s n + 1)) := by
  obtain ⟨f, u, rfl, hx⟩ := txStream_sends (n := n) hrd hp hd
  by_cases hlast : 4 * ws.length ≤ (fragIndex s n + 1) * fragCap s n
  · rw [hx, if_pos hlast]
    refine ⟨f ++ (List.range 4).map (byteOf (ethFcs f)), ?_, ?_, ?_, fun _ => ?_, fun h => absurd hlast (Nat.not_le.2 h)⟩ <;> simp [pktSent, modPkt, ethOut]
  · rw [hx, if_neg hlast]
    refine ⟨f ++ (List.range 4).map (byteOf (ethFcs f)), ?_, ?_, ?_, fun h => absurd h hlast, fun _ => ?_⟩ <;> simp [ethOut]

end

end Sys2Proof.Machine
end

section
/-! PROOFS. The Ethernet ports (R388 to R398). -/

namespace Sys2Proof.Machine

section
variable {s : State} {n : Fin 2} (hs : s.supply.held = false)
include hs

theorem exec_ethFrameRx {f : List Byte} {fcs : Word} {ts : Nat} : exec (.ethFrameRx n f fcs ts) s = .next (ethRx n.val f fcs ts s) := act_live hs

theorem exec_ethFrameTx {ts : Nat} : exec (.ethFrameTx n ts) s = .next (ethTx n.val ts s) := act_live hs

/-- A frame taken on a live port: dropped with its cause, or stored (R393). -/
theorem exec_ethFrameRx_taken {f : List Byte} {fcs : Word} {ts : Nat} (hen : ethCfg_EN s n.val = 1) (hl : (s.eth n.val).link = true) (hf : fcs = ethFcs f)
    (h64 : 64 ≤ f.length + 4) (hlim : f.length + 4 ≤ ethLimit s n.val f) (h : ethCfg_PROMISC s n.val = 1 ∨ ethMine s n.val f = true) :
    exec (.ethFrameRx n f fcs ts) s = .next (rxStore n.val f ts (paused s n.val f fcs)) := exec_eq (exec_ethFrameRx hs) (ethRx_taken hen hl hf h64 hlim h)

end

/-- Settles O49: the link's change, the tails, a frame received, a frame sent and a timestamp read, each by its own lemma. -/
theorem ethernetPorts : Obligations.EthernetPorts := by
  refine ⟨fun s n u dn fl sp mid hs => exec_ethLinkChange hs n u dn fl sp mid, fun s src n v => ⟨fun h => ?_, fun h => ?_⟩, fun s n f fcs ts hs => ⟨fun h => ?_, fun hen hl => ⟨fun hf => ?_, fun hf h => ?_, fun hf h64 hlim =>
    ⟨fun hi he => ?_, fun hno hprom hmine => ?_, fun h => ⟨fun hd => ?_, fun b a hb ha hg ho hbuf hbt hat hd _ => ?_⟩⟩⟩⟩,
    fun s n ts hs => ⟨fun h => ?_, fun hen hl hp => ⟨fun hr h => ?_, fun k q r p ws hk h hrd hpk hd => ?_⟩⟩, fun s src n h => ⟨fun e q hq => ?_, fun hq => ?_⟩⟩
  · obtain ⟨t, hx, htail, hsram, hhead, hgiven⟩ := exec_ethTxTailWrite (src := src) (v := v) h
    exact ⟨t, hx, htail, hsram, hhead, fun hne => hgiven.trans (handed_apart (ringSz_pos _) hne), fun heq => hgiven.trans (handed_meet heq)⟩
  · obtain ⟨t, hx, htail, hsram, hhead, hgiven⟩ := exec_ethRxTailWrite (src := src) (v := v) h
    exact ⟨t, hx, htail, hsram, hhead, fun hne => hgiven.trans (handed_apart (ringSz_pos _) hne), fun heq => hgiven.trans (handed_meet heq)⟩
  · exact exec_eq (exec_ethFrameRx hs) (ethRx_off h)
  · refine ⟨_, exec_eq (exec_ethFrameRx hs) (ethRx_badFcs hen hl hf), ?_, ?_, ?_, ethErr_event ..⟩ <;> simp [ethErr_eth, ethErr_sram]
  · obtain ⟨e, he⟩ := paused_eth (s := s) (n := n.val) (f := f) (fcs := fcs)
    refine ⟨_, exec_eq (exec_ethFrameRx hs) (ethRx_badLength hen hl hf h), ?_, ?_, ethErr_event ..⟩ <;> simp [ethErr_eth, ethErr_sram, he, paused_sram]
  · exact ⟨_, exec_ethFrameRx hs, ethRx_pauses hen hl hf h64 hlim hi he, fun hprom hmine => by rw [ethRx_filtered hen hl hf h64 hlim hprom hmine, paused_sram]⟩
  · have hnot : pauses s n.val f fcs = false := by obtain h | h := hno <;> simp [pauses, h]
    exact exec_eq (exec_ethFrameRx hs) ((ethRx_filtered hen hl hf h64 hlim hprom hmine).trans (paused_not hnot))
  · exact ⟨_, exec_ethFrameRx_taken hs hen hl hf h64 hlim h, rxStore_paused_drops hd⟩
  · obtain ⟨t, ht, hbytes, hown, hlen, hhead, hevent, hstamp, hwords, hrest, htold⟩ := rxStore_paused_memory (fcs := fcs) (ts := ts) hb ha hg ho hbuf hbt hat hd
    exact ⟨t, ht ▸ exec_ethFrameRx_taken hs hen hl hf h64 hlim h, hbytes, hown, hlen, hhead, hevent, hstamp, fun h2 => hwords (by simp [rxStamped, h2]), hrest, htold⟩
  · refine exec_eq (exec_ethFrameTx hs) ?_
    obtain h | h | h | ⟨hr, hk⟩ := h
    · exact ethTx_shut (.inl h)
    · exact ethTx_shut (.inr (.inl h))
    · exact ethTx_shut (.inr (.inr h))
    · exact ethTx_idle hr hk
  · obtain ⟨hhead, hgiven⟩ := txRing_moves (s := s) (n := n.val) (ts := ts)
    refine ⟨_, exec_eq (exec_ethFrameTx hs) (ethTx_ring hen hl hp hr h), hhead, hgiven, ?_⟩
    rintro len f g rfl rfl rfl
    refine ⟨fun h60 hlim => ⟨(txRing_out h60 hlim).1, (txRing_out h60 hlim).2, fun h16 hq => ?_, fun h16 hq => ?_⟩, fun hbad => ?_⟩
    · obtain ⟨heth, htold⟩ := txRing_stamped h60 hlim h16 hq
      exact ⟨congrArg EthSt.tsq heth, congrArg EthSt.tsOvf heth, htold⟩
    · obtain ⟨heth, htold⟩ := txRing_dropped h60 hlim h16 hq
      exact ⟨(congrArg EthSt.tsq heth).trans (by rw [ringOut_eth]; rfl), congrArg EthSt.tsOvf heth, congrArg EthSt.tsDrop heth, htold⟩
    · rw [txRing_bad hbad, ethErr_eth, txBack_eth]
      exact ⟨rfl, ethErr_event ..⟩
  · obtain ⟨f, hsent, hlast, hhead, hend, hmore⟩ := txStream_port (n := n.val) hrd hpk hd
    exact ⟨_, f, exec_eq (exec_ethFrameTx hs) (ethTx_stream hen hl hp hk h), hsent, hlast, hhead, hend, hmore⟩
  · exact ⟨_, exec_eq (exec_ethTxtsW0Read h) (txtsRead_oldest hq), by simp, by simp, rfl⟩
  · exact exec_eq (exec_ethTxtsW0Read h) (txtsRead_empty hq)

end Sys2Proof.Machine
end
